-- ==== Sys2Proof/Word.lean ====
section
/-!
DEFINITION. Word types of the model: 64-bit register words, bytes, and the
little-endian grouping of bytes that every wider object of the part uses (R3, R30).
-/
namespace Sys2Proof

/-- A register word: every register is 64 bits wide (R3). -/
abbrev Word := BitVec 64

/-- A byte of memory. -/
abbrev Byte := BitVec 8

/-- A physical address, 44 bits (R9), kept as a number. -/
abbrev Addr := Nat

end Sys2Proof
end

