-- ==== Sys2Proof/Syntax.lean ====
section
/-!
DEFINITION. The commands the part takes, one constructor for each row of the opcode table,
with the operands that say which unit acts and what arrives from outside.
-/
namespace Sys2Proof

/-- Who makes an access: an application core in M or S mode or in U mode, the PCIe host through port 0,
the debugger's system-bus access, a peer part, or an island (R152, R16, R432). -/
inductive Port where
  | hart (h : Nat)
  | user (h : Nat)
  | pcie
  | debug
  | peer (d : Nat)
  | island (i : Nat)
  deriving DecidableEq, Repr

/-- The data of a register write: all 64 bits, or the high half only (R3, R4). -/
inductive RegData where
  | full (v : Word)
  | high (v : Nat)
  deriving DecidableEq, Repr

/-- Atomic operations on a word of memory. -/
inductive Amo where
  | swap | add | and | or | xor | max | min | maxu | minu
  deriving DecidableEq, Repr

/-- A memory request: a read of so many bytes, a write of bytes, or an atomic on an
aligned 4- or 8-byte word. -/
inductive MemReq where
  | read (len : Nat)
  | write (data : List Byte)
  | amo (op : Amo) (size : Nat) (val : Nat)
  deriving DecidableEq, Repr

/-- What a peer part's COLLECTIVE write says of its COLLECTIVE (R148, R150): the tag, what its member agreed on, the
member list as (part, die) pairs, and the member's rank. [DESIGN CHOICE, log entry 109] -/
structure CollHead where
  tag   : Nat
  cop   : Nat
  red   : Nat
  fmt   : Nat
  elems : Nat
  list  : List (Nat × Nat)
  rank  : Nat
  deriving DecidableEq, Repr

/-- What a peer's request carries beside its bytes: the EP mark and, for a write of a COLLECTIVE, its head. [DESIGN CHOICE, log entry 109] -/
structure PeerMark where
  ep   : Bool
  coll : Option CollHead
  deriving DecidableEq, Repr

/-- A parity error's replays (R260): how many of them fail, and how many of the retry buffer's last commands the stack
has not executed. [DESIGN CHOICE, log entry 56] -/
structure Replays where
  fails : Nat
  left  : Nat
  deriving DecidableEq, Repr

/-- A frame as a hub MAC hands it on: the MAC, its length, the outcome of the FCS, IPv4 header
and UDP checks, and, where it carries a UDP datagram, the low 32 bits of the source address, the
ports and the payload; `room` says whether the ordinary receive path has a buffer. [DESIGN CHOICE, log entry 45] -/
structure EthRx where
  mac   : Nat
  len   : Nat
  fcs   : Bool
  sums  : Bool
  udp   : Bool
  src   : Nat
  sport : Nat
  dport : Nat
  data  : List Byte
  room  : Bool
  deriving DecidableEq, Repr

/-- The head request of a master port as its cache slice sees it (R249, R269): the port, the context and the descriptor
it is made for (at a device-link port `ctx` is the part that sent it, 16 for PCIe), the 128-byte line, the byte mask, and for a write the line's bytes. -/
structure SliceReq where
  port  : Nat
  ctx   : Nat
  num   : Nat
  line  : Nat
  mask  : Nat
  write : Option Nat
  deriving DecidableEq, Repr


/-- A command of the external debug model at a core (R336, R437): halt, resume, single step, an
abstract register write, or a write of one 32-bit word of memory. -/
inductive DbgCmd where
  | halt | resume | step
  | write (reg val : Nat)
  | mem (addr val : Nat)
  deriving DecidableEq, Repr
/-- What a die's STATE message says (Table 13.4). -/
inductive DieReport where
  | run | reset | noclk | retain | off
  deriving DecidableEq, Repr

/-- What a receiver samples of one bundle in a lane test (R289): samples as wire, unit interval and value, those not listed being
what the sequence drives, and whether every edge of the forwarded clock was seen. -/
structure LaneRun where
  bundle  : Nat
  samples : List (Nat × Nat × Bool)
  clock   : Bool
  deriving DecidableEq, Repr

/-- A frame on its way (R283): what its transmitter dealt, and the bits that arrive turned over. -/
structure FrameIn where
  sent  : Nat
  flips : Nat
  deriving DecidableEq, Repr

/-- The CH_CFG and CH_BAR_CFG values a HELLO carries (R309). -/
structure ChCfg where
  expect    : Nat
  primary   : Nat
  secondary : Nat
  priEn     : Bool
  secEn     : Bool
  elig      : Bool
  budget    : Nat
  disc      : Nat := 20
  deriving DecidableEq, Repr

/-- One device link of a part: its port, and the neighbour's ID and port. -/
structure ChAdj where
  port    : Nat
  nbr     : Nat
  nbrPort : Nat
  deriving DecidableEq, Repr

/-- What a Chorus frame says (Table 14.4). [DESIGN CHOICE, log entry 68] -/
inductive ChBody where
  | hello (cfg : ChCfg) (adj : List ChAdj)
  | heartbeat (view members barrier sent : Nat)
  | view (num set : Nat)
  | arrive (num : Nat)
  | probe (sent recv : Nat)
  deriving DecidableEq, Repr

/-- A Chorus frame: its origin, the origin's sequence, and what it says. [DESIGN CHOICE, log entry 68] -/
structure ChFrame where
  origin : Nat
  seq    : Nat
  body   : ChBody
  deriving DecidableEq, Repr

/-- Who waits for a peer part's response (R315): a tile at an address, an engine for a descriptor
of a context, or an application core. -/
inductive PeerReq where
  | tile (t addr : Nat)
  | engine (e ctx num : Nat)
  | hart (h : Nat)
  deriving DecidableEq, Repr


/-- An island whose supply comes up, and the level of its mode strap (R401): 1 selects SPLIT. -/
structure IslUp where
  isl   : Nat
  split : Bool
  deriving DecidableEq, Repr

/-- What a start meets outside the ROM (R289, R401, R409, R411): the straps, whether VIN_MAIN is
inside its window, what the lane tests of each connection find, the instances and HBM sectors a
self-test of step 6a fails with its duration, and the bytes of NVMe namespace 1 where a device is
there. [DESIGN CHOICE, log entry 98] -/
structure BootIn where
  chid     : Nat
  tadpole  : Bool
  bootsel  : Bool
  xspi1s   : Bool
  vin      : Bool
  lanes    : List (Nat × LaneRun)
  fails    : List (Nat × Nat)
  hbm      : List Nat
  us       : Nat
  nvme     : Option Nat
  deriving DecidableEq, Repr


/-- Errors of the cache SRAM that a lookup meets (R252): words corrected and sectors with an uncorrectable one in the line it
finds, and the same in the line it writes back. -/
structure SlcErr where
  ce     : Nat := 0
  ue     : Nat := 0
  backCe : Nat := 0
  backUe : Nat := 0
  deriving DecidableEq, Repr

/-- Bits flip in an 8-byte word of an engine's SRAM, named by its index there: one of them, or two (R53, R102).
[DESIGN CHOICE, log entry 99] -/
structure Flip where
  word   : Nat
  double : Bool
  deriving DecidableEq, Repr

/-- An entry in flight that completes, and the bits that have flipped in the tile's SRAM by then. -/
structure EntryEnd where
  idx   : Nat
  flips : List Flip := []
  deriving DecidableEq, Repr

/-- A set engine at a chunk boundary, and the bits that have flipped in its SRAM by then. -/
structure SetChunk where
  eng   : Nat
  flips : List Flip := []
  deriving DecidableEq, Repr

/-- The commands and events of spec/opcode_table.json, one constructor for each row. -/
inductive Instr where
  /-- REGISTER_WRITE (R6). -/
  | registerWrite (port : Port) (addr : Nat) (data : RegData)
  /-- LOW_HALF_WRITE (R4). -/
  | lowHalfWrite (port : Port) (addr : Nat) (half : Nat)
  /-- ILLEGAL_REGISTER_ACCESS (R3). -/
  | illegalRegisterAccess (port : Port) (addr : Nat) (size : Nat)
  /-- COUNTER_CLR (R433). -/
  | counterClr (port : Port) (addr : Nat)
  /-- GLOBAL_COUNTER_ACCESS (R432). -/
  | globalCounterAccess (port : Port) (addr : Nat) (data : Option Word)
  /-- CORE_MEMORY_ACCESS (R9). -/
  | coreMemoryAccess (hart : Nat) (addr : Nat) (req : MemReq)
  /-- PCIE_INBOUND_REQUEST (R311). -/
  | pcieInboundRequest (addr : Nat) (req : MemReq) (ep : Bool)
  /-- PEER_INBOUND_REQUEST (R311). -/
  | peerInboundRequest (src : Nat) (addr : Nat) (req : MemReq) (mark : PeerMark)
  /-- DTIME_SIDEBAND_CHECK (R19). -/
  | dtimeSidebandCheck (die : Nat)
  /-- DTIME_LOAD (R19). -/
  | dtimeLoad (die : Nat)
  /-- DTIME_INC (R19). -/
  | dtimeInc (die : Nat) (incr : Nat)
  /-- TIME_MESSAGE_SEND (R21). -/
  | timeMessageSend (isl : Nat)
  /-- TIME_MESSAGE (R21). -/
  | timeMessage (isl : Nat)
  /-- HOLDOVER_TIMEOUT (R21). -/
  | holdoverTimeout (isl : Nat)
  /-- SLICE_GRANT (R181). -/
  | sliceGrant (die : Nat)
  /-- IMAGE_LOAD_COMPLETE (R58). -/
  | imageLoadComplete (tile : Nat)
  /-- LOAD (R61). -/
  | load (tile : Nat)
  /-- STORE (R61). -/
  | store (tile : Nat)
  /-- MATMUL (R65). -/
  | matmul (tile : Nat)
  /-- CONV_CONVOLUTION (R88). -/
  | convConvolution (tile : Nat)
  /-- CONV_MAX_POOL (R95). -/
  | convMaxPool (tile : Nat)
  /-- CONV_AVG_POOL (R95). -/
  | convAvgPool (tile : Nat)
  /-- CONV_MIN_POOL (R95). -/
  | convMinPool (tile : Nat)
  /-- CONV_GRID_SAMPLE (R97). -/
  | convGridSample (tile : Nat)
  /-- VECT_COPY (R69). -/
  | vectCopy (tile : Nat)
  /-- VECT_ADD (R69). -/
  | vectAdd (tile : Nat)
  /-- VECT_SUB (R69). -/
  | vectSub (tile : Nat)
  /-- VECT_MUL (R69). -/
  | vectMul (tile : Nat)
  /-- VECT_FMA (R69). -/
  | vectFma (tile : Nat)
  /-- VECT_MAX (R70). -/
  | vectMax (tile : Nat)
  /-- VECT_MIN (R70). -/
  | vectMin (tile : Nat)
  /-- VECT_ABS (R69). -/
  | vectAbs (tile : Nat)
  /-- VECT_CMP (R70). -/
  | vectCmp (tile : Nat)
  /-- VECT_SELECT (R69). -/
  | vectSelect (tile : Nat)
  /-- VECT_EXP (R70). -/
  | vectExp (tile : Nat)
  /-- VECT_RCP (R70). -/
  | vectRcp (tile : Nat)
  /-- VECT_RSQRT (R70). -/
  | vectRsqrt (tile : Nat)
  /-- VECT_CONVERT (R69). -/
  | vectConvert (tile : Nat)
  /-- VECT_ACT (R74). -/
  | vectAct (tile : Nat)
  /-- VECT_RSUM (R71). -/
  | vectRsum (tile : Nat)
  /-- VECT_RMAX (R70). -/
  | vectRmax (tile : Nat)
  /-- VECT_RMIN (R70). -/
  | vectRmin (tile : Nat)
  /-- VECT_SMX_STEP (R72). -/
  | vectSmxStep (tile : Nat)
  /-- VECT_MEANVAR (R73). -/
  | vectMeanvar (tile : Nat)
  /-- VECT_NORM (R73). -/
  | vectNorm (tile : Nat)
  /-- POST_FLOAT (R75). -/
  | postFloat (tile : Nat)
  /-- POST_INT (R76). -/
  | postInt (tile : Nat)
  /-- POST_ARGMAX (R77). -/
  | postArgmax (tile : Nat)
  /-- LOOP (R78). -/
  | loop (tile : Nat)
  /-- LEAP (R79). -/
  | leap (tile : Nat)
  /-- LEAP_OUT (R79). -/
  | leapOut (tile : Nat)
  /-- LEAP_IN (R79). -/
  | leapIn (tile : Nat)
  /-- SIG (R80). -/
  | sig (tile : Nat)
  /-- ENTRY_COMPLETE (R62). -/
  | entryComplete (tile : Nat) (fin : EntryEnd)
  /-- TILE_FAULT_CLEAR (R64). -/
  | tileFaultClear (tile : Nat)
  /-- SLICE_COMPLETE (R63). -/
  | sliceComplete (tile : Nat)
  /-- PREEMPT_REQUEST (R184). -/
  | preemptRequest (die : Nat)
  /-- LATE_LEAP_TIMEOUT (R187). -/
  | lateLeapTimeout (tile : Nat)
  /-- DMA_YIELD (R187). -/
  | dmaYield (eng : Nat)
  /-- HASH_BUILD (R108). -/
  | hashBuild (ctx : Nat) (num : Nat)
  /-- HASH_QUERY (R115). -/
  | hashQuery (ctx : Nat) (num : Nat)
  /-- NEIGHBOURS (R116). -/
  | neighbours (ctx : Nat) (num : Nat)
  /-- KNN (R119). -/
  | knn (ctx : Nat) (num : Nat)
  /-- BALL (R119). -/
  | ball (ctx : Nat) (num : Nat)
  /-- SORT (R120). -/
  | sort (ctx : Nat) (num : Nat)
  /-- TOPK (R121). -/
  | topk (ctx : Nat) (num : Nat)
  /-- SEGMENT_REDUCE (R122). -/
  | segmentReduce (ctx : Nat) (num : Nat)
  /-- GATHER_ROWS (R123). -/
  | gatherRows (ctx : Nat) (num : Nat)
  /-- SCATTER_GRID (R125). -/
  | scatterGrid (ctx : Nat) (num : Nat)
  /-- TABLE_BUILD_WAIT_END (R106). -/
  | tableBuildWaitEnd (ctx : Nat) (num : Nat)
  /-- SET_OP_CHUNK_BOUNDARY (R114). -/
  | setOpChunkBoundary (at' : SetChunk)
  /-- SET_OP_RESUME (R114). -/
  | setOpResume (eng : Nat)
  /-- SET_OP_COMPLETE (R112). -/
  | setOpComplete (ctx : Nat) (num : Nat)
  /-- APPEND (R135). -/
  | append (ctx : Nat) (num : Nat)
  /-- ATTEND_FETCH (R136). -/
  | attendFetch (ctx : Nat) (num : Nat)
  /-- EVICT_TRUNCATE (R137). -/
  | evictTruncate (ctx : Nat) (num : Nat)
  /-- EVICT_LOWEST_SCORED (R142). -/
  | evictLowestScored (ctx : Nat) (num : Nat)
  /-- EVICT_ONE_POSITION (R142). -/
  | evictOnePosition (ctx : Nat) (num : Nat)
  /-- FREE (R143). -/
  | free (ctx : Nat) (num : Nat)
  /-- ALL_GATHER (R148). -/
  | allGather (ctx : Nat) (num : Nat)
  /-- REDUCE (R149). -/
  | reduce (ctx : Nat) (num : Nat)
  /-- REDUCE_COMBINE (R148). -/
  | reduceCombine (ctx : Nat) (num : Nat)
  /-- DOORBELL_WRITE (R161). -/
  | doorbellWrite (port : Port) (ctx : Nat) (val : Nat)
  /-- CQ_HEAD_WRITE (R161). -/
  | cqHeadWrite (port : Port) (ctx : Nat) (val : Nat)
  /-- TAIL_MIRROR_WRITE (R162). -/
  | tailMirrorWrite (port : Port) (ctx : Nat) (val : Nat)
  /-- CTX_ENABLE (R154). -/
  | ctxEnable (port : Port) (ctx : Nat)
  /-- CTX_DISABLE (R154). -/
  | ctxDisable (port : Port) (ctx : Nat)
  /-- CTX_DRAIN_COMPLETE (R154). -/
  | ctxDrainComplete (ctx : Nat)
  /-- CTX_CONFIG_WRITE (R156). -/
  | ctxConfigWrite (port : Port) (ctx : Nat) (off : Nat) (val : Word)
  /-- SLOT_CFG_WRITE (R175). -/
  | slotCfgWrite (port : Port) (slot : Nat) (val : Word)
  /-- DESCRIPTOR_FETCH (R159). -/
  | descriptorFetch (ctx : Nat)
  /-- KERNEL (R167). -/
  | kernel (ctx : Nat) (num : Nat)
  /-- COPY (R167). -/
  | copy (ctx : Nat) (num : Nat)
  /-- COPY_FILL (R167). -/
  | copyFill (ctx : Nat) (num : Nat)
  /-- JOB_BEGIN (R168). -/
  | jobBegin (ctx : Nat) (num : Nat)
  /-- JOB_END (R195). -/
  | jobEnd (ctx : Nat) (num : Nat)
  /-- FENCE (R170). -/
  | fence (ctx : Nat) (num : Nat)
  /-- SIGNAL_SET (R169). -/
  | signalSet (ctx : Nat) (num : Nat)
  /-- SIGNAL_ADD (R169). -/
  | signalAdd (ctx : Nat) (num : Nat)
  /-- SIGNAL_MAX (R169). -/
  | signalMax (ctx : Nat) (num : Nat)
  /-- WAIT (R169). -/
  | wait (ctx : Nat) (num : Nat)
  /-- WAIT_REEVALUATE (R169). -/
  | waitReevaluate (ctx : Nat) (num : Nat)
  /-- WAIT_TIMEOUT (R169). -/
  | waitTimeout (ctx : Nat) (num : Nat)
  /-- TIMESTAMP (R169). -/
  | timestamp (ctx : Nat) (num : Nat)
  /-- RESULT_POST (R176). -/
  | resultPost (ctx : Nat) (num : Nat)
  /-- COMPLETION_RECORD (R160). -/
  | completionRecord (ctx : Nat) (num : Nat)
  /-- JOB_ABORT (R192). -/
  | jobAbort (ctx : Nat)
  /-- JOB_QUIESCED (R192). -/
  | jobQuiesced (ctx : Nat)
  /-- JOB_DEADLINE (R194). -/
  | jobDeadline (ctx : Nat)
  /-- SH_ENABLE (R200). -/
  | shEnable (port : Port) (val : Word)
  /-- SH_DISABLE (R200). -/
  | shDisable (port : Port) (val : Word)
  /-- SH_FREE_BEFORE_WRITE (R212). -/
  | shFreeBeforeWrite (port : Port) (val : Word)
  /-- CSI2_FRAME_START (R211). -/
  | csi2FrameStart (cam : Nat) (vc : Nat) (dt : Nat)
  /-- CSI2_PIXEL_PACKET (R203). -/
  | csi2PixelPacket (cam : Nat) (vc : Nat) (dt : Nat) (data : List Byte) (fault : Bool)
  /-- CSI2_FRAME_END (R202). -/
  | csi2FrameEnd (cam : Nat) (vc : Nat) (dt : Nat)
  /-- FRAME_END_TIMEOUT (R202). -/
  | frameEndTimeout (sens : Nat)
  /-- HUB_ETH_FRAME (R206). -/
  | hubEthFrame (rx : EthRx)
  /-- SPI_TRANSFER_TIMER (R208). -/
  | spiTransferTimer (sens : Nat)
  /-- DRDY_EDGE (R208). -/
  | drdyEdge (line : Nat)
  /-- SPI_TRANSFER_COMPLETE (R208). -/
  | spiTransferComplete (sens : Nat) (data : List Byte)
  /-- UART_RECORD (R209). -/
  | uartRecord (uart : Nat) (data : List Byte) (ago : Nat) (fault : Bool)
  /-- WINDOW_END (R213). -/
  | windowEnd
  /-- WAIT_LIMIT_EXPIRY (R214). -/
  | waitLimitExpiry
  /-- INSTANT_LAUNCH (R216). -/
  | instantLaunch
  /-- TICK (R217). -/
  | tick (m : Nat)
  /-- TRIGGER_EDGE (R218). -/
  | triggerEdge (out : Nat)
  /-- TRIGGER_PULSE_END (R218). -/
  | triggerPulseEnd (out : Nat)
  /-- PLAN_ENABLE (R229). -/
  | planEnable (port : Port) (val : Word)
  /-- PLAN_DISABLE (R229). -/
  | planDisable (port : Port) (val : Word)
  /-- PLAN_COUNT_UPDATE (R231). -/
  | planCountUpdate
  /-- PATH_CHECK (R236). -/
  | pathCheck (pc : Nat)
  /-- CHECK_RESULT (R239). -/
  | checkResult (pc : Nat)
  /-- EPOCH_PUBLISH (R232). -/
  | epochPublish (ctx : Nat) (num : Nat)
  /-- EPOCH_PUBLISH_COMPLETE (R232). -/
  | epochPublishComplete (ctx : Nat) (num : Nat)
  /-- PLAN_DEADLINE (R241). -/
  | planDeadline
  /-- SEAL_RECHECK_COMPLETE (R241). -/
  | sealRecheckComplete
  /-- CACHE_LOOKUP (R249). -/
  | cacheLookup (pc : Nat) (heads : List SliceReq) (ecc : SlcErr)
  /-- READ_FORWARD (R257). -/
  | readForward (pc : Nat)
  /-- MC_COMMAND_ISSUE (R255). -/
  | mcCommandIssue (pc : Nat) (met : List Nat) (refresh : Bool)
  /-- STACK_READ_DATA (R257). -/
  | stackReadData (pc : Nat) (seq : Nat) (codes : List Nat)
  /-- REFRESH_DUE (R266). -/
  | refreshDue (pc : Nat)
  /-- PARITY_ERROR (R260). -/
  | parityError (pc : Nat) (replays : Replays)
  /-- MC_REINIT (R262). -/
  | mcReinit (port : Port) (pc : Nat)
  /-- REINIT_COMPLETE (R262). -/
  | reinitComplete (pc : Nat) (ok : Bool)
  /-- SCRUB_COMPLETE (R262). -/
  | scrubComplete (pc : Nat)
  /-- DELAY_COMMIT (R265). -/
  | delayCommit (port : Port) (pc : Nat) (val : Word)
  /-- DELAY_COMMIT_APPLY (R265). -/
  | delayCommitApply (pc : Nat)
  /-- STACK_TEMPERATURE_READ (R263). -/
  | stackTemperatureRead (stack : Nat) (own : Int)
  /-- BAND_STALE_TIMEOUT (R265). -/
  | bandStaleTimeout (pc : Nat)
  /-- CLEAN_ALL (R253). -/
  | cleanAll (port : Port)
  /-- CLEAN_INV_ALL (R253). -/
  | cleanInvAll (port : Port)
  /-- MAINTENANCE_COMPLETE (R253). -/
  | maintenanceComplete
  /-- URGENCY_CHANGE (R278). -/
  | urgencyChange (master : Nat) (level : Nat)
  /-- OCCUPANCY_SHED (R279). -/
  | occupancyShed (pc : Nat)
  /-- QOS_CONFIG_WRITE (R273). -/
  | qosConfigWrite (port : Port) (off : Nat) (val : Word)
  /-- SKINK_FRAME (R283). -/
  | skinkFrame (conn : Nat) (dir : Nat) (bundle : Nat) (frame : FrameIn)
  /-- NAK (R285). -/
  | nak (conn : Nat) (dir : Nat) (seq : Nat)
  /-- SB_STATE_SEND (R287). -/
  | sbStateSend (conn : Nat) (side : Nat) (rep : DieReport)
  /-- SB_STATE (R292). -/
  | sbState (conn : Nat) (side : Nat) (rep : DieReport)
  /-- QUARANTINE_MESSAGE (R292). -/
  | quarantineMessage (conn : Nat) (lost : Nat) (cause : Nat)
  /-- TEST_START (R289). -/
  | testStart (conn : Nat) (dirs : Nat) (bundles : Nat) (slot : Nat)
  /-- LANE_TEST_COMPLETE (R289). -/
  | laneTestComplete (conn : Nat) (runs : List LaneRun)
  /-- MAP_SUMMARY (R290). -/
  | mapSummary (conn : Nat) (side : Nat) (xch : Nat) (bad : Nat)
  /-- LANE_MAP (R290). -/
  | laneMap (conn : Nat) (side : Nat) (xch : Nat) (bundle : Nat) (good : Nat)
  /-- CONFIRM (R290). -/
  | confirm (conn : Nat) (side : Nat) (xch : Nat) (crc : Nat)
  /-- REJOIN_REQ (R298). -/
  | rejoinReq (die : Nat) (count : Nat)
  /-- REJOIN_COMMIT (R298). -/
  | rejoinCommit (die : Nat) (cycle : Nat)
  /-- NACK (R287). -/
  | nack (conn : Nat) (side : Nat) (seq : Nat) (typ : Nat)
  /-- SIDEBAND_LOST (R288). -/
  | sidebandLost (conn : Nat)
  /-- FORWARDED_CLOCK_LOSS (R292). -/
  | forwardedClockLoss (conn : Nat)
  /-- RSP_TIMEOUT (R292). -/
  | rspTimeout (conn : Nat) (us : Nat)
  /-- QUARANTINE_SWEEP_COMPLETE (R293). -/
  | quarantineSweepComplete (die : Nat) (done : Nat) (discarded : Nat)
  /-- QUAR (R292). -/
  | quar (port : Port) (mask : Nat)
  /-- REJOIN (R298). -/
  | rejoin (port : Port) (mask : Nat)
  /-- DL_CFG_WRITE (R303). -/
  | dlCfgWrite (port : Port) (link : Nat) (val : Word)
  /-- DEVICE_LINK_FLIT (R304). -/
  | deviceLinkFlit (link : Nat) (head : List Byte) (fixed : Bool) (body : List Byte) (crc : Nat)
  /-- LANE_LOSS (R304). -/
  | laneLoss (link : Nat) (bad : Nat)
  /-- LINK_RETRAIN_COMPLETE (R304). -/
  | linkRetrainComplete (link : Nat) (ok : Bool)
  /-- CH_ENABLE (R309). -/
  | chEnable (port : Port)
  /-- CH_DISABLE (R309). -/
  | chDisable (port : Port)
  /-- HELLO_SEND (R309). -/
  | helloSend
  /-- HELLO (R309). -/
  | hello (link : Nat) (origin : Nat) (seq : Nat) (ok : Bool) (cfg : ChCfg) (adj : List ChAdj)
  /-- DISCOVERY_END (R309). -/
  | discoveryEnd
  /-- HEARTBEAT_SEND (R316). -/
  | heartbeatSend
  /-- HEARTBEAT (R316). -/
  | heartbeat (link : Nat) (origin : Nat) (ok : Bool) (view : Nat) (members : Nat) (sent : Nat)
  /-- HEARTBEAT_MISS (R316). -/
  | heartbeatMiss (link : Nat)
  /-- VIEW (R317). -/
  | view (link : Nat) (origin : Nat) (seq : Nat) (ok : Bool) (num : Nat) (set : Nat)
  /-- VIEW_REFLOOD (R317). -/
  | viewReflood
  /-- AGREEMENT_RESTART (R317). -/
  | agreementRestart
  /-- BARRIER_ARRIVAL (R322). -/
  | barrierArrival
  /-- ARRIVE (R322). -/
  | arrive (link : Nat) (origin : Nat) (seq : Nat) (ok : Bool) (num : Nat)
  /-- BARRIER_LATE (R323). -/
  | barrierLate (num : Nat)
  /-- PROBE (R324). -/
  | probe (link : Nat) (trips : List Nat)
  /-- PEER_RESPONSE_TIMEOUT (R315). -/
  | peerResponseTimeout (req : PeerReq) (us : Nat)
  /-- ISLAND_POWER_UP (R330). -/
  | islandPowerUp (up : IslUp)
  /-- ISLAND_IMAGE_VERIFY (R406). -/
  | islandImageVerify (isl : Nat) (ok : Bool) (xl : Nat)
  /-- ISLAND_IMAGE_WAIT_TIMEOUT (R406). -/
  | islandImageWaitTimeout (isl : Nat)
  /-- ISLAND_TRIP (R331). -/
  | islandTrip (isl : Nat) (code : Nat) (heal : Bool)
  /-- ISLAND_SELF_RESTART (R330). -/
  | islandSelfRestart (isl : Nat)
  /-- SI_RESTART (R330). -/
  | siRestart (port : Port) (isl : Nat)
  /-- CORE_DISAGREE (R333). -/
  | coreDisagree (isl : Nat) (core : Nat)
  /-- CHECKPOINT (R333). -/
  | checkpoint (isl : Nat)
  /-- MOULT_REQ (R335). -/
  | moultReq (isl : Nat) (paired : Bool)
  /-- MOULT_COMPLETE (R335). -/
  | moultComplete (isl : Nat)
  /-- ISLAND_DEBUG_COMMAND (R336). -/
  | islandDebugCommand (isl : Nat) (core : Nat) (cmd : DbgCmd)
  /-- WORLD_NOTICE (R337). -/
  | worldNotice (isl : Nat)
  /-- WORLD_READ_COMPLETE (R337). -/
  | worldReadComplete (isl : Nat)
  /-- TRAJECTORY_NOTICE (R338). -/
  | trajectoryNotice (isl : Nat)
  /-- TRAJECTORY_READ_COMPLETE (R338). -/
  | trajectoryReadComplete (isl : Nat)
  /-- MESSAGE_TRANSMIT (R356). -/
  | messageTransmit (isl : Nat)
  /-- NOT_READY_MESSAGE (R330). -/
  | notReadyMessage (isl : Nat)
  /-- EFT_RUN (R343). -/
  | eftRun (isl : Nat)
  /-- EFT_CLEAR (R344). -/
  | eftClear (isl : Nat)
  /-- OUTPUT_TIMEOUT (R345). -/
  | outputTimeout (isl : Nat)
  /-- CROSSLINK_HEARTBEAT_SEND (R349). -/
  | crosslinkHeartbeatSend (isl : Nat)
  /-- CROSSLINK_WORD (R349). -/
  | crosslinkWord (isl : Nat) (word : Nat)
  /-- CROSSLINK_SILENCE (R350). -/
  | crosslinkSilence (isl : Nat)
  /-- STATUS_MAILBOX_REFRESH (R354). -/
  | statusMailboxRefresh (isl : Nat)
  /-- SI_CONFIG_WRITE (R354). -/
  | siConfigWrite (port : Port) (isl : Nat) (off : Nat) (val : Word)
  /-- SPI_STATUS_READ (R355). -/
  | spiStatusRead (isl : Nat) (cmd : Nat)
  /-- PM_VETO (R379). -/
  | pmVeto (isl : Nat) (on : Bool)
  /-- CAN_RECEIVE (R443). -/
  | canReceive (isl : Nat) (ctl : Nat) (pass : Bool) (room : Bool) (data : List Byte)
  /-- CAN_BUS_OFF (R443). -/
  | canBusOff (isl : Nat) (ctl : Nat)
  /-- CAN_BUS_OFF_RECOVERY (R443). -/
  | canBusOffRecovery (isl : Nat) (ctl : Nat)
  /-- ISLAND_ETH_RECEIVE (R443). -/
  | islandEthReceive (isl : Nat)
  /-- TEST_DUE (R357). -/
  | testDue (eng : Nat)
  /-- TEST_SLICE_COMPLETE (R358). -/
  | testSliceComplete (eng : Nat) (got : Nat) (want : Nat)
  /-- TEST_DEADLINE (R360). -/
  | testDeadline (eng : Nat)
  /-- RETEST (R363). -/
  | retest (port : Port) (eng : Nat)
  /-- TEST_ENABLE (R364). -/
  | testEnable (port : Port)
  /-- TEST_DISABLE (R364). -/
  | testDisable (port : Port)
  /-- IDLE_ENTRY (R377). -/
  | idleEntry (us : Nat)
  /-- POWER_REQUEST_RETAIN (R379). -/
  | powerRequestRetain (port : Port) (busy : Option Nat)
  /-- POWER_REQUEST_BRUMATION (R379). -/
  | powerRequestBrumation (port : Port) (busy : Option Nat)
  /-- POWER_REQUEST_OFF (R383). -/
  | powerRequestOff (port : Port) (busy : Option Nat)
  /-- FORCED_OFF (R383). -/
  | forcedOff (port : Port)
  /-- HART_PARK_DEADLINE (R380). -/
  | hartParkDeadline
  /-- SHUTDOWN_SELF_TEST_COMPLETE (R413). -/
  | shutdownSelfTestComplete (fails : List (Nat × Nat)) (hbm : List Nat) (us : Nat)
  /-- POWER_ENTRY_COMMIT (R380). -/
  | powerEntryCommit
  /-- POWER_ENTRY_COMPLETE (R380). -/
  | powerEntryComplete
  /-- DIE_RETAIN_ENTRY (R378). -/
  | dieRetainEntry (port : Port) (die : Nat)
  /-- DIE_RETAIN_EXIT (R378). -/
  | dieRetainExit (port : Port) (die : Nat)
  /-- GPIO_WAKE (R382). -/
  | gpioWake (line : Nat) (level : Bool)
  /-- WAKE_TIMER (R382). -/
  | wakeTimer
  /-- ISLAND_WAKE_REQUEST (R382). -/
  | islandWakeRequest (isl : Nat)
  /-- POWER_EXIT_COMPLETE (R382). -/
  | powerExitComplete
  /-- PM_CLK_WRITE (R374). -/
  | pmClkWrite (port : Port) (val : Word)
  /-- CLOCK_LEVEL_SWITCH (R375). -/
  | clockLevelSwitch (hart : Bool) (mv : Nat)
  /-- UNIT_CLOCK_GATE (R376). -/
  | unitClockGate (eng : Nat) (cycles : Nat)
  /-- VIN_MAIN_LOSS (R372). -/
  | vinMainLoss (us : Nat)
  /-- VIN_AON_LOSS (R372). -/
  | vinAonLoss
  /-- PLL_LOCK_LOSS (R373). -/
  | pllLockLoss (die : Option Nat)
  /-- BRUMATION_RUN (R384). -/
  | brumationRun (vals : List (Option Int))
  /-- BRUMATION_CAMERA_FRAME (R385). -/
  | brumationCameraFrame (bits : Nat) (width : Nat) (samples : List Nat)
  /-- DIE_SENSOR_SAMPLE (R388). -/
  | dieSensorSample (sensor : Nat) (val : Int)
  /-- THERMAL_TICK (R392). -/
  | thermalTick (power : Nat) (compute : Nat)
  /-- THROTTLE_LEVEL_FALL (R392). -/
  | throttleLevelFall
  /-- CLAMP_PULSE (R393). -/
  | clampPulse
  /-- CLAMP_RELEASE (R394). -/
  | clampRelease
  /-- CLAMP_CLR (R394). -/
  | clampClr (port : Port)
  /-- HALT_END (R395). -/
  | haltEnd
  /-- COOLANT_SAMPLE (R390). -/
  | coolantSample (input : Nat) (val : Int)
  /-- COOLANT_INPUT_TIMEOUT (R390). -/
  | coolantInputTimeout (input : Nat)
  /-- FLOW_PULSE (R393). -/
  | flowPulse (widthUs : Nat)
  /-- WEAR_SAMPLE (R400). -/
  | wearSample
  /-- WEAR_LOCK (R400). -/
  | wearLock (port : Port)
  /-- RESET_N_RISE (R403). -/
  | resetNRise (boot : BootIn)
  /-- RESET_N_ASSERT (R454). -/
  | resetNAssert (us : Nat)
  /-- TADPOLE_SESSION_HEADER (R411). -/
  | tadpoleSessionHeader
  /-- TADPOLE_TELEMETRY (R412). -/
  | tadpoleTelemetry (vin : List Nat)
  /-- JN_APPEND (R421). -/
  | jnAppend (port : Port) (typ : Nat) (key : Nat) (len : Nat)
  /-- APPEND_COMMIT (R421). -/
  | appendCommit (ok : Bool)
  /-- COMPACTION_START (R422). -/
  | compactionStart
  /-- COMPACTION_COMPLETE (R422). -/
  | compactionComplete
  /-- JN_OFFLINE (R423). -/
  | jnOffline (port : Port)
  /-- JN_ONLINE (R423). -/
  | jnOnline (port : Port)
  /-- FUSE_ADVANCE_SVN (R404). -/
  | fuseAdvanceSvn (port : Port) (arg : Nat)
  /-- FUSE_REVOKE_KEY (R404). -/
  | fuseRevokeKey (port : Port) (arg : Nat)
  /-- XSPI_READ (R445). -/
  | xspiRead (port : Port) (addr : Nat) (len : Nat)
  /-- XSPI_PROGRAM (R445). -/
  | xspiProgram (port : Port) (addr : Nat) (len : Nat)
  /-- XSPI_ERASE (R445). -/
  | xspiErase (port : Port) (addr : Nat)
  /-- XSPI_COMMAND_COMPLETE (R445). -/
  | xspiCommandComplete
  /-- TRACE_RECORD_ARRIVAL (R429). -/
  | traceRecordArrival (eng : Nat)
  /-- TR_TRIG (R430). -/
  | trTrig (port : Port)
  /-- TRACE_FREEZE (R430). -/
  | traceFreeze
  /-- TR_ARM (R429). -/
  | trArm (port : Port)
  /-- TR_STOP (R429). -/
  | trStop (port : Port)
  /-- TR_DUMP (R431). -/
  | trDump (port : Port) (val : Word)
  /-- TRACE_DUMP_COMPLETE (R431). -/
  | traceDumpComplete
  /-- TRACE_STREAM_WRITE (R431). -/
  | traceStreamWrite
  /-- AUTH_CHAL (R436). -/
  | authChal (port : Port) (level : Nat)
  /-- AUTH_VERIFY (R436). -/
  | authVerify (port : Port)
  /-- AUTH_VERIFY_COMPLETE (R436). -/
  | authVerifyComplete
  /-- AUTH_LOCK (R436). -/
  | authLock (port : Port)
  /-- DEBUG_MODULE_ACCESS (R435). -/
  | debugModuleAccess (port : Option Port) (dm : Nat) (addr : Nat) (data : Option Nat)
  /-- DEBUG_SYSTEM_BUS_ACCESS (R435). -/
  | debugSystemBusAccess (addr : Nat) (req : MemReq)
  /-- JTAG_IDCODE (R435). -/
  | jtagIdcode
  /-- JTAG_BYPASS (R435). -/
  | jtagBypass
  /-- JTAG_SAMPLE_PRELOAD (R435). -/
  | jtagSamplePreload (pins : Nat) (preload : Nat)
  /-- JTAG_EXTEST (R435). -/
  | jtagExtest
  /-- GPTP_MESSAGE (R441). -/
  | gptpMessage (mac : Nat) (chosen : Bool) (paired : Bool) (ofs : Int)
  /-- GPTP_TIMEOUT (R438). -/
  | gptpTimeout
  /-- PPS_EDGE (R442). -/
  | ppsEdge (falling : Bool) (widthUs : Nat)
  /-- PPS_LOST (R442). -/
  | ppsLost
  /-- PPS_OUT_SECOND (R442). -/
  | ppsOutSecond
  /-- IO_TIME_SET_WRITE (R441). -/
  | ioTimeSetWrite (port : Port) (val : Word)
  /-- GPIO_INPUT_CHANGE (R438). -/
  | gpioInputChange (line : Nat) (level : Bool) (stableUs : Nat)
  /-- PCIE_COMPLETION (R444). -/
  | pcieCompletion (hart : Nat) (data : List Byte) (ep : Bool)
  /-- PCIE_COMPLETION_TIMEOUT (R444). -/
  | pcieCompletionTimeout (req : PeerReq)
  /-- ISLAND_SUPPLY_LOSS (R331). -/
  | islandSupplyLoss (isl : Nat)
  /-- HART_WFI (R380). -/
  | hartWfi (hart : Nat)
  /-- DL_TRAINING_COMPLETE (R316). -/
  | dlTrainingComplete (link : Nat) (ok : Bool) (width : Nat) (rate : Nat) (nbr : Nat) (nbrPort : Nat)
  /-- PCIE_LINK_CHANGE (R307). -/
  | pcieLinkChange (up : Bool) (width : Nat) (rate : Nat)
  /-- VIN_MAIN_IN_WINDOW (R454). -/
  | vinMainInWindow (boot : BootIn)
  /-- BRUMATION_CAMERA_TIMEOUT (R385). -/
  | brumationCameraTimeout
  /-- MESSAGE_TRANSMIT_COMPLETE (R443). -/
  | messageTransmitComplete (isl : Nat) (ctl : Nat) (same : Bool)
  /-- COMPLETION_RETIRE (R198). -/
  | completionRetire (die : Nat)
  deriving DecidableEq, Repr

end Sys2Proof
end

