-- ==== Sys2Proof/Decode.lean ====
section
/-!
DEFINITION. Commands by the bits of the opcode table: the table gives no row of this block any bits, so
that no word spells a command.
-/
namespace Sys2Proof

/-- The command a word of `nbits` bits spells by the opcode table, whose rows have no fields. [DEDUCED, log entry 6] -/
def decodeTableWord (_nbits _w : Nat) : Option Instr := none

end Sys2Proof
end

