-- ==== Sys2Proof/Config.lean ====
section
/-!
DEFINITION. What the manual leaves to the implementation or to the outside world: free
values, each an opaque constant with no body, so that no proof can see what it is.
-/
namespace Sys2Proof

/-- Byte `off` of the memory of the part whose Chorus ID is `d`, or of PCIe memory space behind
window 15 (R307), as the `n`-th read of a peer window meets it (R10, R314): what stands outside the
part is not this part's state. [DESIGN CHOICE, log entry 7] -/
opaque Config.peerByte : (d off n : Nat) → BitVec 8

/-- Cycles an engine spent on a command (ACT_CYC) and cycles its requests were held (HOLD_K),
as the `n`-th final reading gives them (R434): the model keeps no cycle count. [DESIGN CHOICE, log entry 8] -/
opaque Config.actCyc : (engine n : Nat) → Nat
/-- [DESIGN CHOICE, log entry 8] -/
opaque Config.holdK : (engine n : Nat) → Nat

/-- What a running command's ACT_CYC and its held cycles show at a fabric cycle (R434). [DESIGN CHOICE, log entry 8] -/
opaque Config.actLive : (engine cycle : Nat) → Nat
/-- [DESIGN CHOICE, log entry 8] -/
opaque Config.holdLive : (engine cycle : Nat) → Nat

/-- Bytes a set engine or a path checker moved for a command (BYTES), as the `n`-th final reading gives them (R434): the
manual leaves the number of their memory accesses to the implementation. [DESIGN CHOICE, log entry 8] -/
opaque Config.moveBytes : (engine n : Nat) → Nat

/-- The 32-byte nonce of the `n`-th debug challenge, from the part's random source (R436). [DESIGN CHOICE, log entry 9] -/
opaque Config.nonce : (n : Nat) → BitVec 256

/-- What a debug-module register that shows a core's own registers returns at its `n`-th read: the
registers of an application core are not this block's state (R435). [DESIGN CHOICE, log entry 9] -/
opaque Config.coreData : (dm addr n : Nat) → BitVec 32

/-- What an island's core holds in its 640 bytes of state once it has disagreed with the others, or when it starts at its own
entry vector (R333, R335): no rule states it. [DESIGN CHOICE, log entry 117] -/
opaque Config.coreState : (core n : Nat) → BitVec 5120

/-- Whether a footprint with a corner that is not finite blocks its candidate at a step; if not,
no cell is tested there. The manual gives such a corner no cell (R228, R237). [DESIGN CHOICE, log entry 9] -/
opaque Config.wildFootprint : (step : Nat) → Bool

/-- FREEZE_DTIME of the `n`-th NOT_READY message: the manual has bytes 24–31 filled and names no
trajectory (R356). [DESIGN CHOICE, log entry 9] -/
opaque Config.notReadyFreeze : (n : Nat) → BitVec 64

/-- REASON of a message of R342 that an island sends at its takeover: the manual gives none (R350). [DESIGN CHOICE, log entry 9] -/
opaque Config.takeoverReason : (n : Nat) → BitVec 4

/-- Byte at an address of the save area after the `n`-th self-test with a save: the manual gives no
layout for what is copied there (R414). [DESIGN CHOICE, log entry 9] -/
opaque Config.saveByte : (n a : Nat) → BitVec 8

/-- Whether an HBM sector that nothing has written since the `n`-th start reads as poison: its contents are unspecified
(R467). [DESIGN CHOICE, log entry 2] -/
opaque Config.darkSector : (n sector : Nat) → Bool

/-- SLICE and GOT that HUB_TEST_LASTI shows for an engine that the `n`-th shut-down self-test put
into FAULT: a march has neither (R362, R415). [DESIGN CHOICE, log entry 9] -/
opaque Config.marchSlice : (engine n : Nat) → Nat
/-- [DESIGN CHOICE, log entry 9] -/
opaque Config.marchGot : (engine n : Nat) → Nat

/-- VALUE of a camera step's first run after entry, which has no previous frame (R385). [DESIGN CHOICE, log entry 9] -/
opaque Config.firstDiff : (n : Nat) → BitVec 16

end Sys2Proof
end

