-- ==== Sys2Proof/Machine/FloatOps.lean ====
section
/-!
DEFINITION. Exact binary arithmetic with one rounding (R28, R31, R42): the value a
bit pattern stands for, the rounding of an exact value to a format, the binary32 and
binary64 operations, and the correctly rounded functions of R70 and R339. Every
function is total and computes; nothing is approximated without a bound.
-/
namespace Sys2Proof.Machine

/-- What a floating-point bit pattern stands for: NaN, an infinity, or
`(-1)^neg * m * 2^e` (with `m = 0` a signed zero). -/
inductive FVal where
  | nan
  | inf (neg : Bool)
  | fin (neg : Bool) (m : Nat) (e : Int)
  deriving DecidableEq, Repr

/-- An IEEE 754 binary interchange format: exponent and mantissa widths (Table 2.2). -/
structure FFmt where
  eb : Nat
  mb : Nat
  deriving DecidableEq, Repr

def fp32 : FFmt := { eb := 8, mb := 23 }
def fp64 : FFmt := { eb := 11, mb := 52 }
def bf16 : FFmt := { eb := 8, mb := 7 }
def fp16 : FFmt := { eb := 5, mb := 10 }
def e5m2 : FFmt := { eb := 5, mb := 2 }
def e4m3 : FFmt := { eb := 4, mb := 3 }
def e2m1 : FFmt := { eb := 2, mb := 1 }

/-- Exponent bias, `2^(eb-1) - 1` (Table 2.2). -/
def FFmt.bias (f : FFmt) : Int := 2 ^ (f.eb - 1) - 1

/-- Weight exponent of the least significant bit of a subnormal. -/
def FFmt.qmin (f : FFmt) : Int := 1 - f.bias - f.mb

/-- Bits of a number; 0 has none. -/
def bitLen (n : Nat) : Nat := if n = 0 then 0 else Nat.log2 n + 1

/-- The bit pattern of an IEEE format as a value (R28); a signalling NaN is a NaN (R31). -/
def decodeIEEE (f : FFmt) (w : Nat) : FVal :=
  let neg := Nat.testBit w (f.eb + f.mb)
  let ex := (w / 2 ^ f.mb) % 2 ^ f.eb
  let mant := w % 2 ^ f.mb
  if ex = 2 ^ f.eb - 1 then
    (if mant = 0 then .inf neg else .nan)
  else if ex = 0 then .fin neg mant f.qmin
  else .fin neg (2 ^ f.mb + mant) (f.qmin + (ex - 1 : Nat))

/-- E4M3 has no infinity, and S.1111.111 is its only NaN (Table 2.2). -/
def decodeE4M3 (w : Nat) : FVal :=
  let neg := Nat.testBit w 7
  let ex := (w / 8) % 16
  let mant := w % 8
  if ex = 15 ∧ mant = 7 then .nan
  else if ex = 0 then .fin neg mant e4m3.qmin
  else .fin neg (8 + mant) (e4m3.qmin + (ex - 1 : Nat))

/-- E2M1 holds neither infinity nor NaN (Table 2.2). -/
def decodeE2M1 (w : Nat) : FVal :=
  let neg := Nat.testBit w 3
  let ex := (w / 2) % 4
  let mant := w % 2
  if ex = 0 then .fin neg mant e2m1.qmin
  else .fin neg (2 + mant) (e2m1.qmin + (ex - 1 : Nat))

/-- `m / 2^k` rounded to nearest, ties to even. -/
def rneShift (m k : Nat) : Nat :=
  let q := m / 2 ^ k
  let r := m % 2 ^ k
  if k = 0 then m
  else if 2 ^ (k - 1) < r ∨ (r = 2 ^ (k - 1) ∧ q % 2 = 1) then q + 1 else q

/-- Round `m * 2^e` to the precision of `f` without a range limit: the answer is
`r * 2^q` with `r ≤ 2^(mb+1)`. -/
def roundPrec (f : FFmt) (m : Nat) (e : Int) : Nat × Int :=
  if m = 0 then (0, f.qmin)
  else
    let q := max f.qmin ((bitLen m : Int) - 1 + e - f.mb)
    if q ≤ e then (m * 2 ^ (e - q).toNat, q) else (rneShift m (q - e).toNat, q)

/-- Assemble an in-range rounded magnitude as a bit pattern without its sign. -/
def packMag (f : FFmt) (r : Nat) (q : Int) : Nat :=
  if r = 0 then 0
  else if r < 2 ^ f.mb then r
  else
    -- r = 2^(mb+1) carries into the next exponent by plain addition
    ((q - f.qmin).toNat) * 2 ^ f.mb + r

/-- Sign bit of a format. -/
def signBit (f : FFmt) (neg : Bool) : Nat := if neg then 2 ^ (f.eb + f.mb) else 0

/-- The infinity's pattern (exponent all ones, mantissa 0), without its sign. -/
def infMag (f : FFmt) : Nat := (2 ^ f.eb - 1) * 2 ^ f.mb

/-- The canonical NaN of an IEEE format (R31). -/
def canonNaN (f : FFmt) : Nat := infMag f + 2 ^ (f.mb - 1)

/-- IEEE 754 rounding of a value to a format: overflow gives an infinity. This is the
rounding of every arithmetic result; conversions go through `convertVal` (R42). -/
def roundIEEE (f : FFmt) : FVal → Nat
  | .nan => canonNaN f
  | .inf neg => signBit f neg + infMag f
  | .fin neg m e =>
    let (r, q) := roundPrec f m e
    signBit f neg + min (packMag f r q) (infMag f)

/-- Exact product of two values; infinity times zero is NaN, and infinity times infinity is infinite with the product's
sign. [DESIGN CHOICE, log entry 115] -/
def mulV : FVal → FVal → FVal
  | .nan, _ => .nan
  | _, .nan => .nan
  | .inf a, .inf b => .inf (a != b)
  | .inf a, .fin b m _ => if m = 0 then .nan else .inf (a != b)
  | .fin a m _, .inf b => if m = 0 then .nan else .inf (a != b)
  | .fin a m e, .fin b n g => .fin (a != b) (m * n) (e + g)

/-- A finite value as a signed integer at the weight `2^q` (exact when `q ≤ e`). -/
def toScaled (neg : Bool) (m : Nat) (e q : Int) : Int :=
  let v : Int := (m * 2 ^ (e - q).toNat : Nat)
  if neg then -v else v

/-- A signed integer at weight `2^q` as a value; an exact zero is +0. -/
def ofScaled (v : Int) (q : Int) : FVal := .fin (decide (v < 0)) v.natAbs q

/-- Exact sum of two values with the zero-sign rules of IEEE 754. -/
def addV : FVal → FVal → FVal
  | .nan, _ => .nan
  | _, .nan => .nan
  | .inf a, .inf b => if a = b then .inf a else .nan
  | .inf a, .fin .. => .inf a
  | .fin .., .inf b => .inf b
  | .fin a m e, .fin b n g =>
    if m = 0 ∧ n = 0 then .fin (a && b) 0 0
    else
      let q := min e g
      ofScaled (toScaled a m e q + toScaled b n g q) q

def negV : FVal → FVal
  | .nan => .nan
  | .inf a => .inf (!a)
  | .fin a m e => .fin (!a) m e

def absV : FVal → FVal
  | .nan => .nan
  | .inf _ => .inf false
  | .fin _ m e => .fin false m e

def isNaNV : FVal → Bool
  | .nan => true
  | _ => false

def isZeroV : FVal → Bool
  | .fin _ m _ => m == 0
  | _ => false

/-- `a < b` as numbers; false when either is NaN. Both zeros are equal. -/
def ltV : FVal → FVal → Bool
  | .nan, _ => false
  | _, .nan => false
  | .inf a, .inf b => a && !b
  | .inf a, .fin .. => a
  | .fin .., .inf b => !b
  | .fin a m e, .fin b n g =>
    let q := min e g
    decide (toScaled a m e q < toScaled b n g q)

def eqV : FVal → FVal → Bool
  | .nan, _ => false
  | _, .nan => false
  | x, y => !ltV x y && !ltV y x

def leV (x y : FVal) : Bool := ltV x y || eqV x y

/-! ## Inexact functions: a magnitude known up to a sticky bit -/

/-- Quotient of two positive exact magnitudes kept to `p` bits, the lost part in a
sticky bit: exact enough for one rounding to fewer than `p - 2` bits. -/
def divSticky (p : Nat) (m : Nat) (e : Int) (n : Nat) (g : Int) : Nat × Int :=
  let s := p + bitLen n
  let num := m * 2 ^ s
  let q := num / n
  let st := if num % n = 0 then 0 else 1
  (2 * q + st, e - g - s - 1)

/-- Quotient of two values, ready for one rounding. -/
def divV : FVal → FVal → FVal
  | .nan, _ => .nan
  | _, .nan => .nan
  | .inf _, .inf _ => .nan
  | .inf a, .fin b _ _ => .inf (a != b)
  | .fin a _ _, .inf b => .fin (a != b) 0 0
  | .fin a m e, .fin b n g =>
    if n = 0 then (if m = 0 then .nan else .inf (a != b))
    else if m = 0 then .fin (a != b) 0 0
    else
      let (q, w) := divSticky 160 m e n g
      .fin (a != b) q w

/-- One bit of the binary square root: `fuel` bits, `r` the root so far. -/
def isqrtGo (n : Nat) : Nat → Nat → Nat
  | 0, r => r
  | k + 1, r => isqrtGo n k (if (r + 2 ^ k) * (r + 2 ^ k) ≤ n then r + 2 ^ k else r)

/-- Integer square root, rounded down. -/
def isqrt (n : Nat) : Nat := isqrtGo n (bitLen n / 2 + 1) 0

/-- Square root of a positive magnitude with a sticky bit. -/
def sqrtSticky (m : Nat) (e : Int) : Nat × Int :=
  -- make the exponent even and give the radicand 320 more bits
  let (m1, e1) := if e % 2 = 0 then (m, e) else (2 * m, e - 1)
  let n := m1 * 2 ^ 320
  let r := isqrt n
  (2 * r + (if r * r = n then 0 else 1), (e1 - 320) / 2 - 1)

/-- Square root; the root of a negative non-zero value is NaN, of −0 is −0 (IEEE 754). -/
def sqrtV : FVal → FVal
  | .nan => .nan
  | .inf a => if a then .nan else .inf false
  | .fin a m e =>
    if m = 0 then .fin a 0 0
    else if a then .nan
    else
      let (r, q) := sqrtSticky m e
      .fin false r q

/-! ## Fixed-point bounds: an integer `n` at precision `P` stands for `n / 2^P` -/

/-- The sum of `1 / (k * 2^k)` for `k = 1 … fuel`, truncated term by term: ln 2. -/
def ln2Go (P : Nat) : Nat → Nat → Nat → Nat
  | 0, _, acc => acc
  | n + 1, k, acc => ln2Go P n (k + 1) (acc + 2 ^ P / (k * 2 ^ k))

/-- ln 2 at precision `P` from below, short by less than `P + 1` units. -/
def ln2Fix (P : Nat) : Nat := ln2Go P P 1 0

/-- Taylor terms of exp on `r / 2^P`. -/
def expGo (P r : Nat) : Nat → Nat → Nat → Nat → Nat
  | 0, _, _, acc => acc
  | n + 1, k, t, acc =>
    let t' := t * r / 2 ^ P / k
    expGo P r n (k + 1) t' (acc + t')

/-- exp of `r / 2^P` for `0 ≤ r < 2^P`, from below. -/
def expFix (P r : Nat) : Nat := expGo P r (P / 4 + 16) 1 (2 ^ P) (2 ^ P)

/-- exp of a finite non-zero value as a magnitude at weight `2^w`, with the working
precision `P`: answers a lower and an upper bound. -/
def expBounds (P : Nat) (neg : Bool) (m : Nat) (e : Int) : Nat × Nat × Int :=
  -- the argument at precision P + 16 guard bits, rounded down as an integer
  let Q := P + 16
  let x : Int := if 0 ≤ e + Q then (m * 2 ^ (e + Q).toNat : Nat) else (m / 2 ^ (-(e + Q)).toNat : Nat)
  let x := if neg then -x - 1 else x
  let l : Int := ln2Fix Q
  let n := x / l
  let r := (x - n * l).toNat
  let y := expFix Q r
  let slack := (Q + 64) * (n.natAbs + 8) * 4
  (y - slack, y + slack, n - Q)

/-- Round two bounds of one value; the answer when they agree. -/
def roundBounds (f : FFmt) (neg : Bool) (lo hi : Nat) (w : Int) : Option Nat :=
  let a := roundIEEE f (.fin neg lo w)
  let b := roundIEEE f (.fin neg hi w)
  if a = b then some a else none

/-- Correctly rounded exp (R70): the working precision doubles until both bounds round
to the same pattern. Beyond the last precision the upper bound's rounding stands; no
binary32 or binary64 argument reaches that. -/
def expR (f : FFmt) : FVal → Nat
  | .nan => canonNaN f
  | .inf a => if a then 0 else infMag f
  | .fin neg m e =>
    if m = 0 then roundIEEE f (.fin false 1 0)
    else if (bitLen m : Int) + e > 12 then
      (if neg then 0 else infMag f)
    else if (bitLen m : Int) + e < -70 then
      -- |x| < 2^-70: 1 + x rounds to 1
      roundIEEE f (.fin false 1 0)
    else
      let (l1, h1, w1) := expBounds 192 neg m e
      match roundBounds f false l1 h1 w1 with
      | some v => v
      | none =>
        let (l2, h2, w2) := expBounds 512 neg m e
        (roundBounds f false l2 h2 w2).getD (roundIEEE f (.fin false h2 w2))

/-- arctan(1/k) at precision `P`, alternating terms. -/
def atanInvGo (P k : Nat) : Nat → Nat → Nat → Int → Bool → Int
  | 0, _, _, acc, _ => acc
  | n + 1, j, t, acc, s =>
    let term : Int := (t / j : Nat)
    atanInvGo P k n (j + 2) (t / (k * k)) (if s then acc + term else acc - term) (!s)

def atanInv (P k : Nat) : Int := atanInvGo P k (P / 4 + 8) 1 (2 ^ P / k) 0 true

/-- π at precision `P` (Machin's formula), within `8 * P` units. -/
def piFix (P : Nat) : Nat := (16 * atanInv P 5 - 4 * atanInv P 239).toNat

/-- Alternating Taylor series with `t` the first term and `x2 = x^2` at precision `P`;
`j` is the degree of the term already added. -/
def trigGo (P x2 : Nat) : Nat → Nat → Nat → Int → Bool → Int
  | 0, _, _, acc, _ => acc
  | n + 1, j, t, acc, s =>
    let t' := t * x2 / 2 ^ P / ((j + 1) * (j + 2))
    trigGo P x2 n (j + 2) t' (if s then acc + t' else acc - t') (!s)

def sinFix (P r : Nat) : Int := trigGo P (r * r / 2 ^ P) (P / 6 + 12) 1 r r false
def cosFix (P r : Nat) : Int := trigGo P (r * r / 2 ^ P) (P / 6 + 12) 0 (2 ^ P) (2 ^ P) false

/-- sin (`c = false`) or cos (`c = true`) of a finite non-zero value: bounds at
precision `P` as signed integers. -/
def trigBounds (P : Nat) (c neg : Bool) (m : Nat) (e : Int) : Int × Int :=
  let G := P + 24
  -- π needs as many more bits as the argument has above its binary point
  let X := G + ((bitLen m : Int) + e).toNat
  let hp := piFix (X + 16) / 2 ^ 17
  let x : Nat := if 0 ≤ e + X then m * 2 ^ (e + X).toNat else m / 2 ^ (-(e + X)).toNat
  let n := x / hp
  let r := (x % hp) / 2 ^ (X - G)
  let k := if c then n + 1 else n
  let v : Int :=
    if k % 2 = 0 then sinFix G r else cosFix G r
  let v := if k % 4 ≥ 2 then -v else v
  let v := if neg && !c then -v else v
  let slack : Int := ((8 * X + 256) * 4 : Nat)
  (v - slack, v + slack)

def roundIntBounds (f : FFmt) (lo hi : Int) (w : Int) : Option Nat :=
  let a := roundIEEE f (ofScaled lo w)
  let b := roundIEEE f (ofScaled hi w)
  if a = b then some a else none

/-- Correctly rounded sin or cos. -/
def trigR (f : FFmt) (c : Bool) : FVal → Nat
  | .nan => canonNaN f
  | .inf _ => canonNaN f
  | .fin neg m e =>
    if m = 0 then (if c then roundIEEE f (.fin false 1 0) else roundIEEE f (.fin neg 0 0))
    else if (bitLen m : Int) + e < -60 then
      -- |x| < 2^-60: cos x rounds to 1; sin x lies just under x in magnitude
      (if c then roundIEEE f (.fin false 1 0)
       else roundIEEE f (.fin neg (m * 2 ^ 140 - 1) (e - 140)))
    else
      let (l1, h1) := trigBounds 256 c neg m e
      match roundIntBounds f l1 h1 (-(256 + 24)) with
      | some v => v
      | none =>
        let (l2, h2) := trigBounds 640 c neg m e
        (roundIntBounds f l2 h2 (-(640 + 24))).getD (roundIEEE f (ofScaled h2 (-(640 + 24))))

/-! ## The binary32 unit (R44): operations on bit patterns -/

def f32 (w : Nat) : FVal := decodeIEEE fp32 w
def r32 (v : FVal) : Nat := roundIEEE fp32 v
def f32Add (a b : Nat) : Nat := r32 (addV (f32 a) (f32 b))
def f32Neg (a : Nat) : Nat := r32 (negV (f32 a))
def f32Sub (a b : Nat) : Nat := r32 (addV (f32 a) (negV (f32 b)))
def f32Mul (a b : Nat) : Nat := r32 (mulV (f32 a) (f32 b))
/-- A fused multiply-add rounds once (R44). -/
def f32Fma (a b c : Nat) : Nat := r32 (addV (mulV (f32 a) (f32 b)) (f32 c))
def f32Div (a b : Nat) : Nat := r32 (divV (f32 a) (f32 b))
def f32Sqrt (a : Nat) : Nat := r32 (sqrtV (f32 a))
def f32Exp (a : Nat) : Nat := expR fp32 (f32 a)
def f32Rcp (a : Nat) : Nat := r32 (divV (.fin false 1 0) (f32 a))

/-- Correctly rounded reciprocal square root: the quotient of 1 and the radicand is kept
to 160 bits before the root, and the lost part stays in the sticky bits. -/
def rsqrtV : FVal → FVal
  | .nan => .nan
  | .inf a => if a then .nan else .fin false 0 0
  | .fin a m e =>
    if m = 0 then .inf a
    else if a then .nan
    else
      let (q, w) := divSticky 400 1 0 m e
      let (r, v) := sqrtSticky q w
      .fin false r v

def f32Rsqrt (a : Nat) : Nat := r32 (rsqrtV (f32 a))
def f32Lt (a b : Nat) : Bool := ltV (f32 a) (f32 b)
def f32Eq (a b : Nat) : Bool := eqV (f32 a) (f32 b)
def f32Le (a b : Nat) : Bool := leV (f32 a) (f32 b)
def f32IsNaN (a : Nat) : Bool := isNaNV (f32 a)
def f32OfInt (i : Int) : Nat := r32 (ofScaled i 0)
def f32OfNat (n : Nat) : Nat := r32 (.fin false n 0)

/-- +0, 1 and the infinities of binary32. -/
def f32Zero : Nat := 0
def f32One : Nat := 0x3F800000
def f32Inf : Nat := 0x7F800000
def f32NegInf : Nat := 0xFF800000
def f32NaN : Nat := 0x7FC00000

/-! ## The binary64 unit of the island cores (R339) -/

def f64 (w : Nat) : FVal := decodeIEEE fp64 w
def r64 (v : FVal) : Nat := roundIEEE fp64 v
def f64Add (a b : Nat) : Nat := r64 (addV (f64 a) (f64 b))
def f64Sub (a b : Nat) : Nat := r64 (addV (f64 a) (negV (f64 b)))
def f64Mul (a b : Nat) : Nat := r64 (mulV (f64 a) (f64 b))
def f64Div (a b : Nat) : Nat := r64 (divV (f64 a) (f64 b))
def f64Sin (a : Nat) : Nat := trigR fp64 false (f64 a)
def f64Cos (a : Nat) : Nat := trigR fp64 true (f64 a)
def f64Lt (a b : Nat) : Bool := ltV (f64 a) (f64 b)
def f64Le (a b : Nat) : Bool := leV (f64 a) (f64 b)
def f64OfF32 (a : Nat) : Nat := r64 (f32 a)
def f64OfInt (i : Int) : Nat := r64 (ofScaled i 0)
def f32Sin (a : Nat) : Nat := trigR fp32 false (f32 a)
def f32Cos (a : Nat) : Nat := trigR fp32 true (f32 a)

end Sys2Proof.Machine
end

