-- ==== Sys2Proof/Machine/Format.lean ====
section
/-!
DEFINITION. The data formats of Table 2.1, their element encodings (R28, R29), the
conversions of R42 with the counts of R43, block-scaled quantisation (R33), the exact
accumulator (R34–R38) and the ordered path (R39–R41).
-/
namespace Sys2Proof.Machine

/-- The formats of Table 2.1; code 0xF is reserved (R26). -/
inductive Fmt where
  | int8 | uint8 | int4 | e4m3 | e5m2 | e2m1
  | mxint8 | mxe4m3 | mxe5m2 | mxfp4 | bsint4
  | bf16 | fp16 | fp32 | int32
  deriving DecidableEq, Repr

/-- The 4-bit code of Table 2.1. -/
def fmtOfCode : Nat → Option Fmt
  | 0 => some .int8 | 1 => some .uint8 | 2 => some .int4 | 3 => some .e4m3
  | 4 => some .e5m2 | 5 => some .e2m1 | 6 => some .mxint8 | 7 => some .mxe4m3
  | 8 => some .mxe5m2 | 9 => some .mxfp4 | 10 => some .bsint4 | 11 => some .bf16
  | 12 => some .fp16 | 13 => some .fp32 | 14 => some .int32 | _ => none

/-- Stored bits of one element (Table 2.1). -/
def Fmt.bits : Fmt → Nat
  | .int8 | .uint8 | .e4m3 | .e5m2 | .mxint8 | .mxe4m3 | .mxe5m2 => 8
  | .int4 | .e2m1 | .mxfp4 | .bsint4 => 4
  | .bf16 | .fp16 => 16
  | .fp32 | .int32 => 32

/-- The block-scaled formats, codes 0x6–0xA. -/
def Fmt.scaled : Fmt → Bool
  | .mxint8 | .mxe4m3 | .mxe5m2 | .mxfp4 | .bsint4 => true
  | _ => false

/-- The 8-bit and 4-bit group of R27, codes 0x0–0xA. -/
def Fmt.narrowGroup : Fmt → Bool
  | .bf16 | .fp16 | .fp32 | .int32 => false
  | _ => true

/-- Allowed as an array operand (Table 2.1). -/
def Fmt.arrayOperand : Fmt → Bool
  | .fp32 | .int32 => false
  | _ => true

/-- Allowed as an array drain output (Table 2.1). -/
def Fmt.drainOutput (f : Fmt) : Bool := !f.scaled

/-- Allowed as a vector operand outside a conversion (Table 2.1). -/
def Fmt.vectorOperand (f : Fmt) : Bool := !f.scaled

/-- R27: both operands come from one of the two groups. -/
def pairLegal (a b : Fmt) : Bool := a.narrowGroup == b.narrowGroup

/-- The exact path serves operands that both come from codes 0x0–0x5. -/
def exactPath (a b : Fmt) : Bool := a.narrowGroup && b.narrowGroup && !a.scaled && !b.scaled

/-- Two's complement reading of the low `n` bits. -/
def signedOf (n w : Nat) : Int :=
  let v := w % 2 ^ n
  if v < 2 ^ (n - 1) then v else (v : Int) - 2 ^ n

/-- Two's complement bits of an integer. -/
def bitsOf (n : Nat) (i : Int) : Nat := (i % (2 ^ n : Nat)).toNat

/-- The value of one stored element (R28, R29); a block-scaled element is read without
its scale. -/
def elemVal (f : Fmt) (w : Nat) : FVal :=
  match f with
  | .int8 => ofScaled (signedOf 8 w) 0
  | .uint8 => ofScaled (w % 256 : Nat) 0
  | .int4 => ofScaled (signedOf 4 w) 0
  | .e4m3 | .mxe4m3 => decodeE4M3 w
  | .e5m2 | .mxe5m2 => decodeIEEE e5m2 w
  | .e2m1 | .mxfp4 => decodeE2M1 w
  | .mxint8 => ofScaled (signedOf 8 w) (-6)
  | .bsint4 => ofScaled (signedOf 4 w) (-2)
  | .bf16 => decodeIEEE bf16 w
  | .fp16 => decodeIEEE fp16 w
  | .fp32 => decodeIEEE fp32 w
  | .int32 => ofScaled (signedOf 32 w) 0

/-- The result of one conversion: the stored bits, and what R43 counts. -/
structure Conv where
  bits : Nat
  sat  : Nat := 0
  nan  : Nat := 0
  deriving DecidableEq, Repr

/-- A finite value rounded to an integer, to nearest with ties to even (R42). -/
def roundInt (neg : Bool) (m : Nat) (e : Int) : Int :=
  let v : Nat := if 0 ≤ e then m * 2 ^ e.toNat else rneShift m (-e).toNat
  if neg then -(v : Int) else v

/-- Integer targets of Table 2.4. -/
def convInt (n : Nat) (lo hi : Int) : FVal → Conv
  | .nan => { bits := 0, nan := 1 }
  | .inf neg => { bits := bitsOf n (if neg then lo else hi), sat := 1 }
  | .fin neg m e =>
    let v := roundInt neg m e
    if v < lo then { bits := bitsOf n lo, sat := 1 }
    else if hi < v then { bits := bitsOf n hi, sat := 1 }
    else { bits := bitsOf n v }

/-- IEEE targets of Table 2.4. -/
def convIEEE (f : FFmt) (ovf : Bool) : FVal → Conv
  | .nan => { bits := canonNaN f }
  | .inf neg => { bits := signBit f neg + infMag f }
  | .fin neg m e =>
    let (r, q) := roundPrec f m e
    let p := packMag f r q
    if p < infMag f then { bits := signBit f neg + p }
    else if ovf then { bits := signBit f neg + infMag f }
    else { bits := signBit f neg + (infMag f - 1), sat := 1 }

/-- E4M3 of Table 2.4: 448 is pattern 0x7E. -/
def convE4M3 (ovf : Bool) : FVal → Conv
  | .nan => { bits := 0x7F }
  | .inf neg => if ovf then { bits := 0x7F } else { bits := (if neg then 0x80 else 0) + 0x7E, sat := 1 }
  | .fin neg m e =>
    let (r, q) := roundPrec e4m3 m e
    let p := packMag e4m3 r q
    if p ≤ 0x7E then { bits := (if neg then 0x80 else 0) + p }
    else if ovf then { bits := 0x7F }
    else { bits := (if neg then 0x80 else 0) + 0x7E, sat := 1 }

/-- E2M1 of Table 2.4: the same in both modes. -/
def convE2M1 : FVal → Conv
  | .nan => { bits := 0, nan := 1 }
  | .inf neg => { bits := (if neg then 8 else 0) + 7, sat := 1 }
  | .fin neg m e =>
    let (r, q) := roundPrec e2m1 m e
    let p := packMag e2m1 r q
    if p ≤ 7 then { bits := (if neg then 8 else 0) + p }
    else { bits := (if neg then 8 else 0) + 7, sat := 1 }

/-- Conversion of one value to a format (R42, Table 2.4), with the counts of R43. The
element of a block-scaled format is the saturating one of R33. -/
def convertVal (f : Fmt) (ovf : Bool) (v : FVal) : Conv :=
  match f with
  | .int8 => convInt 8 (-128) 127 v
  | .uint8 => convInt 8 0 255 v
  | .int4 => convInt 4 (-8) 7 v
  | .int32 => convInt 32 (-(2 ^ 31)) (2 ^ 31 - 1) v
  | .e4m3 => convE4M3 ovf v
  | .e5m2 => convIEEE e5m2 ovf v
  | .e2m1 | .mxfp4 => convE2M1 v
  | .bf16 => convIEEE bf16 ovf v
  | .fp16 => convIEEE fp16 ovf v
  | .fp32 => convIEEE fp32 ovf v
  | .mxe4m3 => convE4M3 false v
  | .mxe5m2 => convIEEE e5m2 false v
  | .mxint8 => convInt 8 (-128) 127 (mulV v (.fin false 1 6))
  | .bsint4 => convInt 4 (-8) 7 (mulV v (.fin false 1 2))

/-- `emax` of R33: the exponent of the element format's largest power of two. -/
def scaleEmax : Fmt → Int
  | .mxe4m3 => 8
  | .mxe5m2 => 15
  | .mxfp4 => 2
  | _ => 0

/-- A non-finite value. -/
def isSpecialV : FVal → Bool
  | .nan => true
  | .inf _ => true
  | .fin .. => false

/-- `floor (log2 |x|)` of a finite non-zero value. -/
def floorLog2 : FVal → Int
  | .fin _ m e => (bitLen m : Int) - 1 + e
  | _ => 0

/-- The larger magnitude of two finite values. -/
def maxMag (a b : FVal) : FVal := if ltV (absV a) (absV b) then absV b else absV a

/-- A quantised block: its scale byte, its elements and what R43 counts. -/
structure QBlock where
  scale : Nat
  elems : List Nat
  sat   : Nat
  nan   : Nat
  deriving DecidableEq, Repr

/-- Quantisation of one block (R33). -/
def quantBlock (f : Fmt) (xs : List FVal) : QBlock :=
  if xs.any isSpecialV then { scale := 0xFF, elems := xs.map (fun _ => 0), sat := 0, nan := 1 }
  else
    let m := xs.foldl maxMag (.fin false 0 0)
    if isZeroV m then
      { scale := 0x7F, elems := xs.map (fun x => (convertVal f false x).bits), sat := 0, nan := 0 }
    else
      let s := max (-127) (min 127 (floorLog2 m - scaleEmax f))
      let cs := xs.map (fun x => convertVal f false (mulV x (.fin false 1 (-s))))
      { scale := (s + 127).toNat, elems := cs.map (·.bits), sat := (cs.map (·.sat)).sum, nan := 0 }

/-- The factor an E8M0 scale byte stands for (R28); 0xFF is NaN. -/
def scaleVal (s : Nat) : FVal := if s = 0xFF then .nan else .fin false 1 ((s : Int) - 127)

/-! ## The exact path -/

/-- One array cell on the exact path: the accumulator in units of 2^−32 (R34), the sticky
flags (R36) and the product count (R35). -/
structure ExactAcc where
  acc  : Int := 0
  nan  : Bool := false
  pinf : Bool := false
  ninf : Bool := false
  cnt  : Nat := 0
  deriving DecidableEq, Repr

/-- Most products between drains (R35). -/
def maxProducts : Nat := 8388608

/-- One product enters the accumulator, or sets its flag (R34, R36). -/
def ExactAcc.add (c : ExactAcc) (a b : FVal) : ExactAcc :=
  match mulV a b with
  | .nan => { c with nan := true, cnt := c.cnt + 1 }
  | .inf false => { c with pinf := true, cnt := c.cnt + 1 }
  | .inf true => { c with ninf := true, cnt := c.cnt + 1 }
  | .fin neg m e => { c with acc := c.acc + toScaled neg m e (-32), cnt := c.cnt + 1 }

/-- The value a drain starts from, steps 1 to 3 of R38 before the rounding. -/
def ExactAcc.value (c : ExactAcc) : FVal :=
  if c.nan || (c.pinf && c.ninf) then .nan
  else if c.pinf then .inf false
  else if c.ninf then .inf true
  else ofScaled c.acc (-32)

/-- Exact dot product of two element lists, as on the exact path. -/
def exactDot (xs ys : List FVal) : ExactAcc :=
  (xs.zip ys).foldl (fun c p => c.add p.1 p.2) {}

/-! ## The ordered path -/

/-- The value of one scaled block (R39): exact dot product, scaled, rounded once to
FP32. A scale of 0xFF makes the block NaN (R32). Products here may be finer than 2^−32
when an element carries a fraction, so the sum is kept as an exact value. -/
def exactSum (xs ys : List FVal) : FVal :=
  (xs.zip ys).foldl (fun c p => addV c (mulV p.1 p.2)) (.fin false 0 0)

def scaledBlock (sa sb : Nat) (xs ys : List FVal) : Nat :=
  if sa = 0xFF ∨ sb = 0xFF then f32NaN
  else r32 (mulV (exactSum xs ys) (.fin false 1 ((sa : Int) + sb - 254)))

/-- One level of the pairwise tree of R40. -/
def pairSums : List Nat → List Nat
  | a :: b :: r => f32Add a b :: pairSums r
  | [a] => [a]
  | [] => []

/-- The fixed pairwise tree over 32 products (R40); missing products are +0. -/
def treeSum32 (ps : List Nat) : Nat :=
  let p := ps ++ List.replicate (32 - ps.length) 0
  ((pairSums (pairSums (pairSums (pairSums (pairSums p))))).head?).getD 0

/-- One group of 16-bit operands (R40): each product is rounded once to FP32. -/
def group16 (xs ys : List FVal) : Nat :=
  treeSum32 ((xs.zip ys).map (fun p => r32 (mulV p.1 p.2)))

/-- Group or block values enter the FP32 accumulator one at a time, ascending (R41). -/
def orderedAcc (start : Nat) (vs : List Nat) : Nat := vs.foldl f32Add start

end Sys2Proof.Machine
end

