-- ==== Sys2Proof/Machine/RegNames.lean ====
section
/-!
DEFINITION. The set-up registers of the part by name: the address of each register and
the bit range of each field, taken from the register tables of the manual (Table 7.1 gives
the windows). A register that a block holds several times takes its index as an argument.
-/
namespace Sys2Proof.Machine

/-- A field of a register: its highest and lowest bit. -/
structure Fld where
  hi : Nat
  lo : Nat
  deriving DecidableEq, Repr

/-- Width of a field. -/
def Fld.width (f : Fld) : Nat := f.hi + 1 - f.lo

/-- Value of a field of a word. -/
def Fld.get (f : Fld) (w : Word) : Nat := (w.toNat / 2 ^ f.lo) % 2 ^ f.width

/-- A word with a field replaced; the value is cut to the field. -/
def Fld.set (f : Fld) (w : Word) (v : Nat) : Word :=
  w - BitVec.ofNat 64 (f.get w * 2 ^ f.lo) + BitVec.ofNat 64 (v % 2 ^ f.width * 2 ^ f.lo)

/-- TILE_ARITH_CNT, Table 2.5. -/
def rTILE_ARITH_CNT (i : Nat) : Addr := 0x1400000200 + i * 0x10000
/-- DE_ARITH_CNT, Table 2.5. -/
def rDE_ARITH_CNT (i : Nat) : Addr := 0x1400900200 + i * 0x10000
/-- TILE_STATUS, Table 3.18. -/
def rTILE_STATUS (i : Nat) : Addr := 0x1400000000 + i * 0x10000
/-- TILE_LEAP_CFG, Table 3.19. -/
def rTILE_LEAP_CFG (i : Nat) : Addr := 0x1400000100 + i * 0x10000
/-- TILE_LEAP_STAT, Table 3.20. -/
def rTILE_LEAP_STAT (i : Nat) : Addr := 0x1400000108 + i * 0x10000
/-- TILE_ECC_CNT, Table 3.21. -/
def rTILE_ECC_CNT (i : Nat) : Addr := 0x1400000210 + i * 0x10000
/-- GE_STATUS, Table 5.11. -/
def rGE_STATUS (i : Nat) : Addr := 0x1400800000 + i * 0x10000
/-- GE_EVENT_CNT, Table 5.12. -/
def rGE_EVENT_CNT (i : Nat) : Addr := 0x1400800200 + i * 0x10000
/-- GE_ECC_CNT, Table 5.13. -/
def rGE_ECC_CNT (i : Nat) : Addr := 0x1400800210 + i * 0x10000
/-- HUB_KV_SCORE_STAT, Table 6.9. -/
def rHUB_KV_SCORE_STAT : Addr := 0x1401300400
/-- HUB_KV_SCORE_ENT, Table 6.10. -/
def rHUB_KV_SCORE_ENT (k : Nat) : Addr := 0x1401300800 + k * 0x8
/-- DE_KV_CNT, Table 6.11. -/
def rDE_KV_CNT (i : Nat) : Addr := 0x1400900220 + i * 0x10000
/-- HUB_CTX_CFG, Table 7.3. -/
def rHUB_CTX_CFG (i : Nat) : Addr := 0x1402000000 + i * 0x10000
/-- HUB_CTX_SQ, Table 7.4. -/
def rHUB_CTX_SQ (i : Nat) : Addr := 0x1402000008 + i * 0x10000
/-- HUB_CTX_CQ, Table 7.4. -/
def rHUB_CTX_CQ (i : Nat) : Addr := 0x1402000010 + i * 0x10000
/-- HUB_CTX_STATUS, Table 7.5. -/
def rHUB_CTX_STATUS (i : Nat) : Addr := 0x1402000018 + i * 0x10000
/-- HUB_CTX_PTRS, Table 7.6. -/
def rHUB_CTX_PTRS (i : Nat) : Addr := 0x1402000020 + i * 0x10000
/-- HUB_CTX_TAIL_MIRROR, Table 7.7. -/
def rHUB_CTX_TAIL_MIRROR (i : Nat) : Addr := 0x1402000028 + i * 0x10000
/-- HUB_CTX_CNT, Table 7.8. -/
def rHUB_CTX_CNT (i : Nat) : Addr := 0x1402000100 + i * 0x10000
/-- HUB_CTX_RGN_BASE, Table 7.9. -/
def rHUB_CTX_RGN_BASE (i : Nat) (k : Nat) : Addr := 0x1402001000 + i * 0x10000 + k * 0x10
/-- HUB_CTX_RGN_LIM, Table 7.9. -/
def rHUB_CTX_RGN_LIM (i : Nat) (k : Nat) : Addr := 0x1402001008 + i * 0x10000 + k * 0x10
/-- DB_SQ_TAIL, Table 7.2. -/
def rDB_SQ_TAIL (i : Nat) : Addr := 0x1800000000 + i * 0x1000
/-- DB_CQ_HEAD, Table 7.2. -/
def rDB_CQ_HEAD (i : Nat) : Addr := 0x1800000008 + i * 0x1000
/-- HUB_SLOT_CFG, Table 7.17. -/
def rHUB_SLOT_CFG (k : Nat) : Addr := 0x1401302000 + k * 0x8
/-- HUB_IRQ_STATUS, Table 7.20. -/
def rHUB_IRQ_STATUS : Addr := 0x1401300100
/-- HUB_IRQ_EN, Table 7.20. -/
def rHUB_IRQ_EN : Addr := 0x1401300108
/-- QOS_CLS_SCHED, Table 8.1. -/
def rQOS_CLS_SCHED (k : Nat) : Addr := 0x1401320100 + k * 0x8
/-- HUB_CTX_JOB_STAT, Table 8.3. -/
def rHUB_CTX_JOB_STAT (i : Nat) : Addr := 0x1402000030 + i * 0x10000
/-- HUB_CTX_WAIT_SUM, Table 8.5. -/
def rHUB_CTX_WAIT_SUM (i : Nat) : Addr := 0x1402000200 + i * 0x10000
/-- HUB_CTX_WAIT_MAX, Table 8.5. -/
def rHUB_CTX_WAIT_MAX (i : Nat) : Addr := 0x1402000208 + i * 0x10000
/-- HUB_CTX_PRE_CNT, Table 8.5. -/
def rHUB_CTX_PRE_CNT (i : Nat) : Addr := 0x1402000210 + i * 0x10000
/-- HUB_CTX_LOST_SUM, Table 8.5. -/
def rHUB_CTX_LOST_SUM (i : Nat) : Addr := 0x1402000218 + i * 0x10000
/-- HUB_CTX_ACC_CLR, Table 8.5. -/
def rHUB_CTX_ACC_CLR (i : Nat) : Addr := 0x1402000220 + i * 0x10000
/-- HUB_CTX_HIST, Table 8.5. -/
def rHUB_CTX_HIST (i : Nat) (k : Nat) : Addr := 0x1402000280 + i * 0x10000 + k * 0x8
/-- CD_SCHED_CFG, Table 8.6. -/
def rCD_SCHED_CFG (i : Nat) : Addr := 0x1400b00100 + i * 0x10000
/-- CD_SCHED_STAT, Table 8.6. -/
def rCD_SCHED_STAT (i : Nat) : Addr := 0x1400b00108 + i * 0x10000
/-- CD_ERR_CNT, Table 8.8. -/
def rCD_ERR_CNT (i : Nat) : Addr := 0x1400b00200 + i * 0x10000
/-- SH_CFG, Table 9.12. -/
def rSH_CFG : Addr := 0x1401330000
/-- SH_STATUS, Table 9.13. -/
def rSH_STATUS : Addr := 0x1401330008
/-- SH_INSTANT, Table 9.14. -/
def rSH_INSTANT : Addr := 0x1401330010
/-- SH_FREE_BEFORE, Table 9.14. -/
def rSH_FREE_BEFORE : Addr := 0x1401330018
/-- SH_EVT, Table 9.15. -/
def rSH_EVT : Addr := 0x1401330020
/-- SH_CAL_STAT, Table 9.16. -/
def rSH_CAL_STAT : Addr := 0x1401330028
/-- SH_CAL_SAVED, Table 9.17. -/
def rSH_CAL_SAVED : Addr := 0x1401330030
/-- SH_CAL_LIM, Table 9.18. -/
def rSH_CAL_LIM : Addr := 0x1401330040
/-- SH_SENS_STAT, Table 9.19. -/
def rSH_SENS_STAT (k : Nat) : Addr := 0x1401330400 + k * 0x8
/-- SH_SENS_CNT, Table 9.20. -/
def rSH_SENS_CNT (k : Nat) : Addr := 0x1401330800 + k * 0x8
/-- PC_PLAN_CFG, Table 10.9. -/
def rPC_PLAN_CFG : Addr := 0x1401001000
/-- PC_PLAN_BASE, Table 10.9. -/
def rPC_PLAN_BASE : Addr := 0x1401001008
/-- PC_PLAN_AGE, Table 10.9. -/
def rPC_PLAN_AGE : Addr := 0x1401001010
/-- PC_PLAN_STAT, Table 10.9. -/
def rPC_PLAN_STAT : Addr := 0x1401001018
/-- PC_LIM_K, Table 10.9. -/
def rPC_LIM_K : Addr := 0x1401001020
/-- PC_LIM_SR, Table 10.9. -/
def rPC_LIM_SR : Addr := 0x1401001028
/-- PC_LIM_A, Table 10.9. -/
def rPC_LIM_A : Addr := 0x1401001030
/-- PC_LIM_WJ, Table 10.9. -/
def rPC_LIM_WJ : Addr := 0x1401001038
/-- PC_LIM_V, Table 10.9. -/
def rPC_LIM_V : Addr := 0x1401001040
/-- PC_LIM_SIZE, Table 10.9. -/
def rPC_LIM_SIZE : Addr := 0x1401001048
/-- PC_LIM_REAR, Table 10.9. -/
def rPC_LIM_REAR : Addr := 0x1401001050
/-- PC_WEIGHTS, Table 10.9. -/
def rPC_WEIGHTS : Addr := 0x1401001058
/-- PC_OUT_CNT0, Table 10.9. -/
def rPC_OUT_CNT0 : Addr := 0x1401001100
/-- PC_OUT_CNT1, Table 10.9. -/
def rPC_OUT_CNT1 : Addr := 0x1401001108
/-- PC_OUT_CNT2, Table 10.9. -/
def rPC_OUT_CNT2 : Addr := 0x1401001110
/-- PC_OUT_CNT3, Table 10.9. -/
def rPC_OUT_CNT3 : Addr := 0x1401001118
/-- PC_BAND, Table 10.9. -/
def rPC_BAND (k : Nat) : Addr := 0x1401001080 + k * 0x8
/-- PC_STATUS, Table 10.11. -/
def rPC_STATUS (i : Nat) : Addr := 0x1401000000 + i * 0x10000
/-- PC_CNT, Table 10.11. -/
def rPC_CNT (i : Nat) : Addr := 0x1401000200 + i * 0x10000
/-- PC_REJ_CNT, Table 10.11. -/
def rPC_REJ_CNT (i : Nat) : Addr := 0x1401000208 + i * 0x10000
/-- MC_STATUS, Table 11.7. -/
def rMC_STATUS (i : Nat) : Addr := 0x1400c00000 + i * 0x10000
/-- MC_CFG, Table 11.8. -/
def rMC_CFG (i : Nat) : Addr := 0x1400c00008 + i * 0x10000
/-- MC_DLY_CTRL, Table 11.9. -/
def rMC_DLY_CTRL (i : Nat) : Addr := 0x1400c00010 + i * 0x10000
/-- MC_DLY_BASE, Table 11.9. -/
def rMC_DLY_BASE (i : Nat) : Addr := 0x1400c00018 + i * 0x10000
/-- MC_DLY_RD, Table 11.9. -/
def rMC_DLY_RD (i : Nat) (k : Nat) : Addr := 0x1400c00020 + i * 0x10000 + k * 0x8
/-- MC_DLY_WR, Table 11.9. -/
def rMC_DLY_WR (i : Nat) (k : Nat) : Addr := 0x1400c00038 + i * 0x10000 + k * 0x8
/-- MC_ECC_CNT, Table 11.10. -/
def rMC_ECC_CNT (i : Nat) : Addr := 0x1400c00200 + i * 0x10000
/-- MC_PAR_CNT, Table 11.10. -/
def rMC_PAR_CNT (i : Nat) : Addr := 0x1400c00208 + i * 0x10000
/-- MC_HAZ_CNT, Table 11.10. -/
def rMC_HAZ_CNT (i : Nat) : Addr := 0x1400c00210 + i * 0x10000
/-- MC_POISON_CNT, Table 11.10. -/
def rMC_POISON_CNT (i : Nat) : Addr := 0x1400c00218 + i * 0x10000
/-- SC_MAINT, Table 11.11. -/
def rSC_MAINT : Addr := 0x1401310000
/-- SC_WAYMASK, Table 11.11. -/
def rSC_WAYMASK (k : Nat) : Addr := 0x1401310100 + k * 0x8
/-- SC_ECC_CNT, Table 11.11. -/
def rSC_ECC_CNT : Addr := 0x1401310200
/-- SC_CLS_HIT, Table 11.11. -/
def rSC_CLS_HIT (k : Nat) : Addr := 0x1401310400 + k * 0x10
/-- SC_CLS_MISS, Table 11.11. -/
def rSC_CLS_MISS (k : Nat) : Addr := 0x1401310408 + k * 0x10
/-- SC_CLS_OCC, Table 11.11. -/
def rSC_CLS_OCC (k : Nat) : Addr := 0x1401310600 + k * 0x8
/-- QOS_CFG, Table 12.4. -/
def rQOS_CFG : Addr := 0x1401320000
/-- QOS_CLS_REG, Table 12.5. -/
def rQOS_CLS_REG (k : Nat) : Addr := 0x1401320200 + k * 0x8
/-- QOS_OCC_STAT, Table 12.6. -/
def rQOS_OCC_STAT : Addr := 0x1401320300
/-- QOS_PORT_BKT, Table 12.7. -/
def rQOS_PORT_BKT (k : Nat) : Addr := 0x1401320400 + k * 0x20
/-- QOS_PORT_CEIL, Table 12.7. -/
def rQOS_PORT_CEIL (k : Nat) : Addr := 0x1401320408 + k * 0x20
/-- QOS_PORT_URG, Table 12.7. -/
def rQOS_PORT_URG (k : Nat) : Addr := 0x1401320410 + k * 0x20
/-- QOS_PORT_TOK, Table 12.7. -/
def rQOS_PORT_TOK (k : Nat) : Addr := 0x1401320418 + k * 0x20
/-- QOS_PORT_GBYTES, Table 12.8. -/
def rQOS_PORT_GBYTES (k : Nat) : Addr := 0x1401321000 + k * 0x20
/-- QOS_PORT_SBYTES, Table 12.8. -/
def rQOS_PORT_SBYTES (k : Nat) : Addr := 0x1401321008 + k * 0x20
/-- QOS_PORT_HOLD, Table 12.8. -/
def rQOS_PORT_HOLD (k : Nat) : Addr := 0x1401321010 + k * 0x20
/-- QOS_PORT_URGCNT, Table 12.8. -/
def rQOS_PORT_URGCNT (k : Nat) : Addr := 0x1401321018 + k * 0x20
/-- QOS_CLS_SHARED, Table 12.9. -/
def rQOS_CLS_SHARED (k : Nat) : Addr := 0x1401322000 + k * 0x8
/-- SK_CONN_STATUS, Table 13.9. -/
def rSK_CONN_STATUS (i : Nat) : Addr := 0x1401100000 + i * 0x10000
/-- SK_CONN_CFG, Table 13.9. -/
def rSK_CONN_CFG (i : Nat) : Addr := 0x1401100008 + i * 0x10000
/-- SK_MAP_LO, Table 13.9. -/
def rSK_MAP_LO (i : Nat) (k : Nat) : Addr := 0x1401100100 + i * 0x10000 + k * 0x10
/-- SK_MAP_HI, Table 13.9. -/
def rSK_MAP_HI (i : Nat) (k : Nat) : Addr := 0x1401100108 + i * 0x10000 + k * 0x10
/-- SK_CONN_EVT, Table 13.9. -/
def rSK_CONN_EVT (i : Nat) : Addr := 0x1401100600 + i * 0x10000
/-- SK_BCRC, Table 13.9. -/
def rSK_BCRC (i : Nat) (k : Nat) : Addr := 0x1401100400 + i * 0x10000 + k * 0x8
/-- SK_DIE_STATE, Table 13.10. -/
def rSK_DIE_STATE : Addr := 0x14011a0000
/-- SK_DIE_CTRL, Table 13.10. -/
def rSK_DIE_CTRL : Addr := 0x14011a0008
/-- SK_QLOG_HEAD, Table 13.10. -/
def rSK_QLOG_HEAD : Addr := 0x14011a0010
/-- SK_QLOG_TIME, Table 13.10. -/
def rSK_QLOG_TIME (k : Nat) : Addr := 0x14011a0100 + k * 0x10
/-- SK_QLOG_INFO, Table 13.10. -/
def rSK_QLOG_INFO (k : Nat) : Addr := 0x14011a0108 + k * 0x10
/-- CH_CFG, Table 14.7. -/
def rCH_CFG : Addr := 0x1401340000
/-- CH_STATUS, Table 14.7. -/
def rCH_STATUS : Addr := 0x1401340008
/-- CH_VIEW, Table 14.8. -/
def rCH_VIEW : Addr := 0x1401340010
/-- CH_VIEW_ADDR, Table 14.8. -/
def rCH_VIEW_ADDR : Addr := 0x1401340018
/-- CH_BAR_CFG, Table 14.8. -/
def rCH_BAR_CFG : Addr := 0x1401340020
/-- CH_ARRIVE_ADDR, Table 14.8. -/
def rCH_ARRIVE_ADDR : Addr := 0x1401340028
/-- CH_RELEASE_ADDR, Table 14.8. -/
def rCH_RELEASE_ADDR : Addr := 0x1401340030
/-- CH_BAR_STAT, Table 14.8. -/
def rCH_BAR_STAT : Addr := 0x1401340038
/-- CH_RSP_CFG, Table 14.8. -/
def rCH_RSP_CFG : Addr := 0x1401340040
/-- CH_ROUTE, Table 14.8. -/
def rCH_ROUTE (k : Nat) : Addr := 0x1401340100 + k * 0x8
/-- CH_EVT_CNT, Table 14.8. -/
def rCH_EVT_CNT : Addr := 0x1401340200
/-- CH_ERR_CNT, Table 14.8. -/
def rCH_ERR_CNT : Addr := 0x1401340208
/-- CH_ACC_CNT, Table 14.8. -/
def rCH_ACC_CNT : Addr := 0x1401340210
/-- CH_INRGN_BASE, Table 14.9. -/
def rCH_INRGN_BASE (k : Nat) : Addr := 0x1401341000 + k * 0x10
/-- CH_INRGN_LIM, Table 14.9. -/
def rCH_INRGN_LIM (k : Nat) : Addr := 0x1401341008 + k * 0x10
/-- DL_CFG, Table 14.10. -/
def rDL_CFG (i : Nat) : Addr := 0x1401200000 + i * 0x10000
/-- DL_STATUS, Table 14.10. -/
def rDL_STATUS (i : Nat) : Addr := 0x1401200008 + i * 0x10000
/-- DL_CNT, Table 14.10. -/
def rDL_CNT (i : Nat) : Addr := 0x1401200200 + i * 0x10000
/-- DL_LINK_CNT, Table 14.10. -/
def rDL_LINK_CNT (i : Nat) : Addr := 0x1401200208 + i * 0x10000
/-- SI_STATUS, Table 15.8. -/
def rSI_STATUS (i : Nat) : Addr := 0x1401400000 + i * 0x10000
/-- SI_CFG, Table 15.9. -/
def rSI_CFG (i : Nat) : Addr := 0x1401400008 + i * 0x10000
/-- SI_TIMING, Table 15.9. -/
def rSI_TIMING (i : Nat) : Addr := 0x1401400010 + i * 0x10000
/-- SI_VIEW, Table 15.9. -/
def rSI_VIEW (i : Nat) : Addr := 0x1401400018 + i * 0x10000
/-- SI_CRIT, Table 15.9. -/
def rSI_CRIT (i : Nat) : Addr := 0x1401400020 + i * 0x10000
/-- SI_RGN_BASE, Table 15.9. -/
def rSI_RGN_BASE (i : Nat) (k : Nat) : Addr := 0x1401400040 + i * 0x10000 + k * 0x10
/-- SI_RGN_LIM, Table 15.9. -/
def rSI_RGN_LIM (i : Nat) (k : Nat) : Addr := 0x1401400048 + i * 0x10000 + k * 0x10
/-- SI_DIV, Table 15.9. -/
def rSI_DIV (i : Nat) : Addr := 0x14014001c0 + i * 0x10000
/-- SI_EFT, Table 15.9. -/
def rSI_EFT (i : Nat) : Addr := 0x14014001c8 + i * 0x10000
/-- SI_CAN, Table 15.9. -/
def rSI_CAN (i : Nat) : Addr := 0x1401400200 + i * 0x10000
/-- SI_ETH, Table 15.9. -/
def rSI_ETH (i : Nat) : Addr := 0x1401400208 + i * 0x10000
/-- SI_ETH2, Table 15.9. -/
def rSI_ETH2 (i : Nat) : Addr := 0x1401400210 + i * 0x10000
/-- SI_CFG_CRC, Table 15.9. -/
def rSI_CFG_CRC (i : Nat) : Addr := 0x1401400218 + i * 0x10000
/-- SI_CTRL, Table 15.9. -/
def rSI_CTRL (i : Nat) : Addr := 0x1401400220 + i * 0x10000
/-- SI_LIM_K, Table 15.9. -/
def rSI_LIM_K (i : Nat) : Addr := 0x1401400100 + i * 0x10000
/-- SI_LIM_SR, Table 15.9. -/
def rSI_LIM_SR (i : Nat) : Addr := 0x1401400108 + i * 0x10000
/-- SI_LIM_A, Table 15.9. -/
def rSI_LIM_A (i : Nat) : Addr := 0x1401400110 + i * 0x10000
/-- SI_LIM_WJ, Table 15.9. -/
def rSI_LIM_WJ (i : Nat) : Addr := 0x1401400118 + i * 0x10000
/-- SI_LIM_V, Table 15.9. -/
def rSI_LIM_V (i : Nat) : Addr := 0x1401400120 + i * 0x10000
/-- SI_LIM_SIZE, Table 15.9. -/
def rSI_LIM_SIZE (i : Nat) : Addr := 0x1401400128 + i * 0x10000
/-- SI_LIM_REAR, Table 15.9. -/
def rSI_LIM_REAR (i : Nat) : Addr := 0x1401400130 + i * 0x10000
/-- SI_LIM_BAND, Table 15.9. -/
def rSI_LIM_BAND (i : Nat) (k : Nat) : Addr := 0x1401400160 + i * 0x10000 + k * 0x8
/-- SI_TX_CNT, Table 15.10. -/
def rSI_TX_CNT (i : Nat) : Addr := 0x1401400300 + i * 0x10000
/-- SI_OUT_CNT, Table 15.10. -/
def rSI_OUT_CNT (i : Nat) : Addr := 0x1401400308 + i * 0x10000
/-- SI_FALL_CNT, Table 15.10. -/
def rSI_FALL_CNT (i : Nat) : Addr := 0x1401400310 + i * 0x10000
/-- SI_DIS_CNT, Table 15.10. -/
def rSI_DIS_CNT (i : Nat) : Addr := 0x1401400318 + i * 0x10000
/-- SI_AGE_CNT, Table 15.10. -/
def rSI_AGE_CNT (i : Nat) : Addr := 0x1401400320 + i * 0x10000
/-- HUB_TEST_CFG, Table 16.3. -/
def rHUB_TEST_CFG : Addr := 0x1401303000
/-- HUB_TEST_BASE, Table 16.3. -/
def rHUB_TEST_BASE : Addr := 0x1401303008
/-- HUB_UNTESTED, Table 16.3. -/
def rHUB_UNTESTED (k : Nat) : Addr := 0x1401303010 + k * 0x8
/-- HUB_TEST_FAIL, Table 16.3. -/
def rHUB_TEST_FAIL (k : Nat) : Addr := 0x1401303028 + k * 0x8
/-- HUB_TEST_RETEST, Table 16.3. -/
def rHUB_TEST_RETEST : Addr := 0x1401303040
/-- HUB_TEST_LAST, Table 16.3. -/
def rHUB_TEST_LAST : Addr := 0x1401303048
/-- HUB_TEST_LASTI, Table 16.3. -/
def rHUB_TEST_LASTI : Addr := 0x1401303050
/-- HUB_TEST_CNT, Table 16.3. -/
def rHUB_TEST_CNT : Addr := 0x1401303200
/-- HUB_TEST_CNT2, Table 16.3. -/
def rHUB_TEST_CNT2 : Addr := 0x1401303208
/-- PM_CTRL, Table 17.9. -/
def rPM_CTRL : Addr := 0x1401350000
/-- PM_STATUS, Table 17.9. -/
def rPM_STATUS : Addr := 0x1401350008
/-- PM_CLK, Table 17.9. -/
def rPM_CLK : Addr := 0x1401350010
/-- PM_GATE_CFG, Table 17.9. -/
def rPM_GATE_CFG : Addr := 0x1401350018
/-- PM_WAKE_CFG, Table 17.10. -/
def rPM_WAKE_CFG : Addr := 0x1401350020
/-- PM_WAKE_TIMER, Table 17.10. -/
def rPM_WAKE_TIMER : Addr := 0x1401350028
/-- PM_WAKE_CAUSE, Table 17.10. -/
def rPM_WAKE_CAUSE : Addr := 0x1401350030
/-- PM_WAKE_DTIME, Table 17.10. -/
def rPM_WAKE_DTIME : Addr := 0x1401350038
/-- PM_BRU_CFG, Table 17.10. -/
def rPM_BRU_CFG : Addr := 0x1401350040
/-- PM_BRU_STEP, Table 17.10. -/
def rPM_BRU_STEP (k : Nat) : Addr := 0x1401350100 + k * 0x8
/-- PM_BRU_VAL, Table 17.10. -/
def rPM_BRU_VAL (k : Nat) : Addr := 0x1401350180 + k * 0x8
/-- PM_REF_LAST, Table 17.11. -/
def rPM_REF_LAST : Addr := 0x1401350200
/-- PM_REF_INFO, Table 17.11. -/
def rPM_REF_INFO : Addr := 0x1401350208
/-- PM_REF_CNT, Table 17.11. -/
def rPM_REF_CNT (k : Nat) : Addr := 0x1401350210 + k * 0x8
/-- PM_FORCE_CNT, Table 17.11. -/
def rPM_FORCE_CNT : Addr := 0x1401350258
/-- TH_CFG, Table 18.7. -/
def rTH_CFG : Addr := 0x1401360000
/-- TH_STATUS, Table 18.7. -/
def rTH_STATUS : Addr := 0x1401360008
/-- TH_COOL, Table 18.7. -/
def rTH_COOL : Addr := 0x1401360010
/-- TH_POWER, Table 18.7. -/
def rTH_POWER : Addr := 0x1401360018
/-- TH_LVL_FLOW, Table 18.7. -/
def rTH_LVL_FLOW : Addr := 0x1401360020
/-- TH_LVL_RJC, Table 18.7. -/
def rTH_LVL_RJC : Addr := 0x1401360028
/-- TH_LVL_HEAD, Table 18.7. -/
def rTH_LVL_HEAD : Addr := 0x1401360030
/-- TH_CLAMP_CFG, Table 18.7. -/
def rTH_CLAMP_CFG : Addr := 0x1401360038
/-- TH_BASK, Table 18.7. -/
def rTH_BASK : Addr := 0x1401360040
/-- TH_SENS, Table 18.8. -/
def rTH_SENS (k : Nat) : Addr := 0x1401360100 + k * 0x8
/-- TH_PAIR_FLAG, Table 18.8. -/
def rTH_PAIR_FLAG : Addr := 0x1401360400
/-- TH_EVT_CNT, Table 18.8. -/
def rTH_EVT_CNT : Addr := 0x1401360500
/-- TH_LVL_CNT, Table 18.8. -/
def rTH_LVL_CNT : Addr := 0x1401360508
/-- TH_IN_CNT, Table 18.8. -/
def rTH_IN_CNT : Addr := 0x1401360510
/-- TH_WEAR_SEC, Table 18.8. -/
def rTH_WEAR_SEC : Addr := 0x1401360600
/-- TH_WEAR_LAST, Table 18.8. -/
def rTH_WEAR_LAST : Addr := 0x1401360608
/-- TH_WEAR_CYC, Table 18.8. -/
def rTH_WEAR_CYC (k : Nat) : Addr := 0x1401360610 + k * 0x8
/-- JN_STATUS, Table 19.9. -/
def rJN_STATUS : Addr := 0x1401370000
/-- JN_BOOT, Table 19.9. -/
def rJN_BOOT : Addr := 0x1401370008
/-- JN_FILL, Table 19.9. -/
def rJN_FILL : Addr := 0x1401370010
/-- JN_SEQ, Table 19.9. -/
def rJN_SEQ : Addr := 0x1401370018
/-- JN_APPEND_SRC, Table 19.9. -/
def rJN_APPEND_SRC : Addr := 0x1401370020
/-- JN_APPEND, Table 19.9. -/
def rJN_APPEND : Addr := 0x1401370028
/-- JN_APPEND_STAT, Table 19.9. -/
def rJN_APPEND_STAT : Addr := 0x1401370030
/-- JN_REPLAY, Table 19.9. -/
def rJN_REPLAY : Addr := 0x1401370038
/-- JN_REPLAY_LEN, Table 19.9. -/
def rJN_REPLAY_LEN : Addr := 0x1401370040
/-- JN_FUSE, Table 19.9. -/
def rJN_FUSE : Addr := 0x1401370048
/-- JN_ERASE, Table 19.9. -/
def rJN_ERASE : Addr := 0x1401370050
/-- JN_CTRL, Table 19.9. -/
def rJN_CTRL : Addr := 0x1401370058
/-- JN_CNT, Table 19.9. -/
def rJN_CNT : Addr := 0x1401370200
/-- JN_CNT2, Table 19.9. -/
def rJN_CNT2 : Addr := 0x1401370208
/-- PM_BIST_CFG, Table 19.10. -/
def rPM_BIST_CFG : Addr := 0x1401350300
/-- PM_BIST_STAT, Table 19.10. -/
def rPM_BIST_STAT : Addr := 0x1401350308
/-- TR_CFG, Table 20.6. -/
def rTR_CFG : Addr := 0x1401380000
/-- TR_STATUS, Table 20.6. -/
def rTR_STATUS : Addr := 0x1401380008
/-- TR_STREAM_RD, Table 20.7. -/
def rTR_STREAM_RD : Addr := 0x1401380038
/-- TR_STREAM_WR, Table 20.7. -/
def rTR_STREAM_WR : Addr := 0x1401380040
/-- TR_CTRL, Table 20.7. -/
def rTR_CTRL : Addr := 0x1401380010
/-- TR_TRIG_CFG, Table 20.7. -/
def rTR_TRIG_CFG : Addr := 0x1401380018
/-- TR_FILTER, Table 20.7. -/
def rTR_FILTER : Addr := 0x1401380020
/-- TR_RD, Table 20.7. -/
def rTR_RD : Addr := 0x1401380028
/-- TR_STREAM_BASE, Table 20.7. -/
def rTR_STREAM_BASE : Addr := 0x1401380030
/-- TR_DUMP, Table 20.7. -/
def rTR_DUMP : Addr := 0x1401380048
/-- TR_DUMP_LEN, Table 20.7. -/
def rTR_DUMP_LEN : Addr := 0x1401380050
/-- TR_HART_CTX, Table 20.7. -/
def rTR_HART_CTX (k : Nat) : Addr := 0x1401380100 + k * 0x8
/-- TR_DROP_CNT, Table 20.7. -/
def rTR_DROP_CNT : Addr := 0x1401380200
/-- TR_DROP_CNT2, Table 20.7. -/
def rTR_DROP_CNT2 : Addr := 0x1401380208
/-- TR_DENY_CNT, Table 20.7. -/
def rTR_DENY_CNT : Addr := 0x1401380210
/-- TR_ENG_CMD, Table 20.8. -/
def rTR_ENG_CMD (k : Nat) : Addr := 0x1401382000 + k * 0x20
/-- TR_ENG_ACT, Table 20.8. -/
def rTR_ENG_ACT (k : Nat) : Addr := 0x1401382008 + k * 0x20
/-- TR_ENG_BYTES, Table 20.8. -/
def rTR_ENG_BYTES (k : Nat) : Addr := 0x1401382010 + k * 0x20
/-- TR_ENG_HOLD, Table 20.8. -/
def rTR_ENG_HOLD (k : Nat) : Addr := 0x1401382018 + k * 0x20
/-- TR_AUTH_CMD, Table 20.9. -/
def rTR_AUTH_CMD : Addr := 0x1401388000
/-- TR_AUTH_STAT, Table 20.9. -/
def rTR_AUTH_STAT : Addr := 0x1401388008
/-- TR_AUTH_CHAL, Table 20.9. -/
def rTR_AUTH_CHAL (k : Nat) : Addr := 0x1401388100 + k * 0x8
/-- TR_AUTH_KEY, Table 20.9. -/
def rTR_AUTH_KEY (k : Nat) : Addr := 0x1401388200 + k * 0x8
/-- TR_AUTH_SIG, Table 20.9. -/
def rTR_AUTH_SIG (k : Nat) : Addr := 0x1401388300 + k * 0x8
/-- IO_TIME_CFG, Table 21.3. -/
def rIO_TIME_CFG : Addr := 0x1401390000
/-- IO_TIME_STAT, Table 21.3. -/
def rIO_TIME_STAT : Addr := 0x1401390008
/-- IO_TIME_CNT, Table 21.3. -/
def rIO_TIME_CNT : Addr := 0x1401390010
/-- IO_TIME_CNT2, Table 21.3. -/
def rIO_TIME_CNT2 : Addr := 0x1401390018
/-- IO_TIME_SET, Table 21.3. -/
def rIO_TIME_SET : Addr := 0x1401390020
/-- IO_TIME_ALT, Table 21.3. -/
def rIO_TIME_ALT : Addr := 0x1401390028
/-- IO_CAM_PHY, Table 21.4. -/
def rIO_CAM_PHY : Addr := 0x1401390100
/-- IO_GPIO_DIR, Table 21.4. -/
def rIO_GPIO_DIR : Addr := 0x1401390200
/-- IO_GPIO_DATA, Table 21.4. -/
def rIO_GPIO_DATA : Addr := 0x1401390208
/-- IO_GPIO_FILT, Table 21.4. -/
def rIO_GPIO_FILT : Addr := 0x1401390210
/-- IO_MAC_CNT, Table 21.4. -/
def rIO_MAC_CNT (k : Nat) : Addr := 0x1401390300 + k * 0x8
/-- IO_XSPI_CMD, Table 21.4. -/
def rIO_XSPI_CMD : Addr := 0x1401390400
/-- IO_XSPI_BUF, Table 21.4. -/
def rIO_XSPI_BUF : Addr := 0x1401390408
/-- SI_IO_CNT, Table 21.4. -/
def rSI_IO_CNT (i : Nat) : Addr := 0x1401400328 + i * 0x10000
/-- HUB_ID, Table 22.10. -/
def rHUB_ID : Addr := 0x1401300000
/-- HUB_UID, Table 22.10. -/
def rHUB_UID : Addr := 0x1401300008
def fTILE_ARITH_CNT_SAT_CNT : Fld := { hi := 63, lo := 40 }
def fTILE_ARITH_CNT_NAN_CNT : Fld := { hi := 39, lo := 16 }
def fTILE_ARITH_CNT_CLR : Fld := { hi := 0, lo := 0 }
def fDE_ARITH_CNT_SAT_CNT : Fld := { hi := 63, lo := 40 }
def fDE_ARITH_CNT_NAN_CNT : Fld := { hi := 39, lo := 16 }
def fDE_ARITH_CNT_CLR : Fld := { hi := 0, lo := 0 }
def fTILE_STATUS_CTX : Fld := { hi := 37, lo := 32 }
def fTILE_STATUS_SLICE : Fld := { hi := 31, lo := 20 }
def fTILE_STATUS_ENTRY : Fld := { hi := 19, lo := 10 }
def fTILE_STATUS_UNDRAINED : Fld := { hi := 7, lo := 7 }
def fTILE_STATUS_UNTESTED : Fld := { hi := 6, lo := 6 }
def fTILE_STATUS_STATE : Fld := { hi := 3, lo := 0 }
def fTILE_LEAP_CFG_GAP_LIMIT_NS : Fld := { hi := 31, lo := 0 }
def fTILE_LEAP_STAT_GAP_CNT : Fld := { hi := 63, lo := 40 }
def fTILE_LEAP_STAT_MAX_GAP_NS : Fld := { hi := 39, lo := 8 }
def fTILE_LEAP_STAT_CLR : Fld := { hi := 0, lo := 0 }
def fTILE_ECC_CNT_CE_CNT : Fld := { hi := 63, lo := 40 }
def fTILE_ECC_CNT_UE_CNT : Fld := { hi := 39, lo := 16 }
def fTILE_ECC_CNT_CLR : Fld := { hi := 0, lo := 0 }
def fGE_STATUS_CTX : Fld := { hi := 37, lo := 32 }
def fGE_STATUS_SOP : Fld := { hi := 31, lo := 24 }
def fGE_STATUS_PART : Fld := { hi := 23, lo := 20 }
def fGE_STATUS_SUSPENDED : Fld := { hi := 19, lo := 15 }
def fGE_STATUS_RESIDENT : Fld := { hi := 14, lo := 14 }
def fGE_STATUS_UNTESTED : Fld := { hi := 6, lo := 6 }
def fGE_STATUS_STATE : Fld := { hi := 3, lo := 0 }
def fGE_EVENT_CNT_OVF_CNT : Fld := { hi := 63, lo := 40 }
def fGE_EVENT_CNT_LOAD_CNT : Fld := { hi := 39, lo := 16 }
def fGE_EVENT_CNT_CLR : Fld := { hi := 0, lo := 0 }
def fGE_ECC_CNT_CE_CNT : Fld := { hi := 63, lo := 40 }
def fGE_ECC_CNT_UE_CNT : Fld := { hi := 39, lo := 16 }
def fGE_ECC_CNT_CLR : Fld := { hi := 0, lo := 0 }
def fHUB_KV_SCORE_STAT_REFUSE_CNT : Fld := { hi := 63, lo := 40 }
def fHUB_KV_SCORE_STAT_USED : Fld := { hi := 22, lo := 16 }
def fHUB_KV_SCORE_STAT_CLR : Fld := { hi := 0, lo := 0 }
def fHUB_KV_SCORE_ENT_VALID : Fld := { hi := 63, lo := 63 }
def fHUB_KV_SCORE_ENT_CTX : Fld := { hi := 55, lo := 50 }
def fHUB_KV_SCORE_ENT_SEQ : Fld := { hi := 43, lo := 0 }
def fDE_KV_CNT_APPEND_CNT : Fld := { hi := 63, lo := 40 }
def fDE_KV_CNT_EVICT_CNT : Fld := { hi := 39, lo := 16 }
def fDE_KV_CNT_CLR : Fld := { hi := 0, lo := 0 }
def fHUB_CTX_CFG_MAX_CLASS : Fld := { hi := 47, lo := 44 }
def fHUB_CTX_CFG_CLASS : Fld := { hi := 43, lo := 40 }
def fHUB_CTX_CFG_GCNT : Fld := { hi := 35, lo := 35 }
def fHUB_CTX_CFG_SCORE_MODE : Fld := { hi := 34, lo := 34 }
def fHUB_CTX_CFG_IRQ_EN : Fld := { hi := 32, lo := 32 }
def fHUB_CTX_CFG_ENABLE : Fld := { hi := 0, lo := 0 }
def fHUB_CTX_SQ_BASE : Fld := { hi := 43, lo := 12 }
def fHUB_CTX_SQ_LOG2 : Fld := { hi := 4, lo := 0 }
def fHUB_CTX_CQ_BASE : Fld := { hi := 43, lo := 12 }
def fHUB_CTX_CQ_LOG2 : Fld := { hi := 4, lo := 0 }
def fHUB_CTX_STATUS_JOB_TAG : Fld := { hi := 63, lo := 32 }
def fHUB_CTX_STATUS_INFLIGHT : Fld := { hi := 23, lo := 16 }
def fHUB_CTX_STATUS_DB_RANGE : Fld := { hi := 11, lo := 11 }
def fHUB_CTX_STATUS_CFG_REJ : Fld := { hi := 10, lo := 10 }
def fHUB_CTX_STATUS_EN_CLASS : Fld := { hi := 9, lo := 9 }
def fHUB_CTX_STATUS_EN_RING : Fld := { hi := 8, lo := 8 }
def fHUB_CTX_STATUS_JOB_OPEN : Fld := { hi := 2, lo := 2 }
def fHUB_CTX_STATUS_STATE : Fld := { hi := 1, lo := 0 }
def fHUB_CTX_PTRS_SQ_HEAD : Fld := { hi := 63, lo := 32 }
def fHUB_CTX_PTRS_CQ_TAIL : Fld := { hi := 31, lo := 0 }
def fHUB_CTX_TAIL_MIRROR_EN : Fld := { hi := 63, lo := 63 }
def fHUB_CTX_TAIL_MIRROR_ADDR : Fld := { hi := 43, lo := 3 }
def fHUB_CTX_CNT_REFUSE_CNT : Fld := { hi := 63, lo := 40 }
def fHUB_CTX_CNT_DB_ERR_CNT : Fld := { hi := 39, lo := 16 }
def fHUB_CTX_CNT_CLR : Fld := { hi := 0, lo := 0 }
def fHUB_CTX_RGN_BASE_VALID : Fld := { hi := 63, lo := 63 }
def fHUB_CTX_RGN_BASE_RD : Fld := { hi := 62, lo := 62 }
def fHUB_CTX_RGN_BASE_WR : Fld := { hi := 61, lo := 61 }
def fHUB_CTX_RGN_BASE_CLS_EN : Fld := { hi := 60, lo := 60 }
def fHUB_CTX_RGN_BASE_CLASS : Fld := { hi := 59, lo := 56 }
def fHUB_CTX_RGN_BASE_BASE : Fld := { hi := 43, lo := 6 }
def fHUB_CTX_RGN_LIM_LIMIT : Fld := { hi := 43, lo := 6 }
def fDB_SQ_TAIL_COUNT : Fld := { hi := 31, lo := 0 }
def fDB_CQ_HEAD_COUNT : Fld := { hi := 31, lo := 0 }
def fHUB_SLOT_CFG_NOTIFY_B : Fld := { hi := 9, lo := 9 }
def fHUB_SLOT_CFG_NOTIFY_A : Fld := { hi := 8, lo := 8 }
def fHUB_SLOT_CFG_KIND : Fld := { hi := 7, lo := 6 }
def fHUB_SLOT_CFG_OWNER : Fld := { hi := 5, lo := 0 }
def fHUB_IRQ_STATUS_PENDING : Fld := { hi := 3, lo := 0 }
def fHUB_IRQ_EN_EN : Fld := { hi := 3, lo := 0 }
def fQOS_CLS_SCHED_TILE_CAP : Fld := { hi := 39, lo := 32 }
def fQOS_CLS_SCHED_PREEMPT : Fld := { hi := 8, lo := 8 }
def fQOS_CLS_SCHED_PRIO : Fld := { hi := 3, lo := 0 }
def fHUB_CTX_JOB_STAT_ABORT_CNT : Fld := { hi := 63, lo := 48 }
def fHUB_CTX_JOB_STAT_RESTART_CNT : Fld := { hi := 47, lo := 32 }
def fHUB_CTX_JOB_STAT_LAST_CAUSE : Fld := { hi := 31, lo := 24 }
def fHUB_CTX_JOB_STAT_LAST_ENGINE : Fld := { hi := 23, lo := 16 }
def fHUB_CTX_JOB_STAT_LAST_ATTEMPT : Fld := { hi := 15, lo := 12 }
def fHUB_CTX_JOB_STAT_SELF_CHECK : Fld := { hi := 8, lo := 8 }
def fHUB_CTX_JOB_STAT_CLR : Fld := { hi := 0, lo := 0 }
def fHUB_CTX_WAIT_SUM_WAIT_SUM_NS : Fld := { hi := 63, lo := 0 }
def fHUB_CTX_WAIT_MAX_WAIT_MAX_NS : Fld := { hi := 63, lo := 32 }
def fHUB_CTX_WAIT_MAX_WAIT_CNT : Fld := { hi := 31, lo := 0 }
def fHUB_CTX_PRE_CNT_PRE_CNT : Fld := { hi := 63, lo := 32 }
def fHUB_CTX_LOST_SUM_LOST_SUM_NS : Fld := { hi := 63, lo := 0 }
def fHUB_CTX_ACC_CLR_CLR : Fld := { hi := 0, lo := 0 }
def fHUB_CTX_HIST_HIST : Fld := { hi := 63, lo := 0 }
def fCD_SCHED_CFG_LEAP_WAIT_NS : Fld := { hi := 31, lo := 0 }
def fCD_SCHED_STAT_PREEMPT_CNT : Fld := { hi := 63, lo := 40 }
def fCD_SCHED_STAT_LATE_LEAP_CNT : Fld := { hi := 39, lo := 16 }
def fCD_SCHED_STAT_CLR : Fld := { hi := 0, lo := 0 }
def fCD_ERR_CNT_DTIME_RELOAD : Fld := { hi := 63, lo := 40 }
def fCD_ERR_CNT_LAST_DIFF_NS : Fld := { hi := 39, lo := 16 }
def fCD_ERR_CNT_CLR : Fld := { hi := 0, lo := 0 }
def fSH_CFG_BLOCK : Fld := { hi := 43, lo := 6 }
def fSH_CFG_GUARD : Fld := { hi := 1, lo := 1 }
def fSH_CFG_ENABLE : Fld := { hi := 0, lo := 0 }
def fSH_STATUS_CLK_EVT : Fld := { hi := 63, lo := 0 }
def fSH_INSTANT_NEXT : Fld := { hi := 63, lo := 0 }
def fSH_FREE_BEFORE_FREE_BEFORE : Fld := { hi := 63, lo := 0 }
def fSH_EVT_LAUNCH_DROP : Fld := { hi := 63, lo := 40 }
def fSH_EVT_MAN_HELD : Fld := { hi := 39, lo := 16 }
def fSH_EVT_CAL_RESET : Fld := { hi := 4, lo := 4 }
def fSH_EVT_EN_REGION : Fld := { hi := 3, lo := 3 }
def fSH_EVT_EN_BLOCK : Fld := { hi := 2, lo := 2 }
def fSH_EVT_CLR : Fld := { hi := 0, lo := 0 }
def fSH_CAL_STAT_CAL_VER : Fld := { hi := 63, lo := 32 }
def fSH_CAL_STAT_REJ_CNT : Fld := { hi := 31, lo := 20 }
def fSH_CAL_STAT_LAST_REJ : Fld := { hi := 19, lo := 16 }
def fSH_CAL_STAT_UNSAVED : Fld := { hi := 1, lo := 1 }
def fSH_CAL_STAT_CLR : Fld := { hi := 0, lo := 0 }
def fSH_CAL_SAVED_SAVED : Fld := { hi := 31, lo := 0 }
def fSH_CAL_LIM_TRN_TOT_MM : Fld := { hi := 63, lo := 48 }
def fSH_CAL_LIM_ROT_TOT_MDEG : Fld := { hi := 47, lo := 32 }
def fSH_CAL_LIM_TRN_STEP_MM : Fld := { hi := 31, lo := 16 }
def fSH_CAL_LIM_ROT_STEP_MDEG : Fld := { hi := 15, lo := 0 }
def fSH_SENS_STAT_RESID_NS : Fld := { hi := 63, lo := 32 }
def fSH_SENS_STAT_LAST_COUNTER : Fld := { hi := 31, lo := 0 }
def fSH_SENS_CNT_CLOCK : Fld := { hi := 63, lo := 62 }
def fSH_SENS_CNT_LATE_CNT : Fld := { hi := 61, lo := 42 }
def fSH_SENS_CNT_MISS_CNT : Fld := { hi := 41, lo := 22 }
def fSH_SENS_CNT_ERR_CNT : Fld := { hi := 21, lo := 2 }
def fSH_SENS_CNT_CLR : Fld := { hi := 0, lo := 0 }
def fPC_PLAN_CFG_DEADLINE_US : Fld := { hi := 63, lo := 40 }
def fPC_PLAN_CFG_CLASS : Fld := { hi := 39, lo := 36 }
def fPC_PLAN_CFG_SLOT : Fld := { hi := 29, lo := 24 }
def fPC_PLAN_CFG_EPOCH_CTX : Fld := { hi := 21, lo := 16 }
def fPC_PLAN_CFG_CTX : Fld := { hi := 13, lo := 8 }
def fPC_PLAN_CFG_TICK : Fld := { hi := 5, lo := 4 }
def fPC_PLAN_CFG_ENABLE : Fld := { hi := 0, lo := 0 }
def fPC_PLAN_BASE_PLAN_BASE : Fld := { hi := 43, lo := 6 }
def fPC_PLAN_AGE_AGE_LIMIT_US : Fld := { hi := 31, lo := 0 }
def fPC_PLAN_STAT_NEWEST : Fld := { hi := 63, lo := 32 }
def fPC_PLAN_STAT_EN_REJ : Fld := { hi := 3, lo := 3 }
def fPC_PLAN_STAT_CFG_REJ : Fld := { hi := 2, lo := 2 }
def fPC_PLAN_STAT_PLAN_OPEN : Fld := { hi := 1, lo := 1 }
def fPC_LIM_K_KRATE_MAX : Fld := { hi := 63, lo := 32 }
def fPC_LIM_K_KMAX : Fld := { hi := 31, lo := 0 }
def fPC_LIM_SR_SR_MAX : Fld := { hi := 63, lo := 32 }
def fPC_LIM_SR_ALAT_MAX : Fld := { hi := 31, lo := 0 }
def fPC_LIM_A_A_MAX : Fld := { hi := 63, lo := 32 }
def fPC_LIM_A_A_MIN : Fld := { hi := 31, lo := 0 }
def fPC_LIM_WJ_WHEELBASE : Fld := { hi := 63, lo := 32 }
def fPC_LIM_WJ_J_MAX : Fld := { hi := 31, lo := 0 }
def fPC_LIM_V_V_MAX : Fld := { hi := 63, lo := 32 }
def fPC_LIM_V_V_MIN : Fld := { hi := 31, lo := 0 }
def fPC_LIM_SIZE_WIDTH : Fld := { hi := 63, lo := 32 }
def fPC_LIM_SIZE_LENGTH : Fld := { hi := 31, lo := 0 }
def fPC_LIM_REAR_REAR : Fld := { hi := 31, lo := 0 }
def fPC_WEIGHTS_W_PEAK : Fld := { hi := 63, lo := 32 }
def fPC_WEIGHTS_W_OCC : Fld := { hi := 31, lo := 0 }
def fPC_OUT_CNT0_BEST : Fld := { hi := 63, lo := 40 }
def fPC_OUT_CNT0_NEXT : Fld := { hi := 39, lo := 16 }
def fPC_OUT_CNT0_CLR : Fld := { hi := 0, lo := 0 }
def fPC_OUT_CNT1_REISSUE : Fld := { hi := 63, lo := 40 }
def fPC_OUT_CNT1_FALLBACK : Fld := { hi := 39, lo := 16 }
def fPC_OUT_CNT1_CLR : Fld := { hi := 0, lo := 0 }
def fPC_OUT_CNT2_SEAL_FAIL : Fld := { hi := 63, lo := 40 }
def fPC_OUT_CNT2_NO_VERIFIED : Fld := { hi := 39, lo := 16 }
def fPC_OUT_CNT2_CLR : Fld := { hi := 0, lo := 0 }
def fPC_OUT_CNT3_LATE_CAND : Fld := { hi := 63, lo := 40 }
def fPC_OUT_CNT3_PLAN_ERR : Fld := { hi := 39, lo := 16 }
def fPC_OUT_CNT3_CLR : Fld := { hi := 0, lo := 0 }
def fPC_BAND_V_UP_CMS : Fld := { hi := 47, lo := 32 }
def fPC_BAND_MLON_MM : Fld := { hi := 31, lo := 16 }
def fPC_BAND_MLAT_MM : Fld := { hi := 15, lo := 0 }
def fPC_STATUS_EPOCH : Fld := { hi := 63, lo := 32 }
def fPC_STATUS_CAND : Fld := { hi := 23, lo := 16 }
def fPC_STATUS_UNTESTED : Fld := { hi := 6, lo := 6 }
def fPC_STATUS_STATE : Fld := { hi := 3, lo := 0 }
def fPC_CNT_CHECKED : Fld := { hi := 63, lo := 40 }
def fPC_CNT_VERIFIED : Fld := { hi := 39, lo := 16 }
def fPC_CNT_CLR : Fld := { hi := 0, lo := 0 }
def fPC_REJ_CNT_LIMIT_REJ : Fld := { hi := 63, lo := 40 }
def fPC_REJ_CNT_BLOCKED_REJ : Fld := { hi := 39, lo := 16 }
def fPC_REJ_CNT_CLR : Fld := { hi := 0, lo := 0 }
def fMC_STATUS_TEMP_C : Fld := { hi := 63, lo := 56 }
def fMC_STATUS_BAND_SEEN : Fld := { hi := 50, lo := 48 }
def fMC_STATUS_BAND_LOADED : Fld := { hi := 44, lo := 42 }
def fMC_STATUS_REF_RATE : Fld := { hi := 41, lo := 40 }
def fMC_STATUS_RQ : Fld := { hi := 37, lo := 32 }
def fMC_STATUS_WQ : Fld := { hi := 29, lo := 24 }
def fMC_STATUS_BAND_STALE : Fld := { hi := 7, lo := 7 }
def fMC_STATUS_REINIT_FAIL : Fld := { hi := 6, lo := 6 }
def fMC_STATUS_CFG_ERR : Fld := { hi := 5, lo := 5 }
def fMC_STATUS_DRAIN : Fld := { hi := 4, lo := 4 }
def fMC_STATUS_STATE : Fld := { hi := 3, lo := 0 }
def fMC_CFG_READ_AGE_MAX : Fld := { hi := 63, lo := 48 }
def fMC_CFG_IDLE_DRAIN : Fld := { hi := 47, lo := 32 }
def fMC_CFG_HWM : Fld := { hi := 29, lo := 24 }
def fMC_CFG_LWM : Fld := { hi := 21, lo := 16 }
def fMC_CFG_REINIT : Fld := { hi := 0, lo := 0 }
def fMC_DLY_CTRL_SHADOW_BAND : Fld := { hi := 7, lo := 5 }
def fMC_DLY_CTRL_PENDING : Fld := { hi := 1, lo := 1 }
def fMC_DLY_CTRL_COMMIT : Fld := { hi := 0, lo := 0 }
def fMC_DLY_BASE_WR_BASE : Fld := { hi := 15, lo := 8 }
def fMC_DLY_BASE_RD_BASE : Fld := { hi := 7, lo := 0 }
def fMC_DLY_RD_TRIM : Fld := { hi := 63, lo := 0 }
def fMC_DLY_WR_TRIM : Fld := { hi := 63, lo := 0 }
def fMC_ECC_CNT_CE_CNT : Fld := { hi := 63, lo := 40 }
def fMC_ECC_CNT_UE_CNT : Fld := { hi := 39, lo := 16 }
def fMC_ECC_CNT_CLR : Fld := { hi := 0, lo := 0 }
def fMC_PAR_CNT_REPLAY_CNT : Fld := { hi := 63, lo := 40 }
def fMC_PAR_CNT_FENCE_CNT : Fld := { hi := 39, lo := 16 }
def fMC_PAR_CNT_CLR : Fld := { hi := 0, lo := 0 }
def fMC_HAZ_CNT_FWD_CNT : Fld := { hi := 63, lo := 40 }
def fMC_HAZ_CNT_MERGE_CNT : Fld := { hi := 39, lo := 16 }
def fMC_HAZ_CNT_CLR : Fld := { hi := 0, lo := 0 }
def fMC_POISON_CNT_WDROP_CNT : Fld := { hi := 63, lo := 40 }
def fMC_POISON_CNT_PCODE_CNT : Fld := { hi := 39, lo := 16 }
def fMC_POISON_CNT_CLR : Fld := { hi := 0, lo := 0 }
def fSC_MAINT_BUSY : Fld := { hi := 8, lo := 8 }
def fSC_MAINT_CMD : Fld := { hi := 1, lo := 0 }
def fSC_WAYMASK_WAYS : Fld := { hi := 15, lo := 0 }
def fSC_ECC_CNT_CE_CNT : Fld := { hi := 63, lo := 40 }
def fSC_ECC_CNT_UE_CNT : Fld := { hi := 39, lo := 16 }
def fSC_ECC_CNT_CLR : Fld := { hi := 0, lo := 0 }
def fSC_CLS_HIT_HIT : Fld := { hi := 63, lo := 0 }
def fSC_CLS_MISS_MISS : Fld := { hi := 63, lo := 0 }
def fSC_CLS_OCC_LINES : Fld := { hi := 19, lo := 0 }
def fQOS_CFG_GUAR_SUM : Fld := { hi := 51, lo := 32 }
def fQOS_CFG_GUAR_MAX : Fld := { hi := 20, lo := 1 }
def fQOS_CFG_CFG_ERR : Fld := { hi := 0, lo := 0 }
def fQOS_CLS_REG_OCC_MAX : Fld := { hi := 40, lo := 32 }
def fQOS_CLS_REG_WQ_MAX : Fld := { hi := 29, lo := 24 }
def fQOS_CLS_REG_RQ_MAX : Fld := { hi := 21, lo := 16 }
def fQOS_CLS_REG_WEIGHT : Fld := { hi := 7, lo := 0 }
def fQOS_OCC_STAT_SHED_CNT : Fld := { hi := 63, lo := 40 }
def fQOS_OCC_STAT_CLR : Fld := { hi := 16, lo := 16 }
def fQOS_OCC_STAT_HELD : Fld := { hi := 15, lo := 0 }
def fQOS_PORT_BKT_DEPTH : Fld := { hi := 51, lo := 32 }
def fQOS_PORT_BKT_PORT_CLASS : Fld := { hi := 19, lo := 16 }
def fQOS_PORT_BKT_MIN_RATE : Fld := { hi := 15, lo := 0 }
def fQOS_PORT_CEIL_MAX_DEPTH : Fld := { hi := 51, lo := 32 }
def fQOS_PORT_CEIL_MAX_RATE : Fld := { hi := 15, lo := 0 }
def fQOS_PORT_URG_LEVEL : Fld := { hi := 63, lo := 62 }
def fQOS_PORT_URG_TH3 : Fld := { hi := 43, lo := 40 }
def fQOS_PORT_URG_TH2 : Fld := { hi := 39, lo := 36 }
def fQOS_PORT_URG_TH1 : Fld := { hi := 35, lo := 32 }
def fQOS_PORT_URG_RESERVE : Fld := { hi := 19, lo := 0 }
def fQOS_PORT_TOK_TOKENS : Fld := { hi := 63, lo := 32 }
def fQOS_PORT_TOK_CEIL_TOKENS : Fld := { hi := 31, lo := 0 }
def fQOS_PORT_GBYTES_GBYTES : Fld := { hi := 63, lo := 0 }
def fQOS_PORT_SBYTES_SBYTES : Fld := { hi := 63, lo := 0 }
def fQOS_PORT_HOLD_CEIL_HOLD : Fld := { hi := 63, lo := 44 }
def fQOS_PORT_HOLD_OCC_HOLD : Fld := { hi := 43, lo := 24 }
def fQOS_PORT_HOLD_QUEUE_HOLD : Fld := { hi := 23, lo := 4 }
def fQOS_PORT_HOLD_CLR : Fld := { hi := 0, lo := 0 }
def fQOS_PORT_URGCNT_URG3_CNT : Fld := { hi := 63, lo := 40 }
def fQOS_PORT_URGCNT_URG2_CNT : Fld := { hi := 39, lo := 16 }
def fQOS_PORT_URGCNT_CLR : Fld := { hi := 0, lo := 0 }
def fQOS_CLS_SHARED_SHARED : Fld := { hi := 63, lo := 0 }
def fSK_CONN_STATUS_INSVC_BA : Fld := { hi := 47, lo := 40 }
def fSK_CONN_STATUS_INSVC_AB : Fld := { hi := 39, lo := 32 }
def fSK_CONN_STATUS_HALF_BA : Fld := { hi := 31, lo := 24 }
def fSK_CONN_STATUS_HALF_AB : Fld := { hi := 23, lo := 16 }
def fSK_CONN_STATUS_LAST_CAUSE : Fld := { hi := 11, lo := 8 }
def fSK_CONN_STATUS_SB_LOST : Fld := { hi := 5, lo := 5 }
def fSK_CONN_STATUS_FALLBACK : Fld := { hi := 4, lo := 4 }
def fSK_CONN_STATUS_STATE : Fld := { hi := 2, lo := 0 }
def fSK_CONN_CFG_RSP_TIMEOUT_US : Fld := { hi := 47, lo := 32 }
def fSK_CONN_CFG_TEST_UI_K : Fld := { hi := 31, lo := 16 }
def fSK_CONN_CFG_RETRAIN_LIM : Fld := { hi := 15, lo := 8 }
def fSK_MAP_LO_GOOD : Fld := { hi := 63, lo := 0 }
def fSK_MAP_HI_BAD_CNT : Fld := { hi := 23, lo := 16 }
def fSK_MAP_HI_WIDTH : Fld := { hi := 11, lo := 10 }
def fSK_MAP_HI_GOOD_HI : Fld := { hi := 3, lo := 0 }
def fSK_CONN_EVT_RETRAIN_CNT : Fld := { hi := 63, lo := 40 }
def fSK_CONN_EVT_QUAR_CNT : Fld := { hi := 39, lo := 16 }
def fSK_CONN_EVT_CLR : Fld := { hi := 0, lo := 0 }
def fSK_BCRC_CRC_CNT : Fld := { hi := 63, lo := 40 }
def fSK_BCRC_NAK_CNT : Fld := { hi := 39, lo := 16 }
def fSK_BCRC_CLR : Fld := { hi := 0, lo := 0 }
def fSK_DIE_STATE_STATE : Fld := { hi := 23, lo := 0 }
def fSK_DIE_CTRL_AUTO_REJOIN : Fld := { hi := 32, lo := 32 }
def fSK_DIE_CTRL_HOLD_WIN_S : Fld := { hi := 31, lo := 24 }
def fSK_DIE_CTRL_HOLD_LIM : Fld := { hi := 23, lo := 16 }
def fSK_DIE_CTRL_QUAR : Fld := { hi := 13, lo := 8 }
def fSK_DIE_CTRL_REJOIN : Fld := { hi := 5, lo := 0 }
def fSK_QLOG_HEAD_TOTAL : Fld := { hi := 63, lo := 32 }
def fSK_QLOG_HEAD_NEXT : Fld := { hi := 3, lo := 0 }
def fSK_QLOG_TIME_DTIME : Fld := { hi := 63, lo := 0 }
def fSK_QLOG_INFO_CONN : Fld := { hi := 55, lo := 48 }
def fSK_QLOG_INFO_CAUSE : Fld := { hi := 47, lo := 44 }
def fSK_QLOG_INFO_DIE : Fld := { hi := 43, lo := 40 }
def fSK_QLOG_INFO_EVENT : Fld := { hi := 39, lo := 36 }
def fSK_QLOG_INFO_COMPLETED : Fld := { hi := 35, lo := 16 }
def fSK_QLOG_INFO_DISCARDED : Fld := { hi := 15, lo := 0 }
def fCH_CFG_EXPECT : Fld := { hi := 63, lo := 48 }
def fCH_CFG_DISC_MS : Fld := { hi := 39, lo := 32 }
def fCH_CFG_SEC_EN : Fld := { hi := 23, lo := 23 }
def fCH_CFG_SECONDARY_ID : Fld := { hi := 19, lo := 16 }
def fCH_CFG_PRI_EN : Fld := { hi := 15, lo := 15 }
def fCH_CFG_PRIMARY_ID : Fld := { hi := 11, lo := 8 }
def fCH_CFG_TIME_ELIG : Fld := { hi := 1, lo := 1 }
def fCH_CFG_ENABLE : Fld := { hi := 0, lo := 0 }
def fCH_STATUS_MEMBERS : Fld := { hi := 63, lo := 48 }
def fCH_STATUS_SELF_ID : Fld := { hi := 47, lo := 44 }
def fCH_STATUS_TIME_MASTER : Fld := { hi := 43, lo := 40 }
def fCH_STATUS_DIAM : Fld := { hi := 39, lo := 36 }
def fCH_STATUS_DIAM_MAX : Fld := { hi := 35, lo := 32 }
def fCH_STATUS_FAULT : Fld := { hi := 23, lo := 20 }
def fCH_STATUS_CFG_ERR : Fld := { hi := 19, lo := 19 }
def fCH_STATUS_AGREE_OPEN : Fld := { hi := 18, lo := 18 }
def fCH_STATUS_ROLE : Fld := { hi := 17, lo := 16 }
def fCH_STATUS_STATE : Fld := { hi := 2, lo := 0 }
def fCH_VIEW_VIEW : Fld := { hi := 63, lo := 0 }
def fCH_VIEW_ADDR_ADDR : Fld := { hi := 43, lo := 6 }
def fCH_BAR_CFG_FRAME_BUDGET_US : Fld := { hi := 19, lo := 0 }
def fCH_ARRIVE_ADDR_EN : Fld := { hi := 63, lo := 63 }
def fCH_ARRIVE_ADDR_ADDR : Fld := { hi := 43, lo := 3 }
def fCH_RELEASE_ADDR_EN : Fld := { hi := 63, lo := 63 }
def fCH_RELEASE_ADDR_ADDR : Fld := { hi := 43, lo := 3 }
def fCH_BAR_STAT_COMPLETED : Fld := { hi := 63, lo := 0 }
def fCH_RSP_CFG_RSP_TIMEOUT_US : Fld := { hi := 15, lo := 0 }
def fCH_ROUTE_VALID : Fld := { hi := 7, lo := 7 }
def fCH_ROUTE_PORT : Fld := { hi := 6, lo := 5 }
def fCH_ROUTE_HOPS : Fld := { hi := 3, lo := 0 }
def fCH_EVT_CNT_VIEW_CNT : Fld := { hi := 63, lo := 40 }
def fCH_EVT_CNT_BAR_LATE_CNT : Fld := { hi := 39, lo := 16 }
def fCH_EVT_CNT_CLR : Fld := { hi := 0, lo := 0 }
def fCH_ERR_CNT_AGREE_RESTART : Fld := { hi := 63, lo := 40 }
def fCH_ERR_CNT_FOREIGN_CNT : Fld := { hi := 39, lo := 16 }
def fCH_ERR_CNT_CLR : Fld := { hi := 0, lo := 0 }
def fCH_ACC_CNT_INRGN_CNT : Fld := { hi := 63, lo := 40 }
def fCH_ACC_CNT_TMO_CNT : Fld := { hi := 39, lo := 16 }
def fCH_ACC_CNT_CLR : Fld := { hi := 0, lo := 0 }
def fCH_INRGN_BASE_VALID : Fld := { hi := 63, lo := 63 }
def fCH_INRGN_BASE_RD : Fld := { hi := 62, lo := 62 }
def fCH_INRGN_BASE_WR : Fld := { hi := 61, lo := 61 }
def fCH_INRGN_BASE_CLS_EN : Fld := { hi := 60, lo := 60 }
def fCH_INRGN_BASE_CLASS : Fld := { hi := 59, lo := 56 }
def fCH_INRGN_BASE_BASE : Fld := { hi := 43, lo := 6 }
def fCH_INRGN_LIM_SRC_MASK : Fld := { hi := 63, lo := 48 }
def fCH_INRGN_LIM_PCIE : Fld := { hi := 47, lo := 47 }
def fCH_INRGN_LIM_LIMIT : Fld := { hi := 43, lo := 6 }
def fDL_CFG_PCIE_GEN : Fld := { hi := 15, lo := 12 }
def fDL_CFG_RATE : Fld := { hi := 9, lo := 8 }
def fDL_CFG_MODE : Fld := { hi := 1, lo := 0 }
def fDL_STATUS_NBR_ID : Fld := { hi := 63, lo := 60 }
def fDL_STATUS_NBR_PORT : Fld := { hi := 59, lo := 58 }
def fDL_STATUS_WIDTH : Fld := { hi := 11, lo := 10 }
def fDL_STATUS_RATE : Fld := { hi := 9, lo := 8 }
def fDL_STATUS_CFG_ERR : Fld := { hi := 3, lo := 3 }
def fDL_STATUS_STATE : Fld := { hi := 2, lo := 0 }
def fDL_CNT_FEC_CNT : Fld := { hi := 63, lo := 40 }
def fDL_CNT_CRC_CNT : Fld := { hi := 39, lo := 16 }
def fDL_CNT_CLR : Fld := { hi := 0, lo := 0 }
def fDL_LINK_CNT_HB_MISS_CNT : Fld := { hi := 63, lo := 40 }
def fDL_LINK_CNT_FRAME_ERR_CNT : Fld := { hi := 39, lo := 16 }
def fDL_LINK_CNT_CLR : Fld := { hi := 0, lo := 0 }
def fSI_STATUS_LAST_TRIP : Fld := { hi := 63, lo := 60 }
def fSI_STATUS_DIS_RUN : Fld := { hi := 59, lo := 52 }
def fSI_STATUS_FENCED : Fld := { hi := 51, lo := 49 }
def fSI_STATUS_RETIRED : Fld := { hi := 48, lo := 46 }
def fSI_STATUS_ROLE : Fld := { hi := 45, lo := 44 }
def fSI_STATUS_HELD : Fld := { hi := 12, lo := 12 }
def fSI_STATUS_DEBUG : Fld := { hi := 11, lo := 11 }
def fSI_STATUS_XLINK_LOST : Fld := { hi := 10, lo := 10 }
def fSI_STATUS_HUB_LOST : Fld := { hi := 9, lo := 9 }
def fSI_STATUS_HOLDOVER : Fld := { hi := 8, lo := 8 }
def fSI_STATUS_EFT_LATCHED : Fld := { hi := 7, lo := 7 }
def fSI_STATUS_ACTIVE : Fld := { hi := 6, lo := 6 }
def fSI_STATUS_FAULT : Fld := { hi := 5, lo := 5 }
def fSI_STATUS_MODE : Fld := { hi := 4, lo := 3 }
def fSI_STATUS_STATE : Fld := { hi := 2, lo := 0 }
def fSI_CFG_LOCK : Fld := { hi := 63, lo := 63 }
def fSI_CFG_N_DIS : Fld := { hi := 55, lo := 48 }
def fSI_CFG_RECOVER_N : Fld := { hi := 47, lo := 40 }
def fSI_CFG_WORLD_SLOT : Fld := { hi := 37, lo := 32 }
def fSI_CFG_TRAJ_SLOT : Fld := { hi := 29, lo := 24 }
def fSI_CFG_CAN_TX_MASK : Fld := { hi := 19, lo := 16 }
def fSI_CFG_ETH_TX_EN : Fld := { hi := 8, lo := 8 }
def fSI_CFG_CFG_REJ : Fld := { hi := 0, lo := 0 }
def fSI_TIMING_TRAJ_AGE_MS : Fld := { hi := 63, lo := 48 }
def fSI_TIMING_WORLD_AGE_MS : Fld := { hi := 47, lo := 32 }
def fSI_TIMING_OUT_PERIOD_MS : Fld := { hi := 31, lo := 16 }
def fSI_TIMING_OUT_GRACE_MS : Fld := { hi := 15, lo := 8 }
def fSI_TIMING_EFT_PERIOD_MS : Fld := { hi := 7, lo := 0 }
def fSI_VIEW_EN : Fld := { hi := 63, lo := 63 }
def fSI_VIEW_ADDR : Fld := { hi := 43, lo := 6 }
def fSI_CRIT_CRIT : Fld := { hi := 63, lo := 0 }
def fSI_RGN_BASE_VALID : Fld := { hi := 63, lo := 63 }
def fSI_RGN_BASE_BASE : Fld := { hi := 43, lo := 6 }
def fSI_RGN_LIM_LIMIT : Fld := { hi := 43, lo := 6 }
def fSI_DIV_CORR_THRESH : Fld := { hi := 59, lo := 56 }
def fSI_DIV_DISK_MARGIN_MM : Fld := { hi := 31, lo := 16 }
def fSI_EFT_EFT_DECEL_MAX : Fld := { hi := 63, lo := 32 }
def fSI_EFT_EFT_DECEL : Fld := { hi := 31, lo := 0 }
def fSI_CAN_AF : Fld := { hi := 63, lo := 32 }
def fSI_CAN_SDT : Fld := { hi := 31, lo := 24 }
def fSI_CAN_VCID : Fld := { hi := 23, lo := 16 }
def fSI_CAN_PRIO_ID : Fld := { hi := 10, lo := 0 }
def fSI_ETH_DST_PORT : Fld := { hi := 63, lo := 48 }
def fSI_ETH_DST_MAC : Fld := { hi := 47, lo := 0 }
def fSI_ETH2_DST_IP : Fld := { hi := 63, lo := 32 }
def fSI_ETH2_SRC_PORT : Fld := { hi := 31, lo := 16 }
def fSI_ETH2_PCP : Fld := { hi := 7, lo := 5 }
def fSI_CFG_CRC_CFG_CRC : Fld := { hi := 31, lo := 0 }
def fSI_CTRL_RESTART : Fld := { hi := 0, lo := 0 }
def fSI_LIM_K_KRATE_MAX : Fld := { hi := 63, lo := 32 }
def fSI_LIM_K_KMAX : Fld := { hi := 31, lo := 0 }
def fSI_LIM_SR_SR_MAX : Fld := { hi := 63, lo := 32 }
def fSI_LIM_SR_ALAT_MAX : Fld := { hi := 31, lo := 0 }
def fSI_LIM_A_A_MAX : Fld := { hi := 63, lo := 32 }
def fSI_LIM_A_A_MIN : Fld := { hi := 31, lo := 0 }
def fSI_LIM_WJ_WHEELBASE : Fld := { hi := 63, lo := 32 }
def fSI_LIM_WJ_J_MAX : Fld := { hi := 31, lo := 0 }
def fSI_LIM_V_V_MAX : Fld := { hi := 63, lo := 32 }
def fSI_LIM_V_V_MIN : Fld := { hi := 31, lo := 0 }
def fSI_LIM_SIZE_WIDTH : Fld := { hi := 63, lo := 32 }
def fSI_LIM_SIZE_LENGTH : Fld := { hi := 31, lo := 0 }
def fSI_LIM_REAR_REAR : Fld := { hi := 31, lo := 0 }
def fSI_LIM_BAND_V_UP_CMS : Fld := { hi := 47, lo := 32 }
def fSI_LIM_BAND_MLON_MM : Fld := { hi := 31, lo := 16 }
def fSI_LIM_BAND_MLAT_MM : Fld := { hi := 15, lo := 0 }
def fSI_TX_CNT_COUNTER : Fld := { hi := 63, lo := 0 }
def fSI_OUT_CNT_PASS_CNT : Fld := { hi := 63, lo := 40 }
def fSI_OUT_CNT_WITHHELD_CNT : Fld := { hi := 39, lo := 16 }
def fSI_OUT_CNT_CLR : Fld := { hi := 0, lo := 0 }
def fSI_FALL_CNT_REISSUE_CNT : Fld := { hi := 63, lo := 40 }
def fSI_FALL_CNT_EFT_CNT : Fld := { hi := 39, lo := 16 }
def fSI_FALL_CNT_CLR : Fld := { hi := 0, lo := 0 }
def fSI_DIS_CNT_DISAGREE_CNT : Fld := { hi := 63, lo := 40 }
def fSI_DIS_CNT_FENCE_CNT : Fld := { hi := 39, lo := 16 }
def fSI_DIS_CNT_CLR : Fld := { hi := 0, lo := 0 }
def fSI_AGE_CNT_TIMEOUT_CNT : Fld := { hi := 63, lo := 40 }
def fSI_AGE_CNT_WORLD_ERR : Fld := { hi := 39, lo := 16 }
def fSI_AGE_CNT_CLR : Fld := { hi := 0, lo := 0 }
def fHUB_TEST_CFG_TEST_CLASS : Fld := { hi := 23, lo := 20 }
def fHUB_TEST_CFG_PERIOD_MS : Fld := { hi := 15, lo := 8 }
def fHUB_TEST_CFG_TEST_VETO : Fld := { hi := 3, lo := 3 }
def fHUB_TEST_CFG_CFG_REJ : Fld := { hi := 1, lo := 1 }
def fHUB_TEST_CFG_ENABLE : Fld := { hi := 0, lo := 0 }
def fHUB_TEST_BASE_ADDR : Fld := { hi := 43, lo := 24 }
def fHUB_UNTESTED_UNTESTED : Fld := { hi := 63, lo := 0 }
def fHUB_TEST_FAIL_FAIL : Fld := { hi := 63, lo := 0 }
def fHUB_TEST_RETEST_GO : Fld := { hi := 8, lo := 8 }
def fHUB_TEST_RETEST_ENGINE : Fld := { hi := 7, lo := 0 }
def fHUB_TEST_LAST_DTIME : Fld := { hi := 63, lo := 0 }
def fHUB_TEST_LASTI_ENGINE : Fld := { hi := 63, lo := 56 }
def fHUB_TEST_LASTI_SLICE : Fld := { hi := 55, lo := 48 }
def fHUB_TEST_LASTI_GOT : Fld := { hi := 47, lo := 16 }
def fHUB_TEST_CNT_PASS_CNT : Fld := { hi := 63, lo := 40 }
def fHUB_TEST_CNT_FAIL_CNT : Fld := { hi := 39, lo := 16 }
def fHUB_TEST_CNT_CLR : Fld := { hi := 0, lo := 0 }
def fHUB_TEST_CNT2_OVERRUN_CNT : Fld := { hi := 63, lo := 40 }
def fHUB_TEST_CNT2_SUSPECT_CNT : Fld := { hi := 39, lo := 16 }
def fHUB_TEST_CNT2_CLR : Fld := { hi := 0, lo := 0 }
def fPM_CTRL_PARK_US : Fld := { hi := 47, lo := 32 }
def fPM_CTRL_DIE_RETAIN : Fld := { hi := 23, lo := 20 }
def fPM_CTRL_FORCE : Fld := { hi := 11, lo := 11 }
def fPM_CTRL_REQ : Fld := { hi := 10, lo := 8 }
def fPM_CTRL_BIST : Fld := { hi := 0, lo := 0 }
def fPM_STATUS_HART_LVL : Fld := { hi := 31, lo := 28 }
def fPM_STATUS_TILE_LVL : Fld := { hi := 27, lo := 24 }
def fPM_STATUS_DIE_STATE : Fld := { hi := 23, lo := 16 }
def fPM_STATUS_ISL_VETO : Fld := { hi := 11, lo := 10 }
def fPM_STATUS_CFG_REJ : Fld := { hi := 9, lo := 9 }
def fPM_STATUS_BUSY : Fld := { hi := 8, lo := 8 }
def fPM_STATUS_STATE : Fld := { hi := 2, lo := 0 }
def fPM_CLK_HART_TH : Fld := { hi := 15, lo := 12 }
def fPM_CLK_TILE_TH : Fld := { hi := 11, lo := 8 }
def fPM_CLK_HART_MAX : Fld := { hi := 7, lo := 4 }
def fPM_CLK_TILE_MAX : Fld := { hi := 3, lo := 0 }
def fPM_GATE_CFG_IDLE_DELAY_US : Fld := { hi := 47, lo := 32 }
def fPM_GATE_CFG_GATE_DELAY : Fld := { hi := 15, lo := 0 }
def fPM_WAKE_CFG_ISLAND_EN : Fld := { hi := 35, lo := 35 }
def fPM_WAKE_CFG_TIMER_EN : Fld := { hi := 34, lo := 34 }
def fPM_WAKE_CFG_GPIO_POL : Fld := { hi := 31, lo := 16 }
def fPM_WAKE_CFG_GPIO_MASK : Fld := { hi := 15, lo := 0 }
def fPM_WAKE_TIMER_TIMER_MS : Fld := { hi := 31, lo := 0 }
def fPM_WAKE_CAUSE_STEP_MASK : Fld := { hi := 63, lo := 48 }
def fPM_WAKE_CAUSE_VALUE : Fld := { hi := 47, lo := 32 }
def fPM_WAKE_CAUSE_STEP : Fld := { hi := 31, lo := 28 }
def fPM_WAKE_CAUSE_FAILED : Fld := { hi := 27, lo := 27 }
def fPM_WAKE_CAUSE_SOURCE : Fld := { hi := 3, lo := 0 }
def fPM_WAKE_DTIME_DTIME : Fld := { hi := 63, lo := 0 }
def fPM_BRU_CFG_NSTEP_M1 : Fld := { hi := 35, lo := 32 }
def fPM_BRU_CFG_PERIOD_MS : Fld := { hi := 31, lo := 0 }
def fPM_BRU_STEP_SRC : Fld := { hi := 63, lo := 60 }
def fPM_BRU_STEP_PERSIST : Fld := { hi := 59, lo := 56 }
def fPM_BRU_STEP_PARAM : Fld := { hi := 55, lo := 48 }
def fPM_BRU_STEP_HIGH : Fld := { hi := 31, lo := 16 }
def fPM_BRU_STEP_LOW : Fld := { hi := 15, lo := 0 }
def fPM_BRU_VAL_COUNT : Fld := { hi := 19, lo := 16 }
def fPM_BRU_VAL_VALUE : Fld := { hi := 15, lo := 0 }
def fPM_REF_LAST_DTIME : Fld := { hi := 63, lo := 0 }
def fPM_REF_INFO_MASK : Fld := { hi := 47, lo := 38 }
def fPM_REF_INFO_DETAIL : Fld := { hi := 37, lo := 30 }
def fPM_REF_INFO_REFUSER : Fld := { hi := 29, lo := 26 }
def fPM_REF_INFO_ISL_IGNORED : Fld := { hi := 25, lo := 25 }
def fPM_REF_INFO_TARGET : Fld := { hi := 24, lo := 20 }
def fPM_REF_INFO_KIND : Fld := { hi := 1, lo := 0 }
def fPM_REF_CNT_REFUSED : Fld := { hi := 63, lo := 40 }
def fPM_REF_CNT_ABORTED : Fld := { hi := 39, lo := 16 }
def fPM_REF_CNT_CLR : Fld := { hi := 0, lo := 0 }
def fPM_FORCE_CNT_FORCED : Fld := { hi := 63, lo := 40 }
def fPM_FORCE_CNT_CLR : Fld := { hi := 0, lo := 0 }
def fTH_CFG_R_NOM : Fld := { hi := 63, lo := 48 }
def fTH_CFG_FLOW_K : Fld := { hi := 47, lo := 32 }
def fTH_CFG_WEAR_LOCK : Fld := { hi := 2, lo := 2 }
def fTH_CFG_OUT_EN : Fld := { hi := 1, lo := 1 }
def fTH_STATUS_THERM_OFF : Fld := { hi := 15, lo := 15 }
def fTH_STATUS_CFG_REJ : Fld := { hi := 14, lo := 14 }
def fTH_STATUS_OUT_FAIL : Fld := { hi := 13, lo := 13 }
def fTH_STATUS_FLOW_FAIL : Fld := { hi := 12, lo := 12 }
def fTH_STATUS_INLET_FAIL : Fld := { hi := 11, lo := 11 }
def fTH_STATUS_INLET_DIFF : Fld := { hi := 10, lo := 10 }
def fTH_STATUS_RATE : Fld := { hi := 9, lo := 9 }
def fTH_STATUS_PULSE : Fld := { hi := 8, lo := 8 }
def fTH_STATUS_HALT : Fld := { hi := 5, lo := 5 }
def fTH_STATUS_CLAMP : Fld := { hi := 4, lo := 4 }
def fTH_STATUS_LEVEL : Fld := { hi := 2, lo := 0 }
def fTH_COOL_INLET_A : Fld := { hi := 63, lo := 48 }
def fTH_COOL_INLET_B : Fld := { hi := 47, lo := 32 }
def fTH_COOL_OUTLET : Fld := { hi := 31, lo := 16 }
def fTH_COOL_FLOW : Fld := { hi := 15, lo := 0 }
def fTH_POWER_P_TOTAL : Fld := { hi := 63, lo := 48 }
def fTH_POWER_P_COMPUTE : Fld := { hi := 47, lo := 32 }
def fTH_POWER_R_EST : Fld := { hi := 31, lo := 16 }
def fTH_LVL_FLOW_FLOW1 : Fld := { hi := 63, lo := 48 }
def fTH_LVL_FLOW_FLOW2 : Fld := { hi := 47, lo := 32 }
def fTH_LVL_FLOW_FLOW3 : Fld := { hi := 31, lo := 16 }
def fTH_LVL_FLOW_FLOW4 : Fld := { hi := 15, lo := 0 }
def fTH_LVL_RJC_RJC1 : Fld := { hi := 63, lo := 48 }
def fTH_LVL_RJC_RJC2 : Fld := { hi := 47, lo := 32 }
def fTH_LVL_RJC_RJC3 : Fld := { hi := 31, lo := 16 }
def fTH_LVL_RJC_RJC4 : Fld := { hi := 15, lo := 0 }
def fTH_LVL_HEAD_HEAD1 : Fld := { hi := 63, lo := 56 }
def fTH_LVL_HEAD_HEAD2 : Fld := { hi := 55, lo := 48 }
def fTH_LVL_HEAD_HEAD3 : Fld := { hi := 47, lo := 40 }
def fTH_LVL_HEAD_HEAD4 : Fld := { hi := 39, lo := 32 }
def fTH_LVL_HEAD_OUT_RISE_K : Fld := { hi := 7, lo := 0 }
def fTH_CLAMP_CFG_FLOW_TMO_MS : Fld := { hi := 63, lo := 48 }
def fTH_CLAMP_CFG_RATE_KPS : Fld := { hi := 47, lo := 40 }
def fTH_CLAMP_CFG_RATE_NSENS : Fld := { hi := 39, lo := 36 }
def fTH_CLAMP_CFG_DT_PWR_W : Fld := { hi := 31, lo := 24 }
def fTH_CLAMP_CFG_CLAMP_CLR : Fld := { hi := 1, lo := 1 }
def fTH_CLAMP_CFG_CLAMP_AUTO : Fld := { hi := 0, lo := 0 }
def fTH_BASK_BAND_K : Fld := { hi := 63, lo := 56 }
def fTH_BASK_LIFT_K : Fld := { hi := 55, lo := 48 }
def fTH_BASK_MAX_W : Fld := { hi := 47, lo := 40 }
def fTH_BASK_TILES : Fld := { hi := 31, lo := 24 }
def fTH_BASK_BASK_EN : Fld := { hi := 0, lo := 0 }
def fTH_SENS_READ : Fld := { hi := 63, lo := 48 }
def fTH_SENS_RATE : Fld := { hi := 47, lo := 32 }
def fTH_SENS_STATE : Fld := { hi := 1, lo := 0 }
def fTH_PAIR_FLAG_FLAG : Fld := { hi := 33, lo := 0 }
def fTH_EVT_CNT_CLAMP_CNT : Fld := { hi := 63, lo := 40 }
def fTH_EVT_CNT_HALT_CNT : Fld := { hi := 39, lo := 16 }
def fTH_EVT_CNT_CLR : Fld := { hi := 0, lo := 0 }
def fTH_LVL_CNT_LVL_UP_CNT : Fld := { hi := 63, lo := 40 }
def fTH_LVL_CNT_PAIR_CNT : Fld := { hi := 39, lo := 16 }
def fTH_LVL_CNT_CLR : Fld := { hi := 0, lo := 0 }
def fTH_IN_CNT_RETIRE_CNT : Fld := { hi := 63, lo := 40 }
def fTH_IN_CNT_INPUT_CNT : Fld := { hi := 39, lo := 16 }
def fTH_IN_CNT_CLR : Fld := { hi := 0, lo := 0 }
def fTH_WEAR_SEC_SEC : Fld := { hi := 63, lo := 0 }
def fTH_WEAR_LAST_LAST : Fld := { hi := 15, lo := 0 }
def fTH_WEAR_CYC_HALF : Fld := { hi := 31, lo := 0 }
def fJN_STATUS_GEN : Fld := { hi := 63, lo := 32 }
def fJN_STATUS_CFG_REJ : Fld := { hi := 19, lo := 19 }
def fJN_STATUS_FOREIGN : Fld := { hi := 18, lo := 18 }
def fJN_STATUS_EMPTY : Fld := { hi := 17, lo := 17 }
def fJN_STATUS_COMPACT : Fld := { hi := 16, lo := 16 }
def fJN_STATUS_ACTIVE : Fld := { hi := 8, lo := 8 }
def fJN_STATUS_ENGINE : Fld := { hi := 2, lo := 0 }
def fJN_BOOT_BOOT_CNT : Fld := { hi := 63, lo := 32 }
def fJN_BOOT_SVN : Fld := { hi := 31, lo := 24 }
def fJN_BOOT_STRAPS : Fld := { hi := 23, lo := 17 }
def fJN_BOOT_RESET_CAUSE : Fld := { hi := 16, lo := 14 }
def fJN_BOOT_TADPOLE_WHY : Fld := { hi := 13, lo := 11 }
def fJN_BOOT_QUICK : Fld := { hi := 10, lo := 10 }
def fJN_BOOT_SLOT : Fld := { hi := 9, lo := 8 }
def fJN_FILL_USED : Fld := { hi := 63, lo := 32 }
def fJN_FILL_AREA_BYTES : Fld := { hi := 31, lo := 0 }
def fJN_SEQ_NEXT_SEQ : Fld := { hi := 31, lo := 0 }
def fJN_APPEND_SRC_ADDR : Fld := { hi := 43, lo := 6 }
def fJN_APPEND_GO : Fld := { hi := 63, lo := 63 }
def fJN_APPEND_TYPE : Fld := { hi := 55, lo := 48 }
def fJN_APPEND_KEY : Fld := { hi := 47, lo := 32 }
def fJN_APPEND_LENGTH : Fld := { hi := 11, lo := 0 }
def fJN_APPEND_STAT_SEQ : Fld := { hi := 63, lo := 32 }
def fJN_APPEND_STAT_ERR : Fld := { hi := 7, lo := 4 }
def fJN_APPEND_STAT_RESULT : Fld := { hi := 1, lo := 0 }
def fJN_REPLAY_ADDR : Fld := { hi := 43, lo := 6 }
def fJN_REPLAY_LEN_LEN : Fld := { hi := 63, lo := 0 }
def fJN_FUSE_GO : Fld := { hi := 63, lo := 63 }
def fJN_FUSE_OP : Fld := { hi := 9, lo := 8 }
def fJN_FUSE_ARG : Fld := { hi := 7, lo := 0 }
def fJN_ERASE_ERASES_A : Fld := { hi := 63, lo := 32 }
def fJN_ERASE_ERASES_B : Fld := { hi := 31, lo := 0 }
def fJN_CTRL_OFFLINE : Fld := { hi := 0, lo := 0 }
def fJN_CNT_TORN_CNT : Fld := { hi := 63, lo := 40 }
def fJN_CNT_COMPACT_CNT : Fld := { hi := 39, lo := 16 }
def fJN_CNT_CLR : Fld := { hi := 0, lo := 0 }
def fJN_CNT2_APPEND_CNT : Fld := { hi := 63, lo := 40 }
def fJN_CNT2_FLASH_ERR_CNT : Fld := { hi := 39, lo := 16 }
def fJN_CNT2_CLR : Fld := { hi := 0, lo := 0 }
def fPM_BIST_CFG_SAVE : Fld := { hi := 43, lo := 26 }
def fPM_BIST_CFG_BUDGET_W : Fld := { hi := 7, lo := 0 }
def fPM_BIST_STAT_DURATION_US : Fld := { hi := 63, lo := 32 }
def fPM_BIST_STAT_HBM_FAIL : Fld := { hi := 31, lo := 24 }
def fPM_BIST_STAT_GROUP_FAIL : Fld := { hi := 23, lo := 16 }
def fPM_BIST_STAT_QUICK : Fld := { hi := 3, lo := 3 }
def fPM_BIST_STAT_RESULT : Fld := { hi := 2, lo := 2 }
def fPM_BIST_STAT_KIND : Fld := { hi := 1, lo := 0 }
def fTR_CFG_GROUPS : Fld := { hi := 63, lo := 56 }
def fTR_CFG_PCIE_GCNT : Fld := { hi := 44, lo := 44 }
def fTR_CFG_CTX : Fld := { hi := 37, lo := 32 }
def fTR_CFG_POST_SHARE : Fld := { hi := 7, lo := 4 }
def fTR_CFG_MODE : Fld := { hi := 1, lo := 0 }
def fTR_STATUS_TRIG_IDX : Fld := { hi := 63, lo := 44 }
def fTR_STATUS_WRAPS : Fld := { hi := 43, lo := 24 }
def fTR_STATUS_ERR : Fld := { hi := 3, lo := 3 }
def fTR_STATUS_CFG_REJ : Fld := { hi := 2, lo := 2 }
def fTR_STATUS_STATE : Fld := { hi := 1, lo := 0 }
def fTR_STREAM_RD_PTR : Fld := { hi := 63, lo := 0 }
def fTR_STREAM_WR_PTR : Fld := { hi := 63, lo := 0 }
def fTR_CTRL_STOP : Fld := { hi := 2, lo := 2 }
def fTR_CTRL_TRIG : Fld := { hi := 1, lo := 1 }
def fTR_CTRL_ARM : Fld := { hi := 0, lo := 0 }
def fTR_TRIG_CFG_M_EVENT : Fld := { hi := 31, lo := 28 }
def fTR_TRIG_CFG_M_BAD : Fld := { hi := 27, lo := 27 }
def fTR_TRIG_CFG_M_CTX_EN : Fld := { hi := 26, lo := 26 }
def fTR_TRIG_CFG_M_CTX : Fld := { hi := 25, lo := 20 }
def fTR_TRIG_CFG_EN : Fld := { hi := 7, lo := 0 }
def fTR_FILTER_CTX_MASK : Fld := { hi := 63, lo := 0 }
def fTR_RD_RD : Fld := { hi := 19, lo := 0 }
def fTR_STREAM_BASE_DEST : Fld := { hi := 63, lo := 63 }
def fTR_STREAM_BASE_ADDR : Fld := { hi := 62, lo := 6 }
def fTR_STREAM_BASE_LOG2 : Fld := { hi := 5, lo := 0 }
def fTR_DUMP_GO : Fld := { hi := 63, lo := 63 }
def fTR_DUMP_DONE : Fld := { hi := 62, lo := 62 }
def fTR_DUMP_DUMP_ADDR : Fld := { hi := 43, lo := 6 }
def fTR_DUMP_LEN_LEN : Fld := { hi := 63, lo := 0 }
def fTR_HART_CTX_EN : Fld := { hi := 63, lo := 63 }
def fTR_HART_CTX_CTX : Fld := { hi := 5, lo := 0 }
def fTR_DROP_CNT_SRC_DROP : Fld := { hi := 63, lo := 40 }
def fTR_DROP_CNT_BUF_DROP : Fld := { hi := 39, lo := 16 }
def fTR_DROP_CNT_CLR : Fld := { hi := 0, lo := 0 }
def fTR_DROP_CNT2_LOST : Fld := { hi := 63, lo := 40 }
def fTR_DROP_CNT2_TRIG_LOST : Fld := { hi := 39, lo := 16 }
def fTR_DROP_CNT2_CLR : Fld := { hi := 0, lo := 0 }
def fTR_DENY_CNT_DENY_CNT : Fld := { hi := 63, lo := 40 }
def fTR_DENY_CNT_CLR : Fld := { hi := 0, lo := 0 }
def fTR_ENG_CMD_DESC_ID : Fld := { hi := 63, lo := 32 }
def fTR_ENG_CMD_CSEQ : Fld := { hi := 31, lo := 25 }
def fTR_ENG_CMD_EDGE : Fld := { hi := 24, lo := 24 }
def fTR_ENG_CMD_CTX : Fld := { hi := 21, lo := 16 }
def fTR_ENG_CMD_RUNNING : Fld := { hi := 0, lo := 0 }
def fTR_ENG_ACT_EDGE : Fld := { hi := 63, lo := 63 }
def fTR_ENG_ACT_CSEQ : Fld := { hi := 62, lo := 56 }
def fTR_ENG_ACT_ACT_CYC : Fld := { hi := 47, lo := 0 }
def fTR_ENG_BYTES_EDGE : Fld := { hi := 63, lo := 63 }
def fTR_ENG_BYTES_CSEQ : Fld := { hi := 62, lo := 56 }
def fTR_ENG_BYTES_BYTES : Fld := { hi := 47, lo := 0 }
def fTR_ENG_HOLD_EDGE : Fld := { hi := 63, lo := 63 }
def fTR_ENG_HOLD_CSEQ : Fld := { hi := 62, lo := 56 }
def fTR_ENG_HOLD_HOLD_K : Fld := { hi := 15, lo := 0 }
def fTR_AUTH_CMD_LEVEL_REQ : Fld := { hi := 9, lo := 8 }
def fTR_AUTH_CMD_OP : Fld := { hi := 1, lo := 0 }
def fTR_AUTH_STAT_OK_CNT : Fld := { hi := 63, lo := 40 }
def fTR_AUTH_STAT_FAIL_CNT : Fld := { hi := 39, lo := 16 }
def fTR_AUTH_STAT_ATTEMPTS : Fld := { hi := 5, lo := 4 }
def fTR_AUTH_STAT_BUSY : Fld := { hi := 3, lo := 3 }
def fTR_AUTH_STAT_LOCKED : Fld := { hi := 2, lo := 2 }
def fTR_AUTH_STAT_LEVEL : Fld := { hi := 1, lo := 0 }
def fTR_AUTH_CHAL_CHAL : Fld := { hi := 63, lo := 0 }
def fTR_AUTH_KEY_KEY : Fld := { hi := 63, lo := 0 }
def fTR_AUTH_SIG_SIG : Fld := { hi := 63, lo := 0 }
def fIO_TIME_CFG_PPS_WIN_US : Fld := { hi := 31, lo := 24 }
def fIO_TIME_CFG_PPS_MIN_US : Fld := { hi := 23, lo := 16 }
def fIO_TIME_CFG_PPSO_WIDTH_MS : Fld := { hi := 15, lo := 8 }
def fIO_TIME_CFG_PPS_EDGE : Fld := { hi := 3, lo := 3 }
def fIO_TIME_CFG_ORDER : Fld := { hi := 1, lo := 0 }
def fIO_TIME_STAT_CFG_REJ : Fld := { hi := 7, lo := 7 }
def fIO_TIME_STAT_SOURCE : Fld := { hi := 3, lo := 2 }
def fIO_TIME_STAT_AS_VALID : Fld := { hi := 1, lo := 1 }
def fIO_TIME_STAT_PPS_VALID : Fld := { hi := 0, lo := 0 }
def fIO_TIME_CNT_GLITCH_CNT : Fld := { hi := 63, lo := 40 }
def fIO_TIME_CNT_OUT_WIN_CNT : Fld := { hi := 39, lo := 16 }
def fIO_TIME_CNT_CLR : Fld := { hi := 0, lo := 0 }
def fIO_TIME_CNT2_LOST_CNT : Fld := { hi := 63, lo := 40 }
def fIO_TIME_CNT2_SWITCH_CNT : Fld := { hi := 39, lo := 16 }
def fIO_TIME_CNT2_CLR : Fld := { hi := 0, lo := 0 }
def fIO_TIME_SET_DTIME : Fld := { hi := 63, lo := 0 }
def fIO_TIME_ALT_ALT_OFS_NS : Fld := { hi := 63, lo := 0 }
def fIO_CAM_PHY_LANES : Fld := { hi := 63, lo := 32 }
def fIO_CAM_PHY_CPHY : Fld := { hi := 15, lo := 0 }
def fIO_GPIO_DIR_OUT_EN : Fld := { hi := 31, lo := 0 }
def fIO_GPIO_DATA_IN : Fld := { hi := 63, lo := 32 }
def fIO_GPIO_DATA_OUT : Fld := { hi := 31, lo := 0 }
def fIO_GPIO_FILT_FILT_US : Fld := { hi := 7, lo := 0 }
def fIO_MAC_CNT_RX_ERR : Fld := { hi := 63, lo := 40 }
def fIO_MAC_CNT_RX_DROP : Fld := { hi := 39, lo := 16 }
def fIO_MAC_CNT_CLR : Fld := { hi := 0, lo := 0 }
def fIO_XSPI_CMD_GO : Fld := { hi := 63, lo := 63 }
def fIO_XSPI_CMD_OP : Fld := { hi := 62, lo := 61 }
def fIO_XSPI_CMD_RESULT : Fld := { hi := 60, lo := 59 }
def fIO_XSPI_CMD_LEN : Fld := { hi := 40, lo := 32 }
def fIO_XSPI_CMD_FLASH_ADDR : Fld := { hi := 27, lo := 0 }
def fIO_XSPI_BUF_ADDR : Fld := { hi := 43, lo := 6 }
def fSI_IO_CNT_BUSOFF_CNT : Fld := { hi := 63, lo := 40 }
def fSI_IO_CNT_RX_DROP : Fld := { hi := 39, lo := 16 }
def fSI_IO_CNT_CLR : Fld := { hi := 0, lo := 0 }
def fHUB_ID_PART_NO : Fld := { hi := 63, lo := 48 }
def fHUB_ID_REV_MAJOR : Fld := { hi := 43, lo := 40 }
def fHUB_ID_REV_MINOR : Fld := { hi := 39, lo := 36 }
def fHUB_ID_HBM_GIB : Fld := { hi := 31, lo := 24 }
def fHUB_ID_VARIANT : Fld := { hi := 3, lo := 0 }
def fHUB_UID_UID : Fld := { hi := 63, lo := 0 }

end Sys2Proof.Machine
end

