-- ==== Sys2Proof/Machine/RegTable.lean ====
section
/-!
DEFINITION. The register tables as data: for each register its place, how often it
repeats, and its fields with their access types (Table 0.4) and reset values. The rows are
those of the manual's register tables, in the manual's order.
-/
namespace Sys2Proof.Machine

/-- Access types of Table 0.4. -/
inductive Acc where
  | ro | rw | wo | w1c
  deriving DecidableEq, Repr

/-- One field: highest bit, lowest bit, access type and reset value. -/
structure FieldDef where
  hi  : Nat
  lo  : Nat
  acc : Acc
  rst : Nat
  deriving DecidableEq, Repr

/-- One register of a block: the address of its first instance, the block's window
stride and count, and the stride and count inside the window. -/
structure RegDef where
  base    : Nat
  wstride : Nat
  wcount  : Nat
  stride  : Nat
  count   : Nat
  fields  : List FieldDef
  deriving DecidableEq, Repr

/-- A field row, written short. -/
def fd (hi lo : Nat) (acc : Acc) (rst : Nat) : FieldDef := { hi := hi, lo := lo, acc := acc, rst := rst }

/-- Registers of the TILE windows, part 1. -/
def regsTILE0 : List RegDef := [
  -- TILE_ARITH_CNT
  { base := 0x1400000200, wstride := 0x10000, wcount := 128, stride := 0x0, count := 1,
    fields := [fd 63 40 .ro 0, fd 39 16 .ro 0, fd 0 0 .wo 0] },
  -- TILE_STATUS
  { base := 0x1400000000, wstride := 0x10000, wcount := 128, stride := 0x0, count := 1,
    fields := [fd 37 32 .ro 0, fd 31 20 .ro 0, fd 19 10 .ro 0, fd 7 7 .ro 0, fd 6 6 .ro 1, fd 3 0 .ro 0] },
  -- TILE_LEAP_CFG
  { base := 0x1400000100, wstride := 0x10000, wcount := 128, stride := 0x0, count := 1,
    fields := [fd 31 0 .rw 0x7d0] },
  -- TILE_LEAP_STAT
  { base := 0x1400000108, wstride := 0x10000, wcount := 128, stride := 0x0, count := 1,
    fields := [fd 63 40 .ro 0, fd 39 8 .ro 0, fd 0 0 .wo 0] },
  -- TILE_ECC_CNT
  { base := 0x1400000210, wstride := 0x10000, wcount := 128, stride := 0x0, count := 1,
    fields := [fd 63 40 .ro 0, fd 39 16 .ro 0, fd 0 0 .wo 0] }]

/-- All registers of the TILE windows. -/
def regsTILE : List RegDef := regsTILE0

/-- Registers of the DE windows, part 1. -/
def regsDE0 : List RegDef := [
  -- DE_ARITH_CNT
  { base := 0x1400900200, wstride := 0x10000, wcount := 32, stride := 0x0, count := 1,
    fields := [fd 63 40 .ro 0, fd 39 16 .ro 0, fd 0 0 .wo 0] },
  -- DE_KV_CNT
  { base := 0x1400900220, wstride := 0x10000, wcount := 32, stride := 0x0, count := 1,
    fields := [fd 63 40 .ro 0, fd 39 16 .ro 0, fd 0 0 .wo 0] }]

/-- All registers of the DE windows. -/
def regsDE : List RegDef := regsDE0

/-- Registers of the GE windows, part 1. -/
def regsGE0 : List RegDef := [
  -- GE_STATUS
  { base := 0x1400800000, wstride := 0x10000, wcount := 16, stride := 0x0, count := 1,
    fields := [fd 37 32 .ro 0, fd 31 24 .ro 0, fd 23 20 .ro 0, fd 19 15 .ro 0, fd 14 14 .ro 0, fd 6 6 .ro 1, fd 3 0 .ro 0] },
  -- GE_EVENT_CNT
  { base := 0x1400800200, wstride := 0x10000, wcount := 16, stride := 0x0, count := 1,
    fields := [fd 63 40 .ro 0, fd 39 16 .ro 0, fd 0 0 .wo 0] },
  -- GE_ECC_CNT
  { base := 0x1400800210, wstride := 0x10000, wcount := 16, stride := 0x0, count := 1,
    fields := [fd 63 40 .ro 0, fd 39 16 .ro 0, fd 0 0 .wo 0] }]

/-- All registers of the GE windows. -/
def regsGE : List RegDef := regsGE0

/-- Registers of the HUB windows, part 1. -/
def regsHUB0 : List RegDef := [
  -- HUB_KV_SCORE_STAT
  { base := 0x1401300400, wstride := 0x10000, wcount := 1, stride := 0x0, count := 1,
    fields := [fd 63 40 .ro 0, fd 22 16 .ro 0, fd 0 0 .wo 0] },
  -- HUB_KV_SCORE_ENT
  { base := 0x1401300800, wstride := 0x10000, wcount := 1, stride := 0x8, count := 64,
    fields := [fd 63 63 .ro 0, fd 55 50 .ro 0, fd 43 0 .ro 0] },
  -- HUB_SLOT_CFG
  { base := 0x1401302000, wstride := 0x10000, wcount := 1, stride := 0x8, count := 64,
    fields := [fd 9 9 .rw 0, fd 8 8 .rw 0, fd 7 6 .rw 0, fd 5 0 .rw 0] },
  -- HUB_IRQ_STATUS
  { base := 0x1401300100, wstride := 0x10000, wcount := 1, stride := 0x0, count := 1,
    fields := [fd 3 0 .w1c 0] },
  -- HUB_IRQ_EN
  { base := 0x1401300108, wstride := 0x10000, wcount := 1, stride := 0x0, count := 1,
    fields := [fd 3 0 .rw 0xf] },
  -- HUB_TEST_CFG
  { base := 0x1401303000, wstride := 0x10000, wcount := 1, stride := 0x0, count := 1,
    fields := [fd 23 20 .rw 0xd, fd 15 8 .rw 0x50, fd 3 3 .rw 0, fd 1 1 .w1c 0, fd 0 0 .rw 0] },
  -- HUB_TEST_BASE
  { base := 0x1401303008, wstride := 0x10000, wcount := 1, stride := 0x0, count := 1,
    fields := [fd 43 24 .rw 0] },
  -- HUB_UNTESTED
  { base := 0x1401303010, wstride := 0x10000, wcount := 1, stride := 0x8, count := 3,
    fields := [fd 63 0 .ro 0xffffffffffffffff] },
  -- HUB_TEST_FAIL
  { base := 0x1401303028, wstride := 0x10000, wcount := 1, stride := 0x8, count := 3,
    fields := [fd 63 0 .ro 0] },
  -- HUB_TEST_RETEST
  { base := 0x1401303040, wstride := 0x10000, wcount := 1, stride := 0x0, count := 1,
    fields := [fd 8 8 .wo 0, fd 7 0 .wo 0] },
  -- HUB_TEST_LAST
  { base := 0x1401303048, wstride := 0x10000, wcount := 1, stride := 0x0, count := 1,
    fields := [fd 63 0 .ro 0] },
  -- HUB_TEST_LASTI
  { base := 0x1401303050, wstride := 0x10000, wcount := 1, stride := 0x0, count := 1,
    fields := [fd 63 56 .ro 0, fd 55 48 .ro 0, fd 47 16 .ro 0] }]

/-- Registers of the HUB windows, part 2. -/
def regsHUB1 : List RegDef := [
  -- HUB_TEST_CNT
  { base := 0x1401303200, wstride := 0x10000, wcount := 1, stride := 0x0, count := 1,
    fields := [fd 63 40 .ro 0, fd 39 16 .ro 0, fd 0 0 .wo 0] },
  -- HUB_TEST_CNT2
  { base := 0x1401303208, wstride := 0x10000, wcount := 1, stride := 0x0, count := 1,
    fields := [fd 63 40 .ro 0, fd 39 16 .ro 0, fd 0 0 .wo 0] },
  -- HUB_ID
  { base := 0x1401300000, wstride := 0x10000, wcount := 1, stride := 0x0, count := 1,
    fields := [fd 63 48 .ro 9, fd 43 40 .ro 0, fd 39 36 .ro 0, fd 31 24 .ro 0, fd 3 0 .ro 0] },
  -- HUB_UID
  { base := 0x1401300008, wstride := 0x10000, wcount := 1, stride := 0x0, count := 1,
    fields := [fd 63 0 .ro 0] }]

/-- All registers of the HUB windows. -/
def regsHUB : List RegDef := regsHUB0 ++ regsHUB1

/-- Registers of the HUB_CTX windows, part 1. -/
def regsHUBCTX0 : List RegDef := [
  -- HUB_CTX_CFG
  { base := 0x1402000000, wstride := 0x10000, wcount := 64, stride := 0x0, count := 1,
    fields := [fd 47 44 .rw 0, fd 43 40 .rw 0, fd 35 35 .rw 0, fd 34 34 .rw 0, fd 32 32 .rw 0, fd 0 0 .rw 0] },
  -- HUB_CTX_SQ
  { base := 0x1402000008, wstride := 0x10000, wcount := 64, stride := 0x0, count := 1,
    fields := [fd 43 12 .rw 0, fd 4 0 .rw 0] },
  -- HUB_CTX_CQ
  { base := 0x1402000010, wstride := 0x10000, wcount := 64, stride := 0x0, count := 1,
    fields := [fd 43 12 .rw 0, fd 4 0 .rw 0] },
  -- HUB_CTX_STATUS
  { base := 0x1402000018, wstride := 0x10000, wcount := 64, stride := 0x0, count := 1,
    fields := [fd 63 32 .ro 0, fd 23 16 .ro 0, fd 11 11 .w1c 0, fd 10 10 .w1c 0, fd 9 9 .w1c 0, fd 8 8 .w1c 0, fd 2 2 .ro 0, fd 1 0 .ro 0] },
  -- HUB_CTX_PTRS
  { base := 0x1402000020, wstride := 0x10000, wcount := 64, stride := 0x0, count := 1,
    fields := [fd 63 32 .ro 0, fd 31 0 .ro 0] },
  -- HUB_CTX_TAIL_MIRROR
  { base := 0x1402000028, wstride := 0x10000, wcount := 64, stride := 0x0, count := 1,
    fields := [fd 63 63 .rw 0, fd 43 3 .rw 0] },
  -- HUB_CTX_CNT
  { base := 0x1402000100, wstride := 0x10000, wcount := 64, stride := 0x0, count := 1,
    fields := [fd 63 40 .ro 0, fd 39 16 .ro 0, fd 0 0 .wo 0] },
  -- HUB_CTX_RGN_BASE
  { base := 0x1402001000, wstride := 0x10000, wcount := 64, stride := 0x10, count := 64,
    fields := [fd 63 63 .rw 0, fd 62 62 .rw 0, fd 61 61 .rw 0, fd 60 60 .rw 0, fd 59 56 .rw 0, fd 43 6 .rw 0] },
  -- HUB_CTX_RGN_LIM
  { base := 0x1402001008, wstride := 0x10000, wcount := 64, stride := 0x10, count := 64,
    fields := [fd 43 6 .rw 0] },
  -- HUB_CTX_JOB_STAT
  { base := 0x1402000030, wstride := 0x10000, wcount := 64, stride := 0x0, count := 1,
    fields := [fd 63 48 .ro 0, fd 47 32 .ro 0, fd 31 24 .ro 0, fd 23 16 .ro 0, fd 15 12 .ro 0, fd 8 8 .ro 0, fd 0 0 .wo 0] },
  -- HUB_CTX_WAIT_SUM
  { base := 0x1402000200, wstride := 0x10000, wcount := 64, stride := 0x0, count := 1,
    fields := [fd 63 0 .ro 0] },
  -- HUB_CTX_WAIT_MAX
  { base := 0x1402000208, wstride := 0x10000, wcount := 64, stride := 0x0, count := 1,
    fields := [fd 63 32 .ro 0, fd 31 0 .ro 0] }]

/-- Registers of the HUB_CTX windows, part 2. -/
def regsHUBCTX1 : List RegDef := [
  -- HUB_CTX_PRE_CNT
  { base := 0x1402000210, wstride := 0x10000, wcount := 64, stride := 0x0, count := 1,
    fields := [fd 63 32 .ro 0] },
  -- HUB_CTX_LOST_SUM
  { base := 0x1402000218, wstride := 0x10000, wcount := 64, stride := 0x0, count := 1,
    fields := [fd 63 0 .ro 0] },
  -- HUB_CTX_ACC_CLR
  { base := 0x1402000220, wstride := 0x10000, wcount := 64, stride := 0x0, count := 1,
    fields := [fd 0 0 .wo 0] },
  -- HUB_CTX_HIST
  { base := 0x1402000280, wstride := 0x10000, wcount := 64, stride := 0x8, count := 16,
    fields := [fd 63 0 .ro 0] }]

/-- All registers of the HUB_CTX windows. -/
def regsHUBCTX : List RegDef := regsHUBCTX0 ++ regsHUBCTX1

/-- Registers of the DB windows, part 1. -/
def regsDB0 : List RegDef := [
  -- DB_SQ_TAIL
  { base := 0x1800000000, wstride := 0x1000, wcount := 64, stride := 0x0, count := 1,
    fields := [fd 31 0 .rw 0] },
  -- DB_CQ_HEAD
  { base := 0x1800000008, wstride := 0x1000, wcount := 64, stride := 0x0, count := 1,
    fields := [fd 31 0 .rw 0] }]

/-- All registers of the DB windows. -/
def regsDB : List RegDef := regsDB0

/-- Registers of the QOS windows, part 1. -/
def regsQOS0 : List RegDef := [
  -- QOS_CLS_SCHED
  { base := 0x1401320100, wstride := 0x10000, wcount := 1, stride := 0x8, count := 16,
    fields := [fd 39 32 .rw 0, fd 8 8 .rw 1, fd 3 0 .rw 0] },
  -- QOS_CFG
  { base := 0x1401320000, wstride := 0x10000, wcount := 1, stride := 0x0, count := 1,
    fields := [fd 51 32 .ro 0x780, fd 20 1 .rw 0x3c000, fd 0 0 .w1c 0] },
  -- QOS_CLS_REG
  { base := 0x1401320200, wstride := 0x10000, wcount := 1, stride := 0x8, count := 16,
    fields := [fd 40 32 .rw 0x100, fd 29 24 .rw 0x30, fd 21 16 .rw 0x20, fd 7 0 .rw 0x10] },
  -- QOS_OCC_STAT
  { base := 0x1401320300, wstride := 0x10000, wcount := 1, stride := 0x0, count := 1,
    fields := [fd 63 40 .ro 0, fd 16 16 .wo 0, fd 15 0 .ro 0] },
  -- QOS_PORT_BKT
  { base := 0x1401320400, wstride := 0x10000, wcount := 1, stride := 0x20, count := 72,
    fields := [fd 51 32 .rw 0x1000, fd 19 16 .rw 0, fd 15 0 .rw 0] },
  -- QOS_PORT_CEIL
  { base := 0x1401320408, wstride := 0x10000, wcount := 1, stride := 0x20, count := 72,
    fields := [fd 51 32 .rw 0x1000, fd 15 0 .rw 0] },
  -- QOS_PORT_URG
  { base := 0x1401320410, wstride := 0x10000, wcount := 1, stride := 0x20, count := 72,
    fields := [fd 63 62 .ro 0, fd 43 40 .rw 0xe, fd 39 36 .rw 0xc, fd 35 32 .rw 8, fd 19 0 .rw 0] },
  -- QOS_PORT_TOK
  { base := 0x1401320418, wstride := 0x10000, wcount := 1, stride := 0x20, count := 72,
    fields := [fd 63 32 .ro 0x100000, fd 31 0 .ro 0x100000] },
  -- QOS_PORT_GBYTES
  { base := 0x1401321000, wstride := 0x10000, wcount := 1, stride := 0x20, count := 72,
    fields := [fd 63 0 .ro 0] },
  -- QOS_PORT_SBYTES
  { base := 0x1401321008, wstride := 0x10000, wcount := 1, stride := 0x20, count := 72,
    fields := [fd 63 0 .ro 0] },
  -- QOS_PORT_HOLD
  { base := 0x1401321010, wstride := 0x10000, wcount := 1, stride := 0x20, count := 72,
    fields := [fd 63 44 .ro 0, fd 43 24 .ro 0, fd 23 4 .ro 0, fd 0 0 .wo 0] },
  -- QOS_PORT_URGCNT
  { base := 0x1401321018, wstride := 0x10000, wcount := 1, stride := 0x20, count := 72,
    fields := [fd 63 40 .ro 0, fd 39 16 .ro 0, fd 0 0 .wo 0] }]

/-- Registers of the QOS windows, part 2. -/
def regsQOS1 : List RegDef := [
  -- QOS_CLS_SHARED
  { base := 0x1401322000, wstride := 0x10000, wcount := 1, stride := 0x8, count := 16,
    fields := [fd 63 0 .ro 0] }]

/-- All registers of the QOS windows. -/
def regsQOS : List RegDef := regsQOS0 ++ regsQOS1

/-- Registers of the CD windows, part 1. -/
def regsCD0 : List RegDef := [
  -- CD_SCHED_CFG
  { base := 0x1400b00100, wstride := 0x10000, wcount := 4, stride := 0x0, count := 1,
    fields := [fd 31 0 .rw 0xfa0] },
  -- CD_SCHED_STAT
  { base := 0x1400b00108, wstride := 0x10000, wcount := 4, stride := 0x0, count := 1,
    fields := [fd 63 40 .ro 0, fd 39 16 .ro 0, fd 0 0 .wo 0] },
  -- CD_ERR_CNT
  { base := 0x1400b00200, wstride := 0x10000, wcount := 4, stride := 0x0, count := 1,
    fields := [fd 63 40 .ro 0, fd 39 16 .ro 0, fd 0 0 .wo 0] }]

/-- All registers of the CD windows. -/
def regsCD : List RegDef := regsCD0

/-- Registers of the SH windows, part 1. -/
def regsSH0 : List RegDef := [
  -- SH_CFG
  { base := 0x1401330000, wstride := 0x10000, wcount := 1, stride := 0x0, count := 1,
    fields := [fd 43 6 .rw 0, fd 1 1 .rw 1, fd 0 0 .rw 0] },
  -- SH_STATUS
  { base := 0x1401330008, wstride := 0x10000, wcount := 1, stride := 0x0, count := 1,
    fields := [fd 63 0 .w1c 0] },
  -- SH_INSTANT
  { base := 0x1401330010, wstride := 0x10000, wcount := 1, stride := 0x0, count := 1,
    fields := [fd 63 0 .ro 0] },
  -- SH_FREE_BEFORE
  { base := 0x1401330018, wstride := 0x10000, wcount := 1, stride := 0x0, count := 1,
    fields := [fd 63 0 .rw 0] },
  -- SH_EVT
  { base := 0x1401330020, wstride := 0x10000, wcount := 1, stride := 0x0, count := 1,
    fields := [fd 63 40 .ro 0, fd 39 16 .ro 0, fd 4 4 .w1c 0, fd 3 3 .w1c 0, fd 2 2 .w1c 0, fd 0 0 .wo 0] },
  -- SH_CAL_STAT
  { base := 0x1401330028, wstride := 0x10000, wcount := 1, stride := 0x0, count := 1,
    fields := [fd 63 32 .ro 0, fd 31 20 .ro 0, fd 19 16 .ro 0, fd 1 1 .ro 0, fd 0 0 .wo 0] },
  -- SH_CAL_SAVED
  { base := 0x1401330030, wstride := 0x10000, wcount := 1, stride := 0x0, count := 1,
    fields := [fd 31 0 .rw 0] },
  -- SH_CAL_LIM
  { base := 0x1401330040, wstride := 0x10000, wcount := 1, stride := 0x0, count := 1,
    fields := [fd 63 48 .rw 0x64, fd 47 32 .rw 0x7d0, fd 31 16 .rw 0x32, fd 15 0 .rw 0x1f4] },
  -- SH_SENS_STAT
  { base := 0x1401330400, wstride := 0x10000, wcount := 1, stride := 0x8, count := 64,
    fields := [fd 63 32 .ro 0, fd 31 0 .ro 0] },
  -- SH_SENS_CNT
  { base := 0x1401330800, wstride := 0x10000, wcount := 1, stride := 0x8, count := 64,
    fields := [fd 63 62 .ro 0, fd 61 42 .ro 0, fd 41 22 .ro 0, fd 21 2 .ro 0, fd 0 0 .wo 0] }]

/-- All registers of the SH windows. -/
def regsSH : List RegDef := regsSH0

/-- Registers of the PLAN windows, part 1. -/
def regsPLAN0 : List RegDef := [
  -- PC_PLAN_CFG
  { base := 0x1401001000, wstride := 0x10000, wcount := 1, stride := 0x0, count := 1,
    fields := [fd 63 40 .rw 0x2710, fd 39 36 .rw 0, fd 29 24 .rw 0, fd 21 16 .rw 0, fd 13 8 .rw 0, fd 5 4 .rw 0, fd 0 0 .rw 0] },
  -- PC_PLAN_BASE
  { base := 0x1401001008, wstride := 0x10000, wcount := 1, stride := 0x0, count := 1,
    fields := [fd 43 6 .rw 0] },
  -- PC_PLAN_AGE
  { base := 0x1401001010, wstride := 0x10000, wcount := 1, stride := 0x0, count := 1,
    fields := [fd 31 0 .rw 0xea60] },
  -- PC_PLAN_STAT
  { base := 0x1401001018, wstride := 0x10000, wcount := 1, stride := 0x0, count := 1,
    fields := [fd 63 32 .ro 0, fd 3 3 .w1c 0, fd 2 2 .w1c 0, fd 1 1 .ro 0] },
  -- PC_LIM_K
  { base := 0x1401001020, wstride := 0x10000, wcount := 1, stride := 0x0, count := 1,
    fields := [fd 63 32 .rw 0, fd 31 0 .rw 0] },
  -- PC_LIM_SR
  { base := 0x1401001028, wstride := 0x10000, wcount := 1, stride := 0x0, count := 1,
    fields := [fd 63 32 .rw 0, fd 31 0 .rw 0] },
  -- PC_LIM_A
  { base := 0x1401001030, wstride := 0x10000, wcount := 1, stride := 0x0, count := 1,
    fields := [fd 63 32 .rw 0, fd 31 0 .rw 0] },
  -- PC_LIM_WJ
  { base := 0x1401001038, wstride := 0x10000, wcount := 1, stride := 0x0, count := 1,
    fields := [fd 63 32 .rw 0, fd 31 0 .rw 0] },
  -- PC_LIM_V
  { base := 0x1401001040, wstride := 0x10000, wcount := 1, stride := 0x0, count := 1,
    fields := [fd 63 32 .rw 0, fd 31 0 .rw 0] },
  -- PC_LIM_SIZE
  { base := 0x1401001048, wstride := 0x10000, wcount := 1, stride := 0x0, count := 1,
    fields := [fd 63 32 .rw 0, fd 31 0 .rw 0] },
  -- PC_LIM_REAR
  { base := 0x1401001050, wstride := 0x10000, wcount := 1, stride := 0x0, count := 1,
    fields := [fd 31 0 .rw 0] },
  -- PC_WEIGHTS
  { base := 0x1401001058, wstride := 0x10000, wcount := 1, stride := 0x0, count := 1,
    fields := [fd 63 32 .rw 0, fd 31 0 .rw 0] }]

/-- Registers of the PLAN windows, part 2. -/
def regsPLAN1 : List RegDef := [
  -- PC_OUT_CNT0
  { base := 0x1401001100, wstride := 0x10000, wcount := 1, stride := 0x0, count := 1,
    fields := [fd 63 40 .ro 0, fd 39 16 .ro 0, fd 0 0 .wo 0] },
  -- PC_OUT_CNT1
  { base := 0x1401001108, wstride := 0x10000, wcount := 1, stride := 0x0, count := 1,
    fields := [fd 63 40 .ro 0, fd 39 16 .ro 0, fd 0 0 .wo 0] },
  -- PC_OUT_CNT2
  { base := 0x1401001110, wstride := 0x10000, wcount := 1, stride := 0x0, count := 1,
    fields := [fd 63 40 .ro 0, fd 39 16 .ro 0, fd 0 0 .wo 0] },
  -- PC_OUT_CNT3
  { base := 0x1401001118, wstride := 0x10000, wcount := 1, stride := 0x0, count := 1,
    fields := [fd 63 40 .ro 0, fd 39 16 .ro 0, fd 0 0 .wo 0] },
  -- PC_BAND
  { base := 0x1401001080, wstride := 0x10000, wcount := 1, stride := 0x8, count := 8,
    fields := [fd 47 32 .rw 0, fd 31 16 .rw 0, fd 15 0 .rw 0] }]

/-- All registers of the PLAN windows. -/
def regsPLAN : List RegDef := regsPLAN0 ++ regsPLAN1

/-- Registers of the PC windows, part 1. -/
def regsPC0 : List RegDef := [
  -- PC_STATUS
  { base := 0x1401000000, wstride := 0x10000, wcount := 8, stride := 0x0, count := 1,
    fields := [fd 63 32 .ro 0, fd 23 16 .ro 0, fd 6 6 .ro 1, fd 3 0 .ro 0] },
  -- PC_CNT
  { base := 0x1401000200, wstride := 0x10000, wcount := 8, stride := 0x0, count := 1,
    fields := [fd 63 40 .ro 0, fd 39 16 .ro 0, fd 0 0 .wo 0] },
  -- PC_REJ_CNT
  { base := 0x1401000208, wstride := 0x10000, wcount := 8, stride := 0x0, count := 1,
    fields := [fd 63 40 .ro 0, fd 39 16 .ro 0, fd 0 0 .wo 0] }]

/-- All registers of the PC windows. -/
def regsPC : List RegDef := regsPC0

/-- Registers of the MC windows, part 1. -/
def regsMC0 : List RegDef := [
  -- MC_STATUS
  { base := 0x1400c00000, wstride := 0x10000, wcount := 64, stride := 0x0, count := 1,
    fields := [fd 63 56 .ro 0, fd 50 48 .ro 0, fd 44 42 .ro 0, fd 41 40 .ro 0, fd 37 32 .ro 0, fd 29 24 .ro 0, fd 7 7 .w1c 0, fd 6 6 .w1c 0, fd 5 5 .w1c 0, fd 4 4 .ro 0, fd 3 0 .ro 0] },
  -- MC_CFG
  { base := 0x1400c00008, wstride := 0x10000, wcount := 64, stride := 0x0, count := 1,
    fields := [fd 63 48 .rw 0x200, fd 47 32 .rw 0x40, fd 29 24 .rw 0x28, fd 21 16 .rw 0xc, fd 0 0 .wo 0] },
  -- MC_DLY_CTRL
  { base := 0x1400c00010, wstride := 0x10000, wcount := 64, stride := 0x0, count := 1,
    fields := [fd 7 5 .rw 0, fd 1 1 .ro 0, fd 0 0 .wo 0] },
  -- MC_DLY_BASE
  { base := 0x1400c00018, wstride := 0x10000, wcount := 64, stride := 0x0, count := 1,
    fields := [fd 15 8 .rw 0, fd 7 0 .rw 0] },
  -- MC_DLY_RD
  { base := 0x1400c00020, wstride := 0x10000, wcount := 64, stride := 0x8, count := 3,
    fields := [fd 63 0 .rw 0] },
  -- MC_DLY_WR
  { base := 0x1400c00038, wstride := 0x10000, wcount := 64, stride := 0x8, count := 3,
    fields := [fd 63 0 .rw 0] },
  -- MC_ECC_CNT
  { base := 0x1400c00200, wstride := 0x10000, wcount := 64, stride := 0x0, count := 1,
    fields := [fd 63 40 .ro 0, fd 39 16 .ro 0, fd 0 0 .wo 0] },
  -- MC_PAR_CNT
  { base := 0x1400c00208, wstride := 0x10000, wcount := 64, stride := 0x0, count := 1,
    fields := [fd 63 40 .ro 0, fd 39 16 .ro 0, fd 0 0 .wo 0] },
  -- MC_HAZ_CNT
  { base := 0x1400c00210, wstride := 0x10000, wcount := 64, stride := 0x0, count := 1,
    fields := [fd 63 40 .ro 0, fd 39 16 .ro 0, fd 0 0 .wo 0] },
  -- MC_POISON_CNT
  { base := 0x1400c00218, wstride := 0x10000, wcount := 64, stride := 0x0, count := 1,
    fields := [fd 63 40 .ro 0, fd 39 16 .ro 0, fd 0 0 .wo 0] }]

/-- All registers of the MC windows. -/
def regsMC : List RegDef := regsMC0

/-- Registers of the SC windows, part 1. -/
def regsSC0 : List RegDef := [
  -- SC_MAINT
  { base := 0x1401310000, wstride := 0x10000, wcount := 1, stride := 0x0, count := 1,
    fields := [fd 8 8 .ro 0, fd 1 0 .wo 0] },
  -- SC_WAYMASK
  { base := 0x1401310100, wstride := 0x10000, wcount := 1, stride := 0x8, count := 16,
    fields := [fd 15 0 .rw 0xffff] },
  -- SC_ECC_CNT
  { base := 0x1401310200, wstride := 0x10000, wcount := 1, stride := 0x0, count := 1,
    fields := [fd 63 40 .ro 0, fd 39 16 .ro 0, fd 0 0 .wo 0] },
  -- SC_CLS_HIT
  { base := 0x1401310400, wstride := 0x10000, wcount := 1, stride := 0x10, count := 16,
    fields := [fd 63 0 .ro 0] },
  -- SC_CLS_MISS
  { base := 0x1401310408, wstride := 0x10000, wcount := 1, stride := 0x10, count := 16,
    fields := [fd 63 0 .ro 0] },
  -- SC_CLS_OCC
  { base := 0x1401310600, wstride := 0x10000, wcount := 1, stride := 0x8, count := 16,
    fields := [fd 19 0 .ro 0] }]

/-- All registers of the SC windows. -/
def regsSC : List RegDef := regsSC0

/-- Registers of the SK_conn windows, part 1. -/
def regsSKconn0 : List RegDef := [
  -- SK_CONN_STATUS
  { base := 0x1401100000, wstride := 0x10000, wcount := 10, stride := 0x0, count := 1,
    fields := [fd 47 40 .ro 0, fd 39 32 .ro 0, fd 31 24 .ro 0, fd 23 16 .ro 0, fd 11 8 .ro 0, fd 5 5 .ro 0, fd 4 4 .ro 0, fd 2 0 .ro 0] },
  -- SK_CONN_CFG
  { base := 0x1401100008, wstride := 0x10000, wcount := 10, stride := 0x0, count := 1,
    fields := [fd 47 32 .rw 0x64, fd 31 16 .rw 0x40, fd 15 8 .rw 0x10] },
  -- SK_MAP_LO
  { base := 0x1401100100, wstride := 0x10000, wcount := 10, stride := 0x10, count := 48,
    fields := [fd 63 0 .ro 0] },
  -- SK_MAP_HI
  { base := 0x1401100108, wstride := 0x10000, wcount := 10, stride := 0x10, count := 48,
    fields := [fd 23 16 .ro 0, fd 11 10 .ro 0, fd 3 0 .ro 0] },
  -- SK_CONN_EVT
  { base := 0x1401100600, wstride := 0x10000, wcount := 10, stride := 0x0, count := 1,
    fields := [fd 63 40 .ro 0, fd 39 16 .ro 0, fd 0 0 .wo 0] },
  -- SK_BCRC
  { base := 0x1401100400, wstride := 0x10000, wcount := 10, stride := 0x8, count := 48,
    fields := [fd 63 40 .ro 0, fd 39 16 .ro 0, fd 0 0 .wo 0] }]

/-- All registers of the SK_conn windows. -/
def regsSKconn : List RegDef := regsSKconn0

/-- Registers of the SK_die windows, part 1. -/
def regsSKdie0 : List RegDef := [
  -- SK_DIE_STATE
  { base := 0x14011a0000, wstride := 0x10000, wcount := 1, stride := 0x0, count := 1,
    fields := [fd 23 0 .ro 0x333333] },
  -- SK_DIE_CTRL
  { base := 0x14011a0008, wstride := 0x10000, wcount := 1, stride := 0x0, count := 1,
    fields := [fd 32 32 .rw 1, fd 31 24 .rw 0xa, fd 23 16 .rw 3, fd 13 8 .wo 0, fd 5 0 .wo 0] },
  -- SK_QLOG_HEAD
  { base := 0x14011a0010, wstride := 0x10000, wcount := 1, stride := 0x0, count := 1,
    fields := [fd 63 32 .ro 0, fd 3 0 .ro 0] },
  -- SK_QLOG_TIME
  { base := 0x14011a0100, wstride := 0x10000, wcount := 1, stride := 0x10, count := 16,
    fields := [fd 63 0 .ro 0] },
  -- SK_QLOG_INFO
  { base := 0x14011a0108, wstride := 0x10000, wcount := 1, stride := 0x10, count := 16,
    fields := [fd 55 48 .ro 0, fd 47 44 .ro 0, fd 43 40 .ro 0, fd 39 36 .ro 0, fd 35 16 .ro 0, fd 15 0 .ro 0] }]

/-- All registers of the SK_die windows. -/
def regsSKdie : List RegDef := regsSKdie0

/-- Registers of the CH windows, part 1. -/
def regsCH0 : List RegDef := [
  -- CH_CFG
  { base := 0x1401340000, wstride := 0x10000, wcount := 1, stride := 0x0, count := 1,
    fields := [fd 63 48 .rw 0, fd 39 32 .rw 0x14, fd 23 23 .rw 0, fd 19 16 .rw 0, fd 15 15 .rw 0, fd 11 8 .rw 0, fd 1 1 .rw 0, fd 0 0 .rw 0] },
  -- CH_STATUS
  { base := 0x1401340008, wstride := 0x10000, wcount := 1, stride := 0x0, count := 1,
    fields := [fd 63 48 .ro 0, fd 47 44 .ro 0, fd 43 40 .ro 0, fd 39 36 .ro 0, fd 35 32 .ro 0, fd 23 20 .ro 0, fd 19 19 .w1c 0, fd 18 18 .ro 0, fd 17 16 .ro 0, fd 2 0 .ro 0] },
  -- CH_VIEW
  { base := 0x1401340010, wstride := 0x10000, wcount := 1, stride := 0x0, count := 1,
    fields := [fd 63 0 .ro 0] },
  -- CH_VIEW_ADDR
  { base := 0x1401340018, wstride := 0x10000, wcount := 1, stride := 0x0, count := 1,
    fields := [fd 43 6 .rw 0] },
  -- CH_BAR_CFG
  { base := 0x1401340020, wstride := 0x10000, wcount := 1, stride := 0x0, count := 1,
    fields := [fd 19 0 .rw 0xc350] },
  -- CH_ARRIVE_ADDR
  { base := 0x1401340028, wstride := 0x10000, wcount := 1, stride := 0x0, count := 1,
    fields := [fd 63 63 .rw 0, fd 43 3 .rw 0] },
  -- CH_RELEASE_ADDR
  { base := 0x1401340030, wstride := 0x10000, wcount := 1, stride := 0x0, count := 1,
    fields := [fd 63 63 .rw 0, fd 43 3 .rw 0] },
  -- CH_BAR_STAT
  { base := 0x1401340038, wstride := 0x10000, wcount := 1, stride := 0x0, count := 1,
    fields := [fd 63 0 .ro 0] },
  -- CH_RSP_CFG
  { base := 0x1401340040, wstride := 0x10000, wcount := 1, stride := 0x0, count := 1,
    fields := [fd 15 0 .rw 0xc8] },
  -- CH_ROUTE
  { base := 0x1401340100, wstride := 0x10000, wcount := 1, stride := 0x8, count := 16,
    fields := [fd 7 7 .ro 0, fd 6 5 .ro 0, fd 3 0 .ro 0] },
  -- CH_EVT_CNT
  { base := 0x1401340200, wstride := 0x10000, wcount := 1, stride := 0x0, count := 1,
    fields := [fd 63 40 .ro 0, fd 39 16 .ro 0, fd 0 0 .wo 0] },
  -- CH_ERR_CNT
  { base := 0x1401340208, wstride := 0x10000, wcount := 1, stride := 0x0, count := 1,
    fields := [fd 63 40 .ro 0, fd 39 16 .ro 0, fd 0 0 .wo 0] }]

/-- Registers of the CH windows, part 2. -/
def regsCH1 : List RegDef := [
  -- CH_ACC_CNT
  { base := 0x1401340210, wstride := 0x10000, wcount := 1, stride := 0x0, count := 1,
    fields := [fd 63 40 .ro 0, fd 39 16 .ro 0, fd 0 0 .wo 0] },
  -- CH_INRGN_BASE
  { base := 0x1401341000, wstride := 0x10000, wcount := 1, stride := 0x10, count := 64,
    fields := [fd 63 63 .rw 0, fd 62 62 .rw 0, fd 61 61 .rw 0, fd 60 60 .rw 0, fd 59 56 .rw 0, fd 43 6 .rw 0] },
  -- CH_INRGN_LIM
  { base := 0x1401341008, wstride := 0x10000, wcount := 1, stride := 0x10, count := 64,
    fields := [fd 63 48 .rw 0, fd 47 47 .rw 0, fd 43 6 .rw 0] }]

/-- All registers of the CH windows. -/
def regsCH : List RegDef := regsCH0 ++ regsCH1

/-- Registers of the DL windows, part 1. -/
def regsDL0 : List RegDef := [
  -- DL_CFG
  { base := 0x1401200000, wstride := 0x10000, wcount := 4, stride := 0x0, count := 1,
    fields := [fd 15 12 .rw 6, fd 9 8 .rw 2, fd 1 0 .rw 0] },
  -- DL_STATUS
  { base := 0x1401200008, wstride := 0x10000, wcount := 4, stride := 0x0, count := 1,
    fields := [fd 63 60 .ro 0, fd 59 58 .ro 0, fd 11 10 .ro 0, fd 9 8 .ro 0, fd 3 3 .w1c 0, fd 2 0 .ro 0] },
  -- DL_CNT
  { base := 0x1401200200, wstride := 0x10000, wcount := 4, stride := 0x0, count := 1,
    fields := [fd 63 40 .ro 0, fd 39 16 .ro 0, fd 0 0 .wo 0] },
  -- DL_LINK_CNT
  { base := 0x1401200208, wstride := 0x10000, wcount := 4, stride := 0x0, count := 1,
    fields := [fd 63 40 .ro 0, fd 39 16 .ro 0, fd 0 0 .wo 0] }]

/-- All registers of the DL windows. -/
def regsDL : List RegDef := regsDL0

/-- Registers of the SI windows, part 1. -/
def regsSI0 : List RegDef := [
  -- SI_STATUS
  { base := 0x1401400000, wstride := 0x10000, wcount := 2, stride := 0x0, count := 1,
    fields := [fd 63 60 .ro 0, fd 59 52 .ro 0, fd 51 49 .ro 0, fd 48 46 .ro 0, fd 45 44 .ro 0, fd 12 12 .ro 0, fd 11 11 .ro 0, fd 10 10 .ro 0, fd 9 9 .ro 0, fd 8 8 .ro 0, fd 7 7 .ro 0, fd 6 6 .ro 0, fd 5 5 .ro 1, fd 4 3 .ro 0, fd 2 0 .ro 0] },
  -- SI_CFG
  { base := 0x1401400008, wstride := 0x10000, wcount := 2, stride := 0x0, count := 1,
    fields := [fd 63 63 .rw 0, fd 55 48 .rw 2, fd 47 40 .rw 0x19, fd 37 32 .rw 0, fd 29 24 .rw 0, fd 19 16 .rw 0, fd 8 8 .rw 0, fd 0 0 .w1c 0] },
  -- SI_TIMING
  { base := 0x1401400010, wstride := 0x10000, wcount := 2, stride := 0x0, count := 1,
    fields := [fd 63 48 .rw 0x3c, fd 47 32 .rw 0x78, fd 31 16 .rw 0x14, fd 15 8 .rw 5, fd 7 0 .rw 0xa] },
  -- SI_VIEW
  { base := 0x1401400018, wstride := 0x10000, wcount := 2, stride := 0x0, count := 1,
    fields := [fd 63 63 .rw 0, fd 43 6 .rw 0] },
  -- SI_CRIT
  { base := 0x1401400020, wstride := 0x10000, wcount := 2, stride := 0x0, count := 1,
    fields := [fd 63 0 .rw 0] },
  -- SI_RGN_BASE
  { base := 0x1401400040, wstride := 0x10000, wcount := 2, stride := 0x10, count := 4,
    fields := [fd 63 63 .rw 0, fd 43 6 .rw 0] },
  -- SI_RGN_LIM
  { base := 0x1401400048, wstride := 0x10000, wcount := 2, stride := 0x10, count := 4,
    fields := [fd 43 6 .rw 0] },
  -- SI_DIV
  { base := 0x14014001c0, wstride := 0x10000, wcount := 2, stride := 0x0, count := 1,
    fields := [fd 59 56 .rw 8, fd 31 16 .rw 0xc8] },
  -- SI_EFT
  { base := 0x14014001c8, wstride := 0x10000, wcount := 2, stride := 0x0, count := 1,
    fields := [fd 63 32 .rw 0, fd 31 0 .rw 0] },
  -- SI_CAN
  { base := 0x1401400200, wstride := 0x10000, wcount := 2, stride := 0x0, count := 1,
    fields := [fd 63 32 .rw 0, fd 31 24 .rw 0, fd 23 16 .rw 0, fd 10 0 .rw 0] },
  -- SI_ETH
  { base := 0x1401400208, wstride := 0x10000, wcount := 2, stride := 0x0, count := 1,
    fields := [fd 63 48 .rw 0, fd 47 0 .rw 0] },
  -- SI_ETH2
  { base := 0x1401400210, wstride := 0x10000, wcount := 2, stride := 0x0, count := 1,
    fields := [fd 63 32 .rw 0, fd 31 16 .rw 0, fd 7 5 .rw 0] }]

/-- Registers of the SI windows, part 2. -/
def regsSI1 : List RegDef := [
  -- SI_CFG_CRC
  { base := 0x1401400218, wstride := 0x10000, wcount := 2, stride := 0x0, count := 1,
    fields := [fd 31 0 .ro 0] },
  -- SI_CTRL
  { base := 0x1401400220, wstride := 0x10000, wcount := 2, stride := 0x0, count := 1,
    fields := [fd 0 0 .wo 0] },
  -- SI_LIM_K
  { base := 0x1401400100, wstride := 0x10000, wcount := 2, stride := 0x0, count := 1,
    fields := [fd 63 32 .rw 0, fd 31 0 .rw 0] },
  -- SI_LIM_SR
  { base := 0x1401400108, wstride := 0x10000, wcount := 2, stride := 0x0, count := 1,
    fields := [fd 63 32 .rw 0, fd 31 0 .rw 0] },
  -- SI_LIM_A
  { base := 0x1401400110, wstride := 0x10000, wcount := 2, stride := 0x0, count := 1,
    fields := [fd 63 32 .rw 0, fd 31 0 .rw 0] },
  -- SI_LIM_WJ
  { base := 0x1401400118, wstride := 0x10000, wcount := 2, stride := 0x0, count := 1,
    fields := [fd 63 32 .rw 0, fd 31 0 .rw 0] },
  -- SI_LIM_V
  { base := 0x1401400120, wstride := 0x10000, wcount := 2, stride := 0x0, count := 1,
    fields := [fd 63 32 .rw 0, fd 31 0 .rw 0] },
  -- SI_LIM_SIZE
  { base := 0x1401400128, wstride := 0x10000, wcount := 2, stride := 0x0, count := 1,
    fields := [fd 63 32 .rw 0, fd 31 0 .rw 0] },
  -- SI_LIM_REAR
  { base := 0x1401400130, wstride := 0x10000, wcount := 2, stride := 0x0, count := 1,
    fields := [fd 31 0 .rw 0] },
  -- SI_LIM_BAND
  { base := 0x1401400160, wstride := 0x10000, wcount := 2, stride := 0x8, count := 8,
    fields := [fd 47 32 .rw 0, fd 31 16 .rw 0, fd 15 0 .rw 0] },
  -- SI_TX_CNT
  { base := 0x1401400300, wstride := 0x10000, wcount := 2, stride := 0x0, count := 1,
    fields := [fd 63 0 .ro 0] },
  -- SI_OUT_CNT
  { base := 0x1401400308, wstride := 0x10000, wcount := 2, stride := 0x0, count := 1,
    fields := [fd 63 40 .ro 0, fd 39 16 .ro 0, fd 0 0 .wo 0] }]

/-- Registers of the SI windows, part 3. -/
def regsSI2 : List RegDef := [
  -- SI_FALL_CNT
  { base := 0x1401400310, wstride := 0x10000, wcount := 2, stride := 0x0, count := 1,
    fields := [fd 63 40 .ro 0, fd 39 16 .ro 0, fd 0 0 .wo 0] },
  -- SI_DIS_CNT
  { base := 0x1401400318, wstride := 0x10000, wcount := 2, stride := 0x0, count := 1,
    fields := [fd 63 40 .ro 0, fd 39 16 .ro 0, fd 0 0 .wo 0] },
  -- SI_AGE_CNT
  { base := 0x1401400320, wstride := 0x10000, wcount := 2, stride := 0x0, count := 1,
    fields := [fd 63 40 .ro 0, fd 39 16 .ro 0, fd 0 0 .wo 0] },
  -- SI_IO_CNT
  { base := 0x1401400328, wstride := 0x10000, wcount := 2, stride := 0x0, count := 1,
    fields := [fd 63 40 .ro 0, fd 39 16 .ro 0, fd 0 0 .wo 0] }]

/-- All registers of the SI windows. -/
def regsSI : List RegDef := regsSI0 ++ regsSI1 ++ regsSI2

/-- Registers of the PM windows, part 1. -/
def regsPM0 : List RegDef := [
  -- PM_CTRL
  { base := 0x1401350000, wstride := 0x10000, wcount := 1, stride := 0x0, count := 1,
    fields := [fd 47 32 .rw 0x64, fd 23 20 .rw 0, fd 11 11 .wo 0, fd 10 8 .wo 0, fd 0 0 .rw 1] },
  -- PM_STATUS
  { base := 0x1401350008, wstride := 0x10000, wcount := 1, stride := 0x0, count := 1,
    fields := [fd 31 28 .ro 0, fd 27 24 .ro 0, fd 23 16 .ro 0, fd 11 10 .ro 0, fd 9 9 .w1c 0, fd 8 8 .ro 0, fd 2 0 .ro 0] },
  -- PM_CLK
  { base := 0x1401350010, wstride := 0x10000, wcount := 1, stride := 0x0, count := 1,
    fields := [fd 15 12 .ro 0, fd 11 8 .ro 0, fd 7 4 .rw 0, fd 3 0 .rw 0] },
  -- PM_GATE_CFG
  { base := 0x1401350018, wstride := 0x10000, wcount := 1, stride := 0x0, count := 1,
    fields := [fd 47 32 .rw 0x32, fd 15 0 .rw 0x100] },
  -- PM_WAKE_CFG
  { base := 0x1401350020, wstride := 0x10000, wcount := 1, stride := 0x0, count := 1,
    fields := [fd 35 35 .rw 1, fd 34 34 .rw 0, fd 31 16 .rw 0, fd 15 0 .rw 0] },
  -- PM_WAKE_TIMER
  { base := 0x1401350028, wstride := 0x10000, wcount := 1, stride := 0x0, count := 1,
    fields := [fd 31 0 .rw 0] },
  -- PM_WAKE_CAUSE
  { base := 0x1401350030, wstride := 0x10000, wcount := 1, stride := 0x0, count := 1,
    fields := [fd 63 48 .ro 0, fd 47 32 .ro 0, fd 31 28 .ro 0, fd 27 27 .ro 0, fd 3 0 .ro 0] },
  -- PM_WAKE_DTIME
  { base := 0x1401350038, wstride := 0x10000, wcount := 1, stride := 0x0, count := 1,
    fields := [fd 63 0 .ro 0] },
  -- PM_BRU_CFG
  { base := 0x1401350040, wstride := 0x10000, wcount := 1, stride := 0x0, count := 1,
    fields := [fd 35 32 .rw 0, fd 31 0 .rw 0x3e8] },
  -- PM_BRU_STEP
  { base := 0x1401350100, wstride := 0x10000, wcount := 1, stride := 0x8, count := 16,
    fields := [fd 63 60 .rw 0, fd 59 56 .rw 1, fd 55 48 .rw 0, fd 31 16 .rw 0, fd 15 0 .rw 0] },
  -- PM_BRU_VAL
  { base := 0x1401350180, wstride := 0x10000, wcount := 1, stride := 0x8, count := 16,
    fields := [fd 19 16 .ro 0, fd 15 0 .ro 0] },
  -- PM_REF_LAST
  { base := 0x1401350200, wstride := 0x10000, wcount := 1, stride := 0x0, count := 1,
    fields := [fd 63 0 .ro 0] }]

/-- Registers of the PM windows, part 2. -/
def regsPM1 : List RegDef := [
  -- PM_REF_INFO
  { base := 0x1401350208, wstride := 0x10000, wcount := 1, stride := 0x0, count := 1,
    fields := [fd 47 38 .ro 0, fd 37 30 .ro 0, fd 29 26 .ro 0, fd 25 25 .ro 0, fd 24 20 .ro 0, fd 1 0 .ro 0] },
  -- PM_REF_CNT
  { base := 0x1401350210, wstride := 0x10000, wcount := 1, stride := 0x8, count := 9,
    fields := [fd 63 40 .ro 0, fd 39 16 .ro 0, fd 0 0 .wo 0] },
  -- PM_FORCE_CNT
  { base := 0x1401350258, wstride := 0x10000, wcount := 1, stride := 0x0, count := 1,
    fields := [fd 63 40 .ro 0, fd 0 0 .wo 0] },
  -- PM_BIST_CFG
  { base := 0x1401350300, wstride := 0x10000, wcount := 1, stride := 0x0, count := 1,
    fields := [fd 43 26 .rw 0, fd 7 0 .rw 0x78] },
  -- PM_BIST_STAT
  { base := 0x1401350308, wstride := 0x10000, wcount := 1, stride := 0x0, count := 1,
    fields := [fd 63 32 .ro 0, fd 31 24 .ro 0, fd 23 16 .ro 0, fd 3 3 .ro 0, fd 2 2 .ro 0, fd 1 0 .ro 0] }]

/-- All registers of the PM windows. -/
def regsPM : List RegDef := regsPM0 ++ regsPM1

/-- Registers of the TH windows, part 1. -/
def regsTH0 : List RegDef := [
  -- TH_CFG
  { base := 0x1401360000, wstride := 0x10000, wcount := 1, stride := 0x0, count := 1,
    fields := [fd 63 48 .rw 0x4b0, fd 47 32 .rw 0x4b0, fd 2 2 .rw 0, fd 1 1 .rw 0] },
  -- TH_STATUS
  { base := 0x1401360008, wstride := 0x10000, wcount := 1, stride := 0x0, count := 1,
    fields := [fd 15 15 .w1c 0, fd 14 14 .w1c 0, fd 13 13 .ro 0, fd 12 12 .ro 0, fd 11 11 .ro 0, fd 10 10 .ro 0, fd 9 9 .ro 0, fd 8 8 .ro 0, fd 5 5 .ro 0, fd 4 4 .ro 0, fd 2 0 .ro 0] },
  -- TH_COOL
  { base := 0x1401360010, wstride := 0x10000, wcount := 1, stride := 0x0, count := 1,
    fields := [fd 63 48 .ro 0x8000, fd 47 32 .ro 0x8000, fd 31 16 .ro 0x8000, fd 15 0 .ro 0x8000] },
  -- TH_POWER
  { base := 0x1401360018, wstride := 0x10000, wcount := 1, stride := 0x0, count := 1,
    fields := [fd 63 48 .ro 0, fd 47 32 .ro 0, fd 31 16 .ro 0x4b0] },
  -- TH_LVL_FLOW
  { base := 0x1401360020, wstride := 0x10000, wcount := 1, stride := 0x0, count := 1,
    fields := [fd 63 48 .rw 0xfa0, fd 47 32 .rw 0xbb8, fd 31 16 .rw 0x7d0, fd 15 0 .rw 0x3e8] },
  -- TH_LVL_RJC
  { base := 0x1401360028, wstride := 0x10000, wcount := 1, stride := 0x0, count := 1,
    fields := [fd 63 48 .rw 0x73, fd 47 32 .rw 0x82, fd 31 16 .rw 0xa0, fd 15 0 .rw 0xdc] },
  -- TH_LVL_HEAD
  { base := 0x1401360030, wstride := 0x10000, wcount := 1, stride := 0x0, count := 1,
    fields := [fd 63 56 .rw 0xf, fd 55 48 .rw 0xa, fd 47 40 .rw 5, fd 39 32 .rw 2, fd 7 0 .rw 8] },
  -- TH_CLAMP_CFG
  { base := 0x1401360038, wstride := 0x10000, wcount := 1, stride := 0x0, count := 1,
    fields := [fd 63 48 .rw 0xc8, fd 47 40 .rw 5, fd 39 36 .rw 3, fd 31 24 .rw 0xa, fd 1 1 .wo 0, fd 0 0 .rw 1] },
  -- TH_BASK
  { base := 0x1401360040, wstride := 0x10000, wcount := 1, stride := 0x0, count := 1,
    fields := [fd 63 56 .rw 0x14, fd 55 48 .rw 0xf, fd 47 40 .rw 0x28, fd 31 24 .ro 0, fd 0 0 .rw 1] },
  -- TH_SENS
  { base := 0x1401360100, wstride := 0x10000, wcount := 1, stride := 0x8, count := 68,
    fields := [fd 63 48 .ro 0, fd 47 32 .ro 0, fd 1 0 .ro 0] },
  -- TH_PAIR_FLAG
  { base := 0x1401360400, wstride := 0x10000, wcount := 1, stride := 0x0, count := 1,
    fields := [fd 33 0 .ro 0] },
  -- TH_EVT_CNT
  { base := 0x1401360500, wstride := 0x10000, wcount := 1, stride := 0x0, count := 1,
    fields := [fd 63 40 .ro 0, fd 39 16 .ro 0, fd 0 0 .wo 0] }]

/-- Registers of the TH windows, part 2. -/
def regsTH1 : List RegDef := [
  -- TH_LVL_CNT
  { base := 0x1401360508, wstride := 0x10000, wcount := 1, stride := 0x0, count := 1,
    fields := [fd 63 40 .ro 0, fd 39 16 .ro 0, fd 0 0 .wo 0] },
  -- TH_IN_CNT
  { base := 0x1401360510, wstride := 0x10000, wcount := 1, stride := 0x0, count := 1,
    fields := [fd 63 40 .ro 0, fd 39 16 .ro 0, fd 0 0 .wo 0] },
  -- TH_WEAR_SEC
  { base := 0x1401360600, wstride := 0x10000, wcount := 1, stride := 0x0, count := 1,
    fields := [fd 63 0 .rw 0] },
  -- TH_WEAR_LAST
  { base := 0x1401360608, wstride := 0x10000, wcount := 1, stride := 0x0, count := 1,
    fields := [fd 15 0 .rw 0] },
  -- TH_WEAR_CYC
  { base := 0x1401360610, wstride := 0x10000, wcount := 1, stride := 0x8, count := 8,
    fields := [fd 31 0 .rw 0] }]

/-- All registers of the TH windows. -/
def regsTH : List RegDef := regsTH0 ++ regsTH1

/-- Registers of the JN windows, part 1. -/
def regsJN0 : List RegDef := [
  -- JN_STATUS
  { base := 0x1401370000, wstride := 0x10000, wcount := 1, stride := 0x0, count := 1,
    fields := [fd 63 32 .ro 0, fd 19 19 .w1c 0, fd 18 18 .ro 0, fd 17 17 .ro 0, fd 16 16 .ro 0, fd 8 8 .ro 0, fd 2 0 .ro 4] },
  -- JN_BOOT
  { base := 0x1401370008, wstride := 0x10000, wcount := 1, stride := 0x0, count := 1,
    fields := [fd 63 32 .ro 0, fd 31 24 .ro 0, fd 23 17 .ro 0, fd 16 14 .ro 0, fd 13 11 .ro 0, fd 10 10 .ro 0, fd 9 8 .ro 0] },
  -- JN_FILL
  { base := 0x1401370010, wstride := 0x10000, wcount := 1, stride := 0x0, count := 1,
    fields := [fd 63 32 .ro 0, fd 31 0 .ro 0] },
  -- JN_SEQ
  { base := 0x1401370018, wstride := 0x10000, wcount := 1, stride := 0x0, count := 1,
    fields := [fd 31 0 .ro 0] },
  -- JN_APPEND_SRC
  { base := 0x1401370020, wstride := 0x10000, wcount := 1, stride := 0x0, count := 1,
    fields := [fd 43 6 .rw 0] },
  -- JN_APPEND
  { base := 0x1401370028, wstride := 0x10000, wcount := 1, stride := 0x0, count := 1,
    fields := [fd 63 63 .wo 0, fd 55 48 .rw 0, fd 47 32 .rw 0, fd 11 0 .rw 0] },
  -- JN_APPEND_STAT
  { base := 0x1401370030, wstride := 0x10000, wcount := 1, stride := 0x0, count := 1,
    fields := [fd 63 32 .ro 0, fd 7 4 .ro 0, fd 1 0 .ro 0] },
  -- JN_REPLAY
  { base := 0x1401370038, wstride := 0x10000, wcount := 1, stride := 0x0, count := 1,
    fields := [fd 43 6 .ro 0] },
  -- JN_REPLAY_LEN
  { base := 0x1401370040, wstride := 0x10000, wcount := 1, stride := 0x0, count := 1,
    fields := [fd 63 0 .ro 0] },
  -- JN_FUSE
  { base := 0x1401370048, wstride := 0x10000, wcount := 1, stride := 0x0, count := 1,
    fields := [fd 63 63 .wo 0, fd 9 8 .wo 0, fd 7 0 .wo 0] },
  -- JN_ERASE
  { base := 0x1401370050, wstride := 0x10000, wcount := 1, stride := 0x0, count := 1,
    fields := [fd 63 32 .ro 0, fd 31 0 .ro 0] },
  -- JN_CTRL
  { base := 0x1401370058, wstride := 0x10000, wcount := 1, stride := 0x0, count := 1,
    fields := [fd 0 0 .rw 0] }]

/-- Registers of the JN windows, part 2. -/
def regsJN1 : List RegDef := [
  -- JN_CNT
  { base := 0x1401370200, wstride := 0x10000, wcount := 1, stride := 0x0, count := 1,
    fields := [fd 63 40 .ro 0, fd 39 16 .ro 0, fd 0 0 .wo 0] },
  -- JN_CNT2
  { base := 0x1401370208, wstride := 0x10000, wcount := 1, stride := 0x0, count := 1,
    fields := [fd 63 40 .ro 0, fd 39 16 .ro 0, fd 0 0 .wo 0] }]

/-- All registers of the JN windows. -/
def regsJN : List RegDef := regsJN0 ++ regsJN1

/-- Registers of the TR windows, part 1. -/
def regsTR0 : List RegDef := [
  -- TR_CFG
  { base := 0x1401380000, wstride := 0x10000, wcount := 1, stride := 0x0, count := 1,
    fields := [fd 63 56 .rw 0xff, fd 44 44 .rw 0, fd 37 32 .rw 0, fd 7 4 .rw 4, fd 1 0 .rw 0] },
  -- TR_STATUS
  { base := 0x1401380008, wstride := 0x10000, wcount := 1, stride := 0x0, count := 1,
    fields := [fd 63 44 .ro 0, fd 43 24 .ro 0, fd 3 3 .w1c 0, fd 2 2 .w1c 0, fd 1 0 .ro 0] },
  -- TR_STREAM_RD
  { base := 0x1401380038, wstride := 0x10000, wcount := 1, stride := 0x0, count := 1,
    fields := [fd 63 0 .rw 0] },
  -- TR_STREAM_WR
  { base := 0x1401380040, wstride := 0x10000, wcount := 1, stride := 0x0, count := 1,
    fields := [fd 63 0 .ro 0] },
  -- TR_CTRL
  { base := 0x1401380010, wstride := 0x10000, wcount := 1, stride := 0x0, count := 1,
    fields := [fd 2 2 .wo 0, fd 1 1 .wo 0, fd 0 0 .wo 0] },
  -- TR_TRIG_CFG
  { base := 0x1401380018, wstride := 0x10000, wcount := 1, stride := 0x0, count := 1,
    fields := [fd 31 28 .rw 0, fd 27 27 .rw 0, fd 26 26 .rw 0, fd 25 20 .rw 0, fd 7 0 .rw 5] },
  -- TR_FILTER
  { base := 0x1401380020, wstride := 0x10000, wcount := 1, stride := 0x0, count := 1,
    fields := [fd 63 0 .rw 0xffffffffffffffff] },
  -- TR_RD
  { base := 0x1401380028, wstride := 0x10000, wcount := 1, stride := 0x0, count := 1,
    fields := [fd 19 0 .rw 0] },
  -- TR_STREAM_BASE
  { base := 0x1401380030, wstride := 0x10000, wcount := 1, stride := 0x0, count := 1,
    fields := [fd 63 63 .rw 0, fd 62 6 .rw 0, fd 5 0 .rw 0] },
  -- TR_DUMP
  { base := 0x1401380048, wstride := 0x10000, wcount := 1, stride := 0x0, count := 1,
    fields := [fd 63 63 .wo 0, fd 62 62 .ro 0, fd 43 6 .rw 0] },
  -- TR_DUMP_LEN
  { base := 0x1401380050, wstride := 0x10000, wcount := 1, stride := 0x0, count := 1,
    fields := [fd 63 0 .ro 0] },
  -- TR_HART_CTX
  { base := 0x1401380100, wstride := 0x10000, wcount := 1, stride := 0x8, count := 16,
    fields := [fd 63 63 .rw 0, fd 5 0 .rw 0] }]

/-- Registers of the TR windows, part 2. -/
def regsTR1 : List RegDef := [
  -- TR_DROP_CNT
  { base := 0x1401380200, wstride := 0x10000, wcount := 1, stride := 0x0, count := 1,
    fields := [fd 63 40 .ro 0, fd 39 16 .ro 0, fd 0 0 .wo 0] },
  -- TR_DROP_CNT2
  { base := 0x1401380208, wstride := 0x10000, wcount := 1, stride := 0x0, count := 1,
    fields := [fd 63 40 .ro 0, fd 39 16 .ro 0, fd 0 0 .wo 0] },
  -- TR_DENY_CNT
  { base := 0x1401380210, wstride := 0x10000, wcount := 1, stride := 0x0, count := 1,
    fields := [fd 63 40 .ro 0, fd 0 0 .wo 0] },
  -- TR_ENG_CMD
  { base := 0x1401382000, wstride := 0x10000, wcount := 1, stride := 0x20, count := 204,
    fields := [fd 63 32 .ro 0, fd 31 25 .ro 0, fd 24 24 .ro 0, fd 21 16 .ro 0, fd 0 0 .ro 0] },
  -- TR_ENG_ACT
  { base := 0x1401382008, wstride := 0x10000, wcount := 1, stride := 0x20, count := 204,
    fields := [fd 63 63 .ro 0, fd 62 56 .ro 0, fd 47 0 .ro 0] },
  -- TR_ENG_BYTES
  { base := 0x1401382010, wstride := 0x10000, wcount := 1, stride := 0x20, count := 204,
    fields := [fd 63 63 .ro 0, fd 62 56 .ro 0, fd 47 0 .ro 0] },
  -- TR_ENG_HOLD
  { base := 0x1401382018, wstride := 0x10000, wcount := 1, stride := 0x20, count := 204,
    fields := [fd 63 63 .ro 0, fd 62 56 .ro 0, fd 15 0 .ro 0] },
  -- TR_AUTH_CMD
  { base := 0x1401388000, wstride := 0x10000, wcount := 1, stride := 0x0, count := 1,
    fields := [fd 9 8 .wo 0, fd 1 0 .wo 0] },
  -- TR_AUTH_STAT
  { base := 0x1401388008, wstride := 0x10000, wcount := 1, stride := 0x0, count := 1,
    fields := [fd 63 40 .ro 0, fd 39 16 .ro 0, fd 5 4 .ro 0, fd 3 3 .ro 0, fd 2 2 .ro 0, fd 1 0 .ro 0] },
  -- TR_AUTH_CHAL
  { base := 0x1401388100, wstride := 0x10000, wcount := 1, stride := 0x8, count := 6,
    fields := [fd 63 0 .ro 0] },
  -- TR_AUTH_KEY
  { base := 0x1401388200, wstride := 0x10000, wcount := 1, stride := 0x8, count := 12,
    fields := [fd 63 0 .wo 0] },
  -- TR_AUTH_SIG
  { base := 0x1401388300, wstride := 0x10000, wcount := 1, stride := 0x8, count := 12,
    fields := [fd 63 0 .wo 0] }]

/-- All registers of the TR windows. -/
def regsTR : List RegDef := regsTR0 ++ regsTR1

/-- Registers of the IO windows, part 1. -/
def regsIO0 : List RegDef := [
  -- IO_TIME_CFG
  { base := 0x1401390000, wstride := 0x10000, wcount := 1, stride := 0x0, count := 1,
    fields := [fd 31 24 .rw 5, fd 23 16 .rw 0xa, fd 15 8 .rw 0x64, fd 3 3 .rw 0, fd 1 0 .rw 0] },
  -- IO_TIME_STAT
  { base := 0x1401390008, wstride := 0x10000, wcount := 1, stride := 0x0, count := 1,
    fields := [fd 7 7 .w1c 0, fd 3 2 .ro 0, fd 1 1 .ro 0, fd 0 0 .ro 0] },
  -- IO_TIME_CNT
  { base := 0x1401390010, wstride := 0x10000, wcount := 1, stride := 0x0, count := 1,
    fields := [fd 63 40 .ro 0, fd 39 16 .ro 0, fd 0 0 .wo 0] },
  -- IO_TIME_CNT2
  { base := 0x1401390018, wstride := 0x10000, wcount := 1, stride := 0x0, count := 1,
    fields := [fd 63 40 .ro 0, fd 39 16 .ro 0, fd 0 0 .wo 0] },
  -- IO_TIME_SET
  { base := 0x1401390020, wstride := 0x10000, wcount := 1, stride := 0x0, count := 1,
    fields := [fd 63 0 .rw 0] },
  -- IO_TIME_ALT
  { base := 0x1401390028, wstride := 0x10000, wcount := 1, stride := 0x0, count := 1,
    fields := [fd 63 0 .ro 0] },
  -- IO_CAM_PHY
  { base := 0x1401390100, wstride := 0x10000, wcount := 1, stride := 0x0, count := 1,
    fields := [fd 63 32 .rw 0, fd 15 0 .rw 0] },
  -- IO_GPIO_DIR
  { base := 0x1401390200, wstride := 0x10000, wcount := 1, stride := 0x0, count := 1,
    fields := [fd 31 0 .rw 0] },
  -- IO_GPIO_DATA
  { base := 0x1401390208, wstride := 0x10000, wcount := 1, stride := 0x0, count := 1,
    fields := [fd 63 32 .ro 0, fd 31 0 .rw 0] },
  -- IO_GPIO_FILT
  { base := 0x1401390210, wstride := 0x10000, wcount := 1, stride := 0x0, count := 1,
    fields := [fd 7 0 .rw 1] },
  -- IO_MAC_CNT
  { base := 0x1401390300, wstride := 0x10000, wcount := 1, stride := 0x8, count := 4,
    fields := [fd 63 40 .ro 0, fd 39 16 .ro 0, fd 0 0 .wo 0] },
  -- IO_XSPI_CMD
  { base := 0x1401390400, wstride := 0x10000, wcount := 1, stride := 0x0, count := 1,
    fields := [fd 63 63 .wo 0, fd 62 61 .rw 0, fd 60 59 .ro 0, fd 40 32 .rw 0, fd 27 0 .rw 0] }]

/-- Registers of the IO windows, part 2. -/
def regsIO1 : List RegDef := [
  -- IO_XSPI_BUF
  { base := 0x1401390408, wstride := 0x10000, wcount := 1, stride := 0x0, count := 1,
    fields := [fd 43 6 .rw 0] }]

/-- All registers of the IO windows. -/
def regsIO : List RegDef := regsIO0 ++ regsIO1

/-- Registers that hold global counters, by the address of their first instance (R432): every counter
register outside the HUB_CTX_ windows, with or without a CLR, and the live engine counters. -/
def globalBases : List Nat :=
  [0x1400000200, 0x1400900200, 0x1400000108, 0x1400000210, 0x1400800200, 0x1400800210, 0x1401300400, 0x1400900220] ++
  [0x1400b00108, 0x1400b00200, 0x1401330020, 0x1401330028, 0x1401330800, 0x1401001100, 0x1401001108, 0x1401001110] ++
  [0x1401001118, 0x1401000200, 0x1401000208, 0x1400c00200, 0x1400c00208, 0x1400c00210, 0x1400c00218, 0x1401310200] ++
  [0x1401310400, 0x1401310408, 0x1401320300, 0x1401321000, 0x1401321008, 0x1401321010, 0x1401321018, 0x1401322000] ++
  [0x1401100600, 0x1401100400, 0x1401340200, 0x1401340208, 0x1401340210, 0x1401200200, 0x1401200208, 0x1401400300] ++
  [0x1401400308, 0x1401400310, 0x1401400318, 0x1401400320, 0x1401303200, 0x1401303208, 0x1401350210, 0x1401350258] ++
  [0x1401360500, 0x1401360508, 0x1401360510, 0x1401360600, 0x1401360608, 0x1401360610, 0x1401370200, 0x1401370208] ++
  [0x1401380200, 0x1401380208, 0x1401380210, 0x1401382000, 0x1401382008, 0x1401382010, 0x1401382018, 0x1401390010] ++
  [0x1401390018, 0x1401390300, 0x1401400328]

/-- The registers of the block whose window an address lies in (Table 7.1, R151): the
block is found from the window number alone. `none`: no row of the table covers it. -/
def blockAt (a : Addr) : Option (List RegDef) :=
  let w := a / 0x10000
  if w < 0x140000 then none
  else if w < 0x140080 then some regsTILE
  else if w < 0x140090 then some regsGE
  else if w < 0x1400B0 then some regsDE
  else if w < 0x1400B4 then some regsCD
  else if w < 0x1400C0 then none
  else if w < 0x140100 then some regsMC
  else if w = 0x140100 then some (regsPC ++ regsPLAN)
  else if w < 0x140108 then some regsPC
  else if w < 0x140110 then none
  else if w < 0x14011A then some regsSKconn
  else if w = 0x14011A then some regsSKdie
  else if w < 0x140120 then some []
  else if w < 0x140124 then some regsDL
  else if w < 0x140130 then none
  else if w = 0x140130 then some regsHUB
  else if w = 0x140131 then some regsSC
  else if w = 0x140132 then some regsQOS
  else if w = 0x140133 then some regsSH
  else if w = 0x140134 then some regsCH
  else if w = 0x140135 then some regsPM
  else if w = 0x140136 then some regsTH
  else if w = 0x140137 then some regsJN
  else if w = 0x140138 then some regsTR
  else if w = 0x140139 then some regsIO
  else if w = 0x14013A then some []
  else if w < 0x140140 then none
  else if w < 0x140142 then some regsSI
  else if w < 0x140200 then none
  else if w < 0x140240 then some regsHUBCTX
  else if 0x180000 ≤ w ∧ w < 0x180004 then some regsDB
  else none

/-- Which instance of a register an address names: the window number and the index in the
window. -/
def RegDef.index (r : RegDef) (a : Addr) : Option (Nat × Nat) :=
  if a < r.base then none
  else
    let d := a - r.base
    let i := d / r.wstride
    let e := d % r.wstride
    if r.count ≤ 1 then (if e = 0 ∧ i < r.wcount then some (i, 0) else none)
    else if e % r.stride = 0 ∧ e / r.stride < r.count ∧ i < r.wcount then some (i, e / r.stride)
    else none

/-- The register at an address with its instance, if a register occupies it. -/
def regAt (a : Addr) : Option (RegDef × Nat × Nat) :=
  match blockAt a with
  | none => none
  | some rs => rs.findSome? (fun r => (r.index a).map (fun ik => (r, ik.1, ik.2)))

end Sys2Proof.Machine
end

