-- ==== Sys2Proof/Machine/State.lean ====
section
/-!
DEFINITION. The state of the part as plain data: every register in one map, the memories,
and for each block the queues, stores and modes the manual gives it. State.reset is the
part as it stands before RESET_N first rises.
-/
namespace Sys2Proof.Machine

/-- The reasons a step stops with a fault. There are none: every abnormal event the manual
describes is a status, a response or a recorded error, and the part goes on (R3, R9, R165). -/
inductive Fault where
  deriving DecidableEq, Repr

/-- The reasons a step is refused. -/
inductive Refusal where
  /-- Raised by the dispatch table for a command whose meaning is not written: safe. -/
  | notModelled (mnemonic : String)
  deriving DecidableEq, Repr

/-- What every meaning answers. -/
abbrev Res (σ : Type) := Host.Outcome σ Fault Refusal

/-! ## Access ports and their responses (R3, R4, R152) -/

/-- How an access ended at its requester (R3, R9, R10, R55, R311, R444); `ep` is data marked EP. -/
inductive Answer where
  | none
  | data (bytes : List Byte)
  | ep (bytes : List Byte)
  | done
  | accessFault
  | completerAbort
  | unsupportedRequest
  | busError
  | status (code : Nat)
  deriving DecidableEq, Repr

/-- A 32-bit low half staged by a master port (R4, Table 12.1). -/
structure Staged where
  port : Nat
  addr : Addr
  low  : Nat
  deriving DecidableEq, Repr

/-- The access side: staged halves, the last answer given to a requester, and how many accesses of
islands HUB has refused (R16). -/
structure Bus where
  staged : List Staged := []
  port   : Port := .debug
  answer : Answer := .none
  islandRefused : Nat := 0
  deriving DecidableEq, Repr

/-! ## Memories (R9, R54, R259, R467) -/

/-- The memories: the bytes of HBM, die memory and tile SRAM by address, the 32-byte HBM
sectors that hold the poison code, the bytes of each die-memory line written since the last
start (a 64-bit mask per line), the valid tile-SRAM lines, and the words with a double-bit
or a single-bit error. `lost` are the pseudo-channels whose sectors read as poison since a
fence, `saved` their sectors that hold good data all the same, and `cacheOnly` those of them that hold it in the cache alone
(R261, R262). `wild` are ranges
(first, past the last, number) whose bytes are not specified: what the shut-down self-test's save has overwritten (R414), and
HBM that nothing has written since a start (R467); `dark` are the numbers of those that may read as poison. [DESIGN CHOICE, log entry 55] -/
structure Mem where
  cells     : List Host.Cell := []
  poison    : List Nat := []
  dieLines  : List (Nat × Nat) := []
  sramLines : List Nat := []
  badWords  : List Nat := []
  softWords : List Nat := []
  lost      : List Nat := []
  saved     : List Nat := []
  cacheOnly : List Nat := []
  wild      : List (Nat × Nat × Nat) := []
  dark      : List Nat := []
  deriving DecidableEq, Repr

/-! ## Time (R19–R21) -/

/-- One REFCLK edge at the nominal rate: 10 ns in units of 2^−32 ns (R18). -/
def nominalIncr : Nat := 10 * 4294967296

/-- One compute die's DTIME copy. -/
structure DieTime where
  copy : Nat := 0
  incr : Nat := nominalIncr
  deriving DecidableEq, Repr

/-- An island's own time (R21): its value, the correction still to be slewed, the own time of
the last message, whether one has come since the island's start, holdover, the messages on the
narrow bundle, oldest first, and when HUB sent the last one. -/
structure IslTime where
  now      : Nat := 0
  owed     : Int := 0
  lastMsg  : Nat := 0
  synced   : Bool := false
  holdover : Bool := false
  inbox    : List Nat := []
  lastSend : Option Nat := none
  deriving DecidableEq, Repr

/-- The DTIME master, its copies, and the time inputs (R441, R442): the correction still to be
slewed; the last accepted PPS edge, the run of edges outside the window and the last of them;
the last accepted Sync and its offset; whether a change of master bars steps (R324); whether IO_TIME_SET waits to be loaded; and when
PPS_OUT last rose. `incr` is the increment of the master's last edge, and `edges` counts REFCLK edges.
[DESIGN CHOICE, log entry 21] -/
structure TimeSt where
  master   : Nat := 0
  incr     : Nat := nominalIncr
  edges    : Nat := 0
  owed     : Int := 0
  dies     : List DieTime := List.replicate 4 {}
  isl      : List IslTime := List.replicate 2 {}
  stamped  : Bool := false
  noStep   : Bool := false
  pps      : Option Nat := none
  outRun   : Nat := 0
  outAt    : Nat := 0
  sync     : Option Nat := none
  asOfs    : Int := 0
  armed    : Bool := false
  ppsOut   : Option Nat := none
  deriving DecidableEq, Repr

/-! ## Tensor tiles (R51–R80) -/

/-- A contiguous byte range `lo … hi - 1` (R62). -/
structure Span where
  lo : Nat
  hi : Nat
  deriving DecidableEq, Repr

/-- The unit that takes an entry (Table 3.1). -/
inductive TUnit where
  | arrays | vector | post | port
  deriving DecidableEq, Repr

/-- An entry in flight (R62): its index, unit and spans, and the fault its completion
reports (R64), as a status and the address of the faulting line. -/
structure InFlight where
  idx   : Nat
  unit  : TUnit
  opc   : Nat
  mark  : Bool
  rd    : List Span
  wr    : List Span
  mrd   : List Span
  mwr   : List Span
  fault : Option (Nat × Nat)
  deriving DecidableEq, Repr

/-- The accumulators between drains (R34, R41, R66): an M by N block, m varying fastest. -/
inductive AccState where
  | empty
  | exact (shape m n : Nat) (cells : List ExactAcc)
  | ordered (scaled : Bool) (shape m n : Nat) (cells : List Nat)
  deriving DecidableEq, Repr

/-- The image a tile holds (R57): its address, the job that loaded it, its stores. -/
structure Image where
  addr : Nat
  ctx  : Nat
  tag  : Nat
  hdr  : Nat
  ops  : List Nat
  wins : List Nat
  tabs : List Nat
  deriving DecidableEq, Repr

/-- A pre-emption request on a tile (R184): when it was raised, whether it was counted late
(R187), and the kernel that raised it. -/
structure PreReq where
  since : Nat
  late  : Bool
  ctx   : Nat
  num   : Nat
  deriving DecidableEq, Repr

/-- One tile: what its register window does not hold. -/
structure Tile where
  image   : Option Image := none
  knum    : Nat := 0
  attempt : Nat := 0
  entry   : Nat := 0
  args    : List Nat := List.replicate 16 0
  loops   : List Nat := List.replicate 4 0
  sig     : Nat := 0xFFFFFFFF
  acc     : AccState := .empty
  save    : Nat := 0
  /-- Index the saved state restores to, checked at LEAP_IN (R79). -/
  gapFrom : Nat := 0
  leapLen : Nat := 0
  leapOff : Nat := 0
  flight  : List InFlight := []
  req     : Option PreReq := none
  sampled : Option Nat := none
  resuming : Bool := false
  /-- The kernel whose request freed this tile (R184). -/
  owed    : Option (Nat × Nat) := none
  deriving DecidableEq, Repr

/-! ## Contexts, descriptors and jobs (R151–R199, R468) -/

/-- Where a fetched descriptor stands (R170): waiting to start, started, or finished with
its record not yet written. -/
inductive Phase where
  | waiting | started | finished
  deriving DecidableEq, Repr

/-- A descriptor in a context's window (R159). `raw` is its 64 bytes as a little-endian
number; `num` its number since enable. -/
structure Desc where
  num     : Nat
  raw     : Nat
  poison  : Bool := false
  phase   : Phase := .waiting
  status  : Nat := 0
  detail  : Nat := 0
  /-- The JOB_BEGIN it was fetched after, where it belongs to a job (R168). -/
  inJob   : Option Nat := none
  /-- The ring slot it was fetched from (R159). -/
  slot    : Nat := 0
  start   : Nat := 0
  /-- Its place in the order in which descriptors start on the part (R132). -/
  order   : Nat := 0
  waited  : Bool := false
  attempt : Nat := 0
  units   : List Nat := []
  deriving DecidableEq, Repr

/-- A descriptor kept in the replay store (R189), with the ring slot it came from; `once` is set when a SIGNAL, RESULT_POST
or COLLECTIVE completed OK and is not performed again (R193). -/
structure Replay where
  num  : Nat
  raw  : Nat
  poison : Bool := false
  slot : Nat := 0
  once : Bool := false
  deriving DecidableEq, Repr

/-- The abort of a job in progress (R191): status, engine (0xFF: none), whether it allows a
restart, whether it was an engine self-check, and whether it was the deadline. -/
structure Cause where
  status    : Nat
  engine    : Nat
  restart   : Bool
  selfCheck : Bool
  deadline  : Bool
  num       : Option Nat
  deriving DecidableEq, Repr

/-- A sequence descriptor a job touched first, with the place of its snapshot (R144). -/
structure Touched where
  seq   : Nat
  score : Bool
  fresh : Bool
  freed : Bool
  deriving DecidableEq, Repr

/-- The open job of a context (R168, R189–R195). -/
structure Job where
  tag      : Nat
  started  : Bool
  begun    : Bool
  beginNum : Nat
  mask     : Nat
  deadline : Nat
  budget   : Nat
  attempt  : Nat
  manifest : Nat
  dies     : Nat
  endSeen  : Bool
  replay   : List Replay
  pos      : Nat
  causes   : List Cause
  abort    : Option Cause
  touched  : List Touched
  used     : List Nat
  deriving DecidableEq, Repr

/-- One context: what its register window does not hold. `past` is the status of completed
descriptors by number, newest first; `job` the open or next job and `later` the jobs
fetched after it; `ended` the status with which descriptors of an ended job complete as
they are fetched with its ATTEMPT, and `rest` those of them that were fetched before, each with
its status and ATTEMPT (R194, R468). -/
structure Ctx where
  window : List Desc := []
  count  : Nat := 0
  past   : List (Nat × Nat) := []
  job    : Option Job := none
  later  : List Job := []
  ended  : Option (Nat × Nat) := none
  rest   : List (Nat × Nat × Replay) := []
  /-- USER and tag of the last JOB_BEGIN that started a job (R243). -/
  lastJob : Option (Nat × Nat) := none
  deriving DecidableEq, Repr

/-- HUB's slice account of a started KERNEL (R180). -/
structure Kernel where
  ctx     : Nat
  num     : Nat
  cls     : Nat
  image   : Nat
  save    : Nat
  saveBytes : Nat
  args    : Nat
  first   : Nat
  count   : Nat
  dieMask : Nat
  maxTiles : Nat
  resume  : List Nat
  next    : Nat
  held    : Nat
  done    : Nat
  fetched : Nat
  deriving DecidableEq, Repr

/-- A DMA engine: the descriptor it serves and those it yielded (R187). -/
structure Dma where
  cur     : Option (Nat × Nat) := none
  yielded : List (Nat × Nat) := []
  deriving DecidableEq, Repr

/-- An operation in a suspend store (R114): its context and number, its partition, and the input
position it goes on from. -/
structure SetSusp where
  op   : Nat × Nat
  part : Nat
  pos  : Nat
  deriving DecidableEq, Repr

/-- A set engine (R101–R114): the operation it serves with its partition and input position, the
operations in its suspend store, newest first; its table SRAM: the partition copy it holds as
(context, record, partition), the copy's buckets of eight (key, row tag), and the 8-byte words with a
double-bit or a single-bit error, twelve to a bucket, the keys before the row tags. -/
structure SetEngine where
  cur      : Option (Nat × Nat) := none
  part     : Nat := 0
  pos      : Nat := 0
  susp     : List SetSusp := []
  resident : Option (Nat × Nat × Nat) := none
  table    : List (List (Nat × Nat)) := []
  badWords : List Nat := []
  softWords : List Nat := []
  deriving DecidableEq, Repr

/-- A started SET_OP: whether it waits for a build of its record (R106), the seven
counts of its result header once its outputs are written (R112), the engine that took each partition so
far, and the entries a suspended build has already written home, as (partition, count) (R114). -/
structure SetOp where
  ctx     : Nat
  num     : Nat
  waiting : Bool
  ran     : Option (List Nat)
  by'     : List Nat := []
  spilled : List (Nat × Nat) := []
  deriving DecidableEq, Repr

/-- A member of a COLLECTIVE on this part: its rank and descriptor, and whether its
contribution has been written. -/
structure CollMember where
  rank   : Nat
  ctx    : Nat
  num    : Nat
  pushed : Bool
  deriving DecidableEq, Repr

/-- A COLLECTIVE outstanding on the part (R147–R150): the member list as (part, die) pairs,
what its members agreed on, and those that have joined here. -/
structure Coll where
  tag    : Nat
  list   : List (Nat × Nat)
  cop    : Nat
  red    : Nat
  fmt    : Nat
  elems  : Nat
  dst    : Nat
  recv   : Nat
  joined : List CollMember
  deriving DecidableEq, Repr

/-- A COLLECTIVE whose members disagreed (R150): its tag, the contexts whose members it has ended, their ranks, and the
ranks of this part that have still to start. [DEDUCED, log entry 40] -/
structure Spoiled where
  tag   : Nat
  ctxs  : List Nat
  ended : List Nat
  ranks : List Nat
  deriving DecidableEq, Repr

/-- A compute die's scheduler (R181, R198): the context last granted at each priority, the
completion vector, and its two scan pointers as they stood at a fabric cycle. -/
structure Die where
  last  : List Nat := List.replicate 16 63
  flags : List Nat := []
  tptr  : Nat := 0
  eptr  : Nat := 32
  cyc   : Nat := 0
  deriving DecidableEq, Repr

/-- A pre-empted slice's mark (R197): when its request was sampled. -/
structure Lost where
  ctx   : Nat
  num   : Nat
  slice : Nat
  since : Nat
  deriving DecidableEq, Repr

/-- The result slots (R176): each one's current record of 1,024 bytes as a little-endian number, and
the slots that read as poison until they are written whole (R415). -/
structure Slots where
  cur : List Nat := List.replicate 64 0
  bad : List Nat := []
  deriving DecidableEq, Repr

/-- The dispatcher and its neighbours on HUB. -/
structure Hub where
  ctxs    : List Ctx := List.replicate 64 {}
  kernels : List Kernel := []
  dmas    : List Dma := List.replicate 32 {}
  sets    : List SetEngine := List.replicate 16 {}
  setOps  : List SetOp := []
  colls   : List Coll := []
  /-- Ranges that peer parts' COLLECTIVE writes have filled, as (first, past the last), with what each says of its COLLECTIVE. -/
  landed  : List (Nat × Nat × CollHead) := []
  spoiled : List Spoiled := []
  /-- Descriptors started so far (R132). -/
  startNo : Nat := 0
  /-- Restores of a sequence that met poison (R144). [DESIGN CHOICE, log entry 102] -/
  kvBroken : Nat := 0
  dies    : List Die := List.replicate 4 {}
  lost    : List Lost := []
  /-- Events in HUB's merge (R199), in its order: the cycle, the die and the unit's position. -/
  merge   : List (Nat × Nat × Nat) := []
  nextTag : Nat := 1
  fetchNo : Nat := 0
  slots   : Slots := {}
  notices : List (Nat × Nat × Nat) := []
  /-- Interrupt sources raised to the application cores: 32 + context (R163). -/
  ctxIrq  : List Nat := []
  deriving DecidableEq, Repr

/-! ## Fuses and straps (R2, R264, R308, R401–R404, R465) -/

/-- What is fused on an island's own die (R406): the key hashes, which of them are revoked, and the least SVN.
[DESIGN CHOICE, log entry 1] -/
structure IslFuses where
  keyHash : List Nat := List.replicate 4 0
  revoked : List Bool := List.replicate 4 false
  svn     : Nat := 0
  deriving DecidableEq, Repr

/-- Wires of one bundle of a connection that the fuses of the die at a side mark bad, as a mask (R289). -/
structure BadWires where
  conn   : Nat
  bundle : Nat
  side   : Nat
  mask   : Nat
  deriving DecidableEq, Repr

/-- What is fused at test: the variant and stack size (R1, R465), the silicon revision, the
part UID, the fused SVN, the wires each die's fuses mark bad (R289), the key-slot hashes and their revocation bits, the two debug-key hashes with the
mask of the levels each permits (R436), and the delay records of 64 pseudo-channels in 5 bands as 512-bit
numbers. [DESIGN CHOICE, log entry 1] -/
structure Fuses where
  hbmGib   : Nat := 48
  variant  : Nat := 1
  revMajor : Nat := 0
  revMinor : Nat := 0
  uid      : Nat := 0
  svn      : Nat := 0
  wires    : List BadWires := []
  keyHash  : List Nat := List.replicate 4 0
  revoked  : List Bool := List.replicate 4 false
  dbgKeys  : List (Nat × Nat) := [(0, 0), (0, 0)]
  isl      : List IslFuses := [{}, {}]
  delays   : List Nat := []
  deriving DecidableEq, Repr

/-- What the part has sent to the outside: to a peer part, to the PCIe host, on a pin or a
network. The newest stands first. [DESIGN CHOICE, log entry 95; DESIGN CHOICE, log entry 98] -/
inductive Sent where
  | peerWrite (d off : Nat) (data : List Byte)
  | peerAtomic (d off op size val : Nat)
  | peerColl (d off : Nat) (head : CollHead) (data : List Byte)
  | msix (vec : Nat)
  | pcieWrite (addr : Nat) (data : List Byte)
  | pcieRead (addr len : Nat)
  | chFrame (link : Nat) (frame : ChFrame)
  | can (isl ctl hdr : Nat) (data : List Byte)
  | eth (isl dst src : Nat) (data : List Byte)
  | broken (isl ctl : Nat)
  | xlink (isl word : Nat)
  | gptp (mac kind : Nat) (data : List Byte)
  | nvme (off : Nat) (data : List Byte)
  | uart (n : Nat) (data : List Byte)
  | udp (mac src port : Nat) (data : List Byte)
  | spi (port : Nat) (data : List Byte)
  /-- A frame of a die link with the wires of its bundle that carry the data positions in order (R282, R284). -/
  | skink (conn dir bundle : Nat) (wires : List Nat) (frame : Nat)
  /-- A flit of a device-link port: header and payload, with its CRC (R304). -/
  | flit (port : Nat) (body : List Byte) (crc : Nat)
  /-- A message of a sideband with the slot it starts in (R287). -/
  | sideband (conn side slot msg : Nat)
  deriving DecidableEq, Repr

/-- HBM of each part of the system in GiB, as its target checks it (R10). -/
abbrev PeerSizes := List Nat

/-! ## Trace (R424–R434) -/

/-- One trace source (R428): its FIFO of at most 16 records, oldest first, the records
dropped since it ran full, and BYTES of its present command. -/
structure TraceSrc where
  fifo    : List Nat := []
  dropped : Nat := 0
  bytes   : Nat := 0
  began   : Option Nat := none
  old     : List Word := []
  deriving DecidableEq, Repr

/-- The trace buffer (R429): the held records, oldest first, how many were written since
the arm, the records still to come after a trigger, those dropped while full, the last
DTIME bits 63:40 a TIME record carried, the records a running dump has copied, whether a write that
failed has stopped the stream, and the fabric cycle of the last trigger with the place of its record (R430). -/
structure Trace where
  srcs    : List (Nat × TraceSrc) := []
  recs    : List Nat := []
  total   : Nat := 0
  post    : Nat := 0
  bufGap  : Nat := 0
  timeHi  : Nat := 0
  dump    : Option Nat := none
  stopped : Bool := false
  bad     : Nat := 0
  trig    : Option (Nat × Nat) := none
  deriving DecidableEq, Repr


/-- Debug access (R435, R436): the open challenge as a 384-bit number with its LEVEL, the verify that runs,
the key and signature registers, the debug-module registers by module and DMI address, the TAP's instruction
(0 IDCODE, 1 BYPASS, 2 SAMPLE/PRELOAD, 3 EXTEST), the boundary register and what SAMPLE captured. -/
structure Debug where
  chal  : Option (Nat × Nat) := none
  verify : Option (Option (Nat × Nat)) := none
  key   : List Word := List.replicate 12 0
  sig   : List Word := List.replicate 12 0
  dm    : List (Nat × Nat) := []
  ir    : Nat := 0
  bound : Nat := 0
  sample : Nat := 0
  deriving DecidableEq, Repr

/-- A load of an application core from PCIe memory space that waits for its completion (R444): the hart,
the bus address, the length, and when it was sent. -/
structure PcieRead where
  hart : Nat
  addr : Nat
  len  : Nat
  at'  : Nat
  deriving DecidableEq, Repr

/-! ## Known-answer tests (R357–R367) -/

/-- The test state of one engine: its last-pass time, whether its window is open and its
deadline already missed, the slice to run next, whether a slice runs now, whether it runs a
retest, whether it has passed one retest, whether it stays in FAULT until the next start,
and the jobs completed on it since the last pass. -/
structure TestUnit where
  lp       : Option Nat := none
  due      : Bool := false
  missed   : Bool := false
  next     : Nat := 0
  running  : Bool := false
  retest   : Bool := false
  passedRetest : Bool := false
  dead     : Bool := false
  suspects : Nat := 0
  deriving DecidableEq, Repr

/-! ## Thermal control (R388–R400) -/

/-- One die sensor: the samples of the present tick, the readings of the last ten ticks,
newest first, and for how many ticks in a row it was out of range. Units of 1/16 °C. -/
structure SensorSt where
  samples : List Int := []
  past    : List (Option Int) := []
  bad     : Nat := 0
  deriving DecidableEq, Repr

/-- A coolant input: its last five samples in 0.1 °C, newest first, and when it last had a
sample in range. -/
structure CoolSt where
  hist   : List Int := []
  lastOk : Nat := 0
  deriving DecidableEq, Repr

/-- The thermal controller: what its registers do not hold. `rEst` is in units of
2^−32 × 0.1 mK/W; `fresh` says that the next tick is the first after RETAIN or BRUMATION; `bask` is the number of Basking tiles wanted on each die; `means` are the
readings T_d of each die that M_d averages; `freed` is when the clamp's release by CLAMP_AUTO or CLAMP_CLR began to hold (R394).
[DEDUCED, log entry 61] -/
structure Thermal where
  sens     : List SensorSt := List.replicate 68 {}
  cool     : List CoolSt := List.replicate 3 {}
  pulses   : List Nat := []
  lastPulse : Nat := 0
  power    : List Nat := []
  rEst     : Int := 1200 * 4294967296
  heldAt   : Nat := 0
  clampOk  : Option Nat := none
  clr      : Bool := false
  freed    : Option Nat := none
  haltOk   : Option Nat := none
  tl       : Option Int := none
  tm       : Option Int := none
  bask     : List Nat := List.replicate 4 0
  means    : List (List Int) := List.replicate 4 []
  stack    : List Int := [400, 400]
  wearExt  : Option Int := none
  fresh    : Bool := false
  deriving DecidableEq, Repr

/-! ## The sensor hub (R200–R227, R411) -/

/-- The configuration as the hub copied it at enable (R200): the header, the sensor entries,
the packet templates, each as a little-endian number; the launch blocks of instants and of the
four tick launchers; each sensor's front-end or transfer block and tone table; and the factory
calibration, an entry to a sensor. -/
structure ShCfg where
  hdr    : Nat := 0
  sens   : List Nat := []
  tpl    : List Nat := []
  launch : List Nat := []
  ticks  : List (List Nat) := []
  param  : List Nat := []
  tone   : List Nat := []
  fact   : List Nat := []
  deriving DecidableEq, Repr

/-- A sensor clock estimate (R219). -/
structure Est where
  off   : Int
  rate  : Int
  t0    : Int
  tprev : Int
  deriving DecidableEq, Repr

/-- An open camera frame: its counter, stamp, flags and slot, the payload of its long packets,
one list to a packet, the newest first, and whether it is to be dropped (R202). -/
structure Frame where
  counter : Nat
  stamp   : Int
  flags   : Nat
  slot    : Nat
  lines   : List (List Byte)
  bad     : Bool
  deriving DecidableEq, Repr

/-- A packet held in a sweep sample: its place relative to the first packet, its sequence
number, and the copied bytes (R207). -/
structure Packet where
  rel  : Int
  seq  : Nat
  data : List Byte
  deriving DecidableEq, Repr

/-- A camera or sweep sample of a window (R213). `slot` is absent where every slot was held.
A camera sample is here once it is complete; `lin` and `len` are its lineage header and bytes.
A sweep's `lo` is its lowest sequence number, unwrapped, and `hole` marks a dropped packet. -/
structure Sample where
  win     : Nat
  counter : Nat
  stamp   : Int
  flags   : Nat
  slot    : Option Nat
  lin     : Nat := 0
  len     : Nat := 0
  first   : Nat := 0
  sbits   : Nat := 0
  mac     : Nat := 0
  arrived : Nat := 0
  lo      : Int := 0
  hole    : Bool := false
  pkts    : List Packet := []
  deriving DecidableEq, Repr

/-- A series record: its window, stamp, ring index, counter, flags and 128 bytes (R210). -/
structure SerRec where
  win     : Nat
  stamp   : Int
  idx     : Nat
  counter : Nat
  flags   : Nat
  bytes   : Nat
  deriving DecidableEq, Repr

/-- A sample that was incomplete when its instant was released (R215): the window's end, and for a sweep with SEQ its first number and
its bits of SEQ with the numbers received. -/
structure Undone where
  stop  : Int
  lo    : Int
  sbits : Nat
  recv  : List (Int × Int)
  deriving DecidableEq, Repr

/-- One enrolled sensor: the next counter and ring slot, the slots of live samples, the slots
named by a manifest with its instant, the clock state and the state at the last window end, the
estimator, the samples since the clock state changed, the open frame, the samples, the sequence
numbers received with their stamps, the last of them unwrapped, the series records, the latest
stamp, the samples that may still complete late, and a running SPI transfer with its counter and stamp. -/
structure Sens where
  counter : Nat := 0
  pos     : Nat := 0
  busy    : List Nat := []
  held    : List (Nat × Nat) := []
  clock   : Nat := 0
  atEnd   : Nat := 0
  est     : Option Est := none
  res     : Int := 0
  cnt     : Nat := 0
  frame   : Option Frame := none
  samples : List Sample := []
  recv    : List (Int × Int) := []
  last    : Option (Nat × Int) := none
  recs    : List SerRec := []
  latest  : Option Int := none
  undone  : List Undone := []
  xfer    : Option (Nat × Int) := none
  xferNo  : Nat := 0
  deriving DecidableEq, Repr

/-- A launch still to be made (R216): context, descriptors, USER and MANIFEST. -/
structure ShLaunch where
  ctx   : Nat
  descs : List Nat
  user  : Nat
  man   : Nat
  deriving DecidableEq, Repr

/-- What the camera front end and a hub MAC hand on to the application cores. -/
structure MacFrame where
  mac  : Nat
  data : List Byte
  deriving DecidableEq, Repr

/-- An item Tadpole mode has still to record (R411): its window, its kind, its lineage and its
bytes. -/
structure TadItem where
  win  : Nat
  item : Nat
  lin  : Nat
  data : List Byte
  deriving DecidableEq, Repr

/-- Tadpole recording (R411, R412): the size of the namespace where a device is there, the write
offset, the laps, the next record number, the bytes recorded, the session headers written, when
the last of them and the last telemetry line were written, the streams seen on camera ports, the
items of windows not yet released, and the sample counters of the datagram and series sources. -/
structure Tadpole where
  on      : Bool := false
  nvme    : Option Nat := none
  off     : Nat := 1048576
  lap     : Nat := 0
  seq     : Nat := 0
  bytes   : Nat := 0
  hdrs    : Nat := 0
  lastHdr : Option Nat := none
  lastTel : Option Nat := none
  cams    : List (Nat × Nat × Nat) := []
  items   : List TadItem := []
  cnts    : List (Nat × Nat) := []
  deriving DecidableEq, Repr

/-- The sensor hub: its configuration, when it was enabled, the start of window 0, the windows
that have ended, the sensors, the calibration versions with their first instants, newest first,
the newest version's entries, NEXT at the last acceptance, the newest manifest written as
(instant, address, CRC), launches to be made, the next tick of each launcher, the last edge of
each trigger output, and the pulses that are high with the DTIME of their edges. -/
structure SensorHub where
  on       : Bool := false
  cfg      : ShCfg := {}
  since    : Nat := 0
  epoch    : Nat := 0
  ended    : Nat := 0
  sens     : List Sens := []
  cals     : List (Nat × Nat) := []
  cal      : List Nat := []
  lastAcc  : Option Nat := none
  newest   : Option (Nat × Nat × Nat) := none
  launches : List ShLaunch := []
  tickNext : List Nat := [0, 0, 0, 0]
  edges    : List (Option Nat) := List.replicate 16 none
  pulses   : List (Option Nat) := List.replicate 16 none
  macRx    : List MacFrame := []
  tad      : Tadpole := {}
  deriving DecidableEq, Repr


/-! ## The plan stream (R228–R245) -/

/-- An occupancy epoch (R232): its 128-byte record, the context that posted it, and the grid
fields NX … DZ_M of the calibration copy it names, as little-endian numbers. -/
structure Epoch where
  rec'  : Nat
  ctx   : Nat
  grid  : Nat
  deriving DecidableEq, Repr

/-- What a check finds (Table 10.5). -/
structure CheckRes where
  outcome : Nat
  limit   : Nat := 0
  step    : Nat := 0
  occ     : Nat := 0
  peak    : Nat := 0
  key     : Nat := 0
  deriving DecidableEq, Repr

/-- A counted candidate: its index, the checker it is dealt to (an engine ID), and its outcome
once it is decided. -/
structure PlanCand where
  idx     : Nat
  owner   : Option Nat
  outcome : Option Nat
  deriving DecidableEq, Repr

/-- A check in flight: its candidate, its checker, its epoch, the candidate's bytes, and what it
finds. -/
structure Check where
  cand  : Nat
  eng   : Nat
  epoch : Nat
  raw   : Nat
  res   : CheckRes
  deriving DecidableEq, Repr

/-- A verified candidate (R240): its index, bytes, key and epoch. -/
structure Verified where
  idx   : Nat
  raw   : Nat
  key   : Nat
  epoch : Nat
  deriving DecidableEq, Repr

/-- An open plan (R230, R231): its number, buffer, FREEZE, deadline and eligible checkers, those of them that have entered FAULT since, in order, the
last count read and whether it was capped, the header once it is read and whether it was wrong,
the candidates, the checks in flight and the verified candidates. -/
structure PlanRun where
  j        : Nat
  base     : Nat
  freeze   : Nat
  deadline : Nat
  elig     : List Nat
  lost     : List Nat := []
  count    : Nat := 0
  capped   : Bool := false
  hdr      : Option Nat := none
  bad      : Bool := false
  cands    : List PlanCand := []
  checks   : List Check := []
  verified : List Verified := []
  deriving DecidableEq, Repr

/-- A trajectory as the output stage posts and holds it (R242, R243). -/
structure Traj where
  plan   : Nat
  freeze : Nat
  hdr    : Nat
  cand   : Nat
  raw    : Nat
  epoch  : Nat
  key    : Nat
  deriving DecidableEq, Repr

/-- A seal under way (R241): its plan, its epoch, its start, its cause, the planning job's tag,
and whether its re-check is that of the previous trajectory. -/
structure Seal where
  plan    : PlanRun
  epoch   : Option Epoch
  start   : Nat
  cause   : Nat
  tag     : Nat
  reissue : Bool
  deriving DecidableEq, Repr

/-- The output stage: the newest and the previous epoch, publications that wait for their retired
epoch as (context, descriptor, its number), the open plan, the seals under way, oldest first, and
the previous trajectory. -/
structure PlanSt where
  newest   : Option Epoch := none
  previous : Option Epoch := none
  pubs     : List (Nat × Nat × Option Nat) := []
  plan     : Option PlanRun := none
  seals    : List Seal := []
  prev     : Option Traj := none
  deriving DecidableEq, Repr


/-! ## The memory system (R246–R279) -/

/-- A line of a cache slice (R249): its set, way and line number in the slice's pseudo-channel;
sector masks of what is present, what is dirty, what is poisoned only here, and what becomes dirty once its fetch has returned (R251); its class tag; and when it was last used. -/
structure CLine where
  set     : Nat
  way     : Nat
  line    : Nat
  present : Nat
  dirty   : Nat
  bad     : Nat
  pend    : Nat := 0
  cls     : Nat
  used    : Nat
  deriving DecidableEq, Repr

/-- A read-queue entry (R254, R257): line, sector mask, urgency, class, the cycle and the order
number of its acceptance, whether it was issued, the sectors copied from the write queue, and
the line's bytes and poisoned sectors as they stood at acceptance. -/
structure RdEntry where
  line   : Nat
  mask   : Nat
  urg    : Nat
  cls    : Nat
  cyc    : Nat
  seq    : Nat
  issued : Bool
  copied : Nat
  data   : Nat
  poison : Nat := 0
  deriving DecidableEq, Repr

/-- A write-queue entry (R254, R258): line, sector mask, class, order number of its last write,
and whether a read of its line was accepted since. -/
structure WrEntry where
  line : Nat
  mask : Nat
  cls  : Nat
  seq  : Nat
  read : Bool
  deriving DecidableEq, Repr

/-- Data a controller returned: line, sectors, the sectors that are poison, and the bytes. -/
structure Returned where
  line   : Nat
  mask   : Nat
  poison : Nat
  data   : Nat
  deriving DecidableEq, Repr

/-- A write that does not allocate and waits for the sectors it covers in part (R251): line, the sectors it sends, those still
to come back, its class, the order number of their fetch, and its byte mask and bytes. -/
structure Merging where
  line  : Nat
  mask  : Nat
  wait  : Nat
  cls   : Nat
  fetch : Nat
  bytes : Nat
  data  : Nat
  deriving DecidableEq, Repr

/-- A cache slice with its arbiter (R249, R274, R275, R279): the lines, whether a failed self-test
keeps it from allocating (R415), the writes it merges, the count of lookups, the fabric cycle after its last lookup slot, the
next set the maintenance command treats (R253), the next set to shed, the ports stages 1 and 2 served last, the class pointer, whether its class has
had its increase, the deficit counts, and the port each class served last. -/
structure Slice where
  lines   : List CLine := []
  off     : Bool := false
  merging : List Merging := []
  clock   : Nat := 0
  slot    : Nat := 0
  swept   : Nat := 0
  shed    : Nat := 0
  last1   : Nat := 71
  last2   : Nat := 71
  ptr     : Nat := 15
  came    : Bool := false
  deficit : List Nat := List.replicate 16 0
  lastC   : List Nat := List.replicate 16 71
  deriving DecidableEq, Repr

/-- A pseudo-channel controller (R254–R267): its queues, the next order number, the cycle since
which its read queue is empty, whether it drains for self-refresh (R267), the open rows by bank, the commands of its retry
buffer, newest first, those still to be replayed, oldest first, the bank of the next refresh, refreshes that are due and
those a commit replaced, when the last refresh fell due, since when the band loaded is not the band seen, the events of a
stale band, the active delay record, and what it has returned, newest first. -/
structure Mc where
  rq      : List RdEntry := []
  wq      : List WrEntry := []
  seq     : Nat := 0
  emptyAt : Nat := 0
  closing : Bool := false
  rows    : List (Nat × Nat) := []
  retry   : List (Nat × Nat) := []
  replay  : List (Nat × Nat) := []
  refBank : Nat := 0
  refDue  : Nat := 0
  refSkip : Nat := 0
  refAt   : Nat := 0
  bandAt  : Option Nat := none
  stale   : Nat := 0
  delay   : Nat := 0
  out     : List Returned := []
  deriving DecidableEq, Repr

/-- A master port (R269, R271, R272, R278): its buckets in 1/256 byte, the fabric cycle they were brought up to, the
head request under arbitration, the cycle from which it may present another, the causes counted for it, and the buffer
level last reported. -/
structure PortQ where
  tokens : Int := 1048576
  ceil   : Int := 1048576
  cyc    : Nat := 0
  head   : Option SliceReq := none
  next   : Nat := 0
  held   : List Nat := []
  buf    : Nat := 0
  deriving DecidableEq, Repr

/-- The memory system: the fabric cycle it has come to, slices, controllers, ports, and the maintenance command that
runs. -/
structure MemSys where
  cyc    : Nat := 0
  slices : List Slice := List.replicate 64 {}
  mcs    : List Mc := List.replicate 64 {}
  ports  : List PortQ := List.replicate 72 {}
  maint  : Nat := 0
  deriving DecidableEq, Repr



/-! ## The safety islands (R329–R356) -/

/-- A valid world an island holds (R337): SEQ, instant, its reference DTIME, the calibration
version, the epoch, the grid and its pose, and the digest as a little-endian number. -/
structure IslWorld where
  seq    : Nat
  inst   : Nat
  ref    : Nat
  cal    : Nat
  epoch  : Nat
  nx     : Nat
  ny     : Nat
  cell   : Nat
  x0     : Nat
  y0     : Nat
  gx     : Nat
  gy     : Nat
  gyaw   : Nat
  digest : Nat
  deriving DecidableEq, Repr

/-- A trajectory that passed (R338): its record, the step it is checked from, the world it passed
against, and whether it was ever transmitted. -/
structure IslTraj where
  rec'  : Nat
  start : Nat
  world : IslWorld
  sent  : Bool
  deriving DecidableEq, Repr

/-- The fallback Eft keeps (R343): its base, the start pose in the odometry frame and the start
state in binary64, its primitives as (DUR, CRATE, JERK), its start time, whether no candidate was
clear, and whether it was transmitted. -/
structure Eft where
  base  : IslTraj
  ox    : Nat
  oy    : Nat
  oyaw  : Nat
  v     : Nat
  a     : Nat
  k     : Nat
  prims : List (Nat × Nat × Nat)
  start : Nat
  bad   : Bool
  sent  : Bool
  deriving DecidableEq, Repr

/-- A message that has fallen due: its kind, its reason, and the trajectory with the world it is
sent against and the step it starts from. -/
structure IslDue where
  kind   : Nat
  reason : Nat
  traj   : Option IslTraj := none
  world  : Option IslWorld := none
  start  : Nat := 0
  deriving DecidableEq, Repr

/-- A message that waits for a transmitter: its bytes as a little-endian number, its trajectory's FREEZE and its world's time where it
carries them, and what it was due as. -/
structure IslWait where
  msg  : Nat
  ages : Option (Nat × Nat)
  due  : IslDue
  deriving DecidableEq, Repr

/-- A transmitter of an island (R356, R443): whether it runs in CAN XL mode, whether it is
bus-off, the frame in transmission as a little-endian number, and the message that waits. -/
structure IslTx where
  xl      : Bool := false
  busOff  : Bool := false
  tx      : Option Nat := none
  waiting : Option IslWait := none
  deriving DecidableEq, Repr

/-- A command of the external debug model at an island's core (R336). -/
structure IslDbg where
  halted : List Nat := []
  wrote  : List (Nat × Nat × Nat) := []
  steps  : Nat := 0
  deriving DecidableEq, Repr

/-- One island. Times are its own (R21). `tcm` is its memory and `image` the bytes of its lower part that hold the image HUB has delivered (R406). `state`, `mode` and `lastTrip` use the codes of Tables
15.2, 15.8 and 15.3; `fences` are the fences of the last 10 s as (core, time); `cores` is the 640-byte state of each core, `checkAt` the last
checkpoint (R333); `moult` is a hand-over to a mode, and `recalled` the interrupt it gives core 2 (R335); `limOk` is what the limits
were on entry to NOT_READY (R341); `worlds` holds the two newest, the newest first; `reading` is a world record
that is being read and `judging` a trajectory record, with whether it is a re-notice; `passes`
counts the passes in a row; the ten counts are those of Table 15.10 and SI_IO_CNT; `wire` is the
cross-link's side of this island: the sequence it sends, the last valid word's time and sequence,
the words in a row with HUB_OK = 0 and with both islands ACTIVE. [DESIGN CHOICE, log entry 117] -/
structure Island where
  power     : Bool := false
  tcm       : Mem := {}
  image     : Nat := 0
  strap     : Bool := false
  state     : Nat := 0
  mode      : Nat := 0
  bornAt    : Nat := 0
  rom       : Bool := false
  lastTrip  : Nat := 0
  tripAt    : Nat := 0
  healable  : Bool := true
  restartAt : Option Nat := none
  held      : Bool := false
  fenced    : List Nat := []
  retired   : List Nat := []
  fences    : List (Nat × Nat) := []
  cores     : List Nat := [0, 0, 0]
  checkAt   : Nat := 0
  moult     : Option Nat := none
  recalled  : Bool := false
  limOk     : Bool := false
  refused   : Nat := 0
  dbg       : IslDbg := {}
  worlds    : List IslWorld := []
  reading   : Option Nat := none
  judging   : Option (Nat × Bool) := none
  lastSeq   : Option Nat := none
  lastInst  : Option Nat := none
  kept      : Option IslTraj := none
  base      : Option IslTraj := none
  eft       : Option Eft := none
  eftAt     : Nat := 0
  due       : Option IslDue := none
  disRun    : Nat := 0
  passes    : Nat := 0
  latched   : Bool := false
  reports   : List Nat := []
  outside   : Nat := 0
  active    : Bool := false
  xlinkLost : Bool := false
  hbSeq     : Nat := 0
  heardAt   : Nat := 0
  heardSeq  : Option Nat := none
  hubZero   : Nat := 0
  bothOn    : Nat := 0
  chorus    : Bool := false
  role      : Nat := 0
  view      : Nat := 0
  partId    : Nat := 0
  counter   : Nat := 0
  sentAny   : Bool := false
  lastMsg   : Option Nat := none
  txs       : List IslTx := List.replicate 5 {}
  mailbox   : List (Nat × List Byte) := []
  veto      : Bool := false
  passCnt   : Nat := 0
  heldCnt   : Nat := 0
  reissues  : Nat := 0
  efts      : Nat := 0
  disagrees : Nat := 0
  fenceCnt  : Nat := 0
  timeouts  : Nat := 0
  worldErr  : Nat := 0
  busOffs   : Nat := 0
  rxDrops   : Nat := 0
  deriving DecidableEq, Repr

/-! ## The die links (R281–R302) -/

/-- A bundle of a connection: whether it is in service, when its CRC failures of the last
millisecond came, whether it retrains, and the last lane test's maps at its receiver and at its
transmitter with whether its clock was seen. -/
structure SkBundle where
  live    : Bool := false
  fails   : List Nat := []
  retrain : Bool := false
  rx      : Nat := 0
  tx      : Nat := 0
  clock   : Bool := true
  deriving DecidableEq, Repr

/-- A request that waits for its end (R293): its TAG, whether it is a write, and when it was sent. -/
structure SkReq where
  tag   : Nat
  wr    : Bool
  since : Nat
  deriving DecidableEq, Repr

/-- What one frame of a message carries (Table 13.2): its KIND, the sector its payload fills, whether that is poisoned, and
the payload. -/
structure SkBeat where
  kind    : Nat
  beat    : Nat
  poison  : Bool
  payload : Nat
  deriving DecidableEq, Repr

/-- A frame that waits to be dealt: its KIND, TAG down to LAST, and the payload. -/
structure SkOut where
  kind    : Nat
  low     : Nat
  payload : Nat
  deriving DecidableEq, Repr

/-- One direction of a connection (R284, R285). Its receiver: the next SEQ in order, the SEQ its last NAK
named, the frames of messages still open and the whole messages handed on, newest first, and the
frames whose credits it has not returned. Its transmitter: the first SEQ that is not acknowledged,
the SEQ it deals next, the frames that wait to be dealt and those it holds, oldest first, the bundle that took the last
turn, the HALF bundles that have let a turn pass, the SEQ last NAKed with how often in a row, the SEQ from
which it resent, the credits it has, and the requests that wait for their end (R293). [DESIGN CHOICE, log entry 120] -/
structure SkDir where
  next    : Nat := 0
  acked   : Nat := 0
  nakSeq  : Option Nat := none
  nakRun  : Nat := 0
  resend  : Option Nat := none
  nakDue  : Option Nat := none
  part    : List Nat := []
  done    : List (List SkBeat) := []
  owed    : Nat := 0
  sent    : Nat := 0
  queue   : List SkOut := []
  held    : List Nat := []
  last    : Nat := 0
  rested  : List Nat := []
  credits : Nat := 0
  track   : List SkReq := []
  deriving DecidableEq, Repr

/-- What one side of a connection has sent on the sideband (R287, R290): the next message number,
the first slot it has not filled, its last message, its last STATE and when, the message that was sent once more, the MAP_SUMMARY and LANE_MAPs of the
present exchange, the last map of each bundle, and whether its CONFIRM agreed. -/
structure SkSide where
  seq    : Nat := 0
  free   : Nat := 0
  msg    : Option Nat := none
  last   : Option DieReport := none
  sentAt : Nat := 0
  nacked : Option Nat := none
  sum    : Option Nat := none
  lanes  : List (Nat × Nat) := []
  known  : List (Nat × Nat) := []
  conf   : Bool := false
  deriving DecidableEq, Repr

/-- A lane test to be made: when its slot starts, its bundles, and whether it is the whole
connection's or a retrain's. -/
structure SkTest where
  start   : Nat
  bundles : List Nat
  whole   : Bool
  deriving DecidableEq, Repr

/-- An exchange under way (R290, R291): its number, its bundles, and whether it is the fallback. -/
structure SkXch where
  num      : Nat
  bundles  : List Nat
  whole    : Bool
  fallback : Bool
  deriving DecidableEq, Repr

/-- A connection: its bundles (AB 0–23, BA 24–47), its directions, its sides A and B, the
configuration in effect and the millisecond it was taken in, when the sideband last brought a
valid message and when it was last reset, the test and the exchange under way, and whether
it has been tested and agreed, or has failed to, since its die began to rejoin (R298). -/
structure SkConn where
  bundles : List SkBundle := List.replicate 48 {}
  dirs    : List SkDir := List.replicate 2 {}
  sides   : List SkSide := List.replicate 2 {}
  lim     : Nat := 16
  rsp     : Nat := 100
  uiK     : Nat := 64
  cfgAt   : Nat := 0
  heard   : Nat := 0
  epoch   : Nat := 0
  test    : Option SkTest := none
  xch     : Option SkXch := none
  tried   : Bool := false
  deriving DecidableEq, Repr

/-- A lost die's sweep (R293): its bound, its log entry with TOTAL as it was written, whether
the die is to be HELD (R300), and the tracked requests it completed, with the writes among them. -/
structure SkSweep where
  bound : Nat
  entry : Nat
  total : Nat
  hold  : Bool
  swept : Nat := 0
  lost  : Nat := 0
  deriving DecidableEq, Repr

/-- The die links: the ten connections; for each die the times it entered QUARANTINE, its sweep,
its last STATE message, the quarantine count its REJOIN_REQ gave, the cycle of its commit, whether its DTIME copy
has been loaded since it last became absent, and whether its commit has been offered (R298). -/
structure Skink where
  conns   : List SkConn := List.replicate 10 {}
  quars   : List (List Nat) := List.replicate 6 []
  sweeps  : List (Option SkSweep) := List.replicate 6 none
  reports : List (Option DieReport) := List.replicate 6 none
  claims  : List Nat := List.replicate 6 0
  commits : List (Option Nat) := List.replicate 6 none
  loaded  : List Bool := List.replicate 6 false
  offered : List Bool := List.replicate 6 false
  deriving DecidableEq, Repr


/-! ## Chorus and the device links (R303–R328) -/

/-- A flit that waits to be sent: kind, source, destination and payload. -/
structure FlitOut where
  kind : Nat
  src  : Nat
  dst  : Nat
  data : List Byte
  deriving DecidableEq, Repr

/-- A device-link port: the next flit in order and the flit a replay was asked from, when its CRC failures of the last
millisecond came, the flits for this part, newest first; the sequence number it sends next, the flits that wait to be sent and those it
holds until they are acknowledged, oldest first, and the credits it has; the width a retrain will give,
when its miss timer last restarted, the misses in a row, and the link delay in ns once PROBE has measured it.
[DESIGN CHOICE, log entry 120] -/
structure DevLink where
  next   : Nat := 0
  replay : Option Nat := none
  fails  : List Nat := []
  got    : List (List Byte) := []
  sent   : Nat := 0
  queue  : List FlitOut := []
  held   : List (List Byte) := []
  credits : Nat := 0
  width  : Nat := 3
  timer  : Nat := 0
  misses : Nat := 0
  delay  : Nat := 0
  probed : Bool := false
  deriving DecidableEq, Repr

/-- What HELLO frames have told of a part. -/
structure ChPart where
  id  : Nat
  cfg : ChCfg
  adj : List ChAdj
  deriving DecidableEq, Repr

/-- An open agreement (R317): its number, its set, when it opened, and when it last flooded. -/
structure ChAgree where
  num     : Nat
  set     : Nat
  since   : Nat
  flooded : Nat
  deriving DecidableEq, Repr

/-- Chorus on this part: the discovered parts, whether an ID came twice, when the last adjacency was
learned and the last HELLO and HEARTBEAT sent; the origin sequence and the frames already seen; the
open agreement and the last VIEW of each part as (number, set); the highest barrier each part has
arrived at; this part's own arrivals as (barrier, time), newest first; and the barriers counted late; the HELLOs
this part has sent; the parts whose heartbeats have ceased; and the lines that other parts' inbound regions refuse
this part, as (part, first line, last line). [DESIGN CHOICE, log entry 106] -/
structure Chorus where
  links    : List DevLink := List.replicate 4 {}
  parts    : List ChPart := []
  dup      : Bool := false
  learned  : Nat := 0
  helloAt  : Option Nat := none
  beatAt   : Option Nat := none
  seq      : Nat := 0
  seen     : List (Nat × Nat) := []
  agree    : Option ChAgree := none
  views    : List (Nat × Nat × Nat) := []
  arrivals : List (Nat × Nat) := []
  mine     : List (Nat × Nat) := []
  late     : List Nat := []
  hellos   : List ChFrame := []
  silent   : List Nat := []
  deny     : List (Nat × Nat × Nat) := []
  deriving DecidableEq, Repr


/-! ## Power, start and the journal (R371–R387, R401–R423, R445, R454–R456) -/

/-- An application core as start, power entry and debug see it: released by the start, in WFI for
an entry, halted by the debug module, held in reset by a failed L2 (R380, R403, R415, R435). [DESIGN CHOICE, log entry 95] -/
structure Hart where
  released : Bool := false
  start    : Nat := 0
  parked   : Bool := false
  halted   : Bool := false
  inReset  : Bool := false
  deriving DecidableEq, Repr

/-- A run of the Brumation sampler that waits for a camera frame (R384, R385): the readings of
its steps, the step that waits, when its trigger pulsed, the steps that failed, and the steps that
qualify. -/
structure BruRun where
  vals  : List (Option Int)
  step  : Nat
  since : Nat
  bad   : List Nat
  qual  : List Nat
  deriving DecidableEq, Repr

/-- The power-state machine: the target of the present transition (1 RETAIN, 2 BRUMATION, 3 OFF),
its phase (0 none, 1 harts park, 2 self-test, 3 before the commit point, 4 committed), when it began,
whether it is forced; the events held since the commit point as a mask (bits 0–3 wake sources, bit 4
a doorbell); when the entry ended; the gated units; the sampler's last run, the run that waits, and
the block means of its camera steps; the instances the last self-test failed and the failing
HBM sectors; whether PM is raised to every hart whatever its enable bit holds (R179); and the slower levels of the harts' and
the tiles' clocks that wait for their switch (R375). -/
structure PowerSt where
  target  : Nat := 0
  phase   : Nat := 0
  since   : Nat := 0
  forced  : Bool := false
  held    : Nat := 0
  endedAt : Nat := 0
  gated   : List Nat := []
  lastRun : Option Nat := none
  run     : Option BruRun := none
  means   : List (Nat × List Nat) := []
  fails   : List (Nat × Nat) := []
  hbmBad  : List Nat := []
  pmAll   : Bool := false
  slowHart : Option Nat := none
  slowTile : Option Nat := none
  deriving DecidableEq, Repr

/-- The always-on domain: RESET_N low; the rails of VIN_MAIN off; a start that waits for VIN_MAIN;
the straps as last latched; PGOOD; the cause the next start reports; the self-test budget of the last
OFF (R373, R401, R409, R454, R455). -/
structure Aon where
  low    : Bool := true
  off    : Bool := false
  wait   : Bool := false
  straps : Nat := 0
  pgood  : Bool := false
  cause  : Nat := 0
  budget : Nat := 120
  deriving DecidableEq, Repr

/-- A record of the journal (Table 19.7): its offset in the area, and its fields. -/
structure JRec where
  off  : Nat
  type : Nat
  seq  : Nat
  key  : Nat
  data : List Byte
  deriving DecidableEq, Repr

/-- An append whose body stands in the flash and whose commit marker is to be programmed: its
record, and whether it has been repeated (R421). -/
structure Append where
  rec'  : JRec
  again : Bool
  deriving DecidableEq, Repr

/-- The flash and its two masters: the bytes that are not erased, by address; the directory in use;
the first free offset of the active area; the append in flight; the key slot that signed the running
image. -/
structure FlashSt where
  cells  : List Host.Cell := []
  dir    : Option Nat := none
  octal  : Bool := false
  next   : Nat := 0
  append : Option Append := none
  signer : Option Nat := none
  deriving DecidableEq, Repr


/-! ## The whole part -/

/-- The state of the part. `regs` holds every register that differs from its reset value,
by address, in ascending order; `pending` is the queue of waiting commands; `free` is the
model's own counter for free values. -/
structure State where
  regs    : List (Nat × Word) := []
  mem     : Mem := {}
  bus     : Bus := {}
  time    : TimeSt := {}
  tiles   : List Tile := List.replicate 128 {}
  hub     : Hub := {}
  fuses   : Fuses := {}
  sent    : List Sent := []
  /-- HBM of each peer part in GiB (R10): 48 for all at reset, and set by no command. [DESIGN CHOICE, log entry 106] -/
  peerGib : PeerSizes := List.replicate 16 48
  trace   : Trace := {}
  dbg     : Debug := {}
  pcieReads : List PcieRead := []
  tests   : List TestUnit := List.replicate 184 {}
  th      : Thermal := {}
  sh      : SensorHub := {}
  plan    : PlanSt := {}
  ms      : MemSys := {}
  isl : List Island := List.replicate 2 {}
  sk : Skink := {}
  ch : Chorus := {}
  pw : PowerSt := {}
  aon : Aon := {}
  flash : FlashSt := {}
  harts : List Hart := List.replicate 16 {}
  free    : Nat := 0
  pending : List Instr := []
  deriving DecidableEq, Repr

/-- The part before RESET_N first rises: every register at its reset value, every memory
unwritten, every queue empty. [DESIGN CHOICE, log entry 1; DEDUCED, log entry 84] -/
def State.reset : State := {}

end Sys2Proof.Machine
end

