-- ==== Sys2Proof/Machine/Ops.lean ====
section
/-!
DEFINITION. The named operations over registers, memory, time and the unit tables, on
which every meaning is built.
-/
namespace Sys2Proof.Machine

/-! ## Maps and sets held as ascending lists -/

/-- The entry at a key of an ascending list of pairs. -/
def mapGet {α : Type} : List (Nat × α) → Nat → Option α
  | [], _ => none
  | (k, v) :: r, a => if k = a then some v else mapGet r a

/-- Put an entry at its place, replacing one at the same key. -/
def mapPut {α : Type} : List (Nat × α) → Nat → α → List (Nat × α)
  | [], a, w => [(a, w)]
  | (k, v) :: r, a, w =>
    if a < k then (a, w) :: (k, v) :: r
    else if a = k then (a, w) :: r
    else (k, v) :: mapPut r a w

/-- Take the entry at a key out. -/
def mapDel {α : Type} (l : List (Nat × α)) (a : Nat) : List (Nat × α) :=
  l.filter (fun p => p.1 != a)

/-- Numbers that strictly ascend. -/
def ascending : List Nat → Bool
  | a :: b :: r => decide (a < b) && ascending (b :: r)
  | _ => true

/-- Put a number into an ascending list of numbers. -/
def setIns : List Nat → Nat → List Nat
  | [], a => [a]
  | k :: r, a => if a < k then a :: k :: r else if a = k then k :: r else k :: setIns r a

/-- Take a number out. -/
def setDel (l : List Nat) (a : Nat) : List Nat := l.filter (fun k => k != a)

/-- Replace the element at an index; an index past the end changes nothing. -/
def setAt {α : Type} : List α → Nat → α → List α
  | [], _, _ => []
  | _ :: r, 0, x => x :: r
  | y :: r, n + 1, x => y :: setAt r n x

/-- Change the element at an index. -/
def modAt {α : Type} (l : List α) (i : Nat) (f : α → α) : List α :=
  match l[i]? with
  | some x => setAt l i (f x)
  | none => l

/-- Little-endian number of a list of bytes (R30). -/
def leNat : List Byte → Nat
  | [] => 0
  | b :: r => b.toNat + 256 * leNat r

/-- The `n` little-endian bytes of a number. -/
def leBytes : Nat → Nat → List Byte
  | 0, _ => []
  | n + 1, v => BitVec.ofNat 8 v :: leBytes n (v / 256)

/-- Bits `hi:lo` of a number. -/
def bits (w hi lo : Nat) : Nat := (w / 2 ^ lo) % 2 ^ (hi + 1 - lo)

/-- Bytes `i` to `i + n - 1` of a little-endian number, as a number. -/
def bytesOf (w i n : Nat) : Nat := (w / 256 ^ i) % 256 ^ n

/-- The number with the bit range `hi:lo` replaced. -/
def setBits (w hi lo v : Nat) : Nat :=
  w - bits w hi lo * 2 ^ lo + (v % 2 ^ (hi + 1 - lo)) * 2 ^ lo

/-- A Boolean as a bit. -/
def bit (b : Bool) : Nat := if b then 1 else 0

/-- A number lies in a closed range. -/
def between (lo v hi : Nat) : Bool := decide (lo ≤ v ∧ v ≤ hi)

def ceilDiv (a b : Nat) : Nat := (a + b - 1) / b

/-- Round up to a multiple of 64 bytes. -/
def up64 (n : Nat) : Nat := ceilDiv n 64 * 64

/-! ## Registers -/

/-- Reset values that depend on the instance (Tables 8.1, 12.5, 12.7, 16.3). -/
def resetOverride (a : Addr) : Option Nat :=
  if rQOS_CLS_SCHED 0 ≤ a ∧ a ≤ rQOS_CLS_SCHED 15 then
    some (2 ^ 8 + (a - rQOS_CLS_SCHED 0) / 8)
  else if a = rQOS_CLS_REG 15 then some (256 * 2 ^ 32 + 48 * 2 ^ 24 + 32 * 2 ^ 16 + 64)
  else if a = rQOS_PORT_BKT 60 then some (4096 * 2 ^ 32 + 13 * 2 ^ 16 + 1536)
  else if a = rQOS_PORT_BKT 61 then some (4096 * 2 ^ 32 + 13 * 2 ^ 16 + 256)
  else if a = rQOS_PORT_BKT 62 ∨ a = rQOS_PORT_BKT 63 then some (4096 * 2 ^ 32 + 15 * 2 ^ 16 + 64)
  else if a = rQOS_PORT_BKT 70 then some (4096 * 2 ^ 32 + 15 * 2 ^ 16)
  else if rQOS_PORT_URG 60 ≤ a ∧ a ≤ rQOS_PORT_URG 63 ∧ (a - rQOS_PORT_URG 60) % 32 = 0 then
    some (14 * 2 ^ 40 + 12 * 2 ^ 36 + 8 * 2 ^ 32 + 65536)
  else if a = rHUB_UNTESTED 2 then some (2 ^ 56 - 1)
  else none

/-- The reset word a register table gives. -/
def defReset (fs : List FieldDef) : Nat := (fs.map (fun f => f.rst * 2 ^ f.lo)).sum

/-- The reset value of the register at an address; 0 where none stands. -/
def regReset (a : Addr) : Word :=
  match resetOverride a with
  | some v => BitVec.ofNat 64 v
  | none =>
    match regAt a with
    | some (r, _, _) => BitVec.ofNat 64 (defReset r.fields)
    | none => 0

/-- The stored value of a register. -/
def State.reg (s : State) (a : Addr) : Word := (mapGet s.regs a).getD (regReset a)

/-- The register map with one register changed: an entry stands only where the value
differs from the reset value. -/
def regsPut (l : List (Nat × Word)) (a : Addr) (w : Word) : List (Nat × Word) :=
  if w = regReset a then mapDel l a else mapPut l a w

/-- The register map holds ascending addresses and no register at its reset value. -/
def regsOk (l : List (Nat × Word)) : Bool := ascending (l.map (·.1)) && l.all (fun r => r.2 != regReset r.1)

/-- Give a register a value. -/
def State.setReg (s : State) (a : Addr) (w : Word) : State := { s with regs := regsPut s.regs a w }

/-- Value of a field of a register. -/
def State.rf (s : State) (a : Addr) (f : Fld) : Nat := f.get (s.reg a)

/-- Give a field of a register a value. -/
def State.wf (s : State) (a : Addr) (f : Fld) (v : Nat) : State := s.setReg a (f.set (s.reg a) v)

/-- A field that is 1. -/
def State.flag (s : State) (a : Addr) (f : Fld) : Bool := s.rf a f == 1

/-- Count `n` in a counter field that stops at its largest value. -/
def State.bump (s : State) (a : Addr) (f : Fld) (n : Nat) : State :=
  s.wf a f (min (2 ^ f.width - 1) (s.rf a f + n))

/-- Count in a field that wraps. -/
def State.wrapAdd (s : State) (a : Addr) (f : Fld) (n : Nat) : State := s.wf a f (s.rf a f + n)

/-! ## Time (R19, R20) -/

/-- DTIME at HUB: a 64-bit nanosecond count. The master counts in units of 2^−32 ns. -/
def State.dtime (s : State) : Nat := s.time.master / 2 ^ 32 % 2 ^ 64

/-- DTIME as a compute die's copy gives it; its stamps use that copy (R19). -/
def State.dieTime (s : State) (d : Nat) : Nat :=
  match s.time.dies[d]? with
  | some t => t.copy / 2 ^ 32 % 2 ^ 64
  | none => s.dtime

/-- An island's own time in nanoseconds (R21). -/
def State.islTime (s : State) (i : Nat) : Nat :=
  match s.time.isl[i]? with
  | some t => t.now / 2 ^ 32 % 2 ^ 64
  | none => 0

/-- Fabric cycles that have passed: 16 to a REFCLK edge (R18), and those the cache lookups have taken since. [DESIGN CHOICE,
log entry 103] -/
def State.fabCycle (s : State) : Nat := max (s.time.edges * 16) s.ms.cyc

/-- The fabric clock as a time in nanoseconds: 16 cycles are 10 ns. -/
def State.fabNs (s : State) : Nat := s.fabCycle * 5 / 8

/-! ## Free values -/

/-- Take the next number of the free-value counter. [DESIGN CHOICE, log entry 9] -/
def State.tick (s : State) : State := { s with free := s.free + 1 }

/-- Record what the part sends to the outside. [DESIGN CHOICE, log entry 7; DESIGN CHOICE, log entry 95] -/
def State.emit (s : State) (x : Sent) : State := { s with sent := x :: s.sent }

/-! ## Named updates: one part of the state each -/

def State.modTiles (s : State) (f : List Tile → List Tile) : State := { s with tiles := f s.tiles }
def State.modHub (s : State) (f : Hub → Hub) : State := { s with hub := f s.hub }
def State.modMem (s : State) (f : Mem → Mem) : State := { s with mem := f s.mem }
def State.modTime (s : State) (f : TimeSt → TimeSt) : State := { s with time := f s.time }
def State.modBus (s : State) (f : Bus → Bus) : State := { s with bus := f s.bus }
def State.modTests (s : State) (f : List TestUnit → List TestUnit) : State := { s with tests := f s.tests }
def State.modHarts (s : State) (f : List Hart → List Hart) : State := { s with harts := f s.harts }
def State.modAon (s : State) (f : Aon → Aon) : State := { s with aon := f s.aon }
def State.modFuses (s : State) (f : Fuses → Fuses) : State := { s with fuses := f s.fuses }
def State.modReads (s : State) (f : List PcieRead → List PcieRead) : State := { s with pcieReads := f s.pcieReads }
def State.modSh (s : State) (f : SensorHub → SensorHub) : State := { s with sh := f s.sh }
def State.modCh (s : State) (f : Chorus → Chorus) : State := { s with ch := f s.ch }
def State.modDebug (s : State) (f : Debug → Debug) : State := { s with dbg := f s.dbg }
def State.modFlash (s : State) (f : FlashSt → FlashSt) : State := { s with flash := f s.flash }
def State.modMs (s : State) (f : MemSys → MemSys) : State := { s with ms := f s.ms }
def State.modPlan (s : State) (f : PlanSt → PlanSt) : State := { s with plan := f s.plan }
def State.modPw (s : State) (f : PowerSt → PowerSt) : State := { s with pw := f s.pw }
def State.modSk (s : State) (f : Skink → Skink) : State := { s with sk := f s.sk }
def State.modTh (s : State) (f : Thermal → Thermal) : State := { s with th := f s.th }
def State.modTrace (s : State) (f : Trace → Trace) : State := { s with trace := f s.trace }

/-! ## Unit tables -/

def State.tile (s : State) (t : Nat) : Tile := s.tiles[t]?.getD {}
def State.modTile (s : State) (t : Nat) (f : Tile → Tile) : State := s.modTiles (fun l => modAt l t f)
def State.ctx (s : State) (c : Nat) : Ctx := s.hub.ctxs[c]?.getD {}
def State.modCtx (s : State) (c : Nat) (f : Ctx → Ctx) : State :=
  s.modHub (fun h => { h with ctxs := modAt h.ctxs c f })
def State.modTest (s : State) (e : Nat) (f : TestUnit → TestUnit) : State := s.modTests (fun l => modAt l e f)
def State.modIsle (s : State) (i : Nat) (f : Island → Island) : State := { s with isl := modAt s.isl i f }

/-! ## The address map (Table 0.5) -/

/-- What an address names. -/
inductive Zone where
  | hbm | unpopulated | dieMem (d : Nat) | tileSram (t off : Nat) | setup | doorbell
  | peer (d off : Nat) | unlisted
  deriving DecidableEq, Repr

def dieMemBase (d : Nat) : Addr := 0x1000000000 + d * 0x2000000
def sramBase (t : Nat) : Addr := 0x1100000000 + t * 0x200000
def peerBase (d : Nat) : Addr := 0x10000000000 + d * 0x1000000000

/-- Bytes of populated HBM (Table 0.1). -/
def State.hbmBytes (s : State) : Nat := s.fuses.hbmGib * 2 ^ 30

/-- The zone of an address (R9). -/
def State.zone (s : State) (a : Addr) : Zone :=
  if a < 0xC00000000 then (if a < s.hbmBytes then .hbm else .unpopulated)
  else if 0x1000000000 ≤ a ∧ a < 0x1008000000 then .dieMem ((a - 0x1000000000) / 0x2000000)
  else if 0x1100000000 ≤ a ∧ a < 0x1110000000 then
    .tileSram ((a - 0x1100000000) / 0x200000) ((a - 0x1100000000) % 0x200000)
  else if 0x1400000000 ≤ a ∧ a < 0x1800000000 then .setup
  else if 0x1800000000 ≤ a ∧ a < 0x1800040000 then .doorbell
  else if 0x10000000000 ≤ a ∧ a < 0x20000000000 then
    .peer ((a - 0x10000000000) / 0x1000000000) ((a - 0x10000000000) % 0x1000000000)
  else .unlisted

/-! ## Memory -/

/-- What a byte that nothing has written reads as. [DESIGN CHOICE, log entry 2] -/
def unwritten : Byte := 0

/-- The wild range an address lies in. -/
def wildAt (w : List (Nat × Nat × Nat)) (a : Nat) : Option (Nat × Nat × Nat) :=
  w.find? (fun r => decide (r.1 ≤ a) && decide (a < r.2.1))

/-- Wild ranges without one address. -/
def carve (w : List (Nat × Nat × Nat)) (a : Nat) : List (Nat × Nat × Nat) :=
  (w.flatMap (fun r => if r.1 ≤ a ∧ a < r.2.1 then [(r.1, a, r.2.2), (a + 1, r.2.1, r.2.2)] else [r])).filter
    (fun r => decide (r.1 < r.2.1))

/-- One byte of memory. [DESIGN CHOICE, log entry 2] -/
def Mem.byte (m : Mem) (a : Addr) : Byte :=
  match wildAt m.wild a with
  | some r => Config.saveByte r.2.2 a
  | none => (mapGet m.cells a).getD unwritten

/-- Canonical form: addresses ascend, no entry holds what an unwritten byte reads as, and the marks are
ascending lists. -/
def Mem.wf (m : Mem) : Bool :=
  ascending (m.cells.map (·.1)) && m.cells.all (fun c => c.2 != unwritten) && ascending m.poison
  && ascending (m.dieLines.map (·.1)) && ascending m.sramLines && ascending m.badWords && ascending m.softWords
  && ascending m.lost && ascending m.saved

/-- The bytes with one byte changed. -/
def cellsPut (l : List Host.Cell) (a : Addr) (b : Byte) : List Host.Cell :=
  if b = unwritten then mapDel l a else mapPut l a b

def Mem.setByte (m : Mem) (a : Addr) (b : Byte) : Mem :=
  { m with cells := cellsPut m.cells a b, wild := carve m.wild a }

/-- Bytes from an address on. -/
def Mem.read (m : Mem) (a : Addr) (n : Nat) : List Byte := (List.range n).map (fun i => m.byte (a + i))

def Mem.setBytes : Mem → Addr → List Byte → Mem
  | m, _, [] => m
  | m, a, b :: r => (m.setByte a b).setBytes (a + 1) r

/-- Numbers of the `g`-byte units a range touches. -/
def unitsOf (g a n : Nat) : List Nat :=
  if n = 0 then [] else (List.range ((a + n - 1) / g - a / g + 1)).map (fun i => a / g + i)

/-- Numbers of the `g`-byte units a range covers whole. -/
def wholeUnits (g a n : Nat) : List Nat :=
  (unitsOf g a n).filter (fun u => decide (a ≤ u * g) && decide (u * g + g ≤ a + n))

/-- The bytes of line `l` a range covers, as a 64-bit mask. -/
def lineMask (l a n : Nat) : Nat :=
  let lo := max a (l * 64) - l * 64
  let hi := min (a + n) (l * 64 + 64) - l * 64
  2 ^ hi - 2 ^ lo

/-- Pseudo-channel of an HBM address (R247). -/
def pcOf (a : Addr) : Nat :=
  (List.range 6).foldl (fun c k => Nat.xor c (a / 2 ^ (8 + 6 * k) % 64)) 0

/-- Sectors of the lost pseudo-channels among some sector numbers. [DESIGN CHOICE, log entry 55] -/
def Mem.ofLost (m : Mem) (l : List Nat) : List Nat :=
  if m.lost = [] then [] else l.filter (fun u => decide (u * 32 < 0xC00000000) && m.lost.contains (pcOf (u * 32)))

/-- Mark what a write of a range makes clean: whole HBM sectors lose the poison code
(R259), die-memory lines become readable once all their bytes are written (R467), whole words lose an uncorrectable
error (R53), tile-SRAM lines become valid (R54). A first write to an invalid line
rewrites the whole line with fresh check bits; a write to part of a word with a single-bit error stores the
corrected word. -/
def Mem.clean (m : Mem) (a n : Nat) : Mem :=
  let isDie := decide (0x1000000000 ≤ a) && decide (a < 0x1008000000)
  let isSram := decide (0x1100000000 ≤ a) && decide (a < 0x1110000000)
  let lines := unitsOf 64 a n
  let freshLines := lines.filter (fun l => !(m.sramLines.contains l))
  { m with
    poison := (wholeUnits 32 a n).foldl setDel m.poison
    saved := (m.ofLost (wholeUnits 32 a n)).foldl setIns m.saved
    cacheOnly := (m.ofLost (wholeUnits 32 a n)).foldl setDel m.cacheOnly
    dieLines := if isDie then lines.foldl (fun d l => mapPut d l (Nat.lor ((mapGet d l).getD 0) (lineMask l a n))) m.dieLines
      else m.dieLines
    sramLines := if isSram then lines.foldl setIns m.sramLines else m.sramLines
    softWords :=
      let w := (unitsOf 8 a n).foldl setDel m.softWords
      if isSram then w.filter (fun x => !(freshLines.contains (x / 8))) else w
    badWords :=
      let w := (wholeUnits 8 a n).foldl setDel m.badWords
      if isSram then w.filter (fun x => !(freshLines.contains (x / 8))) else w }

/-- Write bytes; the marks follow. -/
def Mem.write (m : Mem) (a : Addr) (bs : List Byte) : Mem := (m.setBytes a bs).clean a bs.length

/-- A word that a read may meet: an invalid line of tile SRAM is never read (R53). -/
def Mem.live (m : Mem) (w : Nat) : Bool :=
  !(decide (0x1100000000 ≤ w * 8) && decide (w * 8 < 0x1110000000)) || m.sramLines.contains (w / 8)

/-- A sector in an unspecified range that may read as poison does so (R467). -/
def Mem.darkAt (m : Mem) (u : Nat) : Bool :=
  m.wild.any (fun r => m.dark.contains r.2.2 && decide (r.1 < u * 32 + 32) && decide (u * 32 < r.2.1) && Config.darkSector r.2.2 u)

/-- A range meets poison: the poison code in HBM (R259), a sector that was never written (R467), or a die-memory line that has
not been written whole (R467), or an uncorrectable word. -/
def Mem.poisoned (m : Mem) (a n : Nat) : Bool :=
  (unitsOf 32 a n).any (fun x => m.poison.contains x || m.darkAt x)
  || (m.ofLost (unitsOf 32 a n)).any (fun x => !(m.saved.contains x))
  || ((unitsOf 64 a n).any (fun l =>
        decide (0x1000000000 ≤ l * 64) && decide (l * 64 < 0x1008000000) && (mapGet m.dieLines l).getD 0 != 2 ^ 64 - 1))
  || ((unitsOf 8 a n).any (fun w => m.badWords.contains w && m.live w))

/-- Store the poison code over every HBM sector a range touches (R259). -/
def Mem.putPoison (m : Mem) (a n : Nat) : Mem :=
  { m with poison := (unitsOf 32 a n).foldl setIns m.poison }

/-- A word meets a flip: one wrong bit, or two, which a further flip of one wrong bit makes too. -/
def Mem.flip (m : Mem) (w : Nat) (double : Bool) : Mem :=
  if double || m.softWords.contains w || m.badWords.contains w then
    { m with softWords := setDel m.softWords w, badWords := setIns m.badWords w }
  else { m with softWords := setIns m.softWords w }

/-- Forget a range: its bytes, marks and errors are as never written. -/
def Mem.forget (m : Mem) (a n : Nat) : Mem :=
  { m with
    cells := m.cells.filter (fun c => decide (c.1 < a) || decide (a + n ≤ c.1))
    dieLines := m.dieLines.filter (fun l => decide (l.1 * 64 < a) || decide (a + n ≤ l.1 * 64))
    sramLines := m.sramLines.filter (fun l => decide (l * 64 < a) || decide (a + n ≤ l * 64))
    badWords := m.badWords.filter (fun w => decide (w * 8 < a) || decide (a + n ≤ w * 8)) }

def State.memRead (s : State) (a : Addr) (n : Nat) : List Byte := s.mem.read a n
def State.memNat (s : State) (a : Addr) (n : Nat) : Nat := leNat (s.mem.read a n)
/-! ## Fenced pseudo-channels (R261, R262) -/

def mcFENCED : Nat := 3
def mcSCRUB : Nat := 5

def State.mcState (s : State) (c : Nat) : Nat := s.rf (rMC_STATUS c) fMC_STATUS_STATE

/-- Reads return poison and writes are discarded (R261, R262). [DEDUCED, log entry 60] -/
def State.mcDead (s : State) (c : Nat) : Bool := between mcFENCED (s.mcState c) mcSCRUB

/-- A line stands in its cache slice. -/
def State.lineHeld (s : State) (line : Nat) : Bool :=
  ((s.ms.slices[pcOf (line * 128)]?.getD {}).lines).any (fun l => l.line == line)

/-- Sectors that hold good data in the cache alone: they are lost when their line leaves it (R261). -/
def Mem.inCache (m : Mem) (us : List Nat) : Mem := { m with cacheOnly := us.foldl setIns m.cacheOnly }

/-- A write of bytes within one line. Where the controller is dead it is discarded and counted, or, where the line is in the
cache, it stays in the cache. -/
def State.lineWrite (s : State) (a : Addr) (bs : List Byte) : State :=
  if s.mcDead (pcOf a) then
    if s.lineHeld (a / 128) then s.modMem (fun m => (m.write a bs).inCache (m.ofLost (wholeUnits 32 a bs.length)))
    else s.bump (rMC_POISON_CNT (pcOf a)) fMC_POISON_CNT_WDROP_CNT 1
  else s.modMem (fun m => m.write a bs)

/-- A write of memory, whoever makes it. Where a pseudo-channel is lost it goes line by line. [DESIGN CHOICE, log entry 55] -/
def State.memWrite (s : State) (a : Addr) (bs : List Byte) : State :=
  if s.mem.lost = [] ∨ 0xC00000000 ≤ a then s.modMem (fun m => m.write a bs)
  else
    (unitsOf 128 a bs.length).foldl (fun x l =>
      let lo := max a (l * 128)
      x.lineWrite lo ((bs.drop (lo - a)).take (l * 128 + 128 - lo))) s

/-! ## Status codes (Table 7.12) -/

def stOK : Nat := 0
def stSTATE_REFUSED : Nat := 1
def stREGION_FAULT : Nat := 2
def stDATA_POISON : Nat := 3
def stLENGTH_LIMIT : Nat := 4
def stJOB_ABORTED : Nat := 5
def stDEADLINE : Nat := 6
def stMALFORMED : Nat := 7
def stUNSUPPORTED : Nat := 8
def stDIE_ABSENT : Nat := 9
def stLINK_DOWN : Nat := 10

/-! ## Tile and die state codes (Tables 3.18, 13.8, 17.9) -/

def tsIDLE : Nat := 0
def tsLOADING : Nat := 1
def tsRUN : Nat := 2
def tsLEAP_SAVE : Nat := 3
def tsLEAP_RESTORE : Nat := 4
def tsTEST : Nat := 5
def tsBASKING : Nat := 6
def tsFAULT : Nat := 7

/-- State of a tile. -/
def State.tileState (s : State) (t : Nat) : Nat := s.rf (rTILE_STATUS t) fTILE_STATUS_STATE
def State.setTileState (s : State) (t v : Nat) : State := s.wf (rTILE_STATUS t) fTILE_STATUS_STATE v

end Sys2Proof.Machine
end

