-- ==== Sys2Proof/Machine/Flags.lean ====
section
/-!
DEFINITION. Status flags and interrupts: the sticky bits of the status registers, the four
part interrupts of R179 and the context interrupts of R163.
-/
namespace Sys2Proof.Machine

/-- Sources of Table 7.19 by status bit. -/
def irqPM : Nat := 0
def irqTH : Nat := 1
def irqCH : Nat := 2
def irqSH : Nat := 3

/-- Set a bit of HUB_IRQ_STATUS (R179). -/
def State.raiseIrq (s : State) (b : Nat) : State :=
  s.wf rHUB_IRQ_STATUS { hi := b, lo := b } 1

/-- A source is raised while its status bit and its enable bit are both 1 (R179); PM of an entry to RETAIN, BRUMATION or OFF
whatever the enable bit holds. -/
def State.irqRaised (s : State) (b : Nat) : Bool :=
  s.flag rHUB_IRQ_STATUS { hi := b, lo := b } && (s.flag rHUB_IRQ_EN { hi := b, lo := b } || (b == irqPM && s.pw.pmAll))

/-- Raise the interrupt of a context: source 32 + c, and MSI-X vector c in endpoint mode
(R163, R307). Port 0 is in endpoint mode when its DL_CFG.MODE is 3. -/
def State.raiseCtxIrq (s : State) (c : Nat) : State :=
  let s1 := s.modHub (fun h => { h with ctxIrq := setIns h.ctxIrq (32 + c) })
  if s1.rf (rDL_CFG 0) fDL_CFG_MODE = 3 then s1.emit (.msix c) else s1

/-- Set a one-bit flag of a register. -/
def State.setFlag (s : State) (a : Addr) (f : Fld) : State := s.wf a f 1

/-- Clear a one-bit flag of a register. -/
def State.clrFlag (s : State) (a : Addr) (f : Fld) : State := s.wf a f 0

end Sys2Proof.Machine
end

