-- ==== Sys2Proof/Machine/Operands.lean ====
section
/-!
DEFINITION. Engine operands: which dies and parts are there, the region table of a context
(R157), what an engine access to an address meets after its region check (R2, R9, R10, R55,
R152, R293, R378), and the reading and writing of operands.
-/
namespace Sys2Proof.Machine

/-! ## Dies and parts -/

/-- State of die `d` (0–3 CDn, 4 SIA, 5 SIB; Table 13.8). -/
def State.dieState (s : State) (d : Nat) : Nat :=
  s.rf rSK_DIE_STATE { hi := 4 * d + 3, lo := 4 * d }

def State.setDieState (s : State) (d v : Nat) : State :=
  s.wf rSK_DIE_STATE { hi := 4 * d + 3, lo := 4 * d } v

/-- Power state of a compute die (PM_STATUS.DIE_STATE): 0 RUN, 1 IDLE, 2 RETAIN, 3 moving. -/
def State.diePower (s : State) (d : Nat) : Nat :=
  s.rf rPM_STATUS { hi := 17 + 2 * d, lo := 16 + 2 * d }

def State.setDiePower (s : State) (d v : Nat) : State :=
  s.wf rPM_STATUS { hi := 17 + 2 * d, lo := 16 + 2 * d } v

/-- A die that is PRESENT (R293). -/
def State.diePresent (s : State) (d : Nat) : Bool := s.dieState d == 0

/-- A die in RETAIN, or on its way into it or out of it, counts as not present for placement (R378). -/
def State.dieRetained (s : State) (d : Nat) : Bool := decide (2 ≤ s.diePower d)

/-- PM_STATUS.STATE: 0 RUN, 1 IDLE, 2 ENTERING, 3 RETAIN, 4 BRUMATION, 5 EXITING (Table 17.9). -/
def State.powerState (s : State) : Nat := s.rf rPM_STATUS fPM_STATUS_STATE

/-- Compute work is held while HALT lasts (R395). -/
def State.halted (s : State) : Bool := s.flag rTH_STATUS fTH_STATUS_HALT
def State.setPowerState (s : State) (v : Nat) : State := s.wf rPM_STATUS fPM_STATUS_STATE v

/-- A doorbell, an inbound request, a compute-die access or a due test ends IDLE (R377): the clocks
of every die run again. -/
def State.idleExit (s : State) : State :=
  if s.powerState = 1 then
    ((List.range 4).foldl (fun x d => if x.diePower d = 1 then x.setDiePower d 0 else x) s).setPowerState 0
  else s

/-- Derived rails (Table 17.1); `cd` and `sramCd` are those of a compute die. -/
inductive Rail where
  | aon | ret | cd (d : Nat) | sramCd (d : Nat) | hub | sramHub | hart | sk | stacks
  deriving DecidableEq, Repr

/-- How a rail is held: a stack's rails stay on in RETAIN while it refreshes itself (Table 17.1). -/
inductive RailMode where
  | off | retention | on
  deriving DecidableEq, Repr

/-- The part is in RETAIN or BRUMATION: its logic rails are off and its PLLs are stopped (Table 17.6). -/
def State.asleep (s : State) : Bool := s.powerState == 3 || s.powerState == 4

/-- The mode in which the PMC holds a rail (R371, R378). -/
def State.rail (s : State) : Rail → RailMode
  | .aon => .on
  | .ret => if s.aon.off then .off else .on
  | .stacks => if s.aon.off then .off else .on
  | .cd d => if s.aon.off || s.asleep || s.diePower d == 2 then .off else .on
  | .sramCd d => if s.aon.off then .off else if s.asleep || s.diePower d == 2 then .retention else .on
  | .sramHub => if s.aon.off then .off else if s.asleep then .retention else .on
  | .hub => if s.aon.off || s.asleep then .off else .on
  | .hart => if s.aon.off || s.asleep then .off else .on
  | .sk => if s.aon.off || s.asleep then .off else .on

/-- The PHY of a device-link port has power: the port is not OFF (R371). -/
def State.linkPhy (s : State) (k : Nat) : Bool := s.rail .hub == .on && s.rf (rDL_CFG k) fDL_CFG_MODE != 0

/-- HUB has its rails and its clocks: the part answers its islands, its peers and its hosts (R381). -/
def State.hubServes (s : State) : Bool := s.rail .hub == .on && decide (s.powerState ≤ 2)

def State.dieUsable (s : State) (d : Nat) : Bool :=
  decide (d < 4) && s.diePresent d && !s.dieRetained d

/-- Mask of the present compute dies: the die set of a job (R297, R378). -/
def State.dieSet (s : State) : Nat :=
  ((List.range 4).filter (fun d => s.dieUsable d)).foldl (fun m d => m + 2 ^ d) 0

/-- Own Chorus ID (R308). -/
def State.selfId (s : State) : Nat := s.rf rCH_STATUS fCH_STATUS_SELF_ID

/-- Part `d` is a member of the committed view (R10). -/
def State.isMember (s : State) (d : Nat) : Bool :=
  s.rf rCH_STATUS fCH_STATUS_STATE == 2 && Nat.testBit (s.rf rCH_STATUS fCH_STATUS_MEMBERS) d

/-- Part `d` is reachable over UP links (R315). -/
def State.reachable (s : State) (d : Nat) : Bool := s.flag (rCH_ROUTE d) fCH_ROUTE_VALID

/-- Port 0 is a PCIe root, and peer window 15 is PCIe memory space (R307). [DEDUCED, log entry 19] -/
def State.pcieRoot (s : State) : Bool := s.rf (rDL_CFG 0) fDL_CFG_MODE == 2
/-- The PCIe link of port 0 is up. -/
def State.pcieUp (s : State) : Bool := s.rf (rDL_STATUS 0) fDL_STATUS_STATE == 2

/-! ## Region tables -/

/-- One entry of a region table covers a line (R157 step 1). -/
def covers (base lim : Word) (fv fb fl : Fld) (line : Nat) : Bool :=
  fv.get base == 1 && decide (fb.get base ≤ line) && decide (line ≤ fl.get lim)

/-- The lowest-numbered entry of context `c`'s table that covers a line (R157 step 2). -/
def State.regionOf (s : State) (c line : Nat) : Option Nat :=
  (List.range 64).find? (fun r =>
    covers (s.reg (rHUB_CTX_RGN_BASE c r)) (s.reg (rHUB_CTX_RGN_LIM c r))
      fHUB_CTX_RGN_BASE_VALID fHUB_CTX_RGN_BASE_BASE fHUB_CTX_RGN_LIM_LIMIT line)

/-- The INPUT_MASK in force for a context: that of its open job (R157 step 4). -/
def State.inputMask (s : State) (c : Nat) : Nat :=
  match (s.ctx c).job with
  | some j => if j.started then j.mask else 0
  | none => 0

/-- What an access asks for. -/
inductive Want where
  | rd | wr | both
  deriving DecidableEq, Repr

def Want.reads : Want → Bool
  | .rd => true
  | .wr => false
  | .both => true

def Want.writes : Want → Bool
  | .rd => false
  | .wr => true
  | .both => true

/-- An engine access that fails: its status, the faulting line's address, and the engine
DETAIL names when the status is DIE_ABSENT (R166, R293), 0xFF otherwise; and the row of a KV_OP whose share met it. -/
structure AccErr where
  status : Nat
  addr   : Nat
  engine : Nat := 0xFF
  row    : Option Nat := none
  deriving DecidableEq, Repr

/-- DETAIL for a failed access reported by engine `e` (R166). -/
def AccErr.detail (x : AccErr) (e : Nat) : Nat :=
  if x.status = stREGION_FAULT then e * 2 ^ 56 + x.addr % 2 ^ 44
  else if x.status = stDIE_ABSENT then x.engine * 2 ^ 56
  else e * 2 ^ 56

/-- The test region covers an address (R367). [DEDUCED, log entry 16] -/
def State.inTestRegion (s : State) (a : Nat) : Bool :=
  let b := s.rf rHUB_TEST_BASE fHUB_TEST_BASE_ADDR
  b != 0 && a / 2 ^ 24 == b

/-- The compute die whose window an address of the set-up range lies in (Table 7.1). -/
def blockDie (a : Addr) : Option Nat :=
  if 0x1400000000 ≤ a ∧ a < 0x1400800000 then some ((a - 0x1400000000) / 0x200000)
  else if 0x1400800000 ≤ a ∧ a < 0x1400900000 then some ((a - 0x1400800000) / 0x40000)
  else if 0x1400900000 ≤ a ∧ a < 0x1400B00000 then some ((a - 0x1400900000) / 0x80000)
  else if 0x1400B00000 ≤ a ∧ a < 0x1400B40000 then some ((a - 0x1400B00000) / 0x10000)
  else none

/-- The engine whose set-up window an address of die `d` lies in; the die's lowest for its CD_ window (R293). -/
def blockEngine (a : Addr) (d : Nat) : Nat :=
  if a < 0x1400800000 then (a - 0x1400000000) / 0x10000
  else if a < 0x1400900000 then 128 + (a - 0x1400800000) / 0x10000
  else if a < 0x1400B00000 then 144 + (a - 0x1400900000) / 0x10000
  else 32 * d

/-- A part's inbound regions refuse a line to this part (R311). -/
def State.peerDenies (s : State) (d line : Nat) : Bool :=
  s.ch.deny.any (fun x => x.1 == d && decide (x.2.1 ≤ line ∧ line ≤ x.2.2))

/-- What stands behind a line once its region check has passed. [DEDUCED, log entry 16] -/
def State.lineErr (s : State) (line : Nat) : Option AccErr :=
  let a := line * 64
  let region : Option AccErr := some { status := stREGION_FAULT, addr := a }
  match s.zone a with
  | .hbm => if s.inTestRegion a then region else none
  | .unpopulated => region
  | .dieMem d =>
    if !s.diePresent d then some { status := stDIE_ABSENT, addr := a, engine := 32 * d }
    else if s.dieRetained d then some { status := stSTATE_REFUSED, addr := a }
    else none
  | .tileSram t _ =>
    if !s.diePresent (t / 32) then some { status := stDIE_ABSENT, addr := a, engine := t }
    else if s.dieRetained (t / 32) then some { status := stSTATE_REFUSED, addr := a }
    else if s.tileState t = tsIDLE then none
    else some { status := stSTATE_REFUSED, addr := a }
  | .setup =>
    match blockDie a with
    | some d =>
      if !s.diePresent d then some { status := stDIE_ABSENT, addr := a, engine := blockEngine a d }
      else if s.dieRetained d then some { status := stSTATE_REFUSED, addr := a }
      else region
    | none => region
  | .doorbell => region
  | .peer d off =>
    if d = 15 ∧ s.pcieRoot then (if s.pcieUp then none else some { status := stLINK_DOWN, addr := a })
    else if d = s.selfId then region
    else if !s.isMember d || !s.reachable d then some { status := stLINK_DOWN, addr := a }
    else if s.peerGib.getD d 48 * 2 ^ 30 ≤ off ∨ s.peerDenies d (off / 64) then region
    else none
  | .unlisted => region

/-- A line lies in a region of the open job's INPUT_MASK (R157 step 4). -/
def State.inputLine (s : State) (c line : Nat) : Bool :=
  (List.range 64).any (fun r =>
    Nat.testBit (s.inputMask c) r
    && covers (s.reg (rHUB_CTX_RGN_BASE c r)) (s.reg (rHUB_CTX_RGN_LIM c r))
      fHUB_CTX_RGN_BASE_VALID fHUB_CTX_RGN_BASE_BASE fHUB_CTX_RGN_LIM_LIMIT line)

/-- The check of one 64-byte line for an engine working for context `c` (R157, then R2, R9,
R10, R55, R152, R293, R378). -/
def State.engineLine (s : State) (c : Nat) (w : Want) (line : Nat) : Option AccErr :=
  let refuse : Option AccErr := some { status := stREGION_FAULT, addr := line * 64 }
  match s.regionOf c line with
  | none => refuse
  | some r =>
    let b := s.reg (rHUB_CTX_RGN_BASE c r)
    if w.reads && fHUB_CTX_RGN_BASE_RD.get b != 1 then refuse
    else if w.writes && fHUB_CTX_RGN_BASE_WR.get b != 1 then refuse
    else if w.writes && s.inputLine c line then refuse
    else s.lineErr line

/-- The first line of a range that fails. [DEDUCED, log entry 18] -/
def State.engineErr (s : State) (c : Nat) (w : Want) (a n : Nat) : Option AccErr :=
  (unitsOf 64 a n).findSome? (s.engineLine c w)

/-! ## Reading and writing operands -/

/-- A byte range from `base` on touches an 8-byte word. -/
def touchesWord (base w : Nat) (sp : Span) : Bool :=
  decide (sp.lo < sp.hi) && decide (base + sp.lo < w * 8 + 8) && decide (w * 8 < base + sp.hi)

/-- It touches the word and does not cover it. -/
def partsWord (base w : Nat) (sp : Span) : Bool :=
  touchesWord base w sp && !(decide (base + sp.lo ≤ w * 8) && decide (w * 8 + 8 ≤ base + sp.hi))

/-- Words of an error list that reads of the ranges `rd`, or partial writes of the ranges `wr`, meet in a tile's SRAM
(R53: an invalid line is never read). -/
def Mem.metWords (m : Mem) (l : List Nat) (t : Nat) (rd wr : List Span) : List Nat :=
  l.filter (fun w => m.live w && (rd.any (touchesWord (sramBase t) w) || wr.any (partsWord (sramBase t) w)))

/-- The tiles whose SRAM windows a range of addresses meets, each with the range inside its SRAM. -/
def windowParts (a n : Nat) : List (Nat × Span) :=
  if 0x1100000000 ≤ a ∧ a < 0x1110000000 then
    (unitsOf 0x200000 (a - 0x1100000000) n).map (fun t =>
      (t, { lo := max a (sramBase t) - sramBase t, hi := min (a + n) (sramBase t + 0x200000) - sramBase t }))
  else []

/-- A write through a tile's SRAM window covers part of a word with a double-bit error (R53). -/
def State.windowTorn (s : State) (a n : Nat) : Bool :=
  (windowParts a n).any (fun p => !(s.mem.metWords s.mem.badWords p.1 [] [p.2]).isEmpty)

/-- Errors that an access through a tile's SRAM window meets are counted at the tile, each word once an access (R53,
R55). [DESIGN CHOICE, log entry 99] -/
def State.windowEcc (s : State) (w : Want) (a n : Nat) : State :=
  (windowParts a n).foldl (fun x p =>
    let rd := if w.reads then [p.2] else []
    let wr := if w.writes then [p.2] else []
    (x.bump (rTILE_ECC_CNT p.1) fTILE_ECC_CNT_CE_CNT (s.mem.metWords s.mem.softWords p.1 rd wr).length).bump
      (rTILE_ECC_CNT p.1) fTILE_ECC_CNT_UE_CNT (s.mem.metWords s.mem.badWords p.1 rd wr).length) s

/-- A byte as an engine or core reads it, peer windows included (R10). [DESIGN CHOICE, log entry 7] -/
def State.anyByte (s : State) (a : Addr) : Byte :=
  match s.zone a with
  | .peer d off => Config.peerByte d off s.free
  | _ => s.mem.byte a

/-- Bytes as an engine reads them. -/
def State.anyRead (s : State) (a n : Nat) : List Byte := (List.range n).map (fun i => s.anyByte (a + i))

/-- The answer of an engine read. -/
inductive Got where
  | ok (bs : List Byte)
  | err (e : AccErr)
  deriving DecidableEq, Repr

/-- An engine read: region check, then poison, then the bytes. Poison is met at the first line that holds it. -/
def State.engRead (s : State) (c a n : Nat) : Got :=
  match s.engineErr c .rd a n with
  | some e => .err e
  | none =>
    match (unitsOf 64 a n).find? (fun l => s.mem.poisoned (max a (l * 64)) (min (a + n) (l * 64 + 64) - max a (l * 64))) with
    | some l => .err { status := stDATA_POISON, addr := l * 64 }
    | none => .ok (s.anyRead a n)

/-- A checked write lands: in memory, or at the peer part (R10). [DESIGN CHOICE, log entry 7] -/
def State.putBytes (s : State) (a : Addr) (bs : List Byte) : State :=
  match s.zone a with
  | .peer d off => s.emit (if d = 15 ∧ s.pcieRoot then .pcieWrite off bs else .peerWrite d off bs)
  | _ => s.memWrite a bs

/-- An engine write: nothing lands where a line fails its check, or where part of a word with a double-bit error would
be written (R53). [DEDUCED, log entry 18] -/
def State.engWrite (s : State) (c a : Nat) (bs : List Byte) : State × Option AccErr :=
  match s.engineErr c .wr a bs.length with
  | some e => (s, some e)
  | none =>
    let s1 := s.windowEcc .wr a bs.length
    if s.windowTorn a bs.length then (s1, some { status := stDATA_POISON, addr := a })
    else (s1.putBytes a bs, none)

/-! ## Contexts and classes -/

/-- State of a context: 0 DISABLED, 1 ENABLED, 2 DRAINING (Table 7.5). -/
def State.ctxState (s : State) (c : Nat) : Nat := s.rf (rHUB_CTX_STATUS c) fHUB_CTX_STATUS_STATE

/-- Effective class of a descriptor (R158). -/
def State.effClass (s : State) (c raw : Nat) : Nat :=
  if bits raw 12 12 = 1 then bits raw 11 8 else s.rf (rHUB_CTX_CFG c) fHUB_CTX_CFG_CLASS

/-- Scheduling priority and pre-emption of a class (R183). -/
def State.prio (s : State) (k : Nat) : Nat := s.rf (rQOS_CLS_SCHED k) fQOS_CLS_SCHED_PRIO
def State.preempts (s : State) (k : Nat) : Bool := s.flag (rQOS_CLS_SCHED k) fQOS_CLS_SCHED_PREEMPT

/-! ## Engine state bits (R357, R362) -/

/-- UNTESTED bit of an engine ID 0–183. -/
def State.untested (s : State) (e : Nat) : Bool :=
  Nat.testBit (s.reg (rHUB_UNTESTED (e / 64))).toNat (e % 64)

/-- FAULT bit of an engine ID by a failed test (R362). -/
def State.testFault (s : State) (e : Nat) : Bool :=
  Nat.testBit (s.reg (rHUB_TEST_FAIL (e / 64))).toNat (e % 64)

/-- The status register that mirrors an engine's UNTESTED bit, where it has one. -/
def mirrorUntested (e : Nat) : Option (Addr × Fld) :=
  if e < 128 then some (rTILE_STATUS e, fTILE_STATUS_UNTESTED)
  else if e < 144 then some (rGE_STATUS (e - 128), fGE_STATUS_UNTESTED)
  else if 176 ≤ e ∧ e < 184 then some (rPC_STATUS (e - 176), fPC_STATUS_UNTESTED)
  else none

/-- Give an engine's UNTESTED bit a value, with its mirror. -/
def State.setUntested (s : State) (e : Nat) (b : Bool) : State :=
  let s1 := s.wf (rHUB_UNTESTED (e / 64)) { hi := e % 64, lo := e % 64 } (bit b)
  match mirrorUntested e with
  | some (a, f) => s1.wf a f (bit b)
  | none => s1

def State.setTestFault (s : State) (e : Nat) (b : Bool) : State :=
  s.wf (rHUB_TEST_FAIL (e / 64)) { hi := e % 64, lo := e % 64 } (bit b)

/-- Compute die of an engine ID (Table 0.6). -/
def dieOfEngine (e : Nat) : Nat :=
  if e < 128 then e / 32 else if e < 144 then (e - 128) / 4 else (e - 144) / 8

/-- Position of a unit in its die's completion vector (R198). -/
def vecPos (e : Nat) : Nat :=
  if e < 128 then e % 32 else if e < 144 then 32 + (e - 128) % 4 else 36 + (e - 144) % 8

def State.die (s : State) (d : Nat) : Die := s.hub.dies[d]?.getD {}
def State.modDie (s : State) (d : Nat) (f : Die → Die) : State :=
  s.modHub (fun h => { h with dies := modAt h.dies d f })

/-! ## The completion collector (R198, R199) -/

/-- One step of the two scan pointers: each retires the flag at its position. -/
def Die.scan (d : Die) : Die :=
  { d with flags := setDel (setDel d.flags d.tptr) d.eptr
           tptr := (d.tptr + 1) % 32
           eptr := if d.eptr = 43 then 32 else d.eptr + 1
           cyc := d.cyc + 1 }

/-- The flags the next step retires, each with its cycle. -/
def Die.scanned (d : Die) : List (Nat × Nat) := (d.flags.filter (fun f => f == d.tptr || f == d.eptr)).map (fun f => (d.cyc, f))

/-- `n` steps, and the flags they retire. -/
def Die.pass : Nat → Die → Die × List (Nat × Nat)
  | 0, d => (d, [])
  | n + 1, d => ((Die.pass n d.scan).1, d.scanned ++ (Die.pass n d.scan).2)

/-- Step the pointers until one of them has retired a flag, within one turn. -/
def Die.retire : Nat → Die → Die × List (Nat × Nat)
  | 0, d => (d, [])
  | n + 1, d => if d.scanned.isEmpty then Die.retire n d.scan else (d.scan, d.scanned)

/-- The pointers as they stand at a fabric cycle, one position on a cycle, and the flags they have retired on the way: one
turn passes every flag. [DESIGN CHOICE, log entry 103] -/
def Die.upTo (d : Die) (now : Nat) : Die × List (Nat × Nat) :=
  let r := d.pass (min 32 (now - d.cyc))
  let n := now - r.1.cyc
  ({ r.1 with tptr := (r.1.tptr + n) % 32, eptr := 32 + (r.1.eptr - 32 + n) % 12, cyc := max r.1.cyc now }, r.2)

/-- Place of an event in HUB's merge: its cycle, then its die, counted from the die that starts that cycle. -/
def mergeKey (x : Nat × Nat × Nat) : Nat := x.1 * 4 + (x.2.1 + 4 - x.1 % 4) % 4

def mergeIn (x : Nat × Nat × Nat) : List (Nat × Nat × Nat) → List (Nat × Nat × Nat)
  | [] => [x]
  | y :: r => if mergeKey x < mergeKey y then x :: y :: r else y :: mergeIn x r

/-- Flags a die retired cross to HUB's merge, which an event leaves within four cycles. -/
def State.merge (s : State) (die : Nat) (l : List (Nat × Nat)) : State :=
  s.modHub (fun h =>
    { h with merge := l.foldl (fun m x => mergeIn (x.1, die, x.2) (m.filter (fun y => decide (x.1 < y.1 + 4)))) h.merge })

/-- A die's pointers have moved on to the present cycle. -/
def State.catchUp (s : State) (die : Nat) : State :=
  let r := (s.die die).upTo s.fabCycle
  (s.modDie die (fun _ => r.1)).merge die r.2

/-- Raise a unit's completion flag (R198). -/
def State.raiseDone (s : State) (e : Nat) : State :=
  (s.catchUp (dieOfEngine e)).modDie (dieOfEngine e) (fun d => { d with flags := setIns d.flags (vecPos e) })

/-- A unit whose flag is set, and not retired by now, takes no new work (R198). -/
def State.doneRaised (s : State) (e : Nat) : Bool :=
  (((s.die (dieOfEngine e)).upTo s.fabCycle).1.flags).contains (vecPos e)

end Sys2Proof.Machine
end

