-- ==== Sys2Proof/Machine/TraceOps.lean ====
section
/-!
DEFINITION. Trace records and the trace buffer as shared operations (R424–R434): every
engine writes its records through `State.traceEvent`, and every trigger source fires
through `State.fireTrigger`.
-/
namespace Sys2Proof.Machine

/-! ## Record layouts (Table 20.1) -/

def evBEGIN : Nat := 0
def evEND : Nat := 1
def evLEAP_OUT : Nat := 2
def evLEAP_IN : Nat := 3
def evABORT : Nat := 4
def evMARK : Nat := 5
def evSNAP : Nat := 6
def evTRIGGER : Nat := 7
def evGAP : Nat := 8
def evTIME : Nat := 9

/-- A command record. -/
def recCommand (engine attempt ev ctx status descId aux dtime : Nat) : Nat :=
  engine % 256 + (attempt % 16 * 16 + ev % 16) * 2 ^ 8 + (ctx % 64) * 2 ^ 16 + (status % 256) * 2 ^ 24
  + (descId % 2 ^ 32) * 2 ^ 32 + (aux % 2 ^ 16) * 2 ^ 64 + (dtime % 2 ^ 48) * 2 ^ 80

def recSnap (engine act bytes hold : Nat) : Nat :=
  engine % 256 + evSNAP * 2 ^ 8 + (act % 2 ^ 48) * 2 ^ 16 + (bytes % 2 ^ 48) * 2 ^ 64 + (hold % 2 ^ 16) * 2 ^ 112

def recTrigger (src dtime : Nat) : Nat :=
  0xFF + evTRIGGER * 2 ^ 8 + (src % 2 ^ 16) * 2 ^ 16 + (dtime % 2 ^ 48) * 2 ^ 80

def recGap (engine dropped reason die dtime : Nat) : Nat :=
  engine % 256 + evGAP * 2 ^ 8 + (dropped % 2 ^ 48) * 2 ^ 16 + (reason % 256 * 256 + die % 256) * 2 ^ 64
  + (dtime % 2 ^ 48) * 2 ^ 80

def recTime (dtime : Nat) : Nat := 0xFF + evTIME * 2 ^ 8 + (dtime % 2 ^ 64) * 2 ^ 64

/-! ## The buffer -/

/-- Records the buffer holds when full (R429). -/
def traceCap : Nat := 1048576

def trARMED : Nat := 0
def trPOST : Nat := 1
def trFROZEN : Nat := 2
def trIDLE : Nat := 3

def State.trMode (s : State) : Nat := s.rf rTR_CFG fTR_CFG_MODE
def State.trState (s : State) : Nat := s.rf rTR_STATUS fTR_STATUS_STATE
def State.setTrState (s : State) (v : Nat) : State := s.wf rTR_STATUS fTR_STATUS_STATE v

/-- Append a record, overwriting the oldest when the buffer is full. -/
def State.bufAppend (s : State) (r : Nat) : State :=
  s.modTrace (fun t =>
    { t with
      recs := (if traceCap ≤ t.recs.length then t.recs.drop 1 else t.recs) ++ [r]
      total := t.total + 1
      bad := if traceCap ≤ t.recs.length then t.bad - 1 else t.bad })

/-- One record reaches the buffer (R429, R430, Table 20.4). -/
def State.bufRecord (s : State) (r : Nat) : State :=
  let st := s.trState
  if st = trIDLE then s
  else if st = trFROZEN ∨ (st = trPOST ∧ s.trace.post = 0) then s.bump rTR_DROP_CNT fTR_DROP_CNT_BUF_DROP 1
  else if st = trPOST then
    let s1 := s.bufAppend r
    s1.modTrace (fun t => { t with post := t.post - 1 })
  else if s.trMode = 0 then s.bufAppend r
  else if s.trMode = 1 then
    let s1 := s.bufAppend r
    if s1.trace.total % traceCap = 0 then s1.bump rTR_STATUS fTR_STATUS_WRAPS 1 else s1
  else if traceCap ≤ s.trace.recs.length then
    (s.bump rTR_DROP_CNT fTR_DROP_CNT_BUF_DROP 1).modTrace (fun t => { t with bufGap := t.bufGap + 1 })
  else s.bufAppend r

/-- DTIME bits 63:40 have changed: a TIME record says so (Table 20.2). -/
def State.timeRecord (s : State) : State :=
  let now := s.dtime
  if s.trace.timeHi != now / 2 ^ 40 then (s.modTrace (fun t => { t with timeHi := now / 2 ^ 40 })).bufRecord (recTime now) else s

/-- A record with the TIME records Table 20.2 asks for, and in STOP and STREAM the GAP that
stands for the records dropped while the buffer was full. -/
def State.bufWrite (s : State) (r : Nat) : State :=
  let now := s.dtime
  let gap := s.trace.bufGap
  let s1 :=
    if 2 ≤ s.trMode ∧ 0 < gap ∧ s.trace.recs.length < traceCap ∧ s.trState = trARMED then
      ((s.modTrace (fun t => { t with bufGap := 0 })).bufRecord (recGap 0xFF gap 1 0 now)).bufRecord (recTime now)
    else s
  let s3 := s1.timeRecord.bufRecord r
  if bits r 11 8 = evGAP then s3.bufRecord (recTime now) else s3

/-- Trigger sources by their bit of TR_TRIG_CFG.EN (Table 20.7). -/
def trigSoft : Nat := 1
def trigMatch : Nat := 2
def trigAbort : Nat := 4
def trigIsland : Nat := 8
def trigDie : Nat := 16
def trigThermal : Nat := 32
def trigSeal : Nat := 64

/-- A TRIGGER record carries further sources. -/
def addSources (on r : Nat) : Nat := setBits r 31 16 (Nat.lor on (bits r 31 16))

/-- The trigger of this cycle: its record goes to the buffer as the first of POST_SHARE × 65,536 post-trigger records, or
freezes it (R430). [DEDUCED, log entry 91] -/
def State.takeTrigger (s : State) (on : Nat) : State :=
  let s0 := s.timeRecord
  let place := s0.trace.total
  let n := s.rf rTR_CFG fTR_CFG_POST_SHARE * 65536
  let s1 := (s0.bufAppend (recTrigger on s.dtime)).wf rTR_STATUS fTR_STATUS_TRIG_IDX (place % traceCap)
  (s1.modTrace (fun t => { t with post := n - 1, trig := some (s.fabCycle, place) })).setTrState (if n = 0 then trFROZEN else trPOST)

/-- A source fires beside others of its cycle: the TRIGGER record carries it too, while the buffer holds it. -/
def State.joinTrigger (s : State) (place on : Nat) : State :=
  s.modTrace (fun t =>
    if t.total - place ≤ t.recs.length then { t with recs := modAt t.recs (t.recs.length - (t.total - place)) (addSources on) } else t)

/-- Trigger sources fire (R430): `src` is their mask. Those of one cycle share a record. [DEDUCED, log entry 91] -/
def State.fireTrigger (s : State) (src : Nat) : State :=
  let on := Nat.land src (s.rf rTR_TRIG_CFG fTR_TRIG_CFG_EN)
  let lost := s.bump rTR_DROP_CNT2 fTR_DROP_CNT2_TRIG_LOST 1
  if on = 0 then s
  else if s.trMode ≠ 0 then lost
  else if s.trState = trARMED then s.takeTrigger on
  else if s.trState = trIDLE then s
  else
    match s.trace.trig with
    | some (cyc, place) => if cyc = s.fabCycle then s.joinTrigger place on else lost
    | none => lost

/-! ## Sources -/

/-- The group bit of TR_CFG.GROUPS an engine belongs to (Table 20.6). -/
def traceGroup (e : Nat) : Nat :=
  if e < 128 then 0 else if e < 144 then 1 else if e < 176 then 2 else if e < 184 then 3
  else if e < 200 then 4 else if e < 204 then 5 else if e < 210 then 6 else 7

def Trace.src (t : Trace) (e : Nat) : TraceSrc := (mapGet t.srcs e).getD {}
def State.modSrc (s : State) (e : Nat) (f : TraceSrc → TraceSrc) : State :=
  s.modTrace (fun t => { t with srcs := mapPut t.srcs e (f (t.src e)) })

/-- Records enter a source's FIFO together, or are dropped together (R428). -/
def State.traceEnter (s : State) (e : Nat) (rs : List Nat) : State :=
  let f := s.trace.src e
  if f.dropped = 0 ∧ f.fifo.length + rs.length ≤ 16 then
    s.modSrc e (fun x => { x with fifo := x.fifo ++ rs })
  else
    (s.modSrc e (fun x => { x with dropped := x.dropped + rs.length })).bump
      rTR_DROP_CNT fTR_DROP_CNT_SRC_DROP rs.length

/-- What a record says of its command (Table 20.3). -/
structure TraceCmd where
  ctx     : Nat
  descId  : Nat
  aux     : Nat
  status  : Nat := 0
  attempt : Nat := 0
  deriving DecidableEq, Repr

/-- The stamp of a unit's records: its die's DTIME copy (R19, R425). -/
def State.stampOf (s : State) (e : Nat) : Nat :=
  if e < 176 then s.dieTime (dieOfEngine e) else s.dtime

/-- Records not removed by TR_CFG.GROUPS and TR_FILTER (R428). -/
def State.tracePass (s : State) (e ctx : Nat) : Bool :=
  Nat.testBit (s.rf rTR_CFG fTR_CFG_GROUPS) (traceGroup e)
  && Nat.testBit (s.rf rTR_FILTER fTR_FILTER_CTX_MASK) ctx

/-- A gated unit's clock runs again (R376). -/
def State.ungate (s : State) (e : Nat) : State := s.modPw (fun p => { p with gated := setDel p.gated e })

/-- The live counters of R434 at a BEGIN or LEAP_IN: CSEQ counts, the counters restart; a gated unit
is ungated (R376). -/
def State.liveBegin (s : State) (e : Nat) (c : TraceCmd) : State :=
  if 204 ≤ e then s
  else
    let q := s.rf (rTR_ENG_CMD e) fTR_ENG_CMD_CSEQ + 1
    let s1 := (s.ungate e).modSrc e (fun x =>
      { x with bytes := 0, began := some s.fabCycle, old := (List.range 4).map (fun k => s.reg (rTR_ENG_CMD e + 8 * k)) })
    let s2 := (((s1.wf (rTR_ENG_CMD e) fTR_ENG_CMD_CSEQ q).wf (rTR_ENG_CMD e) fTR_ENG_CMD_CTX c.ctx).wf
      (rTR_ENG_CMD e) fTR_ENG_CMD_DESC_ID c.descId).wf (rTR_ENG_CMD e) fTR_ENG_CMD_RUNNING 1
    let s3 := (s2.wf (rTR_ENG_ACT e) fTR_ENG_ACT_CSEQ q).wf (rTR_ENG_ACT e) fTR_ENG_ACT_ACT_CYC 0
    let s4 := (s3.wf (rTR_ENG_BYTES e) fTR_ENG_BYTES_CSEQ q).wf (rTR_ENG_BYTES e) fTR_ENG_BYTES_BYTES 0
    (s4.wf (rTR_ENG_HOLD e) fTR_ENG_HOLD_CSEQ q).wf (rTR_ENG_HOLD e) fTR_ENG_HOLD_HOLD_K 0

/-- The manual says which bytes a unit's command moves: a tile's, a DMA engine's, a camera's and a MAC's. -/
def bytesStated (e : Nat) : Bool := decide (e < 128) || decide (144 ≤ e ∧ e < 176) || decide (184 ≤ e)

/-- BYTES of a unit's command at its end: counted, or a free value for a set engine and a path checker.
[DESIGN CHOICE, log entry 8] -/
def State.finalBytes (s : State) (e : Nat) : Nat := if bytesStated e then (s.trace.src e).bytes else Config.moveBytes e s.free

/-- A TR_ENGe word with EDGE set. -/
def edgeWord (k : Nat) (w : Word) : Word := if k = 0 then fTR_ENG_CMD_EDGE.set w 1 else fTR_ENG_ACT_EDGE.set w 1

/-- Word `k` of TR_ENGe as it reads (R434): the value before the reset in the cycle of a BEGIN or LEAP_IN, and while a
command runs the counters as they stand. [DESIGN CHOICE, log entry 8] -/
def State.engWord (s : State) (e k : Nat) : Word :=
  let w := s.reg (rTR_ENG_CMD e + 8 * k)
  let x := s.trace.src e
  if x.began = some s.fabCycle then edgeWord k (x.old.getD k 0)
  else if s.flag (rTR_ENG_CMD e) fTR_ENG_CMD_RUNNING then
    (match k with
     | 1 => fTR_ENG_ACT_ACT_CYC.set w (Config.actLive e s.fabCycle)
     | 2 => if bytesStated e then w else fTR_ENG_BYTES_BYTES.set w (Config.actLive (e + 256) s.fabCycle)
     | 3 => fTR_ENG_HOLD_HOLD_K.set w (min 0xFFFF (Config.holdLive e s.fabCycle))
     | _ => w)
  else w

/-- The live counters at an END, LEAP_OUT or ABORT: their final values. [DESIGN CHOICE, log entry 8] -/
def State.liveEnd (s : State) (e : Nat) : State :=
  if 204 ≤ e then s
  else
    let s0 := s.modSrc e (fun x => { x with began := none })
    let s1 := (s0.wf (rTR_ENG_CMD e) fTR_ENG_CMD_RUNNING 0).wf (rTR_ENG_ACT e) fTR_ENG_ACT_ACT_CYC (Config.actCyc e s.free)
    ((s1.wf (rTR_ENG_BYTES e) fTR_ENG_BYTES_BYTES (s.finalBytes e)).wf (rTR_ENG_HOLD e) fTR_ENG_HOLD_HOLD_K
      (min 0xFFFF (Config.holdK e s.free))).tick

/-- A unit moved bytes for its present command (R434). -/
def State.moved (s : State) (e n : Nat) : State :=
  (s.modSrc e (fun x => { x with bytes := x.bytes + n })).wf (rTR_ENG_BYTES e) fTR_ENG_BYTES_BYTES
    ((s.trace.src e).bytes + n)

/-- An event of a unit: the live counters of R434, the record of Table 20.1, and the SNAP
directly after an END, LEAP_OUT or ABORT of a unit with live counters. Tracing changes no
engine's work (R424). -/
def State.traceEvent (s : State) (e ev : Nat) (c : TraceCmd) : State :=
  let closing := decide (ev = evEND ∨ ev = evLEAP_OUT ∨ ev = evABORT)
  let s1 := if ev = evBEGIN ∨ ev = evLEAP_IN then s.liveBegin e c else if closing then s.liveEnd e else s
  if s1.tracePass e c.ctx then
    let r := recCommand e c.attempt ev c.ctx
      (if ev = evEND ∨ ev = evABORT then c.status else 0) c.descId c.aux (s1.stampOf e)
    let snap :=
      if closing ∧ e < 204 then
        [recSnap e (s1.rf (rTR_ENG_ACT e) fTR_ENG_ACT_ACT_CYC) (s1.rf (rTR_ENG_BYTES e) fTR_ENG_BYTES_BYTES)
          (s1.rf (rTR_ENG_HOLD e) fTR_ENG_HOLD_HOLD_K)]
      else []
    s1.traceEnter e (r :: snap)
  else s1

/-- The sources of one die lose what their FIFOs hold, and a GAP of their own that was still to come (R428): HUB writes one
GAP with REASON 3 and counts the records in LOST. [DEDUCED, log entry 96] -/
def State.traceDieLost (s : State) (d : Nat) : State :=
  let mine := fun (e : Nat) => decide (e < 176) && decide (dieOfEngine e = d)
  let n := ((s.trace.srcs.filter (fun p => mine p.1)).map (fun p => p.2.fifo.length)).sum
  let s1 := s.modTrace (fun t =>
    { t with srcs := t.srcs.map (fun p => if mine p.1 then (p.1, { p.2 with fifo := [], dropped := 0 }) else p) })
  (s1.bump rTR_DROP_CNT2 fTR_DROP_CNT2_LOST n).bufWrite (recGap 0xFF n 3 d s.dtime)

end Sys2Proof.Machine
end

