-- ==== Sys2Proof/Machine/CtxOps.lean ====
section
/-!
DEFINITION. Descriptors, their starts and ends, kernels and jobs as shared operations
(R159–R171, R180, R189–R199).
-/
namespace Sys2Proof.Machine

/-! ## Descriptor fields (Table 7.10) -/

def Desc.op (d : Desc) : Nat := bits d.raw 7 0
def Desc.release (d : Desc) : Bool := Nat.testBit d.raw 15
def Desc.acquire (d : Desc) : Bool := Nat.testBit d.raw 14
def Desc.irq (d : Desc) : Bool := Nat.testBit d.raw 13
def Desc.dep0 (d : Desc) : Nat := bytesOf d.raw 2 1
def Desc.dep1 (d : Desc) : Nat := bytesOf d.raw 3 1
def Desc.id (d : Desc) : Nat := bytesOf d.raw 4 4
def Desc.user (d : Desc) : Nat := bytesOf d.raw 8 8
/-- Bytes `i … i + n - 1` of a descriptor. -/
def Desc.at (d : Desc) (i n : Nat) : Nat := bytesOf d.raw i n

/-! ## The window -/

def State.desc (s : State) (c n : Nat) : Option Desc := (s.ctx c).window.find? (fun d => d.num == n)

def State.modDesc (s : State) (c n : Nat) (f : Desc → Desc) : State :=
  s.modCtx c (fun x => { x with window := x.window.map (fun d => if d.num = n then f d else d) })

/-- INFLIGHT follows the window (Table 7.5). -/
def State.setInflight (s : State) (c : Nat) : State :=
  s.wf (rHUB_CTX_STATUS c) fHUB_CTX_STATUS_INFLIGHT (s.ctx c).window.length

def State.modJob (s : State) (c : Nat) (f : Job → Job) : State :=
  s.modCtx c (fun x => { x with job := x.job.map f })

/-- Change the job that began with descriptor `b`, open or still to begin. -/
def State.modJobOf (s : State) (c b : Nat) (f : Job → Job) : State :=
  let g := fun (j : Job) => if j.beginNum = b then f j else j
  s.modCtx c (fun x => { x with job := x.job.map g, later := x.later.map g })

/-- A descriptor belongs to the context's open job. -/
def Ctx.mine (x : Ctx) (d : Desc) : Bool :=
  match x.job, d.inJob with
  | some j, some b => j.beginNum == b
  | _, _ => false

def State.inOpenJob (s : State) (c : Nat) (d : Desc) : Bool := (s.ctx c).mine d

/-- Job tag of a context, 0 when none (R168). -/
def State.jobTag (s : State) (c : Nat) : Nat :=
  match (s.ctx c).job with
  | some j => j.tag
  | none => 0

/-- Tag of the open job a descriptor belongs to, or 0. -/
def State.jobTagOf (s : State) (c : Nat) (d : Desc) : Nat :=
  match (s.ctx c).job with
  | some j => if s.inOpenJob c d then j.tag else 0
  | none => 0

/-- Statuses that abort a job (Table 8.2); STATE_REFUSED and LENGTH_LIMIT do not. -/
def aborts (st : Nat) : Bool :=
  st != stOK && st != stSTATE_REFUSED && st != stLENGTH_LIMIT && st != stJOB_ABORTED

/-- A cause that allows a restart (Table 8.2). -/
def restartable (st : Nat) : Bool := st == stDATA_POISON || st == stDIE_ABSENT || st == stLINK_DOWN

/-- The engine a DETAIL names (R166). -/
def detailEngine (detail : Nat) : Nat := detail / 2 ^ 56 % 256

/-- A descriptor of a job with an aborting status is a cause (R191). A descriptor whose
bytes a poisoned fetch lost is not restartable. -/
def causeOf (d : Desc) (st detail : Nat) : Cause :=
  { status := st, engine := detailEngine detail, restart := restartable st && !d.poison
    selfCheck := false, deadline := false, num := some d.num }

def noEngine : Nat := 0xFF

def dispatcherOp (op : Nat) : Bool := decide (6 ≤ op ∧ op ≤ 12)

/-- The trace fields of a dispatcher command (Table 20.3). -/
def dispatcherCmd (c : Nat) (d : Desc) (st : Nat) : TraceCmd :=
  { ctx := c, descId := d.id, aux := d.op, status := st, attempt := d.attempt }

/-- A descriptor ends with a status; its record is still to be written (R160). Inside a
job an aborting status is a cause of R191. -/
def State.finish (s : State) (c n st detail : Nat) : State :=
  match s.desc c n with
  | none => s
  | some d =>
    let s1 := s.modDesc c n (fun d => { d with phase := .finished, status := st, detail := detail })
    let s2 :=
      match d.inJob with
      | some b => if aborts st then s1.modJobOf c b (fun j => { j with causes := j.causes ++ [causeOf d st detail] }) else s1
      | none => s1
    if dispatcherOp d.op && !d.poison then s2.traceEvent 0xFF evEND (dispatcherCmd c d st) else s2

/-- A descriptor whose engine access failed. -/
def State.finishErr (s : State) (c n engine : Nat) (e : AccErr) : State :=
  s.finish c n e.status (e.detail engine)

/-! ## Starting (R170) -/

def State.isComplete (s : State) (c n : Nat) : Bool := (s.ctx c).past.any (fun p => p.1 == n)
def State.pastStatus (s : State) (c n : Nat) : Option Nat :=
  ((s.ctx c).past.find? (fun p => p.1 == n)).map (·.2)

/-- Numbers a descriptor's DEP fields name (R164). -/
def Desc.deps (d : Desc) : List Nat :=
  (if d.dep0 = 0 then [] else [d.num - d.dep0]) ++ (if d.dep1 = 0 then [] else [d.num - d.dep1])

def Desc.isJobEdge (d : Desc) : Bool := d.op == 6 || d.op == 7

/-- Descriptors fetched before that stand outside the window: those a restart or an ended job
has still to bring back. -/
def Ctx.outside (x : Ctx) : List Replay :=
  x.rest.map (·.2.2) ++ (match x.job with
    | some j => j.replay.drop j.pos
    | none => [])

/-- All conditions of R170 hold and the job, if any, is not aborting. -/
def State.startable (s : State) (c : Nat) (d : Desc) : Bool :=
  let w := (s.ctx c).window
  decide (d.phase = .waiting) && !d.poison
  && d.deps.all (fun n => s.isComplete c n)
  && !(w.any (fun x => x.op == 8 && !x.poison && decide (x.num < d.num)))
  && !((s.ctx c).outside.any (fun x => x.raw % 256 == 8 && !x.poison && decide (x.num < d.num)))
  && (if d.op == 8 || d.op == 6 then
        !(w.any (fun x => decide (x.num < d.num))) && !((s.ctx c).outside.any (fun x => decide (x.num < d.num)))
      else true)
  && (if d.op == 7 && d.inJob.isSome then !(w.any (fun x => x.inJob == d.inJob && decide (x.num < d.num))) else true)
  && (match d.inJob, (s.ctx c).job with
      | some b, some j => j.beginNum == b && j.begun && j.causes.isEmpty && j.abort.isNone
      | some _, none => false
      | none, _ => true)

/-- A DEP names a descriptor that completed with a status other than OK (R170). -/
def State.depFailed (s : State) (c : Nat) (d : Desc) : Bool :=
  d.deps.any (fun n => (s.pastStatus c n).getD stOK != stOK)

/-- Already performed in an earlier attempt (R193). -/
def State.doneOnce (s : State) (c : Nat) (d : Desc) : Bool :=
  match (s.ctx c).job with
  | some j => s.inOpenJob c d && j.replay.any (fun r => r.num == d.num && r.once)
  | none => false

/-- CLASS_EN = 1 with a CLASS above MAX_CLASS (R158). -/
def State.classRefused (s : State) (c : Nat) (d : Desc) : Bool :=
  bits d.raw 12 12 == 1 && decide (s.rf (rHUB_CTX_CFG c) fHUB_CTX_CFG_MAX_CLASS < bits d.raw 11 8)

/-- Start descriptor `n` of context `c` when its opcode is the command's own and every
condition of R170 holds; `k` is its effect once started. The event does not come about
otherwise. -/
def State.startDesc (s : State) (c n : Nat) (mine : Desc → Bool) (k : State → Desc → State) : State :=
  match s.desc c n with
  | none => s
  | some d =>
    if !mine d || !s.startable c d then s
    else if s.depFailed c d || s.classRefused c d then s.finish c n stSTATE_REFUSED (noEngine * 2 ^ 56)
    else if s.doneOnce c d then s.finish c n stOK (noEngine * 2 ^ 56)
    else
      let att := match (s.ctx c).job with
        | some j => if s.inOpenJob c d then j.attempt else 0
        | none => 0
      let d' := { d with phase := .started, start := s.dtime, order := s.hub.startNo, attempt := att }
      let s1 := (s.modDesc c n (fun _ => d')).modHub (fun h => { h with startNo := h.startNo + 1 })
      let s2 := if dispatcherOp d.op then s1.traceEvent 0xFF evBEGIN (dispatcherCmd c d' 0) else s1
      k s2 d'

/-- Engine units a job's descriptors have used (R362). -/
def State.noteUsed (s : State) (c e : Nat) (d : Desc) : State :=
  if s.inOpenJob c d then s.modJob c (fun j => { j with used := setIns j.used e }) else s

/-! ## Waits (R196) -/

/-- Histogram bin of a wait. -/
def waitBin (w : Nat) : Nat := if w < 256 then 0 else min 15 (Nat.log2 (w / 256) + 1)

/-- The wait of a descriptor ends: its first slice is granted or its first engine accepts it. -/
def State.waitEnd (s : State) (c : Nat) (d : Desc) (now : Nat) : State :=
  if d.waited then s
  else
    let w := now - d.start
    let s1 := s.wrapAdd (rHUB_CTX_WAIT_SUM c) fHUB_CTX_WAIT_SUM_WAIT_SUM_NS w
    let s2 := s1.bump (rHUB_CTX_WAIT_MAX c) fHUB_CTX_WAIT_MAX_WAIT_CNT 1
    let s3 := s2.wf (rHUB_CTX_WAIT_MAX c) fHUB_CTX_WAIT_MAX_WAIT_MAX_NS
      (max (s2.rf (rHUB_CTX_WAIT_MAX c) fHUB_CTX_WAIT_MAX_WAIT_MAX_NS) (min w 0xFFFFFFFF))
    let s4 := s3.wrapAdd (rHUB_CTX_HIST c (waitBin w)) fHUB_CTX_HIST_HIST 1
    s4.modDesc c d.num (fun d => { d with waited := true })

/-! ## Kernels (R180) -/

def State.kernel (s : State) (c n : Nat) : Option Kernel :=
  s.hub.kernels.find? (fun k => k.ctx == c && k.num == n)

def State.modKernel (s : State) (c n : Nat) (f : Kernel → Kernel) : State :=
  s.modHub (fun h => { h with kernels := h.kernels.map (fun k => if k.ctx = c ∧ k.num = n then f k else k) })

def State.dropKernel (s : State) (c n : Nat) : State :=
  s.modHub (fun h => { h with kernels := h.kernels.filter (fun k => !(k.ctx == c && k.num == n)) })

/-- A tile on which a slice resides. -/
def slicePresent (st : Nat) : Bool := st == tsLOADING || st == tsRUN || st == tsLEAP_SAVE || st == tsLEAP_RESTORE

def State.tileCtx (s : State) (t : Nat) : Nat := s.rf (rTILE_STATUS t) fTILE_STATUS_CTX
def State.tileSlice (s : State) (t : Nat) : Nat := s.rf (rTILE_STATUS t) fTILE_STATUS_SLICE

/-- Tile `t` holds a slice of kernel `n` of context `c`. -/
def State.onKernel (s : State) (c n t : Nat) : Bool :=
  slicePresent (s.tileState t) && s.tileCtx t == c && (s.tile t).knum == n

/-- Tiles that hold a slice of a kernel, in ascending order. -/
def State.kernelTiles (s : State) (c n : Nat) : List Nat := (List.range 128).filter (fun t => s.onKernel c n t)

def State.descId (s : State) (c n : Nat) : Nat := ((s.desc c n).map Desc.id).getD 0

/-- The trace fields of a slice's residence (Table 20.3). -/
def State.sliceCmd (s : State) (t st : Nat) : TraceCmd :=
  { ctx := s.tileCtx t, descId := s.descId (s.tileCtx t) (s.tile t).knum, aux := s.tileSlice t
    status := st, attempt := (s.tile t).attempt }

/-- A tile stops: entries in flight are cancelled and it enters FAULT (R64). -/
def State.stopTile (s : State) (t st : Nat) : State :=
  let s1 := s.traceEvent t evABORT (s.sliceCmd t st)
  (s1.modTile t (fun x => { x with flight := [], req := none, sampled := none, resuming := false })).setTileState t tsFAULT

/-- Lost time of a pre-empted slice of a kernel up to now (R197). -/
def State.lostOf (s : State) (c n : Nat) : Nat :=
  ((s.hub.lost.filter (fun l => l.ctx == c && l.num == n)).map (fun l => s.dtime - l.since)).sum

/-- A kernel ends: its account goes, every tile that holds a slice of it stops, and the
slices saved at leap points are dropped with their lost time (R180, R192, R197). -/
def State.stopKernel (s : State) (c n st : Nat) : State :=
  let s1 := (s.kernelTiles c n).foldl (fun x t => x.stopTile t st) s
  let s2 := s1.wrapAdd (rHUB_CTX_LOST_SUM c) fHUB_CTX_LOST_SUM_LOST_SUM_NS (s1.lostOf c n)
  (s2.dropKernel c n).modHub (fun h => { h with lost := h.lost.filter (fun l => !(l.ctx == c && l.num == n)) })

/-- A slice's fault ends its KERNEL at once with that status (R64, R180): the report names
the tile as the engine, or the engine of the lost die that R293 chooses. -/
def State.tileFault (s : State) (t st addr : Nat) : State :=
  let c := s.tileCtx t
  let n := (s.tile t).knum
  let far := ((s.lineErr (addr / 64)).map (·.engine)).getD noEngine
  let e : AccErr := { status := st, addr := addr, engine := if far = noEngine then t else far }
  (s.finish c n st (e.detail t)).stopKernel c n st

/-! ## Jobs (R191, R192, R468) -/

/-- The decisive cause among those that met in one cycle: a non-restartable one first, then
the lowest engine ID, with no engine (0xFF) last. [DEDUCED, log entry 34] -/
def decisive : List Cause → Option Cause
  | [] => none
  | c :: r =>
    match decisive r with
    | none => some c
    | some d =>
      if c.restart != d.restart then some (if c.restart then d else c)
      else some (if c.engine ≤ d.engine then c else d)

/-- Every descriptor of the job that has started on engines is stopped (R192 step 3). -/
def State.stopJobWork (s : State) (c : Nat) : State :=
  ((s.ctx c).window.filter (fun d => s.inOpenJob c d)).foldl (fun x d => x.stopKernel c d.num stJOB_ABORTED) s

/-- DMA engines let go of the descriptors of a context's job. -/
def State.freeDmas (s : State) (c : Nat) (nums : List Nat) : State :=
  s.modHub (fun h =>
    { h with dmas := h.dmas.map (fun m =>
        { cur := (match m.cur with
            | some (c', n) => if c' = c ∧ nums.contains n then none else some (c', n)
            | none => none)
          yielded := m.yielded.filter (fun p => !(p.1 == c && nums.contains p.2)) }) })

end Sys2Proof.Machine
end

