-- ==== Sys2Proof/Machine/Ports.lean ====
section
/-!
DEFINITION. Access ports: which port reaches which register, how a refused access ends, and
the staged half of each port (R3, R4, R9, R16, R152, R293, R311, R378, R432, R436).
-/
namespace Sys2Proof.Machine

/-- How a refused access ends at its requester (R3, R9, R10, R293). -/
def portFail : Port → Answer
  | .hart _ => .accessFault
  | .user _ => .accessFault
  | .pcie => .completerAbort
  | .debug => .busError
  | .peer _ => .status stREGION_FAULT
  | .island _ => .accessFault

/-- The master port of Table 12.1 an access enters through. [DEDUCED, log entry 14] -/
def masterPort : Port → Nat
  | .hart h => 56 + h / 4
  | .user h => 56 + h / 4
  | .pcie => 64
  | .debug => 56
  | .peer _ => 64
  | .island i => 62 + i

/-- Record how an access ended. -/
def State.answered (s : State) (p : Port) (a : Answer) : State :=
  s.modBus (fun b => { b with port := p, answer := a })

/-- A port's staged half goes when the port turns to another register (R4). -/
def State.dropStaged (s : State) (p : Port) (a : Addr) : State :=
  s.modBus (fun b => { b with staged := b.staged.filter (fun x => !(decide (x.port = masterPort p) && x.addr != a)) })

/-! ## Who may reach what -/

/-- Present debug level (R436). -/
def State.dbgLevel (s : State) : Nat := s.rf rTR_AUTH_STAT fTR_AUTH_STAT_LEVEL

/-- The register at an address holds global counters (R432). [DEDUCED, log entry 13] -/
def globalCounter (a : Addr) : Bool :=
  match regAt a with
  | some (r, _, _) => globalBases.contains r.base
  | none => false

/-- Requesters that Table 20.5 serves. [DEDUCED, log entry 13] -/
def State.counterServed (s : State) : Port → Bool
  | .hart _ => true
  | .user h =>
    decide (h < 16) && s.flag (rTR_HART_CTX h) fTR_HART_CTX_EN
    && s.flag (rHUB_CTX_CFG (s.rf (rTR_HART_CTX h) fTR_HART_CTX_CTX)) fHUB_CTX_CFG_GCNT
  | .pcie => s.flag rTR_CFG fTR_CFG_PCIE_GCNT
  | .debug => decide (1 ≤ s.dbgLevel)
  | .peer _ => false
  | .island _ => false

/-- What debug access reaches in the set-up range: the TR_AUTH registers always, the TR_ window and the
global counters from level 1, everything from level 2 (R436). [DEDUCED, log entry 94] -/
def State.debugReach (s : State) (a : Addr) : Bool :=
  decide (2 ≤ s.dbgLevel) || (decide (1 ≤ s.dbgLevel) && (globalCounter a || a / 0x10000 == 0x140138))
  || decide (rTR_AUTH_CMD ≤ a ∧ a < rTR_AUTH_SIG 12)

/-- An inbound entry applies to a port's requests (R311). -/
def State.inboundFor (s : State) (p : Port) (r : Nat) : Bool :=
  match p with
  | .peer d => Nat.testBit (s.rf (rCH_INRGN_LIM r) fCH_INRGN_LIM_SRC_MASK) d
  | .pcie => s.flag (rCH_INRGN_LIM r) fCH_INRGN_LIM_PCIE
  | _ => false

/-- The lowest-numbered inbound entry that applies and covers a line (R311, R157). -/
def State.inboundEntry (s : State) (p : Port) (line : Nat) : Option Nat :=
  (List.range 64).find? (fun r =>
    s.inboundFor p r && covers (s.reg (rCH_INRGN_BASE r)) (s.reg (rCH_INRGN_LIM r))
      fCH_INRGN_BASE_VALID fCH_INRGN_BASE_BASE fCH_INRGN_LIM_LIMIT line)

/-- A line passes the inbound regions (R311, R157). -/
def State.inboundOk (s : State) (p : Port) (w : Want) (line : Nat) : Bool :=
  match s.inboundEntry p line with
  | some r =>
    let b := s.reg (rCH_INRGN_BASE r)
    (!w.reads || fCH_INRGN_BASE_RD.get b == 1) && (!w.writes || fCH_INRGN_BASE_WR.get b == 1)
  | none => false

/-- The PCIe host reaches the part only where port 0 is an endpoint (R152, R306). -/
def State.pcieEndpoint (s : State) : Bool := s.rf (rDL_CFG 0) fDL_CFG_MODE == 3

/-- Why an access of a port to a set-up or doorbell address is refused, with the counter it counts in;
`none` when it is performed (R152: cores, the PCIe host in endpoint mode, and debug access). A part in
RETAIN, in BRUMATION or OFF answers nobody (Table 17.1); an address no window of Table 7.1 covers is
unlisted (R151). -/
def State.portRefusal (s : State) (p : Port) (w : Want) (a : Addr) : Option (Answer × Option (Addr × Fld)) :=
  let denied := (portFail p, if globalCounter a then some (rTR_DENY_CNT, fTR_DENY_CNT_DENY_CNT) else none)
  let reach : Option (Answer × Option (Addr × Fld)) :=
    match p with
    | .hart _ => none
    | .user _ => none
    | .pcie =>
      if !s.pcieEndpoint then some (portFail p, none)
      else if s.inboundOk p w (a / 64) then none
      else some (.unsupportedRequest, some (rCH_ACC_CNT, fCH_ACC_CNT_INRGN_CNT))
    | .debug => if s.debugReach a then none else some denied
    | .peer _ => some denied
    | .island _ => some denied
  if !s.hubServes || (blockAt a).isNone then some (portFail p, none)
  else
    match reach with
    | some x => some x
    | none =>
      if (match blockDie a with
        | some d => s.diePresent d && !s.dieRetained d
        | none => true) = false then some (portFail p, none)
      else if globalCounter a && !s.counterServed p then some (portFail p, some (rTR_DENY_CNT, fTR_DENY_CNT_DENY_CNT))
      else none

/-- A refused access is answered, and counted where a rule counts it. -/
def State.refuseAccess (s : State) (p : Port) (x : Answer × Option (Addr × Fld)) : State :=
  let s1 := match x.2 with
    | some (a, f) => s.bump a f 1
    | none => s
  let s2 := match p with
    | .island _ => s1.modBus (fun b => { b with islandRefused := b.islandRefused + 1 })
    | _ => s1
  s2.answered p x.1

/-- An access to a compute-die window, and an inbound request, end IDLE, refused or not (R377). [DEDUCED, log entry 12] -/
def State.wakeFor (s : State) (p : Port) (a : Addr) : State := if (blockDie a).isSome || p == .pcie then s.idleExit else s

/-- A register write by a port: refused, or performed by `k`. -/
def State.access (s : State) (p : Port) (a : Addr) (k : State → State) : State :=
  let s1 := (s.dropStaged p a).wakeFor p a
  match s1.portRefusal p .wr a with
  | some x => s1.refuseAccess p x
  | none => (k s1).answered p .done

/-- What a plain write leaves in one field (Table 0.4). -/
def fieldWrite (old new : Word) (f : FieldDef) (acc : Word) : Word :=
  let g : Fld := { hi := f.hi, lo := f.lo }
  match f.acc with
  | .rw => g.set acc (g.get new)
  | .w1c => g.set acc (Nat.land (g.get old) (2 ^ g.width - 1 - g.get new))
  | .ro => acc
  | .wo => acc

/-- A write by the access types alone (R6): RW fields take the value, W1C bits clear, RO and
reserved fields keep theirs. [DEDUCED, log entry 10] -/
def State.plainWrite (s : State) (a : Addr) (w : Word) : State :=
  match regAt a with
  | some (r, _, _) => s.setReg a (r.fields.foldl (fun acc f => fieldWrite (s.reg a) w f acc) (s.reg a))
  | none => s

end Sys2Proof.Machine
end

