-- ==== Sys2Proof/Machine/PowerOps.lean ====
section
/-!
DEFINITION. Power states as shared operations (R372, R379, R380, R387): refusers, the record of a
refusal, the abort of an entry, and the loss of the main rails.
-/
namespace Sys2Proof.Machine

def State.pmRej (s : State) : State := s.setFlag rPM_STATUS fPM_STATUS_CFG_REJ

/-! ## Refusers (Table 17.4) -/

/-- An island that can veto: powered, not in FAULT, its connection not quarantined (R379). -/
def State.canVeto (s : State) (i : Nat) : Bool :=
  let x := s.isl[i]?.getD {}
  x.power && x.state != 4 && s.diePresent (4 + i)

/-- The veto of an island that counts. -/
def State.vetoes (s : State) (i : Nat) : Bool := s.canVeto i && (s.isl[i]?.getD {}).veto

/-- An island's veto is not counted (PM_REF_INFO.ISL_IGNORED). [DEDUCED, log entry 80] -/
def State.vetoIgnored (s : State) : Bool := !s.canVeto 0 || !s.canVeto 1

/-- ENABLED contexts with a property, lowest first. -/
def State.enabledWith (s : State) (p : Nat → Bool) : Option Nat :=
  (List.range 64).find? (fun c => s.rf (rHUB_CTX_STATUS c) fHUB_CTX_STATUS_STATE == 1 && p c)

/-- A context has work: INFLIGHT above 0 or a job open. -/
def State.ctxBusy (s : State) (c : Nat) : Bool :=
  s.rf (rHUB_CTX_STATUS c) fHUB_CTX_STATUS_INFLIGHT != 0 || s.flag (rHUB_CTX_STATUS c) fHUB_CTX_STATUS_JOB_OPEN

/-- A context's ring holds a descriptor that is not fetched. -/
def State.ringWaits (s : State) (c : Nat) : Bool :=
  s.rf (rDB_SQ_TAIL c) fDB_SQ_TAIL_COUNT != s.rf (rHUB_CTX_PTRS c) fHUB_CTX_PTRS_SQ_HEAD

/-- The lowest unit whose test is due. -/
def State.dueTest (s : State) : Option Nat :=
  (List.range 184).find? (fun e =>
    let u := s.tests[e]?.getD {}
    s.flag rHUB_TEST_CFG fHUB_TEST_CFG_ENABLE && (u.due || u.retest) && (decide (176 ≤ e) || s.diePresent (dieOfEngine e)))

/-- A refuser with its DETAIL where it holds. [DEDUCED, log entry 80] -/
def refuser (id : Nat) : Option Nat → List (Nat × Nat)
  | some d => [(id, d)]
  | none => []

/-- THERMAL: the clamp, or a throttle level of 2 or more. -/
def State.thermalRefuses (s : State) : List (Nat × Nat) :=
  let l := s.rf rTH_STATUS fTH_STATUS_LEVEL
  if s.flag rTH_STATUS fTH_STATUS_CLAMP || decide (2 ≤ l) then [(4, l)] else []

/-- TEST: TEST_VETO with a test due. -/
def State.testRefuses (s : State) : List (Nat × Nat) :=
  if s.flag rHUB_TEST_CFG fHUB_TEST_CFG_TEST_VETO then refuser 5 s.dueTest else []

/-- Domains with a request outstanding, by what the state holds of them: the system cache, the compute dies, the application
cores and the device links (Table 17.5). [DEDUCED, log entry 80] -/
def State.domainBusy (s : State) : Nat → Bool
  | 0 => s.ms.ports.any (fun p => p.head.isSome) || s.ms.slices.any (fun x => !x.merging.isEmpty) || s.ms.mcs.any (fun m => !m.rq.isEmpty)
  | 5 => !s.pcieReads.isEmpty
  | 6 => s.ch.links.any (fun l => !l.queue.isEmpty || !l.held.isEmpty)
  | n => between 1 n 4 && ((s.tiles.drop (32 * (n - 1))).take 32).any (fun t => !t.flight.isEmpty)

/-- The lowest domain with a request outstanding: one the state shows, or `busy`. -/
def State.busyDomain (s : State) (busy : Option Nat) : Option Nat :=
  (List.range 10).find? (fun d => s.domainBusy d || busy == some d)

/-- TRAFFIC: a context, or a domain with a request outstanding. -/
def State.trafficRefuses (s : State) (busy : Option Nat) : List (Nat × Nat) :=
  match s.enabledWith s.ctxBusy with
  | some c => [(1, 128 + c)]
  | none => refuser 1 (s.busyDomain busy)

/-- ISLAND. -/
def State.islandRefuses (s : State) : List (Nat × Nat) :=
  if s.vetoes 0 then [(3, 0)] else if s.vetoes 1 then [(3, 1)] else []

/-- The refusers of a part request that hold, in ascending order. `busy` is a domain of Table 17.5
with a request outstanding. [DEDUCED, log entry 80] -/
def State.refusers (s : State) (busy : Option Nat) : List (Nat × Nat) :=
  s.trafficRefuses busy ++ refuser 2 (s.enabledWith s.ringWaits) ++ s.islandRefuses ++ s.thermalRefuses ++ s.testRefuses
    ++ (if s.flag rSH_CFG fSH_CFG_ENABLE then [(6, 0)] else [])
    ++ (if between 1 (s.rf rCH_STATUS fCH_STATUS_STATE) 2 then [(7, 0)] else [])

/-! ## Accounting (R387) -/

/-- A refusal (1), an abort (2) or a forced OFF (3) of a target, with the refusers that held. [DEDUCED, log entry 80] -/
def State.powerEvent (s : State) (kind target : Nat) (held : List (Nat × Nat)) : State :=
  let s1 :=
    if kind = 3 then s.bump rPM_FORCE_CNT fPM_FORCE_CNT_FORCED 1
    else held.foldl (fun x h =>
      x.bump (rPM_REF_CNT (h.1 - 1)) (if kind = 2 then fPM_REF_CNT_ABORTED else fPM_REF_CNT_REFUSED) 1) s
  let low := held.head?.getD (0, 0)
  let mask := (held.map (fun h => 2 ^ h.1)).sum
  let w := mask * 2 ^ 38 + low.2 * 2 ^ 30 + low.1 * 2 ^ 26 + bit s.vetoIgnored * 2 ^ 25 + target * 2 ^ 20 + kind
  (s1.setReg rPM_REF_LAST (BitVec.ofNat 64 s.dtime)).setReg rPM_REF_INFO (BitVec.ofNat 64 w)

/-! ## An entry ends early (R380) -/

/-- Harts run again. -/
def State.unpark (s : State) : State := s.modHarts (List.map (fun h => { h with parked := false }))

/-- The part is back in RUN, and no transition runs; what a self-test of an entry found is not kept past it. -/
def State.backToRun (s : State) : State :=
  (((s.setPowerState 0).clrFlag rPM_STATUS fPM_STATUS_BUSY).modPw (fun p =>
    { p with target := 0, phase := 0, forced := false, held := 0, fails := [], hbmBad := [] })).unpark

/-- The refusers that held abort the entry. -/
def State.abortEntry (s : State) (held : List (Nat × Nat)) : State := (s.powerEvent 2 s.pw.target held).backToRun

/-- An entry before its commit point. -/
def State.entering (s : State) : Bool := between 1 s.pw.phase 3

/-- Refusers that may abort the entry under way. -/
def State.entryRefusers (s : State) : List (Nat × Nat) :=
  (s.refusers none).filter (fun h => !s.pw.forced || h.1 == 3)

/-- A step of the entry: a refuser that has arisen aborts it. [DEDUCED, log entry 80] -/
def State.entryStep (s : State) (k : State → State) : State :=
  if s.entryRefusers = [] then k s else s.abortEntry s.entryRefusers

/-- What may have made a refuser arise has happened: before the commit point the refusers that hold now abort the entry
(R380). [DEDUCED, log entry 80] -/
def State.entryCheck (s : State) : State := if s.entering then s.entryStep id else s

/-- A doorbell that leaves work in a ring aborts an entry, or is held from the commit point on. -/
def State.doorbellPower (s : State) (c : Nat) : State :=
  if s.rf (rHUB_CTX_STATUS c) fHUB_CTX_STATUS_STATE = 1 ∧ s.ringWaits c then
    if s.entering then s.entryCheck
    else if s.pw.phase = 4 then s.modPw (fun p => { p with held := Nat.lor p.held 16 })
    else s
  else s

/-! ## Clock levels (R374, R375) -/

/-- The effective level asked for: the slower of the firmware's and the thermal limit. -/
def State.wantLevel (s : State) (hart : Bool) : Nat :=
  if hart then max (s.rf rPM_CLK fPM_CLK_HART_MAX) (s.rf rPM_CLK fPM_CLK_HART_TH)
  else max (s.rf rPM_CLK fPM_CLK_TILE_MAX) (s.rf rPM_CLK fPM_CLK_TILE_TH)

/-- The slower level that is being applied. -/
def State.slowTo (s : State) (hart : Bool) : Option Nat := if hart then s.pw.slowHart else s.pw.slowTile

def State.setSlow (s : State) (hart : Bool) (v : Option Nat) : State :=
  s.modPw (fun p => if hart then { p with slowHart := v } else { p with slowTile := v })

/-- A limit has changed: a slower level than the present one is being applied from now on, whatever is asked for before it has
taken effect (R375). -/
def State.slowerAsked (s : State) : State :=
  let ask := fun (x : State) (hart : Bool) =>
    let want := x.wantLevel hart
    if x.rf rPM_STATUS (if hart then fPM_STATUS_HART_LVL else fPM_STATUS_TILE_LVL) < want then
      x.setSlow hart (some (max want ((x.slowTo hart).getD 0)))
    else x
  ask (ask s true) false

/-! ## Loss of the main rails (R372, R373, R396) -/

/-- A register that an island holds: its SI_ window, but for the status HUB keeps. -/
def siHeld (a : Addr) : Bool :=
  (List.range 2).any (fun i => decide (rSI_STATUS i < a) && decide (a < rSI_STATUS i + 0x10000))

/-- Every rail fed from VIN_MAIN is off: nothing is kept but the always-on domain, the fuses, the
flash, the islands and what the part has sent. `cause` is what the next start reports. -/
def State.mainRailsOff (s : State) (cause : Nat) : State :=
  let base : State :=
    { regs := s.regs.filter (fun r => siHeld r.1), time := { isl := s.time.isl }, fuses := s.fuses, sent := s.sent
      peerGib := s.peerGib, isl := s.isl, free := s.free, pending := s.pending, flash := { cells := s.flash.cells }
      aon := { s.aon with off := true, wait := false, pgood := false, cause := cause } }
  if s.flag rTH_STATUS fTH_STATUS_THERM_OFF then base.setFlag rTH_STATUS fTH_STATUS_THERM_OFF else base

end Sys2Proof.Machine
end

