-- ==== Sys2Proof/Machine/CtxReg.lean ====
section
/-!
DEFINITION. Context set-up, doorbells and slot configuration (R153–R162, R175).
-/
namespace Sys2Proof.Machine

/-! ## Doorbells (R161) -/

/-- Difference modulo 2^32. -/
def sub32 (a b : Nat) : Nat := (a + 2 ^ 32 - b % 2 ^ 32) % 2 ^ 32

def State.sqHead (s : State) (c : Nat) : Nat := s.rf (rHUB_CTX_PTRS c) fHUB_CTX_PTRS_SQ_HEAD
def State.cqTail (s : State) (c : Nat) : Nat := s.rf (rHUB_CTX_PTRS c) fHUB_CTX_PTRS_CQ_TAIL
def State.sqTail (s : State) (c : Nat) : Nat := s.rf (rDB_SQ_TAIL c) fDB_SQ_TAIL_COUNT
def State.cqHead (s : State) (c : Nat) : Nat := s.rf (rDB_CQ_HEAD c) fDB_CQ_HEAD_COUNT
def State.sqSize (s : State) (c : Nat) : Nat := 2 ^ s.rf (rHUB_CTX_SQ c) fHUB_CTX_SQ_LOG2
def State.cqSize (s : State) (c : Nat) : Nat := 2 ^ s.rf (rHUB_CTX_CQ c) fHUB_CTX_CQ_LOG2

/-- A doorbell value that R161 ignores. -/
def State.doorbellBad (s : State) (c : Nat) : State :=
  (s.setFlag (rHUB_CTX_STATUS c) fHUB_CTX_STATUS_DB_RANGE).bump (rHUB_CTX_CNT c) fHUB_CTX_CNT_DB_ERR_CNT 1

/-- A doorbell write of `v` (R154, R161); a doorbell ends IDLE (R377), and aborts an entry to a power
state (R380). -/
def State.doorbell (s : State) (c v : Nat) : State :=
  let s1 := s.idleExit
  if sub32 v (s.sqHead c) ≤ s.sqSize c ∧ sub32 v (s.sqTail c) ≤ s.sqSize c then
    (s1.wf (rDB_SQ_TAIL c) fDB_SQ_TAIL_COUNT v).doorbellPower c
  else s1.doorbellBad c

/-- A CQ_HEAD write of `v` (R161). -/
def State.cqHeadWrite (s : State) (c v : Nat) : State :=
  let s1 := s.idleExit
  if sub32 v (s.cqHead c) ≤ sub32 (s.cqTail c) (s.cqHead c) then s1.wf (rDB_CQ_HEAD c) fDB_CQ_HEAD_COUNT v
  else s1.doorbellBad c

/-- DOORBELL_WRITE (R161). -/
def execDoorbellWrite (port : Port) (ctx val : Nat) (s : State) : Res State :=
  .next <| if ctx < 64 then s.access port (rDB_SQ_TAIL ctx) (fun s => s.doorbell ctx (val % 2 ^ 32)) else s

/-- CQ_HEAD_WRITE (R161). -/
def execCqHeadWrite (port : Port) (ctx val : Nat) (s : State) : Res State :=
  .next <| if ctx < 64 then s.access port (rDB_CQ_HEAD ctx) (fun s => s.cqHeadWrite ctx (val % 2 ^ 32)) else s

/-- The word a tail mirror names. -/
def State.mirrorAddr (s : State) (c : Nat) : Addr := s.rf (rHUB_CTX_TAIL_MIRROR c) fHUB_CTX_TAIL_MIRROR_ADDR * 8

/-- Contexts whose enabled mirror word an inbound write of `n` bytes at `a` covers. -/
def State.mirrorsAt (s : State) (a n : Nat) : List Nat :=
  (List.range 64).filter (fun c =>
    s.flag (rHUB_CTX_TAIL_MIRROR c) fHUB_CTX_TAIL_MIRROR_EN
    && decide (s.mirrorAddr c < a + n) && decide (a < s.mirrorAddr c + 4))

/-- An inbound write through a device link or PCIe: performed as a normal write, and a
doorbell write where it meets an enabled mirror word (R162). -/
def State.inboundWrite (s : State) (a : Addr) (bs : List Byte) : State :=
  let s1 := s.memWrite a bs
  (s.mirrorsAt a bs.length).foldl (fun x c => x.doorbell c (x.memNat (s.mirrorAddr c) 4)) s1

/-- How an inbound request that its region check refuses is answered (R311). -/
def inboundFail : Port → Answer
  | .pcie => .unsupportedRequest
  | p => portFail p

/-- An inbound request reaches the part: from a peer member, or from PCIe in endpoint mode. -/
def State.inboundFrom (s : State) (p : Port) : Bool :=
  s.hubServes
  && match p with
    | .pcie => s.pcieEndpoint
    | .peer d => s.isMember d && d != s.selfId
    | _ => false

/-- A request from a part that is no member is dropped and counted (R319). -/
def State.inboundForeign (s : State) (p : Port) : State :=
  match p with
  | .peer _ =>
    if s.hubServes ∧ s.rf rCH_STATUS fCH_STATUS_STATE = 2 then s.bump rCH_ERR_CNT fCH_ERR_CNT_FOREIGN_CNT 1 else s
  | _ => s

/-! ## Enable and disable (R154) -/

/-- A byte range lies in one region entry with a permission. -/
def State.inOneRegion (s : State) (c a n : Nat) (perm : Fld) : Bool :=
  (List.range 64).any (fun r =>
    let b := s.reg (rHUB_CTX_RGN_BASE c r)
    fHUB_CTX_RGN_BASE_VALID.get b == 1 && perm.get b == 1
    && decide (fHUB_CTX_RGN_BASE_BASE.get b * 64 ≤ a)
    && decide (a + n ≤ (s.rf (rHUB_CTX_RGN_LIM c r) fHUB_CTX_RGN_LIM_LIMIT + 1) * 64))

def State.sqBase (s : State) (c : Nat) : Addr := s.rf (rHUB_CTX_SQ c) fHUB_CTX_SQ_BASE * 4096
def State.cqBase (s : State) (c : Nat) : Addr := s.rf (rHUB_CTX_CQ c) fHUB_CTX_CQ_BASE * 4096

def ringLog (n : Nat) : Bool := decide (6 ≤ n ∧ n ≤ 16)

/-- Both rings are legal and covered. -/
def State.ringsOk (s : State) (c : Nat) : Bool :=
  ringLog (s.rf (rHUB_CTX_SQ c) fHUB_CTX_SQ_LOG2) && ringLog (s.rf (rHUB_CTX_CQ c) fHUB_CTX_CQ_LOG2)
  && s.inOneRegion c (s.sqBase c) (64 * s.sqSize c) fHUB_CTX_RGN_BASE_RD
  && s.inOneRegion c (s.cqBase c) (32 * s.cqSize c) fHUB_CTX_RGN_BASE_WR
  && !([s.sqBase c, s.sqBase c + 64 * s.sqSize c - 1, s.cqBase c, s.cqBase c + 32 * s.cqSize c - 1].any s.inTestRegion)

def State.classOk (s : State) (c : Nat) : Bool :=
  decide (s.rf (rHUB_CTX_CFG c) fHUB_CTX_CFG_CLASS ≤ s.rf (rHUB_CTX_CFG c) fHUB_CTX_CFG_MAX_CLASS)

def State.ctxRej (s : State) (c : Nat) : State := s.setFlag (rHUB_CTX_STATUS c) fHUB_CTX_STATUS_CFG_REJ

/-- The pointers and the window as an enable leaves them. -/
def State.ctxStart (s : State) (c : Nat) : State :=
  let s1 := (s.setFlag (rHUB_CTX_CFG c) fHUB_CTX_CFG_ENABLE).setReg (rHUB_CTX_PTRS c) 0
  let s2 := (s1.setReg (rDB_SQ_TAIL c) 0).setReg (rDB_CQ_HEAD c) 0
  (s2.wf (rHUB_CTX_STATUS c) fHUB_CTX_STATUS_STATE 1).modCtx c (fun _ => {})

/-- ENABLE = 1 (R154). -/
def State.ctxEnable (s : State) (c : Nat) : State :=
  if s.ctxState c = 0 then
    if s.ringsOk c && s.classOk c then s.ctxStart c
    else
      let s1 := if s.ringsOk c then s else s.setFlag (rHUB_CTX_STATUS c) fHUB_CTX_STATUS_EN_RING
      if s.classOk c then s1 else s1.setFlag (rHUB_CTX_STATUS c) fHUB_CTX_STATUS_EN_CLASS
  else if s.ctxState c = 2 then s.ctxRej c
  else s

/-- The cause a disable gives the job whose JOB_END was not fetched (Table 8.2). -/
def disableCause : Cause :=
  { status := stJOB_ABORTED, engine := noEngine, restart := false, selfCheck := false, deadline := false, num := none }

/-- ENABLE = 0 (R154). A job that is aborting already ends without its restart. -/
def State.ctxDisable (s : State) (c : Nat) : State :=
  if s.ctxState c = 1 then
    let s1 := (s.clrFlag (rHUB_CTX_CFG c) fHUB_CTX_CFG_ENABLE).wf (rHUB_CTX_STATUS c) fHUB_CTX_STATUS_STATE 2
    let g := fun (j : Job) =>
      if j.endSeen then j
      else { j with causes := j.causes ++ [disableCause], abort := j.abort.map (fun a => { a with restart := false }) }
    s1.modCtx c (fun x => { x with job := x.job.map g, later := x.later.map g, ended := none })
  else s

/-- CTX_ENABLE (R154). -/
def execCtxEnable (port : Port) (ctx : Nat) (s : State) : Res State :=
  .next <| if ctx < 64 then s.access port (rHUB_CTX_CFG ctx) (fun s => s.ctxEnable ctx) else s

/-- CTX_DISABLE (R154). -/
def execCtxDisable (port : Port) (ctx : Nat) (s : State) : Res State :=
  .next <| if ctx < 64 then s.access port (rHUB_CTX_CFG ctx) (fun s => s.ctxDisable ctx) else s

/-- CTX_DRAIN_COMPLETE (R154): INFLIGHT is 0 and no job is left to end. [DEDUCED, log entry 33] -/
def execCtxDrainComplete (ctx : Nat) (s : State) : Res State :=
  let x := s.ctx ctx
  .next <|
    if s.ctxState ctx = 2 ∧ x.window = [] ∧ x.job = none ∧ x.rest = [] then
      s.wf (rHUB_CTX_STATUS ctx) fHUB_CTX_STATUS_STATE 0
    else s

/-! ## Configuration writes (R156) -/

/-- Fields of HUB_CTX_CFG other than ENABLE and IRQ_EN. -/
def ctxCfgOther (w : Word) : List Nat :=
  [fHUB_CTX_CFG_MAX_CLASS.get w, fHUB_CTX_CFG_CLASS.get w, fHUB_CTX_CFG_GCNT.get w, fHUB_CTX_CFG_SCORE_MODE.get w]

/-- A write of HUB_CTX_CFG. -/
def State.ctxCfgWrite (s : State) (c : Nat) (w : Word) : State :=
  let a := rHUB_CTX_CFG c
  let s1 :=
    if s.ctxState c = 0 then s.plainWrite a (fHUB_CTX_CFG_ENABLE.set w 0)
    else
      let x := s.wf a fHUB_CTX_CFG_IRQ_EN (fHUB_CTX_CFG_IRQ_EN.get w)
      if ctxCfgOther w = ctxCfgOther (s.reg a) then x else x.ctxRej c
  if fHUB_CTX_CFG_ENABLE.get w = 1 then s1.ctxEnable c else s1.ctxDisable c

/-- A configuration register of context `c` by its offset: SQ, CQ, TAIL_MIRROR and the
region entries. -/
def ctxGuarded (off : Nat) : Bool := off == 0x8 || off == 0x10 || off == 0x28 || (decide (0x1000 ≤ off) && decide (off < 0x1400))

def ctxBase (c : Nat) : Addr := rHUB_CTX_CFG c

/-- A write to a configuration register of a context. -/
def State.ctxConfig (s : State) (c off : Nat) (w : Word) : State :=
  if off = 0 then s.ctxCfgWrite c w
  else if ctxGuarded off then
    (if s.ctxState c = 0 then s.plainWrite (ctxBase c + off) w else s.ctxRej c)
  else s

/-- CTX_CONFIG_WRITE (R156). -/
def execCtxConfigWrite (port : Port) (ctx off : Nat) (val : Word) (s : State) : Res State :=
  .next <| if ctx < 64 ∧ off % 8 = 0 then s.access port (ctxBase ctx + off) (fun s => s.ctxConfig ctx off val) else s

/-! ## Slots (R175) -/

/-- The plan stream is enabled with SLOT = s (R229). -/
def State.planUsesSlot (s : State) (sl : Nat) : Bool :=
  s.flag rPC_PLAN_CFG fPC_PLAN_CFG_ENABLE && s.rf rPC_PLAN_CFG fPC_PLAN_CFG_SLOT == sl

/-- A write of HUB_SLOT_CFGs (R175). -/
def State.slotCfgWrite (s : State) (sl : Nat) (w : Word) : State :=
  let a := rHUB_SLOT_CFG sl
  let kind := s.rf a fHUB_SLOT_CFG_KIND
  let owner := s.rf a fHUB_SLOT_CFG_OWNER
  if fHUB_SLOT_CFG_KIND.get w = kind ∧ fHUB_SLOT_CFG_OWNER.get w = owner then s.plainWrite a w
  else if kind = 1 ∧ s.ctxState owner ≠ 0 then s.ctxRej owner
  else if kind = 2 ∧ s.planUsesSlot sl then s.setFlag rPC_PLAN_STAT fPC_PLAN_STAT_CFG_REJ
  else s.plainWrite a w

/-- SLOT_CFG_WRITE (R175). -/
def execSlotCfgWrite (port : Port) (slot : Nat) (val : Word) (s : State) : Res State :=
  .next <| if slot < 64 then s.access port (rHUB_SLOT_CFG slot) (fun s => s.slotCfgWrite slot val) else s

end Sys2Proof.Machine
end

