-- ==== Sys2Proof/Machine/Crc.lean ====
section
/-!
DEFINITION. The cyclic redundancy checks of the part, computed bit by bit: CRC-32C, reflected,
polynomial 0x1EDC_6F41 (R80), and the CRC-16 of the die links, polynomial 0x1021 (R283).
-/
namespace Sys2Proof.Machine

/-- `n` shifts of the reflected CRC-32C register. -/
def crc32cBits : Nat → Nat → Nat
  | 0, c => c
  | n + 1, c => crc32cBits n (if c % 2 = 1 then Nat.xor (c / 2) 0x82F63B78 else c / 2)

/-- One byte enters the register. -/
def crc32cByte (c : Nat) (b : Byte) : Nat := crc32cBits 8 (Nat.xor c b.toNat)

/-- Bytes enter in ascending order. -/
def crc32cFeed (c : Nat) (bs : List Byte) : Nat := bs.foldl crc32cByte c

/-- CRC-32C of a byte string: initial value all ones, result complemented. -/
def crc32c (bs : List Byte) : Nat := Nat.xor (crc32cFeed 0xFFFFFFFF bs) 0xFFFFFFFF

/-- One bit enters the CRC-16 register. -/
def crc16Bit (c : Nat) (b : Bool) : Nat :=
  if (c.testBit 15) != b then Nat.xor (2 * c) 0x1021 % 65536 else 2 * c % 65536

/-- The low `n` bits of a number enter, the highest first. -/
def crc16From : Nat → Nat → Nat → Nat
  | 0, _, c => c
  | n + 1, v, c => crc16From n v (crc16Bit c (v.testBit n))

/-- CRC-16 of `n` bits: initial value 0xFFFF (R283). -/
def crc16 (n v : Nat) : Nat := crc16From n v 0xFFFF

end Sys2Proof.Machine
end

