-- ==== Sys2Proof/Machine/FrontEnd.lean ====
section
/-!
DEFINITION. The camera front end (R203, R204): the fixed integer pipeline from the payload of
a frame to UINT8 tensors, as functions of the payload and the parameter block.
-/
namespace Sys2Proof.Machine

/-! ## Parameters -/

/-- What the front end works by: the front-end block, the tone table and the sensor entry's
output size, crop, mode and scaling (Tables 9.2, 9.3). -/
structure FeParam where
  raw   : Nat
  tone  : Nat
  w     : Nat
  h     : Nat
  cropX : Nat
  cropY : Nat
  mode  : Nat
  scale : Nat
  deriving DecidableEq, Repr

def FeParam.bayer (p : FeParam) : Nat := bytesOf p.raw 0 1
def FeParam.inBits (p : FeParam) : Nat := bytesOf p.raw 1 1
/-- Black level and gain of a position of the 2 × 2 pattern, in Bayer order. -/
def FeParam.black (p : FeParam) (k : Nat) : Nat := bytesOf p.raw (4 + 2 * k) 2
def FeParam.gain (p : FeParam) (k : Nat) : Nat := bytesOf p.raw (12 + 2 * k) 2
/-- Element of the colour matrix, signed 3.12. -/
def FeParam.ccm (p : FeParam) (r c : Nat) : Int := signedOf 16 (bytesOf p.raw (20 + 2 * (3 * r + c)) 2)
def FeParam.toneAt (p : FeParam) (v : Nat) : Nat := bytesOf p.tone (v / 16) 1

/-- Size of the crop in the sensor image. -/
def FeParam.srcW (p : FeParam) : Nat := if p.scale = 1 then 2 * p.w else p.w
def FeParam.srcH (p : FeParam) : Nat := if p.scale = 1 then 2 * p.h else p.h

/-! ## Unpacking of RAW payload -/

def byteAt (l : List Byte) (i : Nat) : Nat := ((l[i]?).getD 0).toNat

/-- Pixel `x` of a RAW line in the packing of CSI-2 (PRESUMED: the standard of Table 21.2):
the high bytes of a group of pixels, then their low bits, the first pixel lowest. [PRESUMED, log entry 42] -/
def rawPixel (bitsN : Nat) (l : List Byte) (x : Nat) : Nat :=
  match bitsN with
  | 8 => byteAt l x
  | 10 => byteAt l (x / 4 * 5 + x % 4) * 4 + byteAt l (x / 4 * 5 + 4) / 4 ^ (x % 4) % 4
  | 12 => byteAt l (x / 2 * 3 + x % 2) * 16 + byteAt l (x / 2 * 3 + 2) / 16 ^ (x % 2) % 16
  | 14 =>
    let b := x / 4 * 7
    let low := byteAt l (b + 4) + byteAt l (b + 5) * 256 + byteAt l (b + 6) * 65536
    byteAt l (b + x % 4) * 64 + low / 64 ^ (x % 4) % 64
  | _ => byteAt l (2 * x) * 256 + byteAt l (2 * x + 1)

/-- Pixels of a RAW line of `n` bytes. [PRESUMED, log entry 42] -/
def rawPixels (bitsN n : Nat) : Nat := n * 8 / bitsN

/-! ## Steps 1 to 3: crop, black level and gain -/

/-- Sample (y, x) of the crop after the black level and the gain. -/
def FeParam.sample (p : FeParam) (lines : List (List Byte)) (y x : Nat) : Nat :=
  let l := (lines[p.cropY + y]?).getD []
  let k := 2 * (y % 2) + x % 2
  let v := rawPixel p.inBits l (p.cropX + x) * 2 ^ (16 - p.inBits)
  min 65535 (((v - p.black k) * p.gain k + 2048) / 4096)

/-- Every crop sample, line by line. -/
def FeParam.samples (p : FeParam) (lines : List (List Byte)) : List (List Nat) :=
  (List.range p.srcH).map (fun y => (List.range p.srcW).map (fun x => p.sample lines y x))

/-! ## Step 4: demosaic -/

/-- Colour at a position of the pattern: 0 R, 1 G, 2 B. -/
def bayerColour (bayer y x : Nat) : Nat :=
  let k := 2 * (y % 2) + x % 2
  match bayer with
  | 0 => [0, 1, 1, 2].getD k 1
  | 1 => [1, 0, 2, 1].getD k 1
  | 2 => [1, 2, 0, 1].getD k 1
  | _ => [2, 1, 1, 0].getD k 1

/-- A coordinate one past a border stands for the border sample of its own colour. [DEDUCED, log entry 44] -/
def replicate1 (n : Nat) (i : Int) : Nat :=
  if i < 0 then 1 else if (n : Int) ≤ i then n - 2 else i.toNat

def gridAt (g : List (List Nat)) (y x : Nat) : Nat := ((g[y]?).getD [])[x]?.getD 0

/-- A sample at an offset from (y, x). [DEDUCED, log entry 44] -/
def near (g : List (List Nat)) (h w y x : Nat) (dy dx : Int) : Nat :=
  gridAt g (replicate1 h ((y : Int) + dy)) (replicate1 w ((x : Int) + dx))

/-- Colour `c` at (y, x): its own sample, or the mean of the two or four nearest, rounded half up. [DEDUCED, log entry 44] -/
def demosaic (bayer : Nat) (g : List (List Nat)) (h w c y x : Nat) : Nat :=
  let n := near g h w y x
  if bayerColour bayer y x = c then gridAt g y x
  else if c = 1 then (n (-1) 0 + n 1 0 + n 0 (-1) + n 0 1 + 2) / 4
  else if bayerColour bayer y (x + 1) = c then (n 0 (-1) + n 0 1 + 1) / 2
  else if bayerColour bayer (y + 1) x = c then (n (-1) 0 + n 1 0 + 1) / 2
  else (n (-1) (-1) + n (-1) 1 + n 1 (-1) + n 1 1 + 2) / 4

/-! ## Steps 5 to 8 -/

/-- Colour `c` of output pixel (y, x) after binning. -/
def FeParam.rgb (p : FeParam) (g : List (List Nat)) (y x c : Nat) : Nat :=
  let d := demosaic p.bayer g p.srcH p.srcW c
  if p.scale = 1 then (d (2 * y) (2 * x) + d (2 * y) (2 * x + 1) + d (2 * y + 1) (2 * x) + d (2 * y + 1) (2 * x + 1) + 2) / 4
  else d y x

/-- The colour matrix and the tone table: 8-bit colour `r` of a pixel. -/
def FeParam.toned (p : FeParam) (rgb : List Nat) (r : Nat) : Nat :=
  let v := (List.range 3).foldl (fun a c => a + p.ccm r c * (rgb.getD c 0 : Int)) 0
  p.toneAt (max 0 (min 65535 ((v + 2048).fdiv 4096))).toNat

/-- 8-bit R, G, B of an output pixel. -/
def FeParam.pixel (p : FeParam) (g : List (List Nat)) (y x : Nat) : List Nat :=
  let c := (List.range 3).map (fun k => p.rgb g y x k)
  (List.range 3).map (fun r => p.toned c r)

def satU8 (v : Int) : Nat := (max 0 (min 255 v)).toNat

def dot3 (a b c k : Int) (q : List Nat) : Int :=
  a * (q.getD 0 0 : Int) + b * (q.getD 1 0 : Int) + c * (q.getD 2 0 : Int) + k

/-- BT.709 full-range components of a pixel before chroma averaging. -/
def yOf (q : List Nat) : Int := (dot3 54 183 19 128 q).fdiv 256
/-- [DEDUCED, log entry 44] -/
def uOf (q : List Nat) : Int := (dot3 (-29) (-99) 128 128 q).fdiv 256 + 128
/-- [DEDUCED, log entry 44] -/
def vOf (q : List Nat) : Int := (dot3 128 (-116) (-12) 128 q).fdiv 256 + 128

/-- The pixels of the output image, line by line. -/
def FeParam.image (p : FeParam) (lines : List (List Byte)) : List (List (List Nat)) :=
  let g := p.samples lines
  (List.range p.h).map (fun y => (List.range p.w).map (fun x => p.pixel g y x))

def pixAt (im : List (List (List Nat))) (y x : Nat) : List Nat := ((im[y]?).getD [])[x]?.getD []

/-- A chroma value: the mean of its 2 × 2 block. -/
def chroma (f : List Nat → Int) (im : List (List (List Nat))) (y x : Nat) : Nat :=
  satU8 ((f (pixAt im (2 * y) (2 * x)) + f (pixAt im (2 * y) (2 * x + 1)) + f (pixAt im (2 * y + 1) (2 * x))
    + f (pixAt im (2 * y + 1) (2 * x + 1)) + 2).fdiv 4)

/-! ## Packing (R204) -/

/-- A block of 16 channels of a plane at `h` by `w`: 4 × 4 space-to-depth of `at y x`. -/
def block16 (h w : Nat) (at' : Nat → Nat → Nat) : List Byte :=
  (List.range h).flatMap (fun y => (List.range w).flatMap (fun x =>
    (List.range 16).map (fun c => BitVec.ofNat 8 (at' (4 * y + c / 4) (4 * x + c % 4)))))

/-- The bytes of a processed frame. -/
def FeParam.frame (p : FeParam) (lines : List (List Byte)) : List Byte :=
  let im := p.image lines
  if p.mode = 1 then
    block16 (p.h / 4) (p.w / 4) (fun y x => satU8 (yOf (pixAt im y x)))
      ++ block16 (p.h / 8) (p.w / 8) (chroma uOf im) ++ block16 (p.h / 8) (p.w / 8) (chroma vOf im)
  else
    (List.range 3).flatMap (fun k => block16 (p.h / 4) (p.w / 4) (fun y x => (pixAt im y x).getD k 0))

/-- Bytes of a processed frame. -/
def FeParam.frameBytes (p : FeParam) : Nat := if p.mode = 1 then p.w * p.h + p.w * p.h / 2 else 3 * p.w * p.h

/-- Every crop line is there with its pixels. -/
def FeParam.cropThere (p : FeParam) (lines : List (List Byte)) : Bool :=
  (List.range p.srcH).all (fun y =>
    match lines[p.cropY + y]? with
    | some l => decide (p.cropX + p.srcW ≤ rawPixels p.inBits l.length)
    | none => false)

end Sys2Proof.Machine
end

