-- ==== Sys2Proof/Machine/ShCfg.lean ====
section
/-!
DEFINITION. The sensor hub's configuration block (R200, R201, R440): its fields, its checks,
and its reading at enable.
-/
namespace Sys2Proof.Machine

/-! ## Fields (Tables 9.1, 9.2, 9.4, 9.8) -/

def ShCfg.at (c : ShCfg) (o n : Nat) : Nat := bytesOf c.hdr o n
def ShCfg.nsens (c : ShCfg) : Nat := c.at 2 1
def ShCfg.ntpl (c : ShCfg) : Nat := c.at 3 1
def ShCfg.trig (c : ShCfg) : Bool := c.at 4 1 % 2 == 1
def ShCfg.trigDiv (c : ShCfg) : Nat := c.at 5 1
def ShCfg.calSlot (c : ShCfg) : Nat := c.at 6 1
def ShCfg.calEvery (c : ShCfg) : Nat := c.at 7 1
/-- Instant period in nanoseconds. -/
def ShCfg.period (c : ShCfg) : Nat := c.at 8 4 * 1000
def ShCfg.waitNs (c : ShCfg) : Nat := c.at 12 4 * 1000
def ShCfg.ctx (c : ShCfg) : Nat := c.at 33 1
def ShCfg.launchN (c : ShCfg) : Nat := c.at 32 1
def ShCfg.manLog2 (c : ShCfg) : Nat := c.at 34 1
def ShCfg.stateNbuf (c : ShCfg) : Nat := c.at 35 1
def ShCfg.stateBytes (c : ShCfg) : Nat := c.at 36 4
def ShCfg.manBase (c : ShCfg) : Nat := c.at 40 8
def ShCfg.stateBase (c : ShCfg) : Nat := c.at 48 8
def ShCfg.calBase (c : ShCfg) : Nat := c.at 56 8
def ShCfg.trigWidth (c : ShCfg) : Nat := c.at 132 4 * 1000
def ShCfg.trigDelay (c : ShCfg) (p : Nat) : Nat := c.at (192 + 4 * p) 4 * 1000
/-- Bytes of one manifest, and of one calibration copy. -/
def ShCfg.manBytes (c : ShCfg) : Nat := 64 + 64 * c.nsens

/-- Sensor entry `n` and its fields. -/
def ShCfg.sen (c : ShCfg) (n : Nat) : Nat := c.sens[n]?.getD 0
def senKind (e : Nat) : Nat := bytesOf e 0 1
def senSource (e : Nat) : Nat := bytesOf e 1 1
def senWait (e : Nat) : Bool := Nat.testBit e 32
def senDrdy (e : Nat) : Bool := Nat.testBit e 33
def senFeMode (e : Nat) : Nat := bytesOf e 5 1
/-- Nominal sample period in nanoseconds. -/
def senFrame (e : Nat) : Nat := bytesOf e 16 4 * 1000
def senLat (e : Nat) : Nat := bytesOf e 20 4
def senAdj (e : Nat) : Int := signedOf 32 (bytesOf e 24 4)
/-- Exclusion limit in nanoseconds. -/
def senExcl (e : Nat) : Nat := if bytesOf e 28 4 = 0 then 2 * senFrame e else bytesOf e 28 4 * 1000
def senBase (e : Nat) : Nat := bytesOf e 32 8
def senBytes (e : Nat) : Nat := bytesOf e 40 4
def senCount (e : Nat) : Nat := bytesOf e 44 2
def senParam (e : Nat) : Nat := bytesOf e 48 8

def kCAMERA : Nat := 1
def kSWEEP : Nat := 2
def kSPI : Nat := 3
def kETHSER : Nat := 4
def kUART : Nat := 5
def kPPS : Nat := 6

/-- The front-end parameters of sensor `n`. -/
def ShCfg.fe (c : ShCfg) (n : Nat) : FeParam :=
  let e := c.sen n
  { raw := c.param[n]?.getD 0, tone := c.tone[n]?.getD 0, w := bytesOf e 8 2, h := bytesOf e 10 2
    cropX := bytesOf e 12 2, cropY := bytesOf e 14 2, mode := senFeMode e, scale := bytesOf e 6 1 }

/-- Tick launcher `m` of a header (Table 9.8). -/
def tickRaw (hdr m : Nat) : Nat := bytesOf hdr (256 + 32 * m) 32
def tickPeriod (t : Nat) : Nat := bytesOf t 0 4 * 1000
def tickPhase (t : Nat) : Nat := bytesOf t 4 4 * 1000
def tickCtx (t : Nat) : Nat := bytesOf t 8 1
def tickN (t : Nat) : Nat := bytesOf t 9 1
def tickLaunch (t : Nat) : Nat := bytesOf t 16 8
def tickRec (t : Nat) : Nat := bytesOf t 24 8

/-- Fields of a packet template (Table 9.4). -/
def tplSensor (t : Nat) : Nat := bytesOf t 1 1
def tplSeqBits (t : Nat) : Nat := bytesOf t 12 1
def tplTimeFmt (t : Nat) : Nat := bytesOf t 13 1 % 8
def tplCopyOff (t : Nat) : Nat := bytesOf t 24 2
def tplCopyLen (t : Nat) : Nat := bytesOf t 26 2
/-- Distance between packet records of a slot (R207). -/
def tplStride (t : Nat) : Nat := up64 (16 + tplCopyLen t)

/-! ## Checks (R200) -/

/-- The bytes from `o` to `o + n - 1` are 0. -/
def zeroAt (w o n : Nat) : Bool := bytesOf w o n == 0

def hdrOk (h : Nat) : Bool :=
  let b := bytesOf h
  let per := b 8 4
  b 0 2 == 1 && between 1 (b 2 1) 64 && decide (b 3 1 ≤ 16) && decide (b 4 1 ≤ 1)
  && (if b 4 1 = 1 then between 1 (b 5 1) 8 else b 5 1 == 0)
  && decide (b 6 1 ≤ 63) && decide (1 ≤ b 7 1) && between 10000 per 1000000 && decide (b 12 4 + 1000 ≤ per)
  && b 24 8 % 64 == 0 && between 1 (b 32 1) 64 && decide (b 33 1 ≤ 63) && between 2 (b 34 1) 10
  && b 36 4 % 64 == 0 && (if b 36 4 = 0 then b 35 1 == 0 else between 2 (b 35 1) 8)
  && b 40 8 % 64 == 0 && b 48 8 % 64 == 0 && b 56 8 % 64 == 0
  && between 1 (b 88 2) 4096 && between 1 (b 90 2) 4096 && between 1 (b 92 2) 4096
  && zeroAt h 94 2 && zeroAt h 116 4 && zeroAt h 122 6 && zeroAt h 136 56 && zeroAt h 384 128
  && (if b 4 1 = 1 then
        decide (1 ≤ b 132 4 ∧ (b 132 4 + 1) * b 5 1 ≤ per)
        && (List.range 16).all (fun p => decide (b (192 + 4 * p) 4 * b 5 1 < per))
      else true)

/-- A tick launcher's ranges (Table 9.8). -/
def tickOk (t : Nat) : Bool :=
  bytesOf t 0 4 == 0
  || (between 1000 (bytesOf t 0 4) 1000000 && decide (bytesOf t 4 4 < bytesOf t 0 4) && decide (tickCtx t ≤ 63)
      && between 1 (tickN t) 64 && zeroAt t 10 6 && tickRec t % 64 == 0)

/-- A front-end block's ranges (Table 9.3). -/
def feOk (p : Nat) : Bool :=
  decide (bytesOf p 0 1 ≤ 3) && [8, 10, 12, 14, 16].contains (bytesOf p 1 1)
  && zeroAt p 2 2 && zeroAt p 38 2 && zeroAt p 48 16

/-- The size and crop of a processed camera stream (R204). -/
def feSizeOk (p : FeParam) (slotBytes : Nat) : Bool :=
  let m := if p.mode = 1 then 8 else 4
  p.w % m == 0 && p.h % m == 0 && p.w != 0 && p.h != 0 && decide (64 + p.frameBytes ≤ slotBytes)

/-- An SPI transfer block (R208). -/
def spiOk (p : Nat) : Bool :=
  let b := bytesOf p
  decide (b 0 1 ≤ 8) && between 1 (b 1 1) 96 && decide (b 2 1 ≤ 3) && between 1 (b 3 1) 24
  && decide (b 12 1 ≤ 31) && zeroAt p 13 3

/-- A UART transfer block (R209). -/
def uartOk (p : Nat) : Bool :=
  let b := bytesOf p
  zeroAt p 6 10 && (b 0 1 == 0 || (b 0 1 == 1 && between 1 (b 4 1) 2))

/-- A sensor entry's ranges (Table 9.2); `p` is its front-end or transfer block. -/
def senOk (e : Nat) (p : FeParam) : Bool :=
  let k := senKind e
  k == 0
  || (decide (k ≤ 6) && decide (bytesOf e 4 1 ≤ 3) && zeroAt e 7 1 && zeroAt e 46 2 && zeroAt e 56 8
      && senBase e % 64 == 0 && senBytes e % 64 == 0 && senBytes e != 0 && decide (2 ≤ senCount e)
      && (k == kCAMERA || k == kSWEEP || senBytes e == 128)
      && (if k = kCAMERA then
            decide (senSource e ≤ 15) && decide (bytesOf e 2 1 ≤ 15) && decide (senFeMode e ≤ 2)
            && decide (bytesOf e 6 1 ≤ 1) && p.cropX % 2 == 0 && p.cropY % 2 == 0
            && (senFeMode e == 0 || (feOk p.raw && feSizeOk p (senBytes e)))
          else if k = kSPI then decide (senSource e ≤ 1) && spiOk p.raw
          else if k = kUART then decide (senSource e ≤ 3) && uartOk p.raw
          else senSource e == 0 && senParam e == 0))

/-- A packet template's ranges (Table 9.4), with room for one record in a sweep's slot. -/
def tplOk (c : ShCfg) (t : Nat) : Bool :=
  let b := bytesOf t
  let e := c.sen (tplSensor t)
  decide (tplSensor t < c.nsens) && (senKind e == kSWEEP || senKind e == kETHSER)
  && between 1 (b 6 2) 9000 && between 1 (b 8 2) 9000 && [0, 8, 16, 32].contains (tplSeqBits t)
  && decide (tplTimeFmt t ≤ 3) && decide (b 13 1 < 16) && between 1 (tplCopyLen t) 8192 && zeroAt t 28 4
  && (senKind e != kSWEEP || decide (64 + tplStride t ≤ senBytes e))

/-- The camera streams of a port, and what R440 and Table 9.2 allow of them. -/
def ShCfg.cams (c : ShCfg) (port : Nat) : Nat :=
  (c.sens.filter (fun e => senKind e == kCAMERA && senSource e == port)).length

def camsOk (c : ShCfg) (lanes : Nat → Nat) : Bool :=
  decide ((c.sens.filter (fun e => senKind e == kCAMERA)).length ≤ 24)
  && (List.range 16).all (fun p => c.cams p == 0 || (decide (c.cams p ≤ 4) && lanes p != 3))

/-! ## Reading the block -/

/-- What enabling meets: the flag of SH_EVT it sets. -/
inductive EnErr where
  | block | region
  deriving DecidableEq, Repr

/-- Bytes as the hub reads them, as a number: the read is not checked against a region. [DEDUCED, log entry 41] -/
def State.hubRead (s : State) (a n : Nat) : Except EnErr Nat :=
  if (unitsOf 64 a n).any (fun l => (s.lineErr l).isSome) || s.mem.poisoned a n then .error .block
  else .ok (leNat (s.anyRead a n))

/-- A number cut into `n` pieces of `k` bytes. -/
def cut (w k n : Nat) : List Nat := (List.range n).map (fun i => bytesOf w (k * i) k)

/-- A launch block: descriptor 0 is a JOB_BEGIN (R216). -/
def State.readLaunch (s : State) (a n : Nat) : Except EnErr (List Nat) := do
  let w ← s.hubRead a (64 * n)
  if w % 256 = 6 then .ok (cut w 64 n) else .error .block

/-- A sensor's block and tone table. -/
def State.readParam (s : State) (e : Nat) : Except EnErr (Nat × Nat) :=
  if senKind e = kCAMERA ∧ senFeMode e ≠ 0 then do
    let p ← s.hubRead (senParam e) 64
    let t ← s.hubRead (bytesOf p 40 8) 4096
    .ok (p, t)
  else if senKind e = kSPI ∨ senKind e = kUART then do
    let p ← s.hubRead (senParam e) 16
    .ok (p, 0)
  else .ok (0, 0)

def guardCfg (b : Bool) : Except EnErr Unit := if b then .ok () else .error .block

/-- Every line of a span is covered by the table of context `c` with WR (R157, R201). -/
def State.coveredWr (s : State) (c a n : Nat) : Bool :=
  (unitsOf 64 a n).all (fun l =>
    match s.regionOf c l with
    | some r => s.flag (rHUB_CTX_RGN_BASE c r) fHUB_CTX_RGN_BASE_WR
    | none => false)

/-- Every line of a span is covered by the table of context `c` (R201). -/
def State.coveredAny (s : State) (c a n : Nat) : Bool := (unitsOf 64 a n).all (fun l => (s.regionOf c l).isSome)

/-- Table spans that the block names: calibrations, and the tone tables of the processed cameras (R201). -/
def ShCfg.tables (c : ShCfg) : List (Nat × Nat) :=
  [(c.at 64 8, 64 * c.nsens), (c.at 72 8, 64 * c.nsens)]
  ++ ((List.range c.nsens).filter (fun n => senKind (c.sen n) == kCAMERA && senFeMode (c.sen n) != 0)).map
      (fun n => (bytesOf (c.param[n]?.getD 0) 40 8, 4096))

/-- Spans the hub writes, with the context each is checked for (R201). -/
def ShCfg.spans (c : ShCfg) : List (Nat × Nat × Nat) :=
  ((c.sens.filter (fun e => senKind e != 0)).map (fun e => (c.ctx, senBase e, senBytes e * senCount e)))
  ++ [(c.ctx, c.manBase, c.manBytes * 2 ^ c.manLog2), (c.ctx, c.calBase, 4 * c.manBytes)]
  ++ (if c.stateBytes = 0 then [] else [(c.ctx, c.stateBase, c.stateNbuf * c.stateBytes)])
  ++ ((List.range 4).filter (fun m => tickPeriod (tickRaw c.hdr m) != 0)).map
      (fun m => (tickCtx (tickRaw c.hdr m), tickRec (tickRaw c.hdr m), 1024))

/-- The whole configuration as the hub copies it at enable (R200, R201), with the start
calibration. [DEDUCED, log entry 41] -/
def State.readShCfg (s : State) : Except EnErr (ShCfg × List Nat) := do
  let base := s.rf rSH_CFG fSH_CFG_BLOCK * 64
  let h ← s.hubRead base 512
  guardCfg (hdrOk h && (List.range 4).all (fun m => tickOk (tickRaw h m)))
  let c0 : ShCfg := { hdr := h }
  let sw ← s.hubRead (base + 512) (64 * c0.nsens)
  let sens := cut sw 64 c0.nsens
  let tw ← s.hubRead (base + 512 + 64 * c0.nsens) (32 * c0.ntpl)
  let pars ← sens.mapM s.readParam
  let c1 : ShCfg := { c0 with sens := sens, tpl := cut tw 32 c0.ntpl, param := pars.map (·.1), tone := pars.map (·.2) }
  let lanes := fun p => s.rf rIO_CAM_PHY { hi := 33 + 2 * p, lo := 32 + 2 * p }
  guardCfg ((List.range c1.nsens).all (fun n => senOk (c1.sen n) (c1.fe n)) && c1.tpl.all (tplOk c1) && camsOk c1 lanes)
  let launch ← s.readLaunch (c1.at 24 8) c1.launchN
  let ticks ← (List.range 4).mapM (fun m =>
    let t := tickRaw h m
    if tickPeriod t = 0 then .ok [] else s.readLaunch (tickLaunch t) (tickN t))
  let fact ← s.hubRead (c1.at 64 8) (64 * c1.nsens)
  let start ← s.hubRead (c1.at 72 8) (64 * c1.nsens)
  if c1.spans.all (fun x => s.coveredWr x.1 x.2.1 x.2.2) && c1.tables.all (fun x => s.coveredAny c1.ctx x.1 x.2) then
    .ok ({ c1 with launch := launch, ticks := ticks, fact := cut fact 64 c1.nsens }, cut start 64 c1.nsens)
  else .error .region

end Sys2Proof.Machine
end

