-- ==== Sys2Proof/Machine/Calib.lean ====
section
/-!
DEFINITION. Calibration versions of the sensor hub (R222–R225): the four copies, the proposal
checks in their order, and acceptance.
-/
namespace Sys2Proof.Machine

/-! ## Windows (R213) -/

/-- The window that holds a DTIME; none before window 0. -/
def State.winOf (s : State) (t : Int) : Option Nat :=
  let d := t - s.sh.epoch
  if d < 0 then none else some (d.toNat / s.sh.cfg.period)

/-- The version that samples and manifests of a window carry (R225). -/
def SensorHub.calOf (h : SensorHub) (win : Nat) : Nat :=
  match h.cals.find? (fun p => decide (p.2 ≤ win)) with
  | some p => p.1
  | none => (h.cals.getLast?.map (·.1)).getD 0

/-- Address of the copy a version lies in (R222). -/
def ShCfg.calAddr (c : ShCfg) (ver : Nat) : Nat := c.calBase + ver % 4 * c.manBytes

/-! ## Rotations and translations in binary64 (R224) -/

/-- FP32 fields of a calibration entry as binary64: Q at 0, T at 16 (Table 9.10). -/
def calVec (e o n : Nat) : List Nat := (List.range n).map (fun i => f64OfF32 (bytesOf e (o + 4 * i) 4))

def f64Sqrt (a : Nat) : Nat := r64 (sqrtV (f64 a))
/-- Sum of products, in ascending order. [DEDUCED, log entry 49] -/
def f64Dot (a b : List Nat) : Nat := (List.zipWith f64Mul a b).foldl f64Add 0
def f64Norm (a : List Nat) : Nat := f64Sqrt (f64Dot a a)
def f64Abs (a : Nat) : Nat := a % 2 ^ 63
def f64Pi : Nat := 0x400921FB54442D18

def calQ (e : Nat) : List Nat := calVec e 0 4
def calT (e : Nat) : List Nat := calVec e 16 3

/-- A vector over its length. -/
def normed (q : List Nat) : List Nat := q.map (fun x => f64Div x (f64Norm q))

/-- Cosine of half an angle of `mdeg` thousandths of a degree. -/
def cosHalf (mdeg : Nat) : Nat := f64Cos (f64Div (f64Mul (f64OfInt mdeg) f64Pi) (f64OfInt 360000))

/-- The rotation between two entries is within a limit. [DEDUCED, log entry 49] -/
def rotWithin (a b mdeg : Nat) : Bool :=
  f64Le (cosHalf mdeg) (f64Abs (f64Dot (normed (calQ a)) (normed (calQ b))))

/-- The translation between two entries is within a limit. -/
def trnWithin (a b mm : Nat) : Bool :=
  f64Le (f64Norm (List.zipWith f64Sub (calT a) (calT b))) (f64Div (f64OfInt mm) (f64OfInt 1000))

def finite64 (a : Nat) : Bool := bits a 62 52 != 2047

/-- Q is a unit quaternion and every value is finite (check 4 of Table 9.11). -/
def calNormOk (e : Nat) : Bool :=
  (calQ e ++ calT e).all finite64
  && f64Le (f64Abs (f64Sub (f64Norm (calQ e)) (f64OfInt 1))) 0x3EE4F8B588E368F1

/-- Two entries against a pair of limits of SH_CAL_LIM. -/
def State.calWithin (s : State) (a b : Nat) (rot trn : Fld) : Bool :=
  rotWithin a b (s.rf rSH_CAL_LIM rot) && trnWithin a b (s.rf rSH_CAL_LIM trn)

def State.calTotal (s : State) (a b : Nat) : Bool := s.calWithin a b fSH_CAL_LIM_ROT_TOT_MDEG fSH_CAL_LIM_TRN_TOT_MM
def State.calStep (s : State) (a b : Nat) : Bool := s.calWithin a b fSH_CAL_LIM_ROT_STEP_MDEG fSH_CAL_LIM_TRN_STEP_MM

/-! ## Copies (R222) -/

/-- The bytes of a calibration copy: its header with the grid fields, then the entries. -/
def ShCfg.calCopy (c : ShCfg) (ver first : Nat) (ents : List Nat) : List Byte :=
  leBytes 8 ver ++ leBytes 8 first ++ leBytes 28 (c.at 88 28) ++ leBytes 20 0 ++ ents.flatMap (leBytes 64)

/-- A hub write, checked by R157 against the table of a context; the write that fails drops
what it belongs to. [DEDUCED, log entry 41] -/
def State.hubWrite (s : State) (c a : Nat) (bs : List Byte) : State × Bool :=
  match s.engWrite c a bs with
  | (s1, none) => (s1, true)
  | (s1, some _) => (s1, false)

/-- UNSAVED follows CAL_VER and SH_CAL_SAVED (Table 9.16). [DEDUCED, log entry 49] -/
def State.setUnsaved (s : State) : State :=
  s.wf rSH_CAL_STAT fSH_CAL_STAT_UNSAVED
    (bit (decide (s.rf rSH_CAL_SAVED fSH_CAL_SAVED_SAVED < s.rf rSH_CAL_STAT fSH_CAL_STAT_CAL_VER)))

/-- A rejected proposal counts, with its reason (R225). -/
def State.calReject (s : State) (r : Nat) : State :=
  (s.bump rSH_CAL_STAT fSH_CAL_STAT_REJ_CNT 1).wf rSH_CAL_STAT fSH_CAL_STAT_LAST_REJ r

/-- A version whose copy is written becomes the newest, from a first instant on. -/
def State.calNewest (s1 : State) (ver first : Nat) (ents : List Nat) : State :=
  let s2 := s1.modSh (fun h => { h with cals := ((ver, first) :: h.cals).take 4, cal := ents })
  (s2.wf rSH_CAL_STAT fSH_CAL_STAT_CAL_VER ver).setUnsaved

/-- The copy of a version is written (R222); false where the write is refused (R201). -/
def State.calCopied (s : State) (ver first : Nat) (ents : List Nat) : State × Bool :=
  s.hubWrite s.sh.cfg.ctx (s.sh.cfg.calAddr ver) (s.sh.cfg.calCopy ver first ents)

/-- A version becomes the newest, from a first instant on. -/
def State.calVersion (s : State) (ver first : Nat) (ents : List Nat) : State :=
  (s.calCopied ver first ents).1.calNewest ver first ents

/-- The start calibration at enable: the start table, or the factory values where an enrolled
sensor's entry fails the total limits (R222). -/
def State.calStart (s : State) (start : List Nat) : State :=
  let c := s.sh.cfg
  let good := (List.range c.nsens).all (fun n => senKind (c.sen n) == 0 || s.calTotal (start[n]?.getD 0) (c.fact[n]?.getD 0))
  let ver := c.at 80 4
  if good then s.calVersion ver 0 start
  else (s.setFlag rSH_EVT fSH_EVT_CAL_RESET).calVersion ((ver + 1) % 2 ^ 32) 0 c.fact

/-! ## Proposals (R223–R225) -/

/-- Entry `i` of a proposal payload: its sensor, and its Q and T as a calibration entry's first
28 bytes. -/
def propSensor (p i : Nat) : Nat := bytesOf p (8 + 32 * i) 1
def propQT (p i : Nat) : Nat := bytesOf p (12 + 32 * i) 28

/-- The entry a proposal gives a sensor: intrinsics are never changed. -/
def propApply (old qt : Nat) : Nat := old / 256 ^ 28 * 256 ^ 28 + qt

def noDup : List Nat → Bool
  | [] => true
  | a :: r => !(r.contains a) && noDup r

/-- The reason that rejects a proposal, by the order of Table 9.11; 0 when it is accepted. [DEDUCED, log entry 47; DEDUCED, log entry 49] -/
def State.calReason (s : State) (p : Nat) : Nat :=
  let h := s.sh
  let ver := s.rf rSH_CAL_STAT fSH_CAL_STAT_CAL_VER
  let nent := bytesOf p 4 2
  let idx := List.range nent
  let sens := idx.map (propSensor p)
  let new := fun i => propApply (h.cal[propSensor p i]?.getD 0) (propQT p i)
  if bytesOf p 0 4 != ver then 1
  else if h.lastAcc.any (fun t => decide (s.rf rSH_INSTANT fSH_INSTANT_NEXT - t < h.cfg.calEvery)) then 2
  else if !(between 1 nent 27) || !(noDup sens) || sens.any (fun n => senKind (h.cfg.sen n) == 0) then 3
  else if idx.any (fun i => !(calNormOk (new i))) then 4
  else if idx.any (fun i => !(s.calStep (h.cal[propSensor p i]?.getD 0) (new i))) then 5
  else if idx.any (fun i => !(s.calTotal (h.cfg.fact[propSensor p i]?.getD 0) (new i))) then 6
  else if h.cals.any (fun v => v.1 % 4 == (ver + 1) % 4 && decide (s.rf rSH_FREE_BEFORE fSH_FREE_BEFORE_FREE_BEFORE ≤ v.2)) then 7
  else if s.rf rSH_CAL_SAVED fSH_CAL_SAVED_SAVED < ver then 8
  else 0

/-- The next window to open (R225). -/
def State.nextWindow (s : State) : Nat :=
  match s.winOf s.dtime with
  | some w => w + 1
  | none => 0

/-- A switch of CAL_SLOT: the proposal in its payload is judged (R223–R225). One whose copy may not be written (R201) is rejected
as HELD. [DEDUCED, log entry 49] -/
def State.calProposal (s : State) (p : Nat) : State :=
  let r := s.calReason p
  if r = 0 then
    let ver := (s.rf rSH_CAL_STAT fSH_CAL_STAT_CAL_VER + 1) % 2 ^ 32
    let ents := (List.range (bytesOf p 4 2)).foldl
      (fun l i => modAt l (propSensor p i) (fun old => propApply old (propQT p i))) s.sh.cal
    let w := s.calCopied ver s.nextWindow ents
    if w.2 then
      ((w.1.modSh (fun h => { h with lastAcc := some (s.rf rSH_INSTANT fSH_INSTANT_NEXT) })).calNewest ver s.nextWindow ents).raiseIrq irqSH
    else w.1.calReject 7
  else s.calReject r

end Sys2Proof.Machine
end

