-- ==== Sys2Proof/Machine/Sensor.lean ====
section
/-!
DEFINITION. Sensor intake (R202, R206–R212, R218–R221): camera frames, packets, series
records, stamps, counters and slots.
-/
namespace Sys2Proof.Machine

/-! ## Sensors -/

def State.sens (s : State) (n : Nat) : Sens := s.sh.sens[n]?.getD {}
def State.modSens (s : State) (n : Nat) (f : Sens → Sens) : State :=
  s.modSh (fun h => { h with sens := modAt h.sens n f })
/-- Raw entry of sensor `n`. -/
def State.senE (s : State) (n : Nat) : Nat := s.sh.cfg.sen n

/-- A dropped sample or packet counts (Table 9.20). -/
def State.senErr (s : State) (n : Nat) : State := s.bump (rSH_SENS_CNT n) fSH_SENS_CNT_ERR_CNT 1
def State.senLate (s : State) (n : Nat) : State := s.bump (rSH_SENS_CNT n) fSH_SENS_CNT_LATE_CNT 1

/-- COUNTER of a sample that starts (R210): its value, and the state that has used it. -/
def State.takeCounter (s : State) (n : Nat) : Nat × State :=
  let c := (s.sens n).counter
  (c, (s.modSens n (fun x => { x with counter := (c + 1) % 2 ^ 32 })).wf (rSH_SENS_STAT n) fSH_SENS_STAT_LAST_COUNTER c)

/-! ## Slots (R212) -/

/-- The slot may not be reused under GUARD. -/
def State.slotHeld (s : State) (n x : Nat) : Bool :=
  s.flag rSH_CFG fSH_CFG_GUARD
  && ((s.sens n).busy.contains x
      || (match mapGet (s.sens n).held x with
          | some i => decide (s.rf rSH_FREE_BEFORE fSH_FREE_BEFORE_FREE_BEFORE ≤ i)
          | none => false))

/-- The next slot in ring order that is not held. In Tadpole mode samples stand in no ring. -/
def State.findSlot (s : State) (n : Nat) : Option Nat :=
  let cnt := senCount (s.senE n)
  if s.sh.tad.on then some 0
  else ((List.range cnt).map (fun i => ((s.sens n).pos + i) % cnt)).find? (fun x => !(s.slotHeld n x))

def State.useSlot (s : State) (n x : Nat) : State :=
  s.modSens n (fun y => { y with pos := x + 1, busy := setIns y.busy x, held := mapDel y.held x })

def State.freeSlot (s : State) (n x : Nat) : State := s.modSens n (fun y => { y with busy := setDel y.busy x })
def State.freeSlotO (s : State) (n : Nat) (x : Option Nat) : State :=
  match x with
  | some x => s.freeSlot n x
  | none => s

def State.slotAddr (s : State) (n x : Nat) : Addr := senBase (s.senE n) + x * senBytes (s.senE n)

/-- A write of sample bytes: checked (R201), and dropped in Tadpole mode, which records its
samples instead (R411). -/
def State.senWrite (s : State) (a : Addr) (bs : List Byte) : State × Bool :=
  if s.sh.tad.on then (s, true) else s.hubWrite s.sh.cfg.ctx a bs

/-! ## Stamps and lineage (R210, R211) -/

/-- A sample has been stamped: from now on DTIME only slews (R20). [DEDUCED, log entry 46] -/
def State.stamped (s : State) : State := s.modTime (fun t => { t with stamped := true })

/-- An integer as a 64-bit or 32-bit two's complement number. -/
def to64 (v : Int) : Nat := (v % 2 ^ 64).toNat
def sat32 (v : Int) : Nat := (max (-2147483648) (min 2147483647 v) % 2 ^ 32).toNat

def flPARTIAL : Nat := 1
def flUNSYNCED : Nat := 2
def flTRIGGERED : Nat := 4
def flOWN_TIME : Nat := 8

/-- The lineage header of Table 9.5. -/
def lineage (n kind flags counter : Nat) (stamp : Int) (crc len ver pair : Nat) : List Byte :=
  leBytes 1 n ++ leBytes 1 kind ++ leBytes 2 flags ++ leBytes 4 counter ++ leBytes 8 (to64 stamp)
    ++ leBytes 4 crc ++ leBytes 4 len ++ leBytes 4 ver ++ leBytes 4 pair

/-- The lineage of a sample of sensor `n` that covers some bytes. -/
def State.lineageOf (s : State) (n flags counter : Nat) (stamp : Int) (bs : List Byte) (win pair : Nat) : List Byte :=
  lineage n (senKind (s.senE n)) flags counter stamp (crc32c bs) bs.length (s.sh.calOf win) pair

/-- The window a stamp lies in has been released (R215). -/
def State.released (s : State) (win : Nat) : Bool := decide (win < s.rf rSH_INSTANT fSH_INSTANT_NEXT)

/-- Put an item into Tadpole mode's list (R411). -/
def State.tadItem (s : State) (win item : Nat) (lin data : List Byte) : State :=
  if s.sh.tad.on then
    s.modSh (fun h => { h with tad := { h.tad with items := h.tad.items ++ [{ win := win, item := item, lin := leNat lin, data := data }] } })
  else s

/-! ## Streams (R202, R411) -/

/-- The sensor that is stream (port, virtual channel, data type). -/
def State.streamOf (s : State) (cam vc dt : Nat) : Option Nat :=
  (List.range s.sh.cfg.nsens).find? (fun n =>
    let e := s.senE n
    senKind e == kCAMERA && senSource e == cam && bytesOf e 2 1 == vc && bytesOf e 3 1 == dt)

/-- The sensor of a kind and source, other than a camera. -/
def State.sourceOf (s : State) (kind src : Nat) : Option Nat :=
  (List.range s.sh.cfg.nsens).find? (fun n => senKind (s.senE n) == kind && senSource (s.senE n) == src)

/-- A raw sensor entry as Tadpole mode enrols a source: 128-byte slots, a nominal period of
PERIOD_US, WAIT for cameras. -/
def tadEntry (kind src vc dt : Nat) : Nat :=
  kind + src * 256 + vc * 2 ^ 16 + dt * 2 ^ 24 + (if kind = kCAMERA then 2 ^ 32 else 0) + 50000 * 2 ^ 128
    + 128 * 2 ^ 320 + 2 * 2 ^ 352

/-- Enrol a source that Tadpole mode meets for the first time. [DESIGN CHOICE, log entry 50] -/
def State.tadEnrol (s : State) (kind src vc dt : Nat) : State :=
  if s.sh.tad.on ∧ s.sh.cfg.nsens < 64 then
    s.modSh (fun h =>
      { h with
        cfg := { h.cfg with hdr := setBits h.cfg.hdr 23 16 (h.cfg.nsens + 1), sens := h.cfg.sens ++ [tadEntry kind src vc dt] }
        sens := h.sens ++ [{}] })
  else s

/-- The state in which a stream is enrolled, where Tadpole mode enrols it by itself. [DESIGN CHOICE, log entry 50] -/
def State.seeStream (s : State) (cam vc dt : Nat) : State :=
  if (s.streamOf cam vc dt).isNone then s.tadEnrol kCAMERA cam vc dt else s

/-- [DESIGN CHOICE, log entry 50] -/
def State.seeSource (s : State) (kind src : Nat) : State :=
  if (s.sourceOf kind src).isNone then s.tadEnrol kind src 0 0 else s

/-! ## Cameras (R202, R211, R218) -/

/-- What trace records say of a sample of sensor `n` (Table 20.3). -/
def State.senCmd (s : State) (n counter : Nat) : TraceCmd := { ctx := s.sh.cfg.ctx, descId := counter, aux := n }

/-- A trace event of a camera's frame, on its port's engine ID. [DEDUCED, log entry 96] -/
def State.camTrace (s : State) (n ev counter : Nat) : State :=
  s.traceEvent (184 + senSource (s.senE n) % 16) ev (s.senCmd n counter)

/-- A camera's port moved `n` bytes for its frame (R434); in Tadpole mode it writes none. -/
def State.camMoved (s : State) (n len : Nat) : State :=
  if s.sh.tad.on then s else s.moved (184 + senSource (s.senE n) % 16) len

/-- The open frame of a sensor is dropped and counted. [DEDUCED, log entry 43] -/
def State.dropFrame (s : State) (n : Nat) : State :=
  match (s.sens n).frame with
  | some f => (((s.freeSlot n f.slot).modSens n (fun x => { x with frame := none })).senErr n).camTrace n evEND f.counter
  | none => s

/-- Stamp and flags of a frame start; none where trigger mode knows no edge for it (R211, R218). -/
def State.frameStamp (s : State) (n : Nat) : Option (Int × Nat) :=
  let e := s.senE n
  if s.sh.cfg.trig then
    match (s.sh.edges[senSource e]?).getD none with
    | some t => if t ≤ s.dtime ∧ s.dtime ≤ t + senFrame e then some ((t : Int) + senAdj e, flTRIGGERED) else none
    | none => none
  else some ((s.dtime : Int) + senAdj e, 0)

/-- A frame-start packet of an enrolled stream; a frame that is dropped there and then ends at once (Table 20.3). -/
def State.frameStart (s : State) (n : Nat) : State :=
  let s0 := s.dropFrame n
  let p := s0.takeCounter n
  match p.2.frameStamp n, p.2.findSlot n with
  | some (t, fl), some x =>
    (((p.2.useSlot n x).modSens n (fun y =>
      { y with frame := some { counter := p.1, stamp := t, flags := fl, slot := x, lines := [], bad := false } })).stamped).camTrace
        n evBEGIN p.1
  | _, _ => ((p.2.camTrace n evBEGIN p.1).senErr n).camTrace n evEND p.1

/-- Payload bytes of a frame so far. -/
def Frame.bytes (f : Frame) : List Byte := f.lines.reverse.flatten

/-- A long packet of an open frame: written raw, or kept for the front end (R203). [DEDUCED, log entry 43] -/
def State.pixelPacket (s : State) (n : Nat) (data : List Byte) (fault : Bool) : State :=
  match (s.sens n).frame with
  | none => s
  | some f =>
    let len := f.bytes.length
    let raw := senFeMode (s.senE n) == 0
    let tooBig := raw && !s.sh.tad.on && decide (senBytes (s.senE n) < 64 + len + data.length)
    let w := if raw && !tooBig then (s.camMoved n data.length).senWrite (s.slotAddr n f.slot + 64 + len) data else (s, true)
    w.1.modSens n (fun y =>
      { y with frame := some { f with lines := data :: f.lines, bad := f.bad || fault || tooBig || !w.2 } })

/-- The line count fits the crop's source height (R202); a pass-through stream with HEIGHT 0
names none. [DEDUCED, log entry 43] -/
def State.linesOk (s : State) (n : Nat) (f : Frame) : Bool :=
  let p := s.sh.cfg.fe n
  if p.mode = 0 then p.h == 0 || f.lines.length == p.cropY + p.srcH
  else f.lines.length == p.cropY + p.srcH && p.cropThere f.lines.reverse

/-- Output bytes behind the slot header. [DEDUCED, log entry 43] -/
def State.frameOut (s : State) (n : Nat) (f : Frame) : List Byte :=
  if senFeMode (s.senE n) = 0 then f.bytes else (s.sh.cfg.fe n).frame f.lines.reverse

/-- A complete frame becomes its window's sample; an earlier one of that window is superseded. -/
def State.enterFrame (s : State) (n win : Nat) (f : Frame) : State :=
  let lin := s.lineageOf n f.flags f.counter f.stamp f.bytes win 0
  let out := s.frameOut n f
  let bs := lin ++ leBytes 32 0 ++ (if senFeMode (s.senE n) = 0 then [] else out)
  let w := (s.camMoved n bs.length).senWrite (s.slotAddr n f.slot) bs
  if !w.2 then (w.1.freeSlot n f.slot).senErr n
  else
    let old := (w.1.sens n).samples.find? (fun x => x.win == win)
    let s1 := w.1.freeSlotO n (old.bind (·.slot))
    let sm : Sample :=
      { win := win, counter := f.counter, stamp := f.stamp, flags := f.flags, slot := some f.slot, lin := leNat lin
        len := 64 + out.length }
    let s2 := s1.modSens n (fun y =>
      { y with samples := y.samples.filter (fun x => x.win != win) ++ [sm]
               busy := setIns y.busy f.slot })
    s2.tadItem win 1 lin f.bytes

/-- A frame-end packet (R202, R215). -/
def State.frameEnd (s : State) (n : Nat) : State :=
  match (s.sens n).frame with
  | none => s
  | some f =>
    if f.bad || !s.linesOk n f || decide (f.stamp + 2 * senFrame (s.senE n) < s.dtime) then s.dropFrame n
    else
      let s1 := s.modSens n (fun x => { x with frame := none })
      let s2 := match s1.winOf f.stamp with
        | none => s1.freeSlot n f.slot
        | some w => if s1.released w then (s1.freeSlot n f.slot).senLate n else s1.enterFrame n w f
      s2.camTrace n evEND f.counter

/-! ## The sensor clock (R219, R220) -/

/-- 64-bit two's complement. -/
def s64Wrap (v : Int) : Int := signedOf 64 (to64 v)
def clampI (v lo hi : Int) : Int := max lo (min hi v)

/-- The stamp an estimate predicts for a sensor time. -/
def Est.pred (e : Est) (ts : Int) : Int := s64Wrap (s64Wrap (ts + e.off) + (s64Wrap ((ts - e.t0) * e.rate)).tdiv 1000000000)

/-- The estimate after a later sample, and its residual. -/
def Est.next (e : Est) (ts arr lat res : Int) : Est × Int :=
  let err := clampI (s64Wrap (arr - lat - e.pred ts)) (-1000000000) 1000000000
  let rate := if ts = e.tprev then e.rate
    else clampI (s64Wrap (e.rate + ((err * 1000000000).tdiv (ts - e.tprev)).tdiv 256)) (-1000000) 1000000
  ({ e with off := s64Wrap (e.off + err.tdiv 16), rate := rate, tprev := ts }, s64Wrap (res + (err - res).tdiv 16))

def ckSYNCED : Nat := 0
def ckRESYNC : Nat := 1
def ckUNSYNCED : Nat := 2
def ckEXCLUDED : Nat := 3

/-- The clock state after a sample, with the count of samples towards its next test (Table 9.9):
`f` and `x` are the limits F and X. [DEDUCED, log entry 46] -/
def clockNext (clock cnt : Nat) (res : Int) (f x : Nat) : Nat × Nat :=
  let a := res.natAbs
  if x < a then (ckEXCLUDED, 0)
  else if clock = ckSYNCED then (if f < a then (ckRESYNC, 0) else (ckSYNCED, 0))
  else if clock = ckRESYNC then
    (if cnt + 1 < 16 then (ckRESYNC, cnt + 1) else if a ≤ f then (ckSYNCED, 0) else (ckUNSYNCED, 0))
  else
    let lim := if clock = ckUNSYNCED then f else x
    if lim < 2 * a then (clock, 0)
    else if cnt + 1 < 64 then (clock, cnt + 1)
    else (if clock = ckUNSYNCED then ckSYNCED else ckUNSYNCED, 0)

/-- A sensor after a sample of its own clock, and the prediction of its stamp. -/
def Sens.ownTime (x : Sens) (e : Nat) (ts arr : Int) : Sens × Int :=
  let lat : Int := senLat e
  let r := match x.est with
    | none => (({ off := s64Wrap (arr - lat - ts), rate := 0, t0 := ts, tprev := ts } : Est), (0 : Int), arr - lat)
    | some est => ((est.next ts arr lat x.res).1, (est.next ts arr lat x.res).2, est.pred ts)
  let c := clockNext x.clock x.cnt r.2.1 (senFrame e) (senExcl e)
  let est := if x.clock = ckSYNCED ∧ c.1 = ckRESYNC then none else some r.1
  ({ x with est := est, res := r.2.1, clock := c.1, cnt := c.2 }, r.2.2)

/-- An own-clock sample arrives now (R211, R219–R221): its stamp and flags, and the state after
the estimator's update. [DEDUCED, log entry 46] -/
def State.ownStamp (s : State) (n : Nat) (ts : Nat) : State × Int × Nat :=
  let old := s.sens n
  let u := old.ownTime (s.senE n) ts s.dtime
  let s1 := (s.modSens n (fun _ => u.1)).wf (rSH_SENS_STAT n) fSH_SENS_STAT_RESID_NS (sat32 u.1.res)
  let s2 := if u.1.clock = old.clock then s1
    else ((s1.wf rSH_STATUS { hi := n, lo := n } 1).wf (rSH_SENS_CNT n) fSH_SENS_CNT_CLOCK u.1.clock)
  if old.clock = ckRESYNC ∨ old.clock = ckUNSYNCED then (s2, (s.dtime : Int) - senLat (s.senE n), flUNSYNCED)
  else (s2, u.2, flOWN_TIME)

/-! ## Series records (R208–R210) -/

/-- Sequence numbers received without a gap from `u` on: the first missing one. -/
def runEnd (l : List (Int × Int)) : Nat → Int → Int
  | 0, u => u
  | f + 1, u => if l.any (fun p => p.1 == u) then runEnd l f (u + 1) else u

/-- A packet or record that came makes the sample complete (R213). -/
def Undone.done (x : Undone) (stamp : Int) : Bool :=
  if x.sbits = 0 then decide (x.stop ≤ stamp)
  else
    let e := runEnd x.recv x.recv.length x.lo
    x.recv.any (fun p => decide (x.lo ≤ p.1 ∧ p.1 < e ∧ x.stop ≤ p.2))

/-- Samples of released instants that a packet or record of a stamp completes are LATE (R215); `u` is its unwrapped number. -/
def State.lateDone (s : State) (n : Nat) (u stamp : Int) : State :=
  let l := (s.sens n).undone.map (fun x => { x with recv := x.recv.filter (fun p => p.1 != u) ++ [(u, stamp)] })
  (l.filter (fun x => x.done stamp)).foldl (fun y _ => y.senLate n)
    (s.modSens n (fun y => { y with undone := l.filter (fun x => !x.done stamp) }))

/-- A series record with its counter taken, its stamp, and its payload; `item` is its kind in
Tadpole mode, which keeps it whole (R411). -/
def State.serRecord (s : State) (n counter : Nat) (stamp : Int) (flags : Nat) (data : List Byte) (item : Nat) : State :=
  let s0 := ((s.stamped).modSens n (fun y =>
    { y with latest := some (match y.latest with
        | some t => max t stamp
        | none => stamp) })).lateDone n 0 stamp
  match s0.winOf stamp with
  | none => s0
  | some w =>
    if s0.released w then s0.senLate n
    else
      match s0.findSlot n with
      | none => s0.senErr n
      | some x =>
        let lin := s0.lineageOf n flags counter stamp data w 0
        let kept := data.take 96
        let bs := lin ++ kept ++ leBytes (96 - kept.length) 0
        let wr := (s0.useSlot n x).senWrite (s0.slotAddr n x) bs
        if !wr.2 then (wr.1.freeSlot n x).senErr n
        else
          (wr.1.modSens n (fun y =>
            { y with recs := y.recs ++ [{ win := w, stamp := stamp, idx := x, counter := counter, flags := flags, bytes := leNat bs }] })).tadItem
              w item lin data

/-- A record whose counter is taken as it begins, now. -/
def State.newRecord (s : State) (n : Nat) (stamp : Int) (flags : Nat) (data : List Byte) (item : Nat) : State :=
  let p := s.takeCounter n
  p.2.serRecord n p.1 stamp flags data item

/-! ## Sweeps (R207) -/

/-- A sequence number unwrapped beside the last one. -/
def Sens.unwrap (x : Sens) (b seq : Nat) : Int :=
  match x.last with
  | some (q, u) => u + signedOf b ((seq + 2 ^ b - q % 2 ^ b) % 2 ^ b)
  | none => seq

/-- Note a received packet: its stamp, and its unwrapped number where it has one. -/
def Sens.seen (x : Sens) (b seq : Nat) (stamp : Int) : Sens :=
  let u := x.unwrap b seq
  let y := { x with latest := some (match x.latest with
      | some t => max t stamp
      | none => stamp) }
  if b = 0 then y
  else
    { y with
      recv := y.recv.filter (fun p => p.1 != u) ++ [(u, stamp)]
      last := match x.last with
        | some (q, v) => if v < u then some (seq, u) else some (q, v)
        | none => some (seq, u) }

def State.sampleOf (s : State) (n win : Nat) : Option Sample := (s.sens n).samples.find? (fun x => x.win == win)
def State.modSample (s : State) (n win : Nat) (f : Sample → Sample) : State :=
  s.modSens n (fun y => { y with samples := y.samples.map (fun x => if x.win = win then f x else x) })

/-- The first packet of a sweep starts its sample; with every slot held the sample is dropped. -/
def State.openSweep (s : State) (n mac win : Nat) (stamp : Int) (b seq : Nat) (u : Int) : State :=
  if (s.sampleOf n win).isSome then s
  else
    let p := s.takeCounter n
    let slot := p.2.findSlot n
    let sm : Sample := { win := win, counter := p.1, stamp := stamp, flags := 0, slot := slot, first := seq, sbits := b, lo := u, mac := mac }
    let s1 := (p.2.modSens n (fun y => { y with samples := y.samples ++ [sm] })).traceEvent (200 + mac % 4) evBEGIN (p.2.senCmd n p.1)
    match slot with
    | some x => s1.useSlot n x
    | none => s1.senErr n

/-- Place of a packet in its sample, relative to the first packet. -/
def Sample.rel (x : Sample) (seq : Nat) : Int :=
  if x.sbits = 0 then x.arrived
  else signedOf x.sbits ((seq + 2 ^ x.sbits - x.first % 2 ^ x.sbits) % 2 ^ x.sbits)

/-- Packets in ascending order of their place. -/
def insPacket : List Packet → Packet → List Packet
  | [], p => [p]
  | q :: r, p => if p.rel < q.rel then p :: q :: r else q :: insPacket r p

/-- The sample of a window is dropped and counted: its slot is free again (R201). -/
def State.dropSample (s : State) (n win slot : Nat) : State :=
  ((s.modSample n win (fun x => { x with slot := none, pkts := [] })).freeSlot n slot).senErr n

/-- A packet of an open sweep sample is stored at its place (R207); what lies CAP or more past the lowest goes. -/
def State.storePacket (s : State) (n win tpl : Nat) (sm : Sample) (slot : Nat) (stamp : Int) (flags seq : Nat)
    (u : Int) (data : List Byte) : State :=
  let r := sm.rel seq
  let low := match sm.pkts with
    | p :: _ => min r p.rel
    | [] => r
  let cap := (senBytes (s.senE n) - 64) / tplStride tpl
  let s1 := s.modSample n win (fun x => { x with arrived := x.arrived + 1, lo := if x.sbits = 0 then x.lo else min x.lo u })
  if sm.pkts.any (fun p => p.rel == r) then s1.senErr n
  else if (cap : Int) ≤ r - low then (s1.modSample n win (fun x => { x with hole := true })).senErr n
  else
    let far := sm.pkts.filter (fun p => decide ((cap : Int) ≤ p.rel - r))
    let s1 := far.foldl (fun y _ => y.senErr n) (s1.modSample n win (fun x =>
      { x with pkts := x.pkts.filter (fun p => decide (p.rel - r < (cap : Int))), hole := x.hole || !far.isEmpty }))
    let q := if sm.sbits = 0 then r.toNat else seq
    let bs := leBytes 4 q ++ leBytes 2 data.length ++ leBytes 2 flags ++ leBytes 8 (to64 stamp) ++ data
    let w := (if s.sh.tad.on then s1 else s1.moved (200 + sm.mac % 4) bs.length).senWrite
      (s1.slotAddr n slot + 64 + q % cap * tplStride tpl) bs
    if !w.2 then w.1.dropSample n win slot
    else w.1.modSample n win (fun x =>
      { x with pkts := insPacket x.pkts { rel := r, seq := q, data := data }, flags := Nat.lor x.flags flags })

/-- A matched sweep packet (R207, R215). [DEDUCED, log entry 46] -/
def State.sweepPacket (s : State) (n tpl mac : Nat) (stamp : Int) (flags seq : Nat) (data : List Byte) : State :=
  let b := tplSeqBits tpl
  let s0 := (s.stamped).lateDone n ((s.sens n).unwrap b seq) stamp
  match s0.winOf stamp with
  | none => s0
  | some w =>
    if s0.released w then s0.senLate n
    else
      let u := (s0.sens n).unwrap b seq
      let s1 := (s0.modSens n (fun y => y.seen b seq stamp)).openSweep n mac w stamp b seq u
      match s1.sampleOf n w with
      | some sm =>
        (match sm.slot with
         | some x => s1.storePacket n w tpl sm x stamp flags seq u data
         | none => s1)
      | none => s1

/-! ## Ethernet (R206) -/

def beNat (l : List Byte) : Nat := l.foldl (fun a b => a * 256 + b.toNat) 0
def slice (l : List Byte) (o n : Nat) : List Byte := (l.drop o).take n

/-- The first template a datagram matches. -/
def ShCfg.matchTpl (c : ShCfg) (rx : EthRx) : Option Nat :=
  c.tpl.find? (fun t =>
    let mask := bytesOf t 20 4
    Nat.testBit (bytesOf t 0 1 % 16) rx.mac && bytesOf t 2 2 == rx.dport && (bytesOf t 4 2 == 0 || bytesOf t 4 2 == rx.sport)
    && Nat.land rx.src mask == Nat.land (bytesOf t 16 4) mask)

/-- Sensor time of a payload in nanoseconds (Table 9.4). -/
def tplTime (t : Nat) (p : List Byte) : Nat :=
  let o := bytesOf t 14 2
  let rd := fun (o n : Nat) => if Nat.testBit (bytesOf t 13 1) 3 then leNat (slice p o n) else beNat (slice p o n)
  match tplTimeFmt t with
  | 1 => rd o 8
  | 2 => rd o 4 * 1000000000 + rd (o + 4) 4
  | _ => rd o 8 * 1000

/-- A matched datagram that R206 drops. -/
def tplDrops (t : Nat) (p : List Byte) : Bool :=
  let n := p.length
  !(between (bytesOf t 6 2) n (bytesOf t 8 2))
  || decide (n < bytesOf t 10 2 + tplSeqBits t / 8)
  || (tplTimeFmt t != 0 && (decide (n < bytesOf t 14 2 + 8) || decide (2 ^ 63 - 1 < tplTime t p)))

/-- A datagram taken by a template. -/
def State.datagram (s : State) (t mac : Nat) (p : List Byte) : State :=
  let n := tplSensor t
  if tplDrops t p then s.senErr n
  else
    let seq := beNat (slice p (bytesOf t 10 2) (tplSeqBits t / 8))
    let st := if tplTimeFmt t = 0 then (s, (s.dtime : Int) + senAdj (s.senE n), 0) else s.ownStamp n (tplTime t p)
    let data := slice p (tplCopyOff t) (tplCopyLen t)
    if senKind (s.senE n) = kSWEEP then st.1.sweepPacket n t mac st.2.1 st.2.2 seq data
    else st.1.newRecord n st.2.1 st.2.2 (data.take 96) 3

/-- A frame on a hub MAC (R206, Table 21.1): what fails a check counts in RX_ERR; a datagram that
no template takes goes to the MAC's ordinary receive path. [DESIGN CHOICE, log entry 45] -/
def State.ethFrame (s : State) (rx : EthRx) : State :=
  if !(rx.fcs && rx.sums && between 64 rx.len 9022) then s.bump (rIO_MAC_CNT rx.mac) fIO_MAC_CNT_RX_ERR 1
  else if s.sh.on && s.sh.tad.on && rx.udp then
    let s1 := s.seeSource kETHSER rx.mac
    match s1.sourceOf kETHSER rx.mac with
    | some n => s1.newRecord n s1.dtime 0 rx.data 3
    | none => s1
  else
    match (if s.sh.on && rx.udp then s.sh.cfg.matchTpl rx else none) with
    | some t => s.datagram t rx.mac rx.data
    | none =>
      if rx.room then s.modSh (fun h => { h with macRx := { mac := rx.mac, data := rx.data } :: h.macRx })
      else s.bump (rIO_MAC_CNT rx.mac) fIO_MAC_CNT_RX_DROP 1

/-! ## SPI and UART (R208, R209) -/

/-- A transfer of an SPI sensor starts: its record begins. [DESIGN CHOICE, log entry 45] -/
def State.spiStart (s : State) (n : Nat) : State :=
  let p := s.takeCounter n
  let par := (s.sh.cfg.param[n]?).getD 0
  let s1 := p.2.modSens n (fun y => { y with xfer := some (p.1, (s.dtime : Int) + senAdj (s.senE n)) })
  s1.emit (.spi (senSource (s.senE n)) ((leBytes 8 (bytesOf par 4 8)).take (bytesOf par 0 1)))

/-- A DRDY edge of line `line` at sensor `n`. -/
def State.drdy (s : State) (line n : Nat) : State :=
  let e := s.senE n
  if senKind e = kSPI ∧ senDrdy e = true ∧ bytesOf ((s.sh.cfg.param[n]?).getD 0) 12 1 = line then
    (if (s.sens n).xfer.isSome then s.senErr n else s.spiStart n)
  else s

/-- A transfer completes: its bytes become one record. -/
def State.spiDone (s : State) (n : Nat) (data : List Byte) : State :=
  match (s.sens n).xfer with
  | some (c, t) =>
    let len := bytesOf ((s.sh.cfg.param[n]?).getD 0) 1 1
    (s.modSens n (fun y => { y with xfer := none })).serRecord n c t 0 ((data ++ leBytes len 0).take len) 4
  | none => s

/-- Bytes framed as one record by a transfer block (R209). -/
def uartFramed (p : Nat) (d : List Byte) : Bool :=
  if bytesOf p 0 1 = 0 then d.getLast? == some 10 && !(d.dropLast.contains 10)
  else
    let o := bytesOf p 3 1
    let n := bytesOf p 4 1
    leNat (d.take 2) == bytesOf p 1 2 && decide (2 ≤ d.length ∧ o + n ≤ d.length)
      && decide (leNat (slice d o n) + bytesOf p 5 1 = d.length)

/-- A record of a UART sensor, first byte received `ago` ns ago. [DESIGN CHOICE, log entry 45] -/
def State.uartRecord (s : State) (n : Nat) (data : List Byte) (ago : Nat) (fault : Bool) : State :=
  let t : Int := (s.dtime : Int) - ago + senAdj (s.senE n)
  let p := s.takeCounter n
  if fault || decide (96 < data.length) then p.2.senErr n else p.2.serRecord n p.1 t 0 data 4

/-! ## PPS (R209) -/

/-- A PPS edge enters every PPS series. [DEDUCED, log entry 46] -/
def State.ppsRecords (s : State) : State :=
  let s0 := s.seeSource kPPS 0
  ((List.range s0.sh.cfg.nsens).filter (fun n => senKind (s0.senE n) == kPPS)).foldl
    (fun x n => x.newRecord n ((x.dtime : Int) + senAdj (x.senE n)) 0 [] 4) s0

end Sys2Proof.Machine
end

