-- ==== Sys2Proof/Machine/SkLink.lean ====
section
/-!
DEFINITION. The die links (R281–R287): connections and their bundles, widths, the registers that
show them, the quarantine log, and the sideband.
-/
namespace Sys2Proof.Machine

/-! ## Connections (R302) -/

def State.skConn (s : State) (n : Nat) : SkConn := s.sk.conns[n]?.getD {}
def State.modConn (s : State) (n : Nat) (f : SkConn → SkConn) : State :=
  s.modSk (fun k => { k with conns := modAt k.conns n f })
def State.modBundle (s : State) (n i : Nat) (f : SkBundle → SkBundle) : State :=
  s.modConn n (fun c => { c with bundles := modAt c.bundles i f })
def State.modDir (s : State) (n d : Nat) (f : SkDir → SkDir) : State :=
  s.modConn n (fun c => { c with dirs := modAt c.dirs d f })
def State.modSide (s : State) (n x : Nat) (f : SkSide → SkSide) : State :=
  s.modConn n (fun c => { c with sides := modAt c.sides x f })
def SkConn.bundle (c : SkConn) (i : Nat) : SkBundle := c.bundles[i]?.getD {}
def SkConn.dir (c : SkConn) (d : Nat) : SkDir := c.dirs[d]?.getD {}
def SkConn.side (c : SkConn) (x : Nat) : SkSide := c.sides[x]?.getD {}

/-- Bundles in each direction (Table 13.3). -/
def skBundles (n : Nat) : Nat := if n < 4 then 24 else if n < 8 then 8 else 1
/-- In-service bundles a direction needs (R286). -/
def skNeeds (n : Nat) : Nat := if n < 4 then 12 else if n < 8 then 4 else 1
def skWires (n : Nat) : Nat := if n < 8 then 68 else 18
def skFull (n : Nat) : Nat := if n < 8 then 64 else 16
/-- All wires good. -/
def skAllGood (n : Nat) : Nat := 2 ^ skWires n - 1
/-- The bundle numbers a connection has. -/
def skAll (n : Nat) : List Nat := (List.range 48).filter (fun i => decide (i % 24 < skBundles n))
def skHas (n i : Nat) : Bool := decide (n < 10) && decide (i < 48) && decide (i % 24 < skBundles n)

/-- The die whose connection to HUB this is. -/
def skDie (n : Nat) : Option Nat := if n < 4 then some n else if n = 8 ∨ n = 9 then some (n - 4) else none
/-- A die's connection to HUB. -/
def skHubConn (d : Nat) : Nat := if d < 4 then d else d + 4
/-- The dies a ring connection joins. -/
def skEnds (n : Nat) : Nat × Nat := (n - 4, (n - 3) % 4)
/-- A compute die's two ring connections. -/
def skRings (d : Nat) : List Nat := if d < 4 then (if d = 0 then [4, 7] else [3 + d, 4 + d]) else []

def skDOWN : Nat := 0
def skTEST : Nat := 1
def skAGREE : Nat := 2
def skUP : Nat := 3
def skQUAR : Nat := 4

def State.connState (s : State) (n : Nat) : Nat := s.rf (rSK_CONN_STATUS n) fSK_CONN_STATUS_STATE
def State.setConnState (s : State) (n v : Nat) : State := s.wf (rSK_CONN_STATUS n) fSK_CONN_STATUS_STATE v

def causeCLOCK : Nat := 1
def causeRESET : Nat := 2
def causeLINK : Nat := 3
def causeAGREE : Nat := 4
def causeTIMEOUT : Nat := 5
def causeFW : Nat := 6

/-! ## Widths (R281) -/

/-- Ones among the low `n` bits. -/
def onesBelow : Nat → Nat → Nat
  | 0, _ => 0
  | n + 1, m => bit (m.testBit n) + onesBelow n m

/-- The lowest `k` ones of `n` bits from bit `i` on; `none` when there are fewer. -/
def lowOnes : Nat → Nat → Nat → Nat → Option Nat
  | _, _, 0, _ => some 0
  | 0, _, _ + 1, _ => none
  | n + 1, i, k + 1, m =>
    if m.testBit i then (lowOnes n (i + 1) k m).map (· + 2 ^ i) else lowOnes n (i + 1) (k + 1) m

/-- Width code of an agreed map (Tables 13.1, 13.9). -/
def skWidth (n m : Nat) (clock : Bool) : Nat :=
  let good := onesBelow (skWires n) m
  if !clock then 0 else if skFull n ≤ good then 2 else if skFull n / 2 ≤ good then 1 else 0

/-- The wire that carries data position `p` (R282). -/
def skWireOf (n m p : Nat) : Option Nat :=
  ((List.range (skWires n)).filter (fun w => m.testBit w))[p]?

/-- The agreed map in force of a bundle. -/
def State.skMap (s : State) (n i : Nat) : Nat :=
  s.rf (rSK_MAP_LO n i) fSK_MAP_LO_GOOD + 2 ^ 64 * s.rf (rSK_MAP_HI n i) fSK_MAP_HI_GOOD_HI
def State.skWidthOf (s : State) (n i : Nat) : Nat := s.rf (rSK_MAP_HI n i) fSK_MAP_HI_WIDTH

/-- Enter an agreed map with its width. -/
def State.setMap (s : State) (n i m width : Nat) : State :=
  let s1 := s.wf (rSK_MAP_LO n i) fSK_MAP_LO_GOOD (m % 2 ^ 64)
  let s2 := s1.wf (rSK_MAP_HI n i) fSK_MAP_HI_GOOD_HI (m / 2 ^ 64)
  (s2.wf (rSK_MAP_HI n i) fSK_MAP_HI_BAD_CNT (skWires n - onesBelow (skWires n) m)).wf (rSK_MAP_HI n i)
    fSK_MAP_HI_WIDTH width

/-- In-service bundles of a direction. -/
def State.inService (s : State) (n d : Nat) : List Nat :=
  ((List.range (skBundles n)).map (· + 24 * d)).filter (fun i => ((s.skConn n).bundle i).live)

/-- SK_CONN_STATUS counts the bundles in service and those at HALF. -/
def State.showConn (s : State) (n : Nat) : State :=
  let half := fun (d : Nat) => ((s.inService n d).filter (fun i => s.skWidthOf n i == 1)).length
  let r := rSK_CONN_STATUS n
  (((s.wf r fSK_CONN_STATUS_INSVC_AB (s.inService n 0).length).wf r fSK_CONN_STATUS_INSVC_BA (s.inService n 1).length).wf
    r fSK_CONN_STATUS_HALF_AB (half 0)).wf r fSK_CONN_STATUS_HALF_BA (half 1)

/-- A direction has fallen below its minimum (R286). -/
def State.tooFew (s : State) (n : Nat) : Bool :=
  decide ((s.inService n 0).length < skNeeds n) || decide ((s.inService n 1).length < skNeeds n)

/-! ## The log (Table 13.10) -/

def evQUAR : Nat := 0
def evREJOIN : Nat := 1
def evREJOINFAIL : Nat := 2
def evFALLBACK : Nat := 3
def evRETRAINOUT : Nat := 4

/-- One event enters the log at NEXT. -/
def State.skLog (s : State) (n cause die ev : Nat) : State :=
  let j := s.rf rSK_QLOG_HEAD fSK_QLOG_HEAD_NEXT
  let w := n * 2 ^ 48 + cause * 2 ^ 44 + die * 2 ^ 40 + ev * 2 ^ 36
  let s1 := (s.setReg (rSK_QLOG_TIME j) (BitVec.ofNat 64 s.dtime)).setReg (rSK_QLOG_INFO j) (BitVec.ofNat 64 w)
  (s1.bump rSK_QLOG_HEAD fSK_QLOG_HEAD_TOTAL 1).wf rSK_QLOG_HEAD fSK_QLOG_HEAD_NEXT ((j + 1) % 16)

/-- The die a log entry names: that of the connection to HUB, or the A side of a ring. [DEDUCED, log entry 66] -/
def skLogDie (n : Nat) : Nat := (skDie n).getD (n - 4)

/-! ## Configuration in effect (Table 13.9) -/

/-- The fields of SK_CONN_CFG are taken at a test, and in each new millisecond. [DEDUCED, log entry 65] -/
def State.takeCfg (s : State) (n : Nat) (now : Bool) : State :=
  let ms := s.dtime / 1000000
  if now || ms != (s.skConn n).cfgAt then
    s.modConn n (fun c =>
      { c with lim := s.rf (rSK_CONN_CFG n) fSK_CONN_CFG_RETRAIN_LIM, rsp := s.rf (rSK_CONN_CFG n) fSK_CONN_CFG_RSP_TIMEOUT_US
               uiK := s.rf (rSK_CONN_CFG n) fSK_CONN_CFG_TEST_UI_K, cfgAt := ms })
  else s

/-! ## The sideband (R287, R288) -/

/-- A valid message has come: the sideband is not lost. [DEDUCED, log entry 65] -/
def State.sbHeard (s : State) (n : Nat) : State :=
  (s.modConn n (fun c => { c with heard := s.dtime })).clrFlag (rSK_CONN_STATUS n) fSK_CONN_STATUS_SB_LOST

def State.sbLost (s : State) (n : Nat) : Bool := s.flag (rSK_CONN_STATUS n) fSK_CONN_STATUS_SB_LOST

/-- A message of connection `n` has come, and does `k`. -/
def State.sbMsg (s : State) (n : Nat) (k : State → State) : State := if n < 10 then k (s.sbHeard n) else s

/-- The next slot in which a side may send: even slots for A, odd ones for B, one message to a slot. -/
def State.sbSlot (s : State) (n side : Nat) : Nat :=
  let k := max ((s.dtime - (s.skConn n).epoch) / 5600 + 1) ((s.skConn n).side side).free
  if k % 2 = side % 2 then k else k + 1

/-- A message of 128 bits: TYPE, SEQ, PAYLOAD, and the CRC-16 over the first 112 bits (R287). [PRESUMED, log entry 63] -/
def sbWord (typ seq payload : Nat) : Nat :=
  let v := typ % 256 * 2 ^ 104 + seq % 256 * 2 ^ 96 + payload % 2 ^ 96
  v * 65536 + crc16 112 v

/-- A side sends a message in its next slot. -/
def State.sbSend (s : State) (n side typ payload : Nat) : State :=
  let m := sbWord typ ((s.skConn n).side side).seq payload
  let k := s.sbSlot n side
  (s.modSide n side (fun x => { x with seq := (x.seq + 1) % 256, free := k + 2, msg := some m })).emit (.sideband n side k m)

/-- A side sends its last message once more, when that is the one refused. -/
def State.sbAgain (s : State) (n side seq : Nat) : State :=
  match ((s.skConn n).side side).msg with
  | some m => if bits m 119 112 = seq then s.emit (.sideband n side (s.sbSlot n side) m) else s
  | none => s

/-- The code of a die's state in a STATE message. [DESIGN CHOICE, log entry 112] -/
def reportCode : DieReport → Nat
  | .run => 0
  | .reset => 1
  | .noclk => 2
  | .retain => 3
  | .off => 4

/-- A die says its state to HUB. -/
def State.sbTell (s : State) (n side : Nat) (rep : DieReport) : State :=
  (s.sbSend n side 1 (reportCode rep)).modSide n side (fun x => { x with last := some rep, sentAt := s.dtime })

/-! ## Messages the procedures send (Table 13.4) -/

/-- Whether a connection's A side is a die and its B side HUB. -/
def skToHub (n : Nat) : Bool := (skDie n).isSome

/-- TEST_START for bundles of both directions, from HUB, or from the A side of a ring: the test starts two slots after the
message's. [DESIGN CHOICE, log entry 112] -/
def State.sendTest (s : State) (n dirs bundles : Nat) : State :=
  let side := bit (skToHub n)
  s.sbSend n side 3 (n * 2 ^ 88 + dirs * 2 ^ 80 + bundles * 2 ^ 56 + (s.sbSlot n side + 2))

/-- TEST_START for a whole connection, but not over a lost sideband (R288). -/
def State.sendTestAll (s : State) (n : Nat) : State := if s.sbLost n then s else s.sendTest n 3 (2 ^ skBundles n - 1)

/-- One side's messages of an exchange (R290): MAP_SUMMARY, then LANE_MAP of each bundle it flags, in ascending order; `own` is its
map of a bundle. [DESIGN CHOICE, log entry 112] -/
def State.sendMaps (s : State) (n side num : Nat) (l : List Nat) (own : Nat → Nat) : State :=
  let bad := l.filter (fun i => own i != skAllGood n)
  bad.foldl (fun y i => y.sbSend n side 5 (n * 2 ^ 88 + num * 2 ^ 80 + i * 2 ^ 72 + own i))
    (s.sbSend n side 4 (n * 2 ^ 88 + num * 2 ^ 80 + (bad.map (2 ^ ·)).sum * 2 ^ 32))

/-- CONFIRM of a side. [DESIGN CHOICE, log entry 112] -/
def State.sendConfirm (s : State) (n side num crc : Nat) : State := s.sbSend n side 6 (num * 2 ^ 88 + crc * 2 ^ 56)

/-- DTIME_LOAD with the master's value, from HUB (R19). -/
def State.sendLoad (s : State) (d : Nat) : State := s.sbSend (skHubConn d) 1 9 s.dtime

/-! ## A rejoin's commit (R298) -/

/-- A ring connection of a die that rejoins is done with: it is agreed or has failed, or its other die is away, or its sideband is
lost so that it cannot be tested. -/
def State.ringDone (s : State) (n : Nat) : Bool :=
  let c := s.skConn n
  let away := fun (d : Nat) => s.dieState d != 0 && s.dieState d != 2
  away (skEnds n).1 || away (skEnds n).2 || s.sbLost n || (c.tried && c.test.isNone && c.xch.isNone)

/-- The test and the agreement of a rejoin are done on every connection of the die, and DTIME_LOAD has been sent. -/
def State.rejoinReady (s : State) (d : Nat) : Bool :=
  s.dieState d == 2 && s.connState (skHubConn d) == skUP && (skRings d).all s.ringDone && s.sk.loaded.getD d false

/-- HUB sends REJOIN_COMMIT once a die is ready: from the fabric cycle at which the message has come. [DESIGN CHOICE, log entry 112] -/
def State.offerCommit (s : State) (d : Nat) : State :=
  if s.rejoinReady d && !s.sk.offered.getD d false then
    let n := skHubConn d
    let at' := (s.skConn n).epoch + 5600 * (s.sbSlot n 1 + 1)
    (s.sbSend n 1 8 (d * 2 ^ 88 + (s.fabCycle + (at' - s.dtime) * 8 / 5))).modSk (fun k => { k with offered := setAt k.offered d true })
  else s

/-- The same for the dies of a connection. -/
def State.offerCommits (s : State) (n : Nat) : State :=
  match skDie n with
  | some d => s.offerCommit d
  | none => (s.offerCommit (skEnds n).1).offerCommit (skEnds n).2

/-! ## Frames (R282–R285) -/

/-- What arrives of a frame. -/
def frGot (f : FrameIn) : Nat := Nat.xor f.sent f.flips

/-- Fields of a frame of 320 bits: the envelope stands above the payload (Table 13.2). -/
def frEnv (f : Nat) : Nat := f / 2 ^ 256 % 2 ^ 64
/-- [PRESUMED, log entry 63] -/
def frCrc (f : Nat) : Nat := bits (frEnv f) 63 48
def frSeq (f : Nat) : Nat := bits (frEnv f) 47 36
def frAck (f : Nat) : Nat := bits (frEnv f) 35 24
def frKind (f : Nat) : Nat := bits (frEnv f) 23 20
def frTag (f : Nat) : Nat := bits (frEnv f) 19 8
def frBeat (f : Nat) : Nat := bits (frEnv f) 7 6
def frPoison (f : Nat) : Bool := (frEnv f).testBit 5
def frLast (f : Nat) : Bool := (frEnv f).testBit 4
def frCredit (f : Nat) : Nat := bits (frEnv f) 3 0

def kIDLE : Nat := 0
def kREQ : Nat := 1
def kDATA : Nat := 2
def kRSP : Nat := 3
def kNAK : Nat := 4
def kMGMT : Nat := 5

/-- What the CRC covers: envelope bits 47:0 and the payload (R283). -/
def frBody (f : Nat) : Nat := frEnv f % 2 ^ 48 * 2 ^ 256 + f % 2 ^ 256
/-- [PRESUMED, log entry 63] -/
def frGood (f : Nat) : Bool := crc16 304 (frBody f) == frCrc f

/-- The frame with this envelope, below its CRC, and this payload. -/
def frMake (env payload : Nat) : Nat :=
  let body := env % 2 ^ 48 * 2 ^ 256 + payload % 2 ^ 256
  crc16 304 body * 2 ^ 304 + body

/-- What a frame carries. -/
def beatOf (f : Nat) : SkBeat := { kind := frKind f, beat := frBeat f, poison := frPoison f, payload := f % 2 ^ 256 }

/-- Distance from one SEQ to another, modulo 4,096. [DEDUCED, log entry 62] -/
def seqDist (a b : Nat) : Nat := (b + 4096 - a % 4096) % 4096

/-- A frame that is handed on: REQ, DATA, RSP or MGMT. [DEDUCED, log entry 62] -/
def frCarries (f : Nat) : Bool := [kREQ, kDATA, kRSP, kMGMT].contains (frKind f)

/-- The bundles of a direction in the order of their turns: those after the last, then the rest. -/
def State.skOrder (s : State) (n d : Nat) : List Nat :=
  let l := s.inService n d
  let k := ((s.skConn n).dir d).last
  l.filter (fun b => decide (k < b)) ++ l.filter (fun b => decide (b ≤ k))

/-- The bundle whose turn it is, with the HALF bundles that have let one pass: they take every second one (R284). -/
def skTurn (half : Nat → Bool) : List Nat → List Nat → Option (Nat × List Nat)
  | [], _ => none
  | b :: l, rested => if half b && !rested.contains b then skTurn half l (b :: rested) else some (b, without' rested b)
where
  without' (l : List Nat) (b : Nat) : List Nat := l.filter (· != b)

def State.skPick (s : State) (n d : Nat) : Option (Nat × List Nat) :=
  let l := s.skOrder n d
  skTurn (fun b => s.skWidthOf n b == 1) (l ++ l) ((s.skConn n).dir d).rested

/-- The wires that carry a bundle's data positions, in order; wires above the last are idle (R282). -/
def State.skLanes (s : State) (n i : Nat) : List Nat :=
  (List.range (skFull n * s.skWidthOf n i / 2)).filterMap (skWireOf n (s.skMap n i))

/-- A frame takes the next turn of its direction. -/
def State.skPut (s : State) (n d f : Nat) : State :=
  match s.skPick n d with
  | some (b, rested) =>
    (s.modDir n d (fun x => { x with last := b, rested := rested })).emit (.skink n d b (s.skLanes n b) f)
  | none => s

/-- The transmitter holds at most 2,048 frames, and deals only over bundles in service. -/
def State.skRoom (s : State) (n d : Nat) : Bool :=
  decide (((s.skConn n).dir d).held.length < 2048) && (s.skPick n d).isSome

/-- A new frame is dealt: it gets its SEQ, the ACK of the other direction and the credits owed, and is held until it is
acknowledged (R285). `low` is TAG, BEAT, POISON and LAST. -/
def State.skSend (s : State) (n d : Nat) (o : SkOut) : State :=
  let x := (s.skConn n).dir d
  let y := (s.skConn n).dir (1 - d)
  let credit := min 15 (y.owed / 8)
  let f := frMake (x.sent * 2 ^ 36 + (y.next + 4095) % 4096 * 2 ^ 24 + o.kind * 2 ^ 20 + o.low % 2 ^ 16 * 16 + credit) o.payload
  let s1 := s.modDir n (1 - d) (fun y => { y with owed := y.owed - 8 * credit })
  (s1.modDir n d (fun x => { x with sent := (x.sent + 1) % 4096, held := x.held ++ [f] })).skPut n d f

/-- Frames that wait are dealt in order while there is room, at most `fuel` of them. -/
def State.skFlush (n d : Nat) : Nat → State → State
  | 0, s => s
  | k + 1, s =>
    match ((s.skConn n).dir d).queue with
    | o :: r => if s.skRoom n d then State.skFlush n d k ((s.modDir n d (fun x => { x with queue := r })).skSend n d o) else s
    | [] => s

/-- Whatever waits goes, as far as there is room. -/
def State.skDrain (s : State) (n d : Nat) : State := State.skFlush n d ((s.skConn n).dir d).queue.length s

/-- A frame to be dealt waits behind those that wait. -/
def State.skDeal (s : State) (n d kind low payload : Nat) : State :=
  (s.modDir n d (fun x => { x with queue := x.queue ++ [{ kind := kind, low := low, payload := payload }] })).skDrain n d

/-- An IDLE frame carries the ACK when nothing else is to be sent. -/
def State.skIdle (s : State) (n d : Nat) : State := if ((s.skConn n).dir d).queue = [] then s.skDeal n d kIDLE 0 0 else s

/-- Every held frame from a SEQ onwards is sent again, in order. -/
def State.skResend (s : State) (n d seq : Nat) : State :=
  let x := (s.skConn n).dir d
  (x.held.filter (fun f => decide (seqDist x.acked seq ≤ seqDist x.acked (frSeq f)))).foldl (fun y f => y.skPut n d f) s

/-! ## The way between two dies (R14) -/

/-- The ring connection that joins two compute dies. -/
def skRing (a b : Nat) : Option Nat :=
  if b = (a + 1) % 4 then some (4 + a) else if a = (b + 1) % 4 then some (4 + b) else none

/-- Traffic between two compute dies runs over their ring connection while it is UP, and else through HUB. -/
def State.dieRoute (s : State) (a b : Nat) : List Nat :=
  match skRing a b with
  | some r => if s.connState r = skUP then [r] else [skHubConn a, skHubConn b]
  | none => [skHubConn a, skHubConn b]

/-- A frame as it is dealt anew. -/
def outOf (f : Nat) : SkOut := { kind := frKind f, low := bits (frEnv f) 19 4, payload := f % 2 ^ 256 }

/-- What the far end of a ring has not acknowledged goes to it by the way that is left, in order, and what waited behind it
(R295): to HUB from the one die, and from HUB to the other. [DEDUCED, log entry 62] -/
def State.skReissue (s : State) (n d : Nat) : State :=
  let ends := if d = 0 then skEnds n else ((skEnds n).2, (skEnds n).1)
  let x := (s.skConn n).dir d
  let l := (x.held.filter frCarries).map outOf ++ x.queue
  ((s.dieRoute ends.1 ends.2).zipIdx).foldl (fun y h => l.foldl (fun y o => y.skDeal h.1 h.2 o.kind o.low o.payload) y)
    (s.modDir n d (fun x => { x with held := [], queue := [] }))

/-! ## The base of a quarantine (R292) -/

/-- A connection enters QUARANTINE with its first cause. A connection that is DOWN is not
quarantined, but by firmware. [DEDUCED, log entry 66] -/
def State.connQuarantine (s : State) (n cause die : Nat) : State :=
  if s.connState n = skQUAR ∨ (s.connState n = skDOWN ∧ cause ≠ causeFW) then s
  else
    let s1 := (s.setConnState n skQUAR).wf (rSK_CONN_STATUS n) fSK_CONN_STATUS_LAST_CAUSE cause
    let s2 := s1.modConn n (fun c =>
      { c with
        bundles := c.bundles.map (fun b => { b with live := false, retrain := false }), test := none, xch := none })
    let s3 := ((s2.showConn n).bump (rSK_CONN_EVT n) fSK_CONN_EVT_QUAR_CNT 1).skLog n cause die evQUAR
    if (skDie n).isNone && s.diePresent (skEnds n).1 && s.diePresent (skEnds n).2 then (s3.skReissue n 0).skReissue n 1 else s3

/-- A planned power transition takes a connection DOWN (R301). -/
def State.connDown (s : State) (n : Nat) : State :=
  ((s.setConnState n skDOWN).modConn n (fun c =>
    { c with bundles := c.bundles.map (fun b => { b with live := false, retrain := false, fails := [] }), test := none, xch := none
             dirs := List.replicate 2 {} })).showConn n

end Sys2Proof.Machine
end

