-- ==== Sys2Proof/Machine/Time.lean ====
section
/-!
DEFINITION. DTIME (R18–R21, R441, R442): the master, the copies on the compute dies, the
islands' time, and the inputs that discipline the master.
-/
namespace Sys2Proof.Machine

/-! ## One REFCLK edge -/

/-- Largest slew of one edge: 500 ppm of 10 ns in units of 2^−32 ns (R20). [DESIGN CHOICE, log entry 21] -/
def maxSlew : Nat := 21474836

/-- The part of a correction that one edge takes. [DESIGN CHOICE, log entry 21] -/
def slewStep (owed : Int) : Int := max (-(maxSlew : Int)) (min (maxSlew : Int) owed)

def State.modDieTime (s : State) (d : Nat) (f : DieTime → DieTime) : State :=
  s.modTime (fun t => { t with dies := modAt t.dies d f })
def State.modIslTime (s : State) (i : Nat) (f : IslTime → IslTime) : State :=
  s.modTime (fun t => { t with isl := modAt t.isl i f })
def State.islT (s : State) (i : Nat) : IslTime := s.time.isl[i]?.getD {}

/-- An island's own time after `n` units of 2^−32 ns of its oscillator at the nominal rate. [DESIGN CHOICE, log entry 21] -/
def IslTime.pass (n : Nat) (t : IslTime) : IslTime :=
  let d := max (-(n / 2000 : Nat) : Int) (min (n / 2000 : Nat) t.owed)
  { t with now := ((t.now + n : Nat) + d).toNat, owed := t.owed - d }

/-- The increment the master adds on its next edge (R18, R20). -/
def TimeSt.nextIncr (t : TimeSt) : Nat := ((nominalIncr : Int) + slewStep t.owed).toNat

/-- A copy adds the increment HUB has broadcast, where its sideband brings it, else the one it has (R18). -/
def DieTime.edge (x : DieTime) (heard : Bool) (incr : Nat) : DieTime :=
  let n := if heard then incr else x.incr
  { copy := x.copy + n, incr := n }

/-- Every counter advances by one REFCLK edge: the master at its disciplined increment, and with it each copy whose
sideband is up (R18, R19). [DEDUCED, log entry 23] -/
def TimeSt.edge (t : TimeSt) (heard : Nat → Bool) : TimeSt :=
  { t with
    master := t.master + t.nextIncr, incr := t.nextIncr, owed := t.owed - slewStep t.owed, edges := t.edges + 1
    dies := t.dies.mapIdx (fun d x => x.edge (heard d) t.nextIncr)
    isl := t.isl.map (IslTime.pass nominalIncr) }

/-- The length of one edge of the 32.768 kHz clock in REFCLK edges, as a fraction (R18). -/
def slowNum : Nat := 390625
def slowDen : Nat := 128

/-- The copies whose sideband brings it move on by `n` with the master (R19). -/
def TimeSt.moveCopies (t : TimeSt) (heard : Nat → Bool) (n : Nat) : List DieTime :=
  t.dies.mapIdx (fun d x => if heard d then { x with copy := x.copy + n } else x)

/-- One edge of the 32.768 kHz clock: the master keeps its last disciplined rate, nothing is slewed, and the copies go
with it (R19, R20). [DEDUCED, log entry 23] -/
def TimeSt.slowEdge (t : TimeSt) (heard : Nat → Bool) : TimeSt :=
  { t with
    master := t.master + t.incr * slowNum / slowDen
    dies := t.moveCopies heard (t.incr * slowNum / slowDen)
    isl := t.isl.map (IslTime.pass (nominalIncr * slowNum / slowDen)) }

/-- PPS_OUT falls PPSO_WIDTH_MS after it rose (R442). -/
def State.ppsOutFall (s : State) : State :=
  match s.time.ppsOut with
  | some t =>
    if t + s.rf rIO_TIME_CFG fIO_TIME_CFG_PPSO_WIDTH_MS * 1000000 ≤ s.dtime then s.modTime (fun x => { x with ppsOut := none }) else s
  | none => s

/-- What an idle step does: one REFCLK edge. [DESIGN CHOICE, log entry 20] -/
def State.refEdge (s : State) : State := (s.modTime (fun t => t.edge (fun d => !s.sbLost d))).ppsOutFall.timeRecord

/-- An edge of the 32.768 kHz clock in RETAIN and BRUMATION (R20). [DESIGN CHOICE, log entry 20] -/
def State.slowEdge (s : State) : State := (s.modTime (fun t => t.slowEdge (fun d => !s.sbLost d))).timeRecord

/-! ## Copies on the compute dies (R19) -/

/-- Distance of a copy from the master in nanoseconds. -/
def State.copyDiff (s : State) (d : Nat) : Nat :=
  let a := s.dtime
  let b := s.dieTime d
  max (a - b) (b - a)

/-- A DTIME copy takes the master's value. [DEDUCED, log entry 23] -/
def State.loadCopy (s : State) (d : Nat) : State := s.modDieTime d (fun x => { x with copy := s.time.master })

/-- DTIME_SIDEBAND_CHECK (R19): a copy more than 20 ns off is reloaded and counted. -/
def execDtimeSidebandCheck (die : Nat) (s : State) : Res State :=
  .next <|
    let n := s.copyDiff die
    if die < 4 ∧ 20 < n then
      (((s.loadCopy die).sendLoad die).bump (rCD_ERR_CNT die) fCD_ERR_CNT_DTIME_RELOAD 1).wf (rCD_ERR_CNT die) fCD_ERR_CNT_LAST_DIFF_NS (min n 0xFFFFFF)
    else s

/-- DTIME_LOAD (R18, R298): at start and after a rejoin, the sideband's delay compensated. -/
def execDtimeLoad (die : Nat) (s : State) : Res State :=
  .next <|
    let s1 := (s.sbMsg (skHubConn die) id).loadCopy die
    if s.connState (skHubConn die) = skUP then (s1.modSk (fun k => { k with loaded := setAt k.loaded die true })).offerCommit die else s1

/-- DTIME_INC (R18): HUB's broadcast of the increment it adds now reaches a die; a message that says another
increment is none of HUB's. [DEDUCED, log entry 23] -/
def execDtimeInc (die incr : Nat) (s : State) : Res State :=
  .next <|
    if incr = s.time.incr then (s.sbMsg (skHubConn die) id).modDieTime die (fun x => { x with incr := incr }) else s

/-! ## The islands' time (R21) -/

/-- TIME_MESSAGE_SEND (R21): HUB sends DTIME to an island every 1 ms while its bundle is in
service. -/
def execTimeMessageSend (isl : Nat) (s : State) : Res State :=
  .next <|
    let due := match (s.islT isl).lastSend with
      | some t => decide (t + 1000000 ≤ s.dtime)
      | none => true
    if due && s.diePresent (4 + isl) && s.hubServes then
      s.modIslTime isl (fun t => { t with inbox := t.inbox ++ [s.time.master], lastSend := some s.dtime })
    else s

/-- An island takes a message: its first one since its start sets its time, every later one is
slewed to; holdover ends. [DEDUCED, log entry 23] -/
def IslTime.take (t : IslTime) (v : Nat) (rest : List Nat) : IslTime :=
  let now := if t.synced then t.now else v
  { t with now := now, owed := (v : Int) - now, lastMsg := now, synced := true, holdover := false, inbox := rest }

/-- TIME_MESSAGE (R21). -/
def execTimeMessage (isl : Nat) (s : State) : Res State :=
  .next <|
    match (s.islT isl).inbox with
    | v :: r => s.modIslTime isl (fun t => t.take v r)
    | [] => s

/-- Nanoseconds of own time since the last message. -/
def IslTime.silent (t : IslTime) : Nat := (t.now - t.lastMsg) / 2 ^ 32

/-- HOLDOVER_TIMEOUT (R21). -/
def execHoldoverTimeout (isl : Nat) (s : State) : Res State :=
  .next <| if 5000000 ≤ (s.islT isl).silent then s.modIslTime isl (fun t => { t with holdover := true }) else s

/-- What holdover adds to an age margin: 1,000 ppm of the time since the last message. [DEDUCED, log entry 74] -/
def State.holdMargin (s : State) (i : Nat) : Nat := if (s.islT i).holdover then (s.islT i).silent / 1000 else 0

/-! ## Discipline (R20, R441) -/

/-- The source time is `ofs` ns ahead of DTIME: a step forward above 1 µs before the first stamp, unless the master has
changed (R324), which the copies make as well (R19), a slew otherwise. [DEDUCED, log entry 23] -/
def State.discipline (s : State) (ofs : Int) : State :=
  if s.time.stamped = false ∧ s.time.noStep = false ∧ 1000 < ofs then
    (s.modTime (fun t => { t with
      master := t.master + ofs.toNat * 2 ^ 32, owed := 0, dies := t.moveCopies (fun d => !s.sbLost d) (ofs.toNat * 2 ^ 32) })).timeRecord
  else s.modTime (fun t => { t with owed := ofs * 2 ^ 32 })

/-- A Chorus member that is not the time master follows Chorus (R441). -/
def State.followsChorus (s : State) : Bool :=
  s.isMember s.selfId && s.rf rCH_STATUS fCH_STATUS_TIME_MASTER != s.selfId

def srcNONE : Nat := 0
def srcPPS : Nat := 1
def srcAS : Nat := 2
def srcCHORUS : Nat := 3

/-- The source R441 selects. -/
def State.timeSource (s : State) : Nat :=
  let pps := s.flag rIO_TIME_STAT fIO_TIME_STAT_PPS_VALID
  let as' := s.flag rIO_TIME_STAT fIO_TIME_STAT_AS_VALID
  if s.followsChorus then srcCHORUS
  else
    match s.rf rIO_TIME_CFG fIO_TIME_CFG_ORDER with
    | 0 => if pps then srcPPS else if as' then srcAS else srcNONE
    | 1 => if as' then srcAS else if pps then srcPPS else srcNONE
    | 2 => if pps then srcPPS else srcNONE
    | _ => if as' then srcAS else srcNONE

/-- SOURCE follows; a switch from one source counts. [DEDUCED, log entry 22] -/
def State.reselect (s : State) : State :=
  let old := s.rf rIO_TIME_STAT fIO_TIME_STAT_SOURCE
  let new := s.timeSource
  if new = old then s
  else
    let s1 := s.wf rIO_TIME_STAT fIO_TIME_STAT_SOURCE new
    if old = srcNONE then s1 else s1.bump rIO_TIME_CNT2 fIO_TIME_CNT2_SWITCH_CNT 1

/-- An accepted event of source `src` with its offset: it disciplines, or it is kept as the
offset of the source not selected. -/
def State.timeEvent (s : State) (src : Nat) (ofs : Int) : State :=
  if s.rf rIO_TIME_STAT fIO_TIME_STAT_SOURCE = src then s.discipline ofs
  else s.setReg rIO_TIME_ALT (BitVec.ofInt 64 ofs)

/-- GPTP_MESSAGE (R438, R441): a paired Sync and Follow_Up of MAC `mac`, from the chosen
grandmaster or not, `ofs` ns ahead of DTIME. [DEDUCED, log entry 22] -/
def execGptpMessage (_mac : Nat) (chosen paired : Bool) (ofs : Int) (s : State) : Res State :=
  .next <|
    if !s.hubServes then s
    else if !(chosen && paired) then s.bump rIO_TIME_CNT fIO_TIME_CNT_GLITCH_CNT 1
    else if s.time.stamped && decide (1000000 < ofs.natAbs) then s.bump rIO_TIME_CNT fIO_TIME_CNT_OUT_WIN_CNT 1
    else
      let s1 := s.modTime (fun t => { t with sync := some s.dtime, asOfs := ofs })
      ((s1.setFlag rIO_TIME_STAT fIO_TIME_STAT_AS_VALID).reselect).timeEvent srcAS ofs

/-- GPTP_TIMEOUT (R438): no accepted Sync for 3 s. -/
def execGptpTimeout (s : State) : Res State :=
  .next <|
    match s.time.sync with
    | some t =>
      if s.hubServes ∧ t + 3000000000 ≤ s.dtime ∧ s.flag rIO_TIME_STAT fIO_TIME_STAT_AS_VALID then
        ((s.clrFlag rIO_TIME_STAT fIO_TIME_STAT_AS_VALID).bump rIO_TIME_CNT2 fIO_TIME_CNT2_LOST_CNT 1).reselect
      else s
    | none => s

/-! ## PPS (R442) -/

/-- One second in nanoseconds. -/
def second : Nat := 1000000000

/-- An edge at `t` lies within the window of a predicted edge. -/
def State.ppsInWindow (s : State) (t : Nat) : Bool :=
  match s.time.pps with
  | none => true
  | some l =>
    let d := t - l
    let n := max 1 ((d + second / 2) / second)
    let w := s.rf rIO_TIME_CFG fIO_TIME_CFG_PPS_WIN_US * 1000
    decide (d ≤ n * second + w ∧ n * second ≤ d + w)

/-- The edge follows the last edge outside the window by 1 s ± 50 µs. -/
def State.ppsRegular (s : State) (t : Nat) : Bool :=
  s.time.outRun != 0 && decide (second ≤ t - s.time.outAt + 50000) && decide (t - s.time.outAt ≤ second + 50000)

/-- Nearest whole second to a time. -/
def nearSecond (t : Int) : Int := (t + 500000000).fdiv 1000000000 * 1000000000

/-- What an accepted edge stands for: IO_TIME_SET when it waits to be loaded and 802.1AS is not
valid, else the whole second nearest to the time by 802.1AS or by DTIME. -/
def State.ppsTarget (s : State) : Int :=
  if s.flag rIO_TIME_STAT fIO_TIME_STAT_AS_VALID then nearSecond ((s.dtime : Int) + s.time.asOfs)
  else if s.time.armed then ((s.reg rIO_TIME_SET).toNat : Int)
  else nearSecond s.dtime

/-- An accepted edge. -/
def State.ppsAccept (s : State) : State :=
  let now := s.dtime
  let ofs := s.ppsTarget - now
  let s1 := s.modTime (fun t => { t with pps := some now, outRun := 0, armed := false })
  ((s1.setFlag rIO_TIME_STAT fIO_TIME_STAT_PPS_VALID).reselect).timeEvent srcPPS ofs

/-- A PPS_IN edge (R442): the state after it, and whether it was accepted. [DEDUCED, log entry 22] -/
def State.ppsEdge (s : State) (falling : Bool) (widthUs : Nat) : State × Bool :=
  if !s.hubServes then (s, false)
  else if falling != s.flag rIO_TIME_CFG fIO_TIME_CFG_PPS_EDGE then (s, false)
  else if widthUs < s.rf rIO_TIME_CFG fIO_TIME_CFG_PPS_MIN_US then (s.bump rIO_TIME_CNT fIO_TIME_CNT_GLITCH_CNT 1, false)
  else if s.ppsInWindow s.dtime then (s.ppsAccept, true)
  else if s.ppsRegular s.dtime ∧ 4 ≤ s.time.outRun then (s.ppsAccept, true)
  else
    let run := if s.ppsRegular s.dtime then s.time.outRun + 1 else 1
    ((s.modTime (fun t => { t with outRun := run, outAt := s.dtime })).bump rIO_TIME_CNT fIO_TIME_CNT_OUT_WIN_CNT 1, false)

/-- PPS_LOST (R442): no accepted edge for 1,500 ms. -/
def execPpsLost (s : State) : Res State :=
  .next <|
    match s.time.pps with
    | some t =>
      if s.hubServes ∧ t + 1500000000 ≤ s.dtime ∧ s.flag rIO_TIME_STAT fIO_TIME_STAT_PPS_VALID then
        ((s.clrFlag rIO_TIME_STAT fIO_TIME_STAT_PPS_VALID).bump rIO_TIME_CNT2 fIO_TIME_CNT2_LOST_CNT 1).reselect
      else s
    | none => s

/-- PPS_OUT_SECOND (R442): from the first stamp on, PPS_OUT rises at a whole second of DTIME. -/
def execPpsOutSecond (s : State) : Res State :=
  .next <|
    let sec := s.dtime / second * second
    if s.hubServes && s.time.stamped && decide (s.dtime - sec ≤ 20) then s.modTime (fun t => { t with ppsOut := some sec }) else s

/-- A write of IO_TIME_SET (R441). -/
def State.timeSetWrite (s : State) (w : Word) : State :=
  if s.time.stamped then s.setFlag rIO_TIME_STAT fIO_TIME_STAT_CFG_REJ
  else (s.setReg rIO_TIME_SET w).modTime (fun t => { t with armed := true })

/-- IO_TIME_SET_WRITE (R441). -/
def execIoTimeSetWrite (port : Port) (val : Word) (s : State) : Res State :=
  .next <| s.access port rIO_TIME_SET (fun s => s.timeSetWrite val)

/-- A write of IO_TIME_CFG: a width or window of 0 stores 1 (Table 21.3). -/
def State.timeCfgWrite (s : State) (w : Word) : State :=
  let s1 := s.plainWrite rIO_TIME_CFG w
  let s2 := if s1.rf rIO_TIME_CFG fIO_TIME_CFG_PPS_WIN_US = 0 then s1.wf rIO_TIME_CFG fIO_TIME_CFG_PPS_WIN_US 1 else s1
  let s3 := if s2.rf rIO_TIME_CFG fIO_TIME_CFG_PPSO_WIDTH_MS = 0 then s2.wf rIO_TIME_CFG fIO_TIME_CFG_PPSO_WIDTH_MS 1 else s2
  s3.reselect

/-- A write of IO_CAM_PHY while the sensor hub is enabled is ignored (R440). -/
def State.camPhyWrite (s : State) (w : Word) : State :=
  if s.flag rSH_CFG fSH_CFG_ENABLE then s.setFlag rIO_TIME_STAT fIO_TIME_STAT_CFG_REJ else s.plainWrite rIO_CAM_PHY w

/-- GPIO_INPUT_CHANGE (R438): line `line` has held `level` for `stableUs`. -/
def execGpioInputChange (line : Nat) (level : Bool) (stableUs : Nat) (s : State) : Res State :=
  .next <|
    if s.hubServes ∧ line < 32 ∧ s.rf rIO_GPIO_FILT fIO_GPIO_FILT_FILT_US ≤ stableUs then
      s.wf rIO_GPIO_DATA { hi := 32 + line, lo := 32 + line } (bit level)
    else s

end Sys2Proof.Machine
end

