-- ==== Sys2Proof/Machine/Align.lean ====
section
/-!
DEFINITION. The alignment buffer (R213–R218), Tadpole recording of its output (R411), and the
sensor hub's commands.
-/
namespace Sys2Proof.Machine

/-! ## Tadpole records (R411) -/

/-- First byte of the records in the namespace. -/
def tadStart : Nat := 1048576

/-- One record of Table 19.5 goes to the namespace, padded to a multiple of 4 KiB. [DESIGN CHOICE, log entry 50] -/
def State.tadRecord (s : State) (item : Nat) (lin data : List Byte) : State :=
  let t := s.sh.tad
  match t.nvme with
  | none => s
  | some size =>
    let src := s.rf rIO_TIME_STAT fIO_TIME_STAT_SOURCE
    let h := leBytes 4 0x54564452 ++ leBytes 1 item ++ leBytes 1 src ++ leBytes 2 0 ++ leBytes 8 t.seq
      ++ leBytes 8 data.length ++ lin ++ leBytes 4 0
    let rec' := h ++ leBytes 4 (crc32c h) ++ data
    let len := ceilDiv rec'.length 4096 * 4096
    let wraps := decide (size < t.off + len)
    let off := if wraps then tadStart else t.off
    (s.emit (.nvme off (rec' ++ leBytes (len - rec'.length) 0))).modSh (fun h =>
      { h with tad := { h.tad with off := off + len, lap := if wraps then t.lap + 1 else t.lap, seq := t.seq + 1
                                   bytes := t.bytes + len } })

/-- Items of windows up to `k` are recorded, oldest first. [DESIGN CHOICE, log entry 50] -/
def State.tadFlush (s : State) (k : Nat) : State :=
  let go := s.sh.tad.items.filter (fun x => decide (x.win ≤ k))
  let s1 := s.modSh (fun h => { h with tad := { h.tad with items := h.tad.items.filter (fun x => decide (k < x.win)) } })
  go.foldl (fun x it => x.tadRecord it.item (leBytes 32 it.lin) it.data) s1

/-! ## Judging the sensors of an instant (R213, R214, R220, R221) -/

def esPRESENT : Nat := 0
def esMISSING : Nat := 1
def esPARTIAL : Nat := 2
def esEXCLUDED : Nat := 3
def esPAIRED : Nat := 4

/-- What a sensor gives an instant: the status of its entry, whether a release must still wait
for it, the entry, its ring slots, and the slot header a sweep is given at release, with the MAC that writes it. -/
structure Judged where
  status : Nat
  waits  : Bool
  entry  : List Byte
  slots  : List Nat
  head   : Option (Nat × Addr × List Byte)
  deriving DecidableEq, Repr

/-- End of window `k`. -/
def SensorHub.windowEnd (h : SensorHub) (k : Nat) : Nat := h.epoch + (k + 1) * h.cfg.period

/-- A manifest entry (Table 9.7). -/
def manEntry (lin : List Byte) (addr len first count status clock : Nat) : List Byte :=
  lin ++ leBytes 8 addr ++ leBytes 4 len ++ leBytes 4 first ++ leBytes 4 count ++ leBytes 1 status ++ leBytes 1 clock
    ++ leBytes 10 0

/-- The entry of a sensor with nothing to give. -/
def State.emptyJudged (s : State) (n status : Nat) (waits : Bool) : Judged :=
  let e := s.senE n
  { status := status, waits := waits, slots := [], head := none
    entry := manEntry (leBytes 1 n ++ leBytes 1 (senKind e) ++ leBytes 30 0) 0 0 0 0 status (s.sens n).atEnd }

def State.judgeCamera (s : State) (n k : Nat) (waits : Bool) : Judged :=
  let x := s.sens n
  let due : Int := (s.sh.windowEnd k : Int) - min 0 (senAdj (s.senE n))
  let isOpen := match x.frame with
    | some f => s.winOf f.stamp == some k
    | none => false
  match s.sampleOf n k with
  | some sm =>
    if decide ((s.dtime : Int) < due) || isOpen then s.emptyJudged n esMISSING waits
    else
      let slot := sm.slot.getD 0
      { status := esPRESENT, waits := false, slots := [slot], head := none
        entry := manEntry (leBytes 32 sm.lin) (s.slotAddr n slot) sm.len 0 1 esPRESENT x.atEnd }
  | none => s.emptyJudged n esMISSING waits

/-- A sweep as its sample stands: whether it is complete, and whether the next sweep has begun. -/
def Sens.sweepDone (x : Sens) (sm : Sample) (stop : Int) : Bool × Bool :=
  if sm.sbits = 0 then
    let d := match x.latest with
      | some t => decide (stop ≤ t)
      | none => false
    (d, d)
  else
    let e := runEnd x.recv x.recv.length sm.lo
    (x.recv.any (fun p => decide (sm.lo ≤ p.1 ∧ p.1 < e ∧ stop ≤ p.2)), x.recv.any (fun p => decide (stop ≤ p.2)))

/-- [DEDUCED, log entry 47] -/
def packetGap : List Packet → Bool
  | p :: q :: r => p.rel + 1 != q.rel || packetGap (q :: r)
  | _ => false

/-- [DEDUCED, log entry 47] -/
def State.judgeSweep (s : State) (n k : Nat) (waits : Bool) : Judged :=
  let x := s.sens n
  match s.sampleOf n k with
  | some sm =>
    (match sm.slot, sm.pkts with
     | some slot, p :: _ =>
       let d := x.sweepDone sm (s.sh.windowEnd k)
       if d.1 || d.2 then
         let part := sm.hole || (sm.sbits != 0 && (packetGap sm.pkts || !d.1))
         let bs := sm.pkts.flatMap (·.data)
         let pair := if x.atEnd = ckSYNCED then 0 else sat32 (x.res.tdiv 1000)
         let lin := s.lineageOf n (Nat.lor sm.flags (if part then flPARTIAL else 0)) sm.counter sm.stamp bs k pair
         let st := if part then esPARTIAL else esPRESENT
         { status := st, waits := waits && !d.1, slots := [slot], head := some (sm.mac, s.slotAddr n slot, lin ++ leBytes 32 0)
           entry := manEntry lin (s.slotAddr n slot) (senBytes (s.senE n)) p.seq sm.pkts.length st x.atEnd }
       else s.emptyJudged n esMISSING waits
     | _, _ => s.emptyJudged n esMISSING waits)
  | none => s.emptyJudged n esMISSING waits

/-- The entry of a series that gives some records, the first of them first. -/
def State.seriesEntry (s : State) (n status pair : Nat) (f : SerRec) (recs : List SerRec) : Judged :=
  let bs := recs.flatMap (fun r => leBytes 128 r.bytes)
  let lin := s.lineageOf n f.flags f.counter f.stamp bs f.win pair
  { status := status, waits := false, slots := recs.map (·.idx), head := none
    entry := manEntry lin (s.slotAddr n f.idx) bs.length f.idx recs.length status (s.sens n).atEnd }

/-- Of two records, the one nearer to a time; the earlier one at an equal distance. -/
def nearer (c : Int) (a b : SerRec) : SerRec :=
  let da := (a.stamp - c).natAbs
  let db := (b.stamp - c).natAbs
  if db < da ∨ (db = da ∧ b.stamp < a.stamp) then b else a

def State.judgeSeries (s : State) (n k : Nat) (waits : Bool) : Judged :=
  let x := s.sens n
  if x.atEnd != ckSYNCED then
    match x.recs with
    | [] => s.emptyJudged n esMISSING false
    | r :: rs =>
      let c : Int := s.sh.epoch + k * s.sh.cfg.period + s.sh.cfg.period / 2
      let f := rs.foldl (nearer c) r
      s.seriesEntry n esPAIRED (sat32 ((f.stamp - c).tdiv 1000)) f [f]
  else
    let done := match x.latest with
      | some t => decide ((s.sh.windowEnd k : Int) ≤ t)
      | none => false
    if !done then s.emptyJudged n esMISSING waits
    else
      match x.recs.filter (fun r => r.win == k) with
      | [] => s.emptyJudged n esMISSING false
      | r :: rs => s.seriesEntry n esPRESENT 0 r (r :: rs)

/-- A sensor as instant `k` finds it. [DEDUCED, log entry 47] -/
def State.judge (s : State) (k n : Nat) : Judged :=
  let e := s.senE n
  let x := s.sens n
  let waits := senWait e && x.atEnd == ckSYNCED
  if senKind e = 0 then s.emptyJudged n esMISSING false
  else if x.atEnd = ckEXCLUDED then s.emptyJudged n esEXCLUDED false
  else if senKind e = kCAMERA then s.judgeCamera n k waits
  else if senKind e = kSWEEP then s.judgeSweep n k waits
  else s.judgeSeries n k waits

/-! ## Release (R214, R216) -/

/-- [DEDUCED, log entry 48] -/
def State.nextInstant (s : State) : Nat := s.rf rSH_INSTANT fSH_INSTANT_NEXT

/-- The manifest header (Table 9.6) without its CRC. -/
def State.manHeader (s : State) (k : Nat) (limit : Bool) : List Byte :=
  let c := s.sh.cfg
  let ver := s.sh.calOf k
  let out := if c.stateBytes = 0 then 0 else c.stateBase + k % c.stateNbuf * c.stateBytes
  leBytes 8 k ++ leBytes 8 (s.sh.windowEnd k) ++ leBytes 8 (s.sh.windowEnd k - c.period) ++ leBytes 8 s.dtime
    ++ leBytes 4 ver ++ leBytes 1 c.nsens ++ leBytes 1 (bit limit + 2 * bit c.trig) ++ leBytes 2 0
    ++ leBytes 8 out ++ leBytes 8 (c.calAddr ver) ++ leBytes 4 0

/-- The slot header of a sweep that an instant takes is written; where the write is refused its sample is dropped and counted,
and the sensor is MISSING (R201). -/
def State.writeHead (s : State) (n : Nat) (j : Judged) : State × Judged :=
  match j.head with
  | some (mac, a, bs) =>
    let w := (if s.sh.tad.on then s else s.moved (200 + mac % 4) bs.length).senWrite a bs
    if w.2 then (w.1, j) else (w.1.senErr n, w.1.emptyJudged n esMISSING false)
  | none => (s, j)

/-- The slot headers of the sweeps an instant takes, sensor by sensor. -/
def State.writeHeads (s : State) : Nat → List Judged → State × List Judged
  | _, [] => (s, [])
  | n, j :: r =>
    let p := s.writeHead n j
    let q := p.1.writeHeads (n + 1) r
    (q.1, p.2 :: q.2)

def State.missOne (s : State) (n : Nat) (j : Judged) : State :=
  if j.status = esMISSING ∧ senKind (s.senE n) ≠ 0 then s.bump (rSH_SENS_CNT n) fSH_SENS_CNT_MISS_CNT 1 else s

/-- A sensor after the release of instant `k` that names some of its slots: named slots are
held, the samples of released windows go, and their other slots are free (R212). -/
def Sens.afterRelease (x : Sens) (k : Nat) (stop : Int) (named : List Nat) : Sens :=
  let gone := (x.samples.filter (fun m => decide (m.win ≤ k))).filterMap (·.slot)
    ++ (x.recs.filter (fun r => decide (r.win < k))).map (·.idx)
  { x with
    held := named.foldl (fun h i => mapPut h i (max k ((mapGet h i).getD 0))) x.held
    busy := x.busy.filter (fun i => !(gone.contains i) && !(named.contains i))
    samples := x.samples.filter (fun m => decide (k < m.win))
    recs := x.recs.filter (fun r => decide (k ≤ r.win))
    recv := x.recv.filter (fun p => decide (stop ≤ p.2)) }

/-- What of a sensor was incomplete at the release of instant `k` and had begun (R215). -/
def Sens.undoneAt (x : Sens) (kind k : Nat) (stop : Int) : List Undone :=
  if kind = kSWEEP then
    match x.samples.find? (fun m => m.win == k) with
    | some sm =>
      let d := x.sweepDone sm stop
      if d.1 || d.2 then [] else [{ stop := stop, lo := sm.lo, sbits := sm.sbits, recv := x.recv }]
    | none => []
  else
    let late := match x.latest with
      | some t => decide (t < stop)
      | none => true
    if kind != kCAMERA && late && x.recs.any (fun r => r.win == k) then [{ stop := stop, lo := 0, sbits := 0, recv := [] }] else []

/-- The sweep samples of released windows end on their MACs (Table 20.3). -/
def State.sweepsEnd (s : State) (k n : Nat) : State :=
  if senKind (s.senE n) ≠ kSWEEP then s
  else
    ((s.sens n).samples.filter (fun m => decide (m.win ≤ k))).foldl (fun x m =>
      x.traceEvent (200 + m.mac % 4) evEND (x.senCmd n m.counter)) s

/-- Every sensor after a release. -/
def State.settle (s0 : State) (k : Nat) (named : List (List Nat)) : State :=
  let s := (List.range s0.sh.cfg.nsens).foldl (fun x n => x.sweepsEnd k n) s0
  let stop : Int := s.sh.windowEnd k
  (List.range s.sh.cfg.nsens).foldl (fun x n => x.modSens n (fun y =>
    { y.afterRelease k stop (named[n]?.getD []) with undone := y.undone ++ y.undoneAt (senKind (s.senE n)) k stop })) s

/-- The manifest's slot is still held (R216). [DEDUCED, log entry 48] -/
def State.manHeld (s : State) (k : Nat) : Bool :=
  s.flag rSH_CFG fSH_CFG_GUARD && decide (s.rf rSH_FREE_BEFORE fSH_FREE_BEFORE_FREE_BEFORE + 2 ^ s.sh.cfg.manLog2 ≤ k)

/-- The manifest goes to its slot and its launch is queued; false where it is not written. -/
def State.writeManifest (s : State) (k : Nat) (limit : Bool) (js : List Judged) : State × Bool :=
  let c := s.sh.cfg
  let h := s.manHeader k limit
  let body := js.flatMap (·.entry)
  let crc := crc32c (h ++ body)
  let addr := c.manBase + k % 2 ^ c.manLog2 * c.manBytes
  if s.manHeld k then (s.bump rSH_EVT fSH_EVT_MAN_HELD 1, false)
  else
    let w := s.hubWrite c.ctx addr (h ++ leBytes 4 crc ++ body)
    if w.2 then
      (w.1.modSh (fun x =>
        { x with newest := some (k, addr, crc)
                 launches := x.launches ++ [{ ctx := c.ctx, descs := c.launch, user := k, man := addr }] }), true)
    else (w.1.bump rSH_EVT fSH_EVT_MAN_HELD 1, false)

/-- Tadpole mode records the samples and the manifest of an instant (R411). -/
def State.recordInstant (s : State) (k : Nat) (limit : Bool) (js : List Judged) : State :=
  let h := s.manHeader k limit
  let body := js.flatMap (·.entry)
  (s.tadFlush k).tadRecord 2 (leBytes 32 0) (h ++ leBytes 4 (crc32c (h ++ body)) ++ body)

/-- Release of the next instant (R214, R216). -/
def State.release (s : State) (limit : Bool) (js : List Judged) : State :=
  let k := s.nextInstant
  let p := if s.sh.tad.on || s.manHeld k then (s, js) else s.writeHeads 0 js
  let js := p.2
  let s1 := (List.zip (List.range js.length) js).foldl (fun x p => x.missOne p.1 p.2) p.1
  let s2 := s1.setReg rSH_INSTANT (BitVec.ofNat 64 (k + 1))
  if s.sh.tad.on then (s2.recordInstant k limit js).settle k []
  else
    let w := s2.writeManifest k limit js
    w.1.settle k (if w.2 then js.map (·.slots) else [])

def State.judgeAll (s : State) (k : Nat) : List Judged := (List.range s.sh.cfg.nsens).map (s.judge k)

/-- The next instant is released once its window has ended and no WAIT sensor is incomplete. -/
def State.evaluate (s : State) : State :=
  if s.sh.on && decide (s.nextInstant < s.sh.ended) then
    let js := s.judgeAll s.nextInstant
    if js.any (·.waits) then s else s.release false js
  else s

/-- The next instant is released past its wait limit: what comes in the limit's own cycle counts as complete. -/
def State.limitRelease (s : State) : State :=
  let k := s.nextInstant
  if s.sh.on && decide (k < s.sh.ended) && decide (s.sh.windowEnd k + s.sh.cfg.waitNs < s.dtime) then
    let js := s.judgeAll k
    s.release (js.any (·.waits)) js
  else s

/-- The window that is open ends: every sensor's clock state is kept for its instant (R220). [DEDUCED, log entry 48] -/
def State.windowEnds (s : State) : State :=
  let s0 := s.limitRelease
  if s0.sh.on && decide (s0.sh.windowEnd s0.sh.ended ≤ s0.dtime) && decide (s0.sh.ended ≤ s0.nextInstant) then
    s0.modSh (fun h => { h with ended := h.ended + 1, sens := h.sens.map (fun x => { x with atEnd := x.clock }) })
  else s0

/-- Windows whose wait limit has passed end and are released, at most `fuel` of them. -/
def State.catchUpTo : Nat → State → State
  | 0, s => s
  | f + 1, s =>
    if s.sh.on && decide (s.sh.windowEnd s.nextInstant + s.sh.cfg.waitNs < s.dtime) then State.catchUpTo f ((s.windowEnds.evaluate).limitRelease)
    else s

/-- An event that comes after the wait limit of the next instant finds it released (R214). -/
def State.overdue (s : State) : State := State.catchUpTo ((s.dtime - s.sh.windowEnd s.nextInstant) / max 1 s.sh.cfg.period + 1) s

/-- WINDOW_END (R213, R214). -/
def execWindowEnd (s : State) : Res State := .next <| s.windowEnds.evaluate

/-- WAIT_LIMIT_EXPIRY (R214). -/
def execWaitLimitExpiry (s : State) : Res State := .next s.limitRelease

/-! ## Launches (R216) -/

/-- Descriptor `i` of a launch: USER, and MANIFEST in descriptor 0. -/
def launchDesc (i raw user man : Nat) : Nat :=
  let r := setBits raw 127 64 user
  if i = 0 then setBits r 191 128 man else r

/-- Descriptors go to a context's ring from SQ_TAIL on; nothing goes where one write is refused. -/
def State.ringWrites (s : State) (c tail : Nat) (l : List (Nat × Nat)) : Option State :=
  match l with
  | [] => some s
  | (i, d) :: r =>
    match s.hubWrite c (s.sqBase c + (tail + i) % s.sqSize c * 64) (leBytes 64 d) with
    | (s1, true) => s1.ringWrites c tail r
    | (_, false) => none

/-- A launch (R216 steps 3 and 4). -/
def State.launch (s : State) (l : ShLaunch) : State :=
  let c := l.ctx
  let n := l.descs.length
  let tail := s.sqTail c
  let ds := (List.zip (List.range n) l.descs).map (fun p => (p.1, launchDesc p.1 p.2 l.user l.man))
  if s.ctxState c = 1 ∧ sub32 tail (s.sqHead c) + n ≤ s.sqSize c then
    match s.ringWrites c tail ds with
    | some s1 => s1.doorbell c ((tail + n) % 2 ^ 32)
    | none => s.bump rSH_EVT fSH_EVT_LAUNCH_DROP 1
  else s.bump rSH_EVT fSH_EVT_LAUNCH_DROP 1

/-- INSTANT_LAUNCH (R216). -/
def execInstantLaunch (s : State) : Res State :=
  .next <|
    match s.sh.launches with
    | l :: r => (s.modSh (fun h => { h with launches := r })).launch l
    | [] => s

/-- A tick launcher's record and launch (R217), once tick `j` of launcher `m` has come. [DEDUCED, log entry 48] -/
def State.tickRecord (s : State) (m j t : Nat) : State :=
  let raw := tickRaw s.sh.cfg.hdr m
  let n := s.sh.newest.getD (0, 0, 0)
  let a := tickRec raw + j % 16 * 64
  let bs := leBytes 8 j ++ leBytes 8 t ++ leBytes 8 n.1 ++ leBytes 8 n.2.1 ++ leBytes 4 n.2.2 ++ leBytes 28 0
  let w := s.hubWrite (tickCtx raw) a bs
  if w.2 then w.1.launch { ctx := tickCtx raw, descs := (s.sh.cfg.ticks[m]?).getD [], user := j, man := a }
  else w.1.bump rSH_EVT fSH_EVT_LAUNCH_DROP 1

/-- DTIME of tick `j` of launcher `m`. -/
def SensorHub.tickTime (h : SensorHub) (m j : Nat) : Nat :=
  h.epoch + tickPhase (tickRaw h.cfg.hdr m) + j * tickPeriod (tickRaw h.cfg.hdr m)

/-! ## Triggers (R218) -/

/-- TRIGGER_EDGE (R218): the latest common edge of output `out`, with its delay. -/
def execTriggerEdge (out : Nat) (s : State) : Res State :=
  .next <|
    let c := s.sh.cfg
    let base := s.sh.epoch + c.trigDelay out
    if s.sh.on && c.trig && decide (out < 16) && Nat.testBit (c.at 128 2) out && decide (base ≤ s.dtime) then
      let j := (s.dtime - base) * c.trigDiv / c.period
      let t := base + j * c.period / c.trigDiv
      if ((s.sh.edges[out]?).getD none).all (fun e => decide (e < t)) then
        s.modSh (fun h => { h with edges := setAt h.edges out (some t), pulses := setAt h.pulses out (some t) })
      else s
    else s

/-- TRIGGER_PULSE_END (R218). -/
def execTriggerPulseEnd (out : Nat) (s : State) : Res State :=
  .next <|
    match (s.sh.pulses[out]?).getD none with
    | some t =>
      if t + s.sh.cfg.trigWidth ≤ s.dtime then s.modSh (fun h => { h with pulses := setAt h.pulses out none }) else s
    | none => s

/-- Level of a trigger pin: TRIG_POL 1 is active low. -/
def State.trigPin (s : State) (out : Nat) : Bool :=
  ((s.sh.pulses[out]?).getD none).isSome != Nat.testBit (s.sh.cfg.at 130 2) out

/-! ## Enable and disable (R200, R201) -/

/-- First tick of a launcher that does not lie in the past. -/
def firstTick (h : SensorHub) (now m : Nat) : Nat :=
  ceilDiv (now - h.tickTime m 0) (max 1 (tickPeriod (tickRaw h.cfg.hdr m)))

/-- The hub starts with a configuration. -/
def State.shStart (s : State) (c : ShCfg) (start : List Nat) : State :=
  let now := s.dtime
  let epoch := if c.at 16 8 = 0 then (now / c.period + 1) * c.period else c.at 16 8
  let h : SensorHub :=
    { on := true, cfg := c, since := now, epoch := epoch, sens := List.replicate c.nsens {}
      macRx := s.sh.macRx, tad := s.sh.tad }
  let s1 := s.modSh (fun _ => { h with tickNext := (List.range 4).map (firstTick h now) })
  let s2 := (List.range 64).foldl (fun x n => x.wf (rSH_SENS_CNT n) fSH_SENS_CNT_CLOCK ckSYNCED) s1
  ((s2.setReg rSH_INSTANT 0).setFlag rSH_CFG fSH_CFG_ENABLE).calStart start

/-- ENABLE = 1: the block is read and checked, and the hub starts, or ENABLE stays 0. -/
def State.shEnable (s : State) : State :=
  match s.readShCfg with
  | .ok (c, start) => s.shStart c start
  | .error .block => s.setFlag rSH_EVT fSH_EVT_EN_BLOCK
  | .error .region => s.setFlag rSH_EVT fSH_EVT_EN_REGION

/-- ENABLE = 0: ingest, triggers and launches stop at once. -/
def State.shDisable (s : State) : State :=
  (s.modSh (fun h => { cfg := h.cfg, macRx := h.macRx, tad := h.tad })).clrFlag rSH_CFG fSH_CFG_ENABLE

/-- A write of SH_CFG (Table 9.12). -/
def State.shCfgWrite (s : State) (w : Word) : State :=
  let s1 := s.wf rSH_CFG fSH_CFG_GUARD (fSH_CFG_GUARD.get w)
  let s2 := if s.sh.on then s1 else s1.wf rSH_CFG fSH_CFG_BLOCK (fSH_CFG_BLOCK.get w)
  if fSH_CFG_ENABLE.get w = 1 then (if s.sh.on then s2 else s2.shEnable.entryCheck) else (if s.sh.on then s2.shDisable else s2)

/-- SH_ENABLE (R200). -/
def execShEnable (port : Port) (val : Word) (s : State) : Res State :=
  .next <| s.access port rSH_CFG (fun s => s.shCfgWrite (fSH_CFG_ENABLE.set val 1))

/-- SH_DISABLE (R200). -/
def execShDisable (port : Port) (val : Word) (s : State) : Res State :=
  .next <| s.access port rSH_CFG (fun s => s.shCfgWrite (fSH_CFG_ENABLE.set val 0))

/-- A write of SH_FREE_BEFORE (R212). [DEDUCED, log entry 49] -/
def State.shFreeWrite (s : State) (w : Word) : State :=
  if (s.reg rSH_FREE_BEFORE).toNat ≤ w.toNat then s.setReg rSH_FREE_BEFORE w else s

/-- SH_FREE_BEFORE_WRITE (R212). -/
def execShFreeBeforeWrite (port : Port) (val : Word) (s : State) : Res State :=
  .next <| s.access port rSH_FREE_BEFORE (fun s => s.shFreeWrite val)

/-- A write of SH_CAL_LIM: each limit is held at its top value (Table 9.18). -/
def State.shLimWrite (s : State) (w : Word) : State :=
  let g := fun (f : Fld) (top : Nat) (x : State) => x.wf rSH_CAL_LIM f (min (f.get w) top)
  g fSH_CAL_LIM_TRN_TOT_MM 100 (g fSH_CAL_LIM_ROT_TOT_MDEG 2000 (g fSH_CAL_LIM_TRN_STEP_MM 50 (g fSH_CAL_LIM_ROT_STEP_MDEG 500 s)))

/-- A write of SH_CAL_SAVED (Table 9.17). -/
def State.shSavedWrite (s : State) (w : Word) : State := (s.plainWrite rSH_CAL_SAVED w).setUnsaved

/-- A write of SH_EVT and of SH_CAL_STAT (Tables 9.15, 9.16). -/
def State.shEvtWrite (s : State) (w : Word) : State :=
  let s1 := s.plainWrite rSH_EVT w
  if fSH_EVT_CLR.get w = 1 then (s1.wf rSH_EVT fSH_EVT_LAUNCH_DROP 0).wf rSH_EVT fSH_EVT_MAN_HELD 0 else s1
def State.shCalStatWrite (s : State) (w : Word) : State :=
  if fSH_CAL_STAT_CLR.get w = 1 then (s.wf rSH_CAL_STAT fSH_CAL_STAT_REJ_CNT 0).wf rSH_CAL_STAT fSH_CAL_STAT_LAST_REJ 0 else s

/-- A write of SH_SENSn_CNT (Table 9.20). -/
def State.shCntWrite (s : State) (n : Nat) (w : Word) : State :=
  let a := rSH_SENS_CNT n
  if fSH_SENS_CNT_CLR.get w = 1 then ((s.wf a fSH_SENS_CNT_LATE_CNT 0).wf a fSH_SENS_CNT_MISS_CNT 0).wf a fSH_SENS_CNT_ERR_CNT 0 else s

/-! ## Commands of the inputs -/

/-- An input event while the hub is enabled; the alignment buffer looks again after it. -/
def State.ingest (s : State) (k : State → State) : State := if s.sh.on then (k s.overdue).evaluate else s

/-- CSI2_FRAME_START (R202, R210, R211, R218). -/
def execCsi2FrameStart (cam vc dt : Nat) (s : State) : Res State :=
  .next <| s.ingest (fun s =>
    let s0 := s.seeStream cam vc dt
    match s0.streamOf cam vc dt with
    | some n => s0.frameStart n
    | none => s0)

/-- CSI2_PIXEL_PACKET (R202, R203, R205). -/
def execCsi2PixelPacket (cam vc dt : Nat) (data : List Byte) (fault : Bool) (s : State) : Res State :=
  .next <| s.ingest (fun s =>
    match s.streamOf cam vc dt with
    | some n => s.pixelPacket n data fault
    | none => s)

/-- CSI2_FRAME_END (R202, R215). -/
def execCsi2FrameEnd (cam vc dt : Nat) (s : State) : Res State :=
  .next <| s.ingest (fun s =>
    match s.streamOf cam vc dt with
    | some n => s.frameEnd n
    | none => s)

/-- FRAME_END_TIMEOUT (R202). -/
def execFrameEndTimeout (sens : Nat) (s : State) : Res State :=
  .next <| s.ingest (fun s =>
    match (s.sens sens).frame with
    | some f => if f.stamp + 2 * senFrame (s.senE sens) ≤ s.dtime then s.dropFrame sens else s
    | none => s)

/-- HUB_ETH_FRAME (R206, R207). -/
def execHubEthFrame (rx : EthRx) (s : State) : Res State :=
  .next <| if rx.mac < 4 ∧ s.rail .hub = .on then (s.overdue.ethFrame rx).evaluate else s

/-- SPI_TRANSFER_TIMER (R208). -/
def execSpiTransferTimer (sens : Nat) (s : State) : Res State :=
  .next <| s.ingest (fun s =>
    let e := s.senE sens
    let x := s.sens sens
    if senKind e = kSPI ∧ senDrdy e = false ∧ s.sh.since + (x.xferNo + 1) * senFrame e ≤ s.dtime then
      let s1 := s.modSens sens (fun y => { y with xferNo := y.xferNo + 1 })
      if x.xfer.isSome then s1 else s1.spiStart sens
    else s)

/-- DRDY_EDGE (R208): at every sensor that names the line. -/
def execDrdyEdge (line : Nat) (s : State) : Res State :=
  .next <| s.ingest (fun s => (List.range s.sh.cfg.nsens).foldl (fun x n => x.drdy line n) s)

/-- SPI_TRANSFER_COMPLETE (R208, R210). -/
def execSpiTransferComplete (sens : Nat) (data : List Byte) (s : State) : Res State :=
  .next <| s.ingest (fun s => s.spiDone sens data)

/-- UART_RECORD (R209, R210). -/
def execUartRecord (uart : Nat) (data : List Byte) (ago : Nat) (fault : Bool) (s : State) : Res State :=
  .next <| s.ingest (fun s =>
    let s0 := if 1 ≤ uart ∧ uart ≤ 3 then s.seeSource kUART uart else s
    match s0.sourceOf kUART uart with
    | some n => if uartFramed ((s0.sh.cfg.param[n]?).getD 0) data then s0.uartRecord n data ago fault else s0
    | none => s0)

/-- PPS_EDGE (R209, R442): an accepted edge disciplines, and enters the PPS series. -/
def execPpsEdge (falling : Bool) (widthUs : Nat) (s : State) : Res State :=
  .next <|
    match s.ppsEdge falling widthUs with
    | (s1, true) => s1.ingest State.ppsRecords
    | (s1, false) => s1

end Sys2Proof.Machine
end

