-- ==== Sys2Proof/Machine/Journal.lean ====
section
/-!
DEFINITION. The flash, its directory, the journal and the flash commands of firmware (R402,
R417–R423, R445), and the security fuses (R404).
-/
namespace Sys2Proof.Machine

/-! ## The flash -/

/-- What an erased byte reads as. -/
def erased : Byte := 0xFF

/-- Bytes of the largest device (Table 21.2). [DESIGN CHOICE, log entry 88] -/
def flashBytes : Nat := 2 ^ 28

def State.flashByte (s : State) (a : Nat) : Byte := (mapGet s.flash.cells a).getD erased
def State.flashRead (s : State) (a n : Nat) : List Byte := (List.range n).map (fun i => s.flashByte (a + i))
def State.flashNat (s : State) (a n : Nat) : Nat := leNat (s.flashRead a n)

/-- The bytes with one programmed: programming only clears bits. -/
def flashPut (l : List Host.Cell) (a : Nat) (b : Byte) : List Host.Cell :=
  let v := ((mapGet l a).getD erased) &&& b
  if v = erased then mapDel l a else mapPut l a v

def flashPuts : List Host.Cell → Nat → List Byte → List Host.Cell
  | l, _, [] => l
  | l, a, b :: r => flashPuts (flashPut l a b) (a + 1) r

def State.flashProgram (s : State) (a : Nat) (bs : List Byte) : State :=
  s.modFlash (fun f => { f with cells := flashPuts f.cells a bs })

def State.flashErase (s : State) (a n : Nat) : State :=
  s.modFlash (fun f => { f with cells := f.cells.filter (fun c => decide (c.1 < a) || decide (a + n ≤ c.1)) })

/-- A range is erased. -/
def State.flashBlank (s : State) (a n : Nat) : Bool :=
  s.flash.cells.all (fun c => decide (c.1 < a) || decide (a + n ≤ c.1))

/-! ## The directory (R402) -/

/-- Areas a directory names, as (offset, bytes): slots 0 and 1, journal areas A and B. -/
def dirAreas (d : Nat) : List (Nat × Nat) :=
  [(bytesOf d 8 4, bytesOf d 16 4), (bytesOf d 12 4, bytesOf d 16 4), (bytesOf d 20 4, bytesOf d 28 4), (bytesOf d 24 4, bytesOf d 28 4)]

def disjoint (a b : Nat × Nat) : Bool := decide (a.1 + a.2 ≤ b.1) || decide (b.1 + b.2 ≤ a.1)

/-- No two of some areas overlap. -/
def apart : List (Nat × Nat) → Bool
  | [] => true
  | a :: r => r.all (disjoint a) && apart r

/-- The rules of R402. [DESIGN CHOICE, log entry 88] -/
def dirOk (d : Nat) : Bool :=
  let l := dirAreas d
  let jn := bytesOf d 28 4
  bytesOf d 0 4 == 0x50564449 && bytesOf d 4 2 == 1 && decide (bytesOf d 6 1 ≤ 1) && bytesOf d 7 1 == 0 && bytesOf d 32 28 == 0
  && crc32c (leBytes 60 d) == bytesOf d 60 4
  && l.all (fun a => a.1 % 65536 == 0 && decide (a.1 + a.2 ≤ flashBytes)) && apart l
  && jn % 65536 == 0 && between 262144 jn 16777216

/-- The directory in use: the first copy that is good. -/
def State.readDir (s : State) : Option Nat := ([0, 0x1000].map (fun a => s.flashNat a 64)).find? dirOk

/-- Offset of journal area `k`, and the bytes of an area. -/
def State.jnBase (s : State) (k : Nat) : Nat := bytesOf (s.flash.dir.getD 0) (20 + 4 * k) 4
def State.jnSize (s : State) : Nat := bytesOf (s.flash.dir.getD 0) 28 4

/-! ## Records (R417, R418) -/

def jnAREA : Nat := 0x01
def jnSNAP : Nat := 0x02
def jnBOOT : Nat := 0x10
def jnSHUTDOWN : Nat := 0x11
def jnCAL : Nat := 0x20
def jnDELAY : Nat := 0x30
def jnFAULT : Nat := 0x40
def jnWEAR : Nat := 0x50

/-- A type of Table 19.8. -/
def jnTypeOk (t : Nat) : Bool :=
  [jnAREA, jnSNAP, jnBOOT, jnSHUTDOWN, jnCAL, jnDELAY, jnFAULT, jnWEAR].contains t || between 0x80 t 0xEF

/-- Offset of COMMIT in a record, and the bytes a record occupies. -/
def commitAt (len : Nat) : Nat := 16 * ceilDiv (20 + len) 16
def recSize (len : Nat) : Nat := up64 (commitAt len + 16)

/-- Header and payload of a record. -/
def JRec.head (r : JRec) : List Byte :=
  leBytes 2 0x4A4E ++ leBytes 1 r.type ++ leBytes 1 0 ++ leBytes 4 r.seq ++ leBytes 2 r.data.length ++ leBytes 2 r.key ++ leBytes 4 0 ++ r.data

def JRec.crc (r : JRec) : Nat := crc32c r.head
/-- What is programmed before COMMIT. -/
def JRec.body (r : JRec) : List Byte := r.head ++ leBytes 4 r.crc
def JRec.size (r : JRec) : Nat := recSize r.data.length

/-- A record as it stands once it is committed. -/
def JRec.image (r : JRec) : List Byte :=
  let b := r.body
  let c := commitAt r.data.length
  b ++ List.replicate (c - b.length) erased ++ leBytes 4 0 ++ List.replicate (r.size - c - 4) erased

/-- The record at an offset of an area, where it is valid. -/
def State.jnRecAt (s : State) (base size off : Nat) : Option JRec :=
  let a := base + off
  let h := s.flashNat a 16
  let len := bytesOf h 8 2
  if bytesOf h 0 2 = 0x4A4E ∧ jnTypeOk (bytesOf h 2 1) ∧ len ≤ 4048 ∧ off + recSize len ≤ size
    ∧ crc32c (s.flashRead a (16 + len)) = s.flashNat (a + 16 + len) 4 ∧ s.flashNat (a + commitAt len) 4 = 0 then
    some { off := off, type := bytesOf h 2 1, seq := bytesOf h 4 4, key := bytesOf h 10 2, data := s.flashRead (a + 16) len }
  else none

/-- What a scan finds: the valid records, in place order, and how many are torn. -/
structure Scan where
  recs : List JRec := []
  torn : Nat := 0
  deriving DecidableEq, Repr

/-- Scan of an area from an offset, boundary by boundary (R420). -/
def State.jnScan (s : State) (base size : Nat) : Nat → Nat → Scan
  | 0, _ => {}
  | n + 1, off =>
    if size ≤ off ∨ s.flashBlank (base + off / 4096 * 4096) 4096 then {}
    else
      match s.jnRecAt base size off with
      | some r =>
        let x := s.jnScan base size n (off + r.size)
        { x with recs := r :: x.recs }
      | none =>
        let x := s.jnScan base size n (off + 64)
        { x with torn := x.torn + bit (s.flashNat (base + off) 2 == 0x4A4E) }

def State.scanArea (s : State) (k : Nat) : Scan := s.jnScan (s.jnBase k) s.jnSize (s.jnSize / 64) 0

/-! ## Replay (R418–R420) -/

/-- `a` is newer than `b` modulo 2^32 (R418). -/
def seqNewer (a b : Nat) : Bool := between 1 ((a + 2 ^ 32 - b % 2 ^ 32) % 2 ^ 32) (2 ^ 31 - 1)

/-- An area is valid: its AREA record, where it begins with one and holds SNAP_END (R419). -/
def Scan.area (x : Scan) : Option JRec :=
  match x.recs with
  | r :: t => if r.type = jnAREA ∧ r.off = 0 ∧ t.any (fun y => y.type == jnSNAP) then some r else none
  | [] => none

def JRec.gen (r : JRec) : Nat := bytesOf (leNat r.data) 0 4
def JRec.erases (r : JRec) : Nat := bytesOf (leNat r.data) 4 4
def JRec.uid (r : JRec) : Nat := bytesOf (leNat r.data) 8 8

/-- The active area (R419). -/
def State.activeArea (s : State) : Option Nat :=
  match (s.scanArea 0).area, (s.scanArea 1).area with
  | some a, some b => some (if seqNewer b.gen a.gen then 1 else 0)
  | some _, none => some 0
  | none, some _ => some 1
  | none, none => none

/-- Put a record in SEQ order, oldest first; one whose SEQ is there already is ignored. -/
def seqIns (r : JRec) : List JRec → List JRec
  | [] => [r]
  | x :: t => if r.seq = x.seq then x :: t else if seqNewer x.seq r.seq then r :: x :: t else x :: seqIns r t

/-- Records of a scan as replay applies them: AREA aside, in ascending SEQ. -/
def Scan.applied (x : Scan) : List JRec := (x.recs.filter (fun r => r.type != jnAREA)).foldl (fun l r => seqIns r l) []

/-- Records that replay ignores: torn, or not newer than one applied. [DEDUCED, log entry 89] -/
def Scan.ignored (x : Scan) : Nat := x.torn + ((x.recs.filter (fun r => r.type != jnAREA)).length - x.applied.length)

/-- Records kept by KEY, and firmware's by TYPE and KEY: the newest of each. -/
def sameSlot (a b : JRec) : Bool := a.type == b.type && a.key == b.key

/-- The kept state of Table 19.8, of records in ascending SEQ. -/
def keptRecs (l : List JRec) : List JRec :=
  let faults := l.filter (fun r => r.type == jnFAULT)
  let drop := (faults.take (faults.length - 256)).map (·.seq)
  let rec go : List JRec → List JRec
    | [] => []
    | r :: t =>
      if r.type = jnSNAP then go t
      else if r.type = jnFAULT then (if drop.contains r.seq then go t else r :: go t)
      else if t.any (fun x => sameSlot x r) then go t
      else r :: go t
  go l

/-- The records of the active area in ascending SEQ. -/
def State.jnRecs (s : State) : List JRec :=
  match s.flash.dir, s.activeArea with
  | some _, some k => (s.scanArea k).applied
  | _, _ => []

/-- The newest record of a type. -/
def newestOf (l : List JRec) (t : Nat) : Option JRec := l.reverse.find? (fun r => r.type == t)

/-- First free boundary of an area: after its last byte that is not erased. [DEDUCED, log entry 89] -/
def State.freeBoundary (s : State) (k : Nat) : Nat :=
  let b := s.jnBase k
  let here := s.flash.cells.filter (fun c => decide (b ≤ c.1) && decide (c.1 < b + s.jnSize))
  match (here.map (·.1)).max? with
  | some a => (a - b) / 64 * 64 + 64
  | none => 0

def jnIDLE : Nat := 0
def jnAPPEND : Nat := 1
def jnERASE : Nat := 3
def jnREPLAY : Nat := 4
def jnOFFLINE : Nat := 5
def State.jnEngine (s : State) : Nat := s.rf rJN_STATUS fJN_STATUS_ENGINE
def State.setJnEngine (s : State) (v : Nat) : State := s.wf rJN_STATUS fJN_STATUS_ENGINE v
def State.jnActive (s : State) : Nat := s.rf rJN_STATUS fJN_STATUS_ACTIVE
def State.jnNextSeq (s : State) : Nat := s.rf rJN_SEQ fJN_SEQ_NEXT_SEQ
def State.jnRej (s : State) : State := s.setFlag rJN_STATUS fJN_STATUS_CFG_REJ

/-- The append point, and JN_FILL. -/
def State.setFill (s : State) (off : Nat) : State :=
  ((s.modFlash (fun f => { f with next := off })).wf rJN_FILL fJN_FILL_USED off).wf rJN_FILL fJN_FILL_AREA_BYTES s.jnSize

/-- Program a record at an offset of area `k`, commit marker and all. -/
def State.putRec (s : State) (k off : Nat) (r : JRec) : State :=
  let a := s.jnBase k + off
  (s.flashProgram a r.body).flashProgram (a + commitAt r.data.length) (leBytes 4 0)

/-- Program records one after the other; the offset past the last. -/
def State.putRecs (s : State) (k : Nat) : Nat → List JRec → State × Nat
  | off, [] => (s, off)
  | off, r :: t => (s.putRec k off r).putRecs k (off + r.size) t

/-- The AREA record of a new area. [DEDUCED, log entry 89] -/
def State.areaRec (s : State) (gen erases : Nat) : JRec :=
  { off := 0, type := jnAREA, seq := 0, key := 0
    data := leBytes 4 gen ++ leBytes 4 erases ++ leBytes 8 s.fuses.uid ++ leBytes 4 s.jnSize }

/-- The SNAP_END record behind kept records. [DEDUCED, log entry 89] -/
def snapRec (seq : Nat) (l : List JRec) : JRec :=
  { off := 0, type := jnSNAP, seq := seq, key := 0
    data := leBytes 4 ((l.head?.map (·.seq)).getD 0) ++ leBytes 4 l.length ++ leBytes 4 (crc32c (l.flatMap (fun r => leBytes 4 r.crc))) }

/-- JN_ERASE of an area. -/
def jnEraseFld (k : Nat) : Fld := if k = 0 then fJN_ERASE_ERASES_A else fJN_ERASE_ERASES_B

/-- Area `k` becomes the active one with a generation, kept records and SNAP_END (R422). -/
def State.newArea (s : State) (k gen seq : Nat) (l : List JRec) : State :=
  let s1 := s.flashErase (s.jnBase k) s.jnSize
  let er := s1.rf rJN_ERASE (jnEraseFld k) + 1
  let s2 := s1.wf rJN_ERASE (jnEraseFld k) er
  let r := s2.putRecs k 0 (s2.areaRec gen er :: l ++ [snapRec seq l])
  let s3 := ((r.1.setFill r.2).wf rJN_STATUS fJN_STATUS_ACTIVE k).wf rJN_STATUS fJN_STATUS_GEN gen
  s3.wf rJN_SEQ fJN_SEQ_NEXT_SEQ (seq + 1)

/-- The erase counts of the areas, from their AREA records. -/
def State.showErases (s : State) : State :=
  (List.range 2).foldl (fun x k =>
    match (s.scanArea k).recs.head? with
    | some r => if r.type = jnAREA ∧ r.off = 0 then x.wf rJN_ERASE (jnEraseFld k) r.erases else x
    | none => x) s

/-- Replay of the flash as it stands (R419, R420). Without a directory there is no journal. -/
def State.jnReplay (s : State) : State :=
  if s.flash.dir = none then s.setJnEngine jnREPLAY
  else
    let s1 := (s.showErases).setJnEngine jnIDLE
    match s1.activeArea with
    | none =>
      ((s1.setFlag rJN_STATUS fJN_STATUS_EMPTY).clrFlag rJN_STATUS fJN_STATUS_FOREIGN).newArea 0 1 0 []
    | some k =>
      let x := s1.scanArea k
      let a := x.area
      let gen := (a.map JRec.gen).getD 0
      let foreign := (a.map JRec.uid).getD 0 != s1.fuses.uid
      let s2 := ((s1.wf rJN_STATUS fJN_STATUS_ACTIVE k).wf rJN_STATUS fJN_STATUS_GEN gen).wf rJN_STATUS fJN_STATUS_FOREIGN (bit foreign)
      let s3 := (s2.clrFlag rJN_STATUS fJN_STATUS_EMPTY).bump rJN_CNT fJN_CNT_TORN_CNT x.ignored
      (s3.wf rJN_SEQ fJN_SEQ_NEXT_SEQ (((x.applied.getLast?.map (fun r => r.seq + 1)).getD 0))).setFill (s3.freeBoundary k)

/-! ## Appends (R421) -/

/-- What ENGINE reads when no append runs: ERASE while a compaction erases the other area (R422). -/
def State.jnRest (s : State) : Nat := if s.flag rJN_STATUS fJN_STATUS_COMPACT then jnERASE else jnIDLE

/-- The engine takes an append: it is idle, or between two sectors that a compaction erases (R422). -/
def State.jnReady (s : State) : Bool := s.jnEngine == jnIDLE || (s.jnEngine == jnERASE && s.flag rJN_STATUS fJN_STATUS_COMPACT)

def State.appendStat (s : State) (result err seq : Nat) : State :=
  s.setReg rJN_APPEND_STAT (BitVec.ofNat 64 (seq % 2 ^ 32 * 2 ^ 32 + err * 16 + result))

def State.appendSeq (s : State) : Nat := s.rf rJN_APPEND_STAT fJN_APPEND_STAT_SEQ

/-- A refused append. [DEDUCED, log entry 90] -/
def State.appendRefuse (s : State) (err : Nat) : State := s.appendStat 3 err s.appendSeq

/-- The body of a record goes to the first free boundary, where the area has room for it. -/
def State.appendBody (s : State) (r : JRec) (again : Bool) : State :=
  let off := s.flash.next
  if off + r.size ≤ s.jnSize then
    ((s.flashProgram (s.jnBase s.jnActive + off) r.body).modFlash (fun f =>
      { f with append := some { rec' := { r with off := off }, again := again } })).setJnEngine jnAPPEND
  else ((s.appendRefuse 5).modFlash (fun f => { f with append := none })).setJnEngine s.jnRest

/-- The append in flight commits. -/
def State.appendDone (s : State) (x : Append) : State :=
  let r := x.rec'
  let s1 := s.flashProgram (s.jnBase s.jnActive + r.off + commitAt r.data.length) (leBytes 4 0)
  let s2 := (s1.modFlash (fun f => { f with append := none })).setFill (r.off + r.size)
  let s3 := ((s2.appendStat 1 0 r.seq).wf rJN_SEQ fJN_SEQ_NEXT_SEQ (r.seq + 1)).bump rJN_CNT2 fJN_CNT2_APPEND_CNT 1
  s3.setJnEngine s.jnRest

/-- An append of HUB itself (R403, R407, R416): one already in flight completes first. [DEDUCED, log entry 90] -/
def State.hubAppend (s : State) (type key : Nat) (data : List Byte) : State :=
  let s1 := match s.flash.append with
    | some x => s.appendDone x
    | none => s
  if s1.flash.dir = none ∨ s1.jnReady = false then s1
  else
    let r : JRec := { off := s1.flash.next, type := type, seq := s1.jnNextSeq, key := key, data := data }
    if s1.flash.next + r.size ≤ s1.jnSize then
      ((s1.putRec s1.jnActive r.off r).setFill (r.off + r.size)).wf rJN_SEQ fJN_SEQ_NEXT_SEQ (r.seq + 1)
    else s1

/-- Firmware's record of a GO. -/
def State.jnRecord (s : State) (len : Nat) : JRec :=
  { off := s.flash.next, type := s.rf rJN_APPEND fJN_APPEND_TYPE, seq := s.jnNextSeq, key := s.rf rJN_APPEND fJN_APPEND_KEY
    data := s.anyRead (s.rf rJN_APPEND_SRC fJN_APPEND_SRC_ADDR * 64) len }

/-- A write of JN_APPEND. [DEDUCED, log entry 90] -/
def State.jnAppendWrite (s : State) (w : Word) : State :=
  let s1 := s.plainWrite rJN_APPEND w
  if fJN_APPEND_GO.get w = 0 then s1
  else if s.jnEngine = jnOFFLINE then s1.appendRefuse 6
  else if s.jnReady = false then s1.jnRej
  else
    let typ := s1.rf rJN_APPEND fJN_APPEND_TYPE
    let len := s1.rf rJN_APPEND fJN_APPEND_LENGTH
    let src := s1.rf rJN_APPEND_SRC fJN_APPEND_SRC_ADDR * 64
    if jnTypeOk typ = false ∨ typ = jnAREA ∨ typ = jnSNAP then s1.appendRefuse 1
    else if 4048 < len then s1.appendRefuse 2
    else if (unitsOf 64 src len).any (fun l => (s1.lineErr l).isSome) then s1.appendRefuse 3
    else if s1.mem.poisoned src len then s1.appendRefuse 4
    else (s1.appendStat 2 0 s1.jnNextSeq).appendBody (s1.jnRecord len) false

/-- JN_APPEND (R421). -/
def execJnAppend (port : Port) (typ key len : Nat) (s : State) : Res State :=
  .next <| s.access port rJN_APPEND (fun s =>
    s.jnAppendWrite (fJN_APPEND_GO.set (fJN_APPEND_TYPE.set (fJN_APPEND_KEY.set (fJN_APPEND_LENGTH.set 0 len) key) typ) 1))

/-- APPEND_COMMIT (R421): the read-back agrees, or a failure repeats the append once at the next
boundary. -/
def execAppendCommit (ok : Bool) (s : State) : Res State :=
  .next <|
    match s.flash.append with
    | none => s
    | some x =>
      if ok then s.appendDone x
      else
        let s1 := (s.bump rJN_CNT2 fJN_CNT2_FLASH_ERR_CNT 1).setFill (x.rec'.off + x.rec'.size)
        if x.again then ((s1.appendRefuse 5).modFlash (fun f => { f with append := none })).setJnEngine s.jnRest
        else s1.appendBody x.rec' true

/-! ## Compaction (R422) -/

/-- The active area is 75 % full or more. -/
def State.jnFull (s : State) : Bool := decide (3 * s.jnSize ≤ 4 * s.flash.next) && s.flash.dir.isSome

/-- COMPACTION_START (R422): the other area is erased, and ENGINE reads ERASE; appends are served between its sectors. -/
def execCompactionStart (s : State) : Res State :=
  .next <|
    if s.jnFull ∧ s.jnEngine = jnIDLE ∧ s.rf rJN_STATUS fJN_STATUS_COMPACT = 0 then
      ((s.flashErase (s.jnBase (1 - s.jnActive)) s.jnSize).setFlag rJN_STATUS fJN_STATUS_COMPACT).setJnEngine jnERASE
    else s

/-- COMPACTION_COMPLETE (R422): the kept records stand in the other area, which becomes active; ENGINE's COMPACT lies within this
step. [DEDUCED, log entry 89] -/
def execCompactionComplete (s : State) : Res State :=
  .next <|
    if s.rf rJN_STATUS fJN_STATUS_COMPACT = 1 ∧ s.flash.append = none then
      let old := s.jnActive
      let s1 := s.newArea (1 - old) (s.rf rJN_STATUS fJN_STATUS_GEN + 1) s.jnNextSeq (keptRecs (s.scanArea old).applied)
      (((s1.flashErase (s1.jnBase old) s1.jnSize).clrFlag rJN_STATUS fJN_STATUS_COMPACT).setJnEngine jnIDLE).bump rJN_CNT fJN_CNT_COMPACT_CNT 1
    else s

/-! ## Out of service (R423) -/

/-- OFFLINE = 1. -/
def State.jnOffline (s : State) : State :=
  if s.jnEngine = jnOFFLINE then s
  else
    let s1 := match s.flash.append with
      | some x => s.appendDone x
      | none => s
    ((s1.clrFlag rJN_STATUS fJN_STATUS_COMPACT).setFlag rJN_CTRL fJN_CTRL_OFFLINE).setJnEngine jnOFFLINE

/-- OFFLINE = 0. -/
def State.jnOnline (s : State) : State :=
  if s.jnEngine = jnOFFLINE then (s.clrFlag rJN_CTRL fJN_CTRL_OFFLINE).jnReplay else s

/-- JN_OFFLINE (R423). -/
def execJnOffline (port : Port) (s : State) : Res State := .next <| s.access port rJN_CTRL State.jnOffline

/-- JN_ONLINE (R423). -/
def execJnOnline (port : Port) (s : State) : Res State := .next <| s.access port rJN_CTRL State.jnOnline

/-! ## Fuses (Table 19.9) -/

/-- A write of JN_FUSE. [DEDUCED, log entry 90] -/
def State.jnFuseWrite (s : State) (w : Word) : State :=
  let arg := fJN_FUSE_ARG.get w
  if fJN_FUSE_GO.get w = 0 then s
  else if fJN_FUSE_OP.get w = 1 then
    (if arg < s.fuses.svn then s.jnRej else s.modFuses (fun f => { f with svn := arg }))
  else if fJN_FUSE_OP.get w = 2 then
    (if 4 ≤ arg ∨ s.flash.signer = some arg then s.jnRej
     else s.modFuses (fun f => { f with revoked := setAt f.revoked arg true }))
  else s

/-- FUSE_ADVANCE_SVN (R404). -/
def execFuseAdvanceSvn (port : Port) (arg : Nat) (s : State) : Res State :=
  .next <| s.access port rJN_FUSE (fun s => s.jnFuseWrite (fJN_FUSE_GO.set (fJN_FUSE_OP.set (fJN_FUSE_ARG.set 0 arg) 1) 1))

/-- FUSE_REVOKE_KEY (R404). -/
def execFuseRevokeKey (port : Port) (arg : Nat) (s : State) : Res State :=
  .next <| s.access port rJN_FUSE (fun s => s.jnFuseWrite (fJN_FUSE_GO.set (fJN_FUSE_OP.set (fJN_FUSE_ARG.set 0 arg) 2) 1))

/-- A write of the JN_ window; each counter register has its CLR. -/
def State.jnWrite (s : State) (off : Nat) (w : Word) : State :=
  if off = 0 then s.plainWrite rJN_STATUS w
  else if off = 0x20 then s.plainWrite rJN_APPEND_SRC w
  else if off = 0x28 then s.jnAppendWrite w
  else if off = 0x48 then s.jnFuseWrite w
  else if off = 0x58 then (if fJN_CTRL_OFFLINE.get w = 1 then s.jnOffline else s.jnOnline)
  else if off = 0x200 then (if fJN_CNT_CLR.get w = 1 then s.setReg rJN_CNT 0 else s)
  else if off = 0x208 then (if fJN_CNT2_CLR.get w = 1 then s.setReg rJN_CNT2 0 else s)
  else s

/-! ## Firmware's flash commands (R445) -/

def xsREAD : Nat := 0
def xsPROGRAM : Nat := 1
def xsERASE : Nat := 2
def State.xsResult (s : State) (v : Nat) : State := s.wf rIO_XSPI_CMD fIO_XSPI_CMD_RESULT v

/-- A range touches the directory or a journal area. -/
def State.xsGuarded (s : State) (a n : Nat) : Bool :=
  let areas := (0, 64) :: (0x1000, 64) :: (if s.flash.dir.isSome then [(s.jnBase 0, s.jnSize), (s.jnBase 1, s.jnSize)] else [])
  areas.any (fun x => !(disjoint (a, n) x))

/-- The range and the buffer of a command, where it is legal. -/
def State.xsLegal (s : State) (op a len : Nat) : Bool :=
  let buf := s.rf rIO_XSPI_BUF fIO_XSPI_BUF_ADDR * 64
  let c := s.rf rTR_CFG fTR_CFG_CTX
  let sized := between 1 len 256 && decide (a + len ≤ flashBytes)
  if op = xsREAD then sized && (s.engineErr c .wr buf len).isNone
  else if op = xsPROGRAM then
    sized && decide (a % 256 + len ≤ 256) && (s.engineErr c .rd buf len).isNone && !s.mem.poisoned buf len
  else op == xsERASE && a % 65536 == 0

/-- A write of IO_XSPI_CMD. [DEDUCED, log entry 90] -/
def State.xspiWrite (s : State) (w : Word) : State :=
  if s.rf rIO_XSPI_CMD fIO_XSPI_CMD_RESULT = 2 then s
  else
    let s1 := s.plainWrite rIO_XSPI_CMD w
    if fIO_XSPI_CMD_GO.get w = 0 then s1
    else
      let op := fIO_XSPI_CMD_OP.get w
      let a := fIO_XSPI_CMD_FLASH_ADDR.get w
      let len := fIO_XSPI_CMD_LEN.get w
      let buf := s.rf rIO_XSPI_BUF fIO_XSPI_BUF_ADDR * 64
      let n := if op = xsERASE then 65536 else len
      if !s.xsLegal op a len || (s.xsGuarded a n && s.jnEngine != jnOFFLINE) then s1.xsResult 3
      else
        let s2 := s1.xsResult 2
        if op = xsREAD then s2.putBytes buf (s2.flashRead a len)
        else if op = xsPROGRAM then s2.flashProgram a (s2.anyRead buf len)
        else s2.flashErase a 65536

/-- The word of a command with GO. -/
def xspiWord (op a len : Nat) : Word :=
  fIO_XSPI_CMD_GO.set (fIO_XSPI_CMD_OP.set (fIO_XSPI_CMD_LEN.set (fIO_XSPI_CMD_FLASH_ADDR.set 0 a) len) op) 1

/-- XSPI_READ (R445). -/
def execXspiRead (port : Port) (addr len : Nat) (s : State) : Res State :=
  .next <| s.access port rIO_XSPI_CMD (fun s => s.xspiWrite (xspiWord xsREAD addr len))

/-- XSPI_PROGRAM (R445). -/
def execXspiProgram (port : Port) (addr len : Nat) (s : State) : Res State :=
  .next <| s.access port rIO_XSPI_CMD (fun s => s.xspiWrite (xspiWord xsPROGRAM addr len))

/-- XSPI_ERASE (R445). -/
def execXspiErase (port : Port) (addr : Nat) (s : State) : Res State :=
  .next <| s.access port rIO_XSPI_CMD (fun s => s.xspiWrite (xspiWord xsERASE addr 0))

/-- XSPI_COMMAND_COMPLETE (R445). -/
def execXspiCommandComplete (s : State) : Res State :=
  .next <| if s.rf rIO_XSPI_CMD fIO_XSPI_CMD_RESULT = 2 then s.xsResult 1 else s

end Sys2Proof.Machine
end

