-- ==== Sys2Proof/Machine/P384.lean ====
section
/-!
DEFINITION. ECDSA on the curve P-384 (FIPS 186-5): the verification of a signature over a SHA-384
digest (R404, R436).
-/
namespace Sys2Proof.Machine

def ecP : Nat := 2 ^ 384 - 2 ^ 128 - 2 ^ 96 + 2 ^ 32 - 1
def ecB : Nat := 0xB3312FA7E23EE7E4988E056BE3F82D19181D9C6EFE8141120314088F5013875AC656398D8A2ED19D2A85C8EDD3EC2AEF
def ecN : Nat := 0xFFFFFFFFFFFFFFFFFFFFFFFFFFFFFFFFFFFFFFFFFFFFFFFFC7634D81F4372DDF581A0DB248B0A77AECEC196ACCC52973
def ecGx : Nat := 0xAA87CA22BE8B05378EB1C71EF320AD746E1D3B628BA79B9859F741E082542A385502F25DBF55296C3A545E3872760AB7
def ecGy : Nat := 0x3617DE4A96262C6F5D9E98BF9292DC29F8F41DBD289A147CE9DA3113B5F0B8C00A60B1CE1D7E819D7A431D7C90EA0E5F

/-- Power modulo `m`; `n` bounds the bits of the exponent. -/
def powMod (m : Nat) : Nat → Nat → Nat → Nat
  | 0, _, _ => 1
  | n + 1, b, e =>
    let h := powMod m n (b * b % m) (e / 2)
    if e % 2 = 1 then b * h % m else h

/-- Inverse modulo a prime. -/
def invMod (m a : Nat) : Nat := powMod m 384 (a % m) (m - 2)

/-- An affine point; `none` is the point at infinity. -/
abbrev EcPoint := Option (Nat × Nat)

/-- The third point of the line with slope `l` through `a` and one of abscissa `x2`, mirrored. -/
def ecLine (l : Nat) (a : Nat × Nat) (x2 : Nat) : Nat × Nat :=
  let x3 := (l * l + 2 * ecP - a.1 - x2) % ecP
  (x3, (l * (a.1 + ecP - x3) + ecP - a.2) % ecP)

def ecDouble : EcPoint → EcPoint
  | none => none
  | some a =>
    if a.2 = 0 then none
    else some (ecLine ((3 * (a.1 * a.1 + ecP - 1)) % ecP * invMod ecP (2 * a.2) % ecP) a a.1)

def ecAdd : EcPoint → EcPoint → EcPoint
  | none, b => b
  | a, none => a
  | some a, some b =>
    if a.1 = b.1 then (if a.2 = b.2 then ecDouble (some a) else none)
    else some (ecLine ((b.2 + ecP - a.2) * invMod ecP (b.1 + ecP - a.1) % ecP) a b.1)

/-- `k` times a point; `n` bounds the bits of `k`. -/
def ecMul : Nat → Nat → EcPoint → EcPoint
  | 0, _, _ => none
  | n + 1, k, p =>
    let h := ecMul n (k / 2) (ecDouble p)
    if k % 2 = 1 then ecAdd p h else h

/-- A pair of coordinates is a point of the curve. -/
def ecOn (x y : Nat) : Bool :=
  decide (x < ecP) && decide (y < ecP) && y * y % ecP == (x * x * x + (ecP - 3) * x + ecB) % ecP

/-- A public key as it stands in a header: an uncompressed point of 97 bytes. -/
def ecKey (l : List Byte) : EcPoint :=
  let x := beWord ((l.drop 1).take 48)
  let y := beWord ((l.drop 49).take 48)
  if l.head? = some 4 ∧ ecOn x y then some (x, y) else none

/-- The signature (`r`, `s`) of the digest `e` verifies under a public key. -/
def ecdsaOk (key : List Byte) (e r s : Nat) : Bool :=
  match ecKey key with
  | none => false
  | some q =>
    let w := invMod ecN s
    if r = 0 ∨ s = 0 ∨ ecN ≤ r ∨ ecN ≤ s then false
    else
      match ecAdd (ecMul 384 (e * w % ecN) (some (ecGx, ecGy))) (ecMul 384 (r * w % ecN) (some q)) with
      | some p => p.1 % ecN == r
      | none => false

end Sys2Proof.Machine
end

