-- ==== Sys2Proof/Machine/Image.lean ====
section
/-!
DEFINITION. Firmware images (R404–R406, Table 19.4): their header, their segments and their signature, those of a slot of the
flash and those that an island holds in its TCM.
-/
namespace Sys2Proof.Machine

/-! ## Headers and segments -/

/-- A segment entry of an image: KIND, LENGTH, FLASH_OFF and LOAD. -/
structure Seg where
  kind : Nat
  len  : Nat
  off  : Nat
  load : Nat
  deriving DecidableEq, Repr

/-- Header of an image in the flash, as a little-endian number of 832 bytes. -/
def State.imgHdr (s : State) (base : Nat) : Nat := s.flashNat base 832

def imgNseg (h : Nat) : Nat := bytesOf h 6 2
def imgSvn (h : Nat) : Nat := bytesOf h 8 4
def imgEntry (h : Nat) : Nat := bytesOf h 16 8
def imgReplay (h : Nat) : Nat := bytesOf h 24 8

def segAt (h k : Nat) : Seg :=
  { kind := bytesOf h (64 + 32 * k) 1, len := bytesOf h (68 + 32 * k) 4, off := bytesOf h (72 + 32 * k) 4
    load := bytesOf h (80 + 32 * k) 8 }

def imgSegs (h : Nat) : List Seg := (List.range (imgNseg h)).map (segAt h)

/-- Segments that HUB itself loads: HART, TEST and DATA. [DEDUCED, log entry 86] -/
def Seg.loads (g : Seg) : Bool := g.kind == 1 || g.kind == 2 || g.kind == 5

/-- Reserved bytes of a segment entry. -/
def segReserved (h k : Nat) : Bool :=
  bytesOf h (65 + 32 * k) 3 == 0 && bytesOf h (76 + 32 * k) 4 == 0 && bytesOf h (88 + 32 * k) 8 == 0

/-- HART, TEST and DATA segments lie in one range of HBM of at most 32 MiB (R405). -/
def loadsOk (hbm : Nat) (l : List Seg) : Bool :=
  match (l.map (·.load)).min?, (l.map (fun g => g.load + g.len)).max? with
  | some lo, some hi => decide (hi ≤ hbm) && decide (hi ≤ lo + 2 ^ 25)
  | _, _ => true

/-- The entries of an image are legal (R404). -/
def State.segsOk (s : State) (h size : Nat) : Bool :=
  let n := imgNseg h
  between 1 n 16
  && (List.range n).all (fun k =>
      let g := segAt h k
      between 1 g.kind 5 && segReserved h k && decide (g.off + g.len ≤ size) && (g.loads || g.load == 0))
  && (List.range 16).all (fun k => decide (k < n) || (segAt h k).kind == 0)
  && loadsOk s.hbmBytes ((imgSegs h).filter Seg.loads)

/-- The key slot whose fused hash a PUBKEY has, where it is not revoked. [DEDUCED, log entry 86] -/
def keySlot (hashes : List Nat) (revoked : List Bool) (key : List Byte) : Option Nat :=
  (List.range 4).find? (fun k => hashes.getD k 0 == sha384 key && !(revoked.getD k false))

/-- The signature of an image, from its header and the segments' bytes. -/
def imgSigOk (head segs : List Byte) : Bool :=
  ecdsaOk ((head.drop 576).take 97) (sha384 (head.take 704 ++ segs)) (beWord ((head.drop 704).take 48)) (beWord ((head.drop 752).take 48))

/-- The key slot that signed the image at `base`, where the image is valid (R404). -/
def State.imgValid (s : State) (base size : Nat) : Option Nat :=
  let h := s.imgHdr base
  if bytesOf h 0 4 = 0x5056494D ∧ bytesOf h 4 2 = 1 ∧ s.segsOk h size ∧ s.fuses.svn ≤ imgSvn h then
    match keySlot s.fuses.keyHash s.fuses.revoked (s.flashRead (base + 576) 128) with
    | some k =>
      if imgSigOk (s.flashRead base 832) ((imgSegs h).flatMap (fun g => s.flashRead (base + g.off) g.len)) then some k else none
    | none => none
  else none

/-- Offset of image slot `k`. -/
def State.slotBase (s : State) (k : Nat) : Nat := bytesOf (s.flash.dir.getD 0) (8 + 4 * k) 4

/-! ## An island's image (R406) -/

/-- Most bytes of an island's segment. -/
def islSegMax : Nat := 0x180000

/-- The image that island `i` holds in its TCM is valid by the fuses of its own die: Table 19.4 with one segment, of its own
KIND. [DEDUCED, log entry 86] -/
def State.islImageOk (s : State) (i : Nat) : Bool :=
  let x := s.isl[i]?.getD {}
  let f := s.fuses.isl[i]?.getD {}
  let head := x.tcm.read 0 832
  let h := leNat head
  let g := segAt h 0
  bytesOf h 0 4 == 0x5056494D && bytesOf h 4 2 == 1 && imgNseg h == 1 && g.kind == 3 + i && segReserved h 0 && g.load == 0
  && decide (g.len ≤ islSegMax) && decide (g.off + g.len ≤ x.image) && (List.range 16).all (fun k => k == 0 || (segAt h k).kind == 0)
  && decide (f.svn ≤ imgSvn h) && (keySlot f.keyHash f.revoked ((head.drop 576).take 128)).isSome
  && imgSigOk head (x.tcm.read g.off g.len)

/-- HUB writes the segments of an image for the islands that `mine` names into their TCM. -/
def State.deliverTo (s : State) (base h : Nat) (mine : Nat → Bool) : State :=
  (imgSegs h).foldl (fun x g =>
    let i := g.kind - 3
    if (g.kind = 3 ∨ g.kind = 4) ∧ mine i ∧ (x.isl[i]?.getD {}).power ∧ x.diePresent (4 + i) then
      x.modIsle i (fun y => { y with tcm := y.tcm.write 0 (s.flashRead (base + g.off) g.len), image := g.len })
    else x) s

/-- An island asks HUB for its image once more: it comes from the slot in use (R406). [DEDUCED, log entry 73] -/
def State.askImage (s : State) (i : Nat) : State :=
  let k := s.rf rJN_BOOT fJN_BOOT_SLOT
  if s.hubServes && s.flash.dir.isSome && decide (k < 2) then s.deliverTo (s.slotBase k) (s.imgHdr (s.slotBase k)) (· == i) else s

end Sys2Proof.Machine
end

