-- ==== Sys2Proof/Machine/Slots.lean ====
section
/-!
DEFINITION. The result-slot store (R174–R178): the posting of a record into a slot, and
RESULT_POST of KIND 0.
-/
namespace Sys2Proof.Machine

/-- Record of a slot as 1,024 bytes, and its SEQ. -/
def State.slotRec (s : State) (sl : Nat) : Nat := s.hub.slots.cur[sl]?.getD 0
def State.slotSeq (s : State) (sl : Nat) : Nat := bytesOf (s.slotRec sl) 0 8

/-- What a poster gives a record, in the layout of Table 7.18: bytes 17–19, 24–59, 64–91 and the
payload of `img` count; the part's fields are its own. -/
def postRec (img seq now tag poster : Nat) : List Byte :=
  let len := bytesOf img 18 2
  let pay := leBytes len (bytesOf img 128 len)
  leBytes 8 seq ++ leBytes 8 now ++ leBytes 1 1 ++ leBytes 3 (bytesOf img 17 3) ++ leBytes 4 (crc32c pay)
    ++ leBytes 36 (bytesOf img 24 36) ++ leBytes 4 0 ++ leBytes 28 (bytesOf img 64 28) ++ leBytes 20 0
    ++ leBytes 4 tag ++ leBytes 1 poster ++ leBytes 11 0 ++ pay ++ leBytes (888 - len) 0 ++ leBytes 8 seq

/-- Notices of a switch to the islands that ask for them and are connected (R178, R296). -/
def State.notify (s : State) (sl seq : Nat) : State :=
  let a := s.flag (rHUB_SLOT_CFG sl) fHUB_SLOT_CFG_NOTIFY_A && s.diePresent 4
  let b := s.flag (rHUB_SLOT_CFG sl) fHUB_SLOT_CFG_NOTIFY_B && s.diePresent 5
  s.modHub (fun h =>
    { h with notices := h.notices ++ (if a then [(0, sl, seq)] else []) ++ (if b then [(1, sl, seq)] else []) })

/-- A post fills the spare buffer and switches (R176, R178); a switch of CAL_SLOT carries a
calibration proposal (R223). -/
def State.postSlot (s : State) (sl img tag poster : Nat) : State :=
  let seq := (s.slotSeq sl + 1) % 2 ^ 64
  let r := leNat (postRec img seq s.dtime tag poster)
  let s1 := (s.modHub (fun h => { h with slots := { cur := setAt h.slots.cur sl r, bad := setDel h.slots.bad sl } })).notify sl seq
  if s1.sh.on && !s1.sh.tad.on && s1.sh.cfg.calSlot == sl && s1.rf (rHUB_SLOT_CFG sl) fHUB_SLOT_CFG_KIND == 1 then
    s1.calProposal (bytesOf r 128 888)
  else s1

/-- A RESULT_POST of KIND 0 runs (R175, R176, R178). -/
def State.resultPost (s : State) (c : Nat) (d : Desc) : State :=
  let sl := d.at 16 1 % 64
  let ok := noEngine * 2 ^ 56
  if s.rf (rHUB_SLOT_CFG sl) fHUB_SLOT_CFG_KIND ≠ 1 ∨ s.rf (rHUB_SLOT_CFG sl) fHUB_SLOT_CFG_OWNER ≠ c then
    s.finish c d.num stSTATE_REFUSED ok
  else
    match s.engRead c (d.at 24 8) 1024 with
    | .err e => s.finishErr c d.num noEngine e
    | .ok bs =>
      let img := leNat bs
      if 888 < bytesOf img 18 2 then s.finish c d.num stMALFORMED ok
      else (s.postSlot sl img (s.jobTagOf c d) c).finish c d.num stOK ok

/-- RESULT_POST (R176). -/
def execResultPost (ctx num : Nat) (s : State) : Res State :=
  .next <| s.startDesc ctx num (fun d => d.op == 12 && d.at 17 1 == 0) (fun s d => s.resultPost ctx d)

end Sys2Proof.Machine
end

