-- ==== Sys2Proof/Machine/PathCheck.lean ====
section
/-!
DEFINITION. One path check (R228, R233–R240): the format of a candidate, the rollout, the limit
tests, the footprint and the occupancy tests.
-/
namespace Sys2Proof.Machine

def f32Abs (a : Nat) : Nat := a % 2 ^ 31
def f32Finite (a : Nat) : Bool := bits a 30 23 != 255
def f32Half : Nat := 0x3F000000

/-! ## Candidates (Table 10.3) -/

def candNprim (raw : Nat) : Nat := bytesOf raw 10 1
def candCost (raw : Nat) : Nat := bytesOf raw 12 4
def primDur (raw p : Nat) : Nat := bytesOf raw (64 + 12 * p) 2
def primCrate (raw p : Nat) : Nat := bytesOf raw (68 + 12 * p) 4
def primJerk (raw p : Nat) : Nat := bytesOf raw (72 + 12 * p) 4

/-- Steps of a candidate. -/
def candSteps (raw : Nat) : Nat := ((List.range (candNprim raw)).map (primDur raw)).sum

/-- The format of candidate `c` of plan `j` (R233). -/
def candOk (raw j c : Nat) : Bool :=
  let n := candNprim raw
  bytesOf raw 0 8 == j && bytesOf raw 8 2 == c && between 1 n 32 && bytesOf raw 11 1 == 0 && bytesOf raw 16 48 == 0
  && f32Finite (candCost raw)
  && (List.range 32).all (fun p =>
      if p < n then
        primDur raw p != 0 && bytesOf raw (66 + 12 * p) 2 == 0 && f32Finite (primCrate raw p) && f32Finite (primJerk raw p)
      else bytesOf raw (64 + 12 * p) 12 == 0)
  && decide (candSteps raw ≤ 800)

/-- The steps of a candidate as (curvature rate, jerk) pairs. -/
def candPlan (raw : Nat) : List (Nat × Nat) :=
  (List.range (candNprim raw)).flatMap (fun p => List.replicate (primDur raw p) (primCrate raw p, primJerk raw p))

/-! ## The rollout (R234) -/

/-- A pose with its curvature, speed and acceleration, all FP32. -/
structure Pose where
  x  : Nat
  y  : Nat
  th : Nat
  k  : Nat
  v  : Nat
  a  : Nat
  deriving DecidableEq, Repr

/-- The start state of a plan header (Table 10.2). -/
def startPose (hdr : Nat) : Pose :=
  { x := 0, y := 0, th := 0, k := bytesOf hdr 40 4, v := bytesOf hdr 32 4, a := bytesOf hdr 36 4 }

def dtStep : Nat := 0x3C23D70A

/-- One step of 10 ms. -/
def Pose.step (q : Pose) (crate jerk : Nat) : Pose :=
  let a1 := f32Fma jerk dtStep q.a
  let k1 := f32Fma crate dtStep q.k
  let v1 := f32Fma (f32Mul (f32Add q.a a1) f32Half) dtStep q.v
  let d := f32Mul (f32Mul (f32Add q.v v1) f32Half) dtStep
  let th1 := f32Fma d (f32Mul (f32Add q.k k1) f32Half) q.th
  let tm := f32Mul (f32Add q.th th1) f32Half
  { x := f32Fma d (f32Cos tm) q.x, y := f32Fma d (f32Sin tm) q.y, th := th1, k := k1, v := v1, a := a1 }

/-! ## Limits (R235) -/

/-- The vehicle limits and weights of Table 10.9. -/
structure Limits where
  kmax : Nat
  krate : Nat
  alat : Nat
  sr : Nat
  amin : Nat
  amax : Nat
  jmax : Nat
  base : Nat
  vmin : Nat
  vmax : Nat
  len : Nat
  wid : Nat
  rear : Nat
  wOcc : Nat
  wPeak : Nat
  bands : List (Nat × Nat × Nat)
  deriving DecidableEq, Repr

def State.limits (s : State) : Limits :=
  { kmax := s.rf rPC_LIM_K fPC_LIM_K_KMAX, krate := s.rf rPC_LIM_K fPC_LIM_K_KRATE_MAX
    alat := s.rf rPC_LIM_SR fPC_LIM_SR_ALAT_MAX, sr := s.rf rPC_LIM_SR fPC_LIM_SR_SR_MAX
    amin := s.rf rPC_LIM_A fPC_LIM_A_A_MIN, amax := s.rf rPC_LIM_A fPC_LIM_A_A_MAX
    jmax := s.rf rPC_LIM_WJ fPC_LIM_WJ_J_MAX, base := s.rf rPC_LIM_WJ fPC_LIM_WJ_WHEELBASE
    vmin := s.rf rPC_LIM_V fPC_LIM_V_V_MIN, vmax := s.rf rPC_LIM_V fPC_LIM_V_V_MAX
    len := s.rf rPC_LIM_SIZE fPC_LIM_SIZE_LENGTH, wid := s.rf rPC_LIM_SIZE fPC_LIM_SIZE_WIDTH
    rear := s.rf rPC_LIM_REAR fPC_LIM_REAR_REAR
    wOcc := s.rf rPC_WEIGHTS fPC_WEIGHTS_W_OCC, wPeak := s.rf rPC_WEIGHTS fPC_WEIGHTS_W_PEAK
    bands := (List.range 8).map (fun b =>
      (s.rf (rPC_BAND b) fPC_BAND_V_UP_CMS, s.rf (rPC_BAND b) fPC_BAND_MLON_MM, s.rf (rPC_BAND b) fPC_BAND_MLAT_MM)) }

/-- The first violated limit of Table 10.6, or 0; a NaN violates its limit. -/
def Limits.test (l : Limits) (q : Pose) (crate jerk : Nat) : Nat :=
  let wk := f32Mul l.base q.k
  if !f32Le (f32Abs q.k) l.kmax then 1
  else if !f32Le (f32Abs crate) l.krate then 2
  else if !f32Le (f32Mul (f32Mul q.v q.v) (f32Abs q.k)) l.alat then 3
  else if !f32Le (f32Div (f32Mul (f32Abs crate) l.base) (f32Fma wk wk f32One)) l.sr then 4
  else if !(f32Le l.amin q.a && f32Le q.a l.amax) then 5
  else if !f32Le (f32Abs jerk) l.jmax then 6
  else if !(f32Le l.vmin q.v && f32Le q.v l.vmax) then 7
  else 0

/-! ## The transform to the grid frame (R236) -/

/-- The relative transform of a check, rounded to FP32. -/
structure Rel where
  tx   : Nat
  ty   : Nat
  dyaw : Nat
  c    : Nat
  s    : Nat
  deriving DecidableEq, Repr

def f64Neg (a : Nat) : Nat := Nat.xor a (2 ^ 63)
def f32Of64 (a : Nat) : Nat := r32 (f64 a)

def relOf (hdr rec' : Nat) : Rel :=
  let gyaw := bytesOf rec' 88 8
  let dx := f64Sub (bytesOf hdr 8 8) (bytesOf rec' 72 8)
  let dy := f64Sub (bytesOf hdr 16 8) (bytesOf rec' 80 8)
  let dyaw := f64Sub (bytesOf hdr 24 8) gyaw
  { tx := f32Of64 (f64Add (f64Mul (f64Cos gyaw) dx) (f64Mul (f64Sin gyaw) dy))
    ty := f32Of64 (f64Add (f64Mul (f64Neg (f64Sin gyaw)) dx) (f64Mul (f64Cos gyaw) dy))
    dyaw := f32Of64 dyaw, c := f32Of64 (f64Cos dyaw), s := f32Of64 (f64Sin dyaw) }

/-- A point through a rotation (c, s) and a translation. -/
def turnX (c s tx x y : Nat) : Nat := f32Fma c x (f32Fma (f32Neg s) y tx)
def turnY (c s ty x y : Nat) : Nat := f32Fma s x (f32Fma c y ty)

/-! ## The grid (R228) -/

/-- Grid fields of the calibration copy an epoch names (Table 9.1 bytes 88–115). -/
def Epoch.nx (e : Epoch) : Nat := bytesOf e.grid 0 2
def Epoch.ny (e : Epoch) : Nat := bytesOf e.grid 2 2
def Epoch.cell (e : Epoch) : Nat := bytesOf e.grid 8 4
def Epoch.x0 (e : Epoch) : Nat := bytesOf e.grid 12 4
def Epoch.y0 (e : Epoch) : Nat := bytesOf e.grid 16 4
def Epoch.num (e : Epoch) : Nat := bytesOf e.rec' 0 8
def Epoch.ndyn (e : Epoch) : Nat := bytesOf e.rec' 68 1
def Epoch.thresh (e : Epoch) : Nat := bytesOf e.rec' 69 1
def Epoch.outVal (e : Epoch) : Nat := bytesOf e.rec' 70 1

/-- Floor of a finite FP32 value. -/
def floorF : FVal → Option Int
  | .fin neg m x => some ((if neg then -(m : Int) else m) * 2 ^ x.toNat / 2 ^ (-x).toNat)
  | _ => none

/-- Cell index of a coordinate: floor((p − X0_M) × INV). -/
def cellIdx (e : Epoch) (p x0 : Nat) : Option Int := floorF (f32 (f32Mul (f32Sub p x0) (f32Div f32One e.cell)))

/-- Centre of a cell along one axis. -/
def cellCentre (e : Epoch) (i : Int) (x0 : Nat) : Nat := f32Fma (f32Add (f32OfInt i) f32Half) e.cell x0

/-! ## The footprint (R237) -/

/-- Margin band of a speed: the lowest whose upper speed is not below it, or band 7. -/
def Limits.band (l : Limits) (v : Nat) : Nat × Nat × Nat :=
  (l.bands.find? (fun b => leV (mulV (f32 (f32Abs v)) (.fin false 100 0)) (.fin false b.1 0))).getD ((l.bands[7]?).getD (0, 0, 0))

def milli (n : Nat) : Nat := f32Div (f32OfNat n) (f32OfNat 1000)

/-- Rear end, front end and half width of the inflated rectangle. -/
def Limits.box (l : Limits) (v : Nat) : Nat × Nat × Nat :=
  let b := l.band v
  (f32Neg (f32Add l.rear (milli b.2.1)), f32Add (f32Sub l.len l.rear) (milli b.2.1), f32Add (f32Mul l.wid f32Half) (milli b.2.2))

/-- A pose in the grid frame with its box. -/
structure Foot where
  x  : Nat
  y  : Nat
  cc : Nat
  ss : Nat
  lo : Nat
  hi : Nat
  hw : Nat
  deriving DecidableEq, Repr

/-- [DEDUCED, log entry 53] -/
def footOf (l : Limits) (r : Rel) (q : Pose) : Foot :=
  let th := f32Add q.th r.dyaw
  let b := l.box q.v
  { x := turnX r.c r.s r.tx q.x q.y, y := turnY r.c r.s r.ty q.x q.y, cc := f32Cos th, ss := f32Sin th
    lo := b.1, hi := b.2.1, hw := b.2.2 }

/-- Cells of the four corners; none where one of them is not finite. [DEDUCED, log entry 53] -/
def Foot.corners (f : Foot) (e : Epoch) : Option (List (Int × Int)) :=
  [(f.lo, f32Neg f.hw), (f.lo, f.hw), (f.hi, f32Neg f.hw), (f.hi, f.hw)].mapM (fun p =>
    match cellIdx e (turnX f.cc f.ss f.x p.1 p.2) e.x0, cellIdx e (turnY f.cc f.ss f.y p.1 p.2) e.y0 with
    | some i, some j => some (i, j)
    | _, _ => none)

/-- A cell belongs to the footprint. -/
def Foot.holds (f : Foot) (e : Epoch) (ix iy : Int) : Bool :=
  let ex := f32Sub (cellCentre e ix e.x0) f.x
  let ey := f32Sub (cellCentre e iy e.y0) f.y
  let u := f32Fma f.cc ex (f32Mul f.ss ey)
  let w := f32Fma f.cc ey (f32Neg (f32Mul f.ss ex))
  f32Le f.lo u && f32Le u f.hi && f32Le (f32Abs w) f.hw

def intRange (lo hi : Int) : List Int := (List.range (hi - lo + 1).toNat).map (fun (i : Nat) => lo + i)

def minI (l : List Int) : Int := l.foldl min (l.headD 0)
def maxI (l : List Int) : Int := l.foldl max (l.headD 0)

/-- Cells of the footprint, iy ascending and then ix ascending. -/
def Foot.cells (f : Foot) (e : Epoch) (cs : List (Int × Int)) : List (Int × Int) :=
  let xs := cs.map (·.1)
  let ys := cs.map (·.2)
  (intRange (minI ys) (maxI ys)).flatMap (fun iy =>
    (intRange (minI xs) (maxI xs)).filterMap (fun ix => if f.holds e ix iy then some (ix, iy) else none))

/-! ## Occupancy (R238) -/

/-- Bytes between dynamic slices. -/
def Epoch.stride (e : Epoch) : Nat := up64 (e.nx * e.ny)

/-- Plane `p` of an epoch: 0 the static plane, 1 + s dynamic slice s. [DEDUCED, log entry 51] -/
def Epoch.plane (e : Epoch) (p : Nat) : Addr :=
  if p = 0 then bytesOf e.rec' 40 8 else bytesOf e.rec' 48 8 + (p - 1) * e.stride

/-- Value a test reads; none where the read faults or is poisoned. [DEDUCED, log entry 51] -/
def State.occ (s : State) (e : Epoch) (p : Nat) (ix iy : Int) : Option Nat :=
  if 0 ≤ ix ∧ ix < e.nx ∧ 0 ≤ iy ∧ iy < e.ny then
    match s.engRead e.ctx (e.plane p + iy.toNat * e.nx + ix.toNat) 1 with
    | .ok bs => some (leNat bs)
    | .err _ => none
  else some e.outVal

/-- The dynamic slice of step `n`, where there is one. -/
def Epoch.slice (e : Epoch) (freeze n : Nat) : List Nat :=
  if e.ndyn = 0 then []
  else
    let t : Int := (freeze : Int) + n * 10000000 - bytesOf e.rec' 56 8
    let i := t.fdiv (bytesOf e.rec' 64 4 * 1000)
    [1 + (max 0 (min ((e.ndyn : Int) - 1) i)).toNat]

/-- The tests of a list of (plane, cell): the running sums, and how they stop. -/
def State.testCells (s : State) (e : Epoch) (n : Nat) : List (Nat × Int × Int) → CheckRes → CheckRes
  | [], r => r
  | (p, ix, iy) :: l, r =>
    match s.occ e p ix iy with
    | none => { r with outcome := 5, step := n }
    | some v =>
      let r1 := { r with occ := (r.occ + v) % 2 ^ 32, peak := max r.peak v }
      if e.thresh ≤ v then { r1 with outcome := 3, step := n } else s.testCells e n l r1

/-- The tests of one pose: each footprint cell against the static plane and its slice. [DEDUCED, log entry 53] -/
def State.testPose (s : State) (e : Epoch) (f : Foot) (freeze n : Nat) (r : CheckRes) : CheckRes :=
  match f.corners e with
  | none => if Config.wildFootprint n then { r with outcome := 3, step := n } else r
  | some cs =>
    s.testCells e n ((f.cells e cs).flatMap (fun c => (0 :: e.slice freeze n).map (fun p => (p, c.1, c.2)))) r

/-! ## The check -/

/-- The rollout from step `n` on; outcome 1 while nothing has stopped it. Limits and poses are
tested from step `start` on. -/
def State.rollout (s : State) (l : Limits) (e : Epoch) (rel : Rel) (freeze start : Nat) :
    List (Nat × Nat) → Nat → Pose → CheckRes → CheckRes
  | [], n, _, r => { r with step := n }
  | (crate, jerk) :: rest, n, q, r =>
    let q1 := q.step crate jerk
    if n + 1 < start then s.rollout l e rel freeze start rest (n + 1) q1 r
    else
      let code := l.test q1 crate jerk
      if code != 0 then { r with outcome := 2, limit := code, step := n + 1 }
      else
        let r1 := s.testPose e (footOf l rel q1) freeze (n + 1) r
        if r1.outcome != 1 then r1 else s.rollout l e rel freeze start rest (n + 1) q1 r1

/-- Ranking key (R240). -/
def Limits.key (l : Limits) (r : CheckRes) (cost : Nat) : Nat :=
  f32Fma l.wPeak (f32OfNat r.peak) (f32Fma l.wOcc (f32OfNat r.occ) cost)

/-- A candidate whose format holds is checked against an epoch (R234–R240). -/
def State.checkCand (s : State) (hdr freeze raw start : Nat) (e : Epoch) : CheckRes :=
  let l := s.limits
  let r := s.rollout l e (relOf hdr e.rec') freeze start (candPlan raw) 0 (startPose hdr) { outcome := 1 }
  if r.outcome = 1 then { r with key := l.key r (candCost raw) } else r

end Sys2Proof.Machine
end

