-- ==== Sys2Proof/Machine/IslCheck.lean ====
section
/-!
DEFINITION. What an island computes on a trajectory (R339–R341): the binary64 rollout, the limit
check, and the corridor check of three disks against a world digest.
-/
namespace Sys2Proof.Machine

/-! ## Binary64 helpers -/

def f64Fma (a b c : Nat) : Nat := r64 (addV (mulV (f64 a) (f64 b)) (f64 c))
def f64OfNat (n : Nat) : Nat := r64 (.fin false n 0)
def f64Half : Nat := 0x3FE0000000000000
/-- The step of 10 ms in binary64. [DEDUCED, log entry 75] -/
def dtStep64 : Nat := 0x3F847AE147AE147B

/-! ## Records (Table 7.18, Table 10.8) -/

def recSeq (r : Nat) : Nat := bytesOf r 0 8
def recKind (r : Nat) : Nat := bytesOf r 17 1
def recLen (r : Nat) : Nat := bytesOf r 18 2
def recInst (r : Nat) : Nat := bytesOf r 40 8
def recRef (r : Nat) : Nat := bytesOf r 48 8
def recCal (r : Nat) : Nat := bytesOf r 56 4
def recFreeze (r : Nat) : Nat := bytesOf r 72 8
/-- Bytes of the payload. -/
def recPay (r i n : Nat) : Nat := bytesOf r (128 + i) n
def recPrims (r : Nat) : List (Nat × Nat × Nat) :=
  (List.range (recPay r 11 1)).map (fun p => (recPay r (64 + 12 * p) 2, recPay r (68 + 12 * p) 4, recPay r (72 + 12 * p) 4))

/-- Primitives as a list of steps, (CRATE, JERK) each. -/
def primSteps (ps : List (Nat × Nat × Nat)) : List (Nat × Nat) := ps.flatMap (fun p => List.replicate p.1 p.2)
def primCount (ps : List (Nat × Nat × Nat)) : Nat := (ps.map (·.1)).sum

/-! ## The rollout (R339 step 1) -/

/-- The pose of the odometry frame a trajectory starts at, and its start state, in binary64. -/
structure Begin where
  ox   : Nat
  oy   : Nat
  oyaw : Nat
  pose : Pose
  deriving DecidableEq, Repr

def recBegin (r : Nat) : Begin :=
  { ox := recPay r 24 8, oy := recPay r 32 8, oyaw := recPay r 40 8
    pose := { x := 0, y := 0, th := 0, v := f64OfF32 (recPay r 48 4), a := f64OfF32 (recPay r 52 4), k := f64OfF32 (recPay r 56 4) } }

/-- One step of R234 in binary64. -/
def Pose.step64 (q : Pose) (crate jerk : Nat) : Pose :=
  let a1 := f64Fma (f64OfF32 jerk) dtStep64 q.a
  let k1 := f64Fma (f64OfF32 crate) dtStep64 q.k
  let v1 := f64Fma (f64Mul (f64Add q.a a1) f64Half) dtStep64 q.v
  let d := f64Mul (f64Mul (f64Add q.v v1) f64Half) dtStep64
  let th1 := f64Fma d (f64Mul (f64Add q.k k1) f64Half) q.th
  let tm := f64Mul (f64Add q.th th1) f64Half
  { x := f64Fma d (f64Cos tm) q.x, y := f64Fma d (f64Sin tm) q.y, th := th1, k := k1, v := v1, a := a1 }

/-- A step of a rollout: its number, the pose it ends in, its curvature rate and jerk. -/
structure Step64 where
  n     : Nat
  pose  : Pose
  crate : Nat
  jerk  : Nat
  deriving DecidableEq, Repr

/-- [DEDUCED, log entry 75] -/
def rollout64 : List (Nat × Nat) → Nat → Pose → List Step64
  | [], _, _ => []
  | (c, j) :: r, n, q =>
    let q1 := q.step64 c j
    { n := n + 1, pose := q1, crate := c, jerk := j } :: rollout64 r (n + 1) q1

/-! ## Limits (R340, R341) -/

/-- SI_LIM of an island, as binary64 values. -/
def State.islLimits (s : State) (i : Nat) : Limits :=
  let g := fun (a : Addr) (f : Fld) => f64OfF32 (s.rf a f)
  { kmax := g (rSI_LIM_K i) fSI_LIM_K_KMAX, krate := g (rSI_LIM_K i) fSI_LIM_K_KRATE_MAX
    alat := g (rSI_LIM_SR i) fSI_LIM_SR_ALAT_MAX, sr := g (rSI_LIM_SR i) fSI_LIM_SR_SR_MAX
    amin := g (rSI_LIM_A i) fSI_LIM_A_A_MIN, amax := g (rSI_LIM_A i) fSI_LIM_A_A_MAX
    jmax := g (rSI_LIM_WJ i) fSI_LIM_WJ_J_MAX, base := g (rSI_LIM_WJ i) fSI_LIM_WJ_WHEELBASE
    vmin := g (rSI_LIM_V i) fSI_LIM_V_V_MIN, vmax := g (rSI_LIM_V i) fSI_LIM_V_V_MAX
    len := g (rSI_LIM_SIZE i) fSI_LIM_SIZE_LENGTH, wid := g (rSI_LIM_SIZE i) fSI_LIM_SIZE_WIDTH
    rear := g (rSI_LIM_REAR i) fSI_LIM_REAR_REAR, wOcc := 0, wPeak := 0, bands := [] }

/-- The first violated limit of Table 10.6 in binary64, or 0. -/
def Limits.test64 (l : Limits) (t : Step64) : Nat :=
  let q := t.pose
  let crate := f64Abs (f64OfF32 t.crate)
  let wk := f64Mul l.base q.k
  if !f64Le (f64Abs q.k) l.kmax then 1
  else if !f64Le crate l.krate then 2
  else if !f64Le (f64Mul (f64Mul q.v q.v) (f64Abs q.k)) l.alat then 3
  else if !f64Le (f64Div (f64Mul crate l.base) (f64Fma wk wk (f64OfNat 1))) l.sr then 4
  else if !(f64Le l.amin q.a && f64Le q.a l.amax) then 5
  else if !f64Le (f64Abs (f64OfF32 t.jerk)) l.jmax then 6
  else if !(f64Le l.vmin q.v && f64Le q.v l.vmax) then 7
  else 0

/-- The limit check from a step on (R340). -/
def Limits.okFrom (l : Limits) (start : Nat) (ts : List Step64) : Bool :=
  ts.all (fun t => decide (t.n < start) || l.test64 t == 0)

/-- A value is above zero. -/
def f64Pos (a : Nat) : Bool := f64Lt 0 a

/-- The limits an island needs to be READY (R341). -/
def State.limitsValid (s : State) (i : Nat) : Bool :=
  let l := s.islLimits i
  let e := f64OfF32 (s.rf (rSI_EFT i) fSI_EFT_EFT_DECEL)
  let m := f64OfF32 (s.rf (rSI_EFT i) fSI_EFT_EFT_DECEL_MAX)
  f64Pos l.kmax && f64Pos l.krate && f64Pos l.alat && f64Pos l.sr && f64Pos l.amax && f64Pos l.jmax && f64Pos l.vmax
  && f64Lt l.vmin l.vmax && f64Lt l.amin l.amax
  && f64Le m e && f64Lt e 0
  && f64Le l.amin m && f64Le e l.amax

/-! ## The corridor (R339 steps 2–4) -/

/-- A pose in the grid frame of a world: x, y and heading. [DEDUCED, log entry 75] -/
def gridPose (w : IslWorld) (b : Begin) (q : Pose) : Nat × Nat × Nat :=
  let dx := f64Sub b.ox w.gx
  let dy := f64Sub b.oy w.gy
  let c0 := f64Cos w.gyaw
  let s0 := f64Sin w.gyaw
  let tx := f64Add (f64Mul c0 dx) (f64Mul s0 dy)
  let ty := f64Add (f64Mul (f64Neg s0) dx) (f64Mul c0 dy)
  let dyaw := f64Sub b.oyaw w.gyaw
  let c := f64Cos dyaw
  let s := f64Sin dyaw
  (f64Fma c q.x (f64Fma (f64Neg s) q.y tx), f64Fma s q.x (f64Fma c q.y ty), f64Add q.th dyaw)

/-- Radius of the disks at a speed (R339 step 2). -/
def diskRadius (l : Limits) (marginMm v : Nat) : Nat :=
  let u := f64Div l.len (f64OfNat 6)
  let h := f64Mul l.wid f64Half
  let root := f64Sqrt (f64Add (f64Mul u u) (f64Mul h h))
  f64Add (f64Add root (f64Div (f64OfNat marginMm) (f64OfNat 1000))) (f64Mul (f64Abs v) (f64Div (f64OfNat 25) (f64OfNat 1000)))

/-- Centres of the three disks of a grid pose. [DEDUCED, log entry 75] -/
def diskCentres (l : Limits) (g : Nat × Nat × Nat) : List (Nat × Nat) :=
  (List.range 3).map (fun i =>
    let d := f64Add (f64Neg l.rear) (f64Div (f64Mul (f64OfNat (2 * i + 1)) l.len) (f64OfNat 6))
    (f64Fma d (f64Cos g.2.2) g.1, f64Fma d (f64Sin g.2.2) g.2.1))

/-- Index along an axis, rounded down. -/
def gridIdx (p x0 cell : Nat) : Option Int := floorF (f64 (f64Div (f64Sub p x0) cell))

/-- Cells whose centre lies within a disk; none where the disk is not finite. [DEDUCED, log entry 75] -/
def diskCells (w : IslWorld) (r : Nat) (c : Nat × Nat) : Option (List (Int × Int)) :=
  let cell := f64OfF32 w.cell
  let x0 := f64OfF32 w.x0
  let y0 := f64OfF32 w.y0
  let mid := fun (i : Int) (o : Nat) => f64Fma (f64Add (f64OfInt i) f64Half) cell o
  let within := fun (ix iy : Int) =>
    let ex := f64Sub (mid ix x0) c.1
    let ey := f64Sub (mid iy y0) c.2
    f64Le (f64Add (f64Mul ex ex) (f64Mul ey ey)) (f64Mul r r)
  match gridIdx (f64Sub c.1 r) x0 cell, gridIdx (f64Add c.1 r) x0 cell, gridIdx (f64Sub c.2 r) y0 cell,
      gridIdx (f64Add c.2 r) y0 cell with
  | some a, some b, some d, some e =>
    some ((intRange d e).flatMap (fun iy => (intRange a b).filterMap (fun ix => if within ix iy then some (ix, iy) else none)))
  | _, _, _, _ => none

/-- What a corridor check has found: blocking cells, and cells outside the grid. -/
structure Corridor where
  blocks  : Nat := 0
  outside : Nat := 0
  deriving DecidableEq, Repr

/-- One cell is tested at a time (R339 step 3). [DEDUCED, log entry 75] -/
def testDigest (w : IslWorld) (thresh time : Nat) (c : Int × Int) (x : Corridor) : Corridor :=
  if 0 ≤ c.1 ∧ c.1 < w.nx ∧ 0 ≤ c.2 ∧ c.2 < w.ny then
    let b := bytesOf w.digest (c.2.toNat * w.nx + c.1.toNat) 1
    if thresh ≤ b / 16 ∧ w.ref + b % 16 * 500000000 ≤ time then { x with blocks := x.blocks + 1 } else x
  else { x with outside := x.outside + 1 }

/-- Cells are tested until the first that blocks, or all of them where they are counted. -/
def testDigests (w : IslWorld) (thresh time : Nat) (all : Bool) : List (Int × Int) → Corridor → Corridor
  | [], x => x
  | c :: r, x => if !all && x.blocks != 0 then x else testDigests w thresh time all r (testDigest w thresh time c x)

/-- The corridor check of a rollout from a step on; a disk that is not finite blocks or not as a
free value says. -/
def State.corridor (s : State) (i : Nat) (w : IslWorld) (b : Begin) (freeze start : Nat) (all : Bool) (ts : List Step64) : Corridor :=
  let l := s.islLimits i
  let margin := s.rf (rSI_DIV i) fSI_DIV_DISK_MARGIN_MM
  let thresh := s.rf (rSI_DIV i) fSI_DIV_CORR_THRESH
  (ts.filter (fun t => t.n % 5 == 0 && decide (start ≤ t.n))).foldl (fun x t =>
    if !all && x.blocks != 0 then x
    else
      match (diskCentres l (gridPose w b t.pose)).mapM (diskCells w (diskRadius l margin t.pose.v)) with
      | some cs => testDigests w thresh (freeze + t.n * 10000000) all cs.flatten.dedup x
      | none => if Config.wildFootprint t.n then { x with blocks := x.blocks + 1 } else x) {}

end Sys2Proof.Machine
end

