-- ==== Sys2Proof/Machine/Island.lean ====
section
/-!
DEFINITION. The safety islands: states, trips and the safe-state pin (R330, R331), the core modes
(R332–R336), what they read (R337), the status mailbox and configuration (R354), and their own
controllers' receive side (R443).
-/
namespace Sys2Proof.Machine

def State.isle (s : State) (i : Nat) : Island := s.isl[i]?.getD {}

/-- HUB answers the island: its connection is not quarantined (R352), and HUB is on (R381). -/
def State.islHub (s : State) (i : Nat) : Bool := s.diePresent (4 + i) && s.hubServes

def isRESET : Nat := 0
def isBOOT : Nat := 1
def isNOTREADY : Nat := 2
def isREADY : Nat := 3
def isFAULT : Nat := 4

def imVOTED : Nat := 0
def imPAIRED : Nat := 1
def imSPLIT : Nat := 2

/-- Level of FAULT_x_N as the integrator reads it (R331): high only while the island is READY and not
in SPLIT; the pull-down reads an unpowered pin as asserted. -/
def Island.pinHigh (x : Island) : Bool := x.power && x.state == isREADY && x.mode != imSPLIT

/-- The image runs: a core that disagrees can be seen. -/
def Island.running (x : Island) : Bool := x.power && between isBOOT x.state isREADY

/-! ## Power, reset, trips and restart (R330, R331) -/

/-- Frames in transmission are broken off, and nothing waits. -/
def State.islSilence (s : State) (i : Nat) : State :=
  let on := (List.range 5).filter (fun c => (((s.isle i).txs[c]?).getD {}).tx.isSome)
  (on.foldl (fun x c => x.emit (.broken i c)) s).modIsle i (fun x =>
    { x with txs := x.txs.map (fun t => { t with tx := none, waiting := none }), due := none })

/-- Offsets of the SI_ configuration and counters. -/
def siOffsets : List Nat := (List.range 68).map (fun k => 8 + 8 * k) ++ (List.range 6).map (fun k => 0x300 + 8 * k)

/-- The island's registers return to their reset values; SI_STATUS follows at a mailbox refresh. [DEDUCED, log entry 73] -/
def State.siReset (s : State) (i : Nat) : State :=
  siOffsets.foldl (fun x o => x.setReg (rSI_STATUS i + o) (regReset (rSI_STATUS i + o))) s

/-- An island in RESET. What its TCM keeps over a restart: LAST_TRIP and its reports. Its veto reads 1
from island reset (R379). -/
def freshIsland (x : Island) (now : Nat) : Island :=
  { power := true, strap := x.strap, mode := if x.strap then imSPLIT else imVOTED, bornAt := now
    tcm := x.tcm, image := x.image, lastTrip := x.lastTrip, reports := x.reports, refused := x.refused, veto := true
    cores := x.cores, checkAt := now }

/-- A restart (R330): standby, configuration unlocked, counters at 0. [DEDUCED, log entry 73] -/
def State.islRestart (s : State) (i : Nat) : State :=
  let now := s.islTime i
  (((s.siReset i).modIsle i (fun x => { freshIsland x now with restartAt := some now })).modIslTime i (fun t => { t with synced := false })).entryCheck

/-- ISLAND_POWER_UP (R330, R401): the supply comes up; the TCM holds nothing, and the mode strap is latched. -/
def execIslandPowerUp (up : IslUp) (s : State) : Res State :=
  let isl := up.isl
  .next <|
    if isl < 2 ∧ (s.isle isl).power = false then
      (((s.siReset isl).modIsle isl (fun x => { freshIsland { strap := up.split } 0 with active := x.active })).modIslTime isl (fun _ => {})).entryCheck
    else s

/-- ISLAND_SUPPLY_LOSS (R331): that island alone stops. -/
def execIslandSupplyLoss (isl : Nat) (s : State) : Res State :=
  .next <| if isl < 2 then (s.islSilence isl).modIsle isl (fun x => { strap := x.strap }) else s

/-- Ten seconds. -/
def tenSec : Nat := 10000000000

/-- A trip (R330, R331, Table 15.3): FAULT from any state. `heal` says whether it left the supply and
the oscillator within range. [DEDUCED, log entry 79] -/
def State.islTrip (s : State) (i code : Nat) (heal : Bool) : State :=
  let x := s.isle i
  if x.power = false ∨ x.state = isFAULT then s
  else
    let now := s.islTime i
    let again := match x.restartAt with
      | some t => decide (now < t + tenSec)
      | none => false
    ((if s.islHub i then s.fireTrigger trigIsland else s).islSilence i).modIsle i (fun x =>
      { x with
        state := isFAULT, lastTrip := code, tripAt := now, healable := heal, held := x.held || again
        reading := none, judging := none, moult := none, recalled := false, fenced := [], reports := code :: x.reports })

/-- ISLAND_TRIP (R331). -/
def execIslandTrip (isl code : Nat) (heal : Bool) (s : State) : Res State :=
  .next <| if between 1 code 8 then s.islTrip isl code heal else s

/-- ISLAND_SELF_RESTART (R330). -/
def execIslandSelfRestart (isl : Nat) (s : State) : Res State :=
  let x := s.isle isl
  .next <|
    if x.power ∧ x.state = isFAULT ∧ x.held = false ∧ x.healable ∧ x.tripAt + 100000000 ≤ s.islTime isl then s.islRestart isl else s

/-- CFG_REJ of an island. -/
def State.siRej (s : State) (i : Nat) : State := s.setFlag (rSI_CFG i) fSI_CFG_CFG_REJ

/-- RESTART written (R330): ignored in other states than FAULT. [DEDUCED, log entry 73] -/
def State.siRestart (s : State) (i : Nat) : State :=
  let x := s.isle i
  if !s.islHub i then s.siRej i
  else if x.held then s.siRej i
  else if x.power && x.state == isFAULT then s.islRestart i
  else s

/-- SI_RESTART (R330). -/
def execSiRestart (port : Port) (isl : Nat) (s : State) : Res State :=
  .next <| if isl < 2 then s.access port (rSI_CTRL isl) (fun s => s.siRestart isl) else s

/-- The resets of the islands are released: the boot ROMs run (Table 15.2). [DESIGN CHOICE, log entry 113] -/
def State.islRelease (s : State) : State :=
  { s with isl := s.isl.map (fun x => if x.power && x.state == isRESET then { x with state := isBOOT } else x) }

/-- ISLAND_IMAGE_VERIFY (R406): in BOOT the boot ROM judges the image in the TCM, where it reads it without an error (`ok`), and
the island asks HUB for it where the check fails; `xl` are the CAN controllers that a valid image sets to CAN XL mode (R443).
[DEDUCED, log entry 73] -/
def execIslandImageVerify (isl : Nat) (ok : Bool) (xl : Nat) (s : State) : Res State :=
  let x := s.isle isl
  .next <|
    if x.power = false ∨ !(x.state == isBOOT || x.rom) then s
    else if !ok || !s.islImageOk isl then (if s.islHub isl then s.askImage isl else s)
    else
      s.modIsle isl (fun x =>
        { x with state := isNOTREADY, rom := false, limOk := s.limitsValid isl, txs := x.txs.mapIdx (fun c t => { t with xl := Nat.testBit xl c }) })

/-- ISLAND_IMAGE_WAIT_TIMEOUT (R406, R412): the ROM output runs, on every controller in CAN XL mode. -/
def execIslandImageWaitTimeout (isl : Nat) (s : State) : Res State :=
  let x := s.isle isl
  .next <|
    if x.power ∧ (x.state = isRESET ∨ x.state = isBOOT) ∧ x.bornAt + 2000000000 ≤ s.islTime isl then
      s.modIsle isl (fun x =>
        { x with state := isNOTREADY, rom := true, limOk := s.limitsValid isl, txs := x.txs.map (fun t => { t with xl := true }) })
    else s

/-! ## Voting (R332–R335) -/

/-- Cores 0 and 1 are a compared pair: in PAIRED, or from the request to the end of a hand-over to it that waits for no
resynchronisation (R335). -/
def Island.paired (x : Island) : Bool := x.mode == imPAIRED || (x.moult == some imPAIRED && (x.fenced == [] || x.fenced == [2]))

/-- A core's state becomes one no rule states. -/
def State.coreLost (s : State) (isl core : Nat) : State :=
  (s.modIsle isl (fun x => { x with cores := setAt x.cores core (Config.coreState core s.free).toNat })).tick

/-- CORE_DISAGREE (R333, R334, R335). -/
def execCoreDisagree (isl core : Nat) (s : State) : Res State :=
  let x := s.isle isl
  .next <|
    if x.running = false ∨ 2 < core ∨ x.retired.contains core ∨ x.mode = imSPLIT then s
    else if x.paired then (if core = 2 ∧ x.retired = [] then s else s.islTrip isl 2 true)
    else if x.fenced.any (· != core) then s.islTrip isl 1 true
    else if x.fenced.contains core then s
    else
      let now := s.islTime isl
      let fs := (core, now) :: x.fences.filter (fun p => decide (now < p.2 + tenSec))
      let out := decide (3 ≤ (fs.filter (fun p => p.1 == core)).length)
      (s.coreLost isl core).modIsle isl (fun x =>
        { x with
          fences := fs, fenceCnt := min 0xFFFFFF (x.fenceCnt + 1)
          fenced := if out then x.fenced else setIns x.fenced core
          retired := if out then setIns x.retired core else x.retired
          moult := if out then none else x.moult
          mode := if out then imPAIRED else x.mode })

/-- A fenced core takes the state of core 0, or of core 1 where core 0 is the fenced one (R333). -/
def Island.resync (x : Island) : Island :=
  let src := if x.fenced.contains 0 then 1 else 0
  { x with cores := x.fenced.foldl (fun l c => setAt l c (x.cores.getD src 0)) x.cores, fenced := [] }

/-- CHECKPOINT (R333): 100 µs of island time after the last one, a fenced core is resynchronised and rejoins. -/
def execCheckpoint (isl : Nat) (s : State) : Res State :=
  let x := s.isle isl
  .next <|
    if x.running ∧ x.checkAt + 100000 ≤ s.islTime isl then s.modIsle isl (fun x => { x.resync with checkAt := s.islTime isl }) else s

/-- MOULT_REQ (R335): `paired` is the mode asked for. Refused and counted while a core is retired. -/
def execMoultReq (isl : Nat) (paired : Bool) (s : State) : Res State :=
  let x := s.isle isl
  let want := if paired then imPAIRED else imVOTED
  .next <|
    if x.running = false ∨ x.mode = imSPLIT ∨ x.mode = want then s
    else if x.retired ≠ [] then s.modIsle isl (fun x => { x with refused := x.refused + 1 })
    else s.modIsle isl (fun x => { x with moult := some want, recalled := !paired })

/-- MOULT_COMPLETE (R335): it waits for the resynchronisation of a fenced core, but for core 2 on the
way to PAIRED. Core 2 starts at its own entry vector, or takes the state of core 0. -/
def execMoultComplete (isl : Nat) (s : State) : Res State :=
  let x := s.isle isl
  .next <|
    match x.moult with
    | none => s
    | some m =>
      if x.running ∧ (x.fenced = [] ∨ (m = imPAIRED ∧ x.fenced = [2])) then
        if m = imPAIRED then (s.coreLost isl 2).modIsle isl (fun x => { x with mode := m, moult := none, fenced := [] })
        else
          s.modIsle isl (fun x =>
            { x with mode := m, moult := none, recalled := false, fenced := [], cores := setAt x.cores 2 (x.cores.getD 0 0) })
      else s

/-- A voted or compared core is halted (R336). -/
def Island.debugged (x : Island) : Bool := x.mode != imSPLIT && x.dbg.halted.any (fun c => c != 2 || x.mode != imPAIRED)

/-- Cores a debug command reaches (R336): only core 0 stands for the voted or compared ones. -/
def Island.dbgCores (x : Island) (core : Nat) : List Nat :=
  if x.mode = imSPLIT then [core]
  else if x.mode = imPAIRED ∧ x.retired = [] then (if core = 0 then [0, 1] else if core = 2 then [2] else [])
  else if core = 0 then [0, 1, 2].filter (fun c => !(x.retired.contains c))
  else []

/-- Where a core's state holds a register of the debug model: integer registers from 0x1000, floating-point ones from 0x1020, each 64
bits; a CSR has no stated place. [PRESUMED, log entry 92] -/
def coreSlot (r : Nat) : Option Nat := if 0x1000 ≤ r ∧ r < 0x1040 then some (r - 0x1000) else none

/-- A register of some cores' states is written. -/
def coresWrite (l : List Nat) (cs : List Nat) (r v : Nat) : List Nat :=
  match coreSlot r with
  | some k => cs.foldl (fun l c => modAt l c (fun w => w % 2 ^ (64 * k) + v % 2 ^ 64 * 2 ^ (64 * k) + w / 2 ^ (64 * k + 64) * 2 ^ (64 * k + 64))) l
  | none => l

/-- Some cores are visible and all of them halted. -/
def IslDbg.allHalted (d : IslDbg) (cs : List Nat) : Bool := !cs.isEmpty && cs.all (fun c => d.halted.contains c)

/-- A debug command at some cores. -/
def IslDbg.apply (d : IslDbg) (cs : List Nat) : DbgCmd → IslDbg
  | .halt => { d with halted := cs.foldl setIns d.halted }
  | .resume => { d with halted := cs.foldl setDel d.halted }
  | .step => if d.allHalted cs then { d with steps := d.steps + 1 } else d
  | .write r v => if d.allHalted cs then { d with wrote := cs.map (fun c => (c, r, v)) ++ d.wrote } else d
  | .mem _ _ => d

/-- Bytes of an island's TCM (Table 1.1), and of its lower part, which core 2 in PAIRED may not write (R332). -/
def tcmBytes : Nat := 0x200000
def tcmLower : Nat := 0x180000

/-- A debugger's memory write is one TCM write (R336); that of core 2 in PAIRED outside the upper 512 KiB is refused and
counted (R332). [DEDUCED, log entry 79] -/
def Island.tcmWrite (x : Island) (core addr val : Nat) : Island :=
  if addr % 4 ≠ 0 ∨ tcmBytes ≤ addr ∨ x.dbgCores core = [] then x
  else if x.mode = imPAIRED ∧ core = 2 ∧ addr < tcmLower then { x with refused := x.refused + 1 }
  else { x with tcm := x.tcm.write addr (leBytes 4 val) }

/-- A debug command at an island: at unlock level 3, over the narrow bundle, while LOCK is 0 or in SPLIT. [DEDUCED, log entry 79] -/
def State.islDebug (s : State) (isl core : Nat) (cmd : DbgCmd) : State :=
  let x := s.isle isl
  if s.rf rTR_AUTH_STAT fTR_AUTH_STAT_LEVEL = 3 ∧ s.islHub isl ∧ x.running ∧ core ≤ 2
    ∧ (s.rf (rSI_CFG isl) fSI_CFG_LOCK = 0 ∨ x.mode = imSPLIT) then
    s.modIsle isl (fun x =>
      match cmd with
      | .mem a v => x.tcmWrite core a v
      | .write r v =>
        let cs := x.dbgCores core
        { x with dbg := x.dbg.apply cs cmd, cores := if x.dbg.allHalted cs then coresWrite x.cores cs r v else x.cores }
      | _ => { x with dbg := x.dbg.apply (x.dbgCores core) cmd })
  else s

/-- ISLAND_DEBUG_COMMAND (R336, R436). -/
def execIslandDebugCommand (isl core : Nat) (cmd : DbgCmd) (s : State) : Res State :=
  .next <| s.islDebug isl core cmd

/-! ## What an island reads (R16, R337, R346) -/

/-- HUB lets an island read these bytes: HBM, and every line in one of its regions. -/
def State.islReach (s : State) (i a n : Nat) : Bool :=
  let inRegion := fun (line : Nat) => (List.range 4).any (fun r =>
    s.flag (rSI_RGN_BASE i r) fSI_RGN_BASE_VALID && decide (s.rf (rSI_RGN_BASE i r) fSI_RGN_BASE_BASE ≤ line)
    && decide (line ≤ s.rf (rSI_RGN_LIM i r) fSI_RGN_LIM_LIMIT))
  (unitsOf 64 a n).all inRegion && decide (a + n ≤ s.hbmBytes)

/-- Bytes an island reads over its regions, none of them poisoned. -/
def State.islRead (s : State) (i a n : Nat) : Option (List Byte) :=
  if s.islHub i && s.islReach i a n && !s.mem.poisoned a n then some (s.memRead a n) else none

/-- A read that HUB refuses is counted there (R16). -/
def State.islTries (s : State) (i a n : Nat) : State :=
  if s.islHub i && !s.islReach i a n then s.modBus (fun b => { b with islandRefused := b.islandRefused + 1 }) else s

/-- ROLE and VIEW as the view record gives them (R346); kept where it cannot be read. [DEDUCED, log entry 77] -/
def State.readView (s : State) (i : Nat) : State :=
  let a := s.rf (rSI_VIEW i) fSI_VIEW_ADDR * 64
  if s.flag (rSI_VIEW i) fSI_VIEW_EN then
    match s.islRead i a 64 with
    | some bs =>
      let r := leNat bs
      if crc32c (bs.take 60) = bytesOf r 60 4 then
        s.modIsle i (fun x => { x with chorus := true, view := bytesOf r 0 8, partId := bytesOf r 20 1, role := bytesOf r 22 1 })
      else s.modIsle i (fun x => { x with chorus := true })
    | none => (s.islTries i a 64).modIsle i (fun x => { x with chorus := true })
  else s.modIsle i (fun x => { x with chorus := false, view := 0, partId := 0, role := 1 })

/-- The first waiting notice of a slot to an island, and the rest. -/
def takeNotice (i sl : Nat) : List (Nat × Nat × Nat) → Option (List (Nat × Nat × Nat))
  | [] => none
  | n :: r => if n.1 = i ∧ n.2.1 = sl then some r else (takeNotice i sl r).map (n :: ·)

/-- An island takes a notice of a slot: it reads the view record first. -/
def State.onNotice (s : State) (i sl : Nat) (k : State → State) : State :=
  match takeNotice i sl s.hub.notices with
  | none => s
  | some r =>
    let s1 := s.modHub (fun h => { h with notices := r })
    let x := s1.isle i
    if x.power && !x.rom && between isNOTREADY x.state isREADY && s1.islHub i then k (s1.readView i) else s1

/-- WORLD_NOTICE (R337): the record is read, then its digest. -/
def execWorldNotice (isl : Nat) (s : State) : Res State :=
  .next <|
    let sl := s.rf (rSI_CFG isl) fSI_CFG_WORLD_SLOT
    s.onNotice isl sl (fun s => s.modIsle isl (fun x => { x with reading := some (s.slotRec sl) }))

/-- The checks of a world record before its digest is read (R337). -/
def worldClean (r : Nat) : Bool :=
  let nx := recPay r 0 2
  let ny := recPay r 2 2
  recKind r == 0x10 && recSeq r == bytesOf r 1016 8 && recLen r == 64 && crc32c (leBytes 64 (recPay r 0 64)) == bytesOf r 20 4
  && recPay r 48 16 == 0 && decide (nx * ny ≤ 262144) && bytesOf r 32 4 == nx * ny

/-- The world a record gives, where it is valid (R337). -/
def State.worldOf (s : State) (i r : Nat) : Option IslWorld :=
  let nx := recPay r 0 2
  let ny := recPay r 2 2
  if worldClean r = false then none
  else
    match s.islRead i (bytesOf r 24 8) (nx * ny) with
    | none => none
    | some bs =>
      if crc32c bs ≠ bytesOf r 36 4 then none
      else
        some
          { seq := recSeq r, inst := recInst r, ref := recRef r, cal := recCal r, epoch := recPay r 40 8, nx := nx, ny := ny
            cell := recPay r 4 4, x0 := recPay r 8 4, y0 := recPay r 12 4, gx := recPay r 16 8, gy := recPay r 24 8
            gyaw := recPay r 32 8, digest := leNat bs }

/-- Put a world in its place by INSTANT, newest first. -/
def putWorld (w : IslWorld) : List IslWorld → List IslWorld
  | [] => [w]
  | x :: r => if x.inst < w.inst then w :: x :: r else if x.inst = w.inst then w :: r else x :: putWorld w r

/-- WORLD_READ_COMPLETE (R337). -/
def execWorldReadComplete (isl : Nat) (s : State) : Res State :=
  .next <|
    match (s.isle isl).reading with
    | none => s
    | some r =>
      let s1 := s.modIsle isl (fun x => { x with reading := none })
      match s1.worldOf isl r with
      | none =>
        (if worldClean r then s1.islTries isl (bytesOf r 24 8) (recPay r 0 2 * recPay r 2 2) else s1).modIsle isl (fun x => { x with worldErr := min 0xFFFFFF (x.worldErr + 1) })
      | some w => s1.modIsle isl (fun x => { x with worlds := (putWorld w x.worlds).take 2 })

/-! ## Status that answers at once (R354) -/

/-- Configuration the island holds, offsets 0x0008–0x0217, as bytes. -/
def State.siBytes (s : State) (i : Nat) : List Byte :=
  (List.range 66).flatMap (fun k =>
    let a := rSI_CFG i + 8 * k
    leBytes 8 ((if k = 0 then fSI_CFG_CFG_REJ.set (s.reg a) 0 else s.reg a)).toNat)

def State.siCrc (s : State) (i : Nat) : Nat := crc32c (s.siBytes i)

def maskOf (l : List Nat) : Nat := l.foldl (fun m c => Nat.lor m (2 ^ c)) 0

/-- SI_STATUS as the island writes it to its mailbox; HUB_LOST is HUB's own. -/
def State.siStatus (s : State) (i : Nat) : Word :=
  let x := s.isle i
  let put := fun (w : Word) (p : Fld × Nat) => p.1.set w p.2
  [(fSI_STATUS_LAST_TRIP, x.lastTrip), (fSI_STATUS_DIS_RUN, min 255 x.disRun), (fSI_STATUS_FENCED, maskOf x.fenced),
   (fSI_STATUS_RETIRED, maskOf x.retired), (fSI_STATUS_ROLE, x.role), (fSI_STATUS_HELD, bit x.held),
   (fSI_STATUS_DEBUG, bit x.debugged), (fSI_STATUS_XLINK_LOST, bit x.xlinkLost),
   (fSI_STATUS_HOLDOVER, bit (s.islT i).holdover), (fSI_STATUS_EFT_LATCHED, bit x.latched), (fSI_STATUS_ACTIVE, bit x.active),
   (fSI_STATUS_FAULT, bit !x.pinHigh), (fSI_STATUS_MODE, x.mode), (fSI_STATUS_STATE, x.state)].foldl put 0

/-- Last COUNTER sent. -/
def Island.lastCounter (x : Island) : Nat := if x.sentAny then (x.counter - 1) % 2 ^ 64 else 0

/-- STATUS_MAILBOX_REFRESH (R354). -/
def execStatusMailboxRefresh (isl : Nat) (s : State) : Res State :=
  let x := s.isle isl
  .next <|
    if !x.power || !s.islHub isl then s
    else
      let pair := fun (a b : Nat) => BitVec.ofNat 64 (a * 2 ^ 40 + b * 2 ^ 16)
      let s1 := (s.setReg (rSI_STATUS isl) (s.siStatus isl)).setReg (rSI_CFG_CRC isl) (BitVec.ofNat 64 (s.siCrc isl))
      let s2 := (s1.setReg (rSI_TX_CNT isl) (BitVec.ofNat 64 x.lastCounter)).setReg (rSI_OUT_CNT isl) (pair x.passCnt x.heldCnt)
      let s3 := (s2.setReg (rSI_FALL_CNT isl) (pair x.reissues x.efts)).setReg (rSI_DIS_CNT isl) (pair x.disagrees x.fenceCnt)
      (s3.setReg (rSI_AGE_CNT isl) (pair x.timeouts x.worldErr)).setReg (rSI_IO_CNT isl) (pair x.busOffs x.rxDrops)

/-- Fields in which a write of 0 stores 1. -/
def siMinOne (off : Nat) : List Fld :=
  if off = 8 then [fSI_CFG_N_DIS, fSI_CFG_RECOVER_N]
  else if off = 0x10 then [fSI_TIMING_EFT_PERIOD_MS]
  else if off = 0x1C0 then [fSI_DIV_CORR_THRESH]
  else []

/-- A write of one of the island's counters with CLR = 1. -/
def State.siClear (s : State) (i off : Nat) : State :=
  let s1 := s.setReg (rSI_STATUS i + off) 0
  s1.modIsle i (fun x =>
    if off = 0x308 then { x with passCnt := 0, heldCnt := 0 }
    else if off = 0x310 then { x with reissues := 0, efts := 0 }
    else if off = 0x318 then { x with disagrees := 0, fenceCnt := 0 }
    else if off = 0x320 then { x with timeouts := 0, worldErr := 0 }
    else if off = 0x328 then { x with busOffs := 0, rxDrops := 0 }
    else x)

/-- A configuration write (R354): with LOCK = 1 it is ignored and sets CFG_REJ. -/
def State.siConfig (s : State) (i off : Nat) (w0 : Word) : State :=
  let a := rSI_STATUS i + off
  let w := (siMinOne off).foldl (fun (x : Word) f => if f.get x = 0 then f.set x 1 else x) w0
  let s1 := if off = 8 ∧ fSI_CFG_CFG_REJ.get w0 = 1 then s.clrFlag a fSI_CFG_CFG_REJ else s
  let new := s1.plainWrite a (if off = 8 then fSI_CFG_CFG_REJ.set w 0 else w)
  if s.flag (rSI_CFG i) fSI_CFG_LOCK then s.siRej i else new

/-- A write to an SI_ window. [DEDUCED, log entry 73] -/
def State.siWrite (s : State) (i off : Nat) (w : Word) : State :=
  if !s.islHub i then s.siRej i
  else if off = 0x220 then (if fSI_CTRL_RESTART.get w = 1 then s.siRestart i else s)
  else if 0x308 ≤ off ∧ off ≤ 0x328 then (if w.toNat % 2 = 1 then s.siClear i off else s)
  else s.siConfig i off w

/-- SI_CONFIG_WRITE (R354). -/
def execSiConfigWrite (port : Port) (isl off : Nat) (val : Word) (s : State) : Res State :=
  .next <| if isl < 2 ∧ off % 8 = 0 ∧ off < 65536 then s.access port (rSI_STATUS isl + off) (fun s => s.siWrite isl off val) else s

/-- SPI_STATUS_READ (R355): the frame after command 0x0B; every other command returns zeros. [PRESUMED, log entry 78] -/
def execSpiStatusRead (isl cmd : Nat) (s : State) : Res State :=
  let x := s.isle isl
  let flags := bit (s.islT isl).holdover + 2 * bit !s.islHub isl + 4 * bit x.latched + 8 * bit x.debugged + 16 * bit x.xlinkLost
    + 32 * bit (x.retired != [])
  let body := leBytes 1 (x.state + 8 * x.mode + 64 * bit x.active + 128 * bit !x.pinHigh) ++ leBytes 1 x.role ++ leBytes 1 x.lastTrip
    ++ leBytes 1 flags ++ leBytes 8 x.lastCounter ++ leBytes 8 (s.islTime isl) ++ leBytes 1 (min 255 x.disRun) ++ leBytes 3 0
    ++ leBytes 4 (s.siCrc isl)
  .next <|
    if x.power = false ∨ 2 ≤ isl then s
    else s.emit (.spi (2 + isl) (if cmd = 0x0B then body ++ leBytes 4 (crc32c body) else leBytes 32 0))

/-- PM_VETO (R379). -/
def execPmVeto (isl : Nat) (on : Bool) (s : State) : Res State :=
  .next <| if (s.isle isl).running then (s.modIsle isl (fun x => { x with veto := on })).entryCheck else s

/-! ## The receive side and bus-off (R443) -/

/-- CAN_RECEIVE (R443): `pass` by the acceptance filters, `room` in the mailbox. -/
def execCanReceive (isl ctl : Nat) (pass room : Bool) (data : List Byte) (s : State) : Res State :=
  .next <|
    if (s.isle isl).running = false ∨ 3 < ctl ∨ pass = false then s
    else if room then s.modIsle isl (fun x => { x with mailbox := (ctl, data) :: x.mailbox })
    else s.modIsle isl (fun x => { x with rxDrops := min 0xFFFFFF (x.rxDrops + 1) })

def State.modTx (s : State) (i c : Nat) (f : IslTx → IslTx) : State := s.modIsle i (fun x => { x with txs := modAt x.txs c f })
def State.islTx (s : State) (i c : Nat) : IslTx := ((s.isle i).txs[c]?).getD {}

/-- CAN_BUS_OFF (R443). -/
def execCanBusOff (isl ctl : Nat) (s : State) : Res State :=
  .next <|
    if (s.isle isl).power = false ∨ 3 < ctl ∨ (s.islTx isl ctl).busOff then s
    else
      (s.modTx isl ctl (fun t => { t with busOff := true, tx := none, waiting := none })).modIsle isl (fun x =>
        { x with busOffs := min 0xFFFFFF (x.busOffs + 1) })

/-- CAN_BUS_OFF_RECOVERY (R443). -/
def execCanBusOffRecovery (isl ctl : Nat) (s : State) : Res State :=
  .next <| if ctl < 4 then s.modTx isl ctl (fun t => { t with busOff := false }) else s

/-- ISLAND_ETH_RECEIVE (R443). -/
def execIslandEthReceive (isl : Nat) (s : State) : Res State :=
  .next <|
    if (s.isle isl).running then s.modIsle isl (fun x => { x with rxDrops := min 0xFFFFFF (x.rxDrops + 1) }) else s

/-! ## The connection to HUB (R296, R352) -/

/-- The island's connection is quarantined: HUB stops its notices and time messages, and its reads
are discarded; the shadow keeps its last values with HUB_LOST set. -/
def State.islHubLost (s : State) (i : Nat) : State :=
  let s1 := s.modHub (fun h => { h with notices := h.notices.filter (fun n => n.1 != i) })
  ((s1.modIslTime i (fun t => { t with inbox := [] })).modIsle i (fun x => { x with reading := none, judging := none })).setFlag
    (rSI_STATUS i) fSI_STATUS_HUB_LOST

/-- The island has rejoined (R299). -/
def State.islHubBack (s : State) (i : Nat) : State := s.clrFlag (rSI_STATUS i) fSI_STATUS_HUB_LOST

/-- SIA starts ACTIVE at each start of the part, and SIB starts standby (R347). [DEDUCED, log entry 79] -/
def State.islandsStart (s : State) : State := (s.modIsle 0 (fun x => { x with active := true })).modIsle 1 (fun x => { x with active := false })

end Sys2Proof.Machine
end

