-- ==== Sys2Proof/Machine/Debug.lean ====
section
/-!
DEFINITION. The trace buffer as firmware handles it (R428–R431), its registers (Tables 20.6, 20.7),
debug unlocking (R436), the debug modules (R435, R437) and the TAP.
-/
namespace Sys2Proof.Machine

/-! ## Records reach the buffer (R427–R430) -/

/-- A record is one that TR_TRIG_CFG's match source names (Table 20.7). Only the records of commands
have a STATUS and a CTX. [DEDUCED, log entry 91] -/
def State.traceMatch (s : State) (r : Nat) : Bool :=
  let ev := bits r 11 8
  let cmd := decide (ev ≤ evMARK)
  ev == s.rf rTR_TRIG_CFG fTR_TRIG_CFG_M_EVENT
  && (!s.flag rTR_TRIG_CFG fTR_TRIG_CFG_M_BAD || (cmd && bits r 31 24 != 0))
  && (!s.flag rTR_TRIG_CFG fTR_TRIG_CFG_M_CTX_EN || (cmd && bits r 21 16 == s.rf rTR_TRIG_CFG fTR_TRIG_CFG_M_CTX))

/-- A source's oldest record leaves its FIFO; once there is room for two, a GAP stands for the records
dropped since (R428). -/
def State.popRecord (s : State) (e : Nat) : State :=
  let x := s.trace.src e
  let rest := x.fifo.drop 1
  if 0 < x.dropped ∧ rest.length ≤ 14 then
    s.modSrc e (fun x => { x with fifo := rest ++ [recGap e x.dropped 2 0 (s.stampOf e)], dropped := 0 })
  else s.modSrc e (fun x => { x with fifo := rest })

/-- TRACE_RECORD_ARRIVAL (R427, R429, R430): the oldest record of a source reaches the buffer. -/
def execTraceRecordArrival (eng : Nat) (s : State) : Res State :=
  .next <|
    match (s.trace.src eng).fifo with
    | [] => s
    | r :: _ =>
      let s1 := (s.popRecord eng).bufWrite r
      if s.traceMatch r then s1.fireTrigger trigMatch else s1

/-- TRACE_FREEZE (R430): POST_SHARE × 65,536 records have followed the TRIGGER record. [DEDUCED, log entry 91] -/
def execTraceFreeze (s : State) : Res State :=
  .next <| if s.trState = trPOST ∧ s.trace.post = 0 then s.setTrState trFROZEN else s

/-! ## Arming, stopping, triggering (R429, R430) -/

/-- ARM: the buffer is empty, a TIME record is written, and the buffer is ARMED in the present MODE. [DEDUCED, log entry 91] -/
def State.traceArm (s : State) : State :=
  let s1 := (s.modTrace (fun t =>
    { t with recs := [], total := 0, post := 0, bufGap := 0, timeHi := s.dtime / 2 ^ 40, stopped := false, bad := 0, trig := none })).setTrState trARMED
  (s1.wf rTR_RD fTR_RD_RD 0).bufRecord (recTime s.dtime)

/-- STOP: IDLE, with the content kept. -/
def State.traceStop (s : State) : State := s.setTrState trIDLE

/-- A write of TR_CTRL: a software trigger, then a stop, then an arm. [DEDUCED, log entry 91] -/
def State.trCtrlWrite (s : State) (w : Word) : State :=
  let s1 := if fTR_CTRL_TRIG.get w = 1 then s.fireTrigger trigSoft else s
  let s2 := if fTR_CTRL_STOP.get w = 1 then s1.traceStop else s1
  if fTR_CTRL_ARM.get w = 1 then s2.traceArm else s2

/-- TR_TRIG (R430). -/
def execTrTrig (port : Port) (s : State) : Res State := .next <| s.access port rTR_CTRL (fun s => s.fireTrigger trigSoft)
/-- TR_ARM (R429). -/
def execTrArm (port : Port) (s : State) : Res State := .next <| s.access port rTR_CTRL State.traceArm
/-- TR_STOP (R429). -/
def execTrStop (port : Port) (s : State) : Res State := .next <| s.access port rTR_CTRL State.traceStop

/-! ## Dump and stream (R431) -/

def State.trRej (s : State) : State := s.setFlag rTR_STATUS fTR_STATUS_CFG_REJ
def State.trErr (s : State) : State := s.setFlag rTR_STATUS fTR_STATUS_ERR

/-- Records as bytes. -/
def traceBytes (rs : List Nat) : List Byte := rs.flatMap (leBytes 16)

/-- Context whose region table dumps and streams are checked by. -/
def State.trCtx (s : State) : Nat := s.rf rTR_CFG fTR_CFG_CTX

/-- A dump may start: FROZEN or IDLE, or in WRAP or STOP; and none runs. -/
def State.dumpAllowed (s : State) : Bool :=
  (s.trState == trFROZEN || s.trState == trIDLE || s.trMode == 1 || s.trMode == 2) && s.trace.dump.isNone

/-- The `n` records written at an address came from lines that read as poison (R415): so does what was written. -/
def State.poisonRecs (s : State) (a n : Nat) : State := if n = 0 then s else s.modMem (fun m => m.putPoison a (16 * n))

/-- The held records go to DUMP_ADDR, oldest first; a line that fails its check ends the dump. -/
def State.dumpRun (s : State) : State :=
  let a := s.rf rTR_DUMP fTR_DUMP_DUMP_ADDR * 64
  let bs := traceBytes s.trace.recs
  let s1 := s.wf rTR_DUMP fTR_DUMP_DONE 0
  match s1.engineErr s1.trCtx .wr a bs.length with
  | some e => (s1.putBytes a (bs.take (e.addr - a))).trErr
  | none => ((s1.putBytes a bs).poisonRecs a s.trace.bad).modTrace (fun t => { t with dump := some t.recs.length })

/-- A write of TR_DUMP. [DEDUCED, log entry 91] -/
def State.trDumpWrite (s : State) (w : Word) : State :=
  let s1 := s.wf rTR_DUMP fTR_DUMP_DUMP_ADDR (fTR_DUMP_DUMP_ADDR.get w)
  if fTR_DUMP_GO.get w = 0 then s1 else if s.dumpAllowed then s1.dumpRun else s1.trRej

/-- TR_DUMP (R431). -/
def execTrDump (port : Port) (val : Word) (s : State) : Res State :=
  .next <| s.access port rTR_DUMP (fun s => s.trDumpWrite (fTR_DUMP_GO.set val 1))

/-- TRACE_DUMP_COMPLETE (R431). -/
def execTraceDumpComplete (s : State) : Res State :=
  .next <|
    match s.trace.dump with
    | some n =>
      ((s.modTrace (fun t => { t with dump := none })).setFlag rTR_DUMP fTR_DUMP_DONE).wf rTR_DUMP_LEN fTR_DUMP_LEN_LEN n
    | none => s

/-- Records the stream's ring holds when full. -/
def State.ringCap (s : State) : Nat := 2 ^ s.rf rTR_STREAM_BASE fTR_STREAM_BASE_LOG2

/-- The stream has a 64-byte group to write and room for it in the ring. -/
def State.streamReady (s : State) : Bool :=
  s.trMode == 3 && s.trState == trARMED && !s.trace.stopped && decide (4 ≤ s.trace.recs.length)
  && decide (10 ≤ s.rf rTR_STREAM_BASE fTR_STREAM_BASE_LOG2)
  && decide ((s.rf rTR_STREAM_WR fTR_STREAM_WR_PTR + 2 ^ 64 - s.rf rTR_STREAM_RD fTR_STREAM_RD_PTR) % 2 ^ 64 + 4 ≤ s.ringCap)

/-- The group has been written: STREAM_WR advances and the records leave the buffer. -/
def State.streamDone (s : State) : State :=
  (s.modTrace (fun t => { t with recs := t.recs.drop 4, bad := t.bad - 4 })).wf rTR_STREAM_WR fTR_STREAM_WR_PTR
    (s.rf rTR_STREAM_WR fTR_STREAM_WR_PTR + 4)

/-- The stream stops with its buffer as it is. [DEDUCED, log entry 91] -/
def State.streamFail (s : State) : State := (s.modTrace (fun t => { t with stopped := true })).trErr

/-- TRACE_STREAM_WRITE (R431): with DEST = 1 the ring lies in PCIe memory space, and STREAM_WR follows it. -/
def execTraceStreamWrite (s : State) : Res State :=
  .next <|
    if s.streamReady then
      let base := s.rf rTR_STREAM_BASE fTR_STREAM_BASE_ADDR * 64
      let a := base + s.rf rTR_STREAM_WR fTR_STREAM_WR_PTR % s.ringCap * 16
      let bs := traceBytes (s.trace.recs.take 4)
      if s.flag rTR_STREAM_BASE fTR_STREAM_BASE_DEST then
        if s.pcieUp then
          let s1 := (s.emit (.pcieWrite a bs)).streamDone
          s1.emit (.pcieWrite (base + s.ringCap * 16) (leBytes 8 (s1.rf rTR_STREAM_WR fTR_STREAM_WR_PTR)))
        else s.streamFail
      else
        match s.engWrite s.trCtx a bs with
        | (s1, none) => (s1.poisonRecs a (min 4 s.trace.bad)).streamDone
        | (_, some _) => s.streamFail
    else s

/-! ## Trace configuration (Tables 20.6, 20.7) -/

/-- A write of TR_CFG: MODE takes effect in IDLE and FROZEN only (R429). -/
def State.trCfgWrite (s : State) (w : Word) : State :=
  let old := s.trMode
  let s1 := s.plainWrite rTR_CFG w
  if fTR_CFG_MODE.get w = old ∨ s.trState = trIDLE ∨ s.trState = trFROZEN then s1
  else (s1.wf rTR_CFG fTR_CFG_MODE old).trRej

/-- A write of TR_RD: in STOP, the records up to it have been read (R429). -/
def State.trRdWrite (s : State) (w : Word) : State :=
  let s1 := s.plainWrite rTR_RD w
  if s.trMode = 2 then
    let n := (fTR_RD_RD.get w + traceCap - s.rf rTR_RD fTR_RD_RD) % traceCap
    s1.modTrace (fun t => { t with recs := t.recs.drop n, bad := t.bad - n })
  else s1

/-- A write of TR_STREAM_BASE: LOG2 is 10–24. -/
def State.trStreamWrite (s : State) (w : Word) : State :=
  if between 10 (fTR_STREAM_BASE_LOG2.get w) 24 then s.plainWrite rTR_STREAM_BASE w else s.trRej

/-! ## Unlocking (R436) -/

def State.dbgLocked (s : State) : Bool := s.flag rTR_AUTH_STAT fTR_AUTH_STAT_LOCKED
def State.dbgBusy (s : State) : Bool := s.flag rTR_AUTH_STAT fTR_AUTH_STAT_BUSY

/-- The 48 challenge bytes: nonce, part UID, LEVEL and attempt number. [DESIGN CHOICE, log entry 93] -/
def State.challenge (s : State) (level : Nat) : List Byte :=
  leBytes 32 (Config.nonce s.free).toNat ++ leBytes 8 s.fuses.uid ++ leBytes 4 level
    ++ leBytes 4 (s.rf rTR_AUTH_STAT fTR_AUTH_STAT_ATTEMPTS + 1)

/-- OP CHAL: the challenge stands in TR_AUTH_CHALk. -/
def State.authChal (s : State) (level : Nat) : State :=
  if s.dbgLocked || s.dbgBusy || !(between 1 level 3) then s
  else
    let ch := leNat (s.challenge level)
    let s1 := (List.range 6).foldl (fun x k => x.setReg (rTR_AUTH_CHAL k) (BitVec.ofNat 64 (bytesOf ch (8 * k) 8))) s.tick
    s1.modDebug (fun d => { d with chal := some (ch, level) })

/-- OP VERIFY: it uses the challenge up. [DESIGN CHOICE, log entry 93] -/
def State.authVerify (s : State) : State :=
  if s.dbgLocked || s.dbgBusy then s
  else (s.modDebug (fun d => { d with verify := some d.chal, chal := none })).setFlag rTR_AUTH_STAT fTR_AUTH_STAT_BUSY

/-- OP LOCK: back to level 0. [DESIGN CHOICE, log entry 93] -/
def State.authLock (s : State) : State :=
  if s.dbgLocked then s
  else (s.wf rTR_AUTH_STAT fTR_AUTH_STAT_LEVEL 0).bump rTR_AUTH_STAT fTR_AUTH_STAT_OK_CNT 1

/-- A write of TR_AUTH_CMD. [DESIGN CHOICE, log entry 93] -/
def State.authCmd (s : State) (w : Word) : State :=
  match fTR_AUTH_CMD_OP.get w with
  | 1 => s.authChal (fTR_AUTH_CMD_LEVEL_REQ.get w)
  | 2 => s.authVerify
  | 3 => s.authLock
  | _ => s

/-- AUTH_CHAL (R436). -/
def execAuthChal (port : Port) (level : Nat) (s : State) : Res State :=
  .next <| s.access port rTR_AUTH_CMD (fun s => s.authChal level)
/-- AUTH_VERIFY (R436). -/
def execAuthVerify (port : Port) (s : State) : Res State := .next <| s.access port rTR_AUTH_CMD State.authVerify
/-- AUTH_LOCK (R436). -/
def execAuthLock (port : Port) (s : State) : Res State := .next <| s.access port rTR_AUTH_CMD State.authLock

/-- The key's hash is fused with the level, and the signature over the challenge verifies. -/
def State.authOk (s : State) (ch level : Nat) : Bool :=
  let key := s.dbg.key.flatMap (fun w => leBytes 8 w.toNat)
  let sig := s.dbg.sig.flatMap (fun w => leBytes 8 w.toNat)
  let h := sha384 key
  s.fuses.dbgKeys.any (fun k => k.1 == h && Nat.testBit k.2 level)
  && ecdsaOk (4 :: key) (sha384 (leBytes 48 ch)) (beWord (sig.take 48)) (beWord (sig.drop 48))

/-- A verify that fails; the third locks debug until the next start. -/
def State.authFail (s : State) : State :=
  let n := s.rf rTR_AUTH_STAT fTR_AUTH_STAT_ATTEMPTS + 1
  let s1 := (s.wf rTR_AUTH_STAT fTR_AUTH_STAT_ATTEMPTS n).bump rTR_AUTH_STAT fTR_AUTH_STAT_FAIL_CNT 1
  if 3 ≤ n then s1.setFlag rTR_AUTH_STAT fTR_AUTH_STAT_LOCKED else s1

/-- AUTH_VERIFY_COMPLETE (R436, R437). -/
def execAuthVerifyComplete (s : State) : Res State :=
  .next <|
    match s.dbg.verify with
    | none => s
    | some c =>
      let s1 := (s.modDebug (fun d => { d with verify := none })).wf rTR_AUTH_STAT fTR_AUTH_STAT_BUSY 0
      match c with
      | some (ch, level) =>
        if s.authOk ch level then (s1.wf rTR_AUTH_STAT fTR_AUTH_STAT_LEVEL level).bump rTR_AUTH_STAT fTR_AUTH_STAT_OK_CNT 1
        else s1.authFail
      | none => s1.authFail

/-! ## Debug modules (R435–R437) -/

/-- Offset of the debug-module window. -/
def dmOffset : Nat := 0x9000

def dmKey (dm a : Nat) : Nat := dm * 65536 + a
/-- [PRESUMED, log entry 92] -/
def State.dmReg (s : State) (dm a : Nat) : Nat := (mapGet s.dbg.dm (dmKey dm a)).getD 0

/-- DMI addresses of the RISC-V Debug Specification that have an effect here (PRESUMED). -/
def dmiCONTROL : Nat := 0x10
def dmiSTATUS : Nat := 0x11
def dmiCOMMAND : Nat := 0x17

/-- The hart or core dmcontrol selects. -/
def State.dmHart (s : State) (dm : Nat) : Nat := bits (s.dmReg dm dmiCONTROL) 25 16

/-- A module answers: DM0 from level 1, DM1 and DM2 at level 3 while the island's connection is there. [DEDUCED, log entry 94] -/
def State.dmOpen (s : State) (dm : Nat) : Bool :=
  if dm = 0 then decide (1 ≤ s.dbgLevel) else decide (s.dbgLevel = 3) && decide (dm ≤ 2) && s.islHub (dm - 1)

/-- The selected hart or core is halted. -/
def State.dmHalted (s : State) (dm : Nat) : Bool :=
  if dm = 0 then ((s.harts[s.dmHart 0]?).map Hart.halted).getD false else (s.isle (dm - 1)).dbg.halted.contains (s.dmHart dm)

/-- The selected island core is visible to the debugger (R336). -/
def State.dmVisible (s : State) (dm : Nat) : Bool := dm == 0 || !((s.isle (dm - 1)).dbgCores (s.dmHart dm)).isEmpty

/-- A debug-module register as it reads: what stands there until a write or a command changes it (R6). [PRESUMED, log entry 92] -/
def State.dmRead (s : State) (dm a : Nat) : Nat :=
  if s.dmOpen dm = false then 0
  else if a = dmiSTATUS then 0x83 + (if !s.dmVisible dm then 0xC000 else if s.dmHalted dm then 0x300 else 0xC00)
  else s.dmReg dm a

/-- Halt or resume the selected hart (R437: only that one) or island core. [PRESUMED, log entry 92] -/
def State.dmControl (s : State) (dm v : Nat) : State :=
  let h := bits v 25 16
  let halt := Nat.testBit v 31
  if halt = false ∧ Nat.testBit v 30 = false then s
  else if dm = 0 then s.modHarts (fun l => modAt l h (fun x => { x with halted := halt }))
  else s.islDebug (dm - 1) h (if halt then .halt else .resume)

/-- What an abstract register read leaves in the data registers: a core's own register is not this block's, so a free value. -/
def State.dmFetch (s : State) (dm n : Nat) : State :=
  (s.modDebug (fun d =>
    { d with dm := (List.range n).foldl (fun m k => mapPut m (dmKey dm (4 + k)) (Config.coreData dm (4 + k) s.free).toNat) d.dm })).tick

/-- An abstract command: a register write at an island core; a register read fills the data registers; a memory write at an
island is one TCM write (R336). A hart's own registers are not this block's. [PRESUMED, log entry 92] -/
def State.dmCommand (s : State) (dm v : Nat) : State :=
  let words := if bits v 22 20 = 3 then 2 else 1
  if bits v 31 24 = 0 ∧ Nat.testBit v 17 then
    (if !Nat.testBit v 16 then s.dmFetch dm words
     else if 1 ≤ dm then s.islDebug (dm - 1) (s.dmHart dm) (.write (v % 65536) (s.dmReg dm 4))
     else s)
  else if bits v 31 24 = 2 ∧ Nat.testBit v 16 ∧ 1 ≤ dm then
    s.islDebug (dm - 1) (s.dmHart dm) (.mem (s.dmReg dm 5) (s.dmReg dm 4))
  else s

/-- A write of a debug-module register: halting and stepping harts needs level 2. -/
def State.dmWrite (s : State) (dm a v : Nat) : State :=
  if s.dmOpen dm = false ∨ (dm = 0 ∧ s.dbgLevel < 2) then s
  else
    let s1 := s.modDebug (fun d => { d with dm := mapPut d.dm (dmKey dm a) (v % 2 ^ 32) })
    if a = dmiCONTROL then s1.dmControl dm v else if a = dmiCOMMAND then s1.dmCommand dm v else s1

/-- An access to a debug-module register, and its answer. -/
def State.dmAccess (s : State) (p : Port) (dm a : Nat) : Option Nat → State
  | some v => (s.dmWrite dm a v).answered p .done
  | none => s.answered p (.data (leBytes 4 (s.dmRead dm a)))

/-- DEBUG_MODULE_ACCESS (R435, R436): through JTAG, or by a port through the TR_ window, which shows DM0. -/
def execDebugModuleAccess (port : Option Port) (dm addr : Nat) (data : Option Nat) (s : State) : Res State :=
  .next <|
    match port with
    | none => s.dmAccess .debug dm addr data
    | some p =>
      let s1 := (s.dropStaged p (rTR_CFG + dmOffset + 8 * addr)).wakeFor p (rTR_CFG + dmOffset + 8 * addr)
      match s1.portRefusal p (if data.isSome then .wr else .rd) (rTR_CFG + dmOffset + 8 * addr) with
      | some x => s1.refuseAccess p x
      | none => if addr < 0xE00 then s1.dmAccess p 0 addr data else s1

/-! ## The TAP (R435) -/

/-- JTAG_IDCODE (R435). -/
def execJtagIdcode (s : State) : Res State :=
  .next <| (s.modDebug (fun d => { d with ir := 0 })).answered .debug (.data (leBytes 4 0x20090C4D))

/-- JTAG_BYPASS (R435). -/
def execJtagBypass (s : State) : Res State := .next <| s.modDebug (fun d => { d with ir := 1 })

/-- JTAG_SAMPLE_PRELOAD (R435, R436). [DEDUCED, log entry 94] -/
def execJtagSamplePreload (pins preload : Nat) (s : State) : Res State :=
  .next <| if 2 ≤ s.dbgLevel then s.modDebug (fun d => { d with ir := 2, sample := pins, bound := preload }) else s

/-- JTAG_EXTEST (R435, R436): the boundary register drives the pins. [DEDUCED, log entry 94] -/
def execJtagExtest (s : State) : Res State := .next <| if 2 ≤ s.dbgLevel then s.modDebug (fun d => { d with ir := 3 }) else s

/-! ## The TR_ window -/

/-- A write of the TR_ window. TR_HARTh_CTX takes one from M or S mode or from debug access only (R432). -/
def State.trWrite (s : State) (p : Port) (off : Nat) (w : Word) : State :=
  let a := rTR_CFG + off
  if off = 0 then s.trCfgWrite w
  else if off = 0x10 then s.trCtrlWrite w
  else if off = 0x28 then s.trRdWrite w
  else if off = 0x30 then s.trStreamWrite w
  else if off = 0x48 then s.trDumpWrite w
  else if 0x100 ≤ off ∧ off < 0x180 then
    match p with
    | .hart _ => s.plainWrite a w
    | .debug => s.plainWrite a w
    | _ => s.trRej
  else if 0x200 ≤ off ∧ off < 0x218 then (if w.toNat % 2 = 1 then s.setReg a 0 else s)
  else if off = 0x8000 then s.authCmd w
  else if 0x8200 ≤ off ∧ off < 0x8260 then s.modDebug (fun d => { d with key := setAt d.key ((off - 0x8200) / 8) w })
  else if 0x8300 ≤ off ∧ off < 0x8360 then s.modDebug (fun d => { d with sig := setAt d.sig ((off - 0x8300) / 8) w })
  else if dmOffset ≤ off then s.dmWrite 0 ((off - dmOffset) / 8) (w.toNat % 2 ^ 32)
  else s.plainWrite a w

end Sys2Proof.Machine
end

