-- ==== Sys2Proof/Machine/TileSeq.lean ====
section
/-!
DEFINITION. The tile sequencer (R51–R64, R78–R80): kernel images and their checks, issue by
the scoreboard, loops, leap points, signatures, completion and faults.
-/
namespace Sys2Proof.Machine

/-! ## Fields -/

/-- Bits `hi:lo` of byte `i` of an entry or a descriptor. -/
def ef (e i hi lo : Nat) : Nat := bits e (8 * i + hi) (8 * i + lo)

def opcOf (e : Nat) : Nat := ef e 0 3 0
def syncOf (e : Nat) : Bool := Nat.testBit e 4
def markOf (e : Nat) : Bool := Nat.testBit e 5

/-- Signed 32-bit field at byte `i`. -/
def s32Of (e i : Nat) : Int := signedOf 32 (bytesOf e i 4)

/-- A number modulo 2^64. -/
def wrap64 (i : Int) : Nat := (i % (2 ^ 64 : Nat)).toNat

def Tile.arg (x : Tile) (k : Nat) : Nat := x.args.getD k 0

/-- A tile-SRAM operand, A[base] + OFF (R60). -/
def Tile.sramOp (x : Tile) (base off : Nat) : Nat := (x.arg base + off) % 2 ^ 64

/-- A memory operand, A[base] + the sign-extended offset (R60). -/
def Tile.memOp (x : Tile) (base : Nat) (off : Int) : Nat := wrap64 (x.arg base + off)

/-- Bytes of a tile's SRAM (R52). -/
def sramBytes : Nat := 0x200000

/-- A span lies in tile SRAM (R60). -/
def inSram (sp : Span) : Bool := decide (sp.hi ≤ sramBytes)

/-- Two spans share a byte. -/
def overlap (a b : Span) : Bool := decide (a.lo < b.hi) && decide (b.lo < a.hi)

def anyOverlap (xs ys : List Span) : Bool := xs.any (fun a => ys.any (overlap a))

/-! ## Image checks (R58, R87, R98) -/

/-- Reserved bit ranges of each entry type (Tables 3.3–3.14); `none` for a reserved opcode. -/
def reservedBits (opc : Nat) : Option (List (Nat × Nat)) :=
  match opc with
  | 0 | 1 => some [(7, 6), (23, 20), (31, 24), (47, 41), (63, 48), (191, 176)]
  | 2 => some [(7, 6), (31, 24), (55, 53), (63, 56), (223, 216), (239, 233), (255, 249)]
  | 3 => some [(7, 6), (31, 31), (55, 53), (63, 56), (223, 216), (239, 233), (255, 249)]
  | 4 => some [(7, 6), (55, 50), (63, 56), (95, 85), (127, 117), (159, 149), (191, 182), (255, 245)]
  | 5 => some [(7, 6), (31, 31), (159, 149), (223, 214), (255, 224)]
  | 6 => some [(7, 6), (15, 10), (31, 26), (63, 56), (95, 74), (127, 96)]
  | 7 => some [(7, 6), (15, 12), (31, 16), (63, 53), (95, 83), (255, 96)]
  | 8 => some [(7, 6), (31, 18), (63, 54), (95, 85), (255, 128)]
  | _ => none

def entryClean (e : Nat) : Bool :=
  match reservedBits (opcOf e) with
  | none => false
  | some l => l.all (fun p => bits e p.1 p.2 == 0)

def loopTarget (e : Nat) : Nat := bits e 25 16
def loopCount (e : Nat) : Nat := bits e 55 32
def loopCtr (e : Nat) : Nat := bits e 9 8
def liveOff (e : Nat) : Nat := bits e 52 32
def liveLen (e : Nat) : Nat := bits e 82 64
def liveBase (e : Nat) : Nat := bits e 11 8

/-- One LOOP is well formed: TARGET at most its index, COUNT in 1–16,777,215. -/
def loopClean (i e : Nat) : Bool :=
  opcOf e != 6 || (decide (loopTarget e ≤ i) && decide (1 ≤ loopCount e))

/-- Two LOOPs, `i < j`: bodies disjoint or nested, and nested ones on distinct counters. -/
def loopPair (i e : Nat) (f : Nat) : Bool :=
  if opcOf e != 6 || opcOf f != 6 then true
  else if i < loopTarget f then true
  else decide (loopTarget f ≤ loopTarget e) && loopCtr e != loopCtr f

def loopsClean : List (Nat × Nat) → Bool
  | [] => true
  | (i, e) :: r => loopClean i e && r.all (fun p => loopPair i e p.2) && loopsClean r

def leapClean (e : Nat) : Bool :=
  opcOf e != 7 ||
    (liveOff e % 64 == 0 && liveLen e % 64 == 0 && decide (liveLen e ≤ 262144))

/-- An activation table: modes 0 or 1 and zero reserved bytes (Table 3.11). -/
def tabClean (t : Nat) : Bool :=
  decide (bytesOf t 8 1 ≤ 1) && decide (bytesOf t 9 1 ≤ 1) && bytesOf t 10 6 == 0
  && bytesOf t 24 8 == 0 && bytesOf t 800 224 == 0

/-- The output extent of R87, in exact integers. -/
def outExtent (ih ee pt pb dd kk ss : Nat) : Int :=
  Int.fdiv (((ee * (ih - 1 : Int) + 1 + pt + pb) - dd * (kk - 1 : Int)) - 1) ss + 1

/-- Window fields (Table 4.3). -/
def wIH (w : Nat) : Nat := bytesOf w 0 2
def wIW (w : Nat) : Nat := bytesOf w 2 2
def wCI (w : Nat) : Nat := bytesOf w 4 2
def wOH (w : Nat) : Nat := bytesOf w 6 2
def wOW (w : Nat) : Nat := bytesOf w 8 2
def wKH (w : Nat) : Nat := bytesOf w 10 2
def wKW (w : Nat) : Nat := bytesOf w 12 2
def wSY (w : Nat) : Nat := bytesOf w 14 2 + 1
def wSX (w : Nat) : Nat := bytesOf w 16 2 + 1
def wDY (w : Nat) : Nat := bytesOf w 18 2 + 1
def wDX (w : Nat) : Nat := bytesOf w 20 2 + 1
def wEY (w : Nat) : Nat := bytesOf w 22 2 + 1
def wEX (w : Nat) : Nat := bytesOf w 24 2 + 1
def wPT (w : Nat) : Nat := bytesOf w 26 2
def wPB (w : Nat) : Nat := bytesOf w 28 2
def wPL (w : Nat) : Nat := bytesOf w 30 2
def wPR (w : Nat) : Nat := bytesOf w 32 2
def wFILL (w : Nat) : Nat := bytesOf w 34 4
def wAvgDiv (w : Nat) : Bool := Nat.testBit w 305
def wPadMode (w : Nat) : Bool := Nat.testBit w 304
def wOOB (w : Nat) : Bool := Nat.testBit w 316
def wALIGN (w : Nat) : Bool := Nat.testBit w 315
def wNORM (w : Nat) : Bool := Nat.testBit w 314
def wGridFmt (w : Nat) : Nat := bits w 313 312
def wORGY (w : Nat) : Int := s32Of w 40
def wORGX (w : Nat) : Int := s32Of w 44

/-- R87 for modes 0–3. -/
def windowFits (w : Nat) : Bool :=
  let oh := outExtent (wIH w) (wEY w) (wPT w) (wPB w) (wDY w) (wKH w) (wSY w)
  let ow := outExtent (wIW w) (wEX w) (wPL w) (wPR w) (wDX w) (wKW w) (wSX w)
  decide (1 ≤ oh) && decide (1 ≤ ow) && decide (oh = wOH w) && decide (ow = wOW w)

/-- Checks of a window descriptor (R86, R87): reserved bits and the bound on OH × OW for every one; geometry and
GRID_FMT by the modes of the CONV entries that name it. [DEDUCED, log entry 100] -/
def windowClean (ops : List Nat) (j w : Nat) : Bool :=
  let users := ops.filter (fun e => opcOf e == 3 && bits e 27 24 == j)
  bits w 311 306 == 0 && bits w 319 317 == 0 && bytesOf w 48 16 == 0 && decide (wOH w * wOW w ≤ 16777216)
  && users.all (fun e =>
      let mode := bits e 30 28
      (if mode ≤ 3 then windowFits w else true)
      && (if mode = 4 then wGridFmt w != 3 else true))

/-- Header fields (Table 3.2). -/
def hVersion (h : Nat) : Nat := bytesOf h 0 2
def hNops (h : Nat) : Nat := bytesOf h 2 2
def hNslices (h : Nat) : Nat := bytesOf h 4 2
def hNwin (h : Nat) : Nat := bytesOf h 6 1
def hNtab (h : Nat) : Nat := bytesOf h 7 1
def hOpsOff (h : Nat) : Nat := bytesOf h 8 4
def hWinOff (h : Nat) : Nat := bytesOf h 12 4
def hTabOff (h : Nat) : Nat := bytesOf h 16 4
def hArgsOff (h : Nat) : Nat := bytesOf h 20 4
def hSaveBytes (h : Nat) : Nat := bytesOf h 24 4

/-- The header checks of R58, which come before the sections are read; R58 lists none for the reserved bytes 28–63 or
for the alignment of the sections. [DEDUCED, log entry 100] -/
def headerClean (h : Nat) : Bool :=
  hVersion h == 1 && decide (1 ≤ hNops h ∧ hNops h ≤ 1024) && decide (1 ≤ hNslices h ∧ hNslices h ≤ 4096)
  && decide (hNwin h ≤ 16) && decide (hNtab h ≤ 8)

/-- SAVE_BYTES of Table 3.2: a multiple of 64, at least 256 + the largest LIVE_LEN. -/
def saveClean (h : Nat) (ops : List Nat) : Bool :=
  let big := (ops.filter (fun e => opcOf e == 7)).foldl (fun m e => max m (liveLen e)) 0
  hSaveBytes h % 64 == 0 && decide (256 + big ≤ hSaveBytes h)

/-- The image checks of R58. -/
def imageClean (im : Image) : Bool :=
  headerClean im.hdr && im.ops.all entryClean && loopsClean (im.ops.mapIdx (fun i e => (i, e)))
  && im.ops.all leapClean && im.tabs.all tabClean && saveClean im.hdr im.ops
  && (im.wins.mapIdx (fun j w => windowClean im.ops j w)).all id

/-! ## Loading an image -/

/-- Cut a list of bytes into little-endian numbers of `n` bytes. -/
def chunksNat (n : Nat) : Nat → List Byte → List Nat
  | 0, _ => []
  | k + 1, bs => leNat (bs.take n) :: chunksNat n k (bs.drop n)

/-- Read a section for a tile; an empty section reads nothing. -/
def State.section (s : State) (c a n : Nat) : Got := if n = 0 then .ok [] else s.engRead c a n

/-- What loading an image gives: the image, or the status and address of a fault. -/
inductive Loaded where
  | ok (im : Image)
  | bad (st addr : Nat)
  deriving DecidableEq, Repr

/-- Read and check the image at `addr` for context `c` and job tag `tag` (R57, R58). -/
def State.loadImage (s : State) (c addr tag : Nat) : Loaded :=
  match s.engRead c addr 64 with
  | .err e => .bad e.status e.addr
  | .ok hb =>
    let h := leNat hb
    if !headerClean h then .bad stMALFORMED 0
    else
      match s.section c (addr + hOpsOff h) (32 * hNops h) with
      | .err e => .bad e.status e.addr
      | .ok ob =>
        match s.section c (addr + hWinOff h) (64 * hNwin h) with
        | .err e => .bad e.status e.addr
        | .ok wb =>
          match s.section c (addr + hTabOff h) (1024 * hNtab h) with
          | .err e => .bad e.status e.addr
          | .ok tb =>
            let im : Image :=
              { addr := addr, ctx := c, tag := tag, hdr := h
                ops := chunksNat 32 (hNops h) ob
                wins := chunksNat 64 (hNwin h) wb
                tabs := chunksNat 1024 (hNtab h) tb }
            if imageClean im then .ok im else .bad stMALFORMED 0

/-- Tag of the job a KERNEL belongs to, 0 where it belongs to none (R57). -/
def State.kernelTag (s : State) (c n : Nat) : Nat := ((s.desc c n).map (s.jobTagOf c)).getD 0

/-- The tile already holds the image of a KERNEL: the same address within the same job (R57). -/
def State.holdsImage (s : State) (t : Nat) (k : Kernel) : Bool :=
  match (s.tile t).image with
  | some im => im.addr == k.image && im.ctx == k.ctx && im.tag == s.kernelTag k.ctx k.num && s.kernelTag k.ctx k.num != 0
  | none => false

/-! ## Sequencer state -/

/-- The next entry to issue, with its ENTRY mirror (Table 3.18). -/
def State.setEntry (s : State) (t i : Nat) : State :=
  (s.modTile t (fun x => { x with entry := i })).wf (rTILE_STATUS t) fTILE_STATUS_ENTRY i

def State.undrained (s : State) (t : Nat) : Bool := s.flag (rTILE_STATUS t) fTILE_STATUS_UNDRAINED
def State.setUndrained (s : State) (t : Nat) (b : Bool) : State :=
  s.wf (rTILE_STATUS t) fTILE_STATUS_UNDRAINED (bit b)

/-- The entry a running tile issues next. -/
def State.nextEntry (s : State) (t : Nat) : Option Nat :=
  if s.tileState t = tsRUN then
    match (s.tile t).image with
    | some im => im.ops[(s.tile t).entry]?
    | none => none
  else none

/-- The gap between leap points closes (R79, Table 3.20). -/
def State.gapClose (s : State) (t : Nat) : State :=
  let now := s.dieTime (t / 32)
  let gap := now - (s.tile t).gapFrom
  let s1 := s.wf (rTILE_LEAP_STAT t) fTILE_LEAP_STAT_MAX_GAP_NS
    (max (s.rf (rTILE_LEAP_STAT t) fTILE_LEAP_STAT_MAX_GAP_NS) (min gap 0xFFFFFFFF))
  let s2 := if s.rf (rTILE_LEAP_CFG t) fTILE_LEAP_CFG_GAP_LIMIT_NS < gap
    then s1.bump (rTILE_LEAP_STAT t) fTILE_LEAP_STAT_GAP_CNT 1 else s1
  s2.modTile t (fun x => { x with gapFrom := now })

/-! ## Tile SRAM with valid bits and ECC (R53, R54) -/

def State.sramRead (s : State) (t off n : Nat) : List Byte := s.mem.read (sramBase t + off) n
def State.sramNat (s : State) (t off n : Nat) : Nat := leNat (s.sramRead t off n)
def State.sramWrite (s : State) (t off : Nat) (bs : List Byte) : State := s.memWrite (sramBase t + off) bs

/-- A read or a partial write meets a double-bit error. -/
def State.sramBad (s : State) (t : Nat) (rd wr : List Span) : Bool :=
  !(s.mem.metWords s.mem.badWords t rd wr).isEmpty

/-- Single-bit errors that reads and partial writes meet are corrected and counted, each word once an entry (R53).
[DESIGN CHOICE, log entry 99] -/
def State.sramSoft (s : State) (t : Nat) (rd wr : List Span) : State :=
  let n := (s.mem.metWords s.mem.softWords t rd wr).length
  if n = 0 then s else s.bump (rTILE_ECC_CNT t) fTILE_ECC_CNT_CE_CNT n

/-- Clear the valid bit of every line outside a range: such lines read as zeros. -/
def State.keepLines (s : State) (t lo hi : Nat) : State :=
  s.modMem (fun m => (m.forget (sramBase t) lo).forget (sramBase t + hi) (sramBytes - hi))

/-! ## Issue (R62) -/

/-- The unit an entry uses. -/
def unitOf (e : Nat) : Option TUnit :=
  match opcOf e with
  | 0 | 1 => some .port
  | 2 => some .arrays
  | 3 => some (if bits e 30 28 = 0 then .arrays else .vector)
  | 4 => some .vector
  | 5 | 8 => some .post
  | _ => none

/-- Conditions 1, 5 and 6 of R62. -/
def Tile.unitReady (x : Tile) (e : Nat) : Bool :=
  decide (x.flight.length < 8) && (!syncOf e || x.flight.isEmpty)
  && (match unitOf e with
      | none => true
      | some .port => decide ((x.flight.filter (fun f => decide (f.unit = .port))).length < 2)
      | some u => !(x.flight.any (fun f => decide (f.unit = u))))

/-- What issuing an entry does: its spans, the ranges of tile SRAM it does read and write where these are not its whole
spans (R53, R90), and its effect, which may end with a fault that the entry's completion reports. -/
structure Go where
  rd  : List Span := []
  wr  : List Span := []
  rdx : Option (List Span) := none
  wrx : Option (List Span) := none
  mrd : List Span := []
  mwr : List Span := []
  eff : State → State × Option (Nat × Nat)

/-- A plan for an entry: the status of an issue check that fails, or what it does. -/
inductive Plan where
  | fault (st : Nat)
  | go (g : Go)

/-- Conditions 2 to 4 of R62. -/
def Tile.spansFree (x : Tile) (g : Go) : Bool :=
  x.flight.all (fun f =>
    !anyOverlap g.rd f.wr && !anyOverlap g.wr f.wr && !anyOverlap g.wr f.rd
    && !anyOverlap g.mrd f.mwr && !anyOverlap g.mwr f.mwr && !anyOverlap g.mwr f.mrd)

/-- The entry issues: it enters the scoreboard and the sequencer moves on. [DEDUCED, log entry 24] -/
def State.issue (s : State) (t e : Nat) (g : Go) (flt : Option (Nat × Nat)) : State :=
  let i := (s.tile t).entry
  let f : InFlight :=
    { idx := i, unit := (unitOf e).getD .post, opc := opcOf e, mark := markOf e, rd := g.rd, wr := g.wr
      mrd := g.mrd, mwr := g.mwr, fault := flt }
  (s.modTile t (fun x => { x with flight := x.flight ++ [f] })).setEntry t (i + 1)

/-- Issue the next entry of a tile when it is one of those `mine` picks and R62 lets it; an
issue check that fails faults the kernel (Table 3.5). -/
def State.runEntry (s : State) (t : Nat) (mine : Nat → Bool) (plan : Nat → Plan) : State :=
  match s.nextEntry t with
  | none => s
  | some e =>
    if !mine e || !(s.tile t).unitReady e then s
    else
      match plan e with
      | .fault st => s.tileFault t st 0
      | .go g =>
        if !(s.tile t).spansFree g then s
        else if s.sramBad t (g.rdx.getD g.rd) (g.wrx.getD g.wr) then
          (s.bump (rTILE_ECC_CNT t) fTILE_ECC_CNT_UE_CNT 1).tileFault t stDATA_POISON 0
        else
          let r := g.eff (s.sramSoft t (g.rdx.getD g.rd) (g.wrx.getD g.wr))
          r.1.issue t e g r.2

/-- Conversions are counted per tile (R43). -/
def State.countArith (s : State) (a : Addr) (sat nan : Nat) : State :=
  (s.bump a fTILE_ARITH_CNT_SAT_CNT sat).bump a fTILE_ARITH_CNT_NAN_CNT nan

/-! ## Entry completion, faults and slice end -/

/-- An entry with MARK = 1 has completed (Table 3.3). -/
def State.markDone (s : State) (t : Nat) (mark : Bool) (idx : Nat) : State :=
  if mark then s.traceEvent t evMARK { s.sliceCmd t 0 with aux := idx } else s

/-- The load-store port serves its entries in issue order; each other unit holds one (R62). -/
def Tile.mayEnd (x : Tile) (f : InFlight) : Bool :=
  f.unit != .port || (x.flight.find? (fun g => decide (g.unit = .port))).map (·.idx) == some f.idx

/-- Bits have flipped in a tile's SRAM. [DESIGN CHOICE, log entry 99] -/
def State.flipTile (s : State) (t : Nat) (l : List Flip) : State :=
  l.foldl (fun x f => x.modMem (fun m => m.flip (sramBase t / 8 + f.word) f.double)) s

/-- The first entry in flight with index `idx` completes; a fault its memory access met is reported by the tile. -/
def State.entryDone (s : State) (t idx : Nat) : State :=
  let x := s.tile t
  match x.flight.find? (fun f => f.idx == idx) with
  | none => s
  | some f =>
    if !x.mayEnd f then s
    else
      let s1 := s.modTile t (fun x => { x with flight := x.flight.eraseP (fun g => g.idx == idx) })
      match f.fault with
      | some (st, addr) => s1.tileFault t st addr
      | none => s1.markDone t f.mark idx

/-- ENTRY_COMPLETE (R62, R64): the oldest entry in flight with index `idx` completes; one that a LOOP has issued again
stays in flight. [DEDUCED, log entry 25] -/
def execEntryComplete (t : Nat) (fin : EntryEnd) (s : State) : Res State :=
  .next <|
    let s1 := s.flipTile t fin.flips
    if s.tileState t != tsRUN then s1 else s1.entryDone t fin.idx

/-- TILE_FAULT_CLEAR (R64, R180): a tile stopped by a fault or an abort returns to IDLE once
no other slice of its KERNEL is resident. The FAULT of a failed test stays (R362). -/
def execTileFaultClear (t : Nat) (s : State) : Res State :=
  .next <|
    if s.tileState t = tsFAULT ∧ s.testFault t = false
      ∧ (s.kernelTiles (s.tileCtx t) (s.tile t).knum).isEmpty then
      s.setTileState t tsIDLE
    else s

/-- A slice leaves its tile: its kernel holds one tile fewer. -/
def State.leaveTile (s : State) (t : Nat) : State :=
  (s.modKernel (s.tileCtx t) (s.tile t).knum (fun k => { k with held := k.held - 1 })).setTileState t tsIDLE

/-- A KERNEL completes OK when every slice has completed (R180). -/
def State.kernelDone (s : State) (c n : Nat) : State :=
  match s.kernel c n with
  | some k => if k.count ≤ k.done then (s.finish c n stOK (noEngine * 2 ^ 56)).dropKernel c n else s
  | none => s

/-- SLICE_COMPLETE (R63, R180, R198): every entry has issued and none is in flight. -/
def execSliceComplete (t : Nat) (s : State) : Res State :=
  let x := s.tile t
  let c := s.tileCtx t
  .next <|
    match x.image with
    | none => s
    | some im =>
      if s.tileState t = tsRUN ∧ im.ops.length ≤ x.entry ∧ x.flight = [] then
        let s1 := (s.gapClose t).traceEvent t evEND (s.sliceCmd t 0)
        let s2 := (s1.modKernel c x.knum (fun k => { k with done := k.done + 1 })).leaveTile t
        let s3 := (s2.modTile t (fun x => { x with owed := x.req.map (fun r => (r.ctx, r.num)), req := none })).raiseDone t
        s3.kernelDone c x.knum
      else s

/-! ## Images -/

/-- IMAGE_LOAD_COMPLETE (R57, R58): the stores are loaded and checked; the slice then runs,
or restores its saved state first. -/
def execImageLoadComplete (t : Nat) (s : State) : Res State :=
  let c := s.tileCtx t
  .next <|
    if s.tileState t != tsLOADING then s
    else
      match s.kernel c (s.tile t).knum with
      | none => s
      | some k =>
        match s.loadImage c k.image (s.kernelTag c k.num) with
        | .bad st addr => s.tileFault t st addr
        | .ok im =>
          let s1 := s.modTile t (fun x => { x with image := some im })
          let s2 := s1.moved t (64 + 32 * im.ops.length + 64 * im.wins.length + 1024 * im.tabs.length)
          s2.setTileState t (if (s.tile t).resuming then tsLEAP_RESTORE else tsRUN)

/-! ## LOOP (R78) -/

/-- Argument registers with an increment added where it is enabled, modulo 2^64. -/
def addArg (args : List Nat) (en : Bool) (k : Nat) (v : Int) : List Nat :=
  if en then modAt args k (fun a => wrap64 (a + v)) else args

/-- LOOP on the present counter value. -/
def loopStep (x : Tile) (e : Nat) : Tile × Nat :=
  let c := x.loops.getD (loopCtr e) 0
  let i0 := signedOf 64 (bytesOf e 16 8)
  let i1 := signedOf 64 (bytesOf e 24 8)
  let en0 := Nat.testBit e 72
  let en1 := Nat.testBit e 73
  let r0 := bits e 67 64
  let r1 := bits e 71 68
  if c + 1 < loopCount e then
    ({ x with
        loops := setAt x.loops (loopCtr e) (c + 1)
        args := addArg (addArg x.args en0 r0 i0) en1 r1 i1 }, loopTarget e)
  else
    ({ x with
        loops := setAt x.loops (loopCtr e) 0
        args := addArg (addArg x.args en0 r0 (-(c * i0))) en1 r1 (-(c * i1)) }, x.entry + 1)

/-- LOOP (R78) uses no unit. -/
def execLoop (t : Nat) (s : State) : Res State :=
  .next <|
    match s.nextEntry t with
    | none => s
    | some e =>
      if opcOf e != 6 || !(s.tile t).unitReady e then s
      else
        let r := loopStep (s.tile t) e
        ((s.modTile t (fun _ => r.1)).setEntry t r.2).markDone t (markOf e) (s.tile t).entry

/-! ## Leap points (R79) -/

/-- The live range of a LEAP: offset and length in tile SRAM. -/
def liveRange (x : Tile) (e : Nat) : Nat × Nat := (x.sramOp (liveBase e) (liveOff e), liveLen e)

def liveOk (r : Nat × Nat) : Bool := r.1 % 64 == 0 && r.2 % 64 == 0 && decide (r.1 + r.2 ≤ sramBytes)

/-- A LEAP samples a request (R184, R197): the slice is pre-empted, which is counted, its lost time runs from now on,
and the tile goes on to save `len` bytes from `off`. -/
def State.preempt (s : State) (t off len : Nat) : State :=
  let c := s.tileCtx t
  let l : Lost := { ctx := c, num := (s.tile t).knum, slice := s.tileSlice t, since := s.dieTime (t / 32) }
  let s1 := s.modTile t (fun x => { x with leapOff := off, leapLen := len, sampled := some l.since })
  let s2 := (s1.bump (rCD_SCHED_STAT (t / 32)) fCD_SCHED_STAT_PREEMPT_CNT 1).bump (rHUB_CTX_PRE_CNT c) fHUB_CTX_PRE_CNT_PRE_CNT 1
  (s2.modHub (fun h => { h with lost := h.lost ++ [l] })).setTileState t tsLEAP_SAVE

/-- LEAP (R79, R395): completes once every earlier entry has completed; with a request pending, or under HALT, the
tile goes on to save its state, otherwise to its next entry. -/
def execLeap (t : Nat) (s : State) : Res State :=
  let x := s.tile t
  .next <|
    match s.nextEntry t with
    | none => s
    | some e =>
      if opcOf e != 7 || !x.flight.isEmpty then s
      else if s.undrained t then s.tileFault t stMALFORMED 0
      else
        let r := liveRange x e
        if !liveOk r then s.tileFault t stMALFORMED 0
        else
          let s1 := (s.keepLines t r.1 (r.1 + r.2)).gapClose t
          let s2 := s1.setEntry t (x.entry + 1)
          let s3 := if x.req.isSome || s.halted then s2.preempt t r.1 r.2 else s2
          s3.markDone t (markOf e) x.entry

/-- The first 256 bytes of the saved state (Table 3.15). -/
def savedHead (x : Tile) : List Byte :=
  (x.args.flatMap (leBytes 8)) ++ (x.loops.flatMap (leBytes 4)) ++ leBytes 2 x.entry ++ leBytes 2 0
  ++ leBytes 4 x.sig ++ List.replicate 104 0

/-- LEAP_OUT (R79, R197): the saved state is in the save area, the slice is on its kernel's
resume list and the tile is free. -/
def execLeapOut (t : Nat) (s : State) : Res State :=
  let x := s.tile t
  let c := s.tileCtx t
  let sl := s.tileSlice t
  .next <|
    if s.tileState t != tsLEAP_SAVE then s
    else
      match s.kernel c x.knum with
      | none => s
      | some k =>
        let data := savedHead x ++ s.sramRead t x.leapOff x.leapLen
        let live : Span := { lo := x.leapOff, hi := x.leapOff + x.leapLen }
        if s.sramBad t [live] [] then (s.bump (rTILE_ECC_CNT t) fTILE_ECC_CNT_UE_CNT 1).tileFault t stDATA_POISON 0
        else match (s.sramSoft t [live] []).engWrite c (k.save + sl * k.saveBytes) data with
        | (s1, some e) => s1.tileFault t e.status e.addr
        | (s1, none) =>
          let s2 := (s1.moved t data.length).traceEvent t evLEAP_OUT (s.sliceCmd t 0)
          let s3 := s2.modKernel c x.knum (fun k => { k with resume := setIns k.resume sl })
          let s4 := s3.modTile t (fun x => { x with owed := x.req.map (fun r => (r.ctx, r.num)), req := none, sampled := none })
          s4.leaveTile t

/-- Registers of a saved state. -/
def restoreHead (x : Tile) (h : Nat) : Tile :=
  { x with
    args := chunksNat 8 16 (leBytes 128 h)
    loops := chunksNat 4 4 (leBytes 16 (bytesOf h 128 16))
    entry := bytesOf h 144 2
    sig := bytesOf h 148 4 }

/-- The entry before the restored index is a LEAP of the list, and the reserved bytes are 0. -/
def restoreOk (im : Image) (h : Nat) : Bool :=
  bytesOf h 146 2 == 0 && bytesOf h 152 104 == 0
  && decide (1 ≤ bytesOf h 144 2)
  && (match im.ops[bytesOf h 144 2 - 1]? with
      | some e => opcOf e == 7
      | none => false)

/-- LEAP_IN (R79, R197): a resumed slice's state is restored and it runs on with the entry
after its LEAP. A restored A[LBASE] that puts the live range out of place faults MALFORMED. [DESIGN CHOICE, log entry 115] -/
def execLeapIn (t : Nat) (s : State) : Res State :=
  let x := s.tile t
  let c := s.tileCtx t
  let sl := s.tileSlice t
  .next <|
    if s.tileState t != tsLEAP_RESTORE then s
    else
      match s.kernel c x.knum, x.image with
      | some k, some im =>
        let base := k.save + sl * k.saveBytes
        match s.engRead c base 256 with
        | .err e => s.tileFault t e.status e.addr
        | .ok hb =>
          let h := leNat hb
          if !restoreOk im h then s.tileFault t stMALFORMED 0
          else
            let x1 := restoreHead x h
            let e := im.ops.getD (x1.entry - 1) 0
            let r := liveRange x1 e
            if !liveOk r then s.tileFault t stMALFORMED 0
            else
              match s.section c (base + 256) r.2 with
              | .err er => s.tileFault t er.status er.addr
              | .ok live =>
                let now := s.dieTime (t / 32)
                let lostT := match s.hub.lost.find? (fun l => l.ctx == c && l.num == x.knum && l.slice == sl) with
                  | some l => now - l.since
                  | none => 0
                let s1 := (s.modTile t (fun _ => { x1 with resuming := false, gapFrom := now })).setEntry t x1.entry
                let s2 := (s1.sramWrite t r.1 live).wrapAdd (rHUB_CTX_LOST_SUM c) fHUB_CTX_LOST_SUM_LOST_SUM_NS lostT
                let s3 := s2.modHub (fun hb => { hb with lost := hb.lost.filter (fun l => !(l.ctx == c && l.num == x.knum && l.slice == sl)) })
                ((s3.traceEvent t evLEAP_IN (s.sliceCmd t 0)).moved t (256 + r.2)).setTileState t tsRUN
      | _, _ => s

end Sys2Proof.Machine
end

