-- ==== Sys2Proof/Machine/Layout.lean ====
section
/-!
DEFINITION. Tensor layouts (R81–R85): where an element lies in tile SRAM and in memory,
packing of elements (R30), and the pitches and spans of each form.
-/
namespace Sys2Proof.Machine

/-- Bytes of `n` packed elements of `e` bits. -/
def packedBytes (e n : Nat) : Nat := ceilDiv (n * e) 8

/-- Element `i` of a packed row of `e`-bit elements, read byte by byte through `rd` (R30). -/
def elemAt (rd : Nat → Byte) (e i : Nat) : Nat :=
  if e = 4 then ((rd (i / 2)).toNat / (if i % 2 = 0 then 1 else 16)) % 16
  else leNat ((List.range (e / 8)).map (fun j => rd (i * (e / 8) + j)))

/-- Pack elements of `e` bits; an odd last nibble leaves its high half 0 (R30). -/
def packElems (e : Nat) : List Nat → List Byte
  | [] => []
  | [a] => if e = 4 then [BitVec.ofNat 8 (a % 16)] else leBytes (e / 8) a
  | a :: b :: r =>
    if e = 4 then BitVec.ofNat 8 (a % 16 + b % 16 * 16) :: packElems e r
    else leBytes (e / 8) a ++ (leBytes (e / 8) b ++ packElems e r)

/-- Distance between planes: PITCH in 64-byte units, or packed (R60, R81). [DEDUCED, log entry 28] -/
def planePitch (pitch planeBytes : Nat) : Nat := if pitch = 0 then up64 planeBytes else pitch * 64

/-- Element `i` of a plane of tile `t` that starts at SRAM offset `off`. -/
def State.sramElem (s : State) (t off e i : Nat) : Nat :=
  elemAt (fun j => s.mem.byte (sramBase t + off + j)) e i

def State.sramVal (s : State) (t off : Nat) (f : Fmt) (i : Nat) : FVal := elemVal f (s.sramElem t off f.bits i)

/-- The span of a planar operand: `n` planes of `used` elements at a pitch, and the scale
planes of a block-scaled format behind them, each one byte a position (R81). -/
def planarSpan (off pitch n : Nat) (f : Fmt) (used positions : Nat) : Span :=
  let last := off + (n - 1) * pitch + packedBytes f.bits used
  if f.scaled then
    { lo := off, hi := off + n * pitch + (ceilDiv n 32 - 1) * up64 positions + used }
  else { lo := off, hi := last }

def spanOf (off len : Nat) : Span := { lo := off, hi := off + len }

/-- The byte ranges of `n` planes of `bytes` bytes at a pitch. -/
def planeRanges (off pitch n bytes : Nat) : List Span := (List.range n).map (fun c => spanOf (off + c * pitch) bytes)

/-- The bytes of a planar operand that are read or written: `used` elements of each plane, and of each scale plane of a
block-scaled format (R81). -/
def planarRanges (off pitch n : Nat) (f : Fmt) (used positions : Nat) : List Span :=
  planeRanges off pitch n (packedBytes f.bits used)
  ++ (if f.scaled then planeRanges (off + n * pitch) (up64 positions) (ceilDiv n 32) used else [])

/-- The bytes of element `i` of a plane at `off`. -/
def elemRange (off e i : Nat) : Span := if e = 4 then spanOf (off + i / 2) 1 else spanOf (off + i * (e / 8)) (e / 8)

/-- Rounded out to the end of its last 64-byte line (R65). -/
def Span.lineEnd (sp : Span) : Span := { sp with hi := up64 sp.hi }

/-- Offset of the scale byte of position `i` for element plane `k` (R81). -/
def scaleOff (off pitch n positions k i : Nat) : Nat := off + n * pitch + k / 32 * up64 positions + i

/-! ## Memory side (R82–R84) -/

/-- The memory form of a LOAD or STORE. -/
structure MemForm where
  layout : Nat
  fmt    : Fmt
  base   : Nat
  c      : Nat
  h      : Nat
  w      : Nat
  rp     : Nat
  pp     : Nat
  deriving DecidableEq, Repr

/-- Channels in a block: 16 or 32; 1 for planar. -/
def MemForm.group (m : MemForm) : Nat := if m.layout = 1 then 16 else if m.layout = 2 then 32 else 1

/-- Planes or channel blocks. -/
def MemForm.blocks (m : MemForm) : Nat := ceilDiv m.c m.group

/-- Bytes of one row of one plane or block. -/
def MemForm.rowBytes (m : MemForm) : Nat := packedBytes m.fmt.bits (m.w * m.group)

/-- Address of a row of a plane or block (R82). With H = 1 the ROW_PITCH is not used. -/
def MemForm.rowAddr (m : MemForm) (b y : Nat) : Nat := m.base + b * m.pp + (if m.h = 1 then 0 else y * m.rp)

/-- First scale plane and the distance between scale planes (R84). -/
def MemForm.scaleAddr (m : MemForm) (j : Nat) : Nat := m.base + m.blocks * m.pp + j * up64 (m.h * m.w)

def MemForm.scalePlanes (m : MemForm) : Nat := if m.fmt.scaled then ceilDiv m.c 32 else 0

/-- Bytes of a byte string (R82). -/
def MemForm.stringBytes (m : MemForm) : Nat := packedBytes m.fmt.bits (m.c * m.h * m.w)

/-- The address ranges the form touches, as (address, length). -/
def MemForm.ranges (m : MemForm) : List (Nat × Nat) :=
  if m.layout = 3 then [(m.base, m.stringBytes)]
  else
    (List.range m.blocks).flatMap (fun b => (List.range m.h).map (fun y => (m.rowAddr b y, m.rowBytes)))
    ++ (List.range m.scalePlanes).map (fun j => (m.scaleAddr j, m.h * m.w))

/-- The memory span: lowest to highest byte (R62). -/
def MemForm.span (m : MemForm) : Span :=
  m.ranges.foldl (fun sp r => { lo := min sp.lo r.1, hi := max sp.hi (r.1 + r.2) }) { lo := m.base, hi := m.base }

/-- Legal layout and format pair (Table 4.2). -/
def layoutLegal (layout : Nat) (mf sf : Fmt) : Bool :=
  match layout with
  | 0 => true
  | 1 => (decide (mf.bits = 8) || decide (mf.bits = 4))
  | 2 => decide (mf.bits = 16)
  | _ => decide (mf = sf)

/-- Formats LOAD and STORE convert between (R85). -/
def convertLegal (mf sf : Fmt) : Bool := decide (mf = sf) || (!mf.scaled && !sf.scaled)

/-- Pitch and alignment rules of Table 4.2. -/
def MemForm.pitchOk (m : MemForm) : Bool :=
  if m.layout = 3 then true
  else
    let align := if m.layout = 0 then max 1 (m.fmt.bits / 8) else m.group * m.fmt.bits / 8
    m.base % align == 0
    && (m.h == 1 || (decide (m.rowBytes ≤ m.rp) && m.rp % align == 0))
    && (decide (m.blocks ≤ 1)
        || (m.pp % align == 0 && decide ((if m.h = 1 then m.rowBytes else m.h * m.rp) ≤ m.pp)))

/-- Element (c, y, x) in memory: the row that holds it and its index in the row (R82). -/
def MemForm.place (m : MemForm) (c y x : Nat) : Nat × Nat :=
  (m.rowAddr (c / m.group) y, if m.group = 1 then x else x * m.group + c % m.group)

end Sys2Proof.Machine
end

