-- ==== Sys2Proof/Machine/TileArray.lean ====
section
/-!
DEFINITION. LOAD and STORE (R61, R81–R85), MATMUL and CONV mode 0 on the arrays (R65–R68,
R88–R91, R100), and SIG (R80).
-/
namespace Sys2Proof.Machine

/-! ## LOAD and STORE -/

/-- DMA engine that serves tile `t`'s load-store port (Table 3.1). -/
def portDma (t : Nat) : Nat := 8 * (t / 32) + t % 32 / 4

/-- The memory form of a LOAD or STORE entry; `none` for a format code 0xF (R26). -/
def memForm (x : Tile) (e : Nat) : Option (MemForm × Fmt) :=
  match fmtOfCode (ef e 4 3 0), fmtOfCode (ef e 4 7 4) with
  | some mf, some sf =>
    some ({ layout := ef e 2 3 0, fmt := mf, base := x.memOp (ef e 1 3 0) (s32Of e 8)
            c := bytesOf e 16 2, h := bytesOf e 18 2, w := bytesOf e 20 2
            rp := bytesOf e 24 4, pp := bytesOf e 28 4 }, sf)
  | _, _ => none

/-- The SRAM side of a LOAD or STORE: offset, plane pitch, span, and the bytes of its planes. -/
structure SramForm where
  off   : Nat
  pitch : Nat
  span  : Span
  bytes : List Span
  deriving DecidableEq, Repr

def sramForm (x : Tile) (e : Nat) (m : MemForm) (sf : Fmt) : SramForm :=
  let off := x.sramOp (ef e 1 7 4) (bits e 116 96)
  if m.layout = 3 then { off := off, pitch := 0, span := spanOf off m.stringBytes, bytes := [spanOf off m.stringBytes] }
  else
    let pitch := planePitch (bits e 127 117) (packedBytes sf.bits (m.h * m.w))
    { off := off, pitch := pitch, span := planarSpan off pitch m.c sf (m.h * m.w) (m.h * m.w)
      bytes := planarRanges off pitch m.c sf (m.h * m.w) (m.h * m.w) }

/-- Issue checks of LOAD and STORE (R59, R60, R83, R85): `none` when all pass. [DEDUCED, log entry 24] -/
def lsCheck (m : MemForm) (sf : Fmt) (sr : SramForm) : Option Nat :=
  if 3 < m.layout ∨ m.c = 0 ∨ m.h = 0 ∨ m.w = 0 then some stMALFORMED
  else if !layoutLegal m.layout m.fmt sf || !convertLegal m.fmt sf then some stUNSUPPORTED
  else if !m.pitchOk || !inSram sr.span then some stMALFORMED
  else none

/-- The first failing line of a list of ranges. -/
def State.rangesErr (s : State) (c : Nat) (w : Want) (rs : List (Nat × Nat)) : Option AccErr :=
  rs.findSome? (fun r => s.engineErr c w r.1 r.2)

def State.rangesPoison (s : State) (rs : List (Nat × Nat)) : Bool := rs.any (fun r => s.mem.poisoned r.1 r.2)

/-- One element of a memory tensor. -/
def State.memElem (s : State) (m : MemForm) (c y x : Nat) : Nat :=
  let p := m.place c y x
  elemAt (fun j => s.anyByte (p.1 + j)) m.fmt.bits p.2

/-- Convert an element between two formats, or move it unchanged (R85). -/
def moveElem (src dst : Fmt) (ovf : Bool) (w : Nat) : Conv :=
  if src = dst then { bits := w } else convertVal dst ovf (elemVal src w)

def sumSat (cs : List Conv) : Nat := (cs.map (·.sat)).sum
def sumNan (cs : List Conv) : Nat := (cs.map (·.nan)).sum

/-- Conversions of a DMA engine are counted in its own register (R43). -/
def State.countDma (s : State) (d sat nan : Nat) : State :=
  (s.bump (rDE_ARITH_CNT d) fDE_ARITH_CNT_SAT_CNT sat).bump (rDE_ARITH_CNT d) fDE_ARITH_CNT_NAN_CNT nan

/-- Plane `c` of a LOAD, converted. -/
def State.loadPlane (s : State) (m : MemForm) (sf : Fmt) (ovf : Bool) (c : Nat) : List Conv :=
  (List.range (m.h * m.w)).map (fun i => moveElem m.fmt sf ovf (s.memElem m c (i / m.w) (i % m.w)))

/-- The copy of a LOAD once its access has passed. -/
def State.loadData (s : State) (t : Nat) (m : MemForm) (sf : Fmt) (ovf : Bool) (sr : SramForm) : State :=
  if m.layout = 3 then s.sramWrite t sr.off (s.anyRead m.base m.stringBytes)
  else
    let s1 := (List.range m.c).foldl (fun x c =>
      let cs := s.loadPlane m sf ovf c
      (x.sramWrite t (sr.off + c * sr.pitch) (packElems sf.bits (cs.map (·.bits)))).countDma (portDma t) (sumSat cs) (sumNan cs)) s
    (List.range m.scalePlanes).foldl (fun x j =>
      x.sramWrite t (sr.off + m.c * sr.pitch + j * up64 (m.h * m.w)) (s.anyRead (m.scaleAddr j) (m.h * m.w))) s1

/-- The effect of a LOAD: a fault of its access is reported when it completes (R64). [DEDUCED, log entry 25] -/
def State.loadEff (t : Nat) (m : MemForm) (sf : Fmt) (ovf : Bool) (sr : SramForm) (s : State) :
    State × Option (Nat × Nat) :=
  match s.rangesErr (s.tileCtx t) .rd m.ranges with
  | some e => (s, some (e.status, e.addr))
  | none =>
    if s.rangesPoison m.ranges then (s, some (stDATA_POISON, m.base))
    else (((s.loadData t m sf ovf sr).moved t (m.ranges.map (·.2)).sum), none)

/-- LOAD (R61). -/
def execLoad (t : Nat) (s : State) : Res State :=
  .next <| s.runEntry t (fun e => opcOf e == 0) (fun e =>
    match memForm (s.tile t) e with
    | none => .fault stMALFORMED
    | some (m, sf) =>
      let sr := sramForm (s.tile t) e m sf
      match lsCheck m sf sr with
      | some st => .fault st
      | none => .go { wr := [sr.span], wrx := some sr.bytes, mrd := [m.span], eff := State.loadEff t m sf (Nat.testBit e 40) sr })

/-- One row of one plane or block of a STORE: padding channels are written as 0 (R82). -/
def State.storeRow (s : State) (t : Nat) (m : MemForm) (sf : Fmt) (ovf : Bool) (sr : SramForm) (b y : Nat) : List Conv :=
  (List.range (m.w * m.group)).map (fun j =>
    let x := j / m.group
    let c := b * m.group + j % m.group
    if c < m.c then moveElem sf m.fmt ovf (s.sramElem t (sr.off + c * sr.pitch) sf.bits (y * m.w + x))
    else { bits := 0 })

/-- The rows a STORE writes, as (address, bytes, conversions). -/
def State.storeRows (s : State) (t : Nat) (m : MemForm) (sf : Fmt) (ovf : Bool) (sr : SramForm) :
    List (Nat × List Byte × List Conv) :=
  if m.layout = 3 then [(m.base, s.sramRead t sr.off m.stringBytes, [])]
  else
    (List.range m.blocks).flatMap (fun b => (List.range m.h).map (fun y =>
      let cs := s.storeRow t m sf ovf sr b y
      (m.rowAddr b y, packElems m.fmt.bits (cs.map (·.bits)), cs)))
    ++ (List.range m.scalePlanes).map (fun j =>
      (m.scaleAddr j, s.sramRead t (sr.off + m.c * sr.pitch + j * up64 (m.h * m.w)) (m.h * m.w), []))

/-- The effect of a STORE. [DEDUCED, log entry 25] -/
def State.storeEff (t : Nat) (m : MemForm) (sf : Fmt) (ovf : Bool) (sr : SramForm) (s : State) :
    State × Option (Nat × Nat) :=
  match s.rangesErr (s.tileCtx t) .wr m.ranges with
  | some e => (s, some (e.status, e.addr))
  | none =>
    let s1 := (s.storeRows t m sf ovf sr).foldl (fun x r =>
      (x.putBytes r.1 r.2.1).countDma (portDma t) (sumSat r.2.2) (sumNan r.2.2)) s
    (s1.moved t (m.ranges.map (·.2)).sum, none)

/-- STORE (R61). -/
def execStore (t : Nat) (s : State) : Res State :=
  .next <| s.runEntry t (fun e => opcOf e == 1) (fun e =>
    match memForm (s.tile t) e with
    | none => .fault stMALFORMED
    | some (m, sf) =>
      let sr := sramForm (s.tile t) e m sf
      match lsCheck m sf sr with
      | some st => .fault st
      | none => .go { rd := [sr.span], rdx := some sr.bytes, mwr := [m.span], eff := State.storeEff t m sf (Nat.testBit e 40) sr })

/-! ## Array operations -/

/-- M and N of a shape (Table 3.6). -/
def shapeMN : Nat → Option (Nat × Nat)
  | 0 => some (64, 64)
  | 1 => some (16, 256)
  | 2 => some (256, 16)
  | _ => none

/-- The accumulation an array entry adds to: its sizes, formats and operand values, with
the scale byte of a reduction step for a block-scaled operand. -/
structure ArrayJob where
  shape : Nat
  m     : Nat
  n     : Nat
  k     : Nat
  af    : Fmt
  bf    : Fmt
  aVal  : Nat → Nat → FVal
  bVal  : Nat → Nat → FVal
  aScale : Nat → Nat → Nat
  bScale : Nat → Nat → Nat

/-- Fields that MATMUL and CONV mode 0 share (Tables 3.7, 3.8). -/
structure ArrayForm where
  drain   : Bool
  startEn : Bool
  ovf     : Bool
  drn     : Fmt
  start   : Fmt
  coff    : Nat
  cpitch  : Nat
  soff    : Nat
  spitch  : Nat
  deriving DecidableEq, Repr

def arrayForm (x : Tile) (e M : Nat) (drn start : Fmt) : ArrayForm :=
  { drain := Nat.testBit e 51, startEn := Nat.testBit e 50, ovf := Nat.testBit e 52
    drn := drn, start := start
    coff := x.sramOp (ef e 2 3 0) (bits e 148 128)
    cpitch := planePitch (bits e 159 149) (packedBytes drn.bits M)
    soff := x.sramOp (ef e 2 7 4) (bits e 180 160)
    spitch := planePitch (bits e 191 181) (packedBytes start.bits M) }

/-- The bytes the start operand is read from, and those a drain writes. -/
def ArrayForm.sBytes (f : ArrayForm) (m n : Nat) : List Span :=
  if f.startEn then planarRanges f.soff f.spitch n f.start m m else []
def ArrayForm.cBytes (f : ArrayForm) (m n : Nat) : List Span :=
  if f.drain then planarRanges f.coff f.cpitch n f.drn m m else []

def ArrayForm.cSpan (f : ArrayForm) (m n : Nat) : Span := (planarSpan f.coff f.cpitch n f.drn m m).lineEnd
def ArrayForm.sSpan (f : ArrayForm) (m n : Nat) : Span := (planarSpan f.soff f.spitch n f.start m m).lineEnd

/-- Largest product count of the accumulation in progress. -/
def AccState.count : AccState → Nat
  | .exact _ _ _ cs => cs.foldl (fun m c => max m c.cnt) 0
  | _ => 0

/-- The accumulation in progress has the entry's shape, path and valid counts (Table 3.5). -/
def AccState.fits : AccState → Bool → Nat → Nat → Nat → Bool
  | .empty, _, _, _, _ => true
  | .exact sh m n _, ex, sh', m', n' => ex && sh == sh' && m == m' && n == n'
  | .ordered _ sh m n _, ex, sh', m', n' => !ex && sh == sh' && m == m' && n == n'

/-- Start format by path (R37, R41). -/
def startLegal (ex : Bool) (f : Fmt) : Bool :=
  if ex then decide (f = .int32) else decide (f = .fp32 ∨ f = .bf16 ∨ f = .fp16)

/-- Checks of Table 3.5 on an accumulation: `none` when all pass. [DEDUCED, log entry 24] -/
def arrayCheck (x : Tile) (und : Bool) (ex : Bool) (shape m n k : Nat) (f : ArrayForm) : Option Nat :=
  let cnt := if und then x.acc.count else 0
  if f.startEn && und then some stMALFORMED
  else if und && !x.acc.fits ex shape m n then some stMALFORMED
  else if ex && decide (maxProducts < cnt + k) then some stMALFORMED
  else if !ex && !f.drain && k % 32 != 0 then some stMALFORMED
  else none

/-- Formats of an array entry (R26, R27, R37, R41): `none` when all are allowed. -/
def arrayFmtCheck (af bf : Fmt) (f : ArrayForm) : Option Nat :=
  if !af.arrayOperand || !bf.arrayOperand || !pairLegal af bf then some stUNSUPPORTED
  else if f.startEn && !startLegal (exactPath af bf) f.start then some stUNSUPPORTED
  else if f.drain && !f.drn.drainOutput then some stUNSUPPORTED
  else none

/-- A used-only-under field is non-zero (R59): C without DRAIN, S without START_EN. [DEDUCED, log entry 27] -/
def unusedSet (e : Nat) (f : ArrayForm) : Bool :=
  (!f.drain && bits e 159 128 != 0) || (!f.startEn && bits e 191 160 != 0)

/-- One exact-path cell after the entry's products (R34–R37). -/
def exactCell (j : ArrayJob) (c : ExactAcc) (m n : Nat) : ExactAcc :=
  (List.range j.k).foldl (fun c k => c.add (j.aVal k m) (j.bVal k n)) c

/-- Group or block values of one ordered-path cell (R39, R40). -/
def orderedVals (j : ArrayJob) (m n : Nat) : List Nat :=
  (List.range (ceilDiv j.k 32)).map (fun g =>
    let ks := (List.range (min 32 (j.k - 32 * g))).map (fun i => 32 * g + i)
    let xs := ks.map (fun k => j.aVal k m)
    let ys := ks.map (fun k => j.bVal k n)
    if j.af.narrowGroup then
      scaledBlock (if j.af.scaled then j.aScale (32 * g) m else 0x7F)
        (if j.bf.scaled then j.bScale (32 * g) n else 0x7F) xs ys
    else group16 xs ys)

/-- The cells of a block, n-major. -/
def cellGrid {α : Type} (m n : Nat) (f : Nat → Nat → α) : List α :=
  (List.range n).flatMap (fun j => (List.range m).map (fun i => f i j))

/-- The start value of a cell as an exact accumulator or a binary32 number. -/
def State.startExact (s : State) (t : Nat) (f : ArrayForm) (m n : Nat) : ExactAcc :=
  { acc := signedOf 32 (s.sramElem t (f.soff + n * f.spitch) 32 m) * 2 ^ 32 }

def State.startOrdered (s : State) (t : Nat) (f : ArrayForm) (m n : Nat) : Nat :=
  r32 (s.sramVal t (f.soff + n * f.spitch) f.start m)

/-- The accumulators after an array entry (R65, R66). -/
def State.accumulate (s : State) (t : Nat) (und : Bool) (f : ArrayForm) (j : ArrayJob) : AccState :=
  if exactPath j.af j.bf then
    let old := fun (m n : Nat) =>
      if und then
        (match (s.tile t).acc with
         | .exact _ _ _ cs => cs.getD (n * j.m + m) {}
         | _ => {})
      else if f.startEn then s.startExact t f m n
      else {}
    .exact j.shape j.m j.n (cellGrid j.m j.n (fun m n => exactCell j (old m n) m n))
  else
    let old := fun (m n : Nat) =>
      if und then
        (match (s.tile t).acc with
         | .ordered _ _ _ _ cs => cs.getD (n * j.m + m) 0
         | _ => 0)
      else if f.startEn then s.startOrdered t f m n
      else 0
    .ordered (j.af.scaled || j.bf.scaled) j.shape j.m j.n
      (cellGrid j.m j.n (fun m n => orderedAcc (old m n) (orderedVals j m n)))

/-- The drained value of each cell (R38, R41). -/
def AccState.drainVals : AccState → List FVal
  | .empty => []
  | .exact _ _ _ cs => cs.map ExactAcc.value
  | .ordered _ _ _ _ cs => cs.map f32

/-- The drain writes N planes of M elements, converts and counts, and clears the
accumulators (R38, R43). -/
def State.drain (s : State) (t : Nat) (f : ArrayForm) (m n : Nat) (a : AccState) : State :=
  let cs := a.drainVals.map (convertVal f.drn f.ovf)
  let s1 := (List.range n).foldl (fun x j =>
    x.sramWrite t (f.coff + j * f.cpitch) (packElems f.drn.bits (((cs.drop (j * m)).take m).map (·.bits)))) s
  ((s1.countArith (rTILE_ARITH_CNT t) (sumSat cs) (sumNan cs)).modTile t (fun x => { x with acc := .empty })).setUndrained t false

/-- The effect of an array entry. -/
def State.arrayEff (t : Nat) (f : ArrayForm) (j : State → ArrayJob) (s : State) : State × Option (Nat × Nat) :=
  let a := s.accumulate t (s.undrained t) f (j s)
  if f.drain then (s.drain t f (j s).m (j s).n a, none)
  else ((s.modTile t (fun x => { x with acc := a })).setUndrained t true, none)

/-- The four formats of an array entry; `none` when a code is 0xF (R26). -/
def arrayFmts (e : Nat) : Option (Fmt × Fmt × Fmt × Fmt) :=
  match fmtOfCode (ef e 4 3 0), fmtOfCode (ef e 4 7 4), fmtOfCode (ef e 5 3 0), fmtOfCode (ef e 5 7 4) with
  | some a, some b, some d, some st => some (a, b, d, st)
  | _, _, _, _ => none

def aligned64 (a : Nat) : Bool := a % 64 == 0

/-- MATMUL's plan (R65, Table 3.5). [DEDUCED, log entry 24] -/
def matmulPlan (s : State) (t e : Nat) : Plan :=
  let x := s.tile t
  match arrayFmts e, shapeMN (ef e 6 1 0) with
  | some (af, bf, drn, st), some (M, N) =>
    let f := arrayForm x e M drn st
    let k := bits e 215 192
    let mv := bits e 232 224
    let nv := bits e 248 240
    let aoff := x.sramOp (ef e 1 3 0) (bits e 84 64)
    let boff := x.sramOp (ef e 1 7 4) (bits e 116 96)
    let ap := planePitch (bits e 95 85) (packedBytes af.bits M)
    let bp := planePitch (bits e 127 117) (packedBytes bf.bits N)
    let aSp := (planarSpan aoff ap k af mv M).lineEnd
    let bSp := (planarSpan boff bp k bf nv N).lineEnd
    if k = 0 ∨ mv = 0 ∨ M < mv ∨ nv = 0 ∨ N < nv then .fault stMALFORMED
    else if unusedSet e f then .fault stMALFORMED
    else if !(aligned64 aoff && aligned64 boff && inSram aSp && inSram bSp)
      || (f.drain && !(aligned64 f.coff && inSram (f.cSpan mv nv)))
      || (f.startEn && !(aligned64 f.soff && inSram (f.sSpan mv nv))) then .fault stMALFORMED
    else
      match arrayCheck x (s.undrained t) (exactPath af bf) (ef e 6 1 0) mv nv k f with
      | some c => .fault c
      | none =>
        match arrayFmtCheck af bf f with
        | some c => .fault c
        | none =>
            .go { rd := [aSp, bSp] ++ (if f.startEn then [f.sSpan mv nv] else [])
                  wr := if f.drain then [f.cSpan mv nv] else []
                  rdx := some (planarRanges aoff ap k af mv M ++ planarRanges boff bp k bf nv N ++ f.sBytes mv nv)
                  wrx := some (f.cBytes mv nv)
                  eff := State.arrayEff t f (fun s =>
                    { shape := ef e 6 1 0, m := mv, n := nv, k := k, af := af, bf := bf
                      aVal := fun k m => s.sramVal t (aoff + k * ap) af m
                      bVal := fun k n => s.sramVal t (boff + k * bp) bf n
                      aScale := fun i m => (s.mem.byte (sramBase t + scaleOff aoff ap k M i m)).toNat
                      bScale := fun i n => (s.mem.byte (sramBase t + scaleOff boff bp k N i n)).toNat }) }
  | _, _ => .fault stMALFORMED

/-- MATMUL (R65). -/
def execMatmul (t : Nat) (s : State) : Res State :=
  .next <| s.runEntry t (fun e => opcOf e == 2) (matmulPlan s t)

/-! ## SIG (R80) -/

/-- The 16-byte record of an emission. -/
def sigRecord (state slice idx : Nat) : List Byte :=
  leBytes 4 (Nat.xor state 0xFFFFFFFF) ++ leBytes 2 slice ++ leBytes 2 idx ++ List.replicate 8 0

/-- SIG's effect: clear, absorb, emit. [DEDUCED, log entry 25] -/
def State.sigEff (t e : Nat) (off addr : Nat) (s : State) : State × Option (Nat × Nat) :=
  let x := s.tile t
  let c0 := if Nat.testBit e 16 then 0xFFFFFFFF else x.sig
  let c1 := crc32cFeed c0 (s.sramRead t off (bits e 53 32))
  let s1 := s.modTile t (fun x => { x with sig := c1 })
  if Nat.testBit e 17 then
    match s1.engWrite (s.tileCtx t) addr (sigRecord c1 (s.tileSlice t) x.entry) with
    | (s2, some er) => (s2, some (er.status, er.addr))
    | (s2, none) => (s2.moved t 16, none)
  else (s1, none)

/-- SIG (R80). -/
def execSig (t : Nat) (s : State) : Res State :=
  let x := s.tile t
  .next <| s.runEntry t (fun e => opcOf e == 8) (fun e =>
    let off := x.sramOp (ef e 1 3 0) (bits e 84 64)
    let len := bits e 53 32
    let addr := x.memOp (ef e 1 7 4) (s32Of e 12)
    let sp : Span := { lo := off, hi := off + len }
    if 0x200000 < len ∨ (0 < len ∧ inSram sp = false) then .fault stMALFORMED
    else
      .go { rd := if len = 0 then [] else [sp]
            mwr := if Nat.testBit e 17 then [{ lo := addr, hi := addr + 16 }] else []
            eff := State.sigEff t e off addr })

end Sys2Proof.Machine
end

