-- ==== Sys2Proof/Machine/Conv.lean ====
section
/-!
DEFINITION. CONV in its five modes (R68, R86–R100): convolution on the arrays, pooling and
bilinear grid sampling on the vector unit.
-/
namespace Sys2Proof.Machine

/-! ## Geometry (R87, R88) -/

/-- The window rows and columns of a CONV, as numbers. -/
structure Win where
  w : Nat
  deriving DecidableEq, Repr

/-- The input element a virtual coordinate reads along one axis: `none` for padding or a
hole left by input dilation (R88). -/
def realCoord (v : Int) (ee ih : Nat) : Option Nat :=
  if 0 ≤ v ∧ v ≤ (ee * (ih - 1) : Nat) ∧ v % ee = 0 then some (v / ee).toNat else none

/-- The input element of output position `p` at tap (ky, kx). -/
def tapElem (w p ky kx : Nat) : Option Nat :=
  let oy := p / wOW w
  let ox := p % wOW w
  let vy : Int := oy * wSY w + ky * wDY w - wPT w
  let vx : Int := ox * wSX w + kx * wDX w - wPL w
  match realCoord vy (wEY w) (wIH w), realCoord vx (wEX w) (wIW w) with
  | some y, some x => some (y * wIW w + x)
  | _, _ => none

/-- Reduction steps a tap takes (R89). -/
def ciStep (ex : Bool) (ci : Nat) : Nat := if ex then ci else 32 * ceilDiv ci 32

/-- Window values within the ranges of Table 4.3 for the mode. -/
def windowRange (w mode : Nat) : Bool :=
  decide (1 ≤ wIH w) && decide (1 ≤ wIW w)
  && (if mode = 0 then decide (1 ≤ wCI w) else true)
  && (if mode ≤ 3 then decide (1 ≤ wKH w) && decide (1 ≤ wKW w) else true)
  && (if mode = 4 then decide (wORGY w ≤ 16777216 ∧ -16777216 ≤ wORGY w ∧ wORGX w ≤ 16777216 ∧ -16777216 ≤ wORGX w) else true)

/-- Fields of a CONV entry (Table 3.8). -/
structure ConvForm where
  mode : Nat
  w    : Nat
  xf   : Fmt
  wf   : Fmt
  drn  : Fmt
  st   : Fmt
  xoff : Nat
  xp   : Nat
  woff : Nat
  wp   : Nat
  p0   : Nat
  npos : Nat
  nco  : Nat
  deriving DecidableEq, Repr

/-- [DEDUCED, log entry 28] -/
def convForm (x : Tile) (e : Nat) (af bf drn st : Fmt) (w N : Nat) : ConvForm :=
  let mode := bits e 30 28
  { mode := mode, w := w, xf := af, wf := bf, drn := drn, st := st
    xoff := x.sramOp (ef e 1 3 0) (bits e 84 64)
    xp := planePitch (bits e 95 85) (packedBytes af.bits (wIH w * wIW w))
    woff := x.sramOp (ef e 1 7 4) (bits e 116 96)
    wp := planePitch (bits e 127 117)
      (if mode = 4 then (if wGridFmt w = 0 then 4 else 2) * bits e 232 224 else packedBytes bf.bits N)
    p0 := bits e 215 192, npos := bits e 232 224, nco := bits e 248 240 }

/-- The fill element (R88). -/
def ConvForm.fill (f : ConvForm) : Nat := wFILL f.w

/-- Checks that come first in Table 4.6, in its order. [DEDUCED, log entry 24] A descriptor value outside its range of
Table 4.3 is met here, at issue. [DESIGN CHOICE, log entry 115] -/
def convCheck1 (f : ConvForm) : Option Nat :=
  if 4 < f.mode then some stMALFORMED
  else if !windowRange f.w f.mode then some stMALFORMED
  else if wOH f.w * wOW f.w < f.p0 + f.npos then some stMALFORMED
  else none

/-! ## Mode 0 -/

/-- An input element of mode 0 at reduction step `k` for position `p`. -/
def State.convIn (s : State) (t : Nat) (f : ConvForm) (step k p : Nat) : FVal :=
  let tap := k / step
  let ci := k % step
  if wCI f.w ≤ ci then .fin false 0 0
  else
    match tapElem f.w p (tap / wKW f.w) (tap % wKW f.w) with
    | some i => s.sramVal t (f.xoff + ci * f.xp) f.xf i
    | none => elemVal f.xf f.fill

/-- The scale of a block of the input: 0x7F where the coordinate is not real (R91). -/
def State.convScale (s : State) (t : Nat) (f : ConvForm) (step k p : Nat) : Nat :=
  let tap := k / step
  match tapElem f.w p (tap / wKW f.w) (tap % wKW f.w) with
  | some i => (s.mem.byte (sramBase t + scaleOff f.xoff f.xp (wCI f.w) (wIH f.w * wIW f.w) (k % step) i)).toNat
  | none => 0x7F

/-- The input elements a CONV reads for its positions: those of the real coordinates of every tap (R88). -/
def ConvForm.taps (f : ConvForm) : List Nat :=
  ((List.range f.npos).flatMap (fun m => (List.range (wKH f.w)).flatMap (fun ky => (List.range (wKW f.w)).filterMap (fun kx =>
    tapElem f.w (f.p0 + m) ky kx)))).eraseDups

/-- The bytes of elements `is` of `n` input planes, with their scale bytes (R81). -/
def ConvForm.elems (f : ConvForm) (n : Nat) (is : List Nat) : List Span :=
  (List.range n).flatMap (fun c => is.map (fun i => elemRange (f.xoff + c * f.xp) f.xf.bits i))
  ++ (if f.xf.scaled then (List.range (ceilDiv n 32)).flatMap (fun j => is.map (fun i =>
        spanOf (scaleOff f.xoff f.xp n (wIH f.w * wIW f.w) (32 * j) i) 1)) else [])

/-- The bytes of the weight operand: the planes of padded steps are not read (R90). -/
def ConvForm.weights (f : ConvForm) (step k : Nat) : List Span :=
  ((List.range k).filter (fun i => decide (i % step < wCI f.w))).map (fun i => spanOf (f.woff + i * f.wp) (packedBytes f.wf.bits f.nco))
  ++ (if f.wf.scaled then planeRanges (f.woff + k * f.wp) (up64 f.nco) (ceilDiv k 32) f.nco else [])

/-- Plan of a mode-0 CONV (R88–R91, Table 4.6). -/
def conv0Plan (s : State) (t e : Nat) (f : ConvForm) (M N : Nat) : Plan :=
  let x := s.tile t
  let a := arrayForm x e M f.drn f.st
  let ex := exactPath f.xf f.wf
  let step := ciStep ex (wCI f.w)
  let k := wKH f.w * wKW f.w * step
  let xSp := planarSpan f.xoff f.xp (wCI f.w) f.xf (wIH f.w * wIW f.w) (wIH f.w * wIW f.w)
  let wSp := (planarSpan f.woff f.wp k f.wf f.nco f.nco).lineEnd
  let cSp := a.cSpan f.npos f.nco
  let sSp := a.sSpan f.npos f.nco
  let ins := [xSp, wSp] ++ (if a.startEn then [sSp] else [])
  if f.npos = 0 ∨ M < f.npos ∨ f.nco = 0 ∨ N < f.nco then .fault stMALFORMED
  else if 16777215 < k then .fault stMALFORMED
  else if unusedSet e a then .fault stMALFORMED
  else if !(aligned64 f.xoff && aligned64 f.woff && ins.all inSram)
    || (a.drain && !(aligned64 a.coff && inSram cSp)) || (a.startEn && !aligned64 a.soff) then .fault stMALFORMED
  else if a.drain && anyOverlap [cSp] ins then .fault stMALFORMED
  else if 2 ^ f.xf.bits ≤ f.fill then .fault stMALFORMED
  else
    match arrayCheck x (s.undrained t) ex (ef e 6 1 0) f.npos f.nco k a with
    | some c => .fault c
    | none =>
      match arrayFmtCheck f.xf f.wf a with
      | some c => .fault c
      | none =>
        .go { rd := ins, wr := if a.drain then [cSp] else []
              rdx := some (f.elems (wCI f.w) f.taps ++ f.weights step k ++ a.sBytes f.npos f.nco)
              wrx := some (a.cBytes f.npos f.nco)
              eff := State.arrayEff t a (fun s =>
                { shape := ef e 6 1 0, m := f.npos, n := f.nco, k := k, af := f.xf, bf := f.wf
                  aVal := fun k m => s.convIn t f step k (f.p0 + m)
                  bVal := fun k n => if wCI f.w ≤ k % step then .fin false 0 0 else s.sramVal t (f.woff + k * f.wp) f.wf n
                  aScale := fun i m => s.convScale t f step i (f.p0 + m)
                  bScale := fun i n => (s.mem.byte (sramBase t + scaleOff f.woff f.wp k f.nco i n)).toNat }) }

/-- The parts of a CONV entry all modes share: formats, shape and window. -/
def convStart (s : State) (t e : Nat) : Option (ConvForm × Nat × Nat) :=
  match arrayFmts e, shapeMN (ef e 6 1 0), (s.tile t).image with
  | some (af, bf, drn, st), some (M, N), some im =>
    match im.wins[bits e 27 24]? with
    | some w => some (convForm (s.tile t) e af bf drn st w N, M, N)
    | none => none
  | _, _, _ => none

def convPlan (s : State) (t e : Nat) (k : ConvForm → Nat → Nat → Plan) : Plan :=
  match convStart s t e with
  | none => .fault stMALFORMED
  | some (f, M, N) =>
    match convCheck1 f with
    | some c => .fault c
    | none => k f M N

def isConv (mode e : Nat) : Bool := opcOf e == 3 && bits e 30 28 == mode

/-- CONV mode 0 (R88). A reserved mode 5–7 faults here, since no other row takes it. -/
def execConvConvolution (t : Nat) (s : State) : Res State :=
  .next <| s.runEntry t (fun e => isConv 0 e || (opcOf e == 3 && decide (4 < bits e 30 28)))
    (fun e => convPlan s t e (conv0Plan s t e))

/-! ## Modes 1–4: what they share (R94, Table 4.6) -/

/-- Output plane pitch of modes 1–4. -/
def convOut (x : Tile) (e : Nat) (f : ConvForm) : Nat × Nat :=
  (x.sramOp (ef e 2 3 0) (bits e 148 128), planePitch (bits e 159 149) (packedBytes f.drn.bits f.npos))

/-- Checks of Table 4.6 for modes 1–4, which write C directly: DRAIN asks nothing of CPITCH and COFF. [DESIGN CHOICE, log entry 115] -/
def convVecCheck (x : Tile) (e : Nat) (f : ConvForm) (ins : List Span) (inOk : Bool) : Option Nat :=
  let o := convOut x e f
  let oSp := (planarSpan o.1 o.2 f.nco f.drn f.npos f.npos).lineEnd
  if ef e 6 1 0 != 0 || ef e 6 2 2 != 0 || ef e 5 7 4 != 0 || ef e 2 7 4 != 0 || bits e 191 160 != 0 then some stMALFORMED
  else if f.npos = 0 ∨ 64 < f.npos ∨ f.nco = 0 ∨ 64 < f.nco then some stMALFORMED
  else if decide (1 ≤ f.mode ∧ f.mode ≤ 3) && (ef e 1 7 4 != 0 || bits e 127 96 != 0) then some stMALFORMED
  else if !inOk || !ins.all inSram || !aligned64 o.1 || !inSram oSp then some stMALFORMED
  else if anyOverlap [oSp] ins then some stMALFORMED
  else if 2 ^ f.xf.bits ≤ f.fill then some stMALFORMED
  else if f.xf.scaled || f.drn.scaled then some stUNSUPPORTED
  else none

/-- Write one output plane of converted values. -/
def State.convPlane (s : State) (t off : Nat) (drn : Fmt) (cs : List Conv) : State :=
  (s.sramWrite t off (packElems drn.bits (cs.map (·.bits)))).countArith (rTILE_ARITH_CNT t) (sumSat cs) (sumNan cs)

/-- Plan of modes 1–4 from the bytes read and the value of each output element. [DEDUCED, log entry 26] -/
def convVecPlan (s : State) (t e : Nat) (f : ConvForm) (ins : List Span) (inOk : Bool) (rdx : List Span)
    (val : State → Nat → Nat → Conv) : Plan :=
  let x := s.tile t
  match convVecCheck x e f ins inOk with
  | some c => .fault c
  | none =>
    let o := convOut x e f
    .go { rd := ins, wr := [(planarSpan o.1 o.2 f.nco f.drn f.npos f.npos).lineEnd]
          rdx := some rdx, wrx := some (planeRanges o.1 o.2 f.nco (packedBytes f.drn.bits f.npos))
          eff := fun s =>
            ((List.range f.nco).foldl (fun x c =>
              x.convPlane t (o.1 + c * o.2) f.drn ((List.range f.npos).map (fun i => val s c (f.p0 + i)))) s, none) }

/-! ## Pooling (R94–R96) -/

/-- The taps of one output element in ascending ky, then kx: the counted ones. -/
def State.poolTaps (s : State) (t : Nat) (f : ConvForm) (c p : Nat) : List Nat :=
  ((List.range (wKH f.w)).flatMap (fun ky => (List.range (wKW f.w)).map (fun kx => (ky, kx)))).filterMap (fun q =>
    match tapElem f.w p q.1 q.2 with
    | some i => some (s.sramElem t (f.xoff + c * f.xp) f.xf.bits i)
    | none => if wPadMode f.w then none else some f.fill)

/-- The larger of two values by R70: the other one when one is NaN; +0 over −0. -/
def maxV (a b : FVal) : FVal :=
  if isNaNV a then b
  else if isNaNV b then a
  else if ltV a b then b
  else if ltV b a then a
  else match a with
    | .fin true 0 _ => b
    | _ => a

/-- The smaller of two values by R70: −0 over +0. -/
def minV (a b : FVal) : FVal :=
  if isNaNV a then b
  else if isNaNV b then a
  else if ltV b a then b
  else if ltV a b then a
  else match a with
    | .fin false 0 _ => b
    | _ => a

/-- Fold a non-empty list. -/
def foldVals (g : FVal → FVal → FVal) : List FVal → FVal
  | [] => .nan
  | a :: r => r.foldl g a

/-- An element as the vector unit widens it: to FP32, INT32 rounding to nearest even (R69). -/
def widen (f : Fmt) (w : Nat) : Nat := r32 (elemVal f w)

/-- An output whose window has no counted tap receives FILL converted (R95). -/
def poolOr (f : ConvForm) (ovf : Bool) (taps : List Nat) (k : List Nat → FVal) : Conv :=
  if taps.isEmpty then convertVal f.drn ovf (elemVal f.xf f.fill) else convertVal f.drn ovf (k taps)

/-- Average (R95): taps summed from +0 in tap order, divided once. -/
def poolAvg (f : ConvForm) (taps : List Nat) : FVal :=
  let sum := (taps.map (widen f.xf)).foldl f32Add 0
  let n := if wAvgDiv f.w then wKH f.w * wKW f.w else taps.length
  f32 (r32 (divV (f32 sum) (.fin false n 0)))

def poolPlan (s : State) (t e : Nat) (g : ConvForm → List Nat → FVal) : Plan :=
  convPlan s t e (fun f _ _ =>
    let xSp := planarSpan f.xoff f.xp f.nco f.xf (wIH f.w * wIW f.w) (wIH f.w * wIW f.w)
    convVecPlan s t e f [xSp] (aligned64 f.xoff) (f.elems f.nco f.taps) (fun s c p =>
      poolOr f (Nat.testBit e 52) (s.poolTaps t f c p) (g f)))

/-- CONV mode 1, max pooling (R95). -/
def execConvMaxPool (t : Nat) (s : State) : Res State :=
  .next <| s.runEntry t (isConv 1) (fun e => poolPlan s t e (fun f l => foldVals maxV (l.map (elemVal f.xf))))

/-- CONV mode 2, average pooling (R95). -/
def execConvAvgPool (t : Nat) (s : State) : Res State :=
  .next <| s.runEntry t (isConv 2) (fun e => poolPlan s t e poolAvg)

/-- CONV mode 3, min pooling (R95). -/
def execConvMinPool (t : Nat) (s : State) : Res State :=
  .next <| s.runEntry t (isConv 3) (fun e => poolPlan s t e (fun f l => foldVals minV (l.map (elemVal f.xf))))

/-! ## Grid sampling (R97, R98) -/

/-- Format of the grid planes. -/
def gridFmt (w : Nat) : Fmt := if wGridFmt w = 0 then .fp32 else if wGridFmt w = 1 then .bf16 else .fp16

/-- Steps 1 to 3 of R97 on one coordinate: widened, normalised, origin subtracted. -/
def gridCoord (w g len : Nat) (org : Int) : Nat :=
  let half := fun (n : Nat) => r32 (.fin false n (-1))
  let n :=
    if wNORM w then
      (if wALIGN w then f32Fma g (half (len - 1)) (half (len - 1)) else f32Fma g (half len) (half (len - 1)))
    else g
  f32Sub n (f32OfInt org)

/-- Clamp to [−2, hi] (R97 step 5). -/
def gridClamp (g hi : Nat) : FVal := minV (maxV (f32 g) (.fin true 2 0)) (.fin false hi 0)

/-- Floor of a finite value. -/
def floorV : FVal → Int
  | .fin neg m e => Int.fdiv (toScaled neg m e (min e 0)) (2 ^ (-(min e 0)).toNat)
  | _ => 0

/-- The element a tap reads: outside the plane none, or the clamped one (R98). -/
def gridTap (w : Nat) (y x : Int) : Option Nat :=
  let ih : Int := wIH w
  let iw : Int := wIW w
  if 0 ≤ y ∧ y < ih ∧ 0 ≤ x ∧ x < iw then some (y * iw + x).toNat
  else if wOOB w then some (max 0 (min y (ih - 1)) * iw + max 0 (min x (iw - 1))).toNat
  else none

/-- The value of a tap: FILL where it reads no element. -/
def State.gridElem (s : State) (t : Nat) (f : ConvForm) (c : Nat) (y x : Int) : Nat :=
  match gridTap f.w y x with
  | some i => widen f.xf (s.sramElem t (f.xoff + c * f.xp) f.xf.bits i)
  | none => widen f.xf f.fill

/-- Where a position samples the plane (R97): (y0, x0, fy, fx), or nothing for a coordinate that is not finite. -/
def State.gridPos (s : State) (t : Nat) (f : ConvForm) (p : Nat) : Option (Int × Int × Nat × Nat) :=
  let i := p - f.p0
  let gf := gridFmt f.w
  let gx := gridCoord f.w (widen gf (s.sramElem t f.woff gf.bits i)) (wIW f.w) (wORGX f.w)
  let gy := gridCoord f.w (widen gf (s.sramElem t (f.woff + f.wp) gf.bits i)) (wIH f.w) (wORGY f.w)
  if isSpecialV (f32 gx) || isSpecialV (f32 gy) then none
  else
    let cx := gridClamp gx (wIW f.w + 1)
    let cy := gridClamp gy (wIH f.w + 1)
    let x0 := floorV cx
    let y0 := floorV cy
    some (y0, x0, r32 (addV cy (ofScaled (-y0) 0)), r32 (addV cx (ofScaled (-x0) 0)))

/-- The input elements the taps of all positions read. -/
def State.gridTaps (s : State) (t : Nat) (f : ConvForm) : List Nat :=
  ((List.range f.npos).flatMap (fun m =>
    match s.gridPos t f (f.p0 + m) with
    | some (y, x, _, _) => [gridTap f.w y x, gridTap f.w y (x + 1), gridTap f.w (y + 1) x, gridTap f.w (y + 1) (x + 1)].filterMap id
    | none => [])).eraseDups

/-- One output element of grid sampling. -/
def State.gridVal (s : State) (t : Nat) (f : ConvForm) (ovf : Bool) (c p : Nat) : Conv :=
  match s.gridPos t f p with
  | none => convertVal f.drn ovf .nan
  | some (y0, x0, fy, fx) =>
    let v00 := s.gridElem t f c y0 x0
    let v01 := s.gridElem t f c y0 (x0 + 1)
    let v10 := s.gridElem t f c (y0 + 1) x0
    let v11 := s.gridElem t f c (y0 + 1) (x0 + 1)
    let t0 := f32Fma fx (f32Sub v01 v00) v00
    let t1 := f32Fma fx (f32Sub v11 v10) v10
    convertVal f.drn ovf (f32 (f32Fma fy (f32Sub t1 t0) t0))

/-- CONV mode 4 (R97, R98). -/
def execConvGridSample (t : Nat) (s : State) : Res State :=
  .next <| s.runEntry t (isConv 4) (fun e => convPlan s t e (fun f _ _ =>
    let xSp := planarSpan f.xoff f.xp f.nco f.xf (wIH f.w * wIW f.w) (wIH f.w * wIW f.w)
    let gf := gridFmt f.w
    let gSp := planarSpan f.woff f.wp 2 gf f.npos f.npos
    convVecPlan s t e f [xSp, gSp] (aligned64 f.xoff && aligned64 f.woff)
      (f.elems f.nco (s.gridTaps t f) ++ planeRanges f.woff f.wp 2 (packedBytes gf.bits f.npos)) (fun s c p =>
      s.gridVal t f (Nat.testBit e 52) c p)))

end Sys2Proof.Machine
end

