-- ==== Sys2Proof/Machine/Vect.lean ====
section
/-!
DEFINITION. VECT in its vector operations (R69–R74).
-/
namespace Sys2Proof.Machine

/-! ## The entry (Table 3.9) -/

def vopOf (e : Nat) : Nat := ef e 3 7 0

/-- The VOP codes Table 3.10 names. -/
def vopKnown (v : Nat) : Bool := decide (v ≤ 0x0E) || decide (0x10 ≤ v ∧ v ≤ 0x15)

/-- Integer formats of R69. -/
def Fmt.integer : Fmt → Bool
  | .int8 | .uint8 | .int4 | .int32 => true
  | _ => false

/-- Which operands an operation uses, and what it is. -/
structure VSpec where
  y     : Bool := false
  z     : Bool := false
  /-- Groups of GLEN elements. -/
  group : Bool := false
  /-- One result a group. -/
  reduce : Bool := false
  /-- Pairs at Y; pairs at D. -/
  pairY : Bool := false
  pairD : Bool := false
  /-- IMM is a selector or a constant: Y_IMM must be 0. -/
  noImm : Bool := false
  /-- Integer mode exists. -/
  int   : Bool := false
  conv  : Bool := false
  deriving DecidableEq, Repr

/-- Fields of a VECT entry, its formats decoded. -/
structure VForm where
  xf  : Fmt
  yf  : Fmt
  zf  : Fmt
  df  : Fmt
  yimm : Bool
  ovf : Bool
  xo  : Nat
  yo  : Nat
  dof : Nat
  zo  : Nat
  n   : Nat
  imm : Nat
  glen : Nat
  deriving DecidableEq, Repr

/-- The fields of an entry; `none` where a format code is 0xF (R26). [DEDUCED, log entry 27] -/
def vForm (x : Tile) (e : Nat) (v : VSpec) : Option VForm :=
  match fmtOfCode (ef e 4 3 0), fmtOfCode (ef e 4 7 4), fmtOfCode (ef e 5 7 4), fmtOfCode (ef e 5 3 0) with
  | some xf, some yf, some zf, some df =>
    some { xf := xf, yf := yf, zf := zf, df := df, yimm := Nat.testBit e 49, ovf := Nat.testBit e 48
           xo := x.sramOp (ef e 1 3 0) (bits e 84 64), yo := x.sramOp (ef e 1 7 4) (bits e 116 96)
           dof := x.sramOp (ef e 2 7 4) (bits e 148 128), zo := x.sramOp (ef e 2 3 0) (bits e 244 224)
           n := bits e 181 160, imm := bytesOf e 24 4, glen := if v.group then bits e 244 224 else 1 }
  | _, _, _, _ => none

def VForm.groups (f : VForm) : Nat := f.n / f.glen
def VForm.blocks (f : VForm) : Nat := ceilDiv f.n 32

/-- A CONVERT that touches scale bytes. -/
def VForm.blk (f : VForm) (v : VSpec) : Bool := v.conv && (f.xf.scaled || f.df.scaled)

/-- SRAM read spans. -/
def VForm.reads (f : VForm) (v : VSpec) : List Span :=
  [spanOf f.xo (packedBytes f.xf.bits f.n)]
  ++ (if v.pairY then [spanOf f.yo (8 * f.groups)]
      else if v.y && !f.yimm then [spanOf f.yo (packedBytes f.yf.bits f.n)] else [])
  ++ (if v.z then [spanOf f.zo (packedBytes f.zf.bits f.n)] else [])
  ++ (if v.conv && f.xf.scaled then [spanOf f.zo f.blocks] else [])

/-- SRAM write spans. -/
def VForm.writes (f : VForm) (v : VSpec) : List Span :=
  [spanOf f.dof (if v.pairD then 8 * f.groups else packedBytes f.df.bits (if v.reduce then f.groups else f.n))]
  ++ (if v.conv && f.df.scaled then [spanOf f.zo f.blocks] else [])

/-- Issue checks on numbers and settings (Table 3.5, R59, R69). [DEDUCED, log entry 24] -/
def vMalformed (e : Nat) (f : VForm) (v : VSpec) : Bool :=
  decide (f.n = 0 ∨ 2097152 < f.n)
  || (v.group && decide (f.glen = 0 ∨ 1048576 < f.glen ∨ f.n % f.glen ≠ 0))
  || (v.noImm && Nat.testBit e 49)

/-- Formats in a role R69, R72 or R73 does not allow. [DEDUCED, log entry 24] -/
def vUnsupported (f : VForm) (v : VSpec) : Bool :=
  (if v.conv then f.xf.scaled && f.df.scaled else f.xf.scaled || f.df.scaled)
  || (v.y && f.yf.scaled) || (v.z && f.zf.scaled)
  || (v.y && f.yimm && !f.yf.integer && f.yf != .fp32)
  || (v.pairY && f.yf != .fp32) || (v.pairD && f.df != .fp32)

/-- Integer mode (R69). -/
def VForm.intMode (f : VForm) (v : VSpec) : Bool :=
  v.int && f.xf.integer && (!v.y || f.yf.integer)

/-- An integer value as it stands; any other input as FP32. -/
def inVal (int : Bool) (f : Fmt) (w : Nat) : FVal := if int then elemVal f w else f32 (widen f w)

/-- The whole number a value of integer mode stands for, with no sign of zero. -/
def intNorm : FVal → FVal
  | .fin neg m e => ofScaled (toScaled neg m e 0) 0
  | v => v

/-- The rounding of a result: exact in integer mode, binary32 otherwise. -/
def vRound (int : Bool) (v : FVal) : FVal := if int then intNorm v else f32 (r32 v)

/-- Operand x of element `i`. -/
def State.vx (s : State) (t : Nat) (f : VForm) (int : Bool) (i : Nat) : FVal :=
  inVal int f.xf (s.sramElem t f.xo f.xf.bits i)

/-- Operand y of element `i`, or IMM in the kind of Y_FMT (R69). -/
def State.vy (s : State) (t : Nat) (f : VForm) (int : Bool) (i : Nat) : FVal :=
  if f.yimm then
    (if f.yf.integer then inVal int .int32 f.imm else f32 f.imm)
  else inVal int f.yf (s.sramElem t f.yo f.yf.bits i)

/-- Operand z: a number of FMA, or the selector of SELECT. -/
def State.vz (s : State) (t : Nat) (f : VForm) (i : Nat) : FVal :=
  f32 (widen f.zf (s.sramElem t f.zo f.zf.bits i))

/-- Write a list of values at an offset in the output format, counting (R42, R43). -/
def State.vOut (s : State) (t off : Nat) (df : Fmt) (ovf : Bool) (vs : List FVal) : State :=
  let cs := vs.map (convertVal df ovf)
  (s.sramWrite t off (packElems df.bits (cs.map (·.bits)))).countArith (rTILE_ARITH_CNT t) (sumSat cs) (sumNan cs)

/-- A VECT plan: what all operations share. [DEDUCED, log entry 26] -/
def vectPlan (s : State) (t e : Nat) (v : VSpec) (extra : VForm → Option Nat) (eff : VForm → State → State) : Plan :=
  match vForm (s.tile t) e v with
  | none => .fault stMALFORMED
  | some f =>
    if vMalformed e f v then .fault stMALFORMED
    else
      match extra f with
      | some c => .fault c
      | none =>
        if vUnsupported f v then .fault stUNSUPPORTED
        else if !(f.reads v ++ f.writes v).all inSram then .fault stMALFORMED
        else .go { rd := f.reads v, wr := f.writes v, eff := fun s => (eff f s, none) }

def isVop (c e : Nat) : Bool := opcOf e == 4 && vopOf e == c

/-- An elementwise operation from its value function. -/
def elemwise (s : State) (t e : Nat) (v : VSpec) (extra : VForm → Option Nat)
    (g : Bool → Nat → FVal → FVal → FVal → FVal) : Plan :=
  vectPlan s t e v extra (fun f s =>
    let m := f.intMode v
    s.vOut t f.dof f.df f.ovf ((List.range f.n).map (fun i =>
      g m f.imm (s.vx t f m i) (s.vy t f m i) (s.vz t f i))))

/-- [DEDUCED, log entry 27] -/
def noExtra (_ : VForm) : Option Nat := none

/-! ## Elementwise operations -/

/-- COPY. A reserved VOP faults here, since no other row takes it (Table 3.5). -/
def execVectCopy (t : Nat) (s : State) : Res State :=
  .next <| s.runEntry t (fun e => opcOf e == 4 && (vopOf e == 0 || !vopKnown (vopOf e))) (fun e =>
    if vopOf e = 0 then elemwise s t e { int := true } noExtra (fun _ _ x _ _ => x) else .fault stMALFORMED)

/-- ADD (R69). -/
def execVectAdd (t : Nat) (s : State) : Res State :=
  .next <| s.runEntry t (isVop 0x01) (fun e =>
    elemwise s t e { int := true, y := true } noExtra (fun m _ x y _ => vRound m (addV x y)))

/-- SUB (R69). -/
def execVectSub (t : Nat) (s : State) : Res State :=
  .next <| s.runEntry t (isVop 0x02) (fun e =>
    elemwise s t e { int := true, y := true } noExtra (fun m _ x y _ => vRound m (addV x (negV y))))

/-- MUL (R69). -/
def execVectMul (t : Nat) (s : State) : Res State :=
  .next <| s.runEntry t (isVop 0x03) (fun e =>
    elemwise s t e { int := true, y := true } noExtra (fun m _ x y _ => vRound m (mulV x y)))

/-- FMA: one rounding (Table 3.10); floating mode only (R69). -/
def execVectFma (t : Nat) (s : State) : Res State :=
  .next <| s.runEntry t (isVop 0x04) (fun e =>
    elemwise s t e { y := true, z := true } noExtra (fun _ _ x y z => f32 (r32 (addV (mulV x y) z))))

/-- MAX (R70). -/
def execVectMax (t : Nat) (s : State) : Res State :=
  .next <| s.runEntry t (isVop 0x05) (fun e =>
    elemwise s t e { int := true, y := true } noExtra (fun _ _ x y _ => maxV x y))

/-- MIN (R70). -/
def execVectMin (t : Nat) (s : State) : Res State :=
  .next <| s.runEntry t (isVop 0x06) (fun e =>
    elemwise s t e { int := true, y := true } noExtra (fun _ _ x y _ => minV x y))

/-- ABS. -/
def execVectAbs (t : Nat) (s : State) : Res State :=
  .next <| s.runEntry t (isVop 0x07) (fun e =>
    elemwise s t e { int := true } noExtra (fun _ _ x _ _ => absV x))

/-- The predicates of CMP (Table 3.10, R70). -/
def cmpPred (p : Nat) (x y : FVal) : Bool :=
  match p with
  | 0 => eqV x y
  | 1 => !eqV x y
  | 2 => ltV x y
  | 3 => leV x y
  | 4 => ltV y x
  | _ => leV y x

/-- CMP writes UINT8 (R69). -/
def execVectCmp (t : Nat) (s : State) : Res State :=
  .next <| s.runEntry t (isVop 0x08) (fun e =>
    elemwise s t e { int := true, y := true, noImm := true }
      (fun f => if 5 < f.imm % 8 then some stMALFORMED else if f.df != .uint8 then some stUNSUPPORTED else none)
      (fun _ imm x y _ => .fin false (bit (cmpPred (imm % 8) x y)) 0))

/-- SELECT: z ≠ 0 ? x : y (R69). -/
def execVectSelect (t : Nat) (s : State) : Res State :=
  .next <| s.runEntry t (isVop 0x09) (fun e =>
    elemwise s t e { int := true, y := true, z := true }
      (fun f => if f.zf != .int8 && f.zf != .uint8 then some stUNSUPPORTED else none)
      (fun _ _ x y z => if isZeroV z then y else x))

/-- EXP (R70). -/
def execVectExp (t : Nat) (s : State) : Res State :=
  .next <| s.runEntry t (isVop 0x0A) (fun e => elemwise s t e {} noExtra (fun _ _ x _ _ => f32 (expR fp32 x)))

/-- RCP (R70). -/
def execVectRcp (t : Nat) (s : State) : Res State :=
  .next <| s.runEntry t (isVop 0x0B) (fun e =>
    elemwise s t e {} noExtra (fun _ _ x _ _ => f32 (r32 (divV (.fin false 1 0) x))))

/-- RSQRT (R70). -/
def execVectRsqrt (t : Nat) (s : State) : Res State :=
  .next <| s.runEntry t (isVop 0x0C) (fun e => elemwise s t e {} noExtra (fun _ _ x _ _ => f32 (r32 (rsqrtV x))))

/-! ## CONVERT (R33, R69) -/

/-- Scale byte of block `b` of a CONVERT. -/
def State.vScale (s : State) (t : Nat) (f : VForm) (b : Nat) : Nat := (s.mem.byte (sramBase t + f.zo + b)).toNat

/-- Exact value of element `i`: element × scale, or the FP32 value. -/
def State.convVal (s : State) (t : Nat) (f : VForm) (i : Nat) : FVal :=
  let w := s.sramElem t f.xo f.xf.bits i
  if f.xf.scaled then mulV (elemVal f.xf w) (scaleVal (s.vScale t f (i / 32))) else f32 (widen f.xf w)

/-- Quantise to blocks of 32 consecutive elements. -/
def State.convBlocks (s : State) (t : Nat) (f : VForm) : List QBlock :=
  (List.range f.blocks).map (fun b =>
    quantBlock f.df ((List.range (min 32 (f.n - 32 * b))).map (fun i => s.convVal t f (32 * b + i))))

def State.convertEff (t : Nat) (f : VForm) (s : State) : State :=
  if f.df.scaled then
    let qs := s.convBlocks t f
    let s1 := s.sramWrite t f.dof (packElems f.df.bits (qs.flatMap (·.elems)))
    let s2 := s1.sramWrite t f.zo (qs.map (fun q => BitVec.ofNat 8 q.scale))
    s2.countArith (rTILE_ARITH_CNT t) (qs.map (·.sat)).sum (qs.map (·.nan)).sum
  else s.vOut t f.dof f.df f.ovf ((List.range f.n).map (fun i => s.convVal t f i))

/-- CONVERT. -/
def execVectConvert (t : Nat) (s : State) : Res State :=
  .next <| s.runEntry t (isVop 0x0D) (fun e => vectPlan s t e { conv := true } noExtra (State.convertEff t))

/-! ## Activation tables (R74) -/

/-- A word of a table. -/
def tabWord (tab i : Nat) : Nat := bytesOf tab i 4

/-- Evaluate a table on a binary32 number. -/
def actEval (tab x : Nat) : Nat :=
  if f32IsNaN x then f32NaN
  else
    let u := f32Mul (f32Sub x (tabWord tab 0)) (tabWord tab 4)
    if f32IsNaN u then f32NaN
    else
      let low := f32Lt u 0
      let high := f32Le (f32OfNat 64) u
      if low && bytesOf tab 8 1 == 1 then tabWord tab 16
      else if high && bytesOf tab 9 1 == 1 then tabWord tab 20
      else
        let g := if low then 0 else if high then 63 else (floorV (f32 u)).toNat
        let f := f32Sub u (f32OfNat g)
        let c := fun (k : Nat) => tabWord tab (32 + 12 * g + 4 * k)
        f32Fma (f32Fma (c 2) f (c 1)) f (c 0)

/-- Table `k` of the tile's image; `none` at or above NTAB. -/
def State.actTab (s : State) (t k : Nat) : Option Nat :=
  match (s.tile t).image with
  | some im => im.tabs[k]?
  | none => none

/-- ACT: the table IMM bits 2:0 (R74). -/
def execVectAct (t : Nat) (s : State) : Res State :=
  .next <| s.runEntry t (isVop 0x0E) (fun e =>
    elemwise s t e { noImm := true }
      (fun f => if (s.actTab t (f.imm % 8)).isNone then some stMALFORMED else none)
      (fun _ imm x _ _ => f32 (actEval ((s.actTab t (imm % 8)).getD 0) (r32 x))))

/-! ## Group operations (R71–R73) -/

/-- Lane partials: element `i` goes to lane `i mod 64`, from +0, in ascending order. -/
def laneSums (xs : List Nat) : List Nat :=
  (xs.foldl (fun (p : Nat × List Nat) x => ((p.1 + 1) % 64, modAt p.2 p.1 (fun a => f32Add a x)))
    (0, List.replicate 64 0)).2

/-- RSUM of R71. -/
def rsum (xs : List Nat) : Nat :=
  ((pairSums (pairSums (pairSums (pairSums (pairSums (pairSums (laneSums xs)))))))[0]?).getD 0

/-- Elements of group `g`. -/
def State.groupVals (s : State) (t : Nat) (f : VForm) (int : Bool) (g : Nat) : List FVal :=
  (List.range f.glen).map (fun i => s.vx t f int (g * f.glen + i))

/-- A reduction: one result a group. -/
def reducePlan (s : State) (t e : Nat) (r : Bool → List FVal → FVal) : Plan :=
  let v : VSpec := { int := true, group := true, reduce := true }
  vectPlan s t e v noExtra (fun f s =>
    let m := f.intMode v
    s.vOut t f.dof f.df f.ovf ((List.range f.groups).map (fun g => r m (s.groupVals t f m g))))

/-- RSUM (R71). -/
def execVectRsum (t : Nat) (s : State) : Res State :=
  .next <| s.runEntry t (isVop 0x10) (fun e => reducePlan s t e (fun m l =>
    if m then intNorm (l.foldl addV (.fin false 0 0)) else f32 (rsum (l.map r32))))

/-- RMAX (R70). -/
def execVectRmax (t : Nat) (s : State) : Res State :=
  .next <| s.runEntry t (isVop 0x11) (fun e => reducePlan s t e (fun _ l => foldVals maxV l))

/-- RMIN (R70). -/
def execVectRmin (t : Nat) (s : State) : Res State :=
  .next <| s.runEntry t (isVop 0x12) (fun e => reducePlan s t e (fun _ l => foldVals minV l))

/-- Half `h` of the FP32 pair of group `g` at Y. -/
def State.pairAt (s : State) (t : Nat) (f : VForm) (g h : Nat) : Nat := s.sramElem t f.yo 32 (2 * g + h)

/-- One step of the running maximum and sum (R72). -/
def smxStep (m sum : Nat) (xs : List FVal) : Nat × Nat :=
  let mn := r32 (maxV (f32 m) (foldVals maxV xs))
  if mn = f32NegInf then (m, sum)
  else
    let ts := xs.map (fun x => f32Exp (f32Sub (r32 x) mn))
    (mn, f32Add (f32Mul sum (f32Exp (f32Sub m mn))) (rsum ts))

/-- SMX_STEP (R72). -/
def execVectSmxStep (t : Nat) (s : State) : Res State :=
  .next <| s.runEntry t (isVop 0x13) (fun e =>
    vectPlan s t e { group := true, pairY := true, pairD := true, noImm := true } noExtra (fun f s =>
      s.sramWrite t f.dof ((List.range f.groups).flatMap (fun g =>
        let p := smxStep (s.pairAt t f g 0) (s.pairAt t f g 1) (s.groupVals t f false g)
        leBytes 4 p.1 ++ leBytes 4 p.2))))

/-- Mean and reciprocal standard deviation (R73). -/
def meanVar (imm : Nat) (xs : List Nat) : Nat × Nat :=
  let n := f32OfNat xs.length
  let mean := f32Div (rsum xs) n
  let sq := xs.map (fun x => f32Mul (f32Sub x mean) (f32Sub x mean))
  (mean, f32Rsqrt (f32Add (f32Div (rsum sq) n) imm))

/-- MEANVAR (R73). -/
def execVectMeanvar (t : Nat) (s : State) : Res State :=
  .next <| s.runEntry t (isVop 0x14) (fun e =>
    vectPlan s t e { group := true, pairD := true } noExtra (fun f s =>
      s.sramWrite t f.dof ((List.range f.groups).flatMap (fun g =>
        let p := meanVar f.imm ((s.groupVals t f false g).map r32)
        leBytes 4 p.1 ++ leBytes 4 p.2))))

/-- NORM (R73). -/
def execVectNorm (t : Nat) (s : State) : Res State :=
  .next <| s.runEntry t (isVop 0x15) (fun e =>
    vectPlan s t e { group := true, pairY := true, noImm := true } noExtra (fun f s =>
      s.vOut t f.dof f.df f.ovf ((List.range f.n).map (fun i =>
        let g := i / f.glen
        f32 (f32Mul (f32Sub (r32 (s.vx t f false i)) (s.pairAt t f g 0)) (s.pairAt t f g 1))))))

end Sys2Proof.Machine
end

