-- ==== Sys2Proof/Machine/Post.lean ====
section
/-!
DEFINITION. POST: FLOAT, INT and ARGMAX (R75–R77).
-/
namespace Sys2Proof.Machine

/-- Fields of a POST entry (Table 3.12), formats decoded. -/
structure PForm where
  mode : Nat
  xf   : Fmt
  df   : Fmt
  c    : Nat
  p    : Nat
  zp   : Int
  ovf  : Bool
  act  : Bool
  tab  : Nat
  xo   : Nat
  xp   : Nat
  dof  : Nat
  dp   : Nat
  ta   : Nat
  io   : Nat
  ip   : Nat
  deriving DecidableEq, Repr

def pForm (x : Tile) (e : Nat) : Option PForm :=
  match fmtOfCode (ef e 4 3 0), fmtOfCode (ef e 4 7 4) with
  | some xf, some df =>
    let p := bits e 213 192
    some { mode := ef e 3 1 0, xf := xf, df := df, c := bytesOf e 6 2, p := p, zp := signedOf 8 (bytesOf e 5 1)
           ovf := ef e 3 6 6 == 1, act := ef e 3 2 2 == 1, tab := ef e 3 5 3
           xo := x.sramOp (ef e 1 3 0) (bits e 84 64), xp := planePitch (bits e 95 85) (packedBytes xf.bits p)
           dof := x.sramOp (ef e 1 7 4) (bits e 116 96), dp := planePitch (bits e 127 117) (packedBytes df.bits p)
           ta := x.sramOp (ef e 2 3 0) (bits e 148 128)
           io := x.sramOp (ef e 2 7 4) (bits e 180 160), ip := planePitch (bits e 191 181) p }
  | _, _ => none

/-- Formats with a zero point (Table 3.12). -/
def zeroPointFmt : Fmt → Bool
  | .int8 | .uint8 | .int4 => true
  | _ => false

/-- Planes of packed elements at a pitch. -/
def planesSpan (off pitch n bytes : Nat) : Span := spanOf off ((n - 1) * pitch + bytes)

def PForm.xSpan (f : PForm) : Span := planesSpan f.xo f.xp f.c (packedBytes f.xf.bits f.p)
def PForm.dSpan (f : PForm) (n : Nat) : Span := planesSpan f.dof f.dp n (packedBytes f.df.bits f.p)

/-- What all modes check first (Table 3.5). [DEDUCED, log entry 24] -/
def pMalformed (s : State) (t : Nat) (f : PForm) : Bool :=
  decide (f.mode = 3 ∨ f.c = 0 ∨ f.p = 0 ∨ 2097152 < f.p) || (f.zp != 0 && !zeroPointFmt f.df)
  || (f.mode == 0 && f.act && (s.actTab t f.tab).isNone)

/-- The bytes of the input planes, and of `n` output planes. -/
def PForm.xBytes (f : PForm) : List Span := planeRanges f.xo f.xp f.c (packedBytes f.xf.bits f.p)
def PForm.dBytes (f : PForm) (n : Nat) : List Span := planeRanges f.dof f.dp n (packedBytes f.df.bits f.p)

/-- [DEDUCED, log entry 26] -/
def postPlan (s : State) (t e : Nat) (unsup : PForm → Bool) (rd wr rdx wrx : PForm → List Span)
    (eff : PForm → State → State × Option (Nat × Nat)) : Plan :=
  match pForm (s.tile t) e with
  | none => .fault stMALFORMED
  | some f =>
    if pMalformed s t f then .fault stMALFORMED
    else if f.xf.scaled || unsup f then .fault stUNSUPPORTED
    else if !(rd f ++ wr f).all inSram then .fault stMALFORMED
    else .go { rd := rd f, wr := wr f, rdx := some (rdx f), wrx := some (wrx f), eff := eff f }

def isPost (mode e : Nat) : Bool := opcOf e == 5 && ef e 3 1 0 == mode

/-! ## FLOAT (R75) -/

/-- Steps 1 to 3 on one element of channel `c`. -/
def State.postY (s : State) (t : Nat) (f : PForm) (c i : Nat) : Nat :=
  let scale := s.sramNat t (f.ta + 8 * c) 4
  let bias := s.sramNat t (f.ta + 8 * c + 4) 4
  let y := f32Fma (widen f.xf (s.sramElem t (f.xo + c * f.xp) f.xf.bits i)) scale bias
  if f.act then actEval ((s.actTab t f.tab).getD 0) y else y

/-- A whole number with the zero point added, saturated to the format (R75 step 4, R76 step 4). -/
def zpOut (df : Fmt) (zp q : Int) : Conv := convertVal df false (ofScaled (q + zp) 0)

/-- Steps 4 and 5 on one value; an infinite value gives the limit of the range, without the zero point. [DESIGN CHOICE, log entry 115] -/
def postOut (f : PForm) (y : FVal) : Conv :=
  if f.df.integer then
    match y with
    | .nan => let c := zpOut f.df f.zp 0; { c with nan := c.nan + 1 }
    | .inf _ => convertVal f.df false y
    | .fin neg m e => zpOut f.df f.zp (roundInt neg m e)
  else convertVal f.df f.ovf y

/-- One output plane. -/
def State.postPlane (s : State) (t : Nat) (f : PForm) (c : Nat) (cs : List Conv) : State :=
  (s.sramWrite t (f.dof + c * f.dp) (packElems f.df.bits (cs.map (·.bits)))).countArith
    (rTILE_ARITH_CNT t) (sumSat cs) (sumNan cs)

/-- The block of 32 consecutive channels at a position, quantised (R75 step 6). -/
def State.postBlock (s : State) (t : Nat) (f : PForm) (j i : Nat) : QBlock :=
  quantBlock f.df ((List.range (min 32 (f.c - 32 * j))).map (fun k => f32 (s.postY t f (32 * j + k) i)))

/-- A block-scaled output: element planes, then the scale planes. -/
def State.postScaled (s : State) (t : Nat) (f : PForm) : State :=
  (List.range (ceilDiv f.c 32)).foldl (fun x j =>
    let qs := (List.range f.p).map (fun i => s.postBlock t f j i)
    let x1 := (List.range (min 32 (f.c - 32 * j))).foldl (fun x k =>
      x.sramWrite t (f.dof + (32 * j + k) * f.dp) (packElems f.df.bits (qs.map (fun q => q.elems.getD k 0)))) x
    (x1.sramWrite t (f.io + j * f.ip) (qs.map (fun q => BitVec.ofNat 8 q.scale))).countArith
      (rTILE_ARITH_CNT t) (qs.map (·.sat)).sum (qs.map (·.nan)).sum) s

def State.postFloatEff (t : Nat) (f : PForm) (s : State) : State × Option (Nat × Nat) :=
  (if f.df.scaled then s.postScaled t f
   else (List.range f.c).foldl (fun x c =>
     x.postPlane t f c ((List.range f.p).map (fun i => postOut f (f32 (s.postY t f c i))))) s, none)

/-- POST FLOAT. The reserved MODE 3 faults here, since no other row takes it. -/
def execPostFloat (t : Nat) (s : State) : Res State :=
  .next <| s.runEntry t (fun e => isPost 0 e || isPost 3 e) (fun e =>
    postPlan s t e (fun _ => false)
      (fun f => [f.xSpan, spanOf f.ta (8 * f.c)])
      (fun f => f.dSpan f.c :: (if f.df.scaled then [planesSpan f.io f.ip (ceilDiv f.c 32) f.p] else []))
      (fun f => spanOf f.ta (8 * f.c) :: f.xBytes)
      (fun f => f.dBytes f.c ++ (if f.df.scaled then planeRanges f.io f.ip (ceilDiv f.c 32) f.p else []))
      (State.postFloatEff t))

/-! ## INT (R76) -/

def State.postShift (s : State) (t : Nat) (f : PForm) (c : Nat) : Nat := s.sramNat t (f.ta + 16 * c + 8) 1

/-- Steps 1 to 3 on one element; bytes 9–15 of its record are not looked at. [DEDUCED, log entry 100] -/
def State.postQ (s : State) (t : Nat) (f : PForm) (c i : Nat) : Int :=
  let bias := signedOf 32 (s.sramNat t (f.ta + 16 * c) 4)
  let mult := signedOf 32 (s.sramNat t (f.ta + 16 * c + 4) 4)
  let p := (signedOf 32 (s.sramElem t (f.xo + c * f.xp) 32 i) + bias) * mult
  roundInt (decide (p < 0)) p.natAbs (-(s.postShift t f c : Int))

/-- [DEDUCED, log entry 28] -/
def State.postIntEff (t : Nat) (f : PForm) (s : State) : State × Option (Nat × Nat) :=
  if (List.range f.c).any (fun c => decide (63 < s.postShift t f c)) then (s, some (stMALFORMED, 0))
  else ((List.range f.c).foldl (fun x c =>
    x.postPlane t f c ((List.range f.p).map (fun i => zpOut f.df f.zp (s.postQ t f c i)))) s, none)

/-- POST INT. -/
def execPostInt (t : Nat) (s : State) : Res State :=
  .next <| s.runEntry t (isPost 1) (fun e =>
    postPlan s t e (fun f => f.xf != .int32 || !f.df.integer || f.act)
      (fun f => [f.xSpan, spanOf f.ta (16 * f.c)]) (fun f => [f.dSpan f.c])
      (fun f => spanOf f.ta (16 * f.c) :: f.xBytes) (fun f => f.dBytes f.c) (State.postIntEff t))

/-! ## ARGMAX (R77) -/

/-- The best channel so far: its value, index and pattern. -/
def argBest (best : Option (FVal × Nat × Nat)) (c : Nat) (v : FVal) (w : Nat) : Option (FVal × Nat × Nat) :=
  if isNaNV v then best
  else
    match best with
    | none => some (v, c, w)
    | some b => if ltV b.1 v then some (v, c, w) else some b

/-- Index and value at a position; 0xFFFF and the canonical NaN when every input is NaN. -/
def State.argAt (s : State) (t : Nat) (f : PForm) (i : Nat) : Nat × Nat :=
  match (List.range f.c).foldl (fun b c =>
      let w := s.sramElem t (f.xo + c * f.xp) f.xf.bits i
      argBest b c (elemVal f.xf w) w) none with
  | some b => b.2
  | none => (0xFFFF, (convertVal f.xf false .nan).bits)

/-- POST ARGMAX. -/
def execPostArgmax (t : Nat) (s : State) : Res State :=
  .next <| s.runEntry t (isPost 2) (fun e =>
    postPlan s t e (fun f => f.df != f.xf || f.act) (fun f => [f.xSpan])
      (fun f => [f.dSpan 1, spanOf f.io (2 * f.p)]) PForm.xBytes (fun f => spanOf f.io (2 * f.p) :: f.dBytes 1)
      (fun f s =>
        let r := (List.range f.p).map (fun i => s.argAt t f i)
        ((s.sramWrite t f.dof (packElems f.df.bits (r.map (·.2)))).sramWrite t f.io (r.flatMap (fun x => leBytes 2 x.1)), none)))

end Sys2Proof.Machine
end

