-- ==== Sys2Proof/Machine/Sched.lean ====
section
/-!
DEFINITION. The die schedulers (R180–R188, R198): granting free units to slices, to tests
and to Basking, pre-emption requests, yielding DMA engines and the completion collector.
-/
namespace Sys2Proof.Machine

/-! ## Choosing -/

/-- The first element that no later one beats. -/
def pickBy {α : Type} (better : α → α → Bool) : List α → Option α
  | [] => none
  | a :: r =>
    match pickBy better r with
    | none => some a
    | some b => if better b a then some b else some a

/-- Half a test period in nanoseconds (R357). -/
def State.halfPeriod (s : State) : Nat := s.rf rHUB_TEST_CFG fHUB_TEST_CFG_PERIOD_MS * 500000

def State.unitTest (s : State) (e : Nat) : TestUnit := s.tests[e]?.getD {}

/-- A unit whose test is not due: UNTESTED = 0 and its last pass less than P / 2 ago (R182). -/
def State.testNotDue (s : State) (e : Nat) : Bool :=
  !s.untested e
  && (match (s.unitTest e).lp with
      | some lp => decide (s.dtime - lp < s.halfPeriod)
      | none => false)

/-! ## Free tiles and grantable kernels (R181) -/

/-- A tile that work may take: IDLE or Basking, its completion flag retired. -/
def State.tileFree (s : State) (t : Nat) : Bool :=
  (s.tileState t == tsIDLE || s.tileState t == tsBASKING) && !s.doneRaised t

/-- A tile a class may use: class 15 needs the tile and its load-store DMA engine tested
(R181, R361). -/
def State.tileFor (s : State) (cls t : Nat) : Bool :=
  !s.testFault (144 + portDma t) && (cls != 15 || (!s.untested t && !s.untested (144 + portDma t)))

def dieTiles (d : Nat) : List Nat := (List.range 32).map (fun i => 32 * d + i)

/-- Unclaimed slices of a kernel. -/
def Kernel.unclaimed (k : Kernel) : Nat := k.first + k.count - k.next

/-- Slices of a kernel that can be granted. -/
def Kernel.waiting (k : Kernel) : Nat := k.resume.length + k.unclaimed

/-- Tiles of die `d` that hold slices of a class. -/
def State.classTiles (s : State) (d cls : Nat) : Nat :=
  ((dieTiles d).filter (fun t =>
    slicePresent (s.tileState t)
    && (match s.kernel (s.tileCtx t) (s.tile t).knum with
        | some k => k.cls == cls
        | none => false))).length

/-- The class's TILE_CAP has not been reached on the die (Table 8.1). -/
def State.underCap (s : State) (d cls : Nat) : Bool :=
  let cap := s.rf (rQOS_CLS_SCHED cls) fQOS_CLS_SCHED_TILE_CAP
  decide (cap = 0 ∨ 32 < cap ∨ s.classTiles d cls < cap)

/-- The conditions of R181 but the tile's own. [DEDUCED, log entry 29] -/
def State.grantable (s : State) (d : Nat) (k : Kernel) : Bool :=
  Nat.testBit k.dieMask d && s.dieUsable d && !s.halted
  && decide (0 < k.waiting) && decide (k.maxTiles = 0 ∨ k.held < k.maxTiles) && s.underCap d k.cls

/-- Distance of a context after the last one granted on the die at a priority. -/
def State.turn (s : State) (d p c : Nat) : Nat := (c + 127 - (s.die d).last.getD p 63) % 64

/-- The choice of R181 between two kernels. [DEDUCED, log entry 33] -/
def State.kernelBefore (s : State) (d : Nat) (a b : Kernel) : Bool :=
  let pa := s.prio a.cls
  let pb := s.prio b.cls
  if pa != pb then decide (pb < pa)
  else if a.ctx != b.ctx then decide (s.turn d pa a.ctx < s.turn d pa b.ctx)
  else decide (a.fetched < b.fetched)

/-- Tiles of the die a kernel could be granted now. -/
def State.tilesFor (s : State) (d : Nat) (k : Kernel) : List Nat :=
  (dieTiles d).filter (fun t => s.tileFree t && s.tileFor k.cls t)

/-- The kernel the die grants next (R181). -/
def State.nextKernel (s : State) (d : Nat) : Option Kernel :=
  pickBy (s.kernelBefore d) (s.hub.kernels.filter (fun k => s.grantable d k && !(s.tilesFor d k).isEmpty))

/-- Rank of a free tile for a slice (R182): lower is better. -/
def State.tileRank (s : State) (k : Kernel) (t : Nat) : Nat :=
  (if s.holdsImage t k then 0 else 256) + (if s.testNotDue t then 0 else 128) + t

/-! ## Basking (R397, R398) -/

def State.baskTiles (s : State) : List Nat := (List.range 128).filter (fun t => s.tileState t == tsBASKING)

/-- TH_BASK.TILES follows. -/
def State.setBaskCount (s : State) : State := s.wf rTH_BASK fTH_BASK_TILES s.baskTiles.length

/-- A tile stops Basking: every line is invalidated (R398). -/
def State.stopBask (s : State) (t : Nat) : State :=
  if s.tileState t = tsBASKING then ((s.keepLines t 0 0).setTileState t tsIDLE).setBaskCount else s

/-! ## Granting a slice -/

/-- The requests of a kernel that have not been sampled, as tiles. -/
def State.openRequests (s : State) (c n : Nat) : List Nat :=
  (List.range 128).filter (fun t =>
    (match (s.tile t).req with
     | some r => r.ctx == c && r.num == n
     | none => false) && (s.tile t).sampled.isNone)

/-- Requests of a kernel, sampled or not. -/
def State.requests (s : State) (c n : Nat) : Nat :=
  ((List.range 128).filter (fun t =>
    match (s.tile t).req with
    | some r => r.ctx == c && r.num == n
    | none => false)).length

/-- R185: a slice granted another tile first withdraws the request on the highest tile. -/
def State.withdraw (s : State) (t c n : Nat) : State :=
  if (s.tile t).owed = some (c, n) then s
  else
    match (s.openRequests c n).getLast? with
    | some v => s.modTile v (fun x => { x with req := none })
    | none => s

/-- The slice a claim takes (R180), and the account after it. -/
def Kernel.claim (k : Kernel) : Nat × Bool × Kernel :=
  match k.resume with
  | sl :: r => (sl, true, { k with resume := r, held := k.held + 1 })
  | [] => (k.next, false, { k with next := k.next + 1, held := k.held + 1 })

/-- The tile is set up for a slice (R57). -/
def freshTile (x : Tile) (k : Kernel) (att now : Nat) (resumed : Bool) : Tile :=
  { x with
    knum := k.num, attempt := att, entry := 0, args := List.replicate 16 0, loops := List.replicate 4 0
    sig := 0xFFFFFFFF, acc := .empty, gapFrom := now, flight := [], req := none, sampled := none
    resuming := resumed, owed := none }

/-- One basking tile fewer on a die. -/
def State.unbask (s : State) (d : Nat) : State := s.modTh (fun t => { t with bask := modAt t.bask d (fun n => n - 1) })

/-- A slice is placed on a tile (R57, R180–R182). Its arguments are read before its image is checked. [DESIGN CHOICE, log entry 115] -/
def State.place (s : State) (d : Nat) (k : Kernel) (t : Nat) : State :=
  let (sl, resumed, k1) := k.claim
  let b := (s.stopBask t).ungate t
  let b := if s.tileState t = tsBASKING then b.unbask d else b
  let s1 := (b.withdraw t k.ctx k.num).modKernel k.ctx k.num (fun _ => k1)
  let s2 := s1.modDie d (fun x => { x with last := setAt x.last (s.prio k.cls) k.ctx })
  let att := ((s.desc k.ctx k.num).map (·.attempt)).getD 0
  let held := s.holdsImage t k
  let s3 := (s2.modTile t (fun x => freshTile x k att (s.dieTime d) resumed)).keepLines t 0 0
  let s4 := ((s3.wf (rTILE_STATUS t) fTILE_STATUS_CTX k.ctx).wf (rTILE_STATUS t) fTILE_STATUS_SLICE sl).setUndrained t false
  let s5 := (s4.setEntry t 0).setTileState t (if !held then tsLOADING else if resumed then tsLEAP_RESTORE else tsRUN)
  let s6 := if resumed then s5 else s5.traceEvent t evBEGIN (s5.sliceCmd t 0)
  let s7 :=
    match s6.desc k.ctx k.num with
    | some de => ((s6.waitEnd k.ctx de s6.dtime).noteUsed k.ctx t de).noteUsed k.ctx (144 + portDma t) de
    | none => s6
  if resumed then s7
  else
    match s7.engineErr k.ctx .rd k.image 64 with
    | some e => s7.tileFault t e.status e.addr
    | none =>
    match s7.engRead k.ctx (k.args + (sl - k.first) * 128) 128 with
    | .err e => s7.tileFault t e.status e.addr
    | .ok bs => s7.modTile t (fun x => { x with args := chunksNat 8 16 bs })

/-! ## Test slices (R359) -/

/-- State code of a unit (Tables 3.18, 5.13, 10.11): a DMA engine has no status register. -/
def State.unitState (s : State) (e : Nat) : Nat :=
  if e < 128 then s.tileState e
  else if e < 144 then s.rf (rGE_STATUS (e - 128)) fGE_STATUS_STATE
  else if e < 176 then
    (if s.testFault e then tsFAULT
     else if (s.unitTest e).running then tsTEST
     else if ((s.hub.dmas[e - 144]?).getD {}).cur.isSome then tsRUN else tsIDLE)
  else s.rf (rPC_STATUS (e - 176)) fPC_STATUS_STATE

def State.setUnitState (s : State) (e v : Nat) : State :=
  if e < 128 then s.setTileState e v
  else if e < 144 then s.wf (rGE_STATUS (e - 128)) fGE_STATUS_STATE v
  else if e < 176 then s
  else if e < 184 then s.wf (rPC_STATUS (e - 176)) fPC_STATUS_STATE v
  else s

/-- Units of a die, in engine-ID order; die 4 stands for HUB's path checkers. -/
def dieUnits (d : Nat) : List Nat :=
  if d < 4 then dieTiles d ++ (List.range 4).map (fun i => 128 + 4 * d + i) ++ (List.range 8).map (fun i => 144 + 8 * d + i)
  else (List.range 8).map (fun i => 176 + i)

/-- A unit that a test slice may take: its window open, or its retest asked for. No test runs in
RETAIN or BRUMATION, nor on the way there from the commit point on (R365, R380). -/
def State.testable (s : State) (e : Nat) : Bool :=
  let u := s.unitTest e
  s.flag rHUB_TEST_CFG fHUB_TEST_CFG_ENABLE && decide (s.powerState ≤ 2) && s.pw.phase != 4 && !u.running
  && (if s.testFault e then u.retest else u.due && s.unitState e == tsIDLE)
  && (decide (176 ≤ e) || !s.doneRaised e)

/-- Deadline of a unit's window; a unit with no last pass comes first. -/
def State.testDeadline (s : State) (e : Nat) : Nat :=
  match (s.unitTest e).lp with
  | some lp => lp + 2 * s.halfPeriod
  | none => 0

/-- The order of R359. -/
def State.testBefore (s : State) (a b : Nat) : Bool :=
  if s.untested a != s.untested b then s.untested a
  else if s.testDeadline a != s.testDeadline b then decide (s.testDeadline a < s.testDeadline b)
  else decide (a < b)

/-- A test slice starts on a unit. On a tile it sets up its own SRAM contents (R54, R358). [DEDUCED, log entry 30] -/
def State.startTest (s : State) (e : Nat) : State :=
  let s1 := (s.modTest e (fun u => { u with running := true })).ungate e
  let s2 := if e < 128 then s1.keepLines e 0 0 else s1
  if s.testFault e then s2 else s2.setUnitState e tsTEST

/-! ## Pre-emption (R184, R361) -/

/-- PRIO of the slice on a tile. -/
def State.slicePrio (s : State) (t : Nat) : Nat :=
  match s.kernel (s.tileCtx t) (s.tile t).knum with
  | some k => s.prio k.cls
  | none => 15

/-- Tiles a kernel's request may choose: running slices of lower PRIO, not under request. [DEDUCED, log entry 29] -/
def State.victims (s : State) (d : Nat) (k : Kernel) : List Nat :=
  (dieTiles d).filter (fun t =>
    s.tileState t == tsRUN && decide (s.slicePrio t < s.prio k.cls) && (s.tile t).req.isNone && s.tileFor k.cls t)

/-- The victim: lowest PRIO, then highest local index. -/
def State.victim (s : State) (d : Nat) (k : Kernel) : Option Nat :=
  pickBy (fun a b => if s.slicePrio a != s.slicePrio b then decide (s.slicePrio a < s.slicePrio b) else decide (b < a))
    (s.victims d k)

/-- A kernel that may raise a request on the die. -/
def State.mayRequest (s : State) (d : Nat) (k : Kernel) : Bool :=
  let used := k.held + s.requests k.ctx k.num
  s.preempts k.cls && s.grantable d k && (s.tilesFor d k).isEmpty
  && decide (used < k.waiting) && decide (k.maxTiles = 0 ∨ used < k.maxTiles) && (s.victim d k).isSome

/-- R359's exception: class-15 work waits, no tested tile can serve it, and a free tile is
untested. -/
def State.urgentTest (s : State) (d : Nat) : Option Nat :=
  if s.hub.kernels.any (fun k => k.cls == 15 && s.grantable d k && (s.tilesFor d k).isEmpty && (s.victims d k).isEmpty) then
    pickBy s.testBefore ((dieTiles d).filter (fun t => s.testable t && s.untested t && s.tileState t == tsIDLE))
  else none

/-- PREEMPT_REQUEST (R184). -/
def execPreemptRequest (die : Nat) (s : State) : Res State :=
  .next <|
    match pickBy (s.kernelBefore die) (s.hub.kernels.filter (fun k => s.mayRequest die k)) with
    | none => s
    | some k =>
      match s.victim die k with
      | some t => s.modTile t (fun x => { x with req := some { since := s.dieTime die, late := false, ctx := k.ctx, num := k.num } })
      | none => s

/-- LATE_LEAP_TIMEOUT (R187): the request stays raised and counts once. -/
def execLateLeapTimeout (tile : Nat) (s : State) : Res State :=
  .next <|
    match (s.tile tile).req with
    | some r =>
      if r.late = false ∧ (s.tile tile).sampled = none
        ∧ s.rf (rCD_SCHED_CFG (tile / 32)) fCD_SCHED_CFG_LEAP_WAIT_NS ≤ s.dieTime (tile / 32) - r.since then
        (s.modTile tile (fun x => { x with req := some { r with late := true } })).bump
          (rCD_SCHED_STAT (tile / 32)) fCD_SCHED_STAT_LATE_LEAP_CNT 1
      else s
    | none => s

/-! ## DMA engines -/

def State.dma (s : State) (e : Nat) : Dma := (s.hub.dmas[e]?).getD {}
def State.modDma (s : State) (e : Nat) (f : Dma → Dma) : State :=
  s.modHub (fun h => { h with dmas := modAt h.dmas e f })

/-! ## The completion collector (R198, R199) -/

/-- COMPLETION_RETIRE (R198, R199): a scan pointer reaches a set flag and retires it, and the event goes to HUB's merge;
flags whose turn has come by now are retired first, in their turn. -/
def execCompletionRetire (die : Nat) (s : State) : Res State :=
  .next <|
    if (s.die die).flags.isEmpty then s
    else
      let s1 := s.catchUp die
      if (s1.die die).flags.length < (s.die die).flags.length then s1
      else
        let r := Die.retire 44 (s1.die die)
        (s1.modDie die (fun _ => r.1)).merge die r.2

end Sys2Proof.Machine
end

