-- ==== Sys2Proof/Machine/Thermal.lean ====
section
/-!
DEFINITION. The thermal controller and the coolant inputs (R388–R400).
-/
namespace Sys2Proof.Machine

/-! ## Small pieces -/

/-- Two's complement field value. -/
def enc16 (v : Int) : Nat := (v % 65536).toNat

/-- The failed-reading code of Table 18.2. -/
def failedCode : Nat := 0x8000

def maxOpt : Option Int → Option Int → Option Int
  | none, b => b
  | a, none => a
  | some a, some b => some (max a b)

def maxList (l : List (Option Int)) : Option Int := l.foldl maxOpt none

def sumInt (l : List Int) : Int := l.foldl (· + ·) 0

/-- Mean of a list, rounded down. [DEDUCED, log entry 61] -/
def meanInt (l : List Int) : Int := Int.fdiv (sumInt l) l.length

/-- Insert into an ascending list. -/
def insertInt (a : Int) : List Int → List Int
  | [] => [a]
  | b :: r => if a ≤ b then a :: b :: r else b :: insertInt a r

/-- The median: the middle element, the lower one of two. [DEDUCED, log entry 61] -/
def medianInt (l : List Int) : Int := (l.foldr insertInt []).getD ((l.length - 1) / 2) 0

/-- Nanoseconds of a millisecond. -/
def msNs : Nat := 1000000

/-! ## Die sensors (R388, R389) -/

/-- Dies of the sensors (Table 18.1): 0–3 compute dies, 4 HUB, 5 SIA, 6 SIB, 7 MS0, 8 MS1. -/
def sensorDie (i : Nat) : Nat :=
  if i < 48 then i / 12 else if i < 60 then 4 else if i < 62 then 5 else if i < 64 then 6 else if i < 66 then 7 else 8

def inRange (v : Int) : Bool := decide (-880 ≤ v ∧ v ≤ 2400)

def stACTIVE : Nat := 0
def stFLAGGED : Nat := 1
def stRETIRED : Nat := 2

def State.sensorState (s : State) (i : Nat) : Nat := s.rf (rTH_SENS i) fTH_SENS_STATE
def State.sensorRec (s : State) (i : Nat) : SensorSt := s.th.sens[i]?.getD {}

/-- The die sensors, the clamp timer and the rate test run, and the controller reads the coolant inputs: not in RETAIN and
BRUMATION (R399). -/
def State.thermalRuns (s : State) : Bool := decide (s.powerState ≤ 2)

/-- A sensor's sample reaches the controller: an island's comes with its status mailbox (R354, R388). -/
def State.sensorHeard (s : State) (i : Nat) : Bool :=
  if 60 ≤ i ∧ i < 64 then (s.isl[(i - 60) / 2]?.getD {}).power && s.diePresent (4 + (i - 60) / 2) else true

/-- DIE_SENSOR_SAMPLE (R388): one sample of a sensor, in 1/16 °C. -/
def execDieSensorSample (sensor : Nat) (val : Int) (s : State) : Res State :=
  .next <|
    if s.thermalRuns && s.sensorHeard sensor then s.modTh (fun t => { t with sens := modAt t.sens sensor (fun x => { x with samples := val :: x.samples }) }) else s

/-- Reading of a sensor for the tick: the mean of its samples, in range. -/
def SensorSt.reading (x : SensorSt) : Option Int :=
  match x.samples with
  | [] => none
  | l => if inRange (meanInt l) then some (meanInt l) else none

/-- Step 1 of R389 for one sensor: its reading enters its history; ten bad ticks retire it. -/
def State.sensorTick (s : State) (i : Nat) : State :=
  let x := s.sensorRec i
  let r := x.reading
  let bad := if r.isSome then 0 else x.bad + 1
  let s1 := s.modTh (fun t => { t with sens := setAt t.sens i { samples := [], past := (r :: x.past).take 11, bad := bad } })
  let s2 := match r with
    | some v =>
      let y := s1.wf (rTH_SENS i) fTH_SENS_READ (enc16 v)
      match (s1.sensorRec i).past[10]? with
      | some (some o) => y.wf (rTH_SENS i) fTH_SENS_RATE (enc16 (Int.tdiv ((v - o) * 100) 16))
      | _ => y
    | none => s1
  if bad = 10 ∧ s.sensorState i ≠ stRETIRED then
    (s2.wf (rTH_SENS i) fTH_SENS_STATE stRETIRED).bump rTH_IN_CNT fTH_IN_CNT_RETIRE_CNT 1
  else s2

/-- The tick's reading of a usable sensor. -/
def State.usableReading (s : State) (i : Nat) : Option Int :=
  if s.sensorState i = stRETIRED then none else ((s.sensorRec i).past.head?).join

/-- Step 2 of R389: a pair differs by more than 6 K. -/
def State.pairDiffers (s : State) (p : Nat) : Bool :=
  match s.usableReading (2 * p), s.usableReading (2 * p + 1) with
  | some a, some b => decide (96 < (a - b).natAbs)
  | _, _ => false

/-- The flags of a pair follow step 2. -/
def State.pairTick (s : State) (p : Nat) : State :=
  let f : Fld := { hi := p, lo := p }
  let set := fun (x : State) (v : Nat) (i : Nat) => if x.sensorState i = stRETIRED then x else x.wf (rTH_SENS i) fTH_SENS_STATE v
  if s.pairDiffers p then
    let s1 := if s.flag rTH_PAIR_FLAG f then s else (s.setFlag rTH_PAIR_FLAG f).bump rTH_LVL_CNT fTH_LVL_CNT_PAIR_CNT 1
    set (set s1 stFLAGGED (2 * p)) stFLAGGED (2 * p + 1)
  else
    match s.usableReading (2 * p), s.usableReading (2 * p + 1) with
    | some _, some _ => set (set (s.clrFlag rTH_PAIR_FLAG f) stACTIVE (2 * p)) stACTIVE (2 * p + 1)
    | _, _ => s

/-- Steps 2 and 3: a pair's own reading; `none` when neither sensor is usable. -/
def State.pairOwn (s : State) (p : Nat) : Option Int :=
  match s.usableReading (2 * p), s.usableReading (2 * p + 1) with
  | some a, some b => some (max a b)
  | some a, none => some (a + 32)
  | none, some b => some (b + 32)
  | none, none => none

/-- Pairs of a die. [DEDUCED, log entry 61] -/
def diePairs (d : Nat) : List Nat := (List.range 34).filter (fun p => sensorDie (2 * p) == d)

/-- A pair's reading (R389). -/
def State.pairReading (s : State) (p : Nat) : Option Int :=
  match s.pairOwn p with
  | some v => some v
  | none =>
    let d := sensorDie (2 * p)
    if 7 ≤ d then some (s.th.stack.getD (d - 7) 0 + 80)
    else (maxList ((diePairs d).map s.pairOwn)).map (· + 80)

/-- Highest pair reading of a die. -/
def State.dieReading (s : State) (d : Nat) : Option Int := maxList ((diePairs d).map s.pairReading)

/-- The logic governing temperature T_L. -/
def State.logicTemp (s : State) : Option Int := maxList ((List.range 5).map s.dieReading)

/-- Governing temperature of a stack with the pair readings of R389, as T_M and the OFF threshold take it. [DEDUCED, log entry 57] -/
def State.stackTemp (s : State) (m : Nat) : Int :=
  ((maxOpt (some (s.th.stack.getD m 0)) (s.dieReading (7 + m)))).getD 0

/-- Governing temperature of a stack (R263): the highest of its own temperature and the readings of its two sensors that
have one. [DEDUCED, log entry 57] -/
def State.bandTemp (s : State) (m : Nat) : Int :=
  ((maxOpt (some (s.th.stack.getD m 0))
    (maxList (((List.range 68).filter (fun i => sensorDie i == 7 + m)).map s.usableReading)))).getD 0

/-- The memory governing temperature T_M. -/
def State.memTemp (s : State) : Int := max (s.stackTemp 0) (s.stackTemp 1)

/-! ## Coolant (Table 18.2, R390) -/

def coolFld (i : Nat) : Fld := if i = 0 then fTH_COOL_INLET_A else if i = 1 then fTH_COOL_INLET_B else fTH_COOL_OUTLET

/-- A coolant input becomes FAILED; each transition counts. -/
def State.coolFail (s : State) (f : Fld) : State :=
  if s.rf rTH_COOL f = failedCode then s else (s.wf rTH_COOL f failedCode).bump rTH_IN_CNT fTH_IN_CNT_INPUT_CNT 1

/-- An input that is there: the outlet thermistor only with OUT_EN = 1 (Table 18.2). -/
def State.coolFitted (s : State) (i : Nat) : Bool := decide (i < 2) || (i == 2 && s.flag rTH_CFG fTH_CFG_OUT_EN)

/-- COOLANT_SAMPLE (R390): a sample of INLET_A, INLET_B or OUTLET (0–2) in 0.1 °C. The value is the median of the last five,
valid while it is in range and its timeout has not passed. -/
def execCoolantSample (input : Nat) (val : Int) (s : State) : Res State :=
  .next <|
    if !s.coolFitted input || !s.thermalRuns then s
    else
      let c := s.th.cool.getD input {}
      let hist := (val :: c.hist).take 5
      let ok := if -450 ≤ val ∧ val ≤ 1100 then s.dtime else c.lastOk
      let m := medianInt hist
      let s1 := s.modTh (fun t => { t with cool := setAt t.cool input { hist := hist, lastOk := ok } })
      if -450 ≤ m ∧ m ≤ 1100 ∧ s.dtime < ok + 100 * msNs then s1.wf rTH_COOL (coolFld input) (enc16 m)
      else s1.coolFail (coolFld input)

/-- The measured flow in mL/min: the pulses of the last 500 ms. -/
def State.flowNow (s : State) : Nat :=
  (s.th.pulses.filter (fun p => decide (s.dtime < p + 500 * msNs))).length * 120000 / s.rf rTH_CFG fTH_CFG_FLOW_K

/-- No pulse for FLOW_TMO_MS. [DEDUCED, log entry 61] -/
def State.flowStopped (s : State) : Bool :=
  decide (s.th.lastPulse + s.rf rTH_CLAMP_CFG fTH_CLAMP_CFG_FLOW_TMO_MS * msNs ≤ s.dtime)

/-- The flow reading follows its pulses. -/
def State.flowUpdate (s : State) : State :=
  if s.flowStopped then s.coolFail fTH_COOL_FLOW
  else if 20000 < s.flowNow then s.coolFail fTH_COOL_FLOW
  else s.wf rTH_COOL fTH_COOL_FLOW s.flowNow

/-- FLOW_PULSE (R393): a pulse of at least 50 µs counts and restarts the PULSE timer. -/
def execFlowPulse (widthUs : Nat) (s : State) : Res State :=
  .next <|
    if decide (widthUs < 50) || !s.thermalRuns then s
    else
      let keep := s.th.pulses.filter (fun p => decide (s.dtime < p + 500 * msNs))
      (s.modTh (fun t => { t with pulses := s.dtime :: keep, lastPulse := s.dtime })).flowUpdate

/-- COOLANT_INPUT_TIMEOUT (R390): inputs 0–2 after 100 ms without a sample in range, 3 (flow)
after FLOW_TMO_MS without a pulse. -/
def execCoolantInputTimeout (input : Nat) (s : State) : Res State :=
  .next <|
    if !s.thermalRuns then s
    else if input = 3 then (if s.flowStopped then s.coolFail fTH_COOL_FLOW else s)
    else if !s.coolFitted input then s
    else if (s.th.cool.getD input {}).lastOk + 100 * msNs ≤ s.dtime then s.coolFail (coolFld input)
    else s

/-- A coolant temperature in 0.1 °C, where it is valid. -/
def State.coolTemp (s : State) (i : Nat) : Option Int :=
  let v := s.rf rTH_COOL (coolFld i)
  if v = failedCode then none else some (if v < 32768 then (v : Int) else v - 65536)

/-- The inlet temperature (R390). -/
def State.inlet (s : State) : Option Int := maxOpt (s.coolTemp 0) (s.coolTemp 1)

def State.flowFailed (s : State) : Bool := s.rf rTH_COOL fTH_COOL_FLOW == failedCode

/-- Flow as the levels compare it: a stopped flow is 0. -/
def State.flowLevel (s : State) : Nat := if s.flowFailed then 0 else s.rf rTH_COOL fTH_COOL_FLOW

/-- The coolant bits of TH_STATUS at a tick. -/
def State.coolStatus (s : State) : State :=
  let diff := match s.coolTemp 0, s.coolTemp 1 with
    | some a, some b => decide (30 < (a - b).natAbs)
    | _, _ => false
  let s1 := (s.wf rTH_STATUS fTH_STATUS_INLET_DIFF (bit diff)).wf rTH_STATUS fTH_STATUS_INLET_FAIL (bit s.inlet.isNone)
  (s1.wf rTH_STATUS fTH_STATUS_FLOW_FAIL (bit s.flowFailed)).wf rTH_STATUS fTH_STATUS_OUT_FAIL
    (bit (s.flag rTH_CFG fTH_CFG_OUT_EN && (s.coolTemp 2).isNone))

/-! ## R_EST (R391) -/

/-- R_EST for the tick: units of 2^−32 × 0.1 mK/W, rounded down. [DEDUCED, log entry 61] -/
def State.rEstTick (s : State) (power : Nat) : State :=
  match s.logicTemp, s.inlet with
  | some tl, some inl =>
    if 600 ≤ power then
      let q := Int.fdiv ((tl * 5 - inl * 8) * 1250 * 2 ^ 32) power
      let r := s.th.rEst + Int.fdiv (q - s.th.rEst) 1000
      (s.modTh (fun t => { t with rEst := r })).wf rTH_POWER fTH_POWER_R_EST (max 0 (Int.fdiv r (2 ^ 32))).toNat
    else s
  | _, _ => s

/-! ## Levels (R392) -/

def lvlFlow (l : Nat) : Fld :=
  if l = 1 then fTH_LVL_FLOW_FLOW1 else if l = 2 then fTH_LVL_FLOW_FLOW2 else if l = 3 then fTH_LVL_FLOW_FLOW3 else fTH_LVL_FLOW_FLOW4
def lvlRjc (l : Nat) : Fld :=
  if l = 1 then fTH_LVL_RJC_RJC1 else if l = 2 then fTH_LVL_RJC_RJC2 else if l = 3 then fTH_LVL_RJC_RJC3 else fTH_LVL_RJC_RJC4
def lvlHead (l : Nat) : Fld :=
  if l = 1 then fTH_LVL_HEAD_HEAD1 else if l = 2 then fTH_LVL_HEAD_HEAD2 else if l = 3 then fTH_LVL_HEAD_HEAD3 else fTH_LVL_HEAD_HEAD4

/-- Headroom in 1/16 K. -/
def State.headroom (s : State) : Int :=
  match s.logicTemp with
  | some tl => min (2000 - tl) (1680 - s.memTemp)
  | none => 1680 - s.memTemp

/-- Level 3 by the coolant's rise. -/
def State.outRise (s : State) : Bool :=
  match s.coolTemp 2, s.inlet with
  | some o, some i => s.flag rTH_CFG fTH_CFG_OUT_EN && decide ((s.rf rTH_LVL_HEAD fTH_LVL_HEAD_OUT_RISE_K : Int) * 10 < o - i)
  | _, _ => false

/-- Level `l` holds (R390, R392). -/
def State.levelHolds (s : State) (l : Nat) : Bool :=
  decide (s.flowLevel < s.rf rTH_LVL_FLOW (lvlFlow l))
  || decide ((s.rf rTH_LVL_RJC (lvlRjc l) * s.rf rTH_CFG fTH_CFG_R_NOM * 2 ^ 32 : Int) < s.th.rEst * 100)
  || decide (s.headroom < s.rf rTH_LVL_HEAD (lvlHead l) * 16)
  || (l == 3 && s.outRise)
  || (l == 1 && s.inlet.isNone)
  || (l == 4 && s.flowFailed && !s.flowStopped)

/-- Highest level that holds, 0 for none. -/
def State.levelDue (s : State) : Nat :=
  if s.levelHolds 4 then 4 else if s.levelHolds 3 then 3 else if s.levelHolds 2 then 2 else if s.levelHolds 1 then 1 else 0

def State.clamped (s : State) : Bool := s.flag rTH_STATUS fTH_STATUS_CLAMP
def State.level (s : State) : Nat := s.rf rTH_STATUS fTH_STATUS_LEVEL

/-- The thermal clock limits of Table 18.3. -/
def State.setLimits (s : State) : State :=
  let hard := s.clamped || s.halted
  let l := s.level
  ((s.wf rPM_CLK fPM_CLK_TILE_TH (if hard then 4 else l - 1)).wf rPM_CLK fPM_CLK_HART_TH (if hard then 3 else l - 1)).slowerAsked

def State.setLevel (s : State) (l : Nat) : State := (s.wf rTH_STATUS fTH_STATUS_LEVEL l).setLimits

/-- Every Basking tile stops. -/
def State.baskOff (s : State) : State :=
  (s.baskTiles.foldl State.stopBask s).modTh (fun t => { t with bask := List.replicate 4 0 })

/-- The level at a tick: it rises at once (R392), and after RETAIN or BRUMATION it is the one that holds (R399). -/
def State.levelTick (s : State) : State :=
  let due := s.levelDue
  let s1 := if s.level ≤ due then s.modTh (fun t => { t with heldAt := s.dtime }) else s
  if s.clamped then s1
  else if decide (due ≤ s.level) then
    (if s.th.fresh then (s1.modTh (fun t => { t with heldAt := s.dtime })).setLevel due else s1)
  else (((s1.setLevel due).bump rTH_LVL_CNT fTH_LVL_CNT_LVL_UP_CNT 1).raiseIrq irqTH).baskOff

/-- THROTTLE_LEVEL_FALL (R392): one step, after 2 s in which the level has not held. -/
def execThrottleLevelFall (s : State) : Res State :=
  .next <|
    if s.clamped = false ∧ 0 < s.level ∧ s.levelDue < s.level ∧ s.th.heldAt + 2000 * msNs ≤ s.dtime then
      (s.modTh (fun t => { t with heldAt := s.dtime })).setLevel (s.level - 1)
    else s

/-! ## The clamp (R393, R394) -/

/-- Since when CLAMP_AUTO has been 1, where `t` is what was known of it (R394). -/
def State.autoSince (s : State) (t : Option Nat) : Option Nat :=
  if s.flag rTH_CLAMP_CFG fTH_CLAMP_CFG_CLAMP_AUTO then some (t.getD s.dtime) else none

/-- The clamp starts, or gains a cause. -/
def State.clampOn (s : State) (cause : Fld) : State :=
  let s1 := s.setFlag rTH_STATUS cause
  if s.clamped then s1
  else
    let s2 := (((s1.setFlag rTH_STATUS fTH_STATUS_CLAMP).setLimits).baskOff).fireTrigger trigThermal
    ((s2.modTh (fun t => { t with clampOk := none, clr := false, freed := s.autoSince none })).bump rTH_EVT_CNT fTH_EVT_CNT_CLAMP_CNT 1).raiseIrq irqTH

/-- CLAMP_PULSE (R393): no flow pulse for FLOW_TMO_MS. -/
def execClampPulse (s : State) : Res State :=
  .next <| if s.flowStopped && s.thermalRuns then (s.clampOn fTH_STATUS_PULSE).entryCheck else s

/-- Sensors whose rate is above RATE_KPS, over CD0–CD3 and HUB. -/
def State.fastSensors (s : State) : List Nat :=
  (List.range 60).filter (fun i =>
    s.sensorState i != stRETIRED
    && (match (s.sensorRec i).past[0]?, (s.sensorRec i).past[10]? with
        | some (some v), some (some o) => decide ((s.rf rTH_CLAMP_CFG fTH_CLAMP_CFG_RATE_KPS * 16 : Int) < (v - o) * 10)
        | _, _ => false))

/-- The RATE condition of a tick. -/
def State.rateMet (s : State) : Bool :=
  let l := s.fastSensors
  decide (s.rf rTH_CLAMP_CFG fTH_CLAMP_CFG_RATE_NSENS ≤ l.length)
  && decide (2 ≤ ((List.range 5).filter (fun d => l.any (fun i => sensorDie i == d))).length)
  && (match s.th.power[0]?, s.th.power[10]? with
      | some a, some b => decide (a < b + 10 * s.rf rTH_CLAMP_CFG fTH_CLAMP_CFG_DT_PWR_W)
      | _, _ => false)

/-- The third condition of R394 follows CLAMP_AUTO and an accepted CLAMP_CLR. -/
def State.clampFreed (s : State) : State :=
  s.modTh (fun t => { t with freed := if t.clr then some (t.freed.getD s.dtime) else s.autoSince t.freed })

/-- The conditions of R394, followed from tick to tick. -/
def State.clampTick (s : State) : State :=
  let good := !s.flowFailed && decide (s.rf rTH_LVL_FLOW fTH_LVL_FLOW_FLOW2 ≤ s.flowLevel) && !s.rateMet
  (s.modTh (fun t => { t with clampOk := if good then some (t.clampOk.getD s.dtime) else none, clr := t.clr && good })).clampFreed

/-- The three conditions of R394 have held for 5 s. -/
def State.clampQuiet (s : State) : Bool :=
  match s.th.clampOk, s.th.freed with
  | some t, some u => decide (max t u + 5000 * msNs ≤ s.dtime)
  | _, _ => false

/-- A write of CLAMP_CLR: ignored before the other conditions hold (R394). -/
def State.clampClr (s : State) : State :=
  if s.clamped && s.th.clampOk.isSome then (s.modTh (fun t => { t with clr := true })).clampFreed else s

/-- CLAMP_CLR (R394). -/
def execClampClr (port : Port) (s : State) : Res State :=
  .next <| s.access port rTH_CLAMP_CFG (fun s => s.clampClr)

/-- CLAMP_RELEASE (R394): the level becomes the one evaluated now. -/
def execClampRelease (s : State) : Res State :=
  .next <|
    if s.clamped && s.clampQuiet && !s.flowStopped && !s.rateMet then
      let s1 := ((s.clrFlag rTH_STATUS fTH_STATUS_CLAMP).clrFlag rTH_STATUS fTH_STATUS_PULSE).clrFlag rTH_STATUS fTH_STATUS_RATE
      let due := s.levelDue
      let s2 := (s1.modTh (fun t => { t with clampOk := none, clr := false, heldAt := s.dtime })).setLevel due
      if s.level < due then (s2.bump rTH_LVL_CNT fTH_LVL_CNT_LVL_UP_CNT 1).raiseIrq irqTH else s2
    else s

/-! ## HALT and thermal OFF (R395, R396) -/

/-- Running slices are asked to yield at their next leap point, as under a request. [DEDUCED, log entry 29] -/
def State.haltRequests (s : State) : State :=
  s.modTiles (List.mapIdx (fun t x =>
    if s.tileState t == tsRUN && x.req.isNone then
      { x with req := some { since := s.dieTime (t / 32), late := false, ctx := 64, num := 0 } }
    else x))

def State.haltOn (s : State) : State :=
  if s.halted then s
  else
    let s1 := ((((s.setFlag rTH_STATUS fTH_STATUS_HALT).setLimits).baskOff).fireTrigger trigThermal).haltRequests
    (s1.modTh (fun t => { t with haltOk := none })).bump rTH_EVT_CNT fTH_EVT_CNT_HALT_CNT 1

/-- The HALT conditions of a tick. -/
def State.haltTick (s : State) : State :=
  let tl := (s.logicTemp).getD (-880)
  let s1 := if decide (1952 ≤ tl) || decide (1664 ≤ s.memTemp) then s.haltOn else s
  let cool := decide (tl ≤ 1792) && decide (s.memTemp ≤ 1568)
  s1.modTh (fun t => { t with haltOk := if cool then some (t.haltOk.getD s.dtime) else none })

/-- HALT_END (R395): both temperatures low for 2 s; held work resumes. -/
def execHaltEnd (s : State) : Res State :=
  .next <|
    match s.th.haltOk with
    | none => s
    | some t0 =>
      if s.halted ∧ t0 + 2000 * msNs ≤ s.dtime then
        let s1 := (s.clrFlag rTH_STATUS fTH_STATUS_HALT).setLimits
        s1.modTiles (List.map (fun x =>
          match x.req with
          | some r => if r.ctx = 64 ∧ x.sampled = none then { x with req := none } else x
          | none => x))
      else s

/-- Usable sensors of a die within 10 K of a reading. -/
def State.nearReadings (s : State) (d : Nat) (v : Int) : Nat :=
  ((List.range 68).filter (fun i => sensorDie i == d
    && (match s.usableReading i with
        | some x => decide ((x - v).natAbs ≤ 160)
        | none => false))).length

/-- A pair's reading is confirmed: a usable sensor of its die but the one it comes from matches it (R396). -/
def State.pairConfirmed (s : State) (p : Nat) (v : Int) : Bool :=
  decide ((if (s.pairOwn p).isSome then 2 else 1) ≤ s.nearReadings (sensorDie (2 * p)) v)

/-- T_L is confirmed: at a pair whose reading it is. -/
def State.logicConfirmed (s : State) (v : Int) : Bool :=
  (List.range 5).any (fun d => (diePairs d).any (fun p => s.pairReading p == some v && s.pairConfirmed p v))

/-- T_M is confirmed at a stack whose temperature it is: a reading of its pair by the stack's own temperature, and that one by a
sensor (R396). -/
def State.memConfirmed (s : State) (v : Int) : Bool :=
  (List.range 2).any (fun m =>
    let own := s.th.stack.getD m 0
    (s.dieReading (7 + m) == some v && decide ((own - v).natAbs ≤ 160)) || (own == v && decide (1 ≤ s.nearReadings (7 + m) v)))

/-- A confirmed T_L at 127 °C, or a confirmed T_M at 107 °C (R396). -/
def State.thermOffMet (s : State) : Bool :=
  (match s.logicTemp with
   | some v => decide (2032 ≤ v) && s.logicConfirmed v
   | none => false)
  || (decide (1712 ≤ s.memTemp) && s.memConfirmed s.memTemp)

/-! ## Basking (R397) -/

/-- F_d in 1/16 °C, from M_d and the inlet. -/
def State.baskFloor (s : State) (d : Nat) (inl : Int) : Int :=
  let l := s.th.means.getD d []
  let m := if l.isEmpty then 0 else meanInt l
  max (m - s.rf rTH_BASK fTH_BASK_BAND_K * 16) (Int.fdiv (inl * 8) 5 + s.rf rTH_BASK fTH_BASK_LIFT_K * 16)

/-- Basking is allowed on the part. -/
def State.baskAllowed (s : State) : Bool :=
  s.flag rTH_BASK fTH_BASK_BASK_EN && s.level == 0 && !s.clamped && !s.halted && s.inlet.isSome
  && s.rf rPM_STATUS fPM_STATUS_STATE == 0

/-- Basking tiles of a die. -/
def State.baskOn (s : State) (d : Nat) : List Nat := (dieTiles d).filter (fun t => s.tileState t == tsBASKING)

/-- Most Basking tiles of the part. -/
def State.baskCap (s : State) : Nat := s.rf rTH_BASK fTH_BASK_MAX_W * 4 / 5

/-- The counts are those of the tiles that bask: what no free tile took by now lapses. -/
def State.baskCount (s : State) : State := s.modTh (fun t => { t with bask := (List.range 4).map (fun d => (s.baskOn d).length) })

/-- One die's count at a tick; a die gains a tile only where one is free. -/
def State.baskDie (s : State) (d : Nat) : State :=
  match s.dieReading d, s.inlet with
  | some td, some inl =>
    let fl := s.baskFloor d inl
    let n := s.th.bask.getD d 0
    let total := s.th.bask.foldl (· + ·) 0
    if td < fl + 16 then
      (if total < s.baskCap ∧ (dieTiles d).any (fun t => s.tileState t == tsIDLE && !s.doneRaised t) = true then s.modTh (fun t => { t with bask := setAt t.bask d (n + 1) }) else s)
    else if fl + 48 ≤ td then
      let s1 := s.modTh (fun t => { t with bask := setAt t.bask d (n - 1) })
      if n - 1 < (s.baskOn d).length then s1.stopBask ((s.baskOn d).getLast?.getD 0) else s1
    else s
  | _, _ => s

/-- T_d enters the mean of each die; Basking is adjusted (R397). -/
def State.baskTick (s : State) : State :=
  let s1 := s.modTh (fun t => { t with means := t.means.mapIdx (fun d l =>
    match s.dieReading d with
    | some v => (v :: l).take 6000
    | none => l) })
  if s1.baskAllowed then (List.range 4).foldl State.baskDie s1.baskCount else s1.baskOff

/-! ## The tick -/

/-- THERMAL_TICK (R389–R397): `power` and `compute` are P_TOTAL and P_COMPUTE of the tick in
0.1 W. -/
def execThermalTick (power compute : Nat) (s : State) : Res State :=
  .next <|
    if !s.thermalRuns then s
    else
      let s1 := (List.range 34).foldl State.pairTick ((List.range 68).foldl State.sensorTick s)
      let s2 := (s1.flowUpdate).coolStatus
      let s3 := (s2.wf rTH_POWER fTH_POWER_P_TOTAL power).wf rTH_POWER fTH_POWER_P_COMPUTE compute
      let s4 := (s3.modTh (fun t => { t with power := (power :: t.power).take 11, tl := s3.logicTemp, tm := some s3.memTemp })).rEstTick power
      let s5 := (if s4.rateMet then s4.clampOn fTH_STATUS_RATE else s4).clampTick
      let s6 := (((s5.levelTick).modTh (fun t => { t with fresh := false })).haltTick).baskTick
      if s6.thermOffMet then (s6.setFlag rTH_STATUS fTH_STATUS_THERM_OFF).mainRailsOff 2 else s6.entryCheck

/-- The first tick after RETAIN or BRUMATION starts afresh (R391, R399). -/
def State.thermalExit (s : State) : State :=
  let nom := s.rf rTH_CFG fTH_CFG_R_NOM
  (s.modTh (fun t =>
    { t with rEst := nom * 2 ^ 32, power := [], means := List.replicate 4 [], lastPulse := s.dtime, heldAt := 0, fresh := true, tl := none
             sens := t.sens.map (fun x => { x with samples := [], past := [], bad := 0 }), wearExt := none })).wf
    rTH_POWER fTH_POWER_R_EST nom

/-! ## Wear (R400) -/

/-- Bin of an amplitude in 1/16 K (Table 18.4); `none` below 5 K. -/
def wearBin (a : Nat) : Option Nat :=
  if a < 80 then none else if a < 160 then some 0 else if a < 240 then some 1 else if a < 320 then some 2
  else if a < 480 then some 3 else if a < 640 then some 4 else if a < 960 then some 5 else if a < 1280 then some 6
  else some 7

def State.wearLast (s : State) : Int := signedOf 16 (s.rf rTH_WEAR_LAST fTH_WEAR_LAST_LAST)

/-- A half-cycle from WEAR_LAST to `v` enters its bin, and `v` is kept. -/
def State.halfCycle (s : State) (v : Int) : State :=
  match wearBin (v - s.wearLast).natAbs with
  | some b => (s.bump (rTH_WEAR_CYC b) fTH_WEAR_CYC_HALF 1).wf rTH_WEAR_LAST fTH_WEAR_LAST_LAST (enc16 v)
  | none => s

/-- A reversal at `v`: the half-cycle enters its bin, and the new extreme is kept whatever its amplitude. -/
def State.reversal (s : State) (v : Int) : State := (s.halfCycle v).wf rTH_WEAR_LAST fTH_WEAR_LAST_LAST (enc16 v)

/-- One sample of T_L: a reversal is 5 K back from the running extreme. -/
def State.wearStep (s : State) (v : Int) : State :=
  match s.th.wearExt with
  | none => (s.halfCycle v).modTh (fun t => { t with wearExt := some v })
  | some x =>
    let base := s.wearLast
    let up := decide (base < x) || (x == base && decide (x ≤ v))
    if up then
      (if x ≤ v then s.modTh (fun t => { t with wearExt := some v })
       else if 80 ≤ x - v then (s.reversal x).modTh (fun t => { t with wearExt := some v })
       else s)
    else
      (if v ≤ x then s.modTh (fun t => { t with wearExt := some v })
       else if 80 ≤ v - x then (s.reversal x).modTh (fun t => { t with wearExt := some v })
       else s)

/-- WEAR_SAMPLE (R400): once a second. -/
def execWearSample (s : State) : Res State :=
  .next <|
    if s.flag rTH_CFG fTH_CFG_WEAR_LOCK && s.thermalRuns then
      let s1 := if s.powerState ≤ 1 then s.wrapAdd rTH_WEAR_SEC fTH_WEAR_SEC_SEC 1 else s
      match s1.th.tl with
      | some v => s1.wearStep v
      | none => s1
    else s

/-- Entry to RETAIN, BRUMATION or OFF closes the open half-cycle (R400). -/
def State.wearClose (s : State) : State :=
  if s.flag rTH_CFG fTH_CFG_WEAR_LOCK then
    match s.th.tl with
    | some v => (s.halfCycle v).modTh (fun t => { t with wearExt := none })
    | none => s
  else s

/-- Writing WEAR_LOCK = 1 (R400); a write of 0 is ignored. -/
def State.wearLock (s : State) : State := s.setFlag rTH_CFG fTH_CFG_WEAR_LOCK

/-- WEAR_LOCK. -/
def execWearLock (port : Port) (s : State) : Res State := .next <| s.access port rTH_CFG State.wearLock

/-! ## Register writes of the TH_ window -/

def State.thRej (s : State) : State := s.setFlag rTH_STATUS fTH_STATUS_CFG_REJ

/-- TH_CFG. -/
def State.thCfgWrite (s : State) (w : Word) : State :=
  let k := fTH_CFG_FLOW_K.get w
  let s1 := (s.wf rTH_CFG fTH_CFG_R_NOM (fTH_CFG_R_NOM.get w)).wf rTH_CFG fTH_CFG_OUT_EN (fTH_CFG_OUT_EN.get w)
  let s2 := if 100 ≤ k ∧ k ≤ 10000 then s1.wf rTH_CFG fTH_CFG_FLOW_K k else s1.thRej
  if fTH_CFG_WEAR_LOCK.get w = 1 then s2.wearLock else s2

/-- Four thresholds in strict order. -/
def fallsOrder (a b c d : Nat) : Bool := decide (b < a ∧ c < b ∧ d < c)

def State.thFlowWrite (s : State) (w : Word) : State :=
  if fallsOrder (fTH_LVL_FLOW_FLOW1.get w) (fTH_LVL_FLOW_FLOW2.get w) (fTH_LVL_FLOW_FLOW3.get w) (fTH_LVL_FLOW_FLOW4.get w)
  then s.setReg rTH_LVL_FLOW w else s.thRej

def State.thRjcWrite (s : State) (w : Word) : State :=
  if fallsOrder (fTH_LVL_RJC_RJC4.get w) (fTH_LVL_RJC_RJC3.get w) (fTH_LVL_RJC_RJC2.get w) (fTH_LVL_RJC_RJC1.get w)
  then s.setReg rTH_LVL_RJC w else s.thRej

def State.thHeadWrite (s : State) (w : Word) : State :=
  if fallsOrder (fTH_LVL_HEAD_HEAD1.get w) (fTH_LVL_HEAD_HEAD2.get w) (fTH_LVL_HEAD_HEAD3.get w) (fTH_LVL_HEAD_HEAD4.get w)
  then s.setReg rTH_LVL_HEAD (BitVec.ofNat 64 (bits w.toNat 63 32 * 2 ^ 32 + bits w.toNat 7 0)) else s.thRej

/-- TH_CLAMP_CFG: its fields store the nearest legal value (Table 18.7). -/
def State.thClampWrite (s : State) (w : Word) : State :=
  let k := fTH_CLAMP_CFG_RATE_KPS.get w
  let n := fTH_CLAMP_CFG_RATE_NSENS.get w
  let s1 := s.wf rTH_CLAMP_CFG fTH_CLAMP_CFG_FLOW_TMO_MS (max 50 (min 200 (fTH_CLAMP_CFG_FLOW_TMO_MS.get w)))
  let s2 := s1.wf rTH_CLAMP_CFG fTH_CLAMP_CFG_RATE_KPS (max 1 (min 5 k))
  let s3 := s2.wf rTH_CLAMP_CFG fTH_CLAMP_CFG_RATE_NSENS (if n = 2 then 2 else 3)
  let s4 := s3.wf rTH_CLAMP_CFG fTH_CLAMP_CFG_DT_PWR_W (fTH_CLAMP_CFG_DT_PWR_W.get w)
  let s5 := (s4.wf rTH_CLAMP_CFG fTH_CLAMP_CFG_CLAMP_AUTO (fTH_CLAMP_CFG_CLAMP_AUTO.get w)).clampFreed
  if fTH_CLAMP_CFG_CLAMP_CLR.get w = 1 then s5.clampClr else s5

/-- Basking tiles above the cap stop, the highest-numbered first. [DESIGN CHOICE, log entry 118] -/
def State.baskTrim (s : State) : State :=
  if s.baskCap < s.baskTiles.length then ((s.baskTiles.drop s.baskCap).foldl State.stopBask s).baskCount else s

/-- TH_BASK. -/
def State.thBaskWrite (s : State) (w : Word) : State :=
  let s1 := (s.wf rTH_BASK fTH_BASK_BAND_K (fTH_BASK_BAND_K.get w)).wf rTH_BASK fTH_BASK_LIFT_K (fTH_BASK_LIFT_K.get w)
  let s2 := s1.wf rTH_BASK fTH_BASK_MAX_W (min 40 (fTH_BASK_MAX_W.get w))
  (s2.wf rTH_BASK fTH_BASK_BASK_EN (fTH_BASK_BASK_EN.get w)).baskTrim

/-- The wear registers are RW while WEAR_LOCK = 0 and RO while it is 1 (R400). -/
def State.wearWrite (s : State) (a : Addr) (w mask : Word) : State :=
  if s.flag rTH_CFG fTH_CFG_WEAR_LOCK then s else s.setReg a (w &&& mask)

end Sys2Proof.Machine
end

