-- ==== Sys2Proof/Machine/MemSys.lean ====
section
/-!
DEFINITION. The memory system (R246–R267): interleave, cache slices, controller queues, data
errors, fences, interface delays, refresh and maintenance.
-/
namespace Sys2Proof.Machine

/-! ## Places -/

/-- [DESIGN CHOICE, log entry 55] -/
def State.slice (s : State) (c : Nat) : Slice := s.ms.slices[c]?.getD {}
def State.modSlice (s : State) (c : Nat) (f : Slice → Slice) : State := s.modMs (fun m => { m with slices := modAt m.slices c f })
/-- [DESIGN CHOICE, log entry 55] -/
def State.mc (s : State) (c : Nat) : Mc := s.ms.mcs[c]?.getD {}
def State.modMc (s : State) (c : Nat) (f : Mc → Mc) : State := s.modMs (fun m => { m with mcs := modAt m.mcs c f })

/-- Local address of a line in its pseudo-channel, in lines (R247). -/
def localLine (line : Nat) : Nat := line / 128 * 2 + line % 2

/-- Set of a line in its slice (R249). -/
def setOf (line : Nat) : Nat := Nat.xor (localLine line % 512) (localLine line / 512 % 512)

/-- Bank and row of a line (R248, Table 11.2): the bank numbered with its group and SID. -/
def bankOf (line : Nat) : Nat := localLine line / 2 % 16 + localLine line / 2 ^ 21 * 16
def rowOf (line : Nat) : Nat := localLine line / 2 ^ 7 % 2 ^ 14

def mcONLINE : Nat := 1
def mcSELF : Nat := 2
def mcREINIT : Nat := 4

def State.setMcState (s : State) (c v : Nat) : State := s.wf (rMC_STATUS c) fMC_STATUS_STATE v

/-! ## Sector masks -/

/-- Sectors of a byte mask that are touched, and those that are whole. -/
def secTouched (mask : Nat) : Nat := ((List.range 4).map (fun i => if bits mask (32 * i + 31) (32 * i) = 0 then 0 else 2 ^ i)).sum
def secWhole (mask : Nat) : Nat := ((List.range 4).map (fun i => if bits mask (32 * i + 31) (32 * i) = 2 ^ 32 - 1 then 2 ^ i else 0)).sum

/-- Sectors of one mask that are not in another. -/
def without (a b : Nat) : Nat := a - Nat.land a b

def secList (m : Nat) : List Nat := (List.range 4).filter (fun i => Nat.testBit m i)
/-- Sector numbers of a line's sectors. -/
def secUnits (line m : Nat) : List Nat := (secList m).map (fun i => line * 4 + i)

/-- Sectors of a line that read as poison. -/
def State.linePoison (s : State) (line : Nat) : Nat :=
  ((List.range 4).map (fun i => if s.mem.poisoned (line * 128 + 32 * i) 32 then 2 ^ i else 0)).sum

/-- The bytes of a masked write go to memory; whole sectors lose their poison. -/
def State.writeMasked (s : State) (line mask data : Nat) : State :=
  let part := (List.range 128).foldl (fun (m : Mem) i =>
    if Nat.testBit mask i then m.setByte (line * 128 + i) (BitVec.ofNat 8 (bytesOf data i 1)) else m) s.mem
  s.modMem (fun _ => (secList (secWhole mask)).foldl (fun m i => m.clean (line * 128 + 32 * i) 32) part)

/-! ## Controller queues (R254–R258) -/

/-- Sectors of a line that the write queue holds. -/
def Mc.held (m : Mc) (line : Nat) : Nat := (m.wq.filter (fun e => e.line == line)).foldl (fun a e => Nat.lor a e.mask) 0

/-- RQ and WQ follow the queues (Table 11.7). -/
def State.mcCounts (s : State) (c : Nat) : State :=
  (s.wf (rMC_STATUS c) fMC_STATUS_RQ (s.mc c).rq.length).wf (rMC_STATUS c) fMC_STATUS_WQ (s.mc c).wq.length

/-- Drain mode starts at HWM entries and ends at LWM or fewer (R256). -/
def State.drainCheck (s : State) (c : Nat) : State :=
  let n := (s.mc c).wq.length
  if s.rf (rMC_CFG c) fMC_CFG_HWM ≤ n then s.wf (rMC_STATUS c) fMC_STATUS_DRAIN 1
  else if n ≤ s.rf (rMC_CFG c) fMC_CFG_LWM then s.wf (rMC_STATUS c) fMC_STATUS_DRAIN 0
  else s

/-- A write merges into the newest entry of its line where no read came since, or takes a new one. -/
def mergeWrite : List WrEntry → WrEntry → Option (List WrEntry)
  | [], _ => none
  | e :: r, w =>
    match mergeWrite r w with
    | some r' => some (e :: r')
    | none =>
      if e.line = w.line ∧ e.read = false ∧ !(r.any (fun x => x.line == w.line)) then
        some ({ e with mask := Nat.lor e.mask w.mask, seq := w.seq } :: r)
      else none

/-- A controller accepts a write (R254, R258). -/
def State.acceptWrite (s : State) (c line mask cls : Nat) : State :=
  let m := s.mc c
  let w : WrEntry := { line := line, mask := mask, cls := cls, seq := m.seq, read := false }
  let q := match mergeWrite m.wq w with
    | some q => q
    | none => m.wq ++ [w]
  ((s.modMc c (fun m => { m with wq := q, seq := m.seq + 1 })).mcCounts c).drainCheck c

/-- A controller accepts a read: it copies what the write queue holds (R257). -/
def State.acceptRead (s : State) (c line mask urg cls : Nat) : State :=
  let m := s.mc c
  let e : RdEntry :=
    { line := line, mask := mask, urg := urg, cls := cls, cyc := s.fabCycle, seq := m.seq, issued := false
      copied := Nat.land mask (m.held line), data := s.memNat (line * 128) 128, poison := Nat.land mask (s.linePoison line) }
  (s.modMc c (fun m =>
    { m with
      rq := m.rq ++ [e], seq := m.seq + 1
      wq := m.wq.map (fun x => if x.line = line then { x with read := true } else x) })).mcCounts c

/-- A controller, or a cache slice, returns data. -/
def State.returns (s : State) (c : Nat) (r : Returned) : State := s.modMc c (fun m => { m with out := r :: m.out })

/-! ## Lines of a slice -/

/-- A line of a slice, where it is held. -/
def Slice.find (x : Slice) (line : Nat) : Option CLine := x.lines.find? (fun l => l.line == line)
def State.modLine (s : State) (c line : Nat) (f : CLine → CLine) : State :=
  s.modSlice c (fun x => { x with lines := x.lines.map (fun l => if l.line = line then f l else l) })

/-- Sectors become poison where their line is in the cache. The mark stands there alone for a sector that is not written back
and whose home does not read as poison. -/
def State.poisonCached (s : State) (c line mask : Nat) : State :=
  if ((s.slice c).find line).isSome then
    (s.modMem (fun m => { m with poison := (secUnits line mask).foldl setIns m.poison })).modLine c line
      (fun l => { l with bad := Nat.lor l.bad (without mask (Nat.lor (s.linePoison line) (Nat.lor l.dirty l.pend))) })
  else s

/-- Sectors of a line that the slice holds. -/
def State.cached (s : State) (c line : Nat) : Nat := (((s.slice c).find line).map (·.present)).getD 0

/-- Sectors come back into their line (R251): they are present, and those a write waits to merge into are dirty. -/
def CLine.fill (l : CLine) (mask : Nat) : CLine :=
  { l with
    present := Nat.lor l.present mask, dirty := Nat.lor l.dirty (Nat.land l.pend mask), pend := without l.pend mask
    bad := without l.bad (Nat.land l.pend mask) }

/-- A write that has all its sectors is sent (R251), and its bytes become those of its sectors (R257); a sector `ue` that
came back uncorrectable is sent as poison. A dead controller discards it. -/
def State.sendMerged (s : State) (c ue : Nat) (w : Merging) : State :=
  if s.mcDead c then s.bump (rMC_POISON_CNT c) fMC_POISON_CNT_WDROP_CNT 1
  else
    ((s.acceptWrite c w.line w.mask w.cls).writeMasked w.line w.bytes w.data).modMem (fun m =>
      { m with poison := (secUnits w.line (Nat.land ue w.wait)).foldl setIns m.poison })

/-- The sectors that a write which does not allocate waits for come back by its own fetch (R251). -/
def State.mergeBack (s : State) (c fetch ue : Nat) : State :=
  ((s.slice c).merging.filter (fun w => w.fetch == fetch)).foldl (fun x w => x.sendMerged c ue w)
    (s.modSlice c (fun x => { x with merging := x.merging.filter (fun w => w.fetch != fetch) }))

/-- The sectors of a fetch come back from the controller, `ue` of them uncorrectable: the slice takes those it does not hold
yet, and the requester has them. -/
def State.fillBack (s : State) (c line mask ue poison data fetch : Nat) : State :=
  (((s.poisonCached c line (without ue (s.cached c line))).modLine c line (fun l => l.fill mask)).mergeBack c fetch ue).returns c
    { line := line, mask := mask, poison := poison, data := data }

/-- A controller that drains enters self-refresh once its queues are empty (R267). -/
def State.sleepCheck (s : State) (c : Nat) : State :=
  if (s.mc c).closing && (s.mc c).rq == [] && (s.mc c).wq == [] then
    (((s.modMc c (fun m => { m with closing := false, rows := [] })).wf (rMC_STATUS c) fMC_STATUS_DRAIN 0)).setMcState c mcSELF
  else s

/-- The read queue lost an entry. -/
def State.dropRead (s : State) (c seq : Nat) : State :=
  let s1 := s.modMc c (fun m => { m with rq := m.rq.filter (fun e => e.seq != seq) })
  let s2 := if (s1.mc c).rq = [] then s1.modMc c (fun m => { m with emptyAt := s.fabCycle }) else s1
  (s2.mcCounts c).sleepCheck c

/-- READ_FORWARD (R257): the oldest read wholly held by the write queue is answered. -/
def execReadForward (pc : Nat) (s : State) : Res State :=
  .next <|
    match (s.mc pc).rq.find? (fun e => e.copied == e.mask && decide (e.cyc + 8 ≤ s.fabCycle)) with
    | some e =>
      ((s.fillBack pc e.line e.mask 0 e.poison e.data e.seq).dropRead pc e.seq).bump (rMC_HAZ_CNT pc) fMC_HAZ_CNT_FWD_CNT 1
    | none => s

/-! ## Command choice (R255) -/

/-- What a controller can issue. A row command prepares the bank of a chosen request. -/
inductive McCmd where
  | refresh
  | replay
  | activate (line : Nat)
  | precharge (line : Nat)
  | read (seq : Nat)
  | write (seq : Nat)
  deriving DecidableEq, Repr

/-- A write may issue: no earlier entry of its line, and no read of its line accepted before its
last write still to be issued or answered (R258). -/
def Mc.writeFree (m : Mc) (w : WrEntry) : Bool :=
  !(m.wq.any (fun x => x.line == w.line && decide (x.seq < w.seq)))
  && !(m.rq.any (fun e => e.line == w.line && !e.issued && decide (e.seq < w.seq)))

def Mc.open (m : Mc) (line : Nat) : Bool := mapGet m.rows (bankOf line) == some (rowOf line)

/-- The command that serves a request of a line: its column command where its row is open, else the row command its bank
needs first (R255). -/
def Mc.serve (m : Mc) (line : Nat) (k : McCmd) : McCmd :=
  if m.open line then k else if (mapGet m.rows (bankOf line)).isSome then .precharge line else .activate line

/-- The first of a list that satisfies a test, else the first. -/
def preferFirst {α : Type} (p : α → Bool) (l : List α) : Option α :=
  match l.find? p with
  | some x => some x
  | none => l.head?

/-- The request the order of R255 chooses, with its line, among those whose stack timing is met. -/
def State.chooseReq (s : State) (c : Nat) (met : List Nat) : Option (Nat × McCmd) :=
  let m := s.mc c
  let now := s.fabCycle
  let reads := m.rq.filter (fun e => !e.issued && e.copied != e.mask && met.contains e.seq)
  let writes := m.wq.filter (fun w => met.contains w.seq && m.writeFree w)
  let drain := s.flag (rMC_STATUS c) fMC_STATUS_DRAIN || m.closing
  let rd := fun (e : Option RdEntry) => e.map (fun e => (e.line, McCmd.read e.seq))
  let wr := (preferFirst (fun w => m.open w.line) writes).map (fun w => (w.line, McCmd.write w.seq))
  ((((rd (reads.find? (fun e => e.urg == 3))).orElse (fun _ => if drain then wr else none)).orElse
    (fun _ => rd (reads.find? (fun e => decide (e.cyc + s.rf (rMC_CFG c) fMC_CFG_READ_AGE_MAX < now))))).orElse
    (fun _ => rd (preferFirst (fun e => m.open e.line) reads))).orElse
    (fun _ => if !drain && m.rq == [] && decide (m.emptyAt + s.rf (rMC_CFG c) fMC_CFG_IDLE_DRAIN ≤ now) then wr else none)

/-- The first command in the order of R255 whose stack timing is met: `met` are the order numbers of the entries of which that
is so, `refresh` says it of a refresh. A refresh that is due waits for a replay (R260), and goes with a commit that is pending
(R265), nothing before it. [DEDUCED, log entry 114] -/
def State.chooseCmd (s : State) (c : Nat) (met : List Nat) (refresh : Bool) : Option McCmd :=
  let m := s.mc c
  if m.replay ≠ [] then some .replay
  else if m.refDue ≠ 0 ∧ s.flag (rMC_DLY_CTRL c) fMC_DLY_CTRL_PENDING then none
  else if m.refDue ≠ 0 ∧ refresh then some .refresh
  else (s.chooseReq c met).map (fun p => m.serve p.1 p.2)

/-- Banks of a pseudo-channel (Table 11.1). -/
def State.mcBanks (s : State) : Nat := s.fuses.hbmGib

/-- A command enters the retry buffer of the last 16 (R260). -/
def Mc.issue (m : Mc) (kind line : Nat) : Mc := { m with retry := ((kind, line) :: m.retry).take 16 }

/-- A command issues. A refresh closes the row of its bank; the banks are refreshed in turn. [PRESUMED, log entry 104] -/
def State.issueCmd (s : State) (c : Nat) : McCmd → State
  | .refresh =>
    s.modMc c (fun m => { (m.issue 0 0) with
      refDue := m.refDue - 1, rows := mapDel m.rows m.refBank, refBank := (m.refBank + 1) % s.mcBanks })
  | .replay => s.modMc c (fun m => { m with replay := m.replay.drop 1 })
  | .activate l => s.modMc c (fun m => { (m.issue 3 l) with rows := mapPut m.rows (bankOf l) (rowOf l) })
  | .precharge l => s.modMc c (fun m => { (m.issue 4 l) with rows := mapDel m.rows (bankOf l) })
  | .read q =>
    s.modMc c (fun m =>
      match m.rq.find? (fun e => e.seq == q) with
      | some e => { (m.issue 1 e.line) with rq := m.rq.map (fun x => if x.seq = q then { x with issued := true } else x) }
      | none => m)
  | .write q =>
    (((s.modMc c (fun m =>
      match m.wq.find? (fun e => e.seq == q) with
      | some e => { (m.issue 2 e.line) with wq := m.wq.filter (fun x => x.seq != q) }
      | none => m)).mcCounts c).drainCheck c).sleepCheck c

/-- MC_COMMAND_ISSUE (R255, R256, R258). [DESIGN CHOICE, log entry 56] -/
def execMcCommandIssue (pc : Nat) (met : List Nat) (refresh : Bool) (s : State) : Res State :=
  .next <|
    if s.mcState pc ≠ mcONLINE then s
    else
      match s.chooseCmd pc met refresh with
      | some k => s.issueCmd pc k
      | none => s

/-! ## Stack data (R257, R259) -/

/-- Sectors by the code the stack's check gives them: 0 right, 1 corrected, 2 uncorrectable. -/
def codesMask (codes : List Nat) (mask v : Nat) : Nat :=
  ((List.range 4).map (fun i => if Nat.testBit mask i && codes.getD i 0 == v then 2 ^ i else 0)).sum

def popcount4 (m : Nat) : Nat := (secList m).length

/-- STACK_READ_DATA (R257, R259): data of an issued read; a sector that held the poison code at the read's acceptance
counts in PCODE_CNT, whatever its check says. [DESIGN CHOICE, log entry 56] -/
def execStackReadData (pc seq : Nat) (codes : List Nat) (s : State) : Res State :=
  .next <|
    match (s.mc pc).rq.find? (fun e => e.seq == seq && e.issued) with
    | none => s
    | some e =>
      let asked := without e.mask e.copied
      let coded := Nat.land asked e.poison
      let ue := without (codesMask codes asked 2) coded
      let ce := without (codesMask codes asked 1) coded
      let s1 := (s.bump (rMC_ECC_CNT pc) fMC_ECC_CNT_CE_CNT (popcount4 ce)).bump (rMC_ECC_CNT pc) fMC_ECC_CNT_UE_CNT (popcount4 ue)
      let s2 := s1.bump (rMC_POISON_CNT pc) fMC_POISON_CNT_PCODE_CNT (popcount4 coded)
      let s3 := if e.copied = 0 then s2 else s2.bump (rMC_HAZ_CNT pc) fMC_HAZ_CNT_MERGE_CNT 1
      (s3.fillBack pc e.line e.mask ue (Nat.lor e.poison ue) e.data e.seq).dropRead pc seq

/-! ## Fences (R260–R262) -/

/-- Good sectors of a pseudo-channel that the cache holds. -/
def State.cachedGood (s : State) (c : Nat) : List Nat :=
  (s.slice c).lines.flatMap (fun l => secUnits l.line (without l.present (s.linePoison l.line)))

/-- The sectors of a pseudo-channel hold nothing good but what the cache holds (R261, R262). -/
def State.loseStack (s : State) (c : Nat) : State :=
  let good := s.cachedGood c
  s.modMem (fun x =>
    { x with
      lost := setIns x.lost c, saved := good.foldl setIns (x.saved.filter (fun u => pcOf (u * 32) != c))
      cacheOnly := good.foldl setIns (x.cacheOnly.filter (fun u => pcOf (u * 32) != c)) })

/-- A fence (R261): every queued read returns poison, and every queued write is discarded and counted.
[DESIGN CHOICE, log entry 55] -/
def State.fence (s : State) (c : Nat) : State :=
  let m := s.mc c
  let s1 := s.bump (rMC_POISON_CNT c) fMC_POISON_CNT_WDROP_CNT m.wq.length
  let s2 := (((s1.wf (rMC_STATUS c) fMC_STATUS_DRAIN 0).setMcState c mcFENCED).bump (rMC_PAR_CNT c) fMC_PAR_CNT_FENCE_CNT 1).loseStack c
  let s3 := (s2.modMc c (fun m => { m with rq := [], wq := [], rows := [], retry := [], replay := [], closing := false })).mcCounts c
  m.rq.foldl (fun x e => x.fillBack c e.line e.mask e.mask e.mask 0 e.seq) s3

/-- PARITY_ERROR (R260): `r.fails` replays fail before one succeeds, and after three the pseudo-channel is fenced; else the last
`r.left` commands of the retry buffer, which the stack has not executed, are to be replayed. [DESIGN CHOICE, log entry 56] -/
def execParityError (pc : Nat) (r : Replays) (s : State) : Res State :=
  .next <|
    if s.mcState pc ≠ mcONLINE then s
    else
      let s1 := s.bump (rMC_PAR_CNT pc) fMC_PAR_CNT_REPLAY_CNT (min 3 (r.fails + 1))
      if 3 ≤ r.fails then s1.fence pc else s1.modMc pc (fun m => { m with replay := (m.retry.take r.left).reverse })

/-- CFG_ERR of a controller. -/
def State.mcCfgErr (s : State) (c : Nat) : State := s.setFlag (rMC_STATUS c) fMC_STATUS_CFG_ERR

/-- REINIT = 1 (R262). -/
def State.mcReinit (s : State) (c : Nat) : State :=
  if s.mcState c = mcFENCED then s.setMcState c mcREINIT else s.mcCfgErr c

/-- A write of MC_CFG (R256, R262). -/
def State.mcCfgWrite (s : State) (c : Nat) (w : Word) : State :=
  let hwm := fMC_CFG_HWM.get w
  if hwm = 0 ∨ 48 < hwm ∨ hwm ≤ fMC_CFG_LWM.get w ∨ fMC_CFG_READ_AGE_MAX.get w = 0 ∨ fMC_CFG_IDLE_DRAIN.get w = 0 then s.mcCfgErr c
  else
    let s1 := (s.plainWrite (rMC_CFG c) w).drainCheck c
    if fMC_CFG_REINIT.get w = 1 then s1.mcReinit c else s1

/-- MC_REINIT (R262): the present configuration is written back with REINIT = 1. -/
def execMcReinit (port : Port) (pc : Nat) (s : State) : Res State :=
  .next <|
    if pc < 64 then s.access port (rMC_CFG pc) (fun s => s.mcCfgWrite pc (fMC_CFG_REINIT.set (s.reg (rMC_CFG pc)) 1)) else s

/-! ## Interface delays (R263–R265) -/

/-- The delay record in the shadow registers, without its CRC (Table 11.5). -/
def State.shadowDelay (s : State) (c : Nat) : Nat :=
  (s.reg (rMC_DLY_BASE c)).toNat % 65536
    + ((List.range 3).map (fun k => (s.reg (rMC_DLY_RD c k)).toNat * 256 ^ (2 + 8 * k))).sum
    + ((List.range 3).map (fun k => (s.reg (rMC_DLY_WR c k)).toNat * 256 ^ (26 + 8 * k))).sum

/-- A fused record with every delay at 0: what stands where the fuses of the model name none. -/
def plainDelay : Nat := crc32c (leBytes 60 0) * 2 ^ 480

/-- The fused record of a pseudo-channel in a band (R264). -/
def State.fusedDelay (s : State) (c band : Nat) : Nat := s.fuses.delays[5 * c + band]?.getD plainDelay

/-- A delay record with its CRC good and its reserved bytes 0. -/
def delayOk (r : Nat) : Bool := bytesOf r 50 10 == 0 && crc32c (leBytes 60 r) == bytesOf r 60 4

/-- The journal's record of a pseudo-channel in a band; a foreign journal's is not used (R419). -/
def State.jnDelay (s : State) (recs : List JRec) (c b : Nat) : Option Nat :=
  if s.flag rJN_STATUS fJN_STATUS_FOREIGN then none
  else ((recs.reverse.find? (fun r => r.type == jnDELAY && r.key == c / 32 * 5 + b)).map (fun r =>
    bytesOf (leNat r.data) (c % 32 * 64) 64)).filter delayOk

/-- The delay record of a pseudo-channel in a band (R407). -/
def State.startDelay (s : State) (recs : List JRec) (c b : Nat) : Option Nat :=
  if delayOk (s.fusedDelay c b) then some (s.fusedDelay c b) else s.jnDelay recs c b

/-- The band loaded. -/
def State.loadBand (s : State) (c b : Nat) : State :=
  (s.wf (rMC_STATUS c) fMC_STATUS_BAND_LOADED b).modMc c (fun m =>
    { m with bandAt := if b = s.rf (rMC_STATUS c) fMC_STATUS_BAND_SEEN then none else m.bandAt })

/-- REINIT_COMPLETE (R262, R407): without a delay record that is usable the interface is not re-initialised. -/
def execReinitComplete (pc : Nat) (ok : Bool) (s : State) : Res State :=
  .next <|
    if s.mcState pc ≠ mcREINIT then s
    else
      let b := s.rf (rMC_STATUS pc) fMC_STATUS_BAND_SEEN
      match if ok then s.startDelay s.jnRecs pc b else none with
      | none => ((s.setMcState pc mcFENCED).setFlag (rMC_STATUS pc) fMC_STATUS_REINIT_FAIL).modMc pc (fun m => { m with closing := false })
      | some d => ((s.setMcState pc mcSCRUB).loadBand pc b).modMc pc (fun m => { m with delay := d })

/-- SCRUB_COMPLETE (R262): every sector of the stack holds the poison code. Refreshes fall due from here on, unless
self-refresh was ordered meanwhile (R267). -/
def execScrubComplete (pc : Nat) (s : State) : Res State :=
  .next <|
    if s.mcState pc = mcSCRUB then
      (((s.loseStack pc).setMcState pc mcONLINE).modMc pc (fun m => { m with refDue := 0, refSkip := 0, refAt := s.fabNs })).sleepCheck pc
    else s

/-- A write of a shadow register (R265). -/
def State.mcShadowWrite (s : State) (c : Nat) (a : Addr) (w : Word) : State :=
  if s.flag (rMC_DLY_CTRL c) fMC_DLY_CTRL_PENDING then s.mcCfgErr c else s.plainWrite a w

/-- A write of MC_DLY_CTRL (R265). -/
def State.mcDlyWrite (s : State) (c : Nat) (w : Word) : State :=
  if s.flag (rMC_DLY_CTRL c) fMC_DLY_CTRL_PENDING then s.mcCfgErr c
  else
    let s1 := s.plainWrite (rMC_DLY_CTRL c) w
    if fMC_DLY_CTRL_COMMIT.get w = 1 then s1.setFlag (rMC_DLY_CTRL c) fMC_DLY_CTRL_PENDING else s1

/-- DELAY_COMMIT (R265). -/
def execDelayCommit (port : Port) (pc : Nat) (val : Word) (s : State) : Res State :=
  .next <|
    if pc < 64 then s.access port (rMC_DLY_CTRL pc) (fun s => s.mcDlyWrite pc (fMC_DLY_CTRL_COMMIT.set val 1)) else s

/-- The shadow record becomes active. -/
def State.switchDelay (s : State) (c : Nat) : State :=
  ((s.clrFlag (rMC_DLY_CTRL c) fMC_DLY_CTRL_PENDING).loadBand c
    (s.rf (rMC_DLY_CTRL c) fMC_DLY_CTRL_SHADOW_BAND)).modMc c (fun m => { m with delay := s.shadowDelay c })

/-- Refreshes that a commit replaces (R265). -/
def commitRefreshes : Nat := 16

/-- DELAY_COMMIT_APPLY (R265): one all-bank refresh stands for the next 16 per-bank refreshes, those that are due first. -/
def execDelayCommitApply (pc : Nat) (s : State) : Res State :=
  .next <|
    if s.mcState pc = mcONLINE ∧ s.flag (rMC_DLY_CTRL pc) fMC_DLY_CTRL_PENDING ∧ (s.mc pc).refDue ≠ 0 ∧ (s.mc pc).replay = [] then
      (s.modMc pc (fun m =>
        { (m.issue 0 0) with
          refDue := m.refDue - commitRefreshes, refSkip := m.refSkip + (commitRefreshes - m.refDue), rows := [] })).switchDelay pc
    else s

/-! ## Temperature and refresh (R263, R266) -/

/-- Lower edge of a band in 1/16 °C (Table 11.4). -/
def bandEdge (b : Nat) : Int := [(-65536 : Int), 0, 640, 1120, 1440].getD b 1440

/-- The band of a temperature (Table 11.4). -/
def bandOf (t : Int) : Nat := ((List.range 5).filter (fun b => decide (bandEdge b ≤ t))).getLastD 0

/-- The band recognised at a temperature: a change needs 2 K inside the new band, past the edge it is entered by.
[DEDUCED, log entry 57] -/
def bandNext (old : Nat) (t : Int) : Nat :=
  let b := bandOf t
  if old < b ∧ bandEdge b + 32 ≤ t ∨ b < old ∧ t + 32 ≤ bandEdge (b + 1) then b else old

/-- Refresh rate code (Table 11.6). -/
def refRate (t : Int) : Nat := if t ≤ 1360 then 0 else if t ≤ 1520 then 1 else 2

/-- Per-bank refresh interval in nanoseconds. -/
def refInterval (rate : Nat) : Nat := if rate = 0 then 244 else if rate = 1 then 122 else 61

/-- A controller takes its stack's governing temperature. -/
def State.mcTemp (s : State) (c : Nat) (t : Int) : State :=
  let a := rMC_STATUS c
  let old := s.rf a fMC_STATUS_BAND_SEEN
  let new := bandNext old t
  let s1 := ((s.wf a fMC_STATUS_TEMP_C (bitsOf 8 (t.fdiv 16))).wf a fMC_STATUS_REF_RATE (refRate t)).wf a fMC_STATUS_BAND_SEEN new
  let since := if new = s.rf a fMC_STATUS_BAND_LOADED then none else some ((s.mc c).bandAt.getD s.dtime)
  if new = old then s1 else (s1.modMc c (fun m => { m with bandAt := since })).raiseIrq irqPM

/-- STACK_TEMPERATURE_READ (R263, R265, R266): stack `stack` reports `own` in 1/16 °C. -/
def execStackTemperatureRead (stack : Nat) (own : Int) (s : State) : Res State :=
  .next <|
    if stack < 2 then
      let s1 := s.modTh (fun t => { t with stack := setAt t.stack stack own })
      (List.range 32).foldl (fun x i => x.mcTemp (32 * stack + i) (s1.bandTemp stack)) s1
    else s

/-- BAND_STALE_TIMEOUT (R265): set and counted 100 ms after the band seen left the band loaded. [DEDUCED, log entry 57] -/
def execBandStaleTimeout (pc : Nat) (s : State) : Res State :=
  .next <|
    let a := rMC_STATUS pc
    match (s.mc pc).bandAt with
    | some t =>
      if pc < 64 ∧ s.rf a fMC_STATUS_BAND_LOADED ≠ s.rf a fMC_STATUS_BAND_SEEN ∧ t + 100000000 ≤ s.dtime then
        (s.setFlag a fMC_STATUS_BAND_STALE).modMc pc (fun m => { m with bandAt := none, stale := m.stale + 1 })
      else s
    | none => s

/-- REFRESH_DUE (R266): one more per-bank refresh, but for those a commit has replaced; the interval runs on the fabric clock,
which no correction of DTIME moves. [DESIGN CHOICE, log entry 4] -/
def execRefreshDue (pc : Nat) (s : State) : Res State :=
  .next <|
    let m := s.mc pc
    let next := m.refAt + refInterval (s.rf (rMC_STATUS pc) fMC_STATUS_REF_RATE)
    if s.mcState pc = mcONLINE ∧ next ≤ s.fabNs then
      s.modMc pc (fun m =>
        if m.refSkip = 0 then { m with refDue := m.refDue + 1, refAt := next } else { m with refSkip := m.refSkip - 1, refAt := next })
    else s

/-! ## Evictions and maintenance (R250, R251, R253) -/

/-- A line leaves the cache: what its sectors held good there alone is gone. -/
def State.forgetOnly (s : State) (line : Nat) : State :=
  s.modMem (fun m =>
    let us := (secUnits line 15).filter (fun u => m.cacheOnly.contains u)
    { m with saved := us.foldl setDel m.saved, cacheOnly := us.foldl setDel m.cacheOnly })

/-- A line's sectors are good in the cache alone, or in their home too. -/
def State.onlyCached (s : State) (line mask : Nat) (b : Bool) : State :=
  s.modMem (fun m => if b then m.inCache (m.ofLost (secUnits line mask)) else { m with cacheOnly := (secUnits line mask).foldl setDel m.cacheOnly })

/-- A line gives up its dirty sectors: a write of `c`'s controller, or nothing where it is dead. -/
def State.cleanLine (s : State) (c : Nat) (l : CLine) : State :=
  let s1 := s.modLine c l.line (fun x => { x with dirty := 0 })
  if l.dirty = 0 then s1
  else if s.mcDead c then
    (s1.onlyCached l.line l.dirty true).bump (rMC_POISON_CNT c) fMC_POISON_CNT_WDROP_CNT 1
  else s1.onlyCached l.line l.dirty false

/-- Occupancy of a class and its hold (R279). -/
def State.setOcc (s : State) (cls n : Nat) : State :=
  let s1 := s.wf (rSC_CLS_OCC cls) fSC_CLS_OCC_LINES n
  let q := s.rf (rQOS_CLS_REG cls) fQOS_CLS_REG_OCC_MAX
  let b : Fld := { hi := cls, lo := cls }
  if 256 ≤ q then s1.wf rQOS_OCC_STAT b 0
  else if q * 2048 ≤ n then s1.wf rQOS_OCC_STAT b 1
  else if n + 1024 ≤ q * 2048 then s1.wf rQOS_OCC_STAT b 0
  else s1

def State.occAdd (s : State) (cls : Nat) : State := s.setOcc cls (s.rf (rSC_CLS_OCC cls) fSC_CLS_OCC_LINES + 1)
def State.occSub (s : State) (cls : Nat) : State := s.setOcc cls (s.rf (rSC_CLS_OCC cls) fSC_CLS_OCC_LINES - 1)

/-- A line leaves the cache: what stood only here is gone, and a poison mark that stood only here
goes with it. -/
def State.dropLine (s : State) (c : Nat) (line : Nat) : State :=
  match (s.slice c).find line with
  | none => s
  | some l =>
    let s1 := s.modSlice c (fun x => { x with lines := x.lines.filter (fun y => y.line != line) })
    let s2 := (s1.forgetOnly line).modMem (fun m => { m with poison := (secUnits line l.bad).foldl setDel m.poison })
    s2.occSub l.cls

/-- A write of SC_MAINT (R253). -/
def State.scMaintWrite (s : State) (cmd : Nat) : State :=
  if s.flag rSC_MAINT fSC_MAINT_BUSY || (cmd != 1 && cmd != 2) then s
  else (s.setFlag rSC_MAINT fSC_MAINT_BUSY).modMs (fun m =>
      { m with maint := cmd, slices := m.slices.map (fun x => { x with swept := 0 }) })

/-- CLEAN_ALL (R253). -/
def execCleanAll (port : Port) (s : State) : Res State := .next <| s.access port rSC_MAINT (fun s => s.scMaintWrite 1)
/-- CLEAN_INV_ALL (R253). -/
def execCleanInvAll (port : Port) (s : State) : Res State := .next <| s.access port rSC_MAINT (fun s => s.scMaintWrite 2)

/-- The controller takes the write-backs of some lines. -/
def State.mcRoom (s : State) (c n : Nat) : Bool :=
  s.mcDead c || (s.mcState c == mcONLINE && !(s.mc c).closing && decide ((s.mc c).wq.length + (s.slice c).merging.length + n ≤ 48))

/-- A line's dirty sectors go to the write queue, or are discarded (R251, R254, R261). -/
def State.writeBack (s : State) (c : Nat) (l : CLine) : State :=
  (if l.dirty ≠ 0 ∧ !(s.mcDead c) then s.acceptWrite c l.line l.dirty l.cls else s).cleanLine c l

/-- A slice with every dirty sector written back, and invalid where `inv`: the save of a shut-down (R253, R414). -/
def State.cleanSlice (s : State) (inv : Bool) (c : Nat) : State :=
  let ls := (s.slice c).lines
  let s1 := ls.foldl (fun x l => x.cleanLine c l) s
  if inv then ls.foldl (fun x l => x.dropLine c l.line) s1 else s1

/-- The maintenance command passes one more set of a slice, once the write queue takes its dirty lines (R253). -/
def State.sweepSet (s : State) (c : Nat) : State :=
  let x := s.slice c
  let ls := x.lines.filter (fun l => l.set == x.swept)
  if 512 ≤ x.swept || !s.mcRoom c (ls.filter (fun l => l.dirty != 0)).length || ls.any (fun l => l.pend != 0) then s
  else
    let s1 := ls.foldl (fun y l => y.writeBack c l) s
    (if s.ms.maint = 2 then ls.foldl (fun y l => y.dropLine c l.line) s1 else s1).modSlice c (fun x => { x with swept := x.swept + 1 })

/-- One REFCLK edge of a maintenance command: each slice passes a set. [DESIGN CHOICE, log entry 110] -/
def State.sweepEdge (s : State) : State :=
  if s.flag rSC_MAINT fSC_MAINT_BUSY then (List.range 64).foldl State.sweepSet s else s

/-- MAINTENANCE_COMPLETE (R253): every slice has passed its 512 sets. -/
def execMaintenanceComplete (s : State) : Res State :=
  .next <|
    if s.flag rSC_MAINT fSC_MAINT_BUSY && s.ms.slices.all (fun x => decide (512 ≤ x.swept)) then
      (s.clrFlag rSC_MAINT fSC_MAINT_BUSY).modMs (fun m => { m with maint := 0 })
    else s

/-! ## Self-refresh (R267) -/

/-- The PMC orders self-refresh: the controller accepts nothing more, drains, and enters it with empty queues; a FENCED
controller stays FENCED, and one that is being re-initialised or scrubbed enters it once that has ended. -/
def State.mcSleep (s : State) (c : Nat) : State :=
  if s.mcState c = mcONLINE then (s.modMc c (fun m => { m with closing := true })).sleepCheck c
  else if s.mcState c = mcREINIT ∨ s.mcState c = mcSCRUB then s.modMc c (fun m => { m with closing := true })
  else s

/-- No controller still drains. -/
def State.mcQuiet (s : State) : Bool := s.ms.mcs.all (fun m => !m.closing)

/-- Exit from self-refresh: the shadow record is committed before a request is accepted. Refreshes fall due from here on. -/
def State.mcWake (s : State) (c : Nat) : State :=
  if s.mcState c ≠ mcSELF then s
  else ((s.switchDelay c).setMcState c mcONLINE).modMc c (fun m => { m with refDue := 0, refSkip := 0, refAt := s.fabNs })

end Sys2Proof.Machine
end

