-- ==== Sys2Proof/Machine/Qos.lean ====
section
/-!
DEFINITION. The cache slices at their arbitration and lookup (R249–R252) and the regulation of
the master ports (R268–R279).
-/
namespace Sys2Proof.Machine

def State.portQ (s : State) (p : Nat) : PortQ := s.ms.ports[p]?.getD {}
def State.modPort (s : State) (p : Nat) (f : PortQ → PortQ) : State := s.modMs (fun m => { m with ports := modAt m.ports p f })

/-! ## Buckets (R270–R272) -/

/-- Bytes a request is charged (R270). -/
def charge (mask : Nat) : Nat := 32 * popcount4 (secTouched mask)

/-- A bucket after some cycles of filling, capped at its depth in bytes. -/
def fill (t : Int) (rate cycles depth : Nat) : Int := min (t + rate * cycles) (depth * 256)

/-- Bring a port's buckets up to the present cycle. -/
def State.accrue (s : State) (p : Nat) : State :=
  let b := rQOS_PORT_BKT p
  let c := rQOS_PORT_CEIL p
  s.modPort p (fun q =>
    let n := s.fabCycle - q.cyc
    { q with
      tokens := fill q.tokens (s.rf b fQOS_PORT_BKT_MIN_RATE) n (s.rf b fQOS_PORT_BKT_DEPTH)
      ceil := fill q.ceil (s.rf c fQOS_PORT_CEIL_MAX_RATE) n (s.rf c fQOS_PORT_CEIL_MAX_DEPTH)
      cyc := s.fabCycle })

/-- QOS_PORTp_TOK as it reads: signed, 8 fractional bits. -/
def State.tokWord (s : State) (p : Nat) : Word :=
  let q := (s.accrue p).portQ p
  fQOS_PORT_TOK_CEIL_TOKENS.set (fQOS_PORT_TOK_TOKENS.set 0 (bitsOf 32 q.tokens)) (bitsOf 32 q.ceil)

/-! ## Requests (R268, R276) -/

/-- The 64-byte line of the first byte a request touches: what its region decides by. -/
def firstLine (r : SliceReq) : Nat := r.line * 2 + (if bits r.mask 63 0 = 0 then 1 else 0)

/-- The class of a request made for a descriptor (R158): that of the region that decides it, else the descriptor's. -/
def State.engClass (s : State) (r : SliceReq) : Nat :=
  let own := s.effClass r.ctx (((s.desc r.ctx r.num).map (·.raw)).getD 0)
  match s.regionOf r.ctx (firstLine r) with
  | some k =>
    let b := s.reg (rHUB_CTX_RGN_BASE r.ctx k)
    if fHUB_CTX_RGN_BASE_CLS_EN.get b = 1 then fHUB_CTX_RGN_BASE_CLASS.get b else own
  | none => own

def State.portClass (s : State) (p : Nat) : Nat := s.rf (rQOS_PORT_BKT p) fQOS_PORT_BKT_PORT_CLASS

/-- The class of a request from a peer or PCIe: that of the inbound entry which decides it, else PORT_CLASS (R311). -/
def State.inClass (s : State) (r : SliceReq) : Nat :=
  match s.inboundEntry (if r.ctx = 16 then .pcie else .peer r.ctx) (firstLine r) with
  | some k =>
    let b := s.reg (rCH_INRGN_BASE k)
    if fCH_INRGN_BASE_CLS_EN.get b = 1 then fCH_INRGN_BASE_CLASS.get b else s.portClass r.port
  | none => s.portClass r.port

/-- The class a request carries (Table 12.1); what reaches the test region is test memory traffic (R364, R367). [DEDUCED, log entry 59] -/
def State.classAt (s : State) (r : SliceReq) : Nat :=
  if s.inTestRegion (r.line * 64) then s.rf rHUB_TEST_CFG fHUB_TEST_CFG_TEST_CLASS
  else if r.port < 48 then s.engClass r
  else if r.port < 56 then s.rf rPC_PLAN_CFG fPC_PLAN_CFG_CLASS
  else if 64 ≤ r.port ∧ r.port < 68 then s.inClass r
  else if r.port < 71 then s.portClass r.port
  else s.rf (rHUB_CTX_CFG r.ctx) fHUB_CTX_CFG_CLASS

/-- The urgency a port requests at: only ports 60–63 have a wire. -/
def State.urgOf (s : State) (p : Nat) : Nat := if 60 ≤ p ∧ p ≤ 63 then s.rf (rQOS_PORT_URG p) fQOS_PORT_URG_LEVEL else 0

def State.clsHeld (s : State) (c : Nat) : Bool := s.flag rQOS_OCC_STAT { hi := c, lo := c }

/-- The causes that hold a request (R276): 0 the ceiling, 1 occupancy, 2 a queue quota. -/
def State.holds (s : State) (pc : Nat) (r : SliceReq) : List Nat :=
  let c := s.classAt r
  let m := s.mc pc
  let ceil := s.rf (rQOS_PORT_CEIL r.port) fQOS_PORT_CEIL_MAX_RATE != 0 && decide ((s.portQ r.port).ceil < 0)
  let queue : Bool := match r.write with
    | some _ => decide (s.rf (rQOS_CLS_REG c) fQOS_CLS_REG_WQ_MAX ≤ (m.wq.filter (fun e => e.cls == c)).length)
    | none => decide (s.rf (rQOS_CLS_REG c) fQOS_CLS_REG_RQ_MAX ≤ (m.rq.filter (fun e => e.cls == c)).length)
  if s.urgOf r.port = 3 then []
  else (if ceil then [0] else []) ++ (if s.clsHeld c then [1] else []) ++ (if queue then [2] else [])

def holdFld (cause : Nat) : Fld :=
  if cause = 0 then fQOS_PORT_HOLD_CEIL_HOLD else if cause = 1 then fQOS_PORT_HOLD_OCC_HOLD else fQOS_PORT_HOLD_QUEUE_HOLD

/-- A held request counts once for each cause that holds it. [DEDUCED, log entry 58] -/
def State.countHolds (s : State) (p : Nat) (causes : List Nat) : State :=
  causes.foldl (fun x k =>
    if (x.portQ p).held.contains k then x
    else (x.bump (rQOS_PORT_HOLD p) (holdFld k) 1).modPort p (fun q => { q with held := setIns q.held k })) s

/-! ## Arbitration (R274, R275) -/

/-- The first candidate in port order after the one last served. -/
def robin (last : Nat) : List SliceReq → Option SliceReq
  | [] => none
  | l =>
    let least := fun (x : List SliceReq) =>
      x.foldl (fun (b : Option SliceReq) r => match b with
        | some y => if r.port < y.port then some r else b
        | none => some r) none
    match least (l.filter (fun r => decide (last < r.port))) with
    | some r => some r
    | none => least l

/-- A request of a port whose bucket guarantees it (stage 2). -/
def State.guaranteed (s : State) (r : SliceReq) : Bool :=
  let t := (s.portQ r.port).tokens
  decide (0 ≤ t)
  || (s.urgOf r.port == 2 && decide (-(s.rf (rQOS_PORT_URG r.port) fQOS_PORT_URG_RESERVE : Int) * 256 ≤ t))

/-- The pointer moves to the next class down, and wraps. -/
def Slice.advance (x : Slice) : Slice := { x with ptr := (x.ptr + 15) % 16, came := false }

/-- What a shared grant subtracts from the deficit. -/
def State.shareCost (s : State) (r : SliceReq) : Nat := if s.urgOf r.port = 1 then charge r.mask / 2 else charge r.mask

/-- The round of R275 over the classes of non-zero weight that have a request. [DEDUCED, log entry 58] -/
def State.round (s : State) (cands : List SliceReq) : Nat → Slice → Option (SliceReq × Slice)
  | 0, _ => none
  | n + 1, x =>
    let c := x.ptr
    let w := s.rf (rQOS_CLS_REG c) fQOS_CLS_REG_WEIGHT
    let mine := cands.filter (fun r => s.classAt r == c)
    if w = 0 then s.round cands n x.advance
    else
      match robin (x.lastC.getD c 71) mine with
      | none => s.round cands n { x with deficit := setAt x.deficit c 0 }.advance
      | some r =>
        let d := x.deficit.getD c 0 + (if x.came then 0 else w * 32)
        if charge r.mask ≤ d then
          some (r, { x with came := true, deficit := setAt x.deficit c (d - s.shareCost r), lastC := setAt x.lastC c r.port })
        else s.round cands n { x with deficit := setAt x.deficit c d }.advance

/-- The shared stage: the round, or the highest class of weight 0 where no other class waits. [DEDUCED, log entry 58] -/
def State.shared (s : State) (cands : List SliceReq) (x : Slice) : Option (SliceReq × Slice) :=
  let weight := fun (r : SliceReq) => s.rf (rQOS_CLS_REG (s.classAt r)) fQOS_CLS_REG_WEIGHT
  if cands.any (fun r => weight r != 0) then s.round cands 96 x
  else
    let top := cands.foldl (fun m r => max m (s.classAt r)) 0
    (robin (x.lastC.getD top 71) (cands.filter (fun r => s.classAt r == top))).map
      (fun r => (r, { x with lastC := setAt x.lastC top r.port }))

/-- The pointer leaves each class that has no shared request waiting, with its count at 0, until it stands at one that has. -/
def State.shareMove (s : State) (shared : List SliceReq) : Nat → Slice → Slice
  | 0, x => x
  | n + 1, x =>
    if s.rf (rQOS_CLS_REG x.ptr) fQOS_CLS_REG_WEIGHT = 0 then s.shareMove shared n x.advance
    else if shared.any (fun r => s.classAt r == x.ptr) then x
    else s.shareMove shared n { x with deficit := setAt x.deficit x.ptr 0 }.advance

/-- The pointer of a slice in a cycle, whatever stage decides it (R275): with no weighted class waiting it passes every class
and finds it empty. -/
def State.shareSettle (s : State) (cands : List SliceReq) (x : Slice) : Slice :=
  s.shareMove (cands.filter (fun r => s.urgOf r.port != 3 && !s.guaranteed r)) 16 x

/-- The choice of a slice among requests that are not held: the stage, the request, and the
arbiter after it (R274). -/
def State.arbitrate (s : State) (pc : Nat) (cands : List SliceReq) : Option (Nat × SliceReq × Slice) :=
  let x := s.shareSettle cands (s.slice pc)
  match robin x.last1 (cands.filter (fun r => s.urgOf r.port == 3)) with
  | some r => some (1, r, { x with last1 := r.port })
  | none =>
    match robin x.last2 (cands.filter s.guaranteed) with
    | some r => some (2, r, { x with last2 := r.port })
    | none => (s.shared cands x).map (fun p => (3, p.1, p.2))

/-- A grant is charged to both buckets and counted (R271, R272, Table 12.8). -/
def State.grant (s : State) (stage : Nat) (r : SliceReq) : State :=
  let n := charge r.mask
  let s1 := s.modPort r.port (fun q =>
    { q with tokens := q.tokens - n * 256, ceil := q.ceil - n * 256, head := none, next := s.fabCycle + 1, held := [] })
  if stage = 3 then
    (s1.wrapAdd (rQOS_PORT_SBYTES r.port) fQOS_PORT_SBYTES_SBYTES n).wrapAdd (rQOS_CLS_SHARED (s.classAt r)) fQOS_CLS_SHARED_SHARED n
  else s1.wrapAdd (rQOS_PORT_GBYTES r.port) fQOS_PORT_GBYTES_GBYTES n

/-! ## Lookup (R249–R252) -/

/-- What a lookup needs of its controller: the sectors to read, a line to write back, and the
sectors it sends on as a write. -/
structure Need where
  read  : Nat
  victim : Option CLine
  pass  : Nat
  deriving DecidableEq, Repr

/-- Ways of a class. -/
def State.waysOf (s : State) (c : Nat) : List Nat :=
  (List.range 16).filter (fun w => Nat.testBit (s.rf (rSC_WAYMASK c) fSC_WAYMASK_WAYS) w)

/-- The least recently used of some lines. -/
def lruLine : List CLine → Option CLine
  | [] => none
  | l :: r => match lruLine r with
    | some m => if m.used < l.used then some m else some l
    | none => some l

/-- The way a miss allocates, and the line it displaces (R250); none in a slice whose self-test
failed (R415). -/
def State.allocWay (s : State) (pc set c : Nat) : Option (Nat × Option CLine) :=
  let here := (s.slice pc).lines.filter (fun l => l.set == set)
  let ways := if (s.slice pc).off then [] else s.waysOf c
  match ways.find? (fun w => !(here.any (fun l => l.way == w))) with
  | some w => some (w, none)
  | none => (lruLine (here.filter (fun l => ways.contains l.way))).map (fun l => (l.way, some l))

/-- Sectors a request must find in the slice: all it reads, or those it writes in part (R251). -/
def needed (r : SliceReq) : Nat :=
  match r.write with
  | none => secTouched r.mask
  | some _ => without (secTouched r.mask) (secWhole r.mask)

/-- What the lookup of a request asks of the controller. -/
def State.need (s : State) (pc : Nat) (r : SliceReq) : Need :=
  match (s.slice pc).find r.line with
  | some l => { read := without (needed r) l.present, victim := none, pass := 0 }
  | none =>
    match s.allocWay pc (setOf r.line) (s.classAt r) with
    | some (_, v) => { read := needed r, victim := v, pass := 0 }
    | none => { read := needed r, victim := none, pass := if r.write.isSome then secTouched r.mask else 0 }

def Need.writes (n : Need) : Nat :=
  (if n.pass = 0 then 0 else 1) + match n.victim with
    | some l => if l.dirty = 0 then 0 else 1
    | none => 0

/-- The controller can take what a lookup needs (R254, R267). A write that merges holds its entry, and a line whose fetch is
under way is not displaced. -/
def State.mcTakes (s : State) (pc : Nat) (n : Need) : Bool :=
  let m := s.mc pc
  let free := match n.victim with
    | some l => l.pend == 0
    | none => true
  if n.read = 0 ∧ n.writes = 0 then free
  else if s.mcState pc = mcONLINE ∧ !m.closing then
    free && (n.read == 0 || decide (m.rq.length < 32)) && s.mcRoom pc n.writes
  else s.mcDead pc && free

/-- A line leaves the cache, its dirty sectors written back first. -/
def State.evict (s : State) (pc : Nat) (l : CLine) : State := (s.writeBack pc l).dropLine pc l.line

/-- A read of sectors from the pseudo-channel: queued, or poison where the controller is dead. -/
def State.fetchSectors (s : State) (pc : Nat) (r : SliceReq) (m : Nat) : State :=
  if m = 0 then s
  else if s.mcDead pc then
    let p := Nat.land m (s.linePoison r.line)
    s.fillBack pc r.line m p p (s.memNat (r.line * 128) 128) (s.mc pc).seq
  else s.acceptRead pc r.line m (s.urgOf r.port) (s.classAt r)

/-- A new line in a way, with nothing present yet. -/
def State.placeLine (s : State) (pc way : Nat) (r : SliceReq) : State :=
  let l : CLine :=
    { set := setOf r.line, way := way, line := r.line, present := 0, dirty := 0, bad := 0, cls := s.classAt r, used := 0 }
  (s.modSlice pc (fun x => { x with lines := l :: x.lines })).occAdd (s.classAt r)

/-- A lookup uses a line: it is the newest, and takes the requester's class (R250). -/
def State.useLine (s : State) (pc : Nat) (r : SliceReq) : State :=
  let c := s.classAt r
  let old := (((s.slice pc).find r.line).map (·.cls)).getD c
  let s1 := s.modSlice pc (fun x => { x with clock := x.clock + 1 })
  let s2 := s1.modLine pc r.line (fun l => { l with cls := c, used := (s1.slice pc).clock })
  if old = c then s2 else (s2.occSub old).occAdd c

/-- The bytes of a write go in. Its sectors are dirty, but those still to be fetched, which are so once they are merged (R251);
a partial write keeps a sector's poison, a whole one clears it (R252). -/
def State.writeLine (s : State) (pc : Nat) (r : SliceReq) (data wait : Nat) : State :=
  let t := without (secTouched r.mask) wait
  let s1 := (s.writeMasked r.line r.mask data).modLine pc r.line (fun l =>
    { l with
      present := Nat.lor l.present t, dirty := Nat.lor l.dirty t, bad := without l.bad (secTouched r.mask)
      pend := Nat.lor l.pend wait })
  if s.mcDead pc then s1.onlyCached r.line (secWhole r.mask) true else s1

/-- A request is served in a line that is in the slice. -/
def State.serveLine (s : State) (pc : Nat) (r : SliceReq) : State :=
  let n := s.need pc r
  let s1 := s.useLine pc r
  match r.write with
  | some d =>
    if s.mcDead pc then (s1.fetchSectors pc r n.read).writeLine pc r d 0 else (s1.fetchSectors pc r n.read).writeLine pc r d n.read
  | none =>
    if n.read = 0 then
      s1.returns pc
        { line := r.line, mask := needed r, poison := Nat.land (needed r) (s.linePoison r.line), data := s.memNat (r.line * 128) 128 }
    else s1.fetchSectors pc r n.read

/-- A request of a class that may not allocate (R250): a write with a sector it covers in part waits for that sector and is
sent merged (R251). [DEDUCED, log entry 60] -/
def State.passOn (s : State) (pc : Nat) (r : SliceReq) : State :=
  match r.write with
  | none => s.fetchSectors pc r (needed r)
  | some d =>
    if s.mcDead pc then s.bump (rMC_POISON_CNT pc) fMC_POISON_CNT_WDROP_CNT 1
    else if needed r = 0 then (s.acceptWrite pc r.line (secTouched r.mask) (s.classAt r)).writeMasked r.line r.mask d
    else
      (s.fetchSectors pc r (needed r)).modSlice pc (fun x =>
        { x with merging := x.merging ++
            [{ line := r.line, mask := secTouched r.mask, wait := needed r, cls := s.classAt r, fetch := (s.mc pc).seq
               bytes := r.mask, data := d }] })

/-- Errors of the cache SRAM in a line that is read (R252): `ce` words are corrected, and the present sectors of `ue` are
poison. [DEDUCED, log entry 60] -/
def State.slcError (s : State) (pc line ce ue : Nat) : State :=
  match (s.slice pc).find line with
  | none => s
  | some l =>
    let bad := Nat.land l.present ue
    ((s.poisonCached pc line bad).bump rSC_ECC_CNT fSC_ECC_CNT_CE_CNT ce).bump rSC_ECC_CNT fSC_ECC_CNT_UE_CNT (popcount4 bad)

/-- The lookup of a granted request. [DEDUCED, log entry 59] -/
def State.lookup (s : State) (pc : Nat) (r : SliceReq) (ecc : SlcErr) : State :=
  let c := s.classAt r
  let n := s.need pc r
  let s1 := s.slcError pc r.line ecc.ce ecc.ue
  match (s.slice pc).find r.line with
  | some _ =>
    ((if n.read = 0 then s1.wrapAdd (rSC_CLS_HIT c) fSC_CLS_HIT_HIT 1 else s1.wrapAdd (rSC_CLS_MISS c) fSC_CLS_MISS_MISS 1)).serveLine pc r
  | none =>
    let s2 := s1.wrapAdd (rSC_CLS_MISS c) fSC_CLS_MISS_MISS 1
    match s.allocWay pc (setOf r.line) c with
    | none => s2.passOn pc r
    | some (w, none) => (s2.placeLine pc w r).serveLine pc r
    | some (w, some v) =>
      let s3 := if v.dirty = 0 then s2 else s2.slcError pc v.line ecc.backCe (Nat.land ecc.backUe v.dirty)
      ((s3.evict pc v).placeLine pc w r).serveLine pc r

/-- A head request that can stand at this slice. -/
def State.headOk (s : State) (pc : Nat) (r : SliceReq) : Bool :=
  decide (r.port < 72) && decide (0 < r.mask ∧ r.mask < 2 ^ 128) && decide (r.line * 128 < s.hbmBytes) && pcOf (r.line * 128) == pc

/-- A slice uses its lookup slot: one to a fabric cycle (R249), so a second one is of the next cycle. [DESIGN CHOICE, log entry 103] -/
def State.slot (s : State) (pc : Nat) : State :=
  let s1 := if (s.slice pc).slot = s.fabCycle + 1 then s.modMs (fun m => { m with cyc := s.fabCycle + 1 }) else s
  s1.modSlice pc (fun x => { x with slot := s1.fabCycle + 1 })

/-- A port presents a request: its next one only when the one before it was granted, and one in a cycle (R269). -/
def State.present (s : State) (pc : Nat) (r : SliceReq) : State :=
  if s.headOk pc r && (s.portQ r.port).head.isNone && decide ((s.portQ r.port).next ≤ s.fabCycle) then s.modPort r.port (fun q => { q with head := some r }) else s

/-- The head requests that stand at a slice, by port. -/
def State.headsAt (s : State) (pc : Nat) : List SliceReq := (s.ms.ports.filterMap (·.head)).filter (s.headOk pc)

/-- Cycles in which a slice looked nothing up: its pointer passed the classes that had nothing waiting (R275). -/
def State.shareGap (s : State) (pc : Nat) : State :=
  if (s.slice pc).slot < s.fabCycle then s.modSlice pc (s.shareSettle ((s.headsAt pc).filter (fun r => s.holds pc r == []))) else s

/-- The fabric cycle ends: what changed in it is seen from the next one on (R277). -/
def State.endCycle (s : State) : State := s.modMs (fun m => { m with cyc := s.fabCycle + 1 })

/-- The hold states a cycle's arbitration uses are those of its start: a cycle in which one changes ends (R277). -/
def State.heldSince (s : State) (old : Nat) : State := if s.rf rQOS_OCC_STAT fQOS_OCC_STAT_HELD = old then s else s.endCycle

/-- A slice at its lookup slot with the heads newly presented to it: the state, buckets brought up to the cycle, and those that
may be granted. [DEDUCED, log entry 58] -/
def State.atSlice (s : State) (pc : Nat) (heads : List SliceReq) : State × List SliceReq :=
  let s1 := heads.foldl (fun x r => x.present pc r) ((s.shareGap pc).slot pc)
  let s2 := (s1.headsAt pc).foldl (fun x r => x.accrue r.port) s1
  (s2, (s2.headsAt pc).filter (fun r => s2.holds pc r == []))

/-- CACHE_LOOKUP (R249, R274): one fabric cycle of a slice. [DEDUCED, log entry 58] -/
def execCacheLookup (pc : Nat) (heads : List SliceReq) (ecc : SlcErr) (s : State) : Res State :=
  .next <|
    let (s1, cands) := s.atSlice pc heads
    let s2 := (s1.headsAt pc).foldl (fun x r => x.countHolds r.port (s1.holds pc r)) s1
    match s1.arbitrate pc cands with
    | none => s2.modSlice pc (s1.shareSettle cands)
    | some (stage, r, x) =>
      if s1.mcTakes pc (s1.need pc r) then
        (((s2.modSlice pc (fun _ => x)).grant stage r).lookup pc r ecc).heldSince (s.rf rQOS_OCC_STAT fQOS_OCC_STAT_HELD)
      else s2.modSlice pc (s1.shareSettle cands)

/-! ## Urgency (R278) -/

def urgTh (u : Nat) : Fld := if u = 1 then fQOS_PORT_URG_TH1 else if u = 2 then fQOS_PORT_URG_TH2 else fQOS_PORT_URG_TH3

/-- The level falls while the buffer level is below its threshold. -/
def State.urgFall (s : State) (a : Addr) (level : Nat) : Nat → Nat
  | 0 => 0
  | u + 1 => if level < s.rf a (urgTh (u + 1)) then s.urgFall a level u else u + 1

/-- The urgency that follows a buffer level. [DEDUCED, log entry 59] -/
def State.urgNext (s : State) (a : Addr) (level : Nat) : Nat :=
  let up := ((List.range 4).filter (fun u => u != 0 && decide (s.rf a (urgTh u) < level))).getLastD 0
  let old := s.rf a fQOS_PORT_URG_LEVEL
  if old < up then up else s.urgFall a level old

/-- The urgency of a port follows its buffer level, and a rise to 2 or 3 is counted. -/
def State.evalUrg (s : State) (p : Nat) : State :=
  let a := rQOS_PORT_URG p
  let old := s.rf a fQOS_PORT_URG_LEVEL
  let new := s.urgNext a (s.portQ p).buf
  let s1 := s.wf a fQOS_PORT_URG_LEVEL new
  if old < new ∧ new = 3 then s1.bump (rQOS_PORT_URGCNT p) fQOS_PORT_URGCNT_URG3_CNT 1
  else if old < new ∧ new = 2 then s1.bump (rQOS_PORT_URGCNT p) fQOS_PORT_URGCNT_URG2_CNT 1
  else s1

/-- URGENCY_CHANGE (R278): the buffer level of port `master`, in sixteenths. -/
def execUrgencyChange (master level : Nat) (s : State) : Res State :=
  .next <|
    if 60 ≤ master ∧ master ≤ 63 then ((s.modPort master (fun q => { q with buf := level })).evalUrg master).endCycle else s

/-! ## Shedding (R279) -/

/-- The line a held class sheds in a set: its least recently used. -/
def Slice.shedLine (x : Slice) (set c : Nat) : Option CLine := lruLine (x.lines.filter (fun l => l.set == set && l.cls == c))

/-- A held class sheds its least recently used line of a set. [DEDUCED, log entry 59] -/
def State.shedOne (s : State) (pc set c : Nat) : State :=
  match (s.slice pc).shedLine set c with
  | none => s
  | some l => (s.evict pc l).bump rQOS_OCC_STAT fQOS_OCC_STAT_SHED_CNT 1

/-- The write queue takes what the held classes shed in a set. -/
def State.shedFits (s : State) (pc set : Nat) : Bool :=
  let ls := ((List.range 16).filter s.clsHeld).filterMap ((s.slice pc).shedLine set)
  ls.all (fun l => l.pend == 0) && (ls.all (fun l => l.dirty == 0) || s.mcRoom pc (ls.filter (fun l => l.dirty != 0)).length)

/-- OCCUPANCY_SHED (R279): the slice uses its lookup slot to examine its next set, and waits there until the write queue takes
the lines' dirty sectors. -/
def execOccupancyShed (pc : Nat) (s : State) : Res State :=
  .next <|
    let set := (s.slice pc).shed
    if pc < 64 ∧ s.rf rQOS_OCC_STAT fQOS_OCC_STAT_HELD ≠ 0 then
      let s1 := s.slot pc
      if s1.shedFits pc set then
        ((((List.range 16).filter s1.clsHeld).foldl (fun x c => x.shedOne pc set c) s1).modSlice pc (fun x =>
          { x with shed := (set + 1) % 512 })).heldSince (s.rf rQOS_OCC_STAT fQOS_OCC_STAT_HELD)
      else s1
    else s

/-! ## QOS_ writes (R273, R277–R279) -/

def qosBase : Addr := rQOS_CFG

/-- CFG_ERR of QOS_CFG. -/
def State.qosErr (s : State) : State := s.setFlag rQOS_CFG fQOS_CFG_CFG_ERR

/-- A write of QOS_CFG. [DEDUCED, log entry 59] -/
def State.qosCfgWrite (s : State) (w : Word) : State :=
  if fQOS_CFG_GUAR_MAX.get w < s.rf rQOS_CFG fQOS_CFG_GUAR_SUM then s.qosErr else (s.plainWrite rQOS_CFG w).endCycle

/-- A write of QOS_CLS_REGc: a queue share of 0 stores 1. -/
def State.qosClsWrite (s : State) (c : Nat) (w : Word) : State :=
  let one := fun (f : Fld) (v : Word) => if f.get v = 0 then f.set v 1 else v
  if fQOS_CLS_REG_OCC_MAX.get w = 0 then s.qosErr
  else
    ((s.plainWrite (rQOS_CLS_REG c) (one fQOS_CLS_REG_WQ_MAX (one fQOS_CLS_REG_RQ_MAX w))).setOcc c (s.rf (rSC_CLS_OCC c) fSC_CLS_OCC_LINES)).endCycle

/-- Both buckets are capped at their depths. -/
def State.capBuckets (s : State) (p : Nat) : State :=
  s.modPort p (fun q =>
    { q with
      tokens := min q.tokens (s.rf (rQOS_PORT_BKT p) fQOS_PORT_BKT_DEPTH * 256 : Nat)
      ceil := min q.ceil (s.rf (rQOS_PORT_CEIL p) fQOS_PORT_CEIL_MAX_DEPTH * 256 : Nat) })

/-- A write of QOS_PORTp_BKT (R273). -/
def State.qosBktWrite (s : State) (p : Nat) (w : Word) : State :=
  let a := rQOS_PORT_BKT p
  let old := s.rf rQOS_CFG fQOS_CFG_GUAR_SUM
  let sum := old - s.rf a fQOS_PORT_BKT_MIN_RATE + fQOS_PORT_BKT_MIN_RATE.get w
  if old < sum ∧ s.rf rQOS_CFG fQOS_CFG_GUAR_MAX < sum then s.qosErr
  else ((((s.accrue p).plainWrite a w).wf rQOS_CFG fQOS_CFG_GUAR_SUM sum).capBuckets p).endCycle

/-- A write of QOS_PORTp_URG (R278). -/
def State.qosUrgWrite (s : State) (p : Nat) (w : Word) : State :=
  if fQOS_PORT_URG_TH1.get w < fQOS_PORT_URG_TH2.get w ∧ fQOS_PORT_URG_TH2.get w < fQOS_PORT_URG_TH3.get w then
    ((s.plainWrite (rQOS_PORT_URG p) w).evalUrg p).endCycle
  else s.qosErr

/-- A write of QOS_CLS_SCHEDc (R183, Table 8.1): PRIO 15 is class 15's alone, whose word does not change. -/
def State.qosSchedWrite (s : State) (c : Nat) (w : Word) : State :=
  if c = 15 then s
  else s.plainWrite (rQOS_CLS_SCHED c) (if fQOS_CLS_SCHED_PRIO.get w = 15 then fQOS_CLS_SCHED_PRIO.set w 14 else w)

/-- A write of one of a port's registers, by its offset among them. -/
def State.qosPortWrite (s : State) (p k : Nat) (w : Word) : State :=
  if k = 0 then s.qosBktWrite p w
  else if k = 8 then (((s.accrue p).plainWrite (rQOS_PORT_CEIL p) w).capBuckets p).endCycle
  else if k = 16 then s.qosUrgWrite p w
  else s

/-- A write of one of a port's counters: CLR clears its fields. -/
def State.qosCntWrite (s : State) (p k : Nat) (w : Word) : State :=
  if k = 16 ∧ fQOS_PORT_HOLD_CLR.get w = 1 then s.setReg (rQOS_PORT_HOLD p) 0
  else if k = 24 ∧ fQOS_PORT_URGCNT_CLR.get w = 1 then s.setReg (rQOS_PORT_URGCNT p) 0
  else s

/-- A write to the QOS_ window. -/
def State.qosWrite (s : State) (off : Nat) (w : Word) : State :=
  if off = 0 then s.qosCfgWrite w
  else if 0x100 ≤ off ∧ off < 0x180 then s.qosSchedWrite ((off - 0x100) / 8) w
  else if 0x200 ≤ off ∧ off < 0x280 then s.qosClsWrite ((off - 0x200) / 8) w
  else if off = 0x300 then (if fQOS_OCC_STAT_CLR.get w = 1 then s.wf rQOS_OCC_STAT fQOS_OCC_STAT_SHED_CNT 0 else s)
  else if 0x400 ≤ off ∧ off < 0xD00 then s.qosPortWrite ((off - 0x400) / 32) ((off - 0x400) % 32) w
  else if 0x1000 ≤ off ∧ off < 0x1900 then s.qosCntWrite ((off - 0x1000) / 32) ((off - 0x1000) % 32) w
  else s.plainWrite (qosBase + off) w

/-- QOS_CONFIG_WRITE (R273, R277). -/
def execQosConfigWrite (port : Port) (off : Nat) (val : Word) (s : State) : Res State :=
  .next <| if off % 8 = 0 ∧ off < 65536 then s.access port (qosBase + off) (fun s => s.qosWrite off val) else s

end Sys2Proof.Machine
end

