-- ==== Sys2Proof/Machine/Dma.lean ====
section
/-!
DEFINITION. DMA engines at work on descriptors (R146, R167, R187, R361): where a descriptor
is placed, how its engines accept it, yield and finish.
-/
namespace Sys2Proof.Machine

/-! ## Placement (R146, R167, R297, R378) -/

/-- The die set a descriptor may use: its job's, or every die. -/
def State.jobDies (s : State) (c : Nat) (d : Desc) : Nat :=
  match (s.ctx c).job with
  | some j => if s.inOpenJob c d then j.dies else 15
  | none => 15

/-- Where a descriptor goes: a die, or the status it ends with and the engine it names. -/
inductive Placed where
  | die (d : Nat)
  | fail (st engine : Nat)
  deriving DecidableEq, Repr

/-- Placement by a DIE field: a die in RETAIN is refused, whether or not a job's set could hold it (R146, R378); 0xF takes the first present die of the set from `head` on. -/
def State.placeDie (s : State) (c : Nat) (d : Desc) (field head : Nat) : Placed :=
  let set := s.jobDies c d
  if field < 4 then
    if !s.diePresent field then .fail stDIE_ABSENT (144 + 8 * field)
    else if s.dieRetained field then .fail stSTATE_REFUSED noEngine
    else if !Nat.testBit set field then .fail stDIE_ABSENT (144 + 8 * field)
    else .die field
  else
    match ((List.range 4).map (fun i => (head + i) % 4)).find? (fun x => s.dieUsable x && Nat.testBit set x) with
    | some x => .die x
    | none =>
      if (List.range 4).any (fun x => s.diePresent x && s.dieRetained x) && (List.range 4).all (fun x => !s.diePresent x || s.dieRetained x) then
        .fail stSTATE_REFUSED noEngine
      else .fail stDIE_ABSENT (144 + 8 * (head % 4))

/-- DMA engine `e` may take work of class `cls` at all (R361, R362). -/
def State.dmaFit (s : State) (e cls : Nat) : Bool :=
  !s.testFault (144 + e) && (cls != 15 || !s.untested (144 + e))

/-- DMA engine `e` can accept a descriptor now. -/
def State.dmaOpen (s : State) (e : Nat) (p : Nat × Nat) : Bool :=
  let m := s.dma e
  m.cur.isNone && !s.doneRaised (144 + e) && !(s.unitTest (144 + e)).running && !s.halted
  && (m.yielded.isEmpty || m.yielded.head? == some p)

/-- Up to `n` engines of a die for a descriptor, free ones first, in ascending order. -/
def State.dmaPick (s : State) (die cls n : Nat) (p : Nat × Nat) : List Nat :=
  let fit := ((List.range 8).map (fun i => 8 * die + i)).filter (fun e => s.dmaFit e cls)
  let free := fit.filter (fun e => s.dmaOpen e p)
  let busy := fit.filter (fun e => !s.dmaOpen e p)
  let take := (free ++ busy).take n
  fit.filter (fun e => take.contains e)

/-- The trace fields of a share (Table 20.3). -/
def shareCmd (c : Nat) (d : Desc) (share st : Nat) : TraceCmd :=
  { ctx := c, descId := d.id, aux := share, status := st, attempt := d.attempt }

/-! ## Accepting, yielding and finishing -/

/-- One engine of a started descriptor accepts it, or takes it up again, when it can. -/
def State.dmaAccept (s : State) (c : Nat) (d : Desc) (e share : Nat) : State :=
  if s.dmaOpen e (c, d.num) && s.dmaFit e (s.effClass c d.raw) then
    let again := (s.dma e).yielded.head? == some (c, d.num)
    let s1 := s.modDma e (fun m => { cur := some (c, d.num), yielded := m.yielded.drop 1 })
    let s2 := s1.traceEvent (144 + e) (if again then evLEAP_IN else evBEGIN) (shareCmd c d share 0)
    match s2.desc c d.num with
    | some x => (s2.waitEnd c x s2.dtime).noteUsed c (144 + e) x
    | none => s2
  else s

/-- All engines of a descriptor hold it. -/
def State.dmaHeld (s : State) (c : Nat) (d : Desc) : Bool :=
  !d.units.isEmpty && d.units.all (fun u => (s.dma (u - 144)).cur == some (c, d.num))

/-- The engines of a descriptor let go of it and raise their completion flags (R198). -/
def State.dmaRelease (s : State) (c : Nat) (d : Desc) (st : Nat) : State :=
  (d.units.zipIdx).foldl (fun x u =>
    ((x.modDma (u.1 - 144) (fun m => { m with cur := none })).traceEvent u.1 (if aborts st then evABORT else evEND)
      (shareCmd c d u.2 st)).raiseDone u.1) s

/-- Work of an aborting job goes no further (R192 step 2). -/
def State.jobLive (s : State) (c : Nat) (d : Desc) : Bool :=
  match d.inJob, (s.ctx c).job with
  | some b, some j => j.beginNum == b && j.causes.isEmpty && j.abort.isNone
  | some _, none => false
  | none, _ => true

/-- Engines that may no longer take the descriptor and have not taken it give way to others of the die (R361, R362). [DEDUCED, log
entry 30] -/
def State.dmaRepick (s : State) (c die : Nat) (d : Desc) : List Nat :=
  let cls := s.effClass c d.raw
  let mine := fun (u : Nat) => decide ((s.dma (u - 144)).cur = some (c, d.num)) || (s.dma (u - 144)).yielded.contains (c, d.num)
  d.units.foldl (fun l u =>
    if mine u || s.dmaFit (u - 144) cls then l
    else
      match (((List.range 8).map (fun i => 144 + 8 * die + i)).filter (fun v => s.dmaFit (v - 144) cls && !l.contains v)).head? with
      | some v => l.map (fun x => if x = u then v else x)
      | none => l) d.units

/-- A started descriptor at its engines: they are chosen, accept it as they can, and once
all hold it the transfer `k` runs; `k` answers the status and DETAIL. [DESIGN CHOICE, log entry 31] -/
def State.dmaRun (s : State) (c n die want : Nat) (k : State → Desc → State × Nat × Nat) : State :=
  match s.desc c n with
  | none => s
  | some d0 =>
    let cls := s.effClass c d0.raw
    let s0 :=
      if d0.units.isEmpty then
        s.modDesc c n (fun d => { d with units := (s.dmaPick die cls want (c, n)).map (144 + ·) })
      else s.modDesc c n (fun d => { d with units := s.dmaRepick c die d })
    match s0.desc c n with
    | none => s0
    | some d =>
      let s1 := (d.units.zipIdx).foldl (fun x u => x.dmaAccept c d (u.1 - 144) u.2) s0
      if s1.dmaHeld c d then
        let r := k s1 d
        (r.1.dmaRelease c d r.2.1).finish c n r.2.1 r.2.2
      else s1

/-- The placed run of a started descriptor. -/
def State.dmaPlaced (s : State) (c n : Nat) (p : Placed) (want : Nat) (k : State → Desc → State × Nat × Nat) : State :=
  match p with
  | .fail st e => s.finish c n st (e * 2 ^ 56)
  | .die x => s.dmaRun c n x want k

/-- A DMA descriptor's command: it starts the descriptor when R170 lets it, and carries a
started one on. [DESIGN CHOICE, log entry 31] -/
def State.dmaOp (s : State) (c n : Nat) (mine : Desc → Bool) (place : State → Desc → Placed) (want : Desc → Nat)
    (k : State → Desc → State × Nat × Nat) : State :=
  match s.desc c n with
  | none => s
  | some d =>
    if d.phase = .waiting then
      s.startDesc c n mine (fun s d => s.dmaPlaced c n (place s d) (want d) k)
    else if decide (d.phase = .started) && mine d && s.jobLive c d then
      (match d.units with
       | u :: _ => s.dmaRun c n ((u - 144) / 8) (want d) k
       | [] => s.dmaPlaced c n (place s d) (want d) k)
    else s

/-- Priority of a started descriptor. -/
def State.descPrio (s : State) (c n : Nat) : Nat :=
  match s.desc c n with
  | some d => s.prio (s.effClass c d.raw)
  | none => 0

/-- Started descriptors that wait for DMA engine `e`, as (context, number). -/
def State.dmaWaiting (s : State) (e : Nat) : List (Nat × Nat) :=
  (s.hub.ctxs.mapIdx (fun c x => (c, x))).flatMap (fun p =>
    (p.2.window.filter (fun d => decide (d.phase = .started) && d.units.contains (144 + e) && s.dmaFit e (s.effClass p.1 d.raw)
      && decide ((s.dma e).cur ≠ some (p.1, d.num)) && !((s.dma e).yielded.contains (p.1, d.num)))).map (fun d => (p.1, d.num)))

/-- Share of a descriptor an engine serves. -/
def Desc.shareOf (d : Desc) (e : Nat) : Nat := d.units.idxOf (144 + e)

/-- The engine leaves (c, n) for (c', n'). -/
def State.dmaSwitch (s : State) (e c n c' n' : Nat) : State :=
  match s.desc c n, s.desc c' n' with
  | some d, some d' =>
    let s1 := s.traceEvent (144 + e) evLEAP_OUT (shareCmd c d (d.shareOf e) 0)
    let s2 := s1.modDma e (fun m => { cur := some (c', n'), yielded := (c, n) :: m.yielded })
    let s3 := s2.traceEvent (144 + e) evBEGIN (shareCmd c' d' (d'.shareOf e) 0)
    (s3.waitEnd c' d' s3.dtime).noteUsed c' (144 + e) d'
  | _, _ => s

/-- The engine leaves (c, n) while HALT lasts (R395). -/
def State.dmaHalt (s : State) (e c n : Nat) : State :=
  match s.desc c n with
  | some d =>
    (s.traceEvent (144 + e) evLEAP_OUT (shareCmd c d (d.shareOf e) 0)).modDma e (fun m =>
      { cur := none, yielded := (c, n) :: m.yielded })
  | none => s

/-- DMA_YIELD (R187, R395): at a 4 KiB boundary a DMA engine leaves its descriptor in HALT, or
for a started one of higher PRIO that waits for it, and goes back to it afterwards. Timing
only. -/
def execDmaYield (eng : Nat) (s : State) : Res State :=
  .next <|
    match (s.dma eng).cur with
    | none => s
    | some (c, n) =>
      if s.halted then s.dmaHalt eng c n else
      match pickBy (fun a b => decide (s.descPrio b.1 b.2 < s.descPrio a.1 a.2))
          ((s.dmaWaiting eng).filter (fun p => decide (s.descPrio c n < s.descPrio p.1 p.2))) with
      | none => s
      | some p => s.dmaSwitch eng c n p.1 p.2

/-! ## COPY (R167) -/

/-- ENG_M1 + 1 of a COPY. -/
def copyWant (d : Desc) : Nat := bits d.raw (8 * 38 + 2) (8 * 38) + 1
def copyDie (d : Desc) : Nat := bits d.raw (8 * 38 + 7) (8 * 38 + 4)
def copyBytes (d : Desc) : Nat := d.at 32 5
def copyFills (d : Desc) : Bool := Nat.testBit d.raw (8 * 37)

/-- The share that holds byte `off` of `n` bytes over `e` engines: equal contiguous shares,
the last one takes the remainder. -/
def shareIdx (n e off : Nat) : Nat := if n / e = 0 then e - 1 else min (off / (n / e)) (e - 1)

def shareLen (n e i : Nat) : Nat := if i + 1 = e then n - (e - 1) * (n / e) else n / e

/-- Bytes moved are counted share by share (R434). -/
def State.countShares (s : State) (d : Desc) (n : Nat) : State :=
  (d.units.zipIdx).foldl (fun x u => x.moved u.1 (shareLen n d.units.length u.2)) s

/-- Rows moved are counted share by share: the engines take equal contiguous shares of the rows (R145). -/
def State.countRows (s : State) (d : Desc) (rows rowBytes : Nat) : State :=
  (d.units.zipIdx).foldl (fun x u => x.moved u.1 (shareLen rows d.units.length u.2 * rowBytes)) s

/-- The engine whose share met a failing line. -/
def Desc.engineAt (d : Desc) (n off : Nat) : Nat := d.units.getD (shareIdx n d.units.length off) noEngine

/-- A failed access of a COPY or KV transfer, with the engine of the share. -/
def Desc.failAt (d : Desc) (n base : Nat) (e : AccErr) : Nat × Nat :=
  (e.status, e.detail (d.engineAt n (e.addr - base)))

/-- The transfer of a COPY. [DESIGN CHOICE, log entry 31] -/
def State.copyRun (c : Nat) (s : State) (d : Desc) : State × Nat × Nat :=
  let n := copyBytes d
  let src := d.at 16 8
  let dst := d.at 24 8
  let s0 := if (s.engineErr c .rd src n).isNone then s.windowEcc .rd src n else s
  match s.engRead c src n with
  | .err e => (s0, d.failAt n src e)
  | .ok bs =>
    match s0.engWrite c dst bs with
    | (s1, some e) => (s1, d.failAt n dst e)
    | (s1, none) => (s1.countShares d n, stOK, noEngine * 2 ^ 56)

/-- Byte of the pattern at an address. -/
def fillByte (pattern a : Nat) : Byte := BitVec.ofNat 8 (bytesOf pattern (a % 8) 1)

/-- The transfer of a COPY with FILL = 1. -/
def State.fillRun (c : Nat) (s : State) (d : Desc) : State × Nat × Nat :=
  let n := copyBytes d
  let dst := d.at 24 8
  match s.engWrite c dst ((List.range n).map (fun i => fillByte (d.at 48 8) (dst + i))) with
  | (s1, some e) => (s1, d.failAt n dst e)
  | (s1, none) => (s1.countShares d n, stOK, noEngine * 2 ^ 56)

/-- [DESIGN CHOICE, log entry 31] -/
def copyPlace (c : Nat) (s : State) (d : Desc) : Placed := s.placeDie c d (copyDie d) 0

/-- COPY (R167). -/
def execCopy (ctx num : Nat) (s : State) : Res State :=
  .next <| s.dmaOp ctx num (fun d => d.op == 2 && !copyFills d) (copyPlace ctx) copyWant (State.copyRun ctx)

/-- COPY with FILL = 1 (R167). -/
def execCopyFill (ctx num : Nat) (s : State) : Res State :=
  .next <| s.dmaOp ctx num (fun d => d.op == 2 && copyFills d) (copyPlace ctx) copyWant (State.fillRun ctx)

end Sys2Proof.Machine
end

