-- ==== Sys2Proof/Machine/SetOps.lean ====
section
/-!
DEFINITION. What the ten SET_OPs compute (R103–R125): legality, tables, and each operation
as a function from memory to the bytes it writes and the counts of its result header.
-/
namespace Sys2Proof.Machine

/-! ## The descriptor (Table 5.4) -/

def sopOf (d : Desc) : Nat := d.at 16 1
def setPartCode (d : Desc) : Nat := bits d.raw 143 142
def setAffinity (d : Desc) : Nat := bits d.raw 139 136
def setKeyFmt (d : Desc) : Nat := bits d.raw 151 148
def setValFmt (d : Desc) : Nat := bits d.raw 147 144
def setClear (d : Desc) : Bool := Nat.testBit d.raw 152
def setN (d : Desc) : Nat := bits d.raw 183 160
def setTable (d : Desc) : Nat := d.at 24 8
def setParam (d : Desc) : Nat := d.at 32 8
def setResult (d : Desc) : Nat := d.at 40 8

/-- NPART by its code. -/
def partsOf (code : Nat) : Nat := if code = 0 then 1 else if code = 1 then 4 else 16

def setParts (d : Desc) : Nat := partsOf (setPartCode d)

/-- Operations that use a table. -/
def tableSop (sop : Nat) : Bool := decide (1 ≤ sop ∧ sop ≤ 5)

/-- A row format of R126: block-scaled and 4-bit formats are not supported. -/
def rowFmt (code : Nat) : Option Fmt :=
  match fmtOfCode code with
  | some f => if f.scaled || f.bits == 4 then none else some f
  | none => none

/-- The verdict on the descriptor's own bytes (R110, R111, R126): a status, if it is illegal. [DEDUCED, log entry 35] -/
def setDescErr (d : Desc) : Option Nat :=
  let sop := sopOf d
  if sop = 0 ∨ 0x0A < sop ∨ setPartCode d = 3 ∨ 1 < setKeyFmt d ∨ bits d.raw 141 140 ≠ 0 ∨ bits d.raw 159 153 ≠ 0
      ∨ bits d.raw 191 184 ≠ 0 ∨ setN d = 0 ∨ d.at 48 16 ≠ 0 ∨ setResult d = 0
      ∨ (sop ≠ 9 ∧ setValFmt d = 0xF) ∨ (sop ≠ 1 ∧ setClear d = true)
      ∨ (tableSop sop = false ∧ setTable d ≠ 0) ∨ setTable d % 64 ≠ 0
      ∨ (3 ≤ sop ∧ sop ≤ 5 ∧ setKeyFmt d ≠ 1) then some stMALFORMED
  else if (sop ≠ 9 ∧ (rowFmt (setValFmt d)).isNone)
      ∨ ((sop = 6 ∨ sop = 7 ∨ sop = 9) ∧ setPartCode d ≠ 0) then some stUNSUPPORTED
  else none

/-! ## Results -/

/-- What an operation leaves: the bytes it writes in order, the counts of Table 5.7, and the
inputs each partition's table could not take. -/
structure SetOut where
  writes  : List (Nat × List Byte) := []
  count   : Nat := 0
  dropped : Nat := 0
  miss    : Nat := 0
  outside : Nat := 0
  nans    : Nat := 0
  sats    : Nat := 0
  entries : Nat := 0
  ovf     : List Nat := []
  deriving DecidableEq, Repr

/-- The first seven fields of the result header. -/
def SetOut.header (o : SetOut) : List Nat := [o.count, o.dropped, o.miss, o.outside, o.nans, o.sats, o.entries]

abbrev SetM (α : Type) := Except AccErr α

/-- An operation that is illegal. -/
def illegal (st : Nat) : SetM Unit := .error { status := st, addr := 0 }

def need (p : Bool) : SetM Unit := if p then .ok () else illegal stMALFORMED

/-- Bytes read for the operation. -/
def setRead (s : State) (c a n : Nat) : SetM (List Byte) :=
  match s.engRead c a n with
  | .ok bs => .ok bs
  | .err e => .error e

/-- `n` little-endian numbers of `w` bytes. -/
def setNats (s : State) (c a w n : Nat) : SetM (List Nat) := do
  let bs ← setRead s c a (w * n)
  return (List.range n).map (fun i => leNat ((bs.drop (w * i)).take w))

/-- An output; address 0 is an output not asked for (R111). [DEDUCED, log entry 35] -/
def outAt (a : Nat) (bs : List Byte) : List (Nat × List Byte) := if a = 0 then [] else [(a, bs)]

def packNats (w : Nat) (l : List Nat) : List Byte := l.flatMap (fun v => leBytes w v)

def wordNone : Nat := 0xFFFFFFFF

/-- OUT_COUNT counts records written (Table 5.7). -/
def countIf (addrs : List Nat) (n : Nat) : Nat := if addrs.all (· == 0) then 0 else n

/-! ## Keys and tables (R103–R109) -/

/-- The hash of a key. -/
def keyHash (seed key : Nat) : Nat := (Nat.xor key seed * 0x9E3779B97F4A7C15) % 2 ^ 64

def keyPart (npart m : Nat) : Nat := if npart = 16 then m / 2 ^ 60 else if npart = 4 then m / 2 ^ 62 else 0

/-- A table record header (Table 5.3), with the table's address. -/
structure TabHdr where
  base  : Nat
  tb    : Nat
  npart : Nat
  limit : Nat
  seed  : Nat
  seq   : Nat
  ents  : List Nat
  deriving DecidableEq, Repr

/-- Bytes of a whole record. -/
def recBytes (npart tb : Nat) : Nat := 128 + npart * 2 ^ tb * 128

/-- Read and judge a record header (R105, R106); the whole record lies in the regions. -/
def readTable (s : State) (c : Nat) (d : Desc) (w : Want) : SetM TabHdr := do
  let a := setTable d
  let h := leNat (← setRead s c a 128)
  let tb := bytesOf h 2 1
  need (bytesOf h 0 2 == 1 && decide (7 ≤ tb ∧ tb ≤ 17) && decide (bytesOf h 3 1 ≤ 2) && bytesOf h 4 1 == setKeyFmt d
    && bytesOf h 3 1 == setPartCode d && decide (1 ≤ bytesOf h 5 1) && bytesOf h 6 2 == 0 && bytesOf h 24 40 == 0
    && bytesOf h (64 + 4 * setParts d) (64 - 4 * setParts d) == 0)
  match s.engineErr c w a (recBytes (setParts d) tb) with
  | some e => .error e
  | none =>
    return { base := a, tb := tb, npart := setParts d, limit := bytesOf h 5 1, seed := bytesOf h 8 8
             seq := bytesOf h 16 8, ents := (List.range 16).map (fun i => bytesOf h (64 + 4 * i) 4) }

/-- The partitions of a read table hold no poison. -/
def tableClean (s : State) (t : TabHdr) : SetM Unit :=
  if s.mem.poisoned (t.base + 128) (t.npart * 2 ^ t.tb * 128) then .error { status := stDATA_POISON, addr := t.base }
  else .ok ()

/-- A bucket: eight (key, row tag) pairs in way order. -/
abbrev Bucket := List (Nat × Nat)

def emptyTag : Nat := 0xFFFFFF

/-- Bucket `i` of all partitions in order, as memory holds it. With CLEAR its entries are
empty; only the tag says so (R104), the key bytes stay. -/
def bucketAt (s : State) (t : TabHdr) (clear : Bool) (i : Nat) : Bucket :=
  let a := t.base + 128 + i * 128
  (List.range 8).map (fun w =>
    (leNat (s.anyRead (a + 8 * w) 8), if clear then emptyTag else leNat (s.anyRead (a + 64 + 4 * w) 4) % 2 ^ 24))

/-- What a walk of the probe sequence ends on. -/
inductive Probe where
  | row (r : Nat)
  | space (bucket way : Nat)
  | full
  deriving DecidableEq, Repr

/-- The walk (R104, R108, R109) from bucket `home` of a partition whose first bucket is `base`. -/
def walk (look : Nat → Bucket) (key base size : Nat) : Nat → Nat → Probe
  | 0, _ => .full
  | n + 1, home =>
    let b := look (base + home)
    match b.find? (fun e => e.1 == key && e.2 != emptyTag) with
    | some e => .row e.2
    | none =>
      match b.findIdx? (fun e => e.2 == emptyTag) with
      | some w => .space (base + home) w
      | none => walk look key base size n ((home + 1) % size)

def TabHdr.probe (t : TabHdr) (look : Nat → Bucket) (key : Nat) : Probe :=
  let m := keyHash t.seed key
  walk look key (keyPart t.npart m * 2 ^ t.tb) (2 ^ t.tb) t.limit (m / 2 ^ 43 % 2 ^ t.tb)

/-- A lookup (R109). -/
def TabHdr.lookup (s : State) (t : TabHdr) (key : Nat) : Option Nat :=
  match t.probe (bucketAt s t false) key with
  | .row r => some r
  | .space _ _ => none
  | .full => none

def TabHdr.live (t : TabHdr) : Nat := t.ents.sum

/-- A build under way: changed buckets, rows so far newest first, new and dropped entries by
partition. -/
structure Build where
  buckets : List (Nat × Bucket) := []
  rows    : List Nat := []
  added   : List Nat := List.replicate 16 0
  lost    : List Nat := List.replicate 16 0
  deriving DecidableEq, Repr

/-- Insert the `i`-th key (R108). -/
def Build.insert (s : State) (t : TabHdr) (clear : Bool) (rowBase : Nat) (b : Build) (key : Nat) : Build :=
  let look := fun i => (mapGet b.buckets i).getD (bucketAt s t clear i)
  let p := keyPart t.npart (keyHash t.seed key)
  let row := rowBase + b.rows.length
  match t.probe look key with
  | .row r => { b with rows := r :: b.rows }
  | .space i w =>
    { b with
      buckets := mapPut b.buckets i (setAt (look i) w (key, row))
      rows := row :: b.rows, added := modAt b.added p (· + 1) }
  | .full => { b with rows := wordNone :: b.rows, lost := modAt b.lost p (· + 1) }

/-- Bytes of a bucket: keys, tags, and the reserved tail as it stood. -/
def bucketBytes (s : State) (t : TabHdr) (i : Nat) (b : Bucket) : List Byte :=
  packNats 8 (b.map (·.1)) ++ packNats 4 (b.map (·.2)) ++ s.anyRead (t.base + 128 + i * 128 + 96) 32

/-- Entries of a partition that a suspended build has already written home (R114); a build with CLEAR counts its
entries anew. -/
def State.spilledOf (s : State) (c n p : Nat) : Nat :=
  match s.hub.setOps.find? (fun o => o.ctx == c && o.num == n) with
  | some o => ((o.spilled.filter (fun x => x.1 == p)).map (·.2)).sum
  | none => 0

/-- ENTRIES after a build; `home` are the entries of a partition that stand there beyond the header's count. [DEDUCED, log entry 36] -/
def Build.ents (b : Build) (t : TabHdr) (clear : Bool) (home : Nat → Nat) : List Nat :=
  (List.range 16).map (fun p =>
    if p < t.npart then (if clear then 0 else t.ents.getD p 0 + home p) + b.added.getD p 0 else 0)

/-- The writes that bring buckets `lo` to `hi - 1` of a build home. -/
def Build.homeBuckets (s : State) (t : TabHdr) (clear : Bool) (b : Build) (lo hi : Nat) : List (Nat × List Byte) :=
  let at' := fun i => t.base + 128 + i * 128
  if clear then
    (List.range (hi - lo)).map (fun i =>
      (at' (lo + i), bucketBytes s t (lo + i) ((mapGet b.buckets (lo + i)).getD (bucketAt s t true (lo + i)))))
  else (b.buckets.filter (fun p => decide (lo ≤ p.1 ∧ p.1 < hi))).map (fun p => (at' p.1, bucketBytes s t p.1 p.2))

/-- The writes that bring a build home: buckets, then the header fields (R107). -/
def Build.home (s : State) (t : TabHdr) (clear : Bool) (home : Nat → Nat) (b : Build) : List (Nat × List Byte) :=
  b.homeBuckets s t clear 0 (t.npart * 2 ^ t.tb)
  ++ [(t.base + 16, leBytes 8 (t.seq + 1)), (t.base + 64, packNats 4 (b.ents t clear home))]

/-! ## Parameters (R111) -/

def setParams (s : State) (c : Nat) (d : Desc) : SetM (List Nat) := setNats s c (setParam d) 8 8

/-- Word `i` of the parameter block. -/
def pw (ws : List Nat) (i : Nat) : Nat := ws.getD i 0

def zeros (ws : List Nat) (is : List Nat) : Bool := is.all (fun i => pw ws i == 0)

/-! ## HASH_BUILD and HASH_QUERY (R115) -/

/-- The parameters, the table and the build over the first `n` keys. -/
def buildOver (c : Nat) (s : State) (d : Desc) (n : Nat) : SetM (List Nat × TabHdr × Build) := do
  let ws ← setParams s c d
  let base := pw ws 2
  need (zeros ws [3, 4, 5, 6, 7] && decide (base < 2 ^ 24) && pw ws 0 % 8 == 0 && pw ws 1 % 4 == 0
    && decide (base + setN d ≤ 16777215))
  let t ← readTable s c d .both
  if setClear d then pure () else tableClean s t
  let keys ← setNats s c (pw ws 0) 8 n
  return (ws, t, keys.foldl (Build.insert s t (setClear d) base) {})

def setBuild (c : Nat) (s : State) (d : Desc) : SetM SetOut := do
  let (ws, t, b) ← buildOver c s d (setN d)
  let home := s.spilledOf c d.num
  return { writes := b.home s t (setClear d) home ++ outAt (pw ws 1) (packNats 4 b.rows.reverse)
           count := countIf [pw ws 1] (setN d), dropped := b.lost.sum, entries := (b.ents t (setClear d) home).sum
           ovf := b.lost }

/-- [DEDUCED, log entry 36] -/
def setQuery (c : Nat) (s : State) (d : Desc) : SetM SetOut := do
  let ws ← setParams s c d
  need (zeros ws [2, 3, 4, 5, 6, 7] && pw ws 0 % 8 == 0 && pw ws 1 % 4 == 0)
  let t ← readTable s c d .rd
  tableClean s t
  let keys ← setNats s c (pw ws 0) 8 (setN d)
  let rows := keys.map (TabHdr.lookup s t)
  return { writes := outAt (pw ws 1) (packNats 4 (rows.map (·.getD wordNone)))
           count := countIf [pw ws 1] (setN d), miss := (rows.filter Option.isNone).length, entries := t.live }

/-! ## NEIGHBOURS (R116, R117) -/

/-- A VOXEL key (Table 5.2). -/
def voxel (b z y x : Nat) : Nat := b * 2 ^ 48 + z * 2 ^ 32 + y * 2 ^ 16 + x

/-- A coordinate in range. -/
def coord? (i : Int) : Option Nat := if 0 ≤ i ∧ i ≤ 65535 then some i.toNat else none

def voxel? (b : Nat) (z y x : Int) : Option Nat :=
  match coord? z, coord? y, coord? x with
  | some z, some y, some x => some (voxel b z y x)
  | _, _, _ => none

/-- The neighbour key of a site by an offset record. -/
def neighbourKey (sx sy sz site off : Nat) : Option Nat :=
  voxel? (bits site 63 48) ((bits site 47 32 * sz : Nat) + signedOf 8 (bytesOf off 2 1))
    ((bits site 31 16 * sy : Nat) + signedOf 8 (bytesOf off 1 1)) ((bits site 15 0 * sx : Nat) + signedOf 8 (bytesOf off 0 1))

/-- Pairs of one offset in ascending output index. -/
def offsetPairs (look : Nat → Option Nat) (sx sy sz : Nat) (sites : List Nat) (off : Nat) : List (Nat × Nat) :=
  sites.zipIdx.filterMap (fun p =>
    match neighbourKey sx sy sz p.1 off with
    | none => none
    | some k => (look k).map (fun r => (r, p.2)))

/-- The rulebook as its lists are laid out: next slot, whether the lists still fit, index
records and lists with their start slots, newest first, and the counts. -/
structure Rulebook where
  next    : Nat := 0
  cut     : Bool := false
  index   : List (Nat × Nat) := []
  lists   : List (Nat × List (Nat × Nat)) := []
  pairs   : Nat := 0
  dropped : Nat := 0
  deriving DecidableEq, Repr

/-- One offset's list (R117). -/
def Rulebook.add (block cap : Nat) (b : Rulebook) (ps : List (Nat × Nat)) : Rulebook :=
  let n := ceilDiv ps.length block * block
  if b.cut || decide (cap < b.next + n) then
    { b with cut := true, index := (b.next, 0) :: b.index, dropped := b.dropped + ps.length }
  else
    { b with
      next := b.next + n
      index := (b.next, ps.length) :: b.index
      lists := (b.next, ps ++ List.replicate (n - ps.length) (wordNone, wordNone)) :: b.lists
      pairs := b.pairs + ps.length }

def pairBytes (ps : List (Nat × Nat)) : List Byte := ps.flatMap (fun p => leBytes 4 p.1 ++ leBytes 4 p.2)

/-- [DEDUCED, log entry 36] -/
def setNeighbours (c : Nat) (s : State) (d : Desc) : SetM SetOut := do
  let ws ← setParams s c d
  let w := pw ws 4
  let noff := bits w 9 0
  let sx := bits w 19 16
  let sy := bits w 23 20
  let sz := bits w 27 24
  need (zeros ws [5, 6, 7] && decide (1 ≤ noff ∧ noff ≤ 512) && bits w 15 11 == 0 && bits w 31 28 == 0
    && sx != 0 && sy != 0 && sz != 0 && pw ws 0 % 8 == 0)
  let t ← readTable s c d .rd
  tableClean s t
  let offs ← setNats s c (pw ws 1) 4 noff
  need (offs.all (fun o => decide (o < 2 ^ 24)))
  let sites ← setNats s c (pw ws 0) 8 (setN d)
  let b := offs.foldl (fun b o =>
    b.add (if Nat.testBit w 10 then 64 else 16) (bits w 63 32) (offsetPairs (TabHdr.lookup s t) sx sy sz sites o))
    ({} : Rulebook)
  return { writes := (b.lists.reverse.flatMap (fun l => outAt (pw ws 2) (pairBytes l.2) |>.map (fun x => (x.1 + 8 * l.1, x.2))))
             ++ outAt (pw ws 3) (pairBytes b.index.reverse)
           count := countIf [pw ws 2] b.pairs, dropped := b.dropped, entries := t.live }

/-! ## Points (R118) -/

/-- A point record: x, y, z as binary32. -/
structure Pt where
  x : Nat
  y : Nat
  z : Nat
  deriving DecidableEq, Repr

/-- Grid of the points: origin and inverse cell size. -/
structure PtGrid where
  ox  : Nat
  oy  : Nat
  oz  : Nat
  inv : Nat
  deriving DecidableEq, Repr

def ptGrid (w v : Nat) : PtGrid := { ox := bits w 31 0, oy := bits w 63 32, oz := bits v 31 0, inv := bits v 63 32 }

def setPoints (s : State) (c a n : Nat) : SetM (List Pt) := do
  let ws ← setNats s c a 16 n
  return ws.map (fun w => { x := bits w 31 0, y := bits w 63 32, z := bits w 95 64 })

/-- One quantised coordinate below `lim`. -/
def quant (p o inv lim : Nat) : Option Nat :=
  let v := f32 (f32Mul (f32Sub p o) inv)
  let i := floorV v
  if isSpecialV v = false ∧ 0 ≤ i ∧ i < lim then some i.toNat else none

/-- The cell of a point as (qz, qy, qx), within an extent. -/
def PtGrid.cell (g : PtGrid) (nx ny nz : Nat) (p : Pt) : Option (Nat × Nat × Nat) :=
  match quant p.z g.oz g.inv nz, quant p.y g.oy g.inv ny, quant p.x g.ox g.inv nx with
  | some z, some y, some x => some (z, y, x)
  | _, _, _ => none

/-! ## KNN and BALL (R119) -/

/-- A candidate: its squared distance and reference index. -/
abbrev Cand := Nat × Nat

/-- Squared distance, each difference and the product rounded once. -/
def dist2 (a b : Pt) : Nat :=
  let dx := f32Sub a.x b.x
  let dy := f32Sub a.y b.y
  let dz := f32Sub a.z b.z
  f32Fma dz dz (f32Fma dy dy (f32Mul dx dx))

def candBefore (a b : Cand) : Bool :=
  if f32Lt a.1 b.1 then true else if f32Lt b.1 a.1 then false else decide (a.2 < b.2)

/-- Put a candidate at its rank. -/
def rankIn (a : Cand) : List Cand → List Cand
  | [] => [a]
  | b :: r => if candBefore a b then a :: b :: r else b :: rankIn a r

/-- Points of one cell from its row onwards, while the key array holds the cell's key: the arrays have no length of their
own, and the visit ends at the first other key. [DESIGN CHOICE, log entry 116] -/
def cellPoints (s : State) (c keys : Nat) (key : Nat) : Nat → Nat → SetM (List Nat)
  | 0, _ => .ok []
  | n + 1, i =>
    match setNats s c (keys + 8 * i) 8 1 with
    | .error e => .error e
    | .ok ks => if ks == [key] then (cellPoints s c keys key n (i + 1)).map (i :: ·) else .ok []

/-- The 27 cells around a cell, in the order of R119. -/
def around : List (Int × Int × Int) :=
  (List.range 27).map (fun i => ((i / 9 : Nat) - 1, (i / 3 % 3 : Nat) - 1, (i % 3 : Nat) - 1))

/-- Reference indices a query visits. -/
def visits (s : State) (c : Nat) (t : TabHdr) (keys batch : Nat) (q : Nat × Nat × Nat) : SetM (List Nat) := do
  let ls ← around.mapM (fun o =>
    match voxel? batch (q.1 + o.1) (q.2.1 + o.2.1) (q.2.2 + o.2.2) with
    | none => .ok []
    | some k =>
      match TabHdr.lookup s t k with
      | none => .ok []
      | some r => cellPoints s c keys k (2 ^ 24 - r) r)
  return ls.flatten

/-- What one query finds: candidates in rank order, and NaN distances met. -/
structure Found where
  inCell : Bool
  cands  : List Cand
  nans   : Nat
  deriving DecidableEq, Repr

def search (s : State) (c : Nat) (t : TabHdr) (ws : List Nat) (q : Pt) : SetM Found := do
  match (ptGrid (pw ws 6) (pw ws 7)).cell 65536 65536 65536 q with
  | none => return { inCell := false, cands := [], nans := 0 }
  | some cell =>
    let is ← visits s c t (pw ws 2) (bits (pw ws 5) 31 16) cell
    let cs ← is.mapM (fun i => do
      let p ← setPoints s c (pw ws 1 + 16 * i) 1
      return (dist2 (p.getD 0 { x := 0, y := 0, z := 0 }) q, i))
    let ok := cs.filter (fun x => f32Le x.1 (bits (pw ws 5) 63 32))
    return { inCell := true, cands := ok.foldl (fun l x => rankIn x l) [], nans := (cs.filter (fun x => f32IsNaN x.1)).length }

/-- Slots of `k` results a query. [DEDUCED, log entry 37] -/
def Found.slots (f : Found) (k : Nat) : List Cand := f.cands.take k ++ List.replicate (k - f.cands.length) (f32Inf, wordNone)

/-- KNN (`ball` = false) and BALL. [DEDUCED, log entry 36] -/
def setNear (ball : Bool) (c : Nat) (s : State) (d : Desc) : SetM SetOut := do
  let ws ← setParams s c d
  let k := bits (pw ws 5) 15 0
  need (decide (1 ≤ k ∧ k ≤ (if ball then 4096 else 64)) && pw ws 2 % 8 == 0 && pw ws 3 % 4 == 0)
  let t ← readTable s c d .rd
  tableClean s t
  let qs ← setPoints s c (pw ws 0) (setN d)
  let fs ← qs.mapM (search s c t ws)
  let out := fs.flatMap (fun f => f.slots k)
  let n := (fs.map (fun f => min k f.cands.length)).sum
  return { writes := outAt (pw ws 3) (packNats 4 (out.map (·.2))) ++ outAt (pw ws 4) (packNats 4 (out.map (·.1)))
           count := countIf [pw ws 3, pw ws 4] n
           dropped := if ball then (fs.map (fun f => f.cands.length - k)).sum else 0
           miss := if ball then 0 else (fs.map (fun f => k - f.cands.length)).sum
           outside := (fs.filter (fun f => !f.inCell)).length, nans := (fs.map (·.nans)).sum, entries := t.live }

/-! ## SORT and TOPK (R120, R121) -/

/-- A key under comparison: its low KEY_BITS bits, read by KEY_TYPE. -/
structure KeyCmp where
  bitsN : Nat
  typ   : Nat
  deriving DecidableEq, Repr

/-- `a < b`; NaNs follow every number. -/
def KeyCmp.lt (k : KeyCmp) (a b : Nat) : Bool :=
  let x := a % 2 ^ k.bitsN
  let y := b % 2 ^ k.bitsN
  if k.typ = 0 then decide (x < y)
  else if k.typ = 1 then decide (signedOf k.bitsN x < signedOf k.bitsN y)
  else if f32IsNaN x then false
  else if f32IsNaN y then true
  else f32Lt x y

def KeyCmp.isNaN (k : KeyCmp) (a : Nat) : Bool := k.typ == 2 && f32IsNaN (a % 2 ^ 32)

/-- Put an element behind every earlier element that does not come after it (stable). -/
def insertBy {α : Type} (lt : α → α → Bool) (a : α) : List α → List α
  | [] => [a]
  | b :: r => if lt a b then a :: b :: r else b :: insertBy lt a r

/-- Stable sort: inputs enter in ascending index. -/
def stableSort {α : Type} (lt : α → α → Bool) (l : List α) : List α := l.foldl (fun r a => insertBy lt a r) []

/-- [DEDUCED, log entry 37] -/
def KeyCmp.order (k : KeyCmp) (down : Bool) (a b : Nat × Nat) : Bool := if down then k.lt b.1 a.1 else k.lt a.1 b.1

def keyCmpOf (w : Nat) : KeyCmp := { bitsN := bits w 7 0, typ := bits w 9 8 }

def keyCmpOk (k : KeyCmp) : Bool :=
  decide (1 ≤ k.bitsN ∧ k.bitsN ≤ 64) && k.typ != 3 && (k.typ != 2 || k.bitsN == 32)

/-- The key of a point in no cell. -/
def noCellKey : Nat := 2 ^ 64 - 1

/-- Keys are written whole, the bits above KEY_BITS as they came. [DESIGN CHOICE, log entry 116] -/
def setSort (c : Nat) (s : State) (d : Desc) : SetM SetOut := do
  let ws ← setParams s c d
  let w := pw ws 3
  let k := keyCmpOf w
  let pts := Nat.testBit w 11
  need (keyCmpOk k && bits w 15 12 == 0 && bits w 63 32 == 0 && zeros ws [6, 7] && (pts || pw ws 0 % 8 == 0)
    && pw ws 1 % 8 == 0 && pw ws 2 % 4 == 0)
  let cells ← if pts then do
      let ps ← setPoints s c (pw ws 0) (setN d)
      pure (ps.map (fun p => ((ptGrid (pw ws 4) (pw ws 5)).cell 65536 65536 65536 p).map
        (fun q => voxel (bits w 31 16) q.1 q.2.1 q.2.2)))
    else do
      let ks ← setNats s c (pw ws 0) 8 (setN d)
      pure (ks.map some)
  let out := stableSort (k.order (Nat.testBit w 10)) ((cells.map (·.getD noCellKey)).zipIdx)
  return { writes := outAt (pw ws 1) (packNats 8 (out.map (·.1))) ++ outAt (pw ws 2) (packNats 4 (out.map (·.2)))
           count := countIf [pw ws 1, pw ws 2] (setN d), outside := (cells.filter Option.isNone).length }

/-- Keys are written whole, the bits above KEY_BITS as they came. [DEDUCED, log entry 37; DESIGN CHOICE, log entry 116] -/
def setTopk (c : Nat) (s : State) (d : Desc) : SetM SetOut := do
  let ws ← setParams s c d
  let w := pw ws 3
  let k := keyCmpOf w
  let n := bits w 28 16
  need (keyCmpOk k && bits w 15 11 == 0 && bits w 63 29 == 0 && zeros ws [4, 5, 6, 7] && decide (1 ≤ n ∧ n ≤ 4096)
    && pw ws 0 % 8 == 0 && pw ws 1 % 8 == 0 && pw ws 2 % 4 == 0)
  let ks ← setNats s c (pw ws 0) 8 (setN d)
  let live := ks.zipIdx.filter (fun p => !k.isNaN p.1)
  let out := (stableSort (k.order (Nat.testBit w 10)) live).take n
  let gap := n - out.length
  return { writes := outAt (pw ws 1) (packNats 8 (out.map (·.1) ++ List.replicate gap wordNone))
             ++ outAt (pw ws 2) (packNats 4 (out.map (·.2) ++ List.replicate gap wordNone))
           count := countIf [pw ws 1, pw ws 2] out.length, miss := gap, nans := ks.length - live.length }

/-! ## Row reductions (R124) -/

def Fmt.isInt : Fmt → Bool
  | .int8 | .uint8 | .int4 | .int32 => true
  | _ => false

/-- An accumulating element: nothing yet, or a value. -/
abbrev RowAcc := Option FVal

/-- One more element enters. Floating sums round in binary32 from +0. -/
def redStep (f : Fmt) (max : Bool) (acc : RowAcc) (x : FVal) : RowAcc :=
  if max then some (match acc with | none => x | some a => maxV a x)
  else
    let a := acc.getD (.fin false 0 0)
    some (if f.isInt then addV a x else f32 (r32 (addV a x)))

/-- MEAN: SUM divided by the count. -/
def meanOf (f : Fmt) (sum : FVal) (n : Nat) : FVal :=
  let q := divV sum (.fin false n 0)
  if f.isInt then (match q with
    | .fin neg m e => ofScaled (roundInt neg m e) 0
    | v => v)
  else f32 (r32 q)

/-- Elements of a row. -/
def rowElems (f : Fmt) (cn : Nat) (bs : List Byte) : List FVal :=
  let a := bs.toArray
  (List.range cn).map (fun i => elemVal f (elemAt (fun j => a.getD j 0) f.bits i))

def setRow (s : State) (c a : Nat) (f : Fmt) (cn i : Nat) : SetM (List FVal) := do
  let n := cn * (f.bits / 8)
  let bs ← setRead s c (a + i * n) n
  return rowElems f cn bs

/-- A row of values in a format, with what R43 counts. -/
def rowOut (f : Fmt) (vs : List FVal) : List Byte × Nat × Nat :=
  let cs := vs.map (convertVal f false)
  (packElems f.bits (cs.map (·.bits)), (cs.map (·.nan)).sum, (cs.map (·.sat)).sum)

/-! ## SEGMENT_REDUCE (R122) -/

/-- Split into runs of equal adjacent keys: (key, first index, length), in order. -/
def segments : List Nat → Nat → List (Nat × Nat × Nat)
  | [], _ => []
  | k :: r, i =>
    match segments r (i + 1) with
    | (k', j, n) :: t => if k' = k then (k, i, n + 1) :: t else (k, i, 1) :: (k', j, n) :: t
    | [] => [(k, i, 1)]

/-- One reduced segment: its key, row count and values. -/
def segRow (s : State) (c rows : Nat) (f : Fmt) (cn red : Nat) (g : Nat × Nat × Nat) : SetM (List FVal) := do
  let rs ← (List.range g.2.2).mapM (fun j => setRow s c rows f cn (g.2.1 + j))
  let acc := rs.foldl (fun (a : List RowAcc) r => (a.zip r).map (fun p => redStep f (red == 1) p.1 p.2)) (List.replicate cn none)
  return acc.map (fun a =>
    let v := a.getD (.fin false 0 0)
    if red = 2 then meanOf f v g.2.2 else v)

/-- [DEDUCED, log entry 37] -/
def setSegment (c : Nat) (s : State) (d : Desc) : SetM SetOut := do
  let ws ← setParams s c d
  let w := pw ws 5
  let cn := bits w 15 0
  let red := bits w 17 16
  need (decide (1 ≤ cn ∧ cn ≤ 1024) && red != 3 && bits w 35 18 == 0 && bits w 39 36 != 0xF && zeros ws [6, 7]
    && pw ws 0 % 8 == 0 && pw ws 2 % 8 == 0)
  match rowFmt (bits w 39 36), rowFmt (setValFmt d) with
  | some df, some f =>
    let keys ← setNats s c (pw ws 0) 8 (setN d)
    let segs := segments keys 0
    let keep := segs.take (bits w 63 40)
    let rows ← keep.mapM (segRow s c (pw ws 1) f cn red)
    let outs := rows.map (rowOut df)
    return { writes := outAt (pw ws 2) (packNats 8 (keep.map (·.1))) ++ outAt (pw ws 3) (outs.flatMap (·.1))
               ++ outAt (pw ws 4) (packNats 4 (keep.map (fun g => g.2.2)))
             count := countIf [pw ws 2, pw ws 3, pw ws 4] keep.length, dropped := segs.length - keep.length
             nans := (outs.map (fun o => o.2.1)).sum, sats := (outs.map (fun o => o.2.2)).sum }
  | _, _ => .error { status := stUNSUPPORTED, addr := 0 }

/-! ## GATHER_ROWS (R123) -/

def setGather (c : Nat) (s : State) (d : Desc) : SetM SetOut := do
  let ws ← setParams s c d
  let n := pw ws 3
  need (decide (1 ≤ n ∧ n ≤ 65536) && zeros ws [6, 7] && pw ws 1 % 4 == 0)
  let idx ← setNats s c (pw ws 1) 4 (setN d)
  let miss := fun i => i == wordNone || decide (pw ws 5 ≤ i)
  let rows ← idx.mapM (fun i =>
    if miss i then .ok (List.replicate n 0) else setRead s c (pw ws 0 + i * pw ws 4) n)
  return { writes := outAt (pw ws 2) rows.flatten, count := countIf [pw ws 2] (setN d), miss := (idx.filter miss).length }

/-! ## SCATTER_GRID (R125) -/

/-- A cell: its values and its count. -/
structure Cell where
  vals  : List RowAcc
  count : Nat
  deriving DecidableEq, Repr

/-- Parameters of a SCATTER_GRID. -/
structure Scatter where
  cn     : Nat
  f      : Fmt
  df     : Fmt
  max    : Bool
  init   : Bool
  planar : Bool
  cells  : Nat
  grid   : Nat
  counts : Nat
  deriving DecidableEq, Repr

def Scatter.eb (g : Scatter) : Nat := g.df.bits / 8

/-- Address of a cell's element for a channel. -/
def Scatter.elem (g : Scatter) (cell ch : Nat) : Nat :=
  if g.planar then g.grid + ch * up64 (g.cells * g.eb) + cell * g.eb else g.grid + (cell * g.cn + ch) * g.eb

/-- A cell as it starts: with INIT from the grid and the counts in memory (R124, R125). -/
def Scatter.start (g : Scatter) (s : State) (c cell : Nat) : SetM Cell :=
  if g.init then do
    let n ← if g.counts = 0 then pure none else do
      let l ← setNats s c (g.counts + 4 * cell) 4 1
      pure l.head?
    let vs ← (List.range g.cn).mapM (fun ch =>
      if g.grid = 0 then .ok (none : RowAcc) else do
        let l ← setNats s c (g.elem cell ch) g.eb 1
        pure (some (elemVal g.df (l.getD 0 0))))
    return { vals := vs, count := n.getD 0 }
  else .ok { vals := List.replicate g.cn none, count := 0 }

/-- A row joins its cell. -/
def Scatter.join (g : Scatter) (cell : Cell) (r : List FVal) : Cell :=
  { vals := (cell.vals.zip r).map (fun p => redStep g.f g.max p.1 p.2), count := min 0xFFFFFFFF (cell.count + 1) }

/-- Inputs of the cells: (cell, row index), in ascending row index. -/
def Scatter.fold (g : Scatter) (s : State) (c rows : Nat) : List (Nat × Nat) → List (Nat × Cell) → SetM (List (Nat × Cell))
  | [], m => .ok m
  | (cell, i) :: r, m =>
    match (match mapGet m cell with
      | some x => .ok x
      | none => g.start s c cell : SetM Cell), setRow s c rows g.f g.cn i with
    | .error e, _ => .error e
    | .ok _, .error e => .error e
    | .ok x, .ok row => g.fold s c rows r (mapPut m cell (g.join x row))

/-- The bytes of a finished grid: every cell's values, by row or by plane. -/
def Scatter.bytes (g : Scatter) (rows : List (List Byte)) : List (Nat × List Byte) :=
  if g.grid = 0 then []
  else if g.planar then
    (List.range g.cn).map (fun ch => (g.elem 0 ch, rows.flatMap (fun r => (r.drop (ch * g.eb)).take g.eb)))
  else [(g.grid, rows.flatten)]

/-- [DEDUCED, log entry 37] -/
def setScatter (c : Nat) (s : State) (d : Desc) : SetM SetOut := do
  let ws ← setParams s c d
  let w := pw ws 4
  let nx := bits (pw ws 5) 15 0
  let ny := bits (pw ws 5) 31 16
  let nz := bits (pw ws 5) 47 32
  let pts := Nat.testBit w 18
  need (decide (1 ≤ bits w 15 0 ∧ bits w 15 0 ≤ 1024) && decide (bits w 17 16 ≤ 1) && bits w 23 20 != 0xF
    && decide (bits w 25 24 ≤ 1) && bits w 63 26 == 0 && bits (pw ws 5) 63 48 == 0 && nx != 0 && ny != 0 && nz != 0
    && decide (nx * ny * nz ≤ 16777215) && (pts || pw ws 0 % 4 == 0) && (bits w 25 24 == 0 || pw ws 2 % 64 == 0))
  match rowFmt (bits w 23 20), rowFmt (setValFmt d) with
  | some df, some f =>
    let g : Scatter :=
      { cn := bits w 15 0, f := f, df := df, max := bits w 17 16 == 1, init := Nat.testBit w 19, planar := bits w 25 24 == 1
        cells := nx * ny * nz, grid := pw ws 2, counts := pw ws 3 }
    let at' ← if pts then do
        let ps ← setPoints s c (pw ws 0) (setN d)
        pure (ps.map (fun p => ((ptGrid (pw ws 6) (pw ws 7)).cell nx ny nz p).map (fun q => (q.1 * ny + q.2.1) * nx + q.2.2)))
      else do
        let is ← setNats s c (pw ws 0) 4 (setN d)
        pure (is.map (fun i => if i = wordNone ∨ g.cells ≤ i then none else some i))
    let inputs := at'.zipIdx.filterMap (fun p => p.1.map (fun cell => (cell, p.2)))
    let m ← g.fold s c (pw ws 1) inputs []
    let cells ← (List.range g.cells).mapM (fun i =>
      match mapGet m i with
      | some x => .ok x
      | none => g.start s c i)
    let outs := cells.map (fun x => rowOut df (x.vals.map (·.getD (.fin false 0 0))))
    return { writes := g.bytes (outs.map (·.1)) ++ outAt (pw ws 3) (packNats 4 (cells.map (·.count)))
             count := countIf [pw ws 2, pw ws 3] inputs.length, outside := (at'.filter Option.isNone).length
             nans := (outs.map (fun o => o.2.1)).sum, sats := (outs.map (fun o => o.2.2)).sum }
  | _, _ => .error { status := stUNSUPPORTED, addr := 0 }

/-- Words of the parameter block that hold addresses: those read, and those written where they are not 0 (Table 5.5). -/
def addrWords (sop : Nat) : List Nat × List Nat :=
  match sop with
  | 1 | 2 => ([0], [1])
  | 3 => ([0, 1], [2, 3])
  | 4 | 5 => ([0, 1, 2], [3, 4])
  | 6 | 7 => ([0], [1, 2])
  | 8 => ([0, 1], [2, 3, 4])
  | 9 => ([0, 1], [2])
  | _ => ([0, 1], [2, 3])

/-- The first address of the descriptor or of its parameter block that no region covers (R110): one whose span the
operation comes to touch nowhere is checked at its first byte. [DESIGN CHOICE, log entry 116] -/
def addrErr (c : Nat) (s : State) (d : Desc) : SetM (Option AccErr) := do
  let ws ← setParams s c d
  let (ins, outs) := addrWords (sopOf d)
  let wr := setResult d :: (outs.map (pw ws)).filter (· != 0)
  return ((ins.map (pw ws)).findSome? (fun a => s.engineErr c .rd a 1)).or (wr.findSome? (fun a => s.engineErr c .wr a 1))

/-- What an operation computes, by SOP. -/
def setCompute (c : Nat) (s : State) (d : Desc) : SetM SetOut :=
  match sopOf d with
  | 1 => setBuild c s d
  | 2 => setQuery c s d
  | 3 => setNeighbours c s d
  | 4 => setNear false c s d
  | 5 => setNear true c s d
  | 6 => setSort c s d
  | 7 => setTopk c s d
  | 8 => setSegment c s d
  | 9 => setGather c s d
  | _ => setScatter c s d

end Sys2Proof.Machine
end

