-- ==== Sys2Proof/Machine/SetEng.lean ====
section
/-!
DEFINITION. Set engines at work (R101, R102, R106, R107, R110–R114, R126): placement of a
SET_OP's partitions, acceptance, suspension and resumption, and the ten operations.
-/
namespace Sys2Proof.Machine

/-! ## Engines -/

def State.setEngine (s : State) (e : Nat) : SetEngine := s.hub.sets[e]?.getD {}
def State.modSet (s : State) (e : Nat) (f : SetEngine → SetEngine) : State :=
  s.modHub (fun h => { h with sets := modAt h.sets e f })

def State.setOp (s : State) (c n : Nat) : Option SetOp := s.hub.setOps.find? (fun o => o.ctx == c && o.num == n)
def State.modSetOp (s : State) (c n : Nat) (f : SetOp → SetOp) : State :=
  s.modHub (fun h => { h with setOps := h.setOps.map (fun o => if o.ctx = c ∧ o.num = n then f o else o) })
def State.dropSetOp (s : State) (c n : Nat) : State :=
  s.modHub (fun h => { h with setOps := h.setOps.filter (fun o => !(o.ctx == c && o.num == n)) })

/-- GE_STATUS shows what the engine does (Table 5.11). -/
def State.showSet (s : State) (e : Nat) : State :=
  let m := s.setEngine e
  let r := rGE_STATUS e
  let (c, sop) := match m.cur with
    | some (c, n) => (c, ((s.desc c n).map sopOf).getD 0)
    | none => (0, 0)
  let s1 := ((s.wf r fGE_STATUS_CTX c).wf r fGE_STATUS_SOP sop).wf r fGE_STATUS_PART m.part
  let s2 := (s1.wf r fGE_STATUS_SUSPENDED m.susp.length).wf r fGE_STATUS_RESIDENT (bit m.resident.isSome)
  let old := s2.rf r fGE_STATUS_STATE
  if old = tsTEST ∨ old = tsFAULT then s2 else s2.wf r fGE_STATUS_STATE (if m.cur.isSome then tsRUN else tsIDLE)

/-- Set engine `e` may take work of a class on a die of the set (R113, R297, R361, R362). -/
def State.setFit (s : State) (dies cls e : Nat) : Bool :=
  s.dieUsable (e / 4) && Nat.testBit dies (e / 4) && !s.testFault (128 + e) && (cls != 15 || !s.untested (128 + e))

/-- Priority of the newest operation in the suspend store. -/
def State.suspPrio (s : State) (e : Nat) : Option Nat := (s.setEngine e).susp.head?.map (fun p => s.descPrio p.op.1 p.op.2)

/-- Engine `e` is free for new work. -/
def State.setIdle (s : State) (e : Nat) : Bool :=
  (s.setEngine e).cur.isNone && s.unitState (128 + e) == tsIDLE && !s.doneRaised (128 + e) && !s.halted

/-- Engine `e` can accept an operation now: work suspended there goes on first unless the
operation is of higher priority. -/
def State.setOpen (s : State) (e : Nat) (p : Nat × Nat) : Bool :=
  s.setIdle e && !((s.setEngine e).susp.any (fun x => x.op == p))
  && (match s.suspPrio e with
      | none => true
      | some q => decide (q < s.descPrio p.1 p.2))

/-- The engines an operation's partitions may go to: those AFFINITY prefers where there are any (R113). -/
def State.setPool (s : State) (c : Nat) (d : Desc) : List Nat :=
  let fit := (List.range 16).filter (s.setFit (s.jobDies c d) (s.effClass c d.raw))
  let near := fit.filter (fun e => Nat.testBit (setAffinity d) (e / 4))
  if near.isEmpty then fit else near

/-- The trace fields of a partition (Table 20.3). -/
def partCmd (c : Nat) (d : Desc) (part st : Nat) : TraceCmd :=
  { ctx := c, descId := d.id, aux := part, status := st, attempt := d.attempt }

/-- Operations that use table SRAM (R107): a table's partitions, or as working space. -/
def sramSop (sop : Nat) : Bool := sop != 8 && sop != 9

/-- Operations that drop a resident copy for working space (R107). -/
def dropsCopy (sop : Nat) : Bool := sop == 4 || sop == 5 || sop == 6 || sop == 7 || sop == 10

/-- Partitions of an operation that engines have taken so far. -/
def State.setPlaced (s : State) (c n : Nat) : Nat := ((s.setOp c n).map (fun o => o.by'.length)).getD 0

/-! ## The table SRAM (R101, R102, R107) -/

/-- Buckets of a table record's partition, as its home holds them. -/
def State.homeTable (s : State) (base tb p : Nat) : List (List (Nat × Nat)) :=
  let t : TabHdr := { base := base, tb := tb, npart := 16, limit := 1, seed := 0, seq := 0, ents := [] }
  (List.range (2 ^ tb)).map (fun i => bucketAt s t false (p * 2 ^ tb + i))

/-- TB of a record. -/
def State.tableBits (s : State) (base : Nat) : Nat := leNat (s.anyRead (base + 2) 1)

/-- The engine holds a copy of a partition that is still its home's. A copy may be dropped at any time (R107), and one
that is not is dropped. -/
def State.setHit (s : State) (c : Nat) (d : Desc) (e p : Nat) : Bool :=
  (s.setEngine e).resident == some (c, setTable d, p)
  && decide ((s.setEngine e).table = s.homeTable (setTable d) (s.tableBits (setTable d)) p)

/-- Words of the table SRAM that `n` buckets take: eight keys and eight 24-bit row tags each (Table 5.1). -/
def sramWords (n : Nat) : Nat := 11 * n

/-- The engine takes a partition into its SRAM, by a load from home or by the build that fills it; the words written
lose their errors. -/
def State.tableFill (s : State) (c : Nat) (d : Desc) (e p : Nat) : State :=
  let tab := s.homeTable (setTable d) (s.tableBits (setTable d)) p
  s.modSet e (fun m =>
    { m with
      resident := some (c, setTable d, p), table := tab
      badWords := m.badWords.filter (fun w => decide (sramWords tab.length ≤ w))
      softWords := m.softWords.filter (fun w => decide (sramWords tab.length ≤ w)) })

/-- The SRAM becomes working space, which is written before it is read. -/
def State.setScratch (s : State) (e : Nat) : State :=
  s.modSet e (fun m => { m with resident := none, table := [], badWords := [], softWords := [] })

/-- Errors an operation meets: in the copy it probes, or in the working space it has written and reads back. -/
def SetEngine.metIn (m : SetEngine) (sop : Nat) (ws : List Nat) : List Nat :=
  if dropsCopy sop then ws
  else ws.filter (fun w => tableSop sop && m.resident.isSome && decide (w < sramWords m.table.length))

/-- An engine that runs the operation whose table SRAM meets a double-bit error (R102). -/
def State.setBad (s : State) (d : Desc) : Option Nat :=
  (d.units.map (· - 128)).find? (fun e => !((s.setEngine e).metIn (sopOf d) (s.setEngine e).badWords).isEmpty)

/-- Bits flip in a word of the table SRAM: one, or two, which a further flip of one wrong bit makes too. -/
def SetEngine.flip (m : SetEngine) (f : Flip) : SetEngine :=
  if f.double || m.softWords.contains f.word || m.badWords.contains f.word then
    { m with softWords := setDel m.softWords f.word, badWords := setIns m.badWords f.word }
  else { m with softWords := setIns m.softWords f.word }

/-- The double-bit error is counted and the resident copy dropped (R102). -/
def State.sramError (s : State) (e : Nat) : State :=
  (s.setScratch e).bump (rGE_ECC_CNT e) fGE_ECC_CNT_UE_CNT 1

/-- The single-bit errors an operation meets are corrected, in the SRAM too, and counted (R102). [DESIGN CHOICE, log entry 99] -/
def State.setSoft (s : State) (d : Desc) : State :=
  (d.units.map (· - 128)).foldl (fun x e =>
    let met := (x.setEngine e).metIn (sopOf d) (x.setEngine e).softWords
    (x.bump (rGE_ECC_CNT e) fGE_ECC_CNT_CE_CNT met.length).modSet e (fun m =>
      { m with softWords := m.softWords.filter (fun w => !met.contains w) })) s

/-- The bytes of a partition that a suspended build writes home: what its first `pos` inputs have built there, and how
many entries that adds (R114). -/
def partBuilt (c : Nat) (s : State) (d : Desc) (p pos : Nat) : SetM (List (Nat × List Byte) × Nat) := do
  let (_, t, b) ← buildOver c s d pos
  return (b.homeBuckets s t (setClear d) (p * 2 ^ t.tb) (p * 2 ^ t.tb + 2 ^ t.tb), b.added.getD p 0)

/-- Another operation needs the SRAM: a suspended build's partition is written home first, unless the build has already
brought it home whole (R114). -/
def State.setSpill (s : State) (e : Nat) : State :=
  (s.setEngine e).susp.foldl (fun x u =>
    match x.desc u.op.1 u.op.2 with
    | none => x
    | some d =>
      if sopOf d = 1 ∧ (x.setEngine e).resident = some (u.op.1, setTable d, u.part)
        ∧ ((x.setOp u.op.1 u.op.2).bind (·.ran)).isNone then
        match partBuilt u.op.1 x d u.part u.pos with
        | .error _ => x
        | .ok r =>
          (r.1.foldl (fun y w => y.putBytes w.1 w.2) x).modSetOp u.op.1 u.op.2 (fun a => { a with spilled := (u.part, r.2) :: a.spilled })
      else x) s

/-- A load from home passes its checks (R107): the header is legal, the record lies in the operation's regions and what
is read of it holds no poison. -/
def State.loadOk (s : State) (c : Nat) (d : Desc) : Bool :=
  match (do
    let t ← readTable s c d (if sopOf d = 1 then .both else .rd)
    if setClear d then pure () else tableClean s t : SetM Unit) with
  | .ok _ => true
  | .error _ => false

/-- A partition is brought from home where its checks pass, and counted; a build with CLEAR starts from empty buckets.
An operation that needs the SRAM as working space keeps no copy (R107). -/
def State.setFetch (s : State) (c : Nat) (d : Desc) (e p : Nat) (first : Bool) : State :=
  let sop := sopOf d
  let ok := tableSop sop && s.loadOk c d
  let s1 := if ok && !(sop == 1 && setClear d && first) then s.bump (rGE_EVENT_CNT e) fGE_EVENT_CNT_LOAD_CNT 1 else s
  if dropsCopy sop then s1.setScratch e else if ok then s1.tableFill c d e p else s1

/-- The SRAM of an engine that takes a partition (R107). -/
def State.setLoad (s : State) (c : Nat) (d : Desc) (e p : Nat) : State :=
  if !sramSop (sopOf d) then s
  else
    let s1 := s.setSpill e
    if s1.setHit c d e p && !dropsCopy (sopOf d) then s1 else s1.setFetch c d e p true

/-- The SRAM of an engine that a suspended operation takes again (R114): a table's partition is loaded again where
another operation took its place, and working space drops the copy another one left. -/
def State.setReload (s : State) (c : Nat) (d : Desc) (e p : Nat) : State :=
  let back := (s.setEngine e).resident == (if dropsCopy (sopOf d) then none else some (c, setTable d, p))
  if !sramSop (sopOf d) || back then s else (s.setSpill e).setFetch c d e p false

/-! ## Accepting and letting go -/

/-- Engine `e` takes the next partition of an operation. -/
def State.setTake (s : State) (c : Nat) (d : Desc) (e : Nat) : State :=
  let p := s.setPlaced c d.num
  let s1 := (s.modSet e (fun m => { m with cur := some (c, d.num), part := p, pos := 0 })).setLoad c d e p
  let s2 := ((s1.modSetOp c d.num (fun a => { a with by' := a.by' ++ [e] })).showSet e).traceEvent (128 + e) evBEGIN (partCmd c d p 0)
  let s3 := s2.modDesc c d.num (fun x => { x with units := setIns x.units (128 + e) })
  match s3.desc c d.num with
  | some x => (s3.waitEnd c x s3.dtime).noteUsed c (128 + e) x
  | none => s3

/-- Engines take partitions that still wait, the lowest partition and the lowest free engine first (R113).
[DEDUCED, log entry 38] -/
def State.setPlace (s : State) (c : Nat) (d : Desc) : State :=
  (s.setPool c d).foldl (fun x e =>
    if x.setPlaced c d.num < setParts d ∧ x.setOpen e (c, d.num) = true then x.setTake c d e else x) s

/-- All partitions of an operation are placed, and the engines that still have one hold it. -/
def State.setHeld (s : State) (c : Nat) (d : Desc) : Bool :=
  !d.units.isEmpty && s.setPlaced c d.num == setParts d && d.units.all (fun u => (s.setEngine (u - 128)).cur == some (c, d.num))

/-- Engine `e` lets go of an operation at the end of its partition. -/
def State.setLeave (s : State) (c : Nat) (d : Desc) (st e : Nat) : State :=
  let part := (s.setEngine e).part
  let s1 := s.modSet e (fun m => { m with cur := none, part := 0, pos := 0 })
  ((s1.traceEvent (128 + e) (if aborts st then evABORT else evEND) (partCmd c d part st)).raiseDone (128 + e)).showSet e

/-- An operation ends: its engines let go and its account is dropped. -/
def State.setEnd (s : State) (c : Nat) (d : Desc) (st detail : Nat) : State :=
  let s1 := d.units.foldl (fun x u =>
    if (x.setEngine (u - 128)).cur = some (c, d.num) then x.setLeave c d st (u - 128)
    else x.modSet (u - 128) (fun m => { m with susp := m.susp.filter (fun p => p.op != (c, d.num)) })) s
  (s1.dropSetOp c d.num).finish c d.num st detail

/-- An engine that has run its partition while others still wait: it takes the next of them in turn (R113), but none in
HALT (R395), and one that may not serve the class any more lets go (R361, R362). -/
def State.setTurn (s : State) (c : Nat) (d : Desc) (e : Nat) : State :=
  if (s.setEngine e).cur = some (c, d.num) ∧ s.setPlaced c d.num < setParts d ∧ s.halted = false then
    if s.setFit (s.jobDies c d) (s.effClass c d.raw) e then
      (s.traceEvent (128 + e) evEND (partCmd c d (s.setEngine e).part stOK)).setTake c d e
    else (s.setLeave c d stOK e).modDesc c d.num (fun x => { x with units := setDel x.units (128 + e) })
  else s

/-! ## Running -/

/-- The first write that fails its check. -/
def State.writesErr (s : State) (c : Nat) (ws : List (Nat × List Byte)) : Option AccErr :=
  ws.findSome? (fun w => s.engineErr c .wr w.1 w.2.length)

def State.putAll (s : State) (ws : List (Nat × List Byte)) : State := ws.foldl (fun x w => x.putBytes w.1 w.2) s

/-- Overflows are counted at the engine that took their partition (R108). -/
def State.setOverflow (s : State) (c n : Nat) (ovf : List Nat) : State :=
  (((s.setOp c n).map (·.by')).getD []).zipIdx.foldl (fun x u =>
    x.bump (rGE_EVENT_CNT u.1) fGE_EVENT_CNT_OVF_CNT (ovf.getD u.2 0)) s

/-- The operation computes and writes its outputs; its result header is still to come. A build leaves the partitions it
wrote home in the copies of its engines (R107). [DEDUCED, log entry 35] -/
def State.setCompute (s : State) (c : Nat) (d : Desc) : State :=
  let e0 := (d.units.head?).getD noEngine
  match s.setBad d with
  | some e => (s.sramError e).setEnd c d stDATA_POISON ((128 + e) * 2 ^ 56)
  | none =>
    match Sys2Proof.Machine.setCompute c s d with
    | .error x => s.setEnd c d x.status (x.detail e0)
    | .ok o =>
      match ((addrErr c s d).toOption.join).or (s.writesErr c o.writes) with
      | some x => s.setEnd c d x.status (x.detail e0)
      | none =>
        let s1 := ((s.setSoft d).putAll o.writes).modSetOp c d.num (fun a => { a with ran := some o.header })
        let s2 := if sopOf d = 1 then d.units.foldl (fun x u => x.tableFill c d (u - 128) (x.setEngine (u - 128)).part) s1 else s1
        s2.setOverflow c d.num o.ovf

/-- A started operation goes on: engines that have run a partition take those that wait, free engines take the rest, and
once none waits the operation's outputs are made. [DEDUCED, log entry 38] -/
def State.setGo (s : State) (c n : Nat) : State :=
  match s.desc c n, s.setOp c n with
  | some d0, some a =>
    if a.waiting || a.ran.isSome then s
    else if !((List.range 4).any (fun x => s.dieUsable x && Nat.testBit (s.jobDies c d0) x)) then
      s.setEnd c d0 stDIE_ABSENT ((128 + 4 * lowestDieOf (s.jobDies c d0)) * 2 ^ 56)
    else
      let s1 := (d0.units.foldl (fun x u => x.setTurn c d0 (u - 128)) s).setPlace c d0
      match s1.desc c n with
      | none => s1
      | some d => if s1.setHeld c d then s1.setCompute c d else s1
  | _, _ => s
where
  /-- Lowest die of a mask. -/
  lowestDieOf (m : Nat) : Nat := ((List.range 4).find? (fun d => Nat.testBit m d)).getD 0

/-- A HASH_BUILD on a record that has started and not completed (R106). -/
def State.buildOn (s : State) (rec : Nat) (c n : Nat) : Bool :=
  s.hub.setOps.any (fun o => !o.waiting && !(o.ctx == c && o.num == n)
    && (match s.desc o.ctx o.num with
        | some d => sopOf d == 1 && setTable d == rec
        | none => false))

/-- A started SET_OP is judged, and either waits for a build or goes on. -/
def State.setBegin (s : State) (c : Nat) (d : Desc) : State :=
  match setDescErr d with
  | some st => s.finish c d.num st (noEngine * 2 ^ 56)
  | none =>
    let wait := tableSop (sopOf d) && s.buildOn (setTable d) c d.num
    (s.modHub (fun h => { h with setOps := h.setOps ++ [{ ctx := c, num := d.num, waiting := wait, ran := none }] })).setGo c d.num

/-- A SET_OP of one operation: it starts when R170 lets it, and a started one goes on. -/
def State.setOpRow (s : State) (c n : Nat) (mine : Nat → Bool) : State :=
  match s.desc c n with
  | none => s
  | some d =>
    if d.phase = .waiting then s.startDesc c n (fun d => d.op == 4 && mine (sopOf d)) (fun s d => s.setBegin c d)
    else if decide (d.phase = .started) && d.op == 4 && mine (sopOf d) && s.jobLive c d then s.setGo c n
    else s

/-- HASH_BUILD (R108, R115). A reserved SOP is refused here (R126). [DEDUCED, log entry 35] -/
def execHashBuild (ctx num : Nat) (s : State) : Res State := .next <| s.setOpRow ctx num (fun o => o == 1 || o == 0 || decide (10 < o))
/-- HASH_QUERY (R115). -/
def execHashQuery (ctx num : Nat) (s : State) : Res State := .next <| s.setOpRow ctx num (· == 2)
/-- NEIGHBOURS (R116, R117). -/
def execNeighbours (ctx num : Nat) (s : State) : Res State := .next <| s.setOpRow ctx num (· == 3)
/-- KNN (R119). -/
def execKnn (ctx num : Nat) (s : State) : Res State := .next <| s.setOpRow ctx num (· == 4)
/-- BALL (R119). -/
def execBall (ctx num : Nat) (s : State) : Res State := .next <| s.setOpRow ctx num (· == 5)
/-- SORT (R120). -/
def execSort (ctx num : Nat) (s : State) : Res State := .next <| s.setOpRow ctx num (· == 6)
/-- TOPK (R121). -/
def execTopk (ctx num : Nat) (s : State) : Res State := .next <| s.setOpRow ctx num (· == 7)
/-- SEGMENT_REDUCE (R122). -/
def execSegmentReduce (ctx num : Nat) (s : State) : Res State := .next <| s.setOpRow ctx num (· == 8)
/-- GATHER_ROWS (R123). -/
def execGatherRows (ctx num : Nat) (s : State) : Res State := .next <| s.setOpRow ctx num (· == 9)
/-- SCATTER_GRID (R125). -/
def execScatterGrid (ctx num : Nat) (s : State) : Res State := .next <| s.setOpRow ctx num (· == 10)

/-- TABLE_BUILD_WAIT_END (R106): the build is complete and the operation starts. -/
def execTableBuildWaitEnd (ctx num : Nat) (s : State) : Res State :=
  .next <|
    match s.desc ctx num, s.setOp ctx num with
    | some d, some a =>
      if a.waiting && !s.buildOn (setTable d) ctx num && s.jobLive ctx d then
        (s.modSetOp ctx num (fun a => { a with waiting := false })).setGo ctx num
      else s
    | _, _ => s

/-- Started operations with a partition that could go to engine `e`, as (context, number). -/
def State.setWaiting (s : State) (e : Nat) : List (Nat × Nat) :=
  (s.hub.setOps.filter (fun o => !o.waiting && o.ran.isNone && (s.setEngine e).cur != some (o.ctx, o.num)
    && (match s.desc o.ctx o.num with
        | some d => decide (o.by'.length < setParts d) && (s.setPool o.ctx d).contains e
        | none => false))).map (fun o => (o.ctx, o.num))

/-- Most operations in a suspend store (Table 5.1). -/
def suspCap : Nat := 16

/-- Inputs an engine is taken to pass in a chunk of 3,200 cycles: two of them a cycle (R114, R127). [DESIGN CHOICE, log entry 108] -/
def chunkInputs : Nat := 6400

/-- The engine has run one more chunk of its operation. -/
def State.setChunk (s : State) (e : Nat) (d : Desc) : State :=
  s.modSet e (fun m => { m with pos := min (setN d) (m.pos + chunkInputs) })

/-- The operation on an engine is at a chunk boundary (R114, R395): it is suspended for work of a higher class that waits
for the engine, and in HALT; its partition and input position are kept. -/
def State.chunkEnd (s : State) (eng : Nat) : State :=
  match (s.setEngine eng).cur with
  | none => s
  | some (c, n) =>
    match s.desc c n with
    | none => s
    | some d =>
      let s1 := s.setChunk eng d
      let asked := s.halted || (s.setWaiting eng).any (fun p => decide (s.descPrio c n < s.descPrio p.1 p.2))
      if asked && decide ((s.setEngine eng).susp.length < suspCap) then
        let m := s1.setEngine eng
        let s2 := s1.traceEvent (128 + eng) evLEAP_OUT (partCmd c d m.part 0)
        (s2.modSet eng (fun x =>
          { x with cur := none, part := 0, pos := 0, susp := { op := (c, n), part := m.part, pos := m.pos } :: x.susp })).showSet eng
      else s1

/-- SET_OP_CHUNK_BOUNDARY (R114): bits may have flipped in the SRAM by then. [DESIGN CHOICE, log entry 99] -/
def execSetOpChunkBoundary (at' : SetChunk) (s : State) : Res State :=
  .next <| (s.modSet at'.eng (fun m => at'.flips.foldl SetEngine.flip m)).chunkEnd at'.eng

/-- SET_OP_RESUME (R114): the newest suspended operation takes the engine again, from the input position it kept. Its
partition is loaded again where another operation took the SRAM meanwhile. [DEDUCED, log entry 38] -/
def execSetOpResume (eng : Nat) (s : State) : Res State :=
  .next <|
    match (s.setEngine eng).susp with
    | [] => s
    | u :: r =>
      match s.desc u.op.1 u.op.2 with
      | none => s
      | some d =>
        if s.setIdle eng && s.setFit (s.jobDies u.op.1 d) (s.effClass u.op.1 d.raw) eng && s.jobLive u.op.1 d then
          let s1 := s.modSet eng (fun m => { m with cur := some u.op, part := u.part, pos := u.pos, susp := r })
          ((s1.setReload u.op.1 d eng u.part).showSet eng).traceEvent (128 + eng) evLEAP_IN (partCmd u.op.1 d u.part 0)
        else s

/-- SET_OP_COMPLETE (R112): the outputs are written, the header follows. An error that arose meanwhile is met first (R102). -/
def execSetOpComplete (ctx num : Nat) (s : State) : Res State :=
  .next <|
    match s.desc ctx num, s.setOp ctx num with
    | some d, some a =>
      match a.ran with
      | none => s
      | some h =>
        if s.setHeld ctx d && s.jobLive ctx d then
          match s.setBad d with
          | some e => (s.sramError e).setEnd ctx d stDATA_POISON ((128 + e) * 2 ^ 56)
          | none =>
          match (s.setSoft d).engWrite ctx (setResult d) (packNats 8 h ++ leBytes 8 0) with
          | (s1, some e) => s1.setEnd ctx d e.status (e.detail ((d.units.head?).getD noEngine))
          | (s1, none) => s1.setEnd ctx d stOK okDetail'
        else s
    | _, _ => s
where
  /-- DETAIL of a descriptor that completed OK. -/
  okDetail' : Nat := noEngine * 2 ^ 56

/-- Set engines let go of the descriptors of a context's job (R192 step 3). -/
def State.freeSets (s : State) (c : Nat) (nums : List Nat) : State :=
  let hit := fun (p : Nat × Nat) => p.1 == c && nums.contains p.2
  let s1 := s.modHub (fun h =>
    { h with
      sets := h.sets.map (fun m =>
        let gone := m.cur.any hit
        { m with cur := if gone then none else m.cur, part := if gone then 0 else m.part, pos := if gone then 0 else m.pos
                 susp := m.susp.filter (fun p => !hit p.op) })
      setOps := h.setOps.filter (fun o => !hit (o.ctx, o.num)) })
  (List.range 16).foldl (fun x e => x.showSet e) s1


end Sys2Proof.Machine
end

