-- ==== Sys2Proof/Machine/Kv.lean ====
section
/-!
DEFINITION. KV_OPs (R128–R146): the sequence descriptor, rows and pages, latent and score
mode, the score table, and the snapshots of jobs.
-/
namespace Sys2Proof.Machine

/-! ## The KV_OP descriptor (Table 6.2) -/

def kvKop (d : Desc) : Nat := d.at 16 1
def kvDie (d : Desc) : Nat := bits d.raw 143 140
def kvWant (d : Desc) : Nat := bits d.raw 138 136 + 1
def kvHead (d : Desc) : Nat := d.at 18 2
def kvFirst (d : Desc) : Nat := d.at 20 4
def kvCount (d : Desc) : Nat := d.at 24 4
def kvEmode (d : Desc) : Nat := bits d.raw 227 226
def kvLayout (d : Desc) : Nat := bits d.raw 224 224
def kvSeq (d : Desc) : Nat := d.at 32 8
def kvA0 (d : Desc) : Nat := d.at 40 8
def kvA1 (d : Desc) : Nat := d.at 48 8
def kvA2 (d : Desc) : Nat := d.at 56 8

/-- The descriptor checks of R133 that need no sequence. -/
def kvDescOk (d : Desc) : Bool :=
  (decide (kvDie d ≤ 3) || kvDie d == 0xF) && (kvDie d == 0xF || kvHead d == 0)
  && (match kvKop d with
      | 1 => kvFirst d == 0 && decide (1 ≤ kvCount d ∧ kvCount d ≤ 32768) && kvEmode d == 0 && (kvLayout d == 1 || kvA1 d == 0)
      | 2 => decide (1 ≤ kvCount d ∧ kvCount d ≤ 32768) && kvEmode d == 0 && (kvLayout d == 1 || kvA1 d == 0)
      | 3 => kvEmode d != 3 && kvLayout d == 0 && kvA0 d == 0 && kvA1 d == 0 && kvA2 d == 0
             && (if kvEmode d = 1 then kvFirst d == 0 && decide (1 ≤ kvCount d ∧ kvCount d ≤ 8192) else kvCount d == 0)
      | 4 => kvFirst d == 0 && kvCount d == 0 && kvEmode d == 0 && kvLayout d == 0 && kvA0 d == 0 && kvA1 d == 0 && kvA2 d == 0
      | _ => false)

/-! ## The sequence descriptor (Table 6.1) -/

/-- A sequence descriptor as one little-endian number, with its address. -/
structure Seq where
  at' : Nat
  raw : Nat
  deriving DecidableEq, Repr

def Seq.f (q : Seq) (i n : Nat) : Nat := bytesOf q.raw i n
def Seq.score (q : Seq) : Bool := q.f 2 1 == 1
def Seq.state (q : Seq) : Nat := q.f 3 1
def Seq.fmt0 (q : Seq) : Nat := q.f 4 1 % 16
def Seq.fmt1 (q : Seq) : Nat := q.f 4 1 / 16
def Seq.ch0 (q : Seq) : Nat := q.f 6 2
def Seq.ch1 (q : Seq) : Nat := q.f 8 2
def Seq.rowBytes (q : Seq) : Nat := q.f 10 2
def Seq.pin (q : Seq) : Nat := q.f 12 2
def Seq.spare (q : Seq) : Nat := q.f 14 2
def Seq.slots (q : Seq) : Nat := q.f 16 4
def Seq.mapped (q : Seq) : Nat := q.f 20 4
def Seq.length (q : Seq) : Nat := q.f 24 4
def Seq.live (q : Seq) : Nat := q.f 28 4
def Seq.pageList (q : Seq) : Nat := q.f 32 8
def Seq.pool (q : Seq) : Nat := q.f 40 8
def Seq.poolPages (q : Seq) : Nat := q.f 48 4
def Seq.decay (q : Seq) : Nat := q.f 52 4
def Seq.meta (q : Seq) : Nat := q.f 56 8
def Seq.snap (q : Seq) : Nat := q.f 64 8
def Seq.updates (q : Seq) : Nat := q.f 76 4
def Seq.evicted (q : Seq) : Nat := q.f 80 8
def Seq.pslots (q : Seq) : Nat := if q.score then q.slots + q.spare else 0

/-- Channel-block size of a field format (Table 4.2), 0 for a format that is not allowed. -/
def kvGroup (code : Nat) : Nat := if code ≤ 5 then 16 else if code = 0xB ∨ code = 0xC then 32 else 0

/-- Element bits of a field format. -/
def kvBits (code : Nat) : Nat := ((fmtOfCode code).map Fmt.bits).getD 8

/-- ROW_BYTES by R130. -/
def Seq.rowRule (q : Seq) : Nat := ceilDiv (q.ch0 * kvBits q.fmt0 + q.ch1 * kvBits q.fmt1) 512 * 64

/-- Rows of a page. -/
def Seq.rpp (q : Seq) : Nat := 16384 / q.rowBytes

/-- Step 1 of R131: what it lists, and nothing else of Table 6.1. [DEDUCED, log entry 39] -/
def Seq.formOk (q : Seq) : Bool :=
  q.at' % 128 == 0 && q.f 0 2 == 1 && decide (q.f 2 1 ≤ 1) && decide (q.state ≤ 3)
  && kvGroup q.fmt0 != 0 && kvGroup q.fmt1 != 0 && q.ch0 != 0 && q.ch0 % kvGroup q.fmt0 == 0 && q.ch1 % kvGroup q.fmt1 == 0
  && q.rowBytes == q.rowRule && decide (q.rowBytes ≤ (if q.score then 4096 else 2048))
  && q.pageList % 64 == 0 && q.pool % 16384 == 0 && q.snap % 64 == 0
  && (if q.score then
        decide (1 ≤ q.slots ∧ q.slots ≤ 8192) && decide (q.pin < q.slots) && decide (1 ≤ q.spare ∧ q.spare ≤ 64) && q.meta % 64 == 0
      else q.slots == 0 && q.pin == 0 && q.spare == 0 && q.decay == 0)

/-- Step 2 of R131. -/
def Seq.countsOk (q : Seq) : Bool :=
  if q.score then
    decide (q.live ≤ q.slots) && decide (q.live ≤ q.length) && decide (ceilDiv q.pslots q.rpp ≤ q.mapped)
  else q.live == q.length && decide (q.length ≤ 32768) && decide (ceilDiv q.length q.rpp ≤ q.mapped)

/-- Fields of Table 6.3 that the sequence's mode or field 1 leaves unused. [DEDUCED, log entry 39] -/
def kvUseOk (q : Seq) (d : Desc) : Bool := (q.ch1 != 0 || kvA1 d == 0) && (q.score || kvA2 d == 0)

/-- An address in a peer-part window. -/
def State.inPeer (s : State) (a : Nat) : Bool :=
  match s.zone a with
  | .peer _ _ => true
  | _ => false

def refuse {α : Type} (st : Nat) : SetM α := .error { status := st, addr := 0 }

/-- An access made for a row: a failure names it (R145). -/
def forRow {α : Type} (r : Nat) (x : SetM α) : SetM α :=
  match x with
  | .ok a => .ok a
  | .error e => .error { e with row := some r }

/-- Read and judge the sequence (R131, R132). -/
def kvOpen (s : State) (c : Nat) (d : Desc) : SetM Seq := do
  let a := kvSeq d
  if s.inPeer a then refuse stUNSUPPORTED else
  if a % 128 ≠ 0 then refuse stMALFORMED else do
  let q : Seq := { at' := a, raw := leNat (← setRead s c a 128) }
  if !(q.formOk && q.countsOk && kvUseOk q d) then refuse stMALFORMED
  else if q.state ≠ 1 ∧ ¬ (kvKop d = 4 ∧ q.state = 3) then refuse stSTATE_REFUSED
  else if s.inPeer q.pageList || s.inPeer q.pool || (q.score && s.inPeer q.meta) || (q.snap != 0 && s.inPeer q.snap) then
    refuse stUNSUPPORTED
  else return q

/-! ## Rows and pages (R128, R130, R134) -/

/-- Address of row `r`: the page-list entry is read, and must lie in the pool. -/
def Seq.row (q : Seq) (s : State) (c r : Nat) : SetM Nat := do
  let e := q.pageList + 4 * (r / q.rpp)
  let n := leNat (← setRead s c e 4)
  let a := q.pool + n * 16384 + (r % q.rpp) * q.rowBytes
  if q.poolPages ≤ n then .error { status := stREGION_FAULT, addr := e / 64 * 64 }
  else if s.inPeer a then refuse stUNSUPPORTED
  else return a

/-- A field of the sequence: channels, group and element bits. -/
structure KvField where
  base : Nat
  ch   : Nat
  g    : Nat
  e    : Nat
  deriving DecidableEq, Repr

def Seq.fields (q : Seq) (d : Desc) : List KvField :=
  [{ base := kvA0 d, ch := q.ch0, g := kvGroup q.fmt0, e := kvBits q.fmt0 },
   { base := kvA1 d, ch := q.ch1, g := kvGroup q.fmt1, e := kvBits q.fmt1 }]

def KvField.blockBytes (f : KvField) : Nat := f.g * f.e / 8
def KvField.blocks (f : KvField) : Nat := f.ch / f.g
def KvField.pitch (f : KvField) (n : Nat) : Nat := ceilDiv (n * f.g * f.e) 512 * 64
def KvField.block (f : KvField) (n b : Nat) : Nat := f.base + b * f.pitch n

/-- The row a line of a source or destination belongs to (R134). -/
def kvRowAt (q : Seq) (d : Desc) (line : Nat) : Option Nat :=
  let n := kvCount d
  let at' := fun (base len : Nat) =>
    if base < line + 64 ∧ line < base + n * len then some ((max line base - base) / len) else none
  if kvLayout d = 0 then at' (kvA0 d) q.rowBytes
  else (q.fields d).findSome? (fun f => (List.range f.blocks).findSome? (fun b => at' (f.block n b) f.blockBytes))

/-- A read of a source, whose failure names the row it meets. -/
def kvRead (s : State) (c : Nat) (q : Seq) (d : Desc) (a n : Nat) : SetM (List Byte) :=
  match setRead s c a n with
  | .ok bs => .ok bs
  | .error e => .error { e with row := kvRowAt q d e.addr }

/-- Rows of a source (R134). -/
def kvSource (s : State) (c : Nat) (q : Seq) (d : Desc) : SetM (List (List Byte)) := do
  let n := kvCount d
  if kvLayout d = 0 then do
    let bs ← kvRead s c q d (kvA0 d) (n * q.rowBytes)
    return (List.range n).map (fun i => (bs.drop (i * q.rowBytes)).take q.rowBytes)
  else do
    let fs ← (q.fields d).mapM (fun f => (List.range f.blocks).mapM (fun b => kvRead s c q d (f.block n b) (n * f.blockBytes)))
    return (List.range n).map (fun i =>
      let row := ((q.fields d).zip fs).flatMap (fun p => p.2.flatMap (fun bs => (bs.drop (i * p.1.blockBytes)).take p.1.blockBytes))
      row ++ List.replicate (q.rowBytes - row.length) 0)

/-- Writes of rows to a destination (R134). -/
def kvDest (q : Seq) (d : Desc) (rows : List (List Byte)) : List (Nat × List Byte) :=
  let n := kvCount d
  if kvLayout d = 0 then [(kvA0 d, rows.flatten)]
  else
    let f0 := (q.fields d).headD { base := 0, ch := 0, g := 1, e := 8 }
    let skip := fun (i : Nat) => if i = 0 then 0 else f0.blocks * f0.blockBytes
    ((q.fields d).zipIdx).flatMap (fun p =>
      (List.range p.1.blocks).map (fun b =>
        (p.1.block n b, rows.flatMap (fun r => (r.drop (skip p.2 + b * p.1.blockBytes)).take p.1.blockBytes))))

/-! ## Slots of score mode (R139–R142) -/

def kvEmpty : Nat := 0xFFFFFFFF

/-- A slot: position and score. -/
abbrev Slot := Nat × Nat

/-- SLOT_META from an address. -/
def slotsAt (s : State) (c a n : Nat) : SetM (List Slot) := do
  let ws ← setNats s c a 8 n
  return ws.map (fun w => (w % 2 ^ 32, w / 2 ^ 32))

def liveSlot (m : List Slot) (i : Nat) : Bool := (m.getD i (kvEmpty, 0)).1 != kvEmpty

/-- Live slots by ascending position. -/
def byPosition (m : List Slot) : List Nat :=
  (stableSort (fun a b => decide (a.1 < b.1))
    ((m.zipIdx.filter (fun p => p.1.1 != kvEmpty)).map (fun p => (p.1.1, p.2)))).map (·.2)

/-- Rank of a candidate: NaN below every number, then the score, then the position. -/
def evictBefore (a b : Slot × Nat) : Bool :=
  let na := f32IsNaN a.1.2
  let nb := f32IsNaN b.1.2
  if na != nb then na
  else if !na && f32Lt a.1.2 b.1.2 then true
  else if !na && f32Lt b.1.2 a.1.2 then false
  else decide (a.1.1 < b.1.1)

/-- The slot the ranking of R140 evicts; `length` is LENGTH before the new row. -/
def victimSlot (m : List Slot) (length pin : Nat) : Option Nat :=
  (pickBy evictBefore (m.zipIdx.filter (fun p => p.1.1 != kvEmpty && decide (p.1.1 + pin < length)))).map (·.2)

def evictSlot (m : List Slot) (i : Nat) : List Slot := modAt m i (fun x => (kvEmpty, x.2))

/-- A score-mode change being planned: slots, LENGTH, evictions and the slots taken, newest
first. -/
structure KvPlan where
  slots  : List Slot
  length : Nat
  evict  : Nat := 0
  taken  : List Nat := []
  deriving DecidableEq, Repr

def KvPlan.live (p : KvPlan) : Nat := (p.slots.filter (fun x => x.1 != kvEmpty)).length

/-- One new row (R140 step 2); `start` and `snap` are the slots at the APPEND's start and in
the job's snapshot. -/
def KvPlan.place (q : Seq) (start snap : List Slot) (p : KvPlan) : SetM KvPlan := do
  let p1 ←
    if q.slots ≤ p.live then
      match victimSlot p.slots p.length q.pin with
      | some v => .ok { p with slots := evictSlot p.slots v, evict := p.evict + 1 }
      | none => refuse stSTATE_REFUSED
    else .ok p
  match (List.range p1.slots.length).find? (fun i => !liveSlot start i && !liveSlot snap i && !p1.taken.contains i) with
  | some i => return { p1 with slots := setAt p1.slots i (p1.length, 0), length := p1.length + 1, taken := i :: p1.taken }
  | none => refuse stSTATE_REFUSED

def KvPlan.placeN (q : Seq) (start snap : List Slot) : Nat → KvPlan → SetM KvPlan
  | 0, p => .ok p
  | n + 1, p => do KvPlan.placeN q start snap n (← p.place q start snap)

/-- COUNT evictions one at a time (R142). -/
def KvPlan.evictN (q : Seq) : Nat → KvPlan → SetM KvPlan
  | 0, p => .ok p
  | n + 1, p =>
    match victimSlot p.slots p.length q.pin with
    | some v => KvPlan.evictN q n { p with slots := evictSlot p.slots v, evict := p.evict + 1 }
    | none => refuse stSTATE_REFUSED

/-- Step 1 of R140. -/
def accumulate (q : Seq) (m : List Slot) (vals : List Nat) : List Slot :=
  ((byPosition m).zip vals).foldl (fun m p => modAt m p.1 (fun x => (x.1, f32Fma x.2 q.decay p.2))) m

def slotBytes (m : List Slot) : List Byte := m.flatMap (fun x => leBytes 4 x.1 ++ leBytes 4 x.2)

/-! ## Registration (R138) -/

def scoreEnt (s : State) (i : Nat) : Bool := s.flag (rHUB_KV_SCORE_ENT i) fHUB_KV_SCORE_ENT_VALID

/-- The entry that holds a sequence. -/
def State.scoreOf (s : State) (seq : Nat) : Option Nat :=
  (List.range 64).find? (fun i => scoreEnt s i && s.rf (rHUB_KV_SCORE_ENT i) fHUB_KV_SCORE_ENT_SEQ == seq)

/-- The lowest free entry. -/
def State.scoreFree (s : State) : Option Nat := (List.range 64).find? (fun i => !scoreEnt s i)

def State.countScores (s : State) : State :=
  s.wf rHUB_KV_SCORE_STAT fHUB_KV_SCORE_STAT_USED ((List.range 64).filter (scoreEnt s)).length

/-- Register a sequence that no entry holds. [DEDUCED, log entry 39] -/
def State.scoreRegister (s : State) (c seq : Nat) : State :=
  match s.scoreOf seq, s.scoreFree with
  | none, some i =>
    let r := rHUB_KV_SCORE_ENT i
    (((s.wf r fHUB_KV_SCORE_ENT_VALID 1).wf r fHUB_KV_SCORE_ENT_CTX c).wf r fHUB_KV_SCORE_ENT_SEQ seq).countScores
  | _, _ => s

/-- Release the entry of a sequence. -/
def State.scoreRelease (s : State) (seq : Nat) : State :=
  match s.scoreOf seq with
  | some i => (s.setReg (rHUB_KV_SCORE_ENT i) 0).countScores
  | none => s

/-! ## Snapshots (R144) -/

/-- The open job's touched sequences, when the descriptor belongs to it. -/
def State.touchedBy (s : State) (c : Nat) (d : Desc) : Option (List Touched) :=
  match (s.ctx c).job with
  | some j => if s.inOpenJob c d then some j.touched else none
  | none => none

/-- What the job's snapshot holds: whether it is to be taken now, its LENGTH and its slots. -/
structure SnapView where
  take   : Bool
  length : Nat
  slots  : List Slot
  deriving DecidableEq, Repr

/-- The snapshot a change of the sequence meets; `none` outside a job. -/
def kvSnap (s : State) (c : Nat) (d : Desc) (q : Seq) (m : List Slot) : SetM (Option SnapView) :=
  match s.touchedBy c d with
  | none => .ok none
  | some l =>
    if l.any (fun t => t.seq == q.at') then do
      let r := leNat (← setRead s c q.snap 128)
      let old ← if q.score then slotsAt s c (q.snap + 128) q.pslots else pure []
      return some { take := false, length := bytesOf r 24 4, slots := old }
    else if q.snap = 0 ∨ 64 ≤ l.length then refuse stSTATE_REFUSED
    else return some { take := true, length := q.length, slots := m }

/-- Writes that take a snapshot: descriptor, SLOT_META, then the tag. -/
def snapWrites (q : Seq) (m : List Slot) (tag : Nat) (v : Option SnapView) : List (Nat × List Byte) :=
  match v with
  | some x => if x.take then [(q.snap, leBytes 128 q.raw ++ slotBytes m), (q.at' + 72, leBytes 4 tag)] else []
  | none => []

/-! ## What a KV_OP does -/

/-- The effect of a KV_OP: its writes in order, the rows appended and positions evicted, where each new row goes as
(address, row), and whether it changes the sequence and frees it. -/
structure KvDone where
  writes : List (Nat × List Byte) := []
  rows   : Nat := 0
  evict  : Nat := 0
  change : Bool := false
  placed : List (Nat × Nat) := []
  snap   : Option SnapView := none
  free   : Bool := false
  deriving DecidableEq, Repr

def Seq.setLength (q : Seq) (length live : Nat) : List (Nat × List Byte) := [(q.at' + 24, leBytes 4 length ++ leBytes 4 live)]
def Seq.bump (q : Seq) : List (Nat × List Byte) := [(q.at' + 76, leBytes 4 (q.updates + 1))]
def Seq.setEvicted (q : Seq) (n : Nat) : List (Nat × List Byte) :=
  if n = 0 then [] else [(q.at' + 80, leBytes 8 (q.evicted + n))]


/-- Latent APPEND (R135). -/
def latentAppend (s : State) (c : Nat) (q : Seq) (d : Desc) : SetM KvDone := do
  let n := kvCount d
  let l := q.length
  if 32768 < l + n then refuse stLENGTH_LIMIT
  else if q.mapped < ceilDiv (l + n) q.rpp then refuse stSTATE_REFUSED
  else do
    let v ← kvSnap s c d q []
    let rows ← kvSource s c q d
    let ws ← (rows.zipIdx).mapM (fun p => do return ((← forRow p.2 (q.row s c (l + p.2))), p.1))
    return { writes := snapWrites q [] (s.jobTag c) v ++ ws ++ q.setLength (l + n) (l + n) ++ q.bump
             rows := n, change := true, placed := (ws.map (·.1)).zipIdx, snap := v }

/-- Latent ATTEND_FETCH (R136). -/
def latentFetch (s : State) (c : Nat) (q : Seq) (d : Desc) : SetM KvDone := do
  if q.length < kvFirst d + kvCount d then refuse stSTATE_REFUSED
  else do
    let rows ← (List.range (kvCount d)).mapM (fun i => forRow i (do setRead s c (← q.row s c (kvFirst d + i)) q.rowBytes))
    return { writes := kvDest q d rows }

/-- Score-mode APPEND (R140). -/
def scoreAppend (s : State) (c : Nat) (q : Seq) (m : List Slot) (d : Desc) : SetM KvDone := do
  let n := kvCount d
  if 0xFFFFFFFE < q.length + n then refuse stLENGTH_LIMIT
  else do
    let v ← kvSnap s c d q m
    let vals ← if kvA2 d = 0 then pure [] else setNats s c (kvA2 d) 4 q.live
    let old := (v.map (·.slots)).getD []
    let p ← KvPlan.placeN q m old n { slots := accumulate q m vals, length := q.length }
    let rows ← kvSource s c q d
    let ws ← ((rows.zip p.taken.reverse).zipIdx).mapM (fun x => do return ((← forRow x.2 (q.row s c x.1.2)), x.1.1))
    return { writes := snapWrites q m (s.jobTag c) v ++ ws ++ [(q.meta, slotBytes p.slots)] ++ q.setLength p.length p.live
               ++ q.bump ++ q.setEvicted p.evict
             rows := n, evict := p.evict, change := true, placed := (ws.map (·.1)).zipIdx, snap := v }

/-- Score-mode ATTEND_FETCH (R141). -/
def scoreFetch (s : State) (c : Nat) (q : Seq) (m : List Slot) (d : Desc) : SetM KvDone := do
  if q.live < kvFirst d + kvCount d then refuse stSTATE_REFUSED
  else do
    let is := ((byPosition m).drop (kvFirst d)).take (kvCount d)
    let rows ← is.zipIdx.mapM (fun i => forRow i.2 (do setRead s c (← q.row s c i.1) q.rowBytes))
    return { writes := kvDest q d rows ++ outAt (kvA2 d) (packNats 4 (is.map (fun i => (m.getD i (kvEmpty, 0)).1))) }

/-- Inside a job EMODE 0 keeps to the snapshot's LENGTH (R144). -/
def snapAllows (v : Option SnapView) (first : Nat) : Bool :=
  match v with
  | some x => decide (x.length ≤ first)
  | none => true

/-- EVICT with EMODE 0 (R137, R142). -/
def kvTruncate (s : State) (c : Nat) (q : Seq) (m : List Slot) (d : Desc) : SetM KvDone := do
  if q.length < kvFirst d then refuse stSTATE_REFUSED
  else do
    let v ← kvSnap s c d q m
    if !snapAllows v (kvFirst d) then refuse stSTATE_REFUSED
    else
      let m1 := m.map (fun x => if x.1 != kvEmpty && decide (kvFirst d ≤ x.1) then (kvEmpty, x.2) else x)
      let live := if q.score then (m1.filter (fun x => x.1 != kvEmpty)).length else kvFirst d
      return { writes := snapWrites q m (s.jobTag c) v ++ (if q.score then [(q.meta, slotBytes m1)] else [])
                 ++ q.setLength (kvFirst d) live ++ q.bump
               change := true, snap := v }

/-- EVICT with EMODE 1 (R142). -/
def kvEvictLowest (s : State) (c : Nat) (q : Seq) (m : List Slot) (d : Desc) : SetM KvDone := do
  let v ← kvSnap s c d q m
  let p ← KvPlan.evictN q (kvCount d) { slots := m, length := q.length }
  return { writes := snapWrites q m (s.jobTag c) v ++ [(q.meta, slotBytes p.slots)] ++ q.setLength q.length p.live
             ++ q.bump ++ q.setEvicted p.evict
           evict := p.evict, change := true, snap := v }

/-- EVICT with EMODE 2 (R142). -/
def kvEvictOne (s : State) (c : Nat) (q : Seq) (m : List Slot) (d : Desc) : SetM KvDone := do
  match m.findIdx? (fun x => x.1 == kvFirst d && x.1 != kvEmpty) with
  | none => refuse stSTATE_REFUSED
  | some i => do
    let v ← kvSnap s c d q m
    let p : KvPlan := { slots := evictSlot m i, length := q.length }
    return { writes := snapWrites q m (s.jobTag c) v ++ [(q.meta, slotBytes p.slots)] ++ q.setLength q.length p.live ++ q.bump
             change := true, snap := v }

/-- FREE (R143). [DEDUCED, log entry 39] -/
def kvFreeOp (s : State) (c : Nat) (q : Seq) (m : List Slot) (d : Desc) : SetM KvDone := do
  let v ← kvSnap s c d q m
  return { writes := snapWrites q m (s.jobTag c) v ++ [(q.at' + 3, leBytes 1 2)] ++ q.bump, change := true, snap := v, free := true }

/-- SLOT_META of a score-mode sequence. A FREE outside a job needs none. -/
def kvSlots (s : State) (c : Nat) (q : Seq) (d : Desc) : SetM (List Slot) :=
  if q.score && !(kvKop d == 4 && (s.touchedBy c d).isNone) then slotsAt s c q.meta q.pslots else .ok []

/-- The grant and the table of R138: REFUSE_CNT counts a full table. -/
inductive Grant where
  | yes | no | full
  deriving DecidableEq, Repr

def State.scoreGrant (s : State) (c : Nat) (q : Seq) : Grant :=
  if !q.score then .yes
  else if !s.flag (rHUB_CTX_CFG c) fHUB_CTX_CFG_SCORE_MODE then .no
  else if (s.scoreOf q.at').isNone && s.scoreFree.isNone then .full
  else .yes

/-- The operation on an accepted sequence, by KOP and EMODE. -/
def kvEffect (s : State) (c : Nat) (q : Seq) (d : Desc) : SetM KvDone := do
  let m ← kvSlots s c q d
  match kvKop d, q.score with
  | 1, false => latentAppend s c q d
  | 1, true => scoreAppend s c q m d
  | 2, false => latentFetch s c q d
  | 2, true => scoreFetch s c q m d
  | 3, sc =>
    if kvEmode d = 0 then kvTruncate s c q m d
    else if !sc then refuse stUNSUPPORTED
    else if kvEmode d = 1 then kvEvictLowest s c q m d
    else kvEvictOne s c q m d
  | _, _ => kvFreeOp s c q m d

/-- The engine that reports a failed access: the one whose share of the rows met it (R145), or the first, which reads
the sequence. [DEDUCED, log entry 39] -/
def kvEngine (d : Desc) (e : AccErr) : Nat :=
  match e.row with
  | some r => d.units.getD (shareIdx (kvCount d) d.units.length r) noEngine
  | none => (d.units.head?).getD noEngine

/-- A KV_OP that fails: REGION_FAULT, DATA_POISON and DIE_ABSENT are an engine's report. -/
def kvFail (s : State) (d : Desc) (e : AccErr) : State × Nat × Nat :=
  (s, e.status, e.detail (if aborts e.status && e.status != stMALFORMED && e.status != stUNSUPPORTED then kvEngine d e else noEngine))

/-- A failed write names the row it was made for. -/
def KvDone.errRow (k : KvDone) (q : Seq) (d : Desc) (e : AccErr) : AccErr :=
  match k.placed.find? (fun p => decide (p.1 ≤ e.addr ∧ e.addr < p.1 + q.rowBytes)) with
  | some p => { e with row := some p.2 }
  | none => if kvKop d = 2 then { e with row := kvRowAt q d e.addr } else e

/-- The state after a KV_OP's writes: counters, registration, touched sequences, score-table
release. -/
def State.kvCommit (s : State) (c : Nat) (d : Desc) (q : Seq) (k : KvDone) : State :=
  let e := ((d.units.head?).getD 144) - 144
  let s1 := (s.bump (rDE_KV_CNT e) fDE_KV_CNT_APPEND_CNT k.rows).bump (rDE_KV_CNT e) fDE_KV_CNT_EVICT_CNT k.evict
  let s2 :=
    match k.snap with
    | some v => if v.take then s1.modJob c (fun j => { j with touched := j.touched ++ [{ seq := q.at', score := q.score, fresh := false, freed := false }] }) else s1
    | none => s1
  if k.free && q.score then
    if (s.touchedBy c d).isSome then
      s2.modJob c (fun j => { j with touched := j.touched.map (fun t => if t.seq = q.at' then { t with freed := true } else t) })
    else s2.scoreRelease q.at'
  else s2

/-- Rows a KV_OP moves. -/
def kvMoved (d : Desc) : Nat := if kvKop d = 1 ∨ kvKop d = 2 then kvCount d else 0

/-- The transfer of a KV_OP. -/
def State.kvRun (c : Nat) (s : State) (d : Desc) : State × Nat × Nat :=
  match kvOpen s c d with
  | .error e => kvFail s d e
  | .ok q =>
    match s.scoreGrant c q with
    | .no => (s, stSTATE_REFUSED, noEngine * 2 ^ 56)
    | .full => (s.bump rHUB_KV_SCORE_STAT fHUB_KV_SCORE_STAT_REFUSE_CNT 1, stSTATE_REFUSED, noEngine * 2 ^ 56)
    | .yes =>
      match kvEffect s c q d with
      | .error e =>
        -- a refusal has no effect (R131); a sequence that an engine's access stops is registered
        if restartable e.status || e.status == stREGION_FAULT then
          kvFail (if q.score then s.scoreRegister c q.at' else s) d e
        else kvFail s d e
      | .ok k =>
        let s1 := if q.score then s.scoreRegister c q.at' else s
        match s1.writesErr c k.writes with
        | some e => kvFail s1 d (k.errRow q d e)
        | none => (((s1.putAll k.writes).kvCommit c d q k).countRows d (kvMoved d) q.rowBytes, stOK, noEngine * 2 ^ 56)

/-! ## Starting, one at a time on a sequence (R132, R146) -/

/-- A started KV_OP on the same sequence was dispatched before. -/
def State.kvBusy (s : State) (c : Nat) (d : Desc) : Bool :=
  (s.hub.ctxs.mapIdx (fun c' x => (c', x))).any (fun p =>
    p.2.window.any (fun x => x.op == 5 && decide (x.phase = .started) && kvSeq x == kvSeq d
      && !(p.1 == c && x.num == d.num) && decide (x.order < d.order)))

/-- Placement of a KV_OP (R133, R146). -/
def kvPlace (c : Nat) (s : State) (d : Desc) : Placed :=
  if !kvDescOk d then .fail stMALFORMED noEngine
  else if s.inPeer (kvSeq d) then .fail stUNSUPPORTED noEngine
  else s.placeDie c d (kvDie d) (kvHead d)

/-- Choose a descriptor's engines. -/
def State.dmaAssign (s : State) (c : Nat) (d : Desc) (die want : Nat) : State :=
  s.modDesc c d.num (fun x => { x with units := (s.dmaPick die (s.effClass c d.raw) want (c, d.num)).map (144 + ·) })

/-- A KV_OP of one kind. -/
def State.kvRow (s : State) (c n : Nat) (mine : Desc → Bool) : State :=
  match s.desc c n with
  | none => s
  | some d =>
    if d.phase = .waiting then
      s.startDesc c n (fun d => d.op == 5 && mine d) (fun s d =>
        match kvPlace c s d with
        | .fail st e => s.finish c n st (e * 2 ^ 56)
        | .die x =>
          let s1 := s.dmaAssign c d x (kvWant d)
          if s.kvBusy c d then s1 else s1.dmaRun c n x (kvWant d) (State.kvRun c))
    else if decide (d.phase = .started) && d.op == 5 && mine d && s.jobLive c d && !s.kvBusy c d then
      (match d.units with
       | u :: _ => s.dmaRun c n ((u - 144) / 8) (kvWant d) (State.kvRun c)
       | [] => s.dmaPlaced c n (kvPlace c s d) (kvWant d) (State.kvRun c))
    else s

/-- APPEND (R135, R140). A reserved KOP is refused here (R133). -/
def execAppend (ctx num : Nat) (s : State) : Res State :=
  .next <| s.kvRow ctx num (fun d => kvKop d == 1 || kvKop d == 0 || decide (4 < kvKop d))
/-- ATTEND_FETCH (R136, R141). -/
def execAttendFetch (ctx num : Nat) (s : State) : Res State := .next <| s.kvRow ctx num (fun d => kvKop d == 2)
/-- EVICT with EMODE 0 (R137, R142). -/
def execEvictTruncate (ctx num : Nat) (s : State) : Res State :=
  .next <| s.kvRow ctx num (fun d => kvKop d == 3 && (kvEmode d == 0 || kvEmode d == 3))
/-- EVICT with EMODE 1 (R142). -/
def execEvictLowestScored (ctx num : Nat) (s : State) : Res State :=
  .next <| s.kvRow ctx num (fun d => kvKop d == 3 && kvEmode d == 1)
/-- EVICT with EMODE 2 (R142). -/
def execEvictOnePosition (ctx num : Nat) (s : State) : Res State :=
  .next <| s.kvRow ctx num (fun d => kvKop d == 3 && kvEmode d == 2)
/-- FREE (R143). -/
def execFree (ctx num : Nat) (s : State) : Res State := .next <| s.kvRow ctx num (fun d => kvKop d == 4)

/-! ## Restore and release at a job's end (R144, R468) -/

/-- Copy one snapshot back; poison leaves the sequence BROKEN and is counted. Answers whether it held. [DEDUCED, log entry 39;
DESIGN CHOICE, log entry 102] -/
def State.kvRestoreOne (s : State) (c : Nat) (t : Touched) : State × Bool :=
  let q : Seq := { at' := t.seq, raw := s.memNat t.seq 128 }
  let n := 128 + 8 * q.pslots
  match s.engRead c q.snap n with
  | .err _ => ((s.memWrite (t.seq + 3) (leBytes 1 3)).modHub (fun h => { h with kvBroken := h.kvBroken + 1 }), false)
  | .ok bs =>
    let s1 := s.memWrite t.seq (bs.take 128)
    ((if q.score then s1.memWrite q.meta (bs.drop 128) else s1), true)

/-- Every snapshot of the job back, in the order of first touch; answers whether all held. -/
def State.kvRestore (s : State) (c : Nat) : List Touched → State × Bool
  | [] => (s, true)
  | t :: r =>
    let x := s.kvRestoreOne c t
    let y := x.1.kvRestore c r
    (y.1, x.2 && y.2)

/-- SNAP_TAGs clear, and the entries of sequences freed inside a job that ended OK are released. [DEDUCED, log entry 34] -/
def State.kvJobEnd (s : State) (ts : List Touched) (ok : Bool) : State :=
  ts.foldl (fun x t =>
    let x1 := x.memWrite (t.seq + 72) (leBytes 4 0)
    if ok && t.freed then x1.scoreRelease t.seq else x1) s

end Sys2Proof.Machine
end

