-- ==== Sys2Proof/Machine/Coll.lean ====
section
/-!
DEFINITION. COLLECTIVEs (R147–R150): members that join, contributions written and arrived,
the combination in ascending rank, and the faults that end every waiting member.
-/
namespace Sys2Proof.Machine

/-! ## The descriptor (Table 6.8) -/

def collCop (d : Desc) : Nat := d.at 16 1
def collRed (d : Desc) : Nat := bits d.raw 143 142
def collFmt (d : Desc) : Nat := bits d.raw 139 136
def collMembers (d : Desc) : Nat := d.at 18 1
def collRank (d : Desc) : Nat := d.at 19 1
def collTag (d : Desc) : Nat := d.at 20 4
def collElems (d : Desc) : Nat := d.at 24 3
def collList (d : Desc) : Nat := d.at 32 8
def collSrc (d : Desc) : Nat := d.at 40 8
def collDst (d : Desc) : Nat := d.at 48 8
def collRecv (d : Desc) : Nat := d.at 56 8

/-- The descriptor's own checks. Table 2.1 gives no role for a COLLECTIVE, so a FMT that Table 6.8 does not allow a
REDUCE is a value out of its field's range. [DEDUCED, log entry 101] -/
def collDescOk (d : Desc) : Bool :=
  decide (1 ≤ collMembers d ∧ collMembers d ≤ 64) && decide (collRank d < collMembers d) && collElems d != 0
  && (match collCop d with
      | 1 => collRed d == 0 && collRecv d == 0 && collFmt d != 0xF
      | 2 => decide (collRed d ≤ 1) && decide (0xB ≤ collFmt d ∧ collFmt d ≤ 0xE)
      | _ => false)

/-- The member list as (part, die) pairs. -/
def collReadList (s : State) (c : Nat) (d : Desc) : SetM (List (Nat × Nat)) := do
  let ws ← setNats s c (collList d) 2 (collMembers d)
  return ws.map (fun w => (w % 256, w / 256))

/-- No entry repeated or reserved, and the RANK entry names this part (R147). -/
def collListOk (s : State) (d : Desc) (l : List (Nat × Nat)) : Bool :=
  l.all (fun e => decide (e.1 ≤ 15 ∧ e.2 ≤ 4)) && decide l.Nodup && (l.getD (collRank d) (16, 0)).1 == s.selfId

/-! ## Sizes and slots -/

def Coll.bits (x : Coll) : Nat := kvBits x.fmt
/-- Bytes of one contribution. -/
def Coll.len (x : Coll) : Nat := ceilDiv (x.elems * x.bits) 8
/-- Offset of member `r`'s contribution. -/
def Coll.off (x : Coll) (r : Nat) : Nat := r * x.elems * x.bits / 8
/-- Where contributions go: DST, or RECV of a REDUCE. -/
def Coll.base (x : Coll) : Nat := if x.cop = 1 then x.dst else x.recv
def Coll.slot (x : Coll) (r : Nat) : Nat := x.base + x.off r

/-- Member parts other than this one. -/
def Coll.others (x : Coll) (self : Nat) : List Nat := ((x.list.map (·.1)).filter (· != self)).dedup

/-- What this part's members say of a COLLECTIVE. -/
def Coll.head (x : Coll) (r : Nat) : CollHead :=
  { tag := x.tag, cop := x.cop, red := x.red, fmt := x.fmt, elems := x.elems, list := x.list, rank := r }

/-- A peer's write agrees with this part's members on what R150 names. -/
def Coll.matches (x : Coll) (h : CollHead) : Bool := decide (x.head h.rank = h)

/-- A range is covered by the writes of a COLLECTIVE's member. -/
def covered (l : List (Nat × Nat × CollHead)) (h : CollHead) (lo hi : Nat) : Bool :=
  (List.range (hi - lo)).all (fun i => l.any (fun p => decide (p.1 ≤ lo + i) && decide (lo + i < p.2.1) && decide (p.2.2 = h)))

/-- Member `r`'s contribution is on this part. [DEDUCED, log entry 40] -/
def State.collArrived (s : State) (x : Coll) (r : Nat) : Bool :=
  if (x.list.getD r (16, 0)).1 = s.selfId then x.joined.any (fun m => m.rank == r && m.pushed)
  else covered s.hub.landed (x.head r) (x.slot r) (x.slot r + x.len)

def State.collAll (s : State) (x : Coll) : Bool := (List.range x.list.length).all (s.collArrived x)

/-! ## The table of outstanding COLLECTIVEs -/

def State.coll (s : State) (tag : Nat) : Option Coll := s.hub.colls.find? (fun x => x.tag == tag)
def State.modColl (s : State) (tag : Nat) (f : Coll → Coll) : State :=
  s.modHub (fun h => { h with colls := h.colls.map (fun x => if x.tag = tag then f x else x) })

/-- The collective goes; what peers wrote for it is forgotten. -/
def State.dropColl (s : State) (x : Coll) : State :=
  s.modHub (fun h =>
    { h with colls := h.colls.filter (fun y => y.tag != x.tag), landed := h.landed.filter (fun p => p.2.2.tag != x.tag) })

/-- What is left of collectives that no member here waits for: it goes, with what peers wrote for it. -/
def Hub.sweepColls (h : Hub) : Hub :=
  let gone := (h.colls.filter (fun x => x.joined.isEmpty)).map (·.tag)
  { h with colls := h.colls.filter (fun x => !x.joined.isEmpty), landed := h.landed.filter (fun p => !gone.contains p.2.2.tag) }

/-- Every member still waiting completes with a status (R150). -/
def State.collEnd (s : State) (x : Coll) (st detail : Nat) : State :=
  x.joined.foldl (fun y m =>
    match y.desc m.ctx m.num with
    | some d => (if y.dmaHeld m.ctx d then y.dmaRelease m.ctx d st else y).finish m.ctx m.num st detail
    | none => y) (s.dropColl x)

/-- The fault that the members of a collective meet, if any: a member's die absent, or a
member part that is not in the Chorus membership (R150). -/
def State.collFault (s : State) (x : Coll) : Option (Nat × Nat) :=
  match x.list.find? (fun e => e.1 == s.selfId && decide (e.2 < 4) && !s.diePresent e.2) with
  | some e => some (stDIE_ABSENT, (144 + 8 * e.2) * 2 ^ 56)
  | none =>
    if (x.others s.selfId).any (fun p => !s.isMember p || !s.reachable p) then some (stLINK_DOWN, noEngine * 2 ^ 56)
    else none

/-- A peer's write for this tag disagrees with this part's members (R150). -/
def State.collDisagrees (s : State) (x : Coll) : Bool :=
  s.hub.landed.any (fun p => p.2.2.tag == x.tag && !x.matches p.2.2)

/-- The heads among peers' writes for a collective that its members here do not agree with. -/
def State.collStrange (s : State) (x : Coll) : List CollHead :=
  ((s.hub.landed.map (·.2.2)).filter (fun h => h.tag == x.tag && !x.matches h)).dedup

/-- Members disagree (R150): every one here that waits completes MALFORMED, one that starts later will, and every other
member part is told with writes of no bytes that carry what the members said. [DEDUCED, log entry 40] -/
def State.collSpoil (s : State) (x : Coll) (heads : List CollHead) : State :=
  let all := x.head ((x.joined.head?.map (·.rank)).getD 0) :: heads
  let parts := ((all.flatMap (fun h => h.list.map (·.1))).filter (· != s.selfId)).dedup
  let s1 := parts.foldl (fun y p => all.foldl (fun z h => z.emit (.peerColl p x.base h [])) y) s
  let ended := x.joined.map (·.rank) ++ (heads.filter (fun h => (h.list.getD h.rank (16, 0)).1 == s.selfId)).map (·.rank)
  let own := (List.range x.list.length).filter (fun r => (x.list.getD r (16, 0)).1 == s.selfId && !ended.contains r)
  let sp : Spoiled := { tag := x.tag, ctxs := (x.joined.map (·.ctx)).dedup, ended := ended, ranks := own }
  let s2 := s1.modHub (fun h => { h with spoiled := sp :: h.spoiled.filter (fun y => y.tag != x.tag) })
  s2.collEnd x stMALFORMED (noEngine * 2 ^ 56)

/-- A collective is ended when its members disagree or it meets such a fault. -/
def State.collCheck (s : State) (tag : Nat) : State :=
  match s.coll tag with
  | none => s
  | some x =>
    if s.collDisagrees x then s.collSpoil x (s.collStrange x)
    else
      match s.collFault x with
      | some (st, detail) => s.collEnd x st detail
      | none => s

/-- A peer part's COLLECTIVE write has landed; members that disagree complete. A notice of a disagreement is a write of no
bytes, which a part that has ended the collective for it already takes no more. [DEDUCED, log entry 40] -/
def State.noteLanded (s : State) (a n : Nat) (h : CollHead) : State :=
  (if n = 0 ∧ (s.coll h.tag).isNone ∧ s.hub.spoiled.any (fun x => x.tag == h.tag) then s
   else s.modHub (fun b => { b with landed := (a, a + n, h) :: b.landed })).collCheck h.tag

/-- A member leaves; a collective with none left goes (R150 counts those outstanding). -/
def State.collLeave (s : State) (tag rank : Nat) : State :=
  s.modHub (fun h => Hub.sweepColls
    { h with colls := h.colls.map (fun x =>
        if x.tag = tag then { x with joined := x.joined.filter (fun m => m.rank != rank) } else x) })

/-- Every outstanding collective is looked at again, as after a quarantine or a new view. [DEDUCED, log entry 40] -/
def State.collCheckAll (s : State) : State := (s.hub.colls.map (·.tag)).foldl (fun y t => y.collCheck t) s

/-- Most COLLECTIVEs outstanding on one part (R150). -/
def collCap : Nat := 16

/-- Two descriptors agree on what R150 names. -/
def Coll.agrees (x : Coll) (d : Desc) (l : List (Nat × Nat)) : Bool :=
  x.list == l && x.cop == collCop d && x.red == collRed d && x.fmt == collFmt d && x.elems == collElems d

/-- What a descriptor says of its COLLECTIVE. -/
def collHeadOf (d : Desc) (l : List (Nat × Nat)) : CollHead :=
  { tag := collTag d, cop := collCop d, red := collRed d, fmt := collFmt d, elems := collElems d, list := l, rank := collRank d }

/-- A rank that starts after its members have disagreed; one that has ended before begins a new collective of the tag. -/
def State.collLate (s : State) (tag rank : Nat) : Bool :=
  s.hub.spoiled.any (fun x => x.tag == tag && x.ranks.contains rank)

/-- The member of a spoiled collective has started, or a new one of its tag begins. -/
def State.collUnspoil (s : State) (tag rank : Nat) : State :=
  s.modHub (fun h =>
    { h with spoiled := if s.collLate tag rank then h.spoiled.map (fun x =>
          if x.tag = tag then { x with ended := rank :: x.ended, ranks := x.ranks.filter (· != rank) } else x)
        else h.spoiled.filter (fun x => x.tag != tag) })

/-! ## Joining and writing -/

/-- A member joins: `none` when it has been completed instead. -/
def State.collJoin (s : State) (c : Nat) (d : Desc) (l : List (Nat × Nat)) : State :=
  let me : CollMember := { rank := collRank d, ctx := c, num := d.num, pushed := false }
  let bad := noEngine * 2 ^ 56
  match s.coll (collTag d) with
  | some x =>
    if !x.agrees d l then (s.collSpoil x [collHeadOf d l]).finish c d.num stMALFORMED bad
    else if x.joined.any (fun m => m.rank == me.rank) then s.finish c d.num stMALFORMED bad
    else (s.modColl x.tag (fun x => { x with joined := x.joined ++ [me] })).collCheck x.tag
  | none =>
    if s.collLate (collTag d) (collRank d) then (s.collUnspoil (collTag d) (collRank d)).finish c d.num stMALFORMED bad
    else if collCap ≤ s.hub.colls.length then s.finish c d.num stSTATE_REFUSED bad
    else
      let x : Coll :=
        { tag := collTag d, list := l, cop := collCop d, red := collRed d, fmt := collFmt d, elems := collElems d
          dst := collDst d, recv := collRecv d, joined := [me] }
      ((s.collUnspoil x.tag (collRank d)).modHub (fun h => { h with colls := h.colls ++ [x] })).collCheck x.tag

/-- A gathered result is whole: every member here completes. -/
def State.collSettle (s : State) (tag : Nat) : State :=
  match s.coll tag with
  | some x => if x.cop = 1 ∧ s.collAll x then s.collEnd x stOK (noEngine * 2 ^ 56) else s
  | none => s

/-- A member writes its contribution here and to the other member parts (R148). [DEDUCED, log entry 40] -/
def State.collPush (s : State) (c : Nat) (d : Desc) (x : Coll) : State :=
  let e0 := (d.units.head?).getD noEngine
  let fail := fun (e : AccErr) =>
    ((s.collLeave x.tag (collRank d)).dmaRelease c d e.status).finish c d.num e.status (e.detail e0)
  match s.engRead c (collSrc d) x.len with
  | .err e => fail e
  | .ok bs =>
    match s.engWrite c (x.slot (collRank d)) bs with
    | (_, some e) => fail e
    | (s1, none) =>
      let s2 := (x.others s.selfId).foldl (fun y p => y.emit (.peerColl p (x.slot (collRank d)) (x.head (collRank d)) bs)) s1
      let s3 := (s2.countShares d x.len).modColl x.tag (fun x =>
        { x with joined := x.joined.map (fun m => if m.rank = collRank d then { m with pushed := true } else m) })
      (s3.dmaRelease c d stOK).collSettle x.tag

/-- Where a member runs: its entry's die, or any (R147). -/
def collPlace (s : State) (c : Nat) (d : Desc) (x : Coll) : Placed :=
  let die := (x.list.getD (collRank d) (0, 4)).2
  s.placeDie c d (if die < 4 then die else 0xF) 0

/-- A member that has joined goes on: an engine accepts it and its contribution is written. -/
def State.collGo (s : State) (c n : Nat) : State :=
  match s.desc c n with
  | none => s
  | some d0 =>
    match s.coll (collTag d0) with
    | none => s
    | some x =>
      match x.joined.find? (fun m => m.ctx == c && m.num == n) with
      | none => s
      | some m =>
        if m.pushed then s.collSettle x.tag
        else
          match collPlace s c d0 x with
          | .fail st e => s.collEnd x st (e * 2 ^ 56)
          | .die die =>
            let s0 := if d0.units.isEmpty then s.dmaAssign c d0 die 1 else s
            match s0.desc c n with
            | none => s0
            | some d =>
              let s1 := (d.units.zipIdx).foldl (fun y u => y.dmaAccept c d (u.1 - 144) u.2) s0
              if s1.dmaHeld c d then s1.collPush c d x else s1

/-- A started COLLECTIVE is judged and joins. -/
def State.collBegin (s : State) (c : Nat) (d : Desc) : State :=
  let bad := noEngine * 2 ^ 56
  if !collDescOk d then s.finish c d.num stMALFORMED bad
  else
    match collReadList s c d with
    | .error e => s.finish c d.num e.status (e.detail noEngine)
    | .ok l =>
      if !collListOk s d l then s.finish c d.num stMALFORMED bad
      else (s.collJoin c d l).collGo c d.num

def State.collRow (s : State) (c n : Nat) (mine : Nat → Bool) : State :=
  match s.desc c n with
  | none => s
  | some d =>
    if d.phase = .waiting then s.startDesc c n (fun d => d.op == 3 && mine (collCop d)) (fun s d => s.collBegin c d)
    else if decide (d.phase = .started) && d.op == 3 && mine (collCop d) && s.jobLive c d then s.collGo c n
    else s

/-- ALL_GATHER (R148). A reserved COP is refused here (R147). -/
def execAllGather (ctx num : Nat) (s : State) : Res State := .next <| s.collRow ctx num (fun o => o != 2)
/-- REDUCE (R148). -/
def execReduce (ctx num : Nat) (s : State) : Res State := .next <| s.collRow ctx num (· == 2)

/-! ## Combining (R149) -/

/-- Element `i` of member `r` in RECV. -/
def collElem (bs : List Byte) (x : Coll) (f : Fmt) (r i : Nat) : FVal :=
  let b := f.bits / 8
  elemVal f (leNat ((bs.drop (x.off r + i * b)).take b))

/-- One element combined in ascending rank. -/
def combine (f : Fmt) (max : Bool) : List FVal → FVal
  | [] => .fin false 0 0
  | v :: r =>
    r.foldl (fun a b => if max then maxV a b else if f.isInt then addV a b else f32 (r32 (addV a b))) v

/-- The lowest-ranked member on this part. -/
def Coll.leader (x : Coll) : Option CollMember := pickBy (fun a b => decide (a.rank < b.rank)) x.joined

/-- The lowest-ranked local member of the list has joined and is the one named. -/
def State.collLeads (s : State) (x : Coll) (c n : Nat) : Bool :=
  match x.leader with
  | some m => m.ctx == c && m.num == n && (x.list.findIdx? (fun e => e.1 == s.selfId)) == some m.rank
  | none => false

/-- The combination into DST. -/
def State.collCombine (s : State) (c : Nat) (d : Desc) (x : Coll) : State :=
  let e0 := (d.units.head?).getD 144
  let fail := fun (e : AccErr) => s.collEnd x e.status (e.detail e0)
  match fmtOfCode x.fmt with
  | none => s
  | some f =>
    match s.engRead c x.recv (x.off x.list.length) with
    | .err e => fail e
    | .ok bs =>
      let cs := (List.range x.elems).map (fun i =>
        convertVal f false (combine f (x.red == 1) ((List.range x.list.length).map (fun r => collElem bs x f r i))))
      match s.engWrite c x.dst (packElems f.bits (cs.map (·.bits))) with
      | (_, some e) => fail e
      | (s1, none) =>
        let s2 := (s1.bump (rDE_ARITH_CNT (e0 - 144)) fDE_ARITH_CNT_SAT_CNT (cs.map (·.sat)).sum).bump
          (rDE_ARITH_CNT (e0 - 144)) fDE_ARITH_CNT_NAN_CNT (cs.map (·.nan)).sum
        s2.collEnd x stOK (noEngine * 2 ^ 56)

/-- REDUCE_COMBINE (R148, R149): the lowest-ranked member here combines once every slot has
arrived, and every member here completes. -/
def execReduceCombine (ctx num : Nat) (s : State) : Res State :=
  .next <|
    match s.desc ctx num with
    | none => s
    | some d =>
      match s.coll (collTag d) with
      | none => s
      | some x =>
        if x.cop = 2 ∧ s.collLeads x ctx num ∧ s.collAll x ∧ s.jobLive ctx d then s.collCombine ctx d x else s

/-! ## Jobs -/

/-- Members of an aborting job leave; a collective with none left goes, and one that had ended them all by a
disagreement is over. -/
def State.freeColls (s : State) (c : Nat) (nums : List Nat) : State :=
  s.modHub (fun h => Hub.sweepColls
    { h with
      colls := h.colls.map (fun x => { x with joined := x.joined.filter (fun m => !(m.ctx == c && nums.contains m.num)) })
      spoiled := h.spoiled.filter (fun x => x.ctxs.any (· != c)) })

/-- Members still missing at a job's deadline: every waiting member completes DEADLINE (R150). -/
def State.collDeadline (s : State) (c : Nat) (nums : List Nat) : State :=
  (s.hub.colls.filter (fun x => x.joined.any (fun m => m.ctx == c && nums.contains m.num))).foldl
    (fun y x => y.collEnd x stDEADLINE (noEngine * 2 ^ 56)) s

end Sys2Proof.Machine
end

