-- ==== Sys2Proof/Machine/ChGraph.lean ====
section
/-!
DEFINITION. Device-link ports and the graph of parts (R303, R308–R313): links, adjacency,
distances, routes and the legal topologies.
-/
namespace Sys2Proof.Machine

/-! ## Ports (R303) -/

def State.devLink (s : State) (k : Nat) : DevLink := s.ch.links[k]?.getD {}
def State.modLink (s : State) (k : Nat) (f : DevLink → DevLink) : State :=
  s.modCh (fun c => { c with links := modAt c.links k f })

def dlDOWN : Nat := 0
def dlTRAINING : Nat := 1
def dlUP : Nat := 2
def dlRETRAIN : Nat := 3

def State.dlState (s : State) (k : Nat) : Nat := s.rf (rDL_STATUS k) fDL_STATUS_STATE
def State.setDl (s : State) (k v : Nat) : State := s.wf (rDL_STATUS k) fDL_STATUS_STATE v
/-- A port in DEVICE_LINK mode. -/
def State.isDev (s : State) (k : Nat) : Bool := decide (k < 4) && s.rf (rDL_CFG k) fDL_CFG_MODE == 1
/-- A device link that is UP: it carries frames. -/
def State.linkUp (s : State) (k : Nat) : Bool := s.isDev k && s.dlState k == dlUP
/-- A device link that is not DOWN: a retrain leaves it in the graph (R316). -/
def State.linkOn (s : State) (k : Nat) : Bool := s.isDev k && (s.dlState k == dlUP || s.dlState k == dlRETRAIN)
def State.nbrOf (s : State) (k : Nat) : Nat := s.rf (rDL_STATUS k) fDL_STATUS_NBR_ID

/-! ## What the part knows of the graph -/

/-- The part's own adjacency, as its HELLO carries it. -/
def State.ownAdj (s : State) : List ChAdj :=
  ((List.range 4).filter s.linkOn).map (fun k => { port := k, nbr := s.nbrOf k, nbrPort := s.rf (rDL_STATUS k) fDL_STATUS_NBR_PORT })

/-- The values the part's own HELLO carries. -/
def State.ownCfg (s : State) : ChCfg :=
  { expect := s.rf rCH_CFG fCH_CFG_EXPECT, primary := s.rf rCH_CFG fCH_CFG_PRIMARY_ID
    secondary := s.rf rCH_CFG fCH_CFG_SECONDARY_ID, priEn := s.flag rCH_CFG fCH_CFG_PRI_EN
    secEn := s.flag rCH_CFG fCH_CFG_SEC_EN, elig := s.flag rCH_CFG fCH_CFG_TIME_ELIG
    budget := s.rf rCH_BAR_CFG fCH_BAR_CFG_FRAME_BUDGET_US, disc := s.rf rCH_CFG fCH_CFG_DISC_MS }

def State.chPart (s : State) (d : Nat) : Option ChPart := s.ch.parts.find? (fun p => p.id == d)
/-- [DEDUCED, log entry 69] -/
def State.adjOf (s : State) (d : Nat) : List ChAdj :=
  if d = s.selfId then s.ownAdj else ((s.chPart d).map (·.adj)).getD []

/-- Links that join two parts: as the part itself knows its own, and as HELLO told of the others. Those of a part whose
heartbeats have ceased are DOWN (R317, Table 14.6). [DEDUCED, log entry 69] -/
def State.linksBetween (s : State) (a b : Nat) : Nat :=
  if s.ch.silent.contains a || s.ch.silent.contains b then 0
  else if a = s.selfId then (s.ownAdj.filter (fun x => x.nbr == b)).length
  else if b = s.selfId then (s.ownAdj.filter (fun x => x.nbr == a)).length
  else max ((s.adjOf a).filter (fun x => x.nbr == b)).length ((s.adjOf b).filter (fun x => x.nbr == a)).length

/-- Discovered parts, this part with them, as a mask. -/
def State.discovered (s : State) : Nat := (s.selfId :: s.ch.parts.map (·.id)).foldl (fun m d => Nat.lor m (2 ^ (d % 16))) 0

/-- The members of the committed view; before view 1, the discovered parts (R309). -/
def State.chView (s : State) : Nat := s.rf rCH_VIEW fCH_VIEW_VIEW
def State.chMembers (s : State) : Nat := if s.chView = 0 then s.discovered else s.rf rCH_STATUS fCH_STATUS_MEMBERS

/-- Parts of a mask, ascending: the part list (R325). -/
def membersOf (m : Nat) : List Nat := (List.range 16).filter (fun d => m.testBit d)
def maskOfParts (l : List Nat) : Nat := l.foldl (fun m d => Nat.lor m (2 ^ d)) 0

/-! ## Distances -/

/-- A part that cannot be reached. -/
def farAway : Nat := 16

/-- The edges of the merged graph among the parts of a mask, as one neighbour mask for each part. -/
def State.edges (s : State) (m : Nat) : List Nat :=
  (List.range 16).map (fun a =>
    if m.testBit a then maskOfParts ((List.range 16).filter (fun b => b != a && m.testBit b && decide (0 < s.linksBetween a b))) else 0)

/-- One round of relaxation. -/
def relax (es : List Nat) (d : List Nat) : List Nat :=
  (List.range 16).map (fun v =>
    (List.range 16).foldl (fun b u => if (es.getD u 0).testBit v then min b (d.getD u farAway + 1) else b) (d.getD v farAway))

def relaxN (es : List Nat) : Nat → List Nat → List Nat
  | 0, d => d
  | n + 1, d => relaxN es n (relax es d)

/-- Hops from a part to every part. -/
def hopsFrom (es : List Nat) (a : Nat) : List Nat :=
  relaxN es 15 ((List.range 16).map (fun v => if v = a then 0 else farAway))

/-- The longest shortest path among the parts of a mask (R312). -/
def diameter (es : List Nat) (m : Nat) : Nat :=
  ((membersOf m).map (fun a => ((membersOf m).map (fun b => (hopsFrom es a).getD b farAway)).foldl max 0)).foldl max 0

/-- Parts of a mask that the part can reach over links it knows of. -/
def State.reachMask (s : State) (m : Nat) : Nat :=
  maskOfParts ((membersOf m).filter (fun b => decide ((hopsFrom (s.edges m) s.selfId).getD b farAway < farAway)))

/-! ## Routes (R313) -/

/-- Next-hop port and hops to a part: the lower next-hop ID first, then the lower port. -/
def State.routeTo (s : State) (es : List Nat) (m t : Nat) : Option (Nat × Nat) :=
  let ds := hopsFrom es t
  let h := ds.getD s.selfId farAway
  if farAway ≤ h then none
  else
    let ok := (List.range 4).filter (fun k => s.linkOn k && m.testBit (s.nbrOf k) && ds.getD (s.nbrOf k) farAway + 1 == h)
    match (ok.map s.nbrOf).min? with
    | some n => (ok.find? (fun k => s.nbrOf k == n)).map (fun k => (k, h))
    | none => none

/-- CH_ROUTEd of every part. [DEDUCED, log entry 69] -/
def State.setRoutes (s : State) (m : Nat) : State :=
  let es := s.edges m
  (List.range 16).foldl (fun y t =>
    let w := if t = s.selfId ∨ m.testBit t = false then 0
      else match s.routeTo es m t with
        | some (k, h) => 128 + k * 32 + h % 16
        | none => 0
    y.setReg (rCH_ROUTE t) (BitVec.ofNat 64 w)) s

/-! ## Legal topologies (R310, R312) -/

/-- Edges of the merged graph. -/
def edgeCount (es : List Nat) : Nat := (es.map (fun e => onesBelow 16 e)).sum / 2

def State.isTree (s : State) (m : Nat) : Bool :=
  let es := s.edges m
  s.reachMask m == m && edgeCount es + 1 == (membersOf m).length

def State.isRing (s : State) (m : Nat) : Bool :=
  let es := s.edges m
  s.reachMask m == m && decide (3 ≤ (membersOf m).length) && (membersOf m).all (fun a => onesBelow 16 (es.getD a 0) == 2)

/-- At most two links join a pair. -/
def State.pairsOk (s : State) (m : Nat) : Bool :=
  (membersOf m).all (fun a => (membersOf m).all (fun b => a == b || decide (s.linksBetween a b ≤ 2)))

/-- D_MAX (R312). -/
def State.diamMax (s : State) (m : Nat) : Nat :=
  if s.isTree m then diameter (s.edges m) m else (membersOf m).length - 2

/-- FAULT codes of CH_STATUS. -/
def cfNONE : Nat := 0
def cfDUPID : Nat := 1
def cfTOPOLOGY : Nat := 2
def cfCONFIG : Nat := 3
def cfBUDGET : Nat := 4
def cfBOND : Nat := 5

/-- Two parts agree on what R309 names. -/
def cfgAgrees (a b : ChCfg) : Bool :=
  a.expect == b.expect && a.primary == b.primary && a.secondary == b.secondary && a.priEn == b.priEn && a.secEn == b.secEn
  && a.budget == b.budget

/-- A device link whose neighbour reports this part's own ID, and that is no cable between two of its own ports: another part has the
ID (R309). [DEDUCED, log entry 70] -/
def State.twinLink (s : State) : Bool :=
  let port := fun (k : Nat) => s.rf (rDL_STATUS k) fDL_STATUS_NBR_PORT
  (List.range 4).any (fun k => s.linkOn k && s.nbrOf k == s.selfId
    && !(port k != k && s.linkOn (port k) && s.nbrOf (port k) == s.selfId && port (port k) == k))

/-- The verdict on the discovered graph (R307, R309, R310, R312). [DEDUCED, log entry 70] -/
def State.discoveryFault (s : State) : Nat :=
  let m := s.discovered
  let c := s.ownCfg
  if s.ch.dup || s.twinLink then cfDUPID
  else if !(s.ch.parts.all (fun p => cfgAgrees p.cfg c)) || !((membersOf m).all (fun d => c.expect.testBit d))
      || (m.testBit 15 && s.pcieRoot) then cfCONFIG
  else if !s.pairsOk m || !(s.isTree m || s.isRing m) then cfTOPOLOGY
  else if c.priEn && c.secEn && s.isTree m && s.linksBetween c.primary c.secondary != 2 then cfBOND
  else if c.budget * 1000 ≤ s.diamMax m * 600 + 4000 then cfBUDGET
  else cfNONE

end Sys2Proof.Machine
end

