-- ==== Sys2Proof/Machine/Fetch.lean ====
section
/-!
DEFINITION. Fetching descriptors and the checks made at fetch (R159, R164, R167–R169, R189).
-/
namespace Sys2Proof.Machine

/-! ## Checks at fetch -/

/-- Reserved byte ranges, as (first, length), and reserved bits of each opcode (Tables 5.4,
6.2, 6.8, 7.13–7.15); `none` for a reserved opcode. -/
def descReserved (d : Desc) : Option (List (Nat × Nat)) :=
  match d.op with
  | 1 => some [(38, 2), (48, 16)]
  | 2 => some [(39, 9), (56, 8)]
  | 3 => some [(28, 4)]
  | 4 => some [(23, 1), (48, 16)]
  | 5 => some [(29, 3)]
  | 6 => some [(42, 22)]
  | 7 => some [(16, 48)]
  | 8 => some [(16, 48)]
  | 9 => some [(33, 31)]
  | 10 => some [(33, 3), (40, 24)]
  | 11 => some [(24, 40)]
  | 12 => some [(18, 6)]
  | _ => none

/-- Reserved bits inside a byte, as (byte, highest bit, lowest bit). -/
def descReservedBits (op : Nat) : List (Nat × Nat × Nat) :=
  match op with
  | 1 => [(36, 7, 4)]
  | 2 => [(37, 7, 1), (38, 3, 3)]
  | 3 => [(17, 5, 4), (27, 7, 0)]
  | 4 => [(17, 5, 4), (19, 7, 1)]
  | 5 => [(17, 3, 3), (28, 7, 4), (28, 1, 1)]
  | 6 => [(40, 7, 1), (41, 7, 4)]
  | 12 => [(16, 7, 6)]
  | _ => []

/-- No reserved field is set. -/
def Desc.clean (d : Desc) : Bool :=
  (match descReserved d with
   | none => false
   | some l => l.all (fun p => d.at p.1 p.2 == 0))
  && (descReservedBits d.op).all (fun p => bits d.raw (8 * p.1 + p.2.1) (8 * p.1 + p.2.2) == 0)
  && (d.op != 12 || d.at 17 1 != 0 || d.at 32 32 == 0)

/-- DEP fields name no number below 0 (R164). -/
def Desc.depsOk (d : Desc) : Bool := decide (d.dep0 ≤ d.num) && decide (d.dep1 ≤ d.num)

/-- The KERNEL checks of R167. The range is held against the image's NSLICES where the
header can be read. [DEDUCED, log entry 33] -/
def State.kernelFetchOk (s : State) (c : Nat) (d : Desc) : Bool :=
  let first := d.at 32 2
  let n := d.at 34 2
  d.at 16 8 % 64 == 0 && d.at 24 8 % 64 == 0 && decide (1 ≤ n ∧ n ≤ 4096) && decide (first + n ≤ 4096)
  && (match s.engRead c (d.at 16 8) 64 with
      | .ok hb => decide (first + n ≤ hNslices (leNat hb))
      | .err _ => true)

/-- The COPY checks of R167. SRC is ignored with FILL = 1. -/
def copyFetchOk (d : Desc) : Bool :=
  let n := d.at 32 5
  let src := d.at 16 8
  let dst := d.at 24 8
  let die := bits d.raw (8 * 38 + 7) (8 * 38 + 4)
  n != 0 && (decide (die ≤ 3) || die == 0xF)
  && (Nat.testBit d.raw (8 * 37) || decide (src + n ≤ dst) || decide (dst + n ≤ src))

/-- SIGNAL, WAIT, TIMESTAMP and RESULT_POST checks of R169. -/
def hubFetchOk (d : Desc) : Bool :=
  match d.op with
  | 9 => d.at 16 8 % 8 == 0 && decide (d.at 32 1 ≤ 2)
  | 10 => d.at 16 8 % 8 == 0 && decide (d.at 32 1 ≤ 2)
  | 11 => d.at 16 8 % 8 == 0
  | 12 => decide (d.at 17 1 ≤ 1)
  | _ => true

/-- A descriptor passes the checks made at fetch (R164, R167, R169). -/
def State.fetchOk (s : State) (c : Nat) (d : Desc) : Bool :=
  d.clean && d.depsOk && hubFetchOk d
  && (if d.op = 1 then s.kernelFetchOk c d else if d.op = 2 then copyFetchOk d else true)

/-! ## Membership of jobs (R168) -/

/-- The job that descriptors fetched now belong to. -/
def Ctx.openFor (x : Ctx) : Option Job :=
  match (x.job.toList ++ x.later).getLast? with
  | some j => if j.endSeen then none else some j
  | none => none

/-- The job a JOB_BEGIN descriptor opens once it starts. -/
def jobOf (d : Desc) : Job :=
  { tag := 0, started := false, begun := false, beginNum := d.num, mask := d.at 24 8, deadline := 0
    budget := bits d.raw (8 * 41 + 3) (8 * 41), attempt := 0, manifest := d.at 16 8, dies := 0, endSeen := false
    replay := [], pos := 0, causes := [], abort := none, touched := [], used := [] }

/-- A JOB_BEGIN outside any open job queues its job. -/
def Ctx.addJob (x : Ctx) (j : Job) : Ctx :=
  match x.job with
  | none => { x with job := some j }
  | some _ => { x with later := x.later ++ [j] }

/-- Most descriptors a job holds (R189). -/
def replayCap : Nat := 256

/-- A descriptor enters the replay store of its job; the 257th does not fit. -/
def Job.hold (j : Job) (d : Desc) : Job :=
  let j1 := if j.replay.length < replayCap then
      { j with replay := j.replay ++ [{ num := d.num, raw := d.raw, poison := d.poison, slot := d.slot }], pos := j.replay.length + 1 }
    else j
  { j1 with endSeen := j.endSeen || (d.op == 7 && !d.poison) }

/-! ## The fetch -/

/-- The descriptor stands in the window; INFLIGHT follows. -/
def State.enterWindow (s : State) (c : Nat) (d : Desc) : State :=
  (s.modCtx c (fun x => { x with window := x.window ++ [d] })).setInflight c

/-- A fetched descriptor that starts nothing: poison, a failed check, or the 257th. -/
def State.fetchVerdict (s : State) (c : Nat) (d : Desc) (full : Bool) : State :=
  let none' := noEngine * 2 ^ 56
  if d.poison then s.finish c d.num stDATA_POISON (none' + d.slot)
  else if full || !s.fetchOk c d then s.finish c d.num stMALFORMED none'
  else if d.op = 6 && d.inJob.isNone then s.modCtx c (fun x => x.addJob (jobOf d))
  else s

/-- A descriptor read from the ring (R159). -/
def State.fetchRing (s : State) (c : Nat) : State :=
  let x := s.ctx c
  let n := x.count
  let slot := s.sqBase c + n % s.sqSize c * 64
  let d0 : Desc :=
    match s.engRead c slot 64 with
    | .ok bs => { num := n, raw := leNat bs, slot := slot }
    | .err _ => { num := n, raw := 0, poison := true, slot := slot }
  let s1 := (s.wf (rHUB_CTX_PTRS c) fHUB_CTX_PTRS_SQ_HEAD (s.sqHead c + 1)).modCtx c (fun x => { x with count := n + 1 })
  match x.ended with
  | some (st, att) =>
    let s2 := (s1.enterWindow c d0).modDesc c n (fun d =>
      { d with phase := .finished, status := st, detail := noEngine * 2 ^ 56, attempt := att })
    if d0.op = 7 && !d0.poison then s2.modCtx c (fun x => { x with ended := none }) else s2
  | none =>
    match x.openFor with
    | some j =>
      let d := { d0 with inJob := some j.beginNum, attempt := j.attempt }
      let s2 := (s1.enterWindow c d).modJobOf c j.beginNum (fun j => j.hold d)
      s2.fetchVerdict c d (decide (replayCap ≤ j.replay.length))
    | none => (s1.enterWindow c d0).fetchVerdict c d0 false

/-- The next descriptor of a job that restarted, from the replay store (R189, R193). -/
def State.fetchReplay (s : State) (c : Nat) (j : Job) (r : Replay) : State :=
  let d : Desc := { num := r.num, raw := r.raw, poison := r.poison, inJob := some j.beginNum, slot := r.slot, attempt := j.attempt }
  let s1 := (s.enterWindow c d).modJob c (fun j => { j with pos := j.pos + 1 })
  s1.fetchVerdict c d false

/-- A descriptor of an ended job that was fetched before: it completes with the job's
outcome (R194). -/
def State.fetchRest (s : State) (c : Nat) (r : Replay) (st att : Nat) : State :=
  let d : Desc :=
    { num := r.num, raw := r.raw, poison := r.poison, slot := r.slot, phase := .finished, status := st, detail := noEngine * 2 ^ 56, attempt := att }
  (s.enterWindow c d).modCtx c (fun x => { x with rest := x.rest.drop 1 })

/-- Replay descriptors of the open job still to bring back. -/
def Ctx.replayNext (x : Ctx) : Option (Job × Replay) :=
  match x.job with
  | some j => (j.replay[j.pos]?).map (fun r => (j, r))
  | none => none

/-- DESCRIPTOR_FETCH (R159): into the window of 32, from the replay store first. Fetch
stops during an entry to a power state (R380). -/
def execDescriptorFetch (ctx : Nat) (s : State) : Res State :=
  let x := s.ctx ctx
  .next <|
    if s.ctxState ctx = 0 ∨ 32 ≤ x.window.length ∨ 2 ≤ s.powerState then s
    else
      match x.rest with
      | r :: _ => s.fetchRest ctx r.2.2 r.1 r.2.1
      | [] =>
        match x.replayNext with
        | some (j, r) => if j.abort.isSome then s else s.fetchReplay ctx j r
        | none =>
          if s.ctxState ctx = 1 ∧ s.sqHead ctx ≠ s.sqTail ctx then s.fetchRing ctx else s

end Sys2Proof.Machine
end

