-- ==== Sys2Proof/Machine/Launch.lean ====
section
/-!
DEFINITION. Descriptors the dispatcher and HUB serve (R167–R170): KERNEL, FENCE, JOB_BEGIN,
JOB_END, SIGNAL, WAIT and TIMESTAMP.
-/
namespace Sys2Proof.Machine

def okDetail : Nat := noEngine * 2 ^ 56

/-! ## KERNEL (R167, R180) -/

/-- Dies a KERNEL's DIE_MASK permits; 0 permits any. -/
def kernelMask (d : Desc) : Nat :=
  let m := bits d.raw (8 * 36 + 3) (8 * 36)
  if m = 0 then 15 else m

/-- Lowest die of a mask. -/
def lowestDie (m : Nat) : Nat := ((List.range 4).find? (fun d => Nat.testBit m d)).getD 0

/-- The judgement of R167 on the dies a KERNEL may use: the status that ends it, if any. A die of the job's set that has
left serves it no more. -/
def State.kernelDies (s : State) (c : Nat) (d : Desc) : Option (Nat × Nat) :=
  let m := kernelMask d
  let on := fun (p : Nat → Bool) => (List.range 4).any (fun x => Nat.testBit m x && p x)
  let pick := fun (p : Nat → Bool) => (List.range 4).find? (fun x => Nat.testBit m x && p x)
  let lost := ((pick (fun x => !s.diePresent x)).or (pick (fun x => !Nat.testBit (s.jobDies c d) x))).getD (lowestDie m)
  let gone := some (stDIE_ABSENT, 32 * lost * 2 ^ 56)
  if !on s.diePresent then gone
  else if !on s.dieUsable then some (stSTATE_REFUSED, okDetail)
  else if !on (fun x => Nat.testBit (s.jobDies c d) x && s.diePresent x) then gone
  else none

/-- The slice account of a KERNEL (R180). -/
def State.newKernel (s : State) (c : Nat) (d : Desc) : Kernel :=
  let image := d.at 16 8
  let h := match s.engRead c image 64 with
    | .ok hb => leNat hb
    | .err _ => 0
  let first := d.at 32 2
  { ctx := c, num := d.num, cls := s.effClass c d.raw, image := image, save := d.at 24 8, saveBytes := hSaveBytes h
    args := if d.at 40 8 = 0 then image + hArgsOff h + first * 128 else d.at 40 8
    first := first, count := d.at 34 2, dieMask := Nat.land (kernelMask d) (s.jobDies c d), maxTiles := d.at 37 1
    resume := [], next := first, held := 0, done := 0, fetched := d.num }

/-- KERNEL (R167). -/
def execKernel (ctx num : Nat) (s : State) : Res State :=
  .next <| s.startDesc ctx num (fun d => d.op == 1) (fun s d =>
    match s.kernelDies ctx d with
    | some (st, detail) => s.finish ctx num st detail
    | none => s.modHub (fun h => { h with kernels := h.kernels ++ [s.newKernel ctx d] }))

/-! ## FENCE and jobs (R168, R170) -/

/-- FENCE (R170): it starts once every earlier descriptor is complete, and completes. -/
def execFence (ctx num : Nat) (s : State) : Res State :=
  .next <| s.startDesc ctx num (fun d => d.op == 8) (fun s _ => s.finish ctx num stOK okDetail)

/-- A job tag that is not 0. -/
def nextTagOf (t : Nat) : Nat := if (t + 1) % 2 ^ 32 = 0 then 1 else (t + 1) % 2 ^ 32

/-- The job opens (R168, R297). -/
def State.openJob (s : State) (c : Nat) (d : Desc) : State :=
  let tag := s.hub.nextTag
  let dl := d.at 32 8
  let deadline := if dl = 0 then 0 else if Nat.testBit d.raw (8 * 40) then (dl + s.dtime) % 2 ^ 64 else dl
  let s1 := s.modHub (fun h => { h with nextTag := nextTagOf tag })
  let s2 := (s1.modJob c (fun j => { j with tag := tag, started := true, deadline := deadline, dies := s.dieSet })).modCtx c
    (fun x => { x with lastJob := some (d.user, tag) })
  let s3 := (s2.setFlag (rHUB_CTX_STATUS c) fHUB_CTX_STATUS_JOB_OPEN).wf (rHUB_CTX_STATUS c) fHUB_CTX_STATUS_JOB_TAG tag
  s3.finish c d.num stOK (okDetail + tag)

/-- JOB_BEGIN (R168): inside an open job it is refused. [DEDUCED, log entry 32] -/
def execJobBegin (ctx num : Nat) (s : State) : Res State :=
  .next <| s.startDesc ctx num (fun d => d.op == 6) (fun s d =>
    match (s.ctx ctx).job with
    | some j => if j.beginNum = num ∧ j.started = false then s.openJob ctx d else s.finish ctx num stSTATE_REFUSED okDetail
    | none => s.finish ctx num stSTATE_REFUSED okDetail)

/-- JOB_END (R168, R195): with no job open it is refused. -/
def execJobEnd (ctx num : Nat) (s : State) : Res State :=
  .next <| s.startDesc ctx num (fun d => d.op == 7) (fun s d =>
    s.finish ctx num (if s.inOpenJob ctx d then stOK else stSTATE_REFUSED) okDetail)

/-! ## SIGNAL (R169) -/

/-- A SIGNAL's operation on the semaphore. -/
def signalOp (op old v : Nat) : Nat :=
  match op with
  | 0 => v
  | 1 => (old + v) % 2 ^ 64
  | _ => max old v

/-- A SIGNAL once started: atomic at HUB, or at the peer's HUB. -/
def State.signalRun (s : State) (c : Nat) (d : Desc) : State :=
  let a := d.at 16 8
  let op := d.at 32 1
  let v := d.at 24 8
  match s.engineErr c .both a 8 with
  | some e => s.finishErr c d.num noEngine e
  | none =>
    match s.zone a with
    | .peer p off =>
      let old := leNat (s.anyRead a 8)
      ((s.tick).emit (.peerAtomic p off op 8 v)).finish c d.num stOK (okDetail + old % 2 ^ 56)
    | _ =>
      if s.mem.poisoned a 8 then s.finish c d.num stDATA_POISON okDetail
      else
        let old := s.memNat a 8
        (s.memWrite a (leBytes 8 (signalOp op old v))).finish c d.num stOK (okDetail + old % 2 ^ 56)

/-- A SIGNAL of one operation. -/
def State.signal (s : State) (c n op : Nat) : State :=
  s.startDesc c n (fun d => d.op == 9 && d.at 32 1 == op) (fun s d => s.signalRun c d)

/-- SIGNAL with OP SET (R169). -/
def execSignalSet (ctx num : Nat) (s : State) : Res State := .next <| s.signal ctx num 0
/-- SIGNAL with OP ADD (R169). -/
def execSignalAdd (ctx num : Nat) (s : State) : Res State := .next <| s.signal ctx num 1
/-- SIGNAL with OP MAX (R169). -/
def execSignalMax (ctx num : Nat) (s : State) : Res State := .next <| s.signal ctx num 2

/-! ## WAIT (R169) -/

/-- COND of a WAIT against VALUE. -/
def waitHolds (cond w v : Nat) : Bool :=
  match cond with
  | 0 => decide (v ≤ w)
  | 1 => decide (w = v)
  | _ => decide ((w + 2 ^ 64 - v) % 2 ^ 64 < 2 ^ 63)

/-- One evaluation of a WAIT. -/
def State.waitEval (s : State) (c : Nat) (d : Desc) : State :=
  let a := d.at 16 8
  match s.zone a with
  | .peer _ _ => s.finish c d.num stUNSUPPORTED okDetail
  | _ =>
    match s.engRead c a 8 with
    | .err e => s.finishErr c d.num noEngine e
    | .ok bs => if waitHolds (d.at 32 1) (leNat bs) (d.at 24 8) then s.finish c d.num stOK okDetail else s

/-- WAIT (R169). -/
def execWait (ctx num : Nat) (s : State) : Res State :=
  .next <| s.startDesc ctx num (fun d => d.op == 10) (fun s d => s.waitEval ctx d)

/-- A started WAIT. -/
def State.startedWait (s : State) (c n : Nat) : Option Desc :=
  match s.desc c n with
  | some d => if d.op = 10 ∧ d.phase = .started ∧ s.jobLive c d then some d else none
  | none => none

/-- WAIT_REEVALUATE (R169): after a write to the word's line. -/
def execWaitReevaluate (ctx num : Nat) (s : State) : Res State :=
  .next <|
    match s.startedWait ctx num with
    | some d => s.waitEval ctx d
    | none => s

/-- WAIT_TIMEOUT (R169). -/
def execWaitTimeout (ctx num : Nat) (s : State) : Res State :=
  .next <|
    match s.startedWait ctx num with
    | some d =>
      if d.at 36 4 ≠ 0 ∧ d.start + d.at 36 4 * 1000 ≤ s.dtime then s.finish ctx num stDEADLINE okDetail else s
    | none => s

/-! ## TIMESTAMP (R169) -/

/-- TIMESTAMP writes the DTIME at which it starts. -/
def execTimestamp (ctx num : Nat) (s : State) : Res State :=
  .next <| s.startDesc ctx num (fun d => d.op == 11) (fun s d =>
    match s.engWrite ctx (d.at 16 8) (leBytes 8 s.dtime) with
    | (_, some e) => s.finishErr ctx num noEngine e
    | (s1, none) => s1.finish ctx num stOK okDetail)

end Sys2Proof.Machine
end

