-- ==== Sys2Proof/Machine/TestMech.lean ====
section
/-!
DEFINITION. Known-answer tests (R357–R367).
-/
namespace Sys2Proof.Machine

/-- Slices of a unit's test (Table 16.1). -/
def testSlices (e : Nat) : Nat := if e < 128 then 75 else if e < 144 then 20 else if e < 176 then 8 else 10

/-- A window opens on a unit (R357). -/
def TestUnit.opened (u : TestUnit) : TestUnit := { u with due := true, missed := false, next := 0 }

/-- A unit's die is there, or the unit is a path checker: an absent die's units have no test (R366). -/
def State.unitThere (s : State) (e : Nat) : Bool := decide (176 ≤ e) || s.diePresent (dieOfEngine e)

/-- TEST_DUE (R357): at LP + P / 2, and at once where a unit has no last pass. A test that falls
due ends IDLE (R377). [DESIGN CHOICE, log entry 4] -/
def execTestDue (eng : Nat) (s : State) : Res State :=
  let u := s.unitTest eng
  .next <|
    if eng < 184 ∧ s.unitThere eng ∧ s.flag rHUB_TEST_CFG fHUB_TEST_CFG_ENABLE ∧ u.due = false ∧ s.testFault eng = false then
      match u.lp with
      | none => (s.idleExit.modTest eng TestUnit.opened).entryCheck
      | some lp => if lp + s.halfPeriod ≤ s.dtime then (s.idleExit.modTest eng TestUnit.opened).entryCheck else s
    else s

/-- Units whose deadline has passed by the end of RETAIN or BRUMATION are UNTESTED, and their test is
due at once (R365). -/
def State.testsOnExit (s : State) (mine : Nat → Bool) : State :=
  (List.range 184).foldl (fun x e =>
    if mine e && s.flag rHUB_TEST_CFG fHUB_TEST_CFG_ENABLE && !s.testFault e && (s.unitTest e).lp.isSome
      && decide (s.testDeadline e ≤ s.dtime) then
      (x.setUntested e true).modTest e (fun u => { u with due := true })
    else x) s

/-- The overrun that was counted in the cycle of a pass is taken back: they count as a pass (R360). -/
def State.tiePass (s : State) (e : Nat) : State :=
  if (s.unitTest e).missed && decide (s.testDeadline e = s.dtime) then
    s.wf rHUB_TEST_CNT2 fHUB_TEST_CNT2_OVERRUN_CNT (s.rf rHUB_TEST_CNT2 fHUB_TEST_CNT2_OVERRUN_CNT - 1)
  else s

/-- A test passes (R360, R363). -/
def State.testPassed (s : State) (e : Nat) : State :=
  let was := s.testFault e
  let s1 := (s.tiePass e).modTest e (fun u =>
    { u with lp := some s.dtime, due := false, missed := false, next := 0, running := false, retest := false
             passedRetest := u.passedRetest || was, suspects := 0 })
  let s2 := ((s1.setUntested e false).setTestFault e false).bump rHUB_TEST_CNT fHUB_TEST_CNT_PASS_CNT 1
  (s2.modHub (fun h => { h with ctxs := h.ctxs.map (fun c => { c with job := c.job.map (fun j => { j with used := setDel j.used e }) }) })).setUnitState e tsIDLE

/-- Every open job that has used the unit gets an engine self-check as a cause (R362 step 3). -/
def State.selfCheckCause (s : State) (e : Nat) : State :=
  let c : Cause := { status := stDATA_POISON, engine := e, restart := true, selfCheck := true, deadline := false, num := none }
  s.modHub (fun h => { h with ctxs := h.ctxs.map (fun x =>
    { x with job := x.job.map (fun j => if j.used.contains e then { j with causes := j.causes ++ [c] } else j) }) })

/-! ## Candidates of a path checker that faults (R231) -/

def State.modRun (s : State) (f : PlanRun → PlanRun) : State := s.modPlan (fun p => { p with plan := p.plan.map f })

/-- The checker candidate `c` is dealt to out of a set. -/
def dealTo (set : List Nat) (c : Nat) : Option Nat := if set = [] then none else set[c % set.length]?

/-- The checker of candidate `c`: dealt over the eligible set, and again over what is left as often as the checker it has enters FAULT. -/
def dealAgain (set : List Nat) (owner : Option Nat) (c : Nat) : List Nat → Option Nat
  | [] => owner
  | e :: l =>
    let rest := set.filter (· != e)
    dealAgain rest (if owner = some e then dealTo rest c else owner) c l

def PlanRun.deal (p : PlanRun) (c : Nat) : Option Nat := dealAgain p.elig (dealTo p.elig c) c p.lost

/-- A checker enters FAULT: its candidates that are not checked are dealt again over the remaining set. -/
def State.redeal (s : State) (e : Nat) : State :=
  s.modRun (fun p =>
    let q := if p.elig.contains e && !p.lost.contains e then { p with lost := p.lost ++ [e] } else p
    { q with cands := q.cands.map (fun c => if c.owner = some e ∧ c.outcome.isNone then { c with owner := q.deal c.idx } else c) })

/-- A test fails (R362, R363). -/
def State.testFailed (s : State) (e got : Nat) : State :=
  let u := s.unitTest e
  let s1 := s.modTest e (fun u =>
    { u with running := false, due := false, retest := false, next := 0
             dead := u.dead || u.passedRetest || s.testFault e, suspects := 0 })
  let s2 := ((s1.setTestFault e true).setUnitState e tsFAULT).bump rHUB_TEST_CNT fHUB_TEST_CNT_FAIL_CNT 1
  let s3 := (s2.wf rHUB_TEST_LAST fHUB_TEST_LAST_DTIME s.dtime).wf rHUB_TEST_LASTI fHUB_TEST_LASTI_ENGINE e
  let s4 := (s3.wf rHUB_TEST_LASTI fHUB_TEST_LASTI_SLICE u.next).wf rHUB_TEST_LASTI fHUB_TEST_LASTI_GOT got
  (((s4.raiseIrq irqPM).selfCheckCause e).redeal e).bump rHUB_TEST_CNT2 fHUB_TEST_CNT2_SUSPECT_CNT u.suspects

/-- TEST_SLICE_COMPLETE (R358, R360, R362): a running test slice ends with signature `got`;
the test image's expected value is `want`. [DEDUCED, log entry 30] -/
def execTestSliceComplete (eng got want : Nat) (s : State) : Res State :=
  let u := s.unitTest eng
  .next <|
    if u.running = false then s
    else if got != want then s.testFailed eng got
    else if testSlices eng ≤ u.next + 1 then s.testPassed eng
    else
      let s1 := s.modTest eng (fun u => { u with running := false, next := u.next + 1 })
      if s.testFault eng then s1 else s1.setUnitState eng tsIDLE

/-- TEST_DEADLINE (R360): the window stays open. -/
def execTestDeadline (eng : Nat) (s : State) : Res State :=
  let u := s.unitTest eng
  .next <|
    match u.lp with
    | none => s
    | some lp =>
      if s.flag rHUB_TEST_CFG fHUB_TEST_CFG_ENABLE ∧ u.missed = false ∧ s.testFault eng = false ∧ lp + 2 * s.halfPeriod ≤ s.dtime then
        ((s.modTest eng (fun u => { u with missed := true, due := true })).setUntested eng true).bump
          rHUB_TEST_CNT2 fHUB_TEST_CNT2_OVERRUN_CNT 1
      else s

/-- A write of HUB_TEST_RETEST with GO = 1 (R363). One that names a reserved engine ID is ignored with CFG_REJ (R363) and does not
complete anything MALFORMED (R11). [DEDUCED, log entry 107] -/
def State.retest (s : State) (e : Nat) : State :=
  if e < 184 ∧ s.testFault e ∧ (s.unitTest e).dead = false then
    (s.modTest e (fun u => { u with retest := true, next := 0 })).entryCheck
  else s.setFlag rHUB_TEST_CFG fHUB_TEST_CFG_CFG_REJ

/-- RETEST (R363). -/
def execRetest (port : Port) (eng : Nat) (s : State) : Res State :=
  .next <| s.access port rHUB_TEST_RETEST (fun s => s.retest (eng % 256))

/-- All units open a window, as at start (R364). [DEDUCED, log entry 30] -/
def State.testsOn (s : State) : State :=
  (s.setFlag rHUB_TEST_CFG fHUB_TEST_CFG_ENABLE).modTests
    (List.mapIdx (fun e u => if s.testFault e || !s.unitThere e then u else { u.opened with lp := none }))

/-- ENABLE = 0: every unit is UNTESTED and no test runs (R364). -/
def State.testsOff (s : State) : State :=
  let s1 := (List.range 184).foldl (fun x e =>
    let y := x.setUntested e true
    if (x.unitTest e).running && !x.testFault e then y.setUnitState e tsIDLE else y)
    (s.clrFlag rHUB_TEST_CFG fHUB_TEST_CFG_ENABLE)
  s1.modTests (List.map (fun u => { u with due := false, running := false, next := 0 }))

/-- A change of PERIOD_MS or TEST_CLASS (R364, Table 16.3). -/
def State.testCfgField (s : State) (f : Fld) (v : Nat) (ok : Bool) : State :=
  if v = s.rf rHUB_TEST_CFG f then s
  else if s.flag rHUB_TEST_CFG fHUB_TEST_CFG_ENABLE || !ok then s.setFlag rHUB_TEST_CFG fHUB_TEST_CFG_CFG_REJ
  else s.wf rHUB_TEST_CFG f v

/-- A write of HUB_TEST_CFG. [DEDUCED, log entry 30] -/
def State.testCfgWrite (s : State) (w : Word) : State :=
  let p := fHUB_TEST_CFG_PERIOD_MS.get w
  let s1 := if fHUB_TEST_CFG_CFG_REJ.get w = 1 then s.clrFlag rHUB_TEST_CFG fHUB_TEST_CFG_CFG_REJ else s
  let s2 := s1.wf rHUB_TEST_CFG fHUB_TEST_CFG_TEST_VETO (fHUB_TEST_CFG_TEST_VETO.get w)
  let s3 := s2.testCfgField fHUB_TEST_CFG_PERIOD_MS p (decide (10 ≤ p ∧ p ≤ 90))
  let s4 := s3.testCfgField fHUB_TEST_CFG_TEST_CLASS (fHUB_TEST_CFG_TEST_CLASS.get w) true
  let on := s.flag rHUB_TEST_CFG fHUB_TEST_CFG_ENABLE
  if fHUB_TEST_CFG_ENABLE.get w = 1 then
    (if on then s4.entryCheck
     else if s.rf rHUB_TEST_BASE fHUB_TEST_BASE_ADDR = 0 then s4.setFlag rHUB_TEST_CFG fHUB_TEST_CFG_CFG_REJ
     else s4.testsOn.entryCheck)
  else if on then s4.testsOff
  else s4.entryCheck

/-- The present word of HUB_TEST_CFG with no W1C bit set. -/
def State.testCfgWord (s : State) : Word := fHUB_TEST_CFG_CFG_REJ.set (s.reg rHUB_TEST_CFG) 0

/-- TEST_ENABLE (R364): the present word is written back with ENABLE = 1. -/
def execTestEnable (port : Port) (s : State) : Res State :=
  .next <| s.access port rHUB_TEST_CFG (fun s => s.testCfgWrite (fHUB_TEST_CFG_ENABLE.set s.testCfgWord 1))

/-- TEST_DISABLE (R364). -/
def execTestDisable (port : Port) (s : State) : Res State :=
  .next <| s.access port rHUB_TEST_CFG (fun s => s.testCfgWrite (fHUB_TEST_CFG_ENABLE.set s.testCfgWord 0))

/-- A die's units lose their test state but not their FAULT (R299, R366). -/
def State.testsDieReset (s : State) (d : Nat) : State :=
  let mine := fun (e : Nat) => decide (e < 176) && decide (dieOfEngine e = d)
  let s1 := (List.range 176).foldl (fun x e => if mine e then x.setUntested e true else x) s
  s1.modTests (List.mapIdx (fun e u =>
      if mine e then { u with lp := none, due := s.flag rHUB_TEST_CFG fHUB_TEST_CFG_ENABLE && !s.testFault e, missed := false, next := 0, running := false, retest := false }
      else u))

end Sys2Proof.Machine
end

