-- ==== Sys2Proof/Machine/PlanOps.lean ====
section
/-!
DEFINITION. The plan stream (R229–R232, R239–R244): plans, candidates and their checks,
occupancy epochs, and the seal.
-/
namespace Sys2Proof.Machine

/-- [DEDUCED, log entry 51] -/
def State.planCtx (s : State) : Nat := s.rf rPC_PLAN_CFG fPC_PLAN_CFG_CTX
def State.planErr (s : State) : State := s.bump rPC_OUT_CNT3 fPC_OUT_CNT3_PLAN_ERR 1

/-- Engine ID of path checker `n` (Table 0.6). -/
def pcEngine (n : Nat) : Nat := 176 + n

/-! ## The plan buffer (Table 10.1) -/

def bufStride : Nat := 0x20000
def bufBytes : Nat := 0x1E140
def offCount : Nat := 0x40
def offCands : Nat := 0x100
def offResults : Nat := 0x1C100
def offSummary : Nat := 0x1E100

/-- A write of the output stage into the plan buffer, checked against the planning context. [DEDUCED, log entry 51] -/
def State.planWrite (s : State) (a : Addr) (bs : List Byte) : State := (s.engWrite s.planCtx a bs).1

/-! ## Enable and disable (R229) -/

/-- A range lies in one region entry with both RD and WR. -/
def State.inRwRegion (s : State) (c a n : Nat) : Bool :=
  (List.range 64).any (fun r =>
    let b := s.reg (rHUB_CTX_RGN_BASE c r)
    fHUB_CTX_RGN_BASE_VALID.get b == 1 && fHUB_CTX_RGN_BASE_RD.get b == 1 && fHUB_CTX_RGN_BASE_WR.get b == 1
    && decide (fHUB_CTX_RGN_BASE_BASE.get b * 64 ≤ a)
    && decide (a + n ≤ (s.rf (rHUB_CTX_RGN_LIM c r) fHUB_CTX_RGN_LIM_LIMIT + 1) * 64))

def State.planBase (s : State) : Addr := s.rf rPC_PLAN_BASE fPC_PLAN_BASE_PLAN_BASE * 64

def f32Pos (a : Nat) : Bool := f32Lt f32Zero a

/-- The maxima of Table 10.9 are positive, and both ranges are not empty. -/
def Limits.ok (l : Limits) : Bool :=
  [l.kmax, l.krate, l.alat, l.sr, l.jmax, l.amax, l.vmax].all f32Pos && f32Lt l.vmin l.vmax && f32Lt l.amin l.amax

/-- Period of the launcher a configuration names, in nanoseconds; 0 where it is off. -/
def State.planTickPeriod (s : State) (w : Word) : Nat :=
  if s.sh.on then tickPeriod (tickRaw s.sh.cfg.hdr (fPC_PLAN_CFG_TICK.get w)) else 0

/-- A configuration R229 accepts. -/
def State.planOk (s : State) (w : Word) : Bool :=
  let per := s.planTickPeriod w
  per != 0 && decide (fPC_PLAN_CFG_DEADLINE_US.get w * 1000 + 100000 < per)
  && s.rf (rHUB_SLOT_CFG (fPC_PLAN_CFG_SLOT.get w)) fHUB_SLOT_CFG_KIND == 2 && s.limits.ok
  && (List.range 2).all (fun b => s.inRwRegion (fPC_PLAN_CFG_CTX.get w) (s.planBase + b * bufStride) bufBytes)

/-- PLAN_OPEN follows (Table 10.9). -/
def State.setOpenFlag (s : State) : State :=
  s.wf rPC_PLAN_STAT fPC_PLAN_STAT_PLAN_OPEN (bit s.plan.plan.isSome)

/-- What trace records say of a check or a re-check of plan `j` (Table 20.3). [DEDUCED, log entry 96] -/
def State.checkCmd (s : State) (j cand : Nat) : TraceCmd := { ctx := s.planCtx, descId := j % 2 ^ 32, aux := cand }

/-- Every check in flight stops (R241); their checkers are idle. A stopped check is traced as cancelled. -/
def State.stopChecks (s : State) : State :=
  match s.plan.plan with
  | some p => (p.checks.foldl (fun x c => (x.setUnitState c.eng 0).traceEvent c.eng evABORT (x.checkCmd p.j c.cand)) s).modRun (fun p => { p with checks := [] })
  | none => s

/-- An open plan is abandoned (R229). [DEDUCED, log entry 54] -/
def State.planAbandon (s : State) : State :=
  if s.plan.plan.isSome then (((s.stopChecks).modPlan (fun p => { p with plan := none })).setOpenFlag).planErr else s

/-- A write of PC_PLAN_CFG (R229). [DEDUCED, log entry 54] -/
def State.planCfgWrite (s : State) (w : Word) : State :=
  let en := s.flag rPC_PLAN_CFG fPC_PLAN_CFG_ENABLE
  let want := fPC_PLAN_CFG_ENABLE.get w == 1
  if en then
    let s1 := if fPC_PLAN_CFG_ENABLE.set w 1 = s.reg rPC_PLAN_CFG then s else s.setFlag rPC_PLAN_STAT fPC_PLAN_STAT_CFG_REJ
    if want then s1 else (s1.planAbandon).clrFlag rPC_PLAN_CFG fPC_PLAN_CFG_ENABLE
  else
    let s1 := s.plainWrite rPC_PLAN_CFG (fPC_PLAN_CFG_ENABLE.set w 0)
    if !want then s1
    else if s1.planOk (s1.reg rPC_PLAN_CFG) then s1.setFlag rPC_PLAN_CFG fPC_PLAN_CFG_ENABLE
    else s1.setFlag rPC_PLAN_STAT fPC_PLAN_STAT_EN_REJ

/-- A write of another register of Table 10.9: ignored with CFG_REJ while ENABLE = 1, its status bits and counters too. A reserved
offset ignores it (R151). [DEDUCED, log entry 54] -/
def State.planRegWrite (s : State) (a : Addr) (w : Word) : State :=
  if (regAt a).isNone then s
  else if s.flag rPC_PLAN_CFG fPC_PLAN_CFG_ENABLE then s.setFlag rPC_PLAN_STAT fPC_PLAN_STAT_CFG_REJ
  else if rPC_OUT_CNT0 ≤ a ∧ a ≤ rPC_OUT_CNT3 then (if w.toNat % 2 = 1 then s.setReg a 0 else s)
  else s.plainWrite a w

/-- PLAN_ENABLE (R229). -/
def execPlanEnable (port : Port) (val : Word) (s : State) : Res State :=
  .next <| s.access port rPC_PLAN_CFG (fun s => s.planCfgWrite (fPC_PLAN_CFG_ENABLE.set val 1))

/-- PLAN_DISABLE (R229). -/
def execPlanDisable (port : Port) (val : Word) (s : State) : Res State :=
  .next <| s.access port rPC_PLAN_CFG (fun s => s.planCfgWrite (fPC_PLAN_CFG_ENABLE.set val 0))

/-! ## Check results (R239) -/

/-- The 32-byte result of Table 10.5. [DEDUCED, log entry 53] -/
def resultBytes (idx epoch : Nat) (r : CheckRes) : List Byte :=
  leBytes 2 idx ++ leBytes 1 r.outcome ++ leBytes 1 r.limit ++ leBytes 2 r.step ++ leBytes 2 0 ++ leBytes 8 epoch
    ++ leBytes 4 (if r.outcome = 1 then r.key else 0) ++ leBytes 4 r.occ ++ leBytes 1 r.peak ++ leBytes 7 0

def State.writeResult (s : State) (base idx epoch : Nat) (r : CheckRes) : State :=
  s.planWrite (base + offResults + 32 * idx) (resultBytes idx epoch r)

/-! ## The seal (R241–R244) -/

/-- Of two verified candidates in index order, the better one; a key that is not a number ranks
last. [DEDUCED, log entry 53] -/
def better (a b : Verified) : Verified :=
  if f32IsNaN a.key && !f32IsNaN b.key then b else if f32Lt b.key a.key then b else a

def bestOf : List Verified → Option Verified
  | [] => none
  | v :: r => some (r.foldl better v)

/-- Verified candidates in index order. -/
def insVerified : List Verified → Verified → List Verified
  | [], v => [v]
  | w :: r, v => if v.idx < w.idx then v :: w :: r else w :: insVerified r v

def Seal.epochNum (x : Seal) : Nat := (x.epoch.map Epoch.num).getD 0

/-- START_STEP of a reissue (R242). -/
def reissueStep (start freeze : Nat) : Nat := ceilDiv (start - freeze) 10000000

/-- Order 3 of Table 10.7 can be tried: what the re-check would run on. -/
def State.canReissue (s : State) (x : Seal) : Bool :=
  match s.plan.prev, x.epoch with
  | some t, some e =>
    e.num != 0 && decide (x.start - t.freeze ≤ s.rf rPC_PLAN_AGE fPC_PLAN_AGE_AGE_LIMIT_US * 1000)
    && decide (reissueStep x.start t.freeze ≤ candSteps t.raw)
    && x.plan.elig.any (fun q => !s.testFault q)
  | _, _ => false

/-- The checker a re-check runs on: the first of the eligible set that is not in FAULT. [DEDUCED, log entry 52] -/
def State.sealChecker (s : State) (x : Seal) : Option Nat := x.plan.elig.find? (fun q => !s.testFault q)

/-- The record image of a post (R243), and the payload of Table 10.8 in it: `t` is absent for a
fallback request. -/
def sealImage (x : Seal) (t : Option Traj) (path : Nat) : Nat :=
  let rec' := (x.epoch.map Epoch.rec').getD 0
  let hdr := match t with
    | some t => t.hdr
    | none => x.plan.hdr.getD 0
  let raw := (t.map Traj.raw).getD 0
  let nprim := match t with
    | some t => candNprim t.raw
    | none => 0
  let start := match t with
    | some t => if path = 3 then reissueStep x.start t.freeze else 0
    | none => 0
  let freeze := (t.map Traj.freeze).getD x.plan.freeze
  let kind := if path ≤ 2 then 1 else path - 1
  let pay := leBytes 8 ((t.map Traj.plan).getD x.plan.j) ++ leBytes 2 ((t.map Traj.cand).getD 0xFFFF) ++ leBytes 1 path
    ++ leBytes 1 nprim ++ leBytes 2 start ++ leBytes 2 (if nprim = 0 then 0 else candSteps raw)
    ++ leBytes 8 ((t.map Traj.epoch).getD 0) ++ leBytes 24 (bytesOf hdr 8 24)
    ++ leBytes 12 (bytesOf hdr 32 12) ++ leBytes 4 ((t.map Traj.key).getD 0) ++ leBytes (12 * nprim) (bytesOf raw 64 (12 * nprim))
  leNat (leBytes 17 0 ++ leBytes 1 kind ++ leBytes 2 (64 + 12 * nprim) ++ leBytes 20 0
    ++ leBytes 8 (bytesOf rec' 8 8) ++ leBytes 8 (bytesOf rec' 16 8) ++ leBytes 4 (bytesOf rec' 24 4) ++ leBytes 4 0
    ++ leBytes 8 x.epochNum ++ leBytes 8 freeze ++ leBytes 8 (bytesOf rec' 32 8) ++ leBytes 4 (bytesOf rec' 28 4)
    ++ leBytes 36 0 ++ pay)

/-- The plan summary (R244). -/
def sealSummary (x : Seal) (seq path cand : Nat) : List Byte :=
  let done := (x.plan.cands.filter (fun c =>
    match c.outcome with
    | some o => between 1 o 5
    | none => false)).length
  leBytes 8 x.plan.j ++ leBytes 8 x.start ++ leBytes 8 x.epochNum ++ leBytes 8 seq ++ leBytes 1 path ++ leBytes 1 x.cause
    ++ leBytes 2 cand ++ leBytes 2 x.plan.verified.length ++ leBytes 2 done ++ leBytes 24 0

/-- The seal ends: the post, then the summary (R243, R244). -/
def State.sealPost (s : State) (x : Seal) (t : Option Traj) (path : Nat) : State :=
  let sl := s.rf rPC_PLAN_CFG fPC_PLAN_CFG_SLOT
  let s1 := s.modPlan (fun p => { p with seals := p.seals.drop 1, prev := t })
  let s2 := match s.sealChecker x with
    | some e => s1.setUnitState e 0
    | none => s1
  let s3 := (if path = 1 then s2 else s2.fireTrigger trigSeal).postSlot sl (sealImage x t path) x.tag (0x80 + s.planCtx)
  s3.planWrite (x.plan.base + offSummary) (sealSummary x (s3.slotSeq sl) path ((t.map Traj.cand).getD 0xFFFF))

/-- The trajectory of a verified candidate of a seal's plan. -/
def Seal.traj (x : Seal) (v : Verified) : Traj :=
  { plan := x.plan.j, freeze := x.plan.freeze, hdr := x.plan.hdr.getD 0, cand := v.idx, raw := v.raw, epoch := v.epoch, key := v.key }

/-- Order 4: a fallback request, which clears the previous trajectory (R242). -/
def State.sealFallback (s : State) (x : Seal) : State :=
  let s1 := s.bump rPC_OUT_CNT1 fPC_OUT_CNT1_FALLBACK 1
  let s2 := if x.plan.verified = [] then s1.bump rPC_OUT_CNT2 fPC_OUT_CNT2_NO_VERIFIED 1 else s1
  s2.sealPost x none 4

/-- The candidate a seal's re-check is about: the best one, or that of the trajectory sent before. -/
def State.sealCand (s : State) (x : Seal) : Nat :=
  if x.reissue then (s.plan.prev.map Traj.cand).getD 0xFFFF else ((bestOf x.plan.verified).map Verified.idx).getD 0xFFFF

/-- A re-check starts on the seal's checker. -/
def State.sealBusy (s : State) (x : Seal) : State :=
  match s.sealChecker x with
  | some e => (s.setUnitState e 2).traceEvent e evBEGIN (s.checkCmd x.plan.j (s.sealCand x))
  | none => s

/-- A re-check ends on the seal's checker. -/
def State.sealEnd (s : State) (x : Seal) : State :=
  match s.sealChecker x with
  | some e => s.traceEvent e evEND (s.checkCmd x.plan.j (s.sealCand x))
  | none => s

/-- Order 3 is tried, or order 4 is taken; the seal stands first in the list. -/
def State.sealReissue (s : State) (x : Seal) : State :=
  if s.canReissue x then
    (s.modPlan (fun p => { p with seals := { x with reissue := true } :: p.seals.drop 1 })).sealBusy { x with reissue := true }
  else s.sealFallback x

/-- The re-check of a candidate against a seal's epoch passes. -/
def State.sealPasses (s : State) (x : Seal) (hdr freeze raw start : Nat) : Bool :=
  match x.epoch, s.sealChecker x with
  | some e, some _ => (s.checkCand hdr freeze raw start e).outcome == 1
  | _, _ => false

/-- A re-check of the first seal completes, and the sequence of Table 10.7 goes on. -/
def State.sealDecide (s : State) (x : Seal) : State :=
  if x.reissue then
    match s.plan.prev with
    | some t =>
      if s.sealPasses x t.hdr t.freeze t.raw (reissueStep x.start t.freeze) then
        let s1 := s.bump rPC_OUT_CNT1 fPC_OUT_CNT1_REISSUE 1
        let s2 := if x.plan.verified = [] then s1.bump rPC_OUT_CNT2 fPC_OUT_CNT2_NO_VERIFIED 1 else s1
        s2.sealPost x (some t) 3
      else s.sealFallback x
    | none => s.sealFallback x
  else
    match bestOf x.plan.verified with
    | some v =>
      if s.sealPasses x (x.plan.hdr.getD 0) x.plan.freeze v.raw 0 then
        (s.bump rPC_OUT_CNT0 fPC_OUT_CNT0_BEST 1).sealPost x (some (x.traj v)) 1
      else
        let s1 := s.bump rPC_OUT_CNT2 fPC_OUT_CNT2_SEAL_FAIL 1
        match bestOf (x.plan.verified.filter (fun w => w.idx != v.idx && w.epoch == x.epochNum)) with
        | some w => (s1.bump rPC_OUT_CNT0 fPC_OUT_CNT0_NEXT 1).sealPost x (some (x.traj w)) 2
        | none => s1.sealReissue x
    | none => s.sealReissue x

/-- A counted candidate not yet decided gets OUTCOME LATE (R241 step 3). [DEDUCED, log entry 52] -/
def State.sealLate (s : State) (p : PlanRun) : State :=
  p.cands.foldl (fun x c =>
    if c.outcome.isNone then
      let ep := ((p.checks.find? (fun k => k.cand == c.idx)).map Check.epoch).getD 0
      (x.writeResult p.base c.idx ep { outcome := 6 }).bump rPC_OUT_CNT3 fPC_OUT_CNT3_LATE_CAND 1
    else x) s

/-- A seal starts (R241): cause 1 the JOB_END, 2 the deadline. -/
def State.sealStart (s : State) (cause tag : Nat) : State :=
  match s.plan.plan with
  | none => s
  | some p =>
    let s1 := (s.stopChecks).sealLate p
    let p1 := { p with checks := [], cands := p.cands.map (fun c => { c with outcome := some (c.outcome.getD 6) }) }
    let x : Seal := { plan := p1, epoch := s.plan.newest, start := s.dtime, cause := cause, tag := tag, reissue := false }
    let s2 := (s1.modPlan (fun q => { q with plan := none, seals := q.seals ++ [x] })).setOpenFlag
    if s2.plan.seals.length != 1 then s2
    else if p1.verified = [] then s2.sealReissue x
    else s2.sealBusy x

/-- SEAL_RECHECK_COMPLETE (R241, Table 10.7). -/
def execSealRecheckComplete (s : State) : Res State :=
  .next <|
    match s.plan.seals with
    | x :: _ => (s.sealEnd x).sealDecide x
    | [] => s

/-- Tag of the planning job of plan `j`, or 0. -/
def State.planTag (s : State) (j : Nat) : Nat :=
  match (s.ctx s.planCtx).lastJob with
  | some (u, t) => if u = j then t else 0
  | none => 0

/-- The JOB_END of a context's job with USER `user` completes: the seal of the plan that launched
it starts. [DEDUCED, log entry 54] -/
def State.planJobEnd (s : State) (c user : Nat) : State :=
  match s.plan.plan with
  | some p => if c = s.planCtx ∧ user = p.j then s.sealStart 1 (s.planTag p.j) else s
  | none => s

/-- PLAN_DEADLINE (R241). -/
def execPlanDeadline (s : State) : Res State :=
  .next <|
    match s.plan.plan with
    | some p => if p.deadline ≤ s.dtime then s.sealStart 2 (s.planTag p.j) else s
    | none => s

/-! ## Opening a plan (R230) -/

/-- Checkers not in FAULT, and with CLASS 15 tested, in ascending number. -/
def State.eligible (s : State) : List Nat :=
  ((List.range 8).map pcEngine).filter (fun e =>
    !s.testFault e && (s.rf rPC_PLAN_CFG fPC_PLAN_CFG_CLASS != 15 || !s.untested e))

/-- Tick `j` at DTIME `t` opens plan `j`; a plan still open has met its deadline. [DEDUCED, log entry 54] -/
def State.planOpen (s : State) (j t : Nat) : State :=
  let s0 := match s.plan.plan with
    | some p => s.sealStart 2 (s.planTag p.j)
    | none => s
  let base := s.planBase + j % 2 * bufStride
  let p : PlanRun :=
    { j := j, base := base, freeze := t, deadline := t + s.rf rPC_PLAN_CFG fPC_PLAN_CFG_DEADLINE_US * 1000, elig := s.eligible }
  let s1 := (s0.planWrite (base + offCount) (leBytes 8 0)).planWrite (base + offResults) (leBytes (256 * 32) 0)
  (s1.modPlan (fun q => { q with plan := some p })).setOpenFlag

/-- What the alignment buffer does in a cycle before a tick: releases come first (R217). -/
def State.releasesDue (s : State) : State := (s.windowEnds.evaluate).limitRelease

/-- TICK (R217, R230): tick `j` of launcher `m`, which opens a plan before its record and launch. -/
def execTick (m : Nat) (s : State) : Res State :=
  .next <|
    let s := s.releasesDue
    let raw := tickRaw s.sh.cfg.hdr m
    let j := (s.sh.tickNext[m]?).getD 0
    let t := s.sh.tickTime m j
    if s.sh.on && decide (m < 4) && tickPeriod raw != 0 && decide (t ≤ s.dtime) then
      let s1 := s.modSh (fun h => { h with tickNext := setAt h.tickNext m (j + 1) })
      let s2 := if s1.flag rPC_PLAN_CFG fPC_PLAN_CFG_ENABLE ∧ s1.rf rPC_PLAN_CFG fPC_PLAN_CFG_TICK = m then s1.planOpen j t else s1
      s2.tickRecord m j t
    else s

/-! ## Intake (R231) -/

/-- The header is read at the first non-zero count. -/
def State.readPlanHdr (s : State) (p : PlanRun) : State :=
  match s.engRead s.planCtx p.base 64 with
  | .ok bs =>
    if bytesOf (leNat bs) 0 8 = p.j then s.modRun (fun p => { p with hdr := some (leNat bs) })
    else (s.modRun (fun p => { p with bad := true })).planErr
  | .err _ => (s.modRun (fun p => { p with bad := true })).planErr

/-- A count read from the word (R231). -/
def State.planCount (s : State) (p : PlanRun) (v0 : Nat) : State :=
  let v := min v0 256
  let s1 := if 256 < v0 ∧ p.capped = false then (s.modRun (fun p => { p with capped := true })).planErr else s
  if v ≤ p.count then s1
  else
    let s2 := if p.count = 0 then s1.readPlanHdr p else s1
    let new := (List.range (v - p.count)).map (fun i =>
      ({ idx := p.count + i, owner := p.deal (p.count + i), outcome := none } : PlanCand))
    s2.modRun (fun p => { p with count := v, cands := p.cands ++ new })

/-- PLAN_COUNT_UPDATE (R231): the count word is read as a WAIT with ACQUIRE reads it. -/
def execPlanCountUpdate (s : State) : Res State :=
  .next <|
    match s.plan.plan with
    | some p =>
      (match s.engRead s.planCtx (p.base + offCount) 8 with
       | .ok bs => s.planCount p (leNat bs % 2 ^ 32)
       | .err _ => s)
    | none => s

/-! ## Checks (R236, R239) -/

/-- The next candidate of a checker. -/
def PlanRun.nextFor (p : PlanRun) (e : Nat) : Option Nat :=
  (p.cands.find? (fun c => c.owner == some e && c.outcome.isNone && !(p.checks.any (fun k => k.cand == c.idx)))).map PlanCand.idx

/-- A check of candidate `c` on checker `e` against epoch `ep`. [DEDUCED, log entry 52] -/
def State.startCheck (s : State) (p : PlanRun) (e c : Nat) (ep : Epoch) : State :=
  let k : Check :=
    match s.engRead s.planCtx (p.base + offCands + 448 * c) 448 with
    | .err _ => { cand := c, eng := e, epoch := ep.num, raw := 0, res := { outcome := 5 } }
    | .ok bs =>
      let raw := leNat bs
      let r : CheckRes := if candOk raw p.j c then s.checkCand (p.hdr.getD 0) p.freeze raw 0 ep else { outcome := 4 }
      { cand := c, eng := e, epoch := ep.num, raw := raw, res := r }
  let s1 := ((s.modRun (fun p => { p with checks := p.checks ++ [k] })).setUnitState e 1).traceEvent e evBEGIN (s.checkCmd p.j c)
  (s1.wf (rPC_STATUS (e - 176)) fPC_STATUS_EPOCH ep.num).wf (rPC_STATUS (e - 176)) fPC_STATUS_CAND c

/-- PATH_CHECK (R231, R236): checker `pc` takes its next candidate. -/
def execPathCheck (pc : Nat) (s : State) : Res State :=
  .next <|
    let e := pcEngine pc
    match s.plan.plan, s.plan.newest with
    | some p, some ep =>
      if pc < 8 ∧ p.bad = false ∧ p.hdr.isSome ∧ s.testFault e = false ∧ s.unitState e = 0 then
        match p.nextFor e with
        | some c => s.startCheck p e c ep
        | none => s
      else s
    | _, _ => s

/-- Counters of a completed check (Table 10.11). -/
def State.countCheck (s : State) (pc outcome : Nat) : State :=
  let s1 := s.bump (rPC_CNT pc) fPC_CNT_CHECKED 1
  if outcome = 1 then s1.bump (rPC_CNT pc) fPC_CNT_VERIFIED 1
  else if outcome = 2 then s1.bump (rPC_REJ_CNT pc) fPC_REJ_CNT_LIMIT_REJ 1
  else if outcome = 3 then s1.bump (rPC_REJ_CNT pc) fPC_REJ_CNT_BLOCKED_REJ 1
  else s1

/-- CHECK_RESULT (R239, R240). -/
def execCheckResult (pc : Nat) (s : State) : Res State :=
  .next <|
    let e := pcEngine pc
    match s.plan.plan with
    | some p =>
      (match p.checks.find? (fun k => k.eng == e) with
       | some k =>
         let s1 := (s.writeResult p.base k.cand k.epoch k.res).countCheck pc k.res.outcome
         let v : Verified := { idx := k.cand, raw := k.raw, key := k.res.key, epoch := k.epoch }
         let s2 := s1.modRun (fun p =>
           { p with
             checks := p.checks.filter (fun x => x.eng != e)
             cands := p.cands.map (fun c => if c.idx = k.cand then { c with outcome := some k.res.outcome } else c)
             verified := if k.res.outcome = 1 then insVerified p.verified v else p.verified })
         let s3 := (s2.setUnitState e 0).traceEvent e evEND (s.checkCmd p.j k.cand)
         (s3.wf (rPC_STATUS pc) fPC_STATUS_EPOCH 0).wf (rPC_STATUS pc) fPC_STATUS_CAND 0
       | none => s)
    | none => s

/-! ## Epochs (R232) -/

/-- The fields of an epoch record hold Table 10.4. -/
def epochOk (r : Nat) : Bool :=
  bytesOf r 0 8 != 0 && bytesOf r 40 8 % 64 == 0 && between 1000 (bytesOf r 64 4) 1000000 && decide (bytesOf r 68 1 ≤ 32)
  && bytesOf r 69 1 != 0 && bytesOf r 71 1 == 0 && bytesOf r 104 24 == 0

/-- The grid of the calibration copy a record names, where it holds the record's version. -/
def State.epochGrid (s : State) (r : Nat) : Option Nat :=
  match s.hubRead (bytesOf r 96 8) 64 with
  | .ok c => if bytesOf c 0 4 = bytesOf r 24 4 then some (bytesOf c 16 28) else none
  | .error _ => none

/-- The planes of an epoch are readable in the poster's regions: the first failure. [DEDUCED, log entry 54] -/
def State.epochErr (s : State) (e : Epoch) : Option AccErr :=
  (List.range (e.ndyn + 1)).findSome? (fun p =>
    match s.engRead e.ctx (e.plane p) (e.nx * e.ny) with
    | .err x => some x
    | .ok _ => none)

def State.newestNum (s : State) : Nat := (s.plan.newest.map Epoch.num).getD 0

/-- The epoch switches in one cycle; its descriptor waits for the retired epoch. -/
def State.epochSwitch (s : State) (c n : Nat) (e : Epoch) : State :=
  let old := s.plan.previous.map Epoch.num
  (s.modPlan (fun p => { p with
    newest := some e, previous := p.newest, pubs := p.pubs.filter (fun x => !(x.1 == c && x.2.1 == n)) ++ [(c, n, old)] })).wf
    rPC_PLAN_STAT fPC_PLAN_STAT_NEWEST e.num

/-- An epoch publication is judged (R232). -/
def State.epochPublish (s : State) (c : Nat) (d : Desc) : State :=
  let det := noEngine * 2 ^ 56
  let a := d.at 24 8
  if c ≠ s.rf rPC_PLAN_CFG fPC_PLAN_CFG_EPOCH_CTX ∨ s.flag rPC_PLAN_CFG fPC_PLAN_CFG_ENABLE = false then
    s.finish c d.num stSTATE_REFUSED det
  else if d.at 16 1 ≠ 0 ∨ d.at 32 32 ≠ 0 ∨ a % 64 ≠ 0 then s.finish c d.num stMALFORMED det
  else
    match s.engRead c a 128 with
    | .err e => s.finishErr c d.num noEngine e
    | .ok bs =>
      let r := leNat bs
      match (if epochOk r then s.epochGrid r else none) with
      | none => s.finish c d.num stMALFORMED det
      | some g =>
        if bytesOf r 0 8 ≤ s.newestNum then s.finish c d.num stSTATE_REFUSED det
        else
          let e : Epoch := { rec' := r, ctx := c, grid := g }
          match s.epochErr e with
          | some x => s.finishErr c d.num noEngine x
          | none => s.epochSwitch c d.num e

/-- EPOCH_PUBLISH (R232). -/
def execEpochPublish (ctx num : Nat) (s : State) : Res State :=
  .next <| s.startDesc ctx num (fun d => d.op == 12 && d.at 17 1 == 1) (fun s d => s.epochPublish ctx d)

/-- An epoch that a check in flight or a seal uses. -/
def State.epochUsed (s : State) (n : Nat) : Bool :=
  (match s.plan.plan with
   | some p => p.checks.any (fun k => k.epoch == n)
   | none => false)
  || s.plan.seals.any (fun x => x.epoch.isSome && x.epochNum == n)

/-- The descriptor of a publication is still started; one whose job was aborted is not (R192). -/
def State.publishing (s : State) (c n : Nat) : Bool := (s.desc c n).any (fun d => d.phase == .started && d.op == 12)

/-- EPOCH_PUBLISH_COMPLETE (R232). -/
def execEpochPublishComplete (ctx num : Nat) (s : State) : Res State :=
  .next <|
    match s.plan.pubs.find? (fun p => p.1 == ctx && p.2.1 == num) with
    | some (_, _, old) =>
      if old.any (fun n => s.epochUsed n) then s
      else
        let s1 := s.modPlan (fun p => { p with pubs := p.pubs.filter (fun x => !(x.1 == ctx && x.2.1 == num)) })
        if s.publishing ctx num then s1.finish ctx num stOK (noEngine * 2 ^ 56) else s1
    | none => s

end Sys2Proof.Machine
end

