-- ==== Sys2Proof/Machine/Jobs.lean ====
section
/-!
DEFINITION. Completion records (R155, R160, R163) and the abort, restart and end of jobs
(R189–R195, R468).
-/
namespace Sys2Proof.Machine

/-! ## The end of a job (R468) -/

/-- Units a completed job has used: it becomes suspect if one of them fails (R362 step 4). [DEDUCED, log entry 34] -/
def State.suspectUnits (s : State) (us : List Nat) : State :=
  us.foldl (fun x e => x.modTest e (fun u => { u with suspects := u.suspects + 1 })) s

/-- The job of the context ends: SNAP_TAGs clear, JOB_OPEN and JOB_TAG clear, the replay store
empties and INPUT_MASK is lifted. `ok` when its JOB_END completes OK. [DEDUCED, log entry 34] -/
def State.jobEnd (s : State) (c : Nat) (j : Job) (ok : Bool) : State :=
  let s1 := s.kvJobEnd j.touched ok
  let s2 := if ok then s1.suspectUnits j.used else s1
  let s3 := s2.modCtx c (fun x => { x with job := x.later.head?, later := x.later.drop 1 })
  (s3.wf (rHUB_CTX_STATUS c) fHUB_CTX_STATUS_JOB_OPEN 0).wf (rHUB_CTX_STATUS c) fHUB_CTX_STATUS_JOB_TAG 0

/-- A JOB_BEGIN that did not complete OK forms no job. [DEDUCED, log entry 32] -/
def State.jobDissolve (s : State) (c b : Nat) : State :=
  s.modCtx c (fun x =>
    { x with
      window := x.window.map (fun d => if d.inJob = some b then { d with inJob := none } else d)
      job := x.later.head?, later := x.later.drop 1 })

/-! ## Completion records -/

/-- The 32-byte record of Table 7.12, without its PHASE. -/
def recordBytes (d : Desc) (op st detail phase att now : Nat) : List Byte :=
  leBytes 4 d.id ++ leBytes 1 st ++ leBytes 1 op ++ leBytes 1 (phase * 128) ++ leBytes 1 att ++ leBytes 8 now
  ++ leBytes 8 detail ++ leBytes 8 d.user

/-- PHASE of record number n (R160). -/
def phaseOf (n size : Nat) : Nat := 1 - n / size % 2

/-- ATTEMPT of a record. -/
def State.attemptOf (s : State) (c : Nat) (d : Desc) : Nat :=
  match (s.ctx c).job with
  | some j => if s.inOpenJob c d then j.attempt else d.attempt
  | none => d.attempt

/-- The record of a descriptor goes to the ring; a descriptor a poisoned fetch lost has OPCODE,
DESC_ID and USER 0, as its bytes are. -/
def State.putRecord (s : State) (c : Nat) (d : Desc) : State :=
  let n := s.cqTail c
  let size := s.cqSize c
  if s.inTestRegion (s.cqBase c + n % size * 32) then s
  else s.putBytes (s.cqBase c + n % size * 32)
    (recordBytes d d.op d.status d.detail (phaseOf n size) (s.attemptOf c d) s.dtime)

/-- Most distant number a DEP can name. -/
def depReach : Nat := 255

/-- Numbers that the DEP fields of descriptors still to start name: those in the window, of the replay stores, and of an
ended job. -/
def Ctx.needed (x : Ctx) : List Nat :=
  (x.window.filter (fun d => decide (d.phase = .waiting))).flatMap Desc.deps
  ++ ((x.job.toList ++ x.later).flatMap (fun j => j.replay) ++ x.rest.map (·.2.2)).flatMap (fun r =>
    Desc.deps { num := r.num, raw := r.raw })

/-- The descriptor is complete: it leaves the window, and statuses are kept as long as a DEP field names them or still can. -/
def State.leaveWindow (s : State) (c : Nat) (d : Desc) : State :=
  let s1 := s.modCtx c (fun x =>
    { x with
      window := x.window.filter (fun y => y.num != d.num)
      past := (d.num, d.status) :: x.past.filter (fun p => decide (x.count ≤ p.1 + depReach) || x.needed.contains p.1) })
  let s2 := s1.setInflight c
  if d.status = stSTATE_REFUSED then s2.bump (rHUB_CTX_CNT c) fHUB_CTX_CNT_REFUSE_CNT 1 else s2

/-- Descriptors not performed again in a later attempt (R193). -/
def onceOp (op : Nat) : Bool := op == 9 || op == 0xC || op == 3

/-- What the completion of a descriptor does to its job. -/
def State.jobRecord (s : State) (c : Nat) (d : Desc) : State :=
  match (s.ctx c).job with
  | none => s
  | some j =>
    if d.num = j.beginNum ∧ j.begun = false then
      (if d.status = stOK then s.modJob c (fun j => { j with begun := true }) else s.jobDissolve c j.beginNum)
    else if (s.ctx c).mine d then
      if d.op = 7 ∧ d.poison = false ∧ j.causes = [] ∧ j.abort.isNone then
        (if d.status = stOK then s.jobEnd c j true
         else (s.kvRestore c j.touched).1.jobEnd c j false)
      else if d.status = stOK ∧ onceOp d.op then
        s.modJob c (fun j => { j with replay := j.replay.map (fun r => if r.num = d.num then { r with once := true } else r) })
      else s
    else s

/-- A finished descriptor of an aborting job is cancelled without a record, but for the one
that met the decisive cause (R192). -/
def State.recordDue (s : State) (c : Nat) (d : Desc) : Bool :=
  match (s.ctx c).job with
  | some j =>
    (match j.abort with
     | some a => !(s.ctx c).mine d || a.num == some d.num
     | none => true)
  | none => true

/-- The completion ring is full (R160). -/
def State.cqFull (s : State) (c : Nat) : Bool := decide (s.cqSize c ≤ sub32 (s.cqTail c) (s.cqHead c))

/-- COMPLETION_RECORD (R160): written once the ring has room; while DRAINING a record that finds
it full is discarded and CQ_TAIL advances (R155). A JOB_END may start a seal (R241). -/
def execCompletionRecord (ctx num : Nat) (s : State) : Res State :=
  .next <|
    match s.desc ctx num with
    | none => s
    | some d =>
      let full := s.cqFull ctx
      if d.phase ≠ .finished ∨ s.recordDue ctx d = false ∨ (full ∧ s.ctxState ctx ≠ 2) then s
      else
        let s1 := if full then s else s.putRecord ctx d
        let s2 := s1.wrapAdd (rHUB_CTX_PTRS ctx) fHUB_CTX_PTRS_CQ_TAIL 1
        let s3a := (s2.leaveWindow ctx d).jobRecord ctx d
        let s3 := if d.op = 7 && !d.poison then s3a.planJobEnd ctx d.user else s3a
        if !full && d.irq && s.flag (rHUB_CTX_CFG ctx) fHUB_CTX_CFG_IRQ_EN then s3.raiseCtxIrq ctx else s3

/-! ## Aborts (R191, R192) -/

/-- Records of DMA engines, set engines and the dispatcher, which stop for the job (Table 20.2). -/
def State.abortEngines (s : State) (c : Nat) (d : Desc) : State :=
  if d.phase = .started ∧ dispatcherOp d.op = true then s.traceEvent 0xFF evABORT (dispatcherCmd c d stJOB_ABORTED)
  else if d.phase = .started then
    (d.units.zipIdx).foldl (fun x u =>
      let held := if u.1 < 144 then (x.setEngine (u.1 - 128)).cur else (x.dma (u.1 - 144)).cur
      if held = some (c, d.num) then
        x.traceEvent u.1 evABORT (shareCmd c d (if u.1 < 144 then (x.setEngine (u.1 - 128)).part else u.2) stJOB_ABORTED)
      else x) s
  else s

/-- Every engine working for the job stops, and lets go (R192 step 3). -/
def State.jobHalt (s : State) (c : Nat) : State :=
  let ds := (s.ctx c).window.filter (fun d => s.inOpenJob c d)
  let ns := ds.map (·.num)
  let s1 := ds.foldl (fun x d => x.abortEngines c d) s
  (((s1.stopJobWork c).freeDmas c ns).freeSets c ns).freeColls c ns

/-- HUB_CTX_JOB_STAT records the abort (Table 8.3). -/
def State.jobStat (s : State) (c : Nat) (j : Job) (a : Cause) : State :=
  let r := rHUB_CTX_JOB_STAT c
  let s1 := (s.bump r fHUB_CTX_JOB_STAT_ABORT_CNT 1).wf r fHUB_CTX_JOB_STAT_LAST_CAUSE a.status
  let s2 := (s1.wf r fHUB_CTX_JOB_STAT_LAST_ENGINE a.engine).wf r fHUB_CTX_JOB_STAT_LAST_ATTEMPT j.attempt
  s2.wf r fHUB_CTX_JOB_STAT_SELF_CHECK (bit a.selfCheck)

/-- JOB_ABORT (R191, R192 steps 1–3): the decisive cause among those that have met. A job that
has not begun keeps its causes until it does (R168). [DEDUCED, log entry 32] -/
def execJobAbort (ctx : Nat) (s : State) : Res State :=
  .next <|
    match (s.ctx ctx).job with
    | none => s
    | some j =>
      match decisive j.causes with
      | none => s
      | some a =>
        if j.begun ∧ j.abort = none then
          let s1 := (s.jobStat ctx j a).modJob ctx (fun j => { j with causes := [], abort := some a })
          (s1.jobHalt ctx).fireTrigger trigAbort
        else s

/-- The job's work is out of the window, without records (R192 step 4). -/
def State.cancelWindow (s : State) (c : Nat) : State :=
  (s.modCtx c (fun x => { x with window := x.window.filter (fun d => !x.mine d) })).setInflight c

/-- The job runs again from the descriptor after its JOB_BEGIN (R193). -/
def State.jobRestart (s : State) (c : Nat) (j : Job) : State :=
  let s1 := (s.cancelWindow c).bump (rHUB_CTX_JOB_STAT c) fHUB_CTX_JOB_STAT_RESTART_CNT 1
  let nums := j.replay.map (·.num)
  (s1.modCtx c (fun x => { x with past := x.past.filter (fun p => !nums.contains p.1) })).modJob c (fun j =>
    { j with attempt := j.attempt + 1, pos := 0, dies := s.dieSet, causes := [], abort := none, touched := [] })

/-- The job ends: what it has not completed completes with `st` (R194), fetched or not. -/
def State.jobStop (s : State) (c : Nat) (j : Job) (st : Nat) : State :=
  let left := (j.replay.drop j.pos).map (fun r => (st, j.attempt, r))
  let s1 := s.modCtx c (fun x =>
    { x with
      window := x.window.map (fun d =>
        if x.mine d then { d with phase := .finished, status := st, detail := noEngine * 2 ^ 56, inJob := none, attempt := j.attempt } else d)
      rest := x.rest ++ left
      ended := if j.endSeen ∨ s.ctxState c ≠ 1 then x.ended else some (st, j.attempt) })
  s1.jobEnd c j false

/-- The deadline of a job has passed. -/
def State.pastDeadline (s : State) (j : Job) : Bool := j.deadline != 0 && decide (j.deadline ≤ s.dtime)

/-- JOB_QUIESCED (R192 steps 4–6, R193, R194). -/
def execJobQuiesced (ctx : Nat) (s : State) : Res State :=
  .next <|
    match (s.ctx ctx).job with
    | none => s
    | some j =>
      match j.abort with
      | none => s
      | some a =>
        if (match a.num with
            | some n => (s.desc ctx n).isSome
            | none => false) then s
        else
          let r := s.kvRestore ctx j.touched
          let late := a.deadline || s.pastDeadline j
          if a.restart && r.2 && decide (j.attempt < j.budget) && !late then r.1.jobRestart ctx j
          else r.1.jobStop ctx j (if late then stDEADLINE else stJOB_ABORTED)

/-- The cause a deadline gives (Table 8.2). -/
def deadlineCause : Cause :=
  { status := stDEADLINE, engine := noEngine, restart := false, selfCheck := false, deadline := true, num := none }

/-- JOB_DEADLINE (R194): the deadline of an open job expires. During an abort the job will end
with DEADLINE. COLLECTIVE members still waiting complete DEADLINE (R150). -/
def execJobDeadline (ctx : Nat) (s : State) : Res State :=
  .next <|
    match (s.ctx ctx).job with
    | none => s
    | some j =>
      if j.begun ∧ s.pastDeadline j then
        match j.abort with
        | some a => s.modJob ctx (fun j => { j with abort := some { a with deadline := true } })
        | none =>
          if j.causes.any (·.deadline) then s
          else
            let ns := ((s.ctx ctx).window.filter (fun d => s.inOpenJob ctx d)).map (·.num)
            (s.modJob ctx (fun j => { j with causes := deadlineCause :: j.causes })).collDeadline ctx ns
      else s

end Sys2Proof.Machine
end

