-- ==== Sys2Proof/Machine/DieLoss.lean ====
section
/-!
DEFINITION. The loss of a die and its return (R167, R292–R300, R366, R428).
-/
namespace Sys2Proof.Machine

/-! ## Work on a lost die (R293) -/

/-- Units of a die that serve descriptors: its set and DMA engines. -/
def onDie (d e : Nat) : Bool := between 128 e 175 && dieOfEngine e == d

/-- A descriptor ends DIE_ABSENT: the engines that survive stop, and all of them let go. The other members of a COLLECTIVE end
with it (R150). [DEDUCED, log entry 67] -/
def State.endAbsent (s : State) (c : Nat) (x : Desc) (d eng : Nat) : State :=
  let s1 := (x.units.zipIdx).foldl (fun y u => if onDie d u.1 then y
    else y.traceEvent u.1 evABORT (shareCmd c x (if u.1 < 144 then (y.setEngine (u.1 - 128)).part else u.2) stDIE_ABSENT)) s
  let s2 := ((s1.finish c x.num stDIE_ABSENT (eng * 2 ^ 56)).freeDmas c [x.num]).freeSets c [x.num]
  match (if x.op = 3 then s2.coll (collTag x) else none) with
  | some y => s2.collEnd { y with joined := y.joined.filter (fun m => !(m.ctx == c && m.num == x.num)) } stDIE_ABSENT (eng * 2 ^ 56)
  | none => s2

/-- A KERNEL ends DIE_ABSENT. -/
def State.kernelAbsent (s : State) (k : Kernel) (eng : Nat) : State :=
  (s.finish k.ctx k.num stDIE_ABSENT (eng * 2 ^ 56)).stopKernel k.ctx k.num stDIE_ABSENT

/-- A KERNEL whose last usable die has left, whether or not it had a slice there (R167). [DEDUCED, log entry 67] -/
def State.kernelLoss (s : State) (k : Kernel) : State :=
  match s.desc k.ctx k.num with
  | some x =>
    match s.kernelDies k.ctx x with
    | some r => (s.finish k.ctx k.num r.1 r.2).stopKernel k.ctx k.num r.1
    | none => s
  | none => s

/-- Every started KERNEL is looked at after a die has left. -/
def State.kernelLossAll (s : State) : State := s.hub.kernels.foldl (fun y k => y.kernelLoss k) s

/-- The lowest tile of a die that holds a slice of a KERNEL. -/
def State.lowTile (s : State) (d : Nat) (k : Kernel) : Option Nat :=
  (s.kernelTiles k.ctx k.num).find? (fun t => t / 32 == d)

/-- A die's tiles hold nothing any more. -/
def State.dropTiles (s : State) (d : Nat) : State :=
  ((dieTiles d).foldl (fun y t => (y.modTile t (fun _ => {})).setTileState t (if y.testFault t then tsFAULT else tsIDLE)) s).setBaskCount

/-- Descriptors that have started with work on a die, with their context and its lowest engine. -/
def State.workOn (s : State) (d : Nat) : List (Nat × Desc × Nat) :=
  (s.hub.ctxs.zipIdx).flatMap (fun c => c.1.window.filterMap (fun x =>
    if x.phase = .started then
      match (x.units.filter (onDie d)).min? with
      | some e => some (c.2, x, e)
      | none => none
    else none))

/-- Test state of a quarantined die: FAULT stays, the rest is cleared (R366). -/
def State.testsDieLost (s : State) (d : Nat) : State :=
  let mine := fun (e : Nat) => decide (e < 176) && decide (dieOfEngine e = d)
  let s1 := (List.range 176).foldl (fun x e => if mine e then x.setUntested e false else x) s
  s1.modTests (List.mapIdx (fun e u => if mine e then { dead := u.dead, passedRetest := u.passedRetest } else u))

/-- A compute die is lost: the trace records it held, its slices and its work end. [DEDUCED, log entry 67] -/
def State.computeDieLost (s : State) (d : Nat) : State :=
  let ks := s.hub.kernels.filterMap (fun k => (s.lowTile d k).map (fun t => (k, t)))
  let s1 := ((s.traceDieLost d).testsDieLost d).dropTiles d
  let s2 := (ks.foldl (fun y p => y.kernelAbsent p.1 p.2) s1).kernelLossAll
  let s3 := s2.collCheckAll
  (s3.workOn d).foldl (fun y w => y.endAbsent w.1 w.2.1 d w.2.2) s3

/-! ## The quarantine of a die (R292, R293, R300) -/

/-- The time within which quarantines count towards HELD, in ns. [DEDUCED, log entry 66] -/
def State.holdWindow (s : State) : Nat := s.rf rSK_DIE_CTRL fSK_DIE_CTRL_HOLD_WIN_S * 1000000000

/-- A die's connections, with the direction that runs towards it. -/
def skToward (d : Nat) : List (Nat × Nat) := (skHubConn d, 1) :: (skRings d).map (fun r => (r, if (skEnds r).1 = d then 1 else 0))

/-- The requests that surviving dies track to a die (R293). -/
def State.skTracked (s : State) (d : Nat) : List SkReq := (skToward d).flatMap (fun p => ((s.skConn p.1).dir p.2).track)

/-- The tracked requests of a lost die are swept, what it sent in part is discarded (R294), and responses owed to it are dropped. -/
def State.skSweep (s : State) (d : Nat) : State :=
  (skToward d).foldl (fun y p =>
    y.modConn p.1 (fun c => { c with dirs := c.dirs.map (fun x => { x with track := [], part := [], held := [], queue := [] }) })) s

/-- HUB tells the dies that are left that a connection is quarantined (Table 13.4). [DESIGN CHOICE, log entry 112] -/
def State.tellQuarantine (s : State) (n cause : Nat) : State :=
  (List.range 6).foldl (fun y d => if y.diePresent d && y.connState (skHubConn d) == skUP then y.sbSend (skHubConn d) 1 2 (n * 16 + cause) else y) s

/-- The die enters QUARANTINE; `j` and `total` are its log entry. -/
def State.dieQuarantine (s : State) (d j total : Nat) : State :=
  let now := s.dtime
  let ts := now :: ((s.sk.quars.getD d []).filter (fun t => decide (now ≤ t + s.holdWindow)))
  let lim := s.rf rSK_DIE_CTRL fSK_DIE_CTRL_HOLD_LIM
  let sweep : SkSweep := { bound := now + 2000, entry := j, total := total, hold := lim != 0 && decide (lim ≤ ts.length)
                           swept := (s.skTracked d).length, lost := ((s.skTracked d).filter (·.wr)).length }
  let s1 := ((s.skSweep d).setDieState d 1).modSk (fun k =>
    { k with quars := setAt k.quars d ts, sweeps := setAt k.sweeps d (some sweep), commits := setAt k.commits d none })
  let s2 := s1.fireTrigger trigDie
  if d < 4 then s2.computeDieLost d else s2.islHubLost (d - 4)

/-- A connection is quarantined; that of a die to HUB takes the die and its ring connections
with it, with the same cause. -/
def State.quarantine (s : State) (n cause : Nat) : State :=
  let j := s.rf rSK_QLOG_HEAD fSK_QLOG_HEAD_NEXT
  let s1 := s.connQuarantine n cause (skLogDie n)
  if s1.connState n = skQUAR ∧ s.connState n ≠ skQUAR then
    match skDie n with
    | none => s1.tellQuarantine n cause
    | some d =>
      let total := s1.rf rSK_QLOG_HEAD fSK_QLOG_HEAD_TOTAL
      let s2 := (((skRings d).foldl (fun y r => y.connQuarantine r cause d) s1)).tellQuarantine n cause
      if s.dieState d = 0 ∨ s.dieState d = 2 then s2.dieQuarantine d j total else s2
  else s1

/-! ## A die alone in RETAIN (R378) -/

/-- The connection to HUB of a die that leaves RETAIN alone is UP: the die is in RUN. -/
def State.dieRetainUp (s : State) (n : Nat) : State :=
  match skDie n with
  | some d =>
    if d < 4 ∧ s.diePower d = 3 ∧ s.powerState ≤ 2 then
      (s.setDiePower d 0).testsOnExit (fun e => decide (e < 176) && decide (dieOfEngine e = d))
    else s
  | none => s

/-! ## The return of a die (R298, R299) -/

/-- The units and memories of a compute die that rejoins (R299). [DEDUCED, log entry 67] -/
def State.computeDieBack (s : State) (d : Nat) : State :=
  let s1 := (s.dropTiles d).testsDieReset d
  let s2 := (List.range 4).foldl (fun y i =>
    (y.modSet (4 * d + i) (fun _ => {})).setUnitState (128 + 4 * d + i)
      (if y.testFault (128 + 4 * d + i) then tsFAULT else tsIDLE)) s1
  let s3 := (List.range 8).foldl (fun y i => y.modDma (8 * d + i) (fun _ => {})) s2
  let s4 := s3.modDie d (fun _ => {})
  s4.modMem (fun m => (m.forget (dieMemBase d) 0x2000000).forget (sramBase (32 * d)) 0x4000000)

/-- The die is PRESENT. -/
def State.diePresentNow (s : State) (d : Nat) : State :=
  let s1 := s.setDieState d 0
  if d < 4 then s1.computeDieBack d else s1.islHubBack (d - 4)

/-- A rejoin ends: the die is PRESENT, and the log records it. -/
def State.dieRejoined (s : State) (d : Nat) : State :=
  ((s.diePresentNow d).modSk (fun k => { k with commits := setAt k.commits d none })).skLog (skHubConn d) 0 d evREJOIN

/-- Commits whose fabric cycle has come take effect. -/
def State.commitsDue (s : State) : State :=
  (List.range 6).foldl (fun y d =>
    match y.sk.commits.getD d none with
    | some c => if c ≤ y.fabCycle then y.dieRejoined d else y
    | none => y) s

/-! ## What happens when no command waits -/

/-- The islands' own oscillators tick on while the rest of the part is off (R21, R330). [DESIGN CHOICE, log entry 20] -/
def State.islandEdges (s : State) : State := s.modTime (fun t => { t with isl := t.isl.map (IslTime.pass nominalIncr) })

/-- One REFCLK edge (R18): every time counter advances, and commits whose fabric cycle has come take
effect. In RETAIN and BRUMATION the edge is one of the 32.768 kHz clock (R20). While the main rails are off only the
islands' own time runs. [DESIGN CHOICE, log entry 20] -/
def State.clockTick (s : State) : State :=
  (if s.aon.off then s.islandEdges
   else if s.powerState = 3 ∨ s.powerState = 4 then s.slowEdge
   else s.refEdge.commitsDue.sweepEdge).islRelease

end Sys2Proof.Machine
end

