-- ==== Sys2Proof/Machine/Chorus.lean ====
section
/-!
DEFINITION. Chorus (R304–R328): device links, discovery, heartbeats, agreements and view commits,
the frame barrier, time following and the roles.
-/
namespace Sys2Proof.Machine

/-! ## States and frames -/

def csOFF : Nat := 0
def csDISCOVER : Nat := 1
def csRUN : Nat := 2
def csEXILED : Nat := 3
def csFAULT : Nat := 4

def State.chState (s : State) : Nat := s.rf rCH_STATUS fCH_STATUS_STATE
def State.setChState (s : State) (v : Nat) : State := s.wf rCH_STATUS fCH_STATUS_STATE v

/-- A frame of this part leaves on the links given. -/
def State.sendFrame (s : State) (ks : List Nat) (b : ChBody) : State :=
  let f : ChFrame := { origin := s.selfId, seq := s.ch.seq, body := b }
  (ks.foldl (fun y k => y.emit (.chFrame k f)) s).modCh (fun c =>
    { c with seq := (c.seq + 1) % 2 ^ 32, seen := (s.selfId, s.ch.seq) :: c.seen })

/-- It is flooded on every UP link. -/
def State.flood (s : State) (b : ChBody) : State := s.sendFrame ((List.range 4).filter s.linkUp) b

/-- A flooded frame goes on, once, on every UP link but the one it came in on (R320). -/
def State.forward (s : State) (k : Nat) (f : ChFrame) : State :=
  (((List.range 4).filter (fun j => j != k && s.linkUp j)).foldl (fun y j => y.emit (.chFrame j f)) s).modCh
    (fun c => { c with seen := (f.origin, f.seq) :: c.seen })

/-- A member, as frames are judged (R319): before view 1 every part. -/
def State.listens (s : State) (d : Nat) : Bool := s.chView == 0 || s.chMembers.testBit d

/-- A flooded frame arrives on a link: a bad CRC counts, a frame of a non-member is dropped and
counted, and a frame seen before goes no further (R319, R320). [DEDUCED, log entry 72] -/
def State.floodedIn (s : State) (k : Nat) (ok : Bool) (f : ChFrame) (act : State → State) : State :=
  if !s.linkUp k then s
  else if !ok then s.bump (rDL_LINK_CNT k) fDL_LINK_CNT_FRAME_ERR_CNT 1
  else if s.chState = csRUN ∧ s.listens f.origin = false then s.bump rCH_ERR_CNT fCH_ERR_CNT_FOREIGN_CNT 1
  else if (s.chState ≠ csRUN ∧ s.chState ≠ csDISCOVER) ∨ s.ch.seen.contains (f.origin, f.seq) then s
  else act (s.forward k f)

/-! ## The frame barrier (R322, R323) -/

/-- The highest barrier a part has arrived at. -/
def Chorus.arrived (c : Chorus) (d : Nat) : Nat := (mapGet c.arrivals d).getD 0

def State.barDone (s : State) : Nat := s.rf rCH_BAR_STAT fCH_BAR_STAT_COMPLETED

/-- Barriers at which every member has arrived complete in order; HUB writes the release word. -/
def State.barrierEval (s : State) : State :=
  match ((membersOf (s.rf rCH_STATUS fCH_STATUS_MEMBERS)).map s.ch.arrived).min? with
  | none => s
  | some n =>
    if s.chState = csRUN ∧ s.barDone < n then
      let s1 := s.wf rCH_BAR_STAT fCH_BAR_STAT_COMPLETED n
      let s2 := if s.flag rCH_RELEASE_ADDR fCH_RELEASE_ADDR_EN then
          s1.memWrite (s.rf rCH_RELEASE_ADDR fCH_RELEASE_ADDR_ADDR * 8) (leBytes 8 n) else s1
      s2.modCh (fun c => { c with mine := c.mine.filter (fun p => decide (n < p.1)), late := c.late.filter (fun b => decide (n < b)) })
    else s

/-- BARRIER_ARRIVAL (R322): the arrive word is read after a write to it. -/
def execBarrierArrival (s : State) : Res State :=
  .next <|
    let a := s.rf rCH_ARRIVE_ADDR fCH_ARRIVE_ADDR_ADDR * 8
    let n := s.memNat a 8
    if s.chState = csRUN ∧ s.flag rCH_ARRIVE_ADDR fCH_ARRIVE_ADDR_EN ∧ s.mem.poisoned a 8 = false ∧ s.ch.arrived s.selfId < n then
      let s1 := s.modCh (fun c => { c with arrivals := mapPut c.arrivals s.selfId n, mine := (n, s.dtime) :: c.mine })
      (s1.flood (.arrive n)).barrierEval
    else s

/-- ARRIVE (R322). [DEDUCED, log entry 71] -/
def execArrive (link origin seq : Nat) (ok : Bool) (num : Nat) (s : State) : Res State :=
  .next <| s.floodedIn link ok { origin := origin, seq := seq, body := .arrive num } (fun s =>
    (s.modCh (fun c => { c with arrivals := mapPut c.arrivals origin (max num (c.arrived origin)) })).barrierEval)

/-- When this part arrived at a barrier. -/
def Chorus.arrivedAt (c : Chorus) (n : Nat) : Option Nat := ((c.mine.filter (fun p => decide (n ≤ p.1))).getLast?).map (·.2)

/-- BARRIER_LATE (R323). [DESIGN CHOICE, log entry 4] -/
def execBarrierLate (num : Nat) (s : State) : Res State :=
  .next <|
    match s.ch.arrivedAt num with
    | none => s
    | some t =>
      if s.chState = csRUN ∧ s.barDone < num ∧ t + s.rf rCH_BAR_CFG fCH_BAR_CFG_FRAME_BUDGET_US * 1000 ≤ s.dtime
          ∧ s.ch.late.contains num = false then
        ((s.modCh (fun c => { c with late := num :: c.late })).bump rCH_EVT_CNT fCH_EVT_CNT_BAR_LATE_CNT 1).raiseIrq irqCH
      else s

/-! ## Roles and the view record (R321, R324–R327) -/

/-- The part that holds ROLE PRIMARY in a member set: the secondary once the primary is out (R326). [DEDUCED, log entry 71] -/
def primaryIn (c : ChCfg) (m : Nat) : Option Nat :=
  if !c.priEn then none
  else if m.testBit c.primary then some c.primary
  else if c.secEn && m.testBit c.secondary then some c.secondary
  else none

def secondaryIn (c : ChCfg) (m : Nat) : Option Nat :=
  if c.priEn && c.secEn && m.testBit c.primary && m.testBit c.secondary && c.primary != c.secondary then some c.secondary else none

/-- ROLE of a part. [DEDUCED, log entry 71] -/
def roleIn (c : ChCfg) (m d : Nat) : Nat :=
  if primaryIn c m = some d then 1 else if secondaryIn c m = some d then 2 else 0

/-- The lowest-ID member with TIME_ELIG = 1, or the lowest-ID member (R324). -/
def State.timeMasterOf (s : State) (m : Nat) : Nat :=
  let elig := fun (d : Nat) => if d = s.selfId then s.ownCfg.elig else ((s.chPart d).map (·.cfg.elig)).getD false
  (((membersOf m).find? elig).getD ((membersOf m).head?.getD 0))

/-- The view record (Table 14.5). -/
def State.viewRecord (s : State) : List Byte :=
  let m := s.rf rCH_STATUS fCH_STATUS_MEMBERS
  let c := s.ownCfg
  let body := leBytes 8 s.chView ++ leBytes 8 s.dtime ++ leBytes 2 m ++ leBytes 2 (Nat.land c.expect (65535 - m))
    ++ leBytes 1 s.selfId ++ leBytes 1 ((membersOf m).idxOf s.selfId) ++ leBytes 1 (roleIn c m s.selfId)
    ++ leBytes 1 ((primaryIn c m).getD 0xFF) ++ leBytes 1 ((secondaryIn c m).getD 0xFF)
    ++ leBytes 1 (s.rf rCH_STATUS fCH_STATUS_TIME_MASTER) ++ leBytes 1 (s.rf rCH_STATUS fCH_STATUS_DIAM) ++ leBytes 33 0
  body ++ leBytes 4 (crc32c body)

/-- The record goes to the part's own HBM (R321). [DEDUCED, log entry 71] -/
def State.writeView (s : State) : State :=
  let a := s.rf rCH_VIEW_ADDR fCH_VIEW_ADDR_ADDR * 64
  if s.zone a = .hbm then s.memWrite a s.viewRecord else s

/-- The trajectory slot's present SEQ is noticed again (R327). -/
def State.renotice (s : State) : State :=
  let sl := s.rf rPC_PLAN_CFG fPC_PLAN_CFG_SLOT
  if s.flag rPC_PLAN_CFG fPC_PLAN_CFG_ENABLE then s.notify sl (s.slotSeq sl) else s

/-! ## Requests that lose their part (R315) -/

/-- The first line of an entry in flight that lies in the window of a part that is not to be reached. -/
def State.lostLine (s : State) (f : InFlight) : Option AccErr :=
  (f.mrd ++ f.mwr).findSome? (fun sp =>
    if sp.lo < sp.hi then
      match s.zone sp.lo with
      | .peer _ _ => (s.lineErr (sp.lo / 64)).filter (fun e => e.status == stLINK_DOWN)
      | _ => none
    else none)

/-- Requests outstanding to a part that is not to be reached complete LINK_DOWN: those of entries in flight on the tiles. -/
def State.lostRequests (s : State) : State :=
  (List.range 128).foldl (fun y t =>
    match (y.tile t).flight.findSome? y.lostLine with
    | some e => y.tileFault t stLINK_DOWN e.addr
    | none => y) s

/-- A change of master by a commit is followed by slewing, never by a step (R324). -/
def State.masterChange (s : State) (old new : Nat) : State :=
  if old = new then s else s.modTime (fun t => { t with noStep := true })

/-- A view is committed, in the order of R318. -/
def State.viewCommit (s : State) (num m : Nat) : State :=
  let st := rCH_STATUS
  let s0 := if s.chView = 0 then s.wf st fCH_STATUS_DIAM_MAX (s.diamMax m) else s
  let s1 := ((s0.wf rCH_VIEW fCH_VIEW_VIEW num).wf st fCH_STATUS_MEMBERS m).setChState csRUN
  let s2 := (s1.clrFlag st fCH_STATUS_AGREE_OPEN).modCh (fun c => { c with agree := none })
  let s3 := ((s2.setRoutes m).collCheckAll).lostRequests
  let s4 := (s3.wf st fCH_STATUS_DIAM (diameter (s3.edges m) m)).barrierEval
  let s5 := (s4.wf st fCH_STATUS_TIME_MASTER (s4.timeMasterOf m)).wf st fCH_STATUS_ROLE (roleIn s4.ownCfg m s.selfId)
  let s5 := if s.chView = 0 then s5 else s5.masterChange (s.rf st fCH_STATUS_TIME_MASTER) (s4.timeMasterOf m)
  (((s5.reselect).writeView.renotice).bump rCH_EVT_CNT fCH_EVT_CNT_VIEW_CNT 1).raiseIrq irqCH

/-- The part is EXILED (R319): it has no members but itself and drops its roles and its barrier. -/
def State.exile (s : State) : State :=
  let st := rCH_STATUS
  let s1 := ((s.setChState csEXILED).wf st fCH_STATUS_MEMBERS (2 ^ s.selfId)).clrFlag st fCH_STATUS_AGREE_OPEN
  let s2 := (s1.wf st fCH_STATUS_ROLE 0).modCh (fun c => { c with agree := none, arrivals := [], mine := [], late := [] })
  (((s2.setRoutes 0).collCheckAll).lostRequests).reselect

/-! ## Agreements (R317) -/

/-- Every other part of the set has sent a VIEW with this number and exactly this set. -/
def State.allAgree (s : State) (a : ChAgree) : Bool :=
  (membersOf a.set).all (fun d => d == s.selfId || mapGet s.ch.views d == some (a.num, a.set))

/-- The open agreement is looked at: EXILED where the set has lost this part, committed where all
agree. -/
def State.agreeCheck (s : State) : State :=
  match s.ch.agree with
  | none => s
  | some a =>
    if !a.set.testBit s.selfId then s.exile
    else if s.allAgree a then s.viewCommit a.num a.set
    else s

/-- The part proposes a number and a set, and floods at once. [DEDUCED, log entry 71] -/
def State.propose (s : State) (num set since : Nat) : State :=
  let s1 := (s.modCh (fun c => { c with agree := some { num := num, set := set, since := since, flooded := s.dtime } })).setFlag
    rCH_STATUS fCH_STATUS_AGREE_OPEN
  (s1.flood (.view num set)).agreeCheck

/-- The set of the open agreement shrinks. [DEDUCED, log entry 71] -/
def State.narrow (s : State) (a : ChAgree) (m : Nat) : State :=
  let set := Nat.land a.set m
  if set = a.set then s.agreeCheck else s.propose a.num set a.since

/-- A member is suspected where no path leads to it (R317). -/
def State.suspect (s : State) : State :=
  let m := s.chMembers
  let r := s.reachMask m
  if s.chState = csRUN ∧ r ≠ m then
    match s.ch.agree with
    | none => s.propose (s.chView + 1) r s.dtime
    | some a => s.narrow a r
  else
    match s.ch.agree with
    | some a => if s.chState = csDISCOVER then s.narrow a r else s
    | none => s

/-- VIEW(num, set) of a part is judged (rules 2 and 3). [DEDUCED, log entry 70] -/
def State.viewIn (s : State) (origin num set : Nat) : State :=
  let s1 := s.modCh (fun c => { c with views := mapPut c.views origin (num, set) })
  if s1.chState = csDISCOVER ∧ s1.ch.agree = none then
    (if 1 < num ∧ set.testBit s1.selfId = false then s1.exile else s1)
  else
    let mine := s1.reachMask s1.chMembers
    match s1.ch.agree with
    | some a =>
      if a.num < num then s1.propose num (Nat.land mine set) s1.dtime
      else if a.num = num then s1.narrow a set
      else s1
    | none => if s1.chView < num then s1.propose num (Nat.land mine set) s1.dtime else s1

/-- VIEW (R317, R320). -/
def execView (link origin seq : Nat) (ok : Bool) (num set : Nat) (s : State) : Res State :=
  .next <| s.floodedIn link ok { origin := origin, seq := seq, body := .view num set } (fun s => s.viewIn origin num set)

/-- VIEW_REFLOOD (R317): every 10 µs while the agreement is open. -/
def execViewReflood (s : State) : Res State :=
  .next <|
    match s.ch.agree with
    | some a =>
      if a.flooded + 10000 ≤ s.dtime then
        (s.modCh (fun c => { c with agree := some { a with flooded := s.dtime } })).flood (.view a.num a.set)
      else s
    | none => s

/-- AGREEMENT_RESTART (R317): still open after 800 µs. -/
def execAgreementRestart (s : State) : Res State :=
  .next <|
    match s.ch.agree with
    | some a =>
      if a.since + 800000 ≤ s.dtime then
        (s.bump rCH_ERR_CNT fCH_ERR_CNT_AGREE_RESTART 1).propose (a.num + 1) (s.reachMask s.chMembers) s.dtime
      else s
    | none => s

/-! ## Links (R304, R314–R316) -/

/-- Fields of a flit's 8-byte header, which stands before the payload (R304). [DESIGN CHOICE, log entry 68] -/
def flKind (b : List Byte) : Nat := leNat (b.take 1)
def flSrc (b : List Byte) : Nat := leNat ((b.drop 1).take 1) % 16
def flDst (b : List Byte) : Nat := leNat ((b.drop 1).take 1) / 16
def flVc (b : List Byte) : Nat := leNat ((b.drop 2).take 1)
def flSeq (b : List Byte) : Nat := leNat ((b.drop 3).take 2)
def flAck (b : List Byte) : Nat := leNat ((b.drop 5).take 2)
def flCred (b : List Byte) : Nat := leNat ((b.drop 7).take 1)

def flIDLE : Nat := 0
def flDATA : Nat := 1
def flNAK : Nat := 2
/-- Virtual channel of the Chorus frames, which come as commands of their own. -/
def vcCHORUS : Nat := 1

/-- Distance from one sequence number to another, modulo 65,536. -/
def flDist (a b : Nat) : Nat := (b + 65536 - a % 65536) % 65536

/-- A port sends a flit, and holds it until it is acknowledged. -/
def State.flitPut (s : State) (k : Nat) (o : FlitOut) : State :=
  let l := s.devLink k
  let h := leBytes 1 o.kind ++ leBytes 1 (o.src % 16 + 16 * (o.dst % 16)) ++ leBytes 1 0 ++ leBytes 2 l.sent
    ++ leBytes 2 ((l.next + 65535) % 65536) ++ leBytes 1 1
  let b := h ++ (o.data ++ List.replicate (236 - o.data.length) 0).take 236
  (s.modLink k (fun l => { l with sent := (l.sent + 1) % 65536, held := l.held ++ [b] })).emit (.flit k b (crc32c b))

/-- Flits that wait are sent in order while the link is UP and holds fewer than 512 (R304), at most `fuel` of them. -/
def State.flitFlush (k : Nat) : Nat → State → State
  | 0, s => s
  | n + 1, s =>
    match (s.devLink k).queue with
    | o :: r =>
      if s.linkUp k ∧ (s.devLink k).held.length < 512 then State.flitFlush k n ((s.modLink k (fun l => { l with queue := r })).flitPut k o) else s
    | [] => s

/-- Whatever waits goes, as far as there is room. -/
def State.flitDrain (s : State) (k : Nat) : State := State.flitFlush k (s.devLink k).queue.length s

/-- A flit to be sent waits behind those that wait, through a retrain as well. -/
def State.flitSend (s : State) (k kind src dst : Nat) (payload : List Byte) : State :=
  if s.linkOn k then
    (s.modLink k (fun l => { l with queue := l.queue ++ [{ kind := kind, src := src, dst := dst, data := payload }] })).flitDrain k
  else s

/-- Every held flit from a sequence number on is sent again, in order. -/
def State.flitResend (s : State) (k seq : Nat) : State :=
  let l := s.devLink k
  match l.held with
  | [] => s
  | f :: _ => (l.held.filter (fun b => decide (flDist (flSeq f) seq ≤ flDist (flSeq f) (flSeq b)))).foldl (fun y b => y.emit (.flit k b (crc32c b))) s

/-- A data flit goes out on the route of its destination (R313); with no route it goes nowhere. -/
def State.flitRoute (s : State) (b : List Byte) : State :=
  if s.flag (rCH_ROUTE (flDst b)) fCH_ROUTE_VALID then
    s.flitSend (s.rf (rCH_ROUTE (flDst b)) fCH_ROUTE_PORT) flDATA (flSrc b) (flDst b) (b.drop 8)
  else s

/-- A flit in order: acknowledged flits go; data for this part is handed on, data for another part is forwarded, a NAK is obeyed, and
data is answered by its acknowledgement. -/
def State.flitTake (s : State) (k : Nat) (b : List Byte) : State :=
  let s1 := (s.modLink k (fun l =>
    { l with
      next := (l.next + 1) % 65536, replay := none, credits := l.credits + flCred b
      held := l.held.filter (fun g => decide (flDist (flAck b) (flSeq g) ≠ 0 ∧ flDist (flAck b) (flSeq g) < 32768))
      got := if flKind b = flDATA ∧ flVc b ≠ vcCHORUS ∧ flDst b = s.selfId then b :: l.got else l.got })).flitDrain k
  if flKind b = flNAK then s1.flitResend k (leNat ((b.drop 8).take 2))
  else if flKind b = flDATA ∧ flVc b ≠ vcCHORUS then
    (if flDst b = s.selfId then s1 else s1.flitRoute b).flitSend k flIDLE s.selfId (s.nbrOf k) []
  else s1

/-- The receiver asks for every flit from the next in order on. -/
def State.flitNak (s : State) (k : Nat) : State :=
  (s.modLink k (fun l => { l with replay := some l.next })).flitSend k flNAK s.selfId (s.nbrOf k) (leBytes 2 (s.devLink k).next)

/-- A flit that waits goes out by the route of its destination (R314). -/
def State.outRoute (s : State) (o : FlitOut) : State :=
  if s.flag (rCH_ROUTE o.dst) fCH_ROUTE_VALID then s.flitSend (s.rf (rCH_ROUTE o.dst) fCH_ROUTE_PORT) flDATA o.src o.dst o.data else s

/-- A device link goes DOWN: routes change, what it holds and what waits goes out by the new routes in its order (R314), requests that have lost
their part complete, and parts that no path leads to are suspected. -/
def State.linkDown (s : State) (k : Nat) : State :=
  let held := (s.devLink k).held.filter (fun b => flKind b == flDATA)
  let wait := (s.devLink k).queue.filter (fun o => o.kind == flDATA)
  let s1 := ((s.setDl k dlDOWN).wf (rDL_STATUS k) fDL_STATUS_WIDTH 0).modLink k (fun l => { l with misses := 0, fails := [], held := [], queue := [] })
  let s2 := if s1.chState = csRUN then ((s1.setRoutes s1.chMembers).collCheckAll).lostRequests else s1
  (wait.foldl State.outRoute (held.foldl State.flitRoute s2)).suspect

/-- The neighbour of a link whose heartbeats ceased is silent, where no other link to it is UP. -/
def State.falls (s : State) (k : Nat) : State :=
  let d := s.nbrOf k
  if (List.range 4).any (fun j => j != k && s.linkOn j && s.nbrOf j == d) then s
  else s.modCh (fun c => { c with silent := d :: c.silent })

/-- The width code of the lanes that are whole. -/
def lanesLeft (bad : Nat) : Nat := if bad % 256 = 0 then 3 else if bad % 16 = 0 then 1 else if bad / 16 % 16 = 0 then 2 else 0

/-- A link retrains at a width; with none left it goes DOWN. -/
def State.retrainLink (s : State) (k width : Nat) : State :=
  if width = 0 then s.linkDown k else (s.setDl k dlRETRAIN).modLink k (fun l => { l with width := width, fails := [] })

/-- LANE_LOSS (R304): `bad` is the mask of lanes that are lost. -/
def execLaneLoss (link bad : Nat) (s : State) : Res State :=
  .next <| if s.linkOn link ∧ bad % 256 ≠ 0 then s.retrainLink link (lanesLeft bad) else s

/-- LINK_RETRAIN_COMPLETE (R304, R316). -/
def execLinkRetrainComplete (link : Nat) (ok : Bool) (s : State) : Res State :=
  .next <|
    if s.isDev link ∧ s.dlState link = dlRETRAIN then
      (if ok then ((s.setDl link dlUP).wf (rDL_STATUS link) fDL_STATUS_WIDTH (s.devLink link).width).flitDrain link else s.linkDown link)
    else s

/-- DEVICE_LINK_FLIT (R304, R313): header `head` and payload `body` of a flit after FEC, `fixed` where that corrected it. [DESIGN CHOICE, log entry 68] -/
def execDeviceLinkFlit (link : Nat) (head : List Byte) (fixed : Bool) (body : List Byte) (crc : Nat) (s : State) : Res State :=
  .next <|
    if s.linkUp link then
      let now := s.dtime
      let s1 := if fixed then s.bump (rDL_CNT link) fDL_CNT_FEC_CNT 1 else s
      let far := flDist (s1.devLink link).next (flSeq (head ++ body))
      if crc32c (head ++ body) ≠ crc then
        let s2 := (s1.bump (rDL_CNT link) fDL_CNT_CRC_CNT 1).modLink link (fun l =>
          { l with fails := now :: l.fails.filter (fun t => decide (now < t + 1000000)) })
        if 16 ≤ (s2.devLink link).fails.length then (s2.retrainLink link (s2.rf (rDL_STATUS link) fDL_STATUS_WIDTH)).flitNak link
        else s2.flitNak link
      else if far = 0 then s1.flitTake link (head ++ body)
      else if far < 32768 then s1.flitNak link
      else s1
    else s

/-- DL_TRAINING_COMPLETE (R303, R316): the link is UP, or it stays DOWN. -/
def execDlTrainingComplete (link : Nat) (ok : Bool) (width rate nbr nbrPort : Nat) (s : State) : Res State :=
  .next <|
    if s.isDev link ∧ s.dlState link = dlTRAINING then
      if ok then
        let r := rDL_STATUS link
        let s1 := (((s.setDl link dlUP).wf r fDL_STATUS_WIDTH width).wf r fDL_STATUS_RATE rate).wf r fDL_STATUS_NBR_ID nbr
        let s2 := (s1.wf r fDL_STATUS_NBR_PORT nbrPort).modLink link (fun _ => { width := width % 4, timer := s.dtime })
        let s3 := s2.modCh (fun c => { c with learned := s.dtime, silent := c.silent.filter (· != nbr % 16) })
        (List.range 16).foldl (fun y _ => y.sendFrame [link] (.probe y.dtime 0)) s3
      else s.setDl link dlDOWN
    else s

/-- PCIE_LINK_CHANGE (R306, R307): the PCIe link of port 0. Reads that wait when it goes down end LINK_DOWN. -/
def execPcieLinkChange (up : Bool) (width rate : Nat) (s : State) : Res State :=
  .next <|
    if 2 ≤ s.rf (rDL_CFG 0) fDL_CFG_MODE then
      let r := rDL_STATUS 0
      if up then ((s.setDl 0 dlUP).wf r fDL_STATUS_WIDTH width).wf r fDL_STATUS_RATE rate
      else
        let s1 := (s.setDl 0 dlDOWN).wf r fDL_STATUS_WIDTH 0
        (s1.pcieReads.foldl (fun y q => y.answered (.hart q.hart) .accessFault) s1).modReads (fun _ => [])
    else s

/-- A write of DL_CFG (Table 14.10): a mode other than OFF starts training; only a refused MODE is ignored. [DEDUCED, log entry 69] -/
def State.dlCfgWrite (s : State) (k : Nat) (w : Word) : State :=
  let mode := fDL_CFG_MODE.get w
  if s.dlState k ≠ dlDOWN ∨ (2 ≤ mode ∧ k ≠ 0) then
    (s.plainWrite (rDL_CFG k) (fDL_CFG_MODE.set w (s.rf (rDL_CFG k) fDL_CFG_MODE))).setFlag (rDL_STATUS k) fDL_STATUS_CFG_ERR
  else
    let s1 := s.plainWrite (rDL_CFG k) w
    if mode = 0 then s1 else s1.setDl k dlTRAINING

/-- DL_CFG_WRITE (R303). -/
def execDlCfgWrite (port : Port) (link : Nat) (val : Word) (s : State) : Res State :=
  .next <| s.access port (rDL_CFG (link % 4)) (fun s => s.dlCfgWrite (link % 4) val)

/-- A write of a DL_ window. -/
def State.dlWrite (s : State) (k off : Nat) (w : Word) : State :=
  if off = 0 then s.dlCfgWrite k w
  else if off = 8 then s.plainWrite (rDL_STATUS k) w
  else if off = 0x200 ∧ fDL_CNT_CLR.get w = 1 then s.setReg (rDL_CNT k) 0
  else if off = 0x208 ∧ fDL_LINK_CNT_CLR.get w = 1 then s.setReg (rDL_LINK_CNT k) 0
  else s

/-! ## Discovery (R309) -/

/-- The part returns to OFF: its configuration and its counters stay. [DEDUCED, log entry 70] -/
def State.chOff (s : State) : State :=
  let st := rCH_STATUS
  let keep := fCH_STATUS_CFG_ERR.set (fCH_STATUS_SELF_ID.set 0 s.selfId) (s.rf st fCH_STATUS_CFG_ERR)
  let s1 := (((s.setReg st keep).setReg rCH_VIEW 0).setReg rCH_BAR_STAT 0).clrFlag rCH_CFG fCH_CFG_ENABLE
  let s2 := s1.modCh (fun c =>
    { c with parts := [], dup := false, helloAt := none, agree := none, views := [], arrivals := [], mine := [], late := [], hellos := [], silent := [] })
  (((s2.setRoutes 0).collCheckAll).lostRequests).reselect

/-- A write of CH_CFG (Table 14.7). -/
def State.chCfgWrite (s : State) (w : Word) : State :=
  let on := fCH_CFG_ENABLE.get w == 1
  if s.chState = csOFF then
    let w1 := if fCH_CFG_DISC_MS.get w = 0 then fCH_CFG_DISC_MS.set w 1 else w
    let s1 := s.plainWrite rCH_CFG w1
    if on then ((s1.setChState csDISCOVER).modCh (fun c => { c with learned := s.dtime })).entryCheck else s1
  else if on then s.setFlag rCH_STATUS fCH_STATUS_CFG_ERR
  else
    let s1 := if fCH_CFG_ENABLE.set w 1 = s.reg rCH_CFG then s else s.setFlag rCH_STATUS fCH_STATUS_CFG_ERR
    s1.chOff

/-- CH_ENABLE (R309). -/
def execChEnable (port : Port) (s : State) : Res State :=
  .next <| s.access port rCH_CFG (fun s => s.chCfgWrite (fCH_CFG_ENABLE.set (s.reg rCH_CFG) 1))

/-- CH_DISABLE (R309). -/
def execChDisable (port : Port) (s : State) : Res State :=
  .next <| s.access port rCH_CFG (fun s => s.chCfgWrite (fCH_CFG_ENABLE.set (s.reg rCH_CFG) 0))

/-- A write of the CH_ window: the configuration is frozen while STATE is not OFF. -/
def State.chWrite (s : State) (off : Nat) (w : Word) : State :=
  let a := rCH_CFG + off
  let frozen := off == 0x18 || off == 0x20 || off == 0x28 || off == 0x30 || decide (0x1000 ≤ off ∧ off < 0x1400)
  if off = 0 then s.chCfgWrite w
  else if frozen && s.chState != csOFF then s.setFlag rCH_STATUS fCH_STATUS_CFG_ERR
  else if off = 0x40 then s.plainWrite a (if fCH_RSP_CFG_RSP_TIMEOUT_US.get w = 0 then fCH_RSP_CFG_RSP_TIMEOUT_US.set w 1 else w)
  else if off = 0x200 ∨ off = 0x208 ∨ off = 0x210 then (if w.toNat % 2 = 1 then s.setReg a 0 else s)
  else s.plainWrite a w

/-- HELLO_SEND (R309): every 100 µs during discovery. -/
def execHelloSend (s : State) : Res State :=
  .next <|
    let due := match s.ch.helloAt with
      | none => true
      | some t => decide (t + 100000 ≤ s.dtime)
    if s.chState = csDISCOVER ∧ due = true then
      let f : ChFrame := { origin := s.selfId, seq := s.ch.seq, body := .hello s.ownCfg s.ownAdj }
      (s.modCh (fun c => { c with helloAt := some s.dtime, hellos := f :: c.hellos })).flood f.body
    else s

/-- Two HELLOs of one ID that cannot be of one part: a port with two neighbours, or ports of which neither HELLO names all the other
does. [DEDUCED, log entry 70] -/
def clash (a b : List ChAdj) : Bool :=
  a.any (fun x => b.any (fun y => x.port == y.port && (x.nbr != y.nbr || x.nbrPort != y.nbrPort)))
  || (a.any (fun x => !b.contains x) && b.any (fun y => !a.contains y))

/-- A HELLO adds to what is known. -/
def State.hear (s : State) (p : ChPart) : State :=
  match s.chPart p.id with
  | none => s.modCh (fun c => { c with parts := p :: c.parts, learned := s.dtime })
  | some q =>
    let fresh := p.adj.any (fun x => !q.adj.contains x)
    s.modCh (fun c =>
      { c with
        parts := c.parts.map (fun r => if r.id = p.id then p else r)
        dup := c.dup || clash p.adj q.adj
        learned := if fresh then s.dtime else c.learned })

/-- A HELLO with this part's own ID that it did not send is another part's (R309). -/
def State.twinHello (s : State) (k : Nat) (ok : Bool) (f : ChFrame) : State :=
  if s.linkUp k && ok && s.chState == csDISCOVER && f.origin == s.selfId && !s.ch.hellos.contains f then
    s.modCh (fun c => { c with dup := true })
  else s

/-- HELLO (R309, R320). -/
def execHello (link origin seq : Nat) (ok : Bool) (cfg : ChCfg) (adj : List ChAdj) (s : State) : Res State :=
  .next <|
    let f : ChFrame := { origin := origin, seq := seq, body := .hello cfg adj }
    (s.twinHello link ok f).floodedIn link ok f (fun s =>
      if s.chState = csDISCOVER ∧ origin ≠ s.selfId then s.hear { id := origin, cfg := cfg, adj := adj } else s)

/-- DISCOVERY_END (R309, R312): a FAULT, or the agreement for view 1. -/
def execDiscoveryEnd (s : State) : Res State :=
  .next <|
    if s.chState = csDISCOVER ∧ s.ch.agree = none ∧ s.ch.learned + s.rf rCH_CFG fCH_CFG_DISC_MS * 1000000 ≤ s.dtime then
      let f := s.discoveryFault
      if f = cfNONE then s.propose 1 s.discovered s.dtime
      else (s.wf rCH_STATUS fCH_STATUS_FAULT f).setChState csFAULT
    else s

/-! ## Heartbeats and time (R316, R324) -/

/-- HEARTBEAT_SEND (R316): every 50 µs on every UP device link. [DEDUCED, log entry 72] -/
def execHeartbeatSend (s : State) : Res State :=
  .next <|
    let due := match s.ch.beatAt with
      | none => true
      | some t => decide (t + 50000 ≤ s.dtime)
    if due = true then
      (s.modCh (fun c => { c with beatAt := some s.dtime })).flood
        (.heartbeat s.chView (s.rf rCH_STATUS fCH_STATUS_MEMBERS) s.barDone s.dtime)
    else s

/-- The neighbour on the route towards the time master disciplines DTIME (R324). -/
def State.followBeat (s : State) (k sent : Nat) : State :=
  let m := s.rf rCH_STATUS fCH_STATUS_TIME_MASTER
  if s.followsChorus && s.reachable m && s.rf (rCH_ROUTE m) fCH_ROUTE_PORT == k then
    s.timeEvent srcCHORUS ((sent + (s.devLink k).delay : Int) - s.dtime)
  else s

/-- HEARTBEAT (R316, R317, R319). -/
def execHeartbeat (link origin : Nat) (ok : Bool) (view members sent : Nat) (s : State) : Res State :=
  .next <|
    if !s.linkOn link then s
    else if !ok then s.bump (rDL_LINK_CNT link) fDL_LINK_CNT_FRAME_ERR_CNT 1
    else if s.chState = csRUN ∧ s.listens origin = false then s.bump rCH_ERR_CNT fCH_ERR_CNT_FOREIGN_CNT 1
    else
      let s1 := (s.modLink link (fun l => { l with timer := s.dtime, misses := 0 })).modCh (fun c => { c with silent := c.silent.filter (· != origin) })
      let s2 := s1.followBeat link sent
      if (s2.chState = csRUN ∨ s2.chState = csDISCOVER) ∧ s2.chView < view then s2.viewIn origin view members else s2

/-- HEARTBEAT_MISS (R316). -/
def execHeartbeatMiss (link : Nat) (s : State) : Res State :=
  .next <|
    let l := s.devLink link
    if s.linkOn link ∧ l.timer + 50000 ≤ s.dtime then
      let s1 := (s.bump (rDL_LINK_CNT link) fDL_LINK_CNT_HB_MISS_CNT 1).modLink link (fun l =>
        { l with timer := s.dtime, misses := l.misses + 1 })
      if 3 ≤ l.misses + 1 then (s1.falls link).linkDown link else s1
    else s

/-- PROBE (R324): the 16 round trips at link UP; half their mean is the link delay, which is held from then on. -/
def execProbe (link : Nat) (trips : List Nat) (s : State) : Res State :=
  .next <|
    if s.linkUp link ∧ trips.length = 16 ∧ (s.devLink link).probed = false then
      s.modLink link (fun l => { l with delay := trips.sum / 32, probed := true })
    else s

/-! ## Peer requests (R315) -/

/-- A request of an engine that gets no answer is outstanding: its descriptor is at work there. -/
def State.reqOpen (s : State) : PeerReq → Bool
  | .tile t _ => slicePresent (s.tileState t)
  | .engine e c n =>
    match s.desc c n with
    | some d => decide (d.phase = .started) && d.units.contains e
    | none => false
  | .hart _ => true

/-- A request completes LINK_DOWN; at a hart it raises an access fault (R315, R444). -/
def State.reqLinkDown (s : State) : PeerReq → State
  | .tile t addr => s.tileFault t stLINK_DOWN addr
  | .engine e c n =>
    match s.desc c n with
    | some d =>
      ((((d.units.zipIdx).foldl (fun y u => y.traceEvent u.1 evABORT (shareCmd c d u.2 stLINK_DOWN)) s).finish c n stLINK_DOWN
        (e * 2 ^ 56)).freeDmas c [n]).freeSets c [n]
    | none => s
  | .hart h => s.answered (.hart h) .accessFault

/-- PEER_RESPONSE_TIMEOUT (R315): a request has waited `us` µs. [DEDUCED, log entry 72] -/
def execPeerResponseTimeout (req : PeerReq) (us : Nat) (s : State) : Res State :=
  .next <|
    if us ≤ s.rf rCH_RSP_CFG fCH_RSP_CFG_RSP_TIMEOUT_US ∨ s.reqOpen req = false then s
    else (s.bump rCH_ACC_CNT fCH_ACC_CNT_TMO_CNT 1).reqLinkDown req

end Sys2Proof.Machine
end

