-- ==== Sys2Proof/Machine/Skink.lean ====
section
/-!
DEFINITION. The commands of the die links (R281–R302): frames and replay, the sideband, lane
tests, exchanges, quarantine and rejoin.
-/
namespace Sys2Proof.Machine

/-! ## Frames and replay (R283–R286) -/

/-- The receiver sends a NAK that names the lowest SEQ it lacks, for a frame of bundle `i`. [DESIGN CHOICE, log entry 111] -/
def State.nakFor (s : State) (n d i : Nat) : State :=
  let s1 := (s.modDir n d (fun x => { x with nakDue := some x.next })).bump (rSK_BCRC n i) fSK_BCRC_NAK_CNT 1
  s1.skDeal n (1 - d) kNAK 0 ((s.skConn n).dir d).next

/-- A bundle retrains: it leaves the rotation (R286). -/
def State.retrainBundle (s : State) (n i : Nat) : State :=
  let s1 := ((s.modBundle n i (fun b => { b with live := false, retrain := true, fails := [] })).bump
    (rSK_CONN_EVT n) fSK_CONN_EVT_RETRAIN_CNT 1).showConn n
  if s1.tooFew n then s1.quarantine n causeLINK else if s1.sbLost n then s1 else s1.sendTest n (2 ^ (i / 24)) (2 ^ (i % 24))

/-- A CRC failure on a bundle: it counts within any 1 ms (R286). -/
def State.crcFailed (s : State) (n d i : Nat) : State :=
  let now := s.dtime
  let s1 := (s.bump (rSK_BCRC n i) fSK_BCRC_CRC_CNT 1).nakFor n d i
  let s2 := s1.modBundle n i (fun b => { b with fails := now :: b.fails.filter (fun t => decide (now < t + 1000000)) })
  if (s2.skConn n).lim ≤ ((s2.skConn n).bundle i).fails.length then s2.retrainBundle n i else s2

/-- What the message of a frame carries: the frames of its TAG that have come, and itself. -/
def SkDir.message (x : SkDir) (f : Nat) : List SkBeat := (x.part.filter (fun g => frTag g == frTag f) ++ [f]).map beatOf

/-- A frame in order: a message is handed on when its LAST frame has come. -/
def SkDir.hand (x : SkDir) (f : Nat) : SkDir :=
  if !frCarries f then x
  else if frLast f then { x with part := x.part.filter (fun g => frTag g != frTag f), done := x.message f :: x.done }
  else { x with part := x.part ++ [f] }

/-- The frame is the next in order: it is delivered. -/
def SkDir.take (x : SkDir) (f : Nat) : SkDir :=
  { x.hand f with
    next := (x.next + 1) % 4096
    nakSeq := if x.nakSeq = some x.next then none else x.nakSeq
    nakRun := if x.nakSeq = some x.next then 0 else x.nakRun
    resend := if x.resend = some x.next then none else x.resend
    nakDue := none
    owed := x.owed + 1 }

/-- ACK releases what the transmitter of the opposite direction holds. -/
def SkDir.ack (x : SkDir) (a : Nat) : SkDir :=
  let b := (a + 1) % 4096
  if between 1 (seqDist x.acked b) (seqDist x.acked x.next) then
    { x with acked := b, held := x.held.filter (fun f => decide (seqDist x.acked b ≤ seqDist x.acked (frSeq f))) }
  else x

/-- Frames held, with a new one at its place in the order. -/
def holdFrame (a f : Nat) : List Nat → List Nat
  | [] => [f]
  | g :: l => if seqDist a (frSeq f) < seqDist a (frSeq g) then f :: g :: l else g :: holdFrame a f l

/-- A frame that arrives, whole or not, was dealt: the transmitter holds it until it is acknowledged, and its bundle has had its
turn (R284); HALF bundles passed over have rested. `order` gives the turns. [DEDUCED, log entry 62] -/
def SkDir.dealt (x : SkDir) (order : List Nat) (half : Nat → Bool) (i f : Nat) : SkDir :=
  if frGood f ∧ x.held.length < 2048 ∧ seqDist x.acked (frSeq f) < 2048 ∧ x.held.all (fun g => frSeq g != frSeq f) = true then
    { x with
      sent := if seqDist x.sent (frSeq f) < 2048 then (frSeq f + 1) % 4096 else x.sent
      held := holdFrame x.acked f x.held, last := i
      rested := (x.rested ++ (order.takeWhile (· != i)).filter half).filter (· != i) }
  else x

/-- The transmitter's side of a frame that arrives on bundle `i`. -/
def State.skDealt (s : State) (n d i f : Nat) : State :=
  s.modDir n d (fun x => x.dealt (s.skOrder n d) (fun b => s.skWidthOf n b == 1) i f)

/-- A whole message opens or ends a tracked request (R293): a REQ alone reads, one with DATA writes; a RSP, or DATA without a REQ,
ends the request of its TAG in the opposite direction. [DEDUCED, log entry 62] -/
def State.skTrack (s : State) (n d f : Nat) : State :=
  let x := (s.skConn n).dir d
  let kinds := (x.message f).map SkBeat.kind
  if !(frCarries f && frLast f) then s
  else if kinds.contains kREQ then
    if 4096 ≤ x.track.length then s else
    s.modDir n d (fun x => { x with track := { tag := frTag f, wr := kinds.contains kDATA, since := s.dtime } :: x.track })
  else s.modDir n (1 - d) (fun y => { y with track := y.track.filter (fun r => r.tag != frTag f) })

/-- A frame with a good CRC. What carries something is answered by an IDLE frame with its ACK. [DEDUCED, log entry 62] -/
def State.goodFrame (s : State) (n d i f : Nat) : State :=
  let s1 := (s.modDir n (1 - d) (fun x => { x.ack (frAck f) with credits := x.credits + 8 * frCredit f })).skDrain n (1 - d)
  let far := seqDist ((s1.skConn n).dir d).next (frSeq f)
  if far = 0 then
    let s2 := (s1.skTrack n d f).modDir n d (fun x => x.take f)
    if frCarries f then s2.skIdle n (1 - d) else s2
  else if far < 2048 then s1.nakFor n d i else s1

/-- SKINK_FRAME (R283–R286). -/
def execSkinkFrame (conn dir bundle : Nat) (frame : FrameIn) (s : State) : Res State :=
  let i := 24 * dir + bundle
  .next <|
    if dir < 2 ∧ bundle < skBundles conn ∧ s.connState conn = skUP ∧ ((s.skConn conn).bundle i).live then
      let s1 := (s.takeCfg conn false).skDealt conn dir i frame.sent
      if frGood (frGot frame) then s1.goodFrame conn dir i (frGot frame) else s1.crcFailed conn dir i
    else s

/-- NAK (R285, R286): the transmitter of direction `dir` resends from the SEQ named. [DEDUCED, log entry 62] -/
def execNak (conn dir seq : Nat) (s : State) : Res State :=
  let x := (s.skConn conn).dir dir
  let run := if x.nakSeq = some (seq % 4096) then x.nakRun + 1 else 1
  .next <|
    if dir < 2 ∧ s.connState conn = skUP ∧ seqDist x.acked seq < 2048 then
      let s1 := s.modDir conn dir (fun x => { x with nakSeq := some (seq % 4096), nakRun := run, resend := some (seq % 4096) })
      if 64 ≤ run then s1.quarantine conn causeLINK else s1.skResend conn dir seq
    else s

/-! ## STATE and QUARANTINE messages (R287, R288, R292, R298) -/

/-- SB_STATE_SEND (R287): on every change and every 100 µs. -/
def execSbStateSend (conn side : Nat) (rep : DieReport) (s : State) : Res State :=
  let x := (s.skConn conn).side side
  .next <|
    if x.last ≠ some rep ∨ x.sentAt + 100000 ≤ s.dtime then s.sbTell conn side rep else s

/-- The die that stands at a side of a connection; `none` for HUB. -/
def skSideDie (n side : Nat) : Option Nat :=
  match skDie n with
  | some d => if side = 0 then some d else none
  | none => some (if side = 0 then (skEnds n).1 else (skEnds n).2)

/-- A die starts its rejoin (R298): not over a lost sideband. -/
def State.rejoinStart (s : State) (d : Nat) : State :=
  if s.sbLost (skHubConn d) then s
  else
    let s1 := (skRings d).foldl (fun y r => (y.modConn r (fun c => { c with tried := false })).sendTestAll r) s
    ((s1.modSk (fun k => { k with loaded := setAt k.loaded d false, offered := setAt k.offered d false })).setDieState d 2).sendTestAll
      (skHubConn d)

/-- An ABSENT die whose STATE is RUN rejoins by itself when AUTO_REJOIN = 1. -/
def State.autoRejoin (s : State) (d : Nat) : State :=
  if s.dieState d = 3 ∧ s.sk.reports.getD d none = some .run ∧ s.flag rSK_DIE_CTRL fSK_DIE_CTRL_AUTO_REJOIN then s.rejoinStart d else s

/-- SB_STATE (R287, R292, R298). -/
def execSbState (conn side : Nat) (rep : DieReport) (s : State) : Res State :=
  .next <| s.sbMsg conn (fun s =>
    match skSideDie conn side with
    | none => s
    | some d =>
      let s1 := s.modSk (fun k => { k with reports := setAt k.reports d (some rep) })
      let s2 := if rep = .reset ∨ rep = .noclk then s1.quarantine conn causeRESET else s1
      if skDie conn = some d then s2.autoRejoin d else s2)

/-- QUARANTINE_MESSAGE (R287, R292): connection `lost` was quarantined with the cause named. -/
def execQuarantineMessage (conn lost cause : Nat) (s : State) : Res State :=
  .next <| s.sbMsg conn (fun s => if lost < 10 ∧ 1 ≤ cause ∧ cause ≤ 6 then s.quarantine lost cause else s)

/-- SIDEBAND_LOST (R288). -/
def execSidebandLost (conn : Nat) (s : State) : Res State :=
  .next <|
    if conn < 10 ∧ (s.skConn conn).heard + 1000000 ≤ s.dtime then s.setFlag (rSK_CONN_STATUS conn) fSK_CONN_STATUS_SB_LOST else s

/-! ## Lane tests (R289) -/

/-- A quarantined connection is tested again in a rejoin of one of its dies. -/
def State.mayRetest (s : State) (n : Nat) : Bool :=
  match skDie n with
  | some d => s.dieState d == 2
  | none =>
    let a := s.dieState (skEnds n).1
    let b := s.dieState (skEnds n).2
    (a == 2 && (b == 0 || b == 2)) || (b == 2 && a == 0)

/-- The dies of a connection have their clocks: neither the part nor one of them is in RETAIN (R301, R371, R378). -/
def State.connClocked (s : State) (n : Nat) : Bool :=
  s.powerState != 3 && s.powerState != 4 && [0, 1].all (fun x => match skSideDie n x with
    | some d => decide (4 ≤ d) || s.diePower d != 2
    | none => true)

/-- A lane test of whole bundles is set up. [DEDUCED, log entry 65] -/
def State.testStart (s : State) (n start : Nat) (l : List Nat) (whole : Bool) : State :=
  let s1 := (s.takeCfg n true).modConn n (fun c => { c with test := some { start := start, bundles := l, whole := whole }, xch := none })
  if whole then
    ((s1.setConnState n skTEST).modConn n (fun c => { c with bundles := c.bundles.map (fun b => { b with live := false, retrain := false }) })).showConn n
  else s1

/-- TEST_START (R287, R289): bundles of the directions and bundle numbers named, in a slot. -/
def execTestStart (conn dirs bundles slot : Nat) (s : State) : Res State :=
  .next <|
    if s.sbLost conn then s.sbMsg conn id
    else s.sbMsg conn (fun s =>
      let c := s.skConn conn
      let start := c.epoch + 5600 * slot
      let sel := (skAll conn).filter (fun i => dirs.testBit (i / 24) && bundles.testBit (i % 24))
      let redo := sel.filter (fun i => (c.bundle i).retrain)
      let st := s.connState conn
      if st = skUP then (if redo = [] then s else s.testStart conn start redo false)
      else if sel ≠ [] ∧ s.connClocked conn ∧ (st ≠ skQUAR ∨ s.mayRetest conn) then s.testStart conn start sel true
      else s)

/-- Duration of a lane test: TEST_UI_K × 1,024 unit intervals of 0.25 ns, or 1 ns on a narrow
bundle. -/
def State.testNs (s : State) (n : Nat) : Nat := (s.skConn n).uiK * (if n < 8 then 256 else 1024)

/-- The state of the PRBS-23 generator after one unit interval (polynomial x^23 + x^18 + 1). [PRESUMED, log entry 63] -/
def prbsStep (r : Nat) : Nat := (2 * r + bit (r.testBit 22 != r.testBit 17)) % 2 ^ 23

/-- What wire `w` drives in unit interval `u`: its sequence starts from the seed w + 1 (R289). -/
def prbsBit (w : Nat) (u : Nat) : Bool := ((List.range u).foldl (fun r _ => prbsStep r) (w + 1)).testBit 22

/-- What a receiver samples of one bundle; what a test does not name shows no bit error. -/
def runOf (l : List LaneRun) (i : Nat) : LaneRun := (l.find? (fun m => m.bundle == i)).getD { bundle := i, samples := [], clock := true }

/-- Wires of a bundle that show a bit error among the unit intervals checked, as a mask. -/
def runErrs (r : LaneRun) (uis wires : Nat) : Nat :=
  (((List.range wires).filter (fun w =>
    r.samples.any (fun x => x.1 == w && decide (x.2.1 < uis) && x.2.2 != prbsBit w x.2.1))).map (2 ^ ·)).sum

/-- Wires that the fuses of the die at a side of a connection mark bad in a bundle (R289). -/
def State.fuseBad (s : State) (n i side : Nat) : Nat :=
  (s.fuses.wires.filter (fun b => b.conn == n && b.bundle == i && b.side == side)).foldl (fun m b => Nat.lor m b.mask) 0

/-- Wires of a connection that are none of the bad ones. -/
def goodWires (n bad : Nat) : Nat := Nat.xor (skAllGood n) (Nat.land (skAllGood n) bad)

/-- What a lane test of a bundle leaves (R289): the receiver's map has no wire that showed an error or that the receiving die's
fuses mark, the transmitter's none that its own die's fuses mark; and whether the forwarded clock ran. -/
def State.laneMaps (s : State) (n i : Nat) (r : LaneRun) : Nat × Nat × Bool :=
  (goodWires n (Nat.lor (runErrs r ((s.skConn n).uiK * 1024) (skWires n)) (s.fuseBad n i (1 - i / 24))), goodWires n (s.fuseBad n i (i / 24)), r.clock)

/-- A side's messages of an earlier exchange are put away. -/
def SkSide.clear (x : SkSide) : SkSide := { x with sum := none, lanes := [], conf := false }

/-- A side's own map of a bundle: its receiver map where it receives, its transmitter map where
it sends. -/
def SkConn.own (c : SkConn) (side i : Nat) : Nat :=
  let b := c.bundle i
  if i / 24 = side then b.tx else b.rx

/-- Both sides send the messages of an exchange (R290). -/
def State.sendExchange (s : State) (n : Nat) (e : SkXch) : State :=
  (s.sendMaps n 0 e.num e.bundles ((s.skConn n).own 0)).sendMaps n 1 e.num e.bundles ((s.skConn n).own 1)

/-- LANE_TEST_COMPLETE (R289, R290): the first exchange begins. -/
def execLaneTestComplete (conn : Nat) (runs : List LaneRun) (s : State) : Res State :=
  .next <|
    match (s.skConn conn).test with
    | none => s
    | some t =>
      if s.sbLost conn = false ∧ t.start + s.testNs conn ≤ s.dtime then
        let s1 := t.bundles.foldl (fun y i =>
          let m := s.laneMaps conn i (runOf runs i)
          y.modBundle conn i (fun b => { b with rx := m.1, tx := m.2.1, clock := m.2.2 })) s
        let e : SkXch := { num := 1, bundles := t.bundles, whole := t.whole, fallback := false }
        let s2 := s1.modConn conn (fun c =>
          { c with test := none, xch := some e, sides := c.sides.map (fun x => { x.clear with known := [] }) })
        (if t.whole then s2.setConnState conn skAGREE else s2).sendExchange conn e
      else s

/-! ## Exchanges (R290, R291) -/

/-- The map of a bundle that the other side has from side `x`'s messages. -/
def SkSide.map (x : SkSide) (full i : Nat) : Option Nat :=
  match x.sum with
  | none => none
  | some m => if m.testBit i then mapGet x.lanes i else some full

/-- All messages of a side's exchange have come. -/
def SkSide.complete (x : SkSide) (l : List Nat) : Bool := l.all (fun i => (x.map 0 i).isSome)

/-- The map side `y` holds for a bundle in an exchange. -/
def State.agreedMap (s : State) (n y : Nat) (e : SkXch) (i : Nat) : Nat :=
  let c := s.skConn n
  let x := c.side (1 - y)
  if !e.bundles.contains i then s.skMap n i
  else if e.fallback then
    match mapGet x.known i with
    | some m => (lowOnes (skWires n) 0 (skFull n / 2) (Nat.land (c.own y i) m)).getD 0
    | none => 0
  else Nat.land (c.own y i) ((x.map (skAllGood n) i).getD 0)

/-- The value a side sends in CONFIRM: CRC-32C over the agreed maps of every bundle (Table 13.4). [DESIGN CHOICE, log entry 64] -/
def State.confirmOf (s : State) (n y : Nat) (e : SkXch) : Nat :=
  crc32c ((skAll n).flatMap (fun i => leBytes 9 (s.agreedMap n y e i)))

/-- An exchange of connection `n` with this number is under way. -/
def State.inXch (s : State) (n num : Nat) : Option SkXch :=
  match (s.skConn n).xch with
  | some e => if e.num = num ∧ e.fallback = false then some e else none
  | none => none

/-- The connection could not agree (R291). -/
def State.fallbackFailed (s : State) (n : Nat) : State :=
  match skDie n with
  | some d =>
    if s.dieState d = 0 then s.quarantine n causeAGREE
    else
      let s1 := (s.setConnState n skQUAR).wf (rSK_CONN_STATUS n) fSK_CONN_STATUS_LAST_CAUSE causeAGREE
      let s2 := (s1.modConn n (fun c =>
        { c with bundles := c.bundles.map (fun b => { b with live := false, retrain := false }), xch := none })).showConn n
      (skRings d).foldl (fun y r => if y.connState r = skDOWN then y else y.connQuarantine r causeAGREE d)
        ((s2.setDieState d 3).skLog n causeAGREE d evREJOINFAIL)
  | none => ((s.modConn n (fun c => { c with tried := true })).quarantine n causeAGREE).offerCommits n

/-- The width a bundle takes at the end of an exchange. -/
def State.newWidth (s : State) (n : Nat) (e : SkXch) (i m : Nat) : Nat :=
  let w := skWidth n m ((s.skConn n).bundle i).clock
  if e.fallback then min w 1 else w

/-- The maps of an exchange take effect. [DEDUCED, log entry 65] -/
def State.applyMaps (s : State) (n : Nat) (e : SkXch) : State :=
  e.bundles.foldl (fun y i =>
    let m := s.agreedMap n 1 e i
    let w := s.newWidth n e i m
    (y.setMap n i m w).modBundle n i (fun b => { b with live := w != 0, retrain := false, fails := [] })) s

/-- Retrained bundles that stay OUT are logged. -/
def State.logOut (s : State) (n : Nat) (e : SkXch) : State :=
  if e.whole then s
  else e.bundles.foldl (fun y i => if s.skWidthOf n i = 0 then y.skLog n causeLINK (skLogDie n) evRETRAINOUT else y) s

/-- HUB loads the DTIME copy of a die that rejoins (R298 step 3). -/
def State.sendLoads (s : State) (n : Nat) : State :=
  match skDie n with
  | some d => if s.dieState d = 2 then s.sendLoad d else s
  | none => s

/-- The exchange succeeds: the connection is UP at its new widths. -/
def State.exchangeDone (s : State) (n : Nat) (e : SkXch) : State :=
  let s1 := ((s.applyMaps n e).modConn n (fun c =>
    { c with xch := none, tried := true, dirs := if e.whole then List.replicate 2 {} else c.dirs })).showConn n
  if e.fallback && s1.tooFew n then s1.fallbackFailed n
  else
    let s2 := ((s1.setConnState n skUP).wf (rSK_CONN_STATUS n) fSK_CONN_STATUS_FALLBACK (bit e.fallback)).logOut n e
    let s3 := if e.fallback then s2.skLog n causeAGREE (skLogDie n) evFALLBACK else s2
    if s3.tooFew n then s3.quarantine n causeLINK
    else if e.whole then ((s3.dieRetainUp n).sendLoads n).offerCommits n
    else (s3.skDrain n 0).skDrain n 1

/-- An exchange fails: it is repeated, or after the third the connection falls back. [DEDUCED, log entry 66] -/
def State.exchangeFailed (s : State) (n : Nat) (e : SkXch) : State :=
  if e.fallback then s.fallbackFailed n
  else
    let e' : SkXch := if 3 ≤ e.num then { e with fallback := true } else { e with num := e.num + 1 }
    let s1 := s.modConn n (fun c => { c with xch := some e', sides := c.sides.map SkSide.clear })
    if 3 ≤ e.num then
      ((s1.sendConfirm n 0 e.num (s1.confirmOf n 0 e')).sendConfirm n 1 e.num (s1.confirmOf n 1 e')).setFlag
        (rSK_CONN_STATUS n) fSK_CONN_STATUS_FALLBACK
    else s1.sendExchange n e'

/-- A side that now holds the other's messages sends its CONFIRM (R290 step 3); `s` is the state before the message of side
`side`. -/
def State.confirmDue (s : State) (n side : Nat) (e : SkXch) (t : State) : State :=
  if !((s.skConn n).side side).complete e.bundles && ((t.skConn n).side side).complete e.bundles then
    t.sendConfirm n (1 - side) e.num (t.confirmOf n (1 - side) e)
  else t

/-- MAP_SUMMARY (R290): side `side` flags the bundles with a bad wire. -/
def execMapSummary (conn side xch bad : Nat) (s : State) : Res State :=
  .next <| s.sbMsg conn (fun s =>
    match s.inXch conn xch with
    | some e => s.confirmDue conn side e (s.modSide conn side (fun x =>
        { x with
          sum := some bad
          known := (e.bundles.filter (fun i => !bad.testBit i)).foldl (fun k i => mapPut k i (skAllGood conn)) x.known }))
    | none => s)

/-- LANE_MAP (R290): side `side`'s map of one bundle that its summary flags. -/
def execLaneMap (conn side xch bundle good : Nat) (s : State) : Res State :=
  .next <| s.sbMsg conn (fun s =>
    let flagged : Bool := match ((s.skConn conn).side side).sum with
      | some m => m.testBit bundle
      | none => false
    match s.inXch conn xch with
    | some e =>
      if flagged && e.bundles.contains bundle then
        let m := good % 2 ^ skWires conn
        s.confirmDue conn side e (s.modSide conn side (fun x =>
          { x with lanes := mapPut x.lanes bundle m, known := mapPut x.known bundle m }))
      else s
    | none => s)

/-- CONFIRM (R290, R291): the side that receives it compares it with its own. [DESIGN CHOICE, log entry 64] -/
def execConfirm (conn side xch crc : Nat) (s : State) : Res State :=
  .next <| s.sbMsg conn (fun s =>
    match (s.skConn conn).xch with
    | none => s
    | some e =>
      let ready := e.fallback || (decide (e.num = xch) && ((s.skConn conn).side side).complete e.bundles)
      if side < 2 ∧ ready then
        if crc = s.confirmOf conn (1 - side) e then
          let s1 := s.modSide conn side (fun x => { x with conf := true })
          if ((s1.skConn conn).side 0).conf && ((s1.skConn conn).side 1).conf then s1.exchangeDone conn e else s1
        else s.exchangeFailed conn e
      else s)

/-- NACK (R287): side `side` refuses message `seq`, of type `typ`, of the other side, which sends it
once more; the second failure is reported to the procedure that sent it. [DEDUCED, log entry 65] -/
def execNack (conn side seq typ : Nat) (s : State) : Res State :=
  .next <| s.sbMsg conn (fun s =>
    let y := 1 - side
    if ((s.skConn conn).side y).nacked = some seq then
      let s1 := s.modSide conn y (fun x => { x with nacked := none })
      match s1.skConn conn |>.xch with
      | some e => if between 4 typ 6 then s1.exchangeFailed conn e else s1
      | none => if typ = 3 then s1.modConn conn (fun c => { c with test := none }) else s1
    else (s.modSide conn y (fun x => { x with nacked := some seq })).sbAgain conn y seq)

/-! ## Quarantine and rejoin commands -/

/-- FORWARDED_CLOCK_LOSS (R292): while a bundle is in service. -/
def execForwardedClockLoss (conn : Nat) (s : State) : Res State :=
  .next <| if conn < 10 ∧ s.connState conn = skUP then s.quarantine conn causeCLOCK else s

/-- RSP_TIMEOUT (R292): a tracked request has waited `us` µs. -/
def execRspTimeout (conn us : Nat) (s : State) : Res State :=
  .next <|
    if conn < 10 ∧ s.connState conn = skUP then
      let s1 := s.takeCfg conn false
      if (s1.skConn conn).rsp < us then s1.quarantine conn causeTIMEOUT else s1
    else s

/-- QUARANTINE_SWEEP_COMPLETE (R293, R298, R300): the counts are fixed and the die becomes ABSENT,
or HELD. The operands count the new requests that ended meanwhile, to which the tracked ones are added. [DEDUCED, log entry 66] -/
def execQuarantineSweepComplete (die done discarded : Nat) (s : State) : Res State :=
  .next <|
    match s.sk.sweeps.getD die none with
    | none => s
    | some w =>
      if s.dieState die = 1 ∧ w.bound ≤ s.dtime then
        let r := rSK_QLOG_INFO w.entry
        let s1 :=
          if s.rf rSK_QLOG_HEAD fSK_QLOG_HEAD_TOTAL < w.total + 16 then
            (s.wf r fSK_QLOG_INFO_COMPLETED (min (done + w.swept) 0xFFFFF)).wf r fSK_QLOG_INFO_DISCARDED (min (discarded + w.lost) 0xFFFF)
          else s
        (s1.modSk (fun k => { k with sweeps := setAt k.sweeps die none })).setDieState die (if w.hold then 4 else 3)
      else s

/-- REJOIN_REQ (R287, R298). -/
def execRejoinReq (die count : Nat) (s : State) : Res State :=
  .next <|
    if die < 6 then
      s.sbMsg (skHubConn die) (fun s => (s.modSk (fun k => { k with claims := setAt k.claims die count })).autoRejoin die)
    else s

/-- REJOIN_COMMIT (R298): from the fabric cycle named the die is PRESENT. -/
def execRejoinCommit (die cycle : Nat) (s : State) : Res State :=
  .next <|
    if die < 6 ∧ s.rejoinReady die then
      s.sbMsg (skHubConn die) (fun s => (s.modSk (fun k => { k with commits := setAt k.commits die (some cycle) })).commitsDue)
    else s

/-- A write of SK_DIE_CTRL (Table 13.10). -/
def State.skDieCtrl (s : State) (w : Word) : State :=
  let r := rSK_DIE_CTRL
  let hold := fSK_DIE_CTRL_HOLD_WIN_S.get w
  let s1 := (s.wf r fSK_DIE_CTRL_AUTO_REJOIN (fSK_DIE_CTRL_AUTO_REJOIN.get w)).wf r fSK_DIE_CTRL_HOLD_WIN_S (if hold = 0 then 1 else hold)
  let s2 := s1.wf r fSK_DIE_CTRL_HOLD_LIM (fSK_DIE_CTRL_HOLD_LIM.get w)
  let quar := fSK_DIE_CTRL_QUAR.get w
  let back := fSK_DIE_CTRL_REJOIN.get w
  let s3 := (List.range 6).foldl (fun y d =>
    if quar.testBit d && y.diePresent d then y.quarantine (skHubConn d) causeFW else y) s2
  (List.range 6).foldl (fun y d =>
    if back.testBit d && (y.dieState d == 3 || y.dieState d == 4) then y.rejoinStart d else y) s3

/-- QUAR (R292). -/
def execQuar (port : Port) (mask : Nat) (s : State) : Res State :=
  .next <| s.access port rSK_DIE_CTRL (fun s => s.skDieCtrl (fSK_DIE_CTRL_QUAR.set (s.reg rSK_DIE_CTRL) mask))

/-- REJOIN (R298). -/
def execRejoin (port : Port) (mask : Nat) (s : State) : Res State :=
  .next <| s.access port rSK_DIE_CTRL (fun s => s.skDieCtrl (fSK_DIE_CTRL_REJOIN.set (s.reg rSK_DIE_CTRL) mask))

/-- A write of a window of the links (R302): windows 11–15 ignore it. -/
def State.skWrite (s : State) (n off : Nat) (w : Word) : State :=
  if n = 10 then (if off = 8 then s.skDieCtrl w else s)
  else if n < 10 then
    if off = 8 then
      let one := fun (f : Fld) (x : Word) => if f.get x = 0 then f.set x 1 else x
      s.plainWrite (rSK_CONN_CFG n) (one fSK_CONN_CFG_RSP_TIMEOUT_US (one fSK_CONN_CFG_RETRAIN_LIM w))
    else if off = 0x600 then (if fSK_CONN_EVT_CLR.get w = 1 then s.setReg (rSK_CONN_EVT n) 0 else s)
    else if 0x400 ≤ off ∧ off < 0x580 ∧ fSK_BCRC_CLR.get w = 1 then s.setReg (rSK_BCRC n ((off - 0x400) / 8)) 0
    else s
  else s

end Sys2Proof.Machine
end

