-- ==== Sys2Proof/Machine/Power.lean ====
section
/-!
DEFINITION. Power states, wake, Brumation, clock levels and gating (R371–R387), with the shut-down
self-test (R413–R416).
-/
namespace Sys2Proof.Machine

/-! ## IDLE (R377) -/

/-- No context has a fetched descriptor, or one to fetch. -/
def State.quietRings (s : State) : Bool :=
  (List.range 64).all (fun c => (s.ctx c).window.isEmpty && (decide (s.ctxState c ≠ 1) || !s.ringWaits c))

/-- The conditions of R377 but for the time they have held. -/
def State.mayIdle (s : State) : Bool :=
  s.quietRings && s.dueTest.isNone && s.tests.all (fun u => !u.running) && s.th.bask.all (· == 0)
  && !s.flag rSH_CFG fSH_CFG_ENABLE && s.rf rCH_STATUS fCH_STATUS_STATE == 0

/-- IDLE_ENTRY (R377): the conditions, with no inbound request, have held for `us` µs. -/
def execIdleEntry (us : Nat) (s : State) : Res State :=
  .next <|
    if s.powerState = 0 ∧ s.pw.phase = 0 ∧ s.aon.off = false ∧ s.mayIdle
      ∧ s.rf rPM_GATE_CFG fPM_GATE_CFG_IDLE_DELAY_US ≤ us then
      ((List.range 4).foldl (fun x d => if x.diePower d = 0 then x.setDiePower d 1 else x) s).setPowerState 1
    else s

/-! ## Requests (R379, R380, R383) -/

def pwRETAIN : Nat := 1
def pwBRUMATION : Nat := 2
def pwOFF : Nat := 3

/-- Step 1 of Table 17.6. -/
def State.startEntry (s : State) (target : Nat) (forced : Bool) : State :=
  (((s.setPowerState 2).setFlag rPM_STATUS fPM_STATUS_BUSY).modPw (fun p =>
    { p with target := target, phase := 1, since := s.dtime, forced := forced, held := 0, pmAll := true })).raiseIrq irqPM

/-- Every descriptor of a context that has not completed is cancelled without a record: its engines stop, and none starts any
more (R192 steps 2–4). [DEDUCED, log entry 81] -/
def State.stopLoose (s : State) (c : Nat) : State :=
  let ds := (s.ctx c).window.filter (fun d => d.phase != .finished)
  let ns := ds.map (·.num)
  let s1 := ds.foldl (fun x d => (x.abortEngines c d).stopKernel c d.num stJOB_ABORTED) s
  ((((s1.freeDmas c ns).freeSets c ns).freeColls c ns).modCtx c (fun x =>
    { x with window := x.window.filter (fun d => d.phase == .finished) })).setInflight c

/-- A context's open job ends JOB_ABORTED, its work stopped by R192. [DEDUCED, log entry 81] -/
def State.forceJob (s : State) (c : Nat) : State :=
  match (s.ctx c).job with
  | none => s
  | some j =>
    let s1 := (if j.abort.isNone then s.jobStat c j disableCause else s).jobHalt c
    (s1.kvRestore c j.touched).1.jobStop c j stJOB_ABORTED

/-- A forced OFF stops the work of a context: an ENABLED one is disabled, and its jobs end, those that follow the first too. -/
def State.forceCtx (s : State) (c : Nat) : State :=
  if s.ctxState c = 0 then s
  else ((List.range ((s.ctx c).later.length + 1)).foldl (fun x _ => x.forceJob c) (s.ctxDisable c)).stopLoose c

/-- A request of a target is judged (R379); `busy` is a domain with a request outstanding. FORCE has
an effect on OFF alone (R383). -/
def State.powerRequest (s : State) (target : Nat) (force : Bool) (busy : Option Nat) : State :=
  if s.flag rPM_STATUS fPM_STATUS_BUSY then s.pmRej
  else
    let s1 := s.idleExit
    let held := s1.refusers busy
    let forced := force && decide (target = pwOFF)
    if held.any (fun h => !forced || h.1 == 3) then s1.powerEvent 1 target held
    else if forced then ((List.range 64).foldl State.forceCtx (s1.powerEvent 3 target held)).startEntry target true
    else s1.startEntry target false

/-- POWER_REQUEST_RETAIN (R379). -/
def execPowerRequestRetain (port : Port) (busy : Option Nat) (s : State) : Res State :=
  .next <| s.access port rPM_CTRL (fun s => s.powerRequest pwRETAIN false busy)

/-- POWER_REQUEST_BRUMATION (R379). -/
def execPowerRequestBrumation (port : Port) (busy : Option Nat) (s : State) : Res State :=
  .next <| s.access port rPM_CTRL (fun s => s.powerRequest pwBRUMATION false busy)

/-- POWER_REQUEST_OFF (R383). -/
def execPowerRequestOff (port : Port) (busy : Option Nat) (s : State) : Res State :=
  .next <| s.access port rPM_CTRL (fun s => s.powerRequest pwOFF false busy)

/-- FORCED_OFF (R383). [DEDUCED, log entry 81] -/
def execForcedOff (port : Port) (s : State) : Res State :=
  .next <| s.access port rPM_CTRL (fun s => s.powerRequest pwOFF true none)

/-! ## The shut-down self-test (R413–R416) -/

/-- Instances of a group (Table 19.6). -/
def bistCount (g : Nat) : Nat := [0, 128, 16, 256, 4, 1, 1, 64].getD g 0

/-- The first 64 failing addresses, filled up with zeros. -/
def bistAddrs (l : List Nat) : List Byte := ((l ++ List.replicate 64 0).take 64).flatMap (leBytes 8)

/-- Mask of failing groups: bit g − 1. -/
def bistMask (fails : List (Nat × Nat)) (hbm : List Nat) : Nat :=
  ((List.range 8).filter (fun i =>
    if i = 7 then !hbm.isEmpty else fails.any (fun f => f.1 == i + 1))).foldl (fun m i => m + 2 ^ i) 0

/-- The SHUTDOWN record (R416): `result` is 0 PASS, 1 FAIL, 2 NOT_RUN. [DESIGN CHOICE, log entry 88] -/
def State.shutdownRec (s : State) (result : Nat) (fails : List (Nat × Nat)) (hbm : List Nat) (us : Nat) : State :=
  if s.sh.tad.on then s else
  s.hubAppend jnSHUTDOWN 0
    (leBytes 4 (s.rf rJN_BOOT fJN_BOOT_BOOT_CNT) ++ leBytes 1 (if s.pw.target = pwOFF then 1 else 2) ++ leBytes 1 result
      ++ leBytes 1 (s.rf rPM_BIST_CFG fPM_BIST_CFG_BUDGET_W) ++ leBytes 1 (bistMask fails hbm) ++ leBytes 4 us
      ++ leBytes 4 hbm.length ++ bistAddrs hbm)

/-- PM_BIST_STAT: KIND 1 start, 2 RETAIN, 3 OFF. -/
def State.bistStat (s : State) (kind : Nat) (fails : List (Nat × Nat)) (hbm : List Nat) (us : Nat) : State :=
  let r := rPM_BIST_STAT
  let m := bistMask fails hbm
  ((((s.wf r fPM_BIST_STAT_DURATION_US us).wf r fPM_BIST_STAT_HBM_FAIL (min 255 hbm.length)).wf r fPM_BIST_STAT_GROUP_FAIL m).wf
    r fPM_BIST_STAT_RESULT (bit (m != 0))).wf r fPM_BIST_STAT_KIND kind

/-- The save area is overwritten (R414). -/
def State.saveArea (s : State) : State :=
  let lo := s.rf rPM_BIST_CFG fPM_BIST_CFG_SAVE * 2 ^ 26
  let hi := min (lo + 0x24000000) s.hbmBytes
  if hi ≤ lo then s
  else
    (s.modMem (fun m =>
      { m with
        cells := m.cells.filter (fun c => decide (c.1 < lo) || decide (hi ≤ c.1))
        poison := m.poison.filter (fun u => decide (u * 32 < lo) || decide (hi ≤ u * 32))
        wild := (lo, hi, s.free) :: m.wild.filter (fun w => decide (w.1 < lo) || decide (hi < w.2.1)) })).tick

/-- An engine whose SRAM failed enters FAULT (R362, R415). [DEDUCED, log entry 85] -/
def State.bistFault (s : State) (e : Nat) : State :=
  if s.testFault e then s
  else ((s.testFailed e (Config.marchGot e s.free)).wf rHUB_TEST_LASTI fHUB_TEST_LASTI_SLICE (Config.marchSlice e s.free)).tick

/-- What a failing instance does (R415). [DEDUCED, log entry 85] -/
def State.bistFail (s : State) (f : Nat × Nat) : State :=
  let i := f.2
  if bistCount f.1 ≤ i then s
  else
    match f.1 with
    | 1 => s.bistFault i
    | 2 => s.bistFault (128 + i)
    | 3 => s.modMem (fun m => m.forget (0x1000000000 + i * 0x80000) 0x80000)
    | 4 => s.modHarts (List.mapIdx (fun h x => if h / 4 = i then { x with inReset := true } else x))
    | 5 => s.modTrace (fun t => { t with bad := t.recs.length })
    | 6 => s.modHub (fun h => { h with slots := { h.slots with bad := List.range 64 } })
    | 7 => s.modSlice i (fun x => { x with off := true })
    | _ => s

/-- The failures of a self-test take effect (R415). [DEDUCED, log entry 85] -/
def State.bistApply (s : State) (fails : List (Nat × Nat)) (hbm : List Nat) : State :=
  (fails.foldl State.bistFail s).modMem (fun m => hbm.foldl (fun y a => y.putPoison (a / 32 * 32) 32) m)

/-! ## Entry (Table 17.6) -/

def State.setPhase (s : State) (n : Nat) : State := s.modPw (fun p => { p with phase := n })

/-- Every hart has parked: the self-test runs, or is recorded as not run. -/
def State.allParked (s : State) : State :=
  if s.flag rPM_CTRL fPM_CTRL_BIST then s.setPhase 2 else (s.shutdownRec 2 [] [] 0).setPhase 3

/-- The lowest hart that has not parked. -/
def State.unparked (s : State) : Option Nat :=
  (List.range 16).find? (fun h =>
    let x := s.harts[h]?.getD {}
    !x.parked && !x.inReset)

/-- HART_WFI (R380). -/
def execHartWfi (hart : Nat) (s : State) : Res State :=
  .next <|
    if s.pw.phase = 1 ∧ hart < 16 then
      let s1 := s.modHarts (fun l => modAt l hart (fun x => { x with parked := true }))
      s1.entryStep (fun s => if s.unparked.isNone then s.allParked else s)
    else s

/-- HART_PARK_DEADLINE (R380). [DEDUCED, log entry 81] -/
def execHartParkDeadline (s : State) : Res State :=
  .next <|
    if s.pw.phase = 1 ∧ s.pw.since + s.rf rPM_CTRL fPM_CTRL_PARK_US * 1000 ≤ s.dtime then
      match s.unparked with
      | some h => if s.pw.forced then s.entryStep State.allParked else s.abortEntry (s.entryRefusers ++ [(8, h)])
      | none => s
    else s

/-- SHUTDOWN_SELF_TEST_COMPLETE (R413–R416): the instances that failed as (group, instance), the
failing HBM sectors, which are tested at OFF alone, and the duration. -/
def execShutdownSelfTestComplete (fails : List (Nat × Nat)) (hbm : List Nat) (us : Nat) (s : State) : Res State :=
  .next <|
    if s.pw.phase = 2 then
      s.entryStep (fun s =>
        let off := decide (s.pw.target = pwOFF)
        let bad := if off then hbm else []
        let s1 := (List.range 64).foldl (fun x c => x.cleanSlice true c) s
        let s2 := if off then s1 else s1.saveArea
        let s3 := (s2.modPw (fun p => { p with fails := fails, hbmBad := bad.take 64 })).bistStat (if off then 3 else 2) fails bad us
        (s3.shutdownRec (bit (bistMask fails bad != 0)) fails bad us).setPhase 3)
    else s

/-- Test slices that run stop; their windows stay open (R365). -/
def State.stopTests (s : State) : State :=
  let on := (List.range 184).filter (fun e => (s.unitTest e).running)
  on.foldl (fun x e =>
    let y := x.modTest e (fun u => { u with running := false })
    if y.testFault e then y else y.setUnitState e tsIDLE) s

/-- POWER_ENTRY_COMMIT (R380, R400): Basking and test slices stop, the controllers enter self-refresh, and the open half-cycle
of the wear counters closes. -/
def execPowerEntryCommit (s : State) : Res State :=
  .next <|
    if s.pw.phase = 3 then
      s.entryStep (fun s =>
        let s1 := (s.baskTiles.foldl State.stopBask s).stopTests.wearClose
        ((List.range 64).foldl State.mcSleep s1).setPhase 4)
    else s

/-! ## Wake (R382) -/

/-- A connection that is tested and agreed when a RETAIN ends (R301): its dies are there and do not stay in RETAIN, and it is not
quarantined. -/
def State.exitTests (s : State) (n : Nat) : Bool :=
  s.connState n != skQUAR && [0, 1].all (fun x => match skSideDie n x with
    | some d => s.diePresent d && (decide (4 ≤ d) || s.diePower d != 2)
    | none => true)

/-- PM_WAKE_CAUSE is written, and the exit begins. -/
def State.exitStart (s : State) (cause : Nat) : State :=
  let s1 := (s.setReg rPM_WAKE_CAUSE (BitVec.ofNat 64 cause)).setReg rPM_WAKE_DTIME (BitVec.ofNat 64 s.dtime)
  let s2 := (((s1.setPowerState 5).setFlag rPM_STATUS fPM_STATUS_BUSY).modPw (fun p => { p with run := none, held := 0 }))
  let s3 := (List.range 64).foldl State.mcWake s2
  let stay := s.rf rPM_CTRL fPM_CTRL_DIE_RETAIN
  let s4 := (List.range 4).foldl (fun x d => if x.diePower d = 2 && !stay.testBit d then x.setDiePower d 3 else x) s3
  (List.range 10).foldl (fun x n => if x.exitTests n then x.sendTestAll n else x) s4

/-- A wake source fires (R380, R382, R384): bit `n` of SOURCE. -/
def State.wake (s : State) (n : Nat) : State :=
  if s.entering then (if s.pw.forced then s else s.abortEntry (s.entryRefusers ++ [(9, n)]))
  else if s.pw.phase = 4 then s.modPw (fun p => { p with held := Nat.lor p.held (2 ^ n) })
  else if s.powerState = 3 ∨ s.powerState = 4 then
    s.exitStart (2 ^ n + (if s.pw.run.isSome ∧ n ≠ 3 then 4 else 0))
  else s

/-- GPIO_WAKE (R382). -/
def execGpioWake (line : Nat) (level : Bool) (s : State) : Res State :=
  .next <|
    if line < 16 ∧ (s.rf rPM_WAKE_CFG fPM_WAKE_CFG_GPIO_MASK).testBit line
      ∧ (s.rf rPM_WAKE_CFG fPM_WAKE_CFG_GPIO_POL).testBit line = !level then s.wake 0
    else s

/-- WAKE_TIMER (R382): milliseconds from the end of entry. -/
def execWakeTimer (s : State) : Res State :=
  .next <|
    if s.flag rPM_WAKE_CFG fPM_WAKE_CFG_TIMER_EN ∧ (s.powerState = 3 ∨ s.powerState = 4)
      ∧ s.pw.endedAt + s.rf rPM_WAKE_TIMER fPM_WAKE_TIMER_TIMER_MS * 1000000 ≤ s.dtime then s.wake 1
    else s

/-- ISLAND_WAKE_REQUEST (R382). -/
def execIslandWakeRequest (isl : Nat) (s : State) : Res State :=
  .next <| if (s.isle isl).power ∧ s.flag rPM_WAKE_CFG fPM_WAKE_CFG_ISLAND_EN then s.wake 3 else s

/-! ## The end of entry and of exit -/

/-- A compute die sends its STATE on all its sidebands before it gates its clocks (R301). -/
def State.tellDie (s : State) (rep : DieReport) (d : Nat) : State :=
  if s.diePresent d then (skRings d).foldl (fun y r => y.sbTell r (if (skEnds r).1 = d then 0 else 1) rep) (s.sbTell (skHubConn d) 0 rep)
  else s

/-- HUB and every compute die that is there send their STATE (R301, R381). -/
def State.tellOff (s : State) (rep : DieReport) : State :=
  (List.range 6).foldl (fun y d => if y.diePresent d then y.sbTell (skHubConn d) 1 rep else y)
    ((List.range 4).foldl (State.tellDie · rep ·) s)

/-- Every link goes down for the transition (R301). -/
def State.linksDown (s : State) : State :=
  let s1 := (List.range 10).foldl State.connDown (s.tellOff .retain)
  let s2 := (List.range 4).foldl (fun x k => if x.dlState k = dlDOWN then x else x.linkDown k) s1
  ((List.range 4).filter (fun d => s.diePresent d && !s.dieRetained d)).foldl State.traceDieLost s2

/-- POWER_ENTRY_COMPLETE (R267, R380, R383): the controllers have drained; a held event lets the exit begin at once. -/
def execPowerEntryComplete (s : State) : Res State :=
  .next <|
    if s.pw.phase ≠ 4 || !s.mcQuiet then s
    else if s.pw.target = pwOFF then
      let b := s.rf rPM_BIST_CFG fPM_BIST_CFG_BUDGET_W
      ((s.tellOff .off).mainRailsOff 1).modAon (fun a => { a with budget := b })
    else
      let held := s.pw.held
      let s1 := (s.linksDown).chOff
      let s2 := (List.range 4).foldl (fun x d => if x.diePresent d then x.setDiePower d 2 else x) s1
      let s3 := ((s2.setPowerState (s.pw.target + 2)).clrFlag rPM_STATUS fPM_STATUS_BUSY).modPw (fun p =>
        { p with target := 0, phase := 0, held := 0, endedAt := s.dtime, lastRun := none, run := none, means := [] })
      if held = 0 then s3 else s3.exitStart (held % 16)

/-- Every connection that the exit waits for is UP, or a ring has failed its agreement (R301). -/
def State.exitReady (s : State) : Bool :=
  (List.range 10).all (fun n =>
    !s.exitTests n || s.connState n == skUP || (!skToHub n && (s.connState n == skQUAR || s.sbLost n)))

/-- POWER_EXIT_COMPLETE (R382, R415). -/
def execPowerExitComplete (s : State) : Res State :=
  .next <|
    if s.powerState = 5 ∧ s.exitReady then
      let s1 := (List.range 4).foldl (fun x d => if x.diePower d = 3 then x.setDiePower d 0 else x) s
      let s2 := (s1.testsOnExit (fun _ => true)).bistApply s.pw.fails s.pw.hbmBad
      let s3 := (s2.modPw (fun p => { p with fails := [], hbmBad := [] })).thermalExit
      (s3.backToRun).raiseIrq irqPM
    else s

/-! ## One compute die (R378) -/

/-- The refusers of a die entry that hold. -/
def State.dieRefusers (s : State) (d : Nat) : List (Nat × Nat) :=
  let mine := dieUnits d
  let busy := mine.any (fun e => s.unitState e != tsIDLE && s.unitState e != tsFAULT)
  let job := (List.range 64).find? (fun c => match (s.ctx c).job with
    | some j => j.begun && j.dies.testBit d
    | none => false)
  let due := (mine.filter (fun e => (s.unitTest e).due || (s.unitTest e).retest)).min?
  let traffic := match job with
    | some c => [(1, 128 + c)]
    | none => if busy then [(1, 1 + d)] else []
  traffic ++ s.thermalRefuses
    ++ (if s.flag rHUB_TEST_CFG fHUB_TEST_CFG_TEST_VETO && s.flag rHUB_TEST_CFG fHUB_TEST_CFG_ENABLE then refuser 5 due else [])

def dieRetainFld (d : Nat) : Fld := { hi := 20 + d, lo := 20 + d }

/-- DIE_RETAIN bit `d` written 1. -/
def State.dieRetainOn (s : State) (d : Nat) : State :=
  if s.flag rPM_STATUS fPM_STATUS_BUSY then s.pmRej
  else if s.diePresent d = false ∨ 2 ≤ s.diePower d then s
  else
    let held := s.dieRefusers d
    if held ≠ [] then s.powerEvent 1 (4 + d) held
    else
      let s1 := ((s.tellDie .retain d).setFlag rPM_CTRL (dieRetainFld d)).setDiePower d 2
      ((((skHubConn d :: skRings d).foldl State.connDown s1).traceDieLost d)).kernelLossAll

/-- DIE_RETAIN bit `d` written 0: the die comes back through lane test and agreement. -/
def State.dieRetainOff (s : State) (d : Nat) : State :=
  let s1 := s.clrFlag rPM_CTRL (dieRetainFld d)
  if s.diePower d = 2 then
    (skHubConn d :: skRings d).foldl (fun x n => if x.exitTests n then x.sendTestAll n else x) (s1.setDiePower d 3)
  else s1

/-- DIE_RETAIN_ENTRY (R378). [DEDUCED, log entry 82] -/
def execDieRetainEntry (port : Port) (die : Nat) (s : State) : Res State :=
  .next <| if die < 4 then s.access port rPM_CTRL (fun s => s.dieRetainOn die) else s

/-- DIE_RETAIN_EXIT (R378). -/
def execDieRetainExit (port : Port) (die : Nat) (s : State) : Res State :=
  .next <| if die < 4 then s.access port rPM_CTRL (fun s => s.dieRetainOff die) else s

/-! ## Clocks (R373–R376) -/

/-- A write of PM_CLK. [DEDUCED, log entry 82] -/
def State.pmClkWrite (s : State) (w : Word) : State :=
  if 3 < fPM_CLK_HART_MAX.get w ∨ 4 < fPM_CLK_TILE_MAX.get w then s.pmRej else (s.plainWrite rPM_CLK w).slowerAsked

/-- PM_CLK_WRITE (R374). -/
def execPmClkWrite (port : Port) (val : Word) (s : State) : Res State :=
  .next <| s.access port rPM_CLK (fun s => s.pmClkWrite val)

/-- Rail voltage of a level in mV (Table 17.2). -/
def levelMv (hart : Bool) (l : Nat) : Nat :=
  if hart then [900, 780, 680, 600].getD l 600 else [850, 750, 670, 600, 550].getD l 550

/-- CLOCK_LEVEL_SWITCH (R374, R375): a slower level at once, one that is being applied first, and a faster one once the rail
stands at `mv` mV or more. [DEDUCED, log entry 82] -/
def execClockLevelSwitch (hart : Bool) (mv : Nat) (s : State) : Res State :=
  let want := s.wantLevel hart
  let f := if hart then fPM_STATUS_HART_LVL else fPM_STATUS_TILE_LVL
  let now := s.rf rPM_STATUS f
  .next <|
    match s.slowTo hart with
    | some l => (s.setSlow hart none).wf rPM_STATUS f l
    | none => if now < want ∨ (want < now ∧ levelMv hart want ≤ mv) then s.wf rPM_STATUS f want else s

/-- UNIT_CLOCK_GATE (R376): a tile, set engine, DMA engine or path checker that has been free for
`cycles` fabric cycles. [DEDUCED, log entry 82] -/
def execUnitClockGate (eng cycles : Nat) (s : State) : Res State :=
  .next <|
    if eng < 184 ∧ (s.unitState eng = tsIDLE ∨ s.unitState eng = tsFAULT) ∧ (176 ≤ eng ∨ s.doneRaised eng = false)
      ∧ s.rf rPM_GATE_CFG fPM_GATE_CFG_GATE_DELAY ≤ cycles then
      s.modPw (fun p => { p with gated := setIns p.gated eng })
    else s

/-- PLL_LOCK_LOSS (R373): of a compute die, or of HUB, which restarts by itself. A PLL runs while its domain's logic rail is on.
[DEDUCED, log entry 84] -/
def execPllLockLoss (die : Option Nat) (s : State) : Res State :=
  .next <|
    match die with
    | some d => if d < 4 ∧ s.rail (.cd d) = .on then s.quarantine (skHubConn d) causeCLOCK else s
    | none =>
      if s.rail .hub ≠ .on then s
      else
        (s.mainRailsOff 5).modAon (fun a => { a with wait := !a.low })

/-! ## Supplies (R372) -/

/-- VIN_MAIN_LOSS (R372): VIN_MAIN has been outside its window for `us` µs. -/
def execVinMainLoss (us : Nat) (s : State) : Res State :=
  .next <| if 10 < us ∧ s.aon.off = false then s.mainRailsOff 3 else s

/-- VIN_AON_LOSS (R372): the part is lost except the islands. -/
def execVinAonLoss (s : State) : Res State :=
  .next <| ((s.mainRailsOff 0).clrFlag rTH_STATUS fTH_STATUS_THERM_OFF).modAon (fun _ => { off := true })

/-! ## Brumation (R384–R386) -/

/-- A field of a sampler step. -/
def State.bruCfg (s : State) (k : Nat) (f : Fld) : Nat := s.rf (rPM_BRU_STEP k) f

/-- An analogue VALUE is out of range. -/
def State.bruOut (s : State) (k v : Nat) : Bool :=
  let x := signedOf 16 v
  decide (x < signedOf 16 (s.bruCfg k fPM_BRU_STEP_LOW)) || decide (signedOf 16 (s.bruCfg k fPM_BRU_STEP_HIGH) < x)

/-- GPIO levels are out of range. -/
def State.bruGpio (s : State) (k v : Nat) : Bool :=
  Nat.land (Nat.xor v (s.bruCfg k fPM_BRU_STEP_HIGH)) (s.bruCfg k fPM_BRU_STEP_LOW) != 0

/-- Items 1 and 3 of R384: VALUE and the count. [DEDUCED, log entry 83] -/
def State.bruCount (s : State) (k v : Nat) (out : Bool) : State :=
  let r := rPM_BRU_VAL k
  (s.wf r fPM_BRU_VAL_VALUE v).wf r fPM_BRU_VAL_COUNT (if out then min 15 (s.rf r fPM_BRU_VAL_COUNT + 1) else 0)

/-- A step is judged: its effect, and the run with what it found. [DEDUCED, log entry 83] -/
def State.bruJudge (s : State) (r : BruRun) (v : Nat) (out failed : Bool) : State × BruRun :=
  let k := r.step
  let s1 := s.bruCount k v out
  let q := out && decide (s.bruCfg k fPM_BRU_STEP_PERSIST ≤ s1.rf (rPM_BRU_VAL k) fPM_BRU_VAL_COUNT)
  (s1, { r with step := k + 1, bad := if failed then k :: r.bad else r.bad, qual := if q then r.qual ++ [k] else r.qual })

/-- The run ends: the lowest qualifying step wakes the part. [DEDUCED, log entry 83] -/
def State.bruEnd (s : State) (r : BruRun) : State :=
  let s1 := s.modPw (fun p => { p with run := none })
  match r.qual with
  | [] => s1
  | k :: _ =>
    let mask := r.qual.foldl (fun m i => Nat.lor m (2 ^ i)) 0
    s1.exitStart (mask * 2 ^ 48 + s.rf (rPM_BRU_VAL k) fPM_BRU_VAL_VALUE * 2 ^ 32 + k * 2 ^ 28 + bit (r.bad.contains k) * 2 ^ 27 + 4)

/-- What a failed reading reads as. -/
def bruFAILED : Nat := 0x8000

/-- The steps of a run from the present one on, up to a camera step. -/
def bruGo : Nat → BruRun → State → State
  | 0, r, s => s.bruEnd r
  | n + 1, r, s =>
    let k := r.step
    let src := s.bruCfg k fPM_BRU_STEP_SRC
    if s.rf rPM_BRU_CFG fPM_BRU_CFG_NSTEP_M1 < k ∨ src = 0 then s.bruEnd r
    else if src = 10 then
      let p := s.bruCfg k fPM_BRU_STEP_PARAM
      (s.modPw (fun x => { x with run := some { r with since := s.dtime } })).modSh (fun h =>
        { h with edges := setAt h.edges p (some s.dtime), pulses := setAt h.pulses p (some s.dtime) })
    else if 11 ≤ src then bruGo n { r with step := k + 1 } s
    else
      match r.vals[k]?.getD none with
      | none =>
        let x := s.bruJudge r bruFAILED true true
        bruGo n x.2 x.1
      | some v =>
        let e := enc16 v
        let x := s.bruJudge r e (if src = 9 then s.bruGpio k e else s.bruOut k e) false
        bruGo n x.2 x.1

/-- BRUMATION_RUN (R384): `vals` are the readings of the steps in order, where a reading has not
failed; a camera step's comes with its frame. [DEDUCED, log entry 83] -/
def execBrumationRun (vals : List (Option Int)) (s : State) : Res State :=
  let due : Bool := match s.pw.lastRun with
    | some t => decide (t + s.rf rPM_BRU_CFG fPM_BRU_CFG_PERIOD_MS * 1000000 ≤ s.dtime)
    | none => true
  .next <|
    if s.powerState = 4 ∧ s.pw.run = none ∧ due then
      bruGo 17 { vals := vals, step := 0, since := 0, bad := [], qual := [] } (s.modPw (fun p => { p with lastRun := some s.dtime }))
    else s

/-- A run goes on behind its camera step. -/
def State.bruResume (s : State) (r : BruRun) (v : Nat) (out failed : Bool) : State :=
  let x := s.bruJudge r v out failed
  bruGo (17 - r.step) x.2 (x.1.modPw (fun p => { p with run := none }))

/-- Mean of a list, rounded down. -/
def avgFloor (l : List Nat) : Nat := l.sum / l.length

/-- Means of the 64 × 36 blocks of a frame of `w` by `h` samples, row by row (R385). [DEDUCED, log entry 83] -/
def blockMeans (w h : Nat) (px : List Nat) : List Nat :=
  (List.range 36).flatMap (fun by' => (List.range 64).map (fun bx =>
    let x0 := bx * w / 64
    let x1 := (bx + 1) * w / 64
    let y0 := by' * h / 36
    let y1 := (by' + 1) * h / 36
    avgFloor ((List.range (y1 - y0)).flatMap (fun y => (List.range (x1 - x0)).map (fun x => px.getD ((y0 + y) * w + x0 + x) 0)))))

/-- VALUE of two sets of means. -/
def frameDiff (a b : List Nat) : Nat := 16 * ((List.zip a b).map (fun p => (p.1 - p.2) + (p.2 - p.1))).sum / 2304

/-- BRUMATION_CAMERA_FRAME (R385): a frame of `bits`-bit samples, `width` to a line. -/
def execBrumationCameraFrame (bits width : Nat) (samples : List Nat) (s : State) : Res State :=
  .next <|
    match s.pw.run with
    | none => s
    | some r =>
      if s.powerState = 4 ∧ s.dtime < r.since + 100000000 ∧ 0 < width then
        let px := samples.map (fun v => if 8 ≤ bits then v / 2 ^ (bits - 8) % 256 else v * 2 ^ (8 - bits) % 256)
        let m := blockMeans width (samples.length / width) px
        let s1 := s.modPw (fun p => { p with means := mapPut p.means r.step m })
        match mapGet s.pw.means r.step with
        | none => (s1.bruResume r (Config.firstDiff s.free).toNat false false).tick
        | some old =>
          let v := frameDiff m old
          s1.bruResume r v (s1.bruOut r.step v) false
      else s

/-- BRUMATION_CAMERA_TIMEOUT (R384, R385): no frame within 100 ms. -/
def execBrumationCameraTimeout (s : State) : Res State :=
  .next <|
    match s.pw.run with
    | none => s
    | some r => if s.powerState = 4 ∧ r.since + 100000000 ≤ s.dtime then s.bruResume r bruFAILED true true else s

/-! ## The PM_ window (Tables 17.9–17.11, 19.10) -/

/-- A write of PM_CTRL: its settings, its DIE_RETAIN bits and its request. -/
def State.pmCtrlWrite (s : State) (w : Word) : State :=
  let us := fPM_CTRL_PARK_US.get w
  let s1 := (s.wf rPM_CTRL fPM_CTRL_PARK_US (if us = 0 then 1 else us)).wf rPM_CTRL fPM_CTRL_BIST (fPM_CTRL_BIST.get w)
  let s2 := (List.range 4).foldl (fun x d =>
    let want := (dieRetainFld d).get w
    if want = x.rf rPM_CTRL (dieRetainFld d) then x else if want = 1 then x.dieRetainOn d else x.dieRetainOff d) s1
  let req := fPM_CTRL_REQ.get w
  if between 1 req 3 then s2.powerRequest req (fPM_CTRL_FORCE.get w == 1) none else s2

/-- A write of PM_BRU_CFG or PM_BIST_CFG outside the range of its field is ignored. -/
def State.pmRanged (s : State) (a : Addr) (f : Fld) (lo hi : Nat) (w : Word) : State :=
  if between lo (f.get w) hi then s.plainWrite a w else s.pmRej

/-- A field that stores 1 where 0 is written. -/
def atLeast1 (f : Fld) (w : Word) : Word := if f.get w = 0 then f.set w 1 else w

/-- A write of the PM_ window. -/
def State.pmWrite (s : State) (off : Nat) (w : Word) : State :=
  let a := rPM_CTRL + off
  if off = 0 then s.pmCtrlWrite w
  else if off = 0x10 then s.pmClkWrite w
  else if off = 0x18 then s.plainWrite a (atLeast1 fPM_GATE_CFG_GATE_DELAY w)
  else if off = 0x40 then s.pmRanged a fPM_BRU_CFG_PERIOD_MS 10 3600000 w
  else if 0x100 ≤ off ∧ off < 0x180 then s.plainWrite a (atLeast1 fPM_BRU_STEP_PERSIST w)
  else if 0x210 ≤ off ∧ off < 0x258 then (if fPM_REF_CNT_CLR.get w = 1 then s.setReg a 0 else s)
  else if off = 0x258 then (if fPM_FORCE_CNT_CLR.get w = 1 then s.setReg a 0 else s)
  else if off = 0x300 then s.pmRanged a fPM_BIST_CFG_BUDGET_W 40 200 w
  else s.plainWrite a w

end Sys2Proof.Machine
end

