-- ==== Sys2Proof/Machine/Start.lean ====
section
/-!
DEFINITION. The start sequence (R401–R409), Tadpole mode (R410–R412), and RESET_N (R454–R456).
-/
namespace Sys2Proof.Machine

/-! ## Firmware images (R404, R405) -/

/-- The image in use: the first valid slot in the order BOOTSEL gives, with its key slot. -/
def State.chooseImage (s : State) (bootsel : Bool) : Option (Nat × Nat) :=
  (if bootsel then [1, 0] else [0, 1]).findSome? (fun k =>
    (s.imgValid (s.slotBase k) (bytesOf (s.flash.dir.getD 0) 16 4)).map (fun key => (k, key)))

/-- A line of a segment stands dirty in its slice, in the lowest free way of its set (R250, R405): `secs` are its sectors that the
segment covers. [DESIGN CHOICE, log entry 119] -/
def State.loadLine (s : State) (line secs : Nat) : State :=
  let c := pcOf (line * 128)
  let x := s.slice c
  if (x.find line).isSome then
    s.modLine c line (fun l => { l with present := Nat.lor l.present secs, dirty := Nat.lor l.dirty secs })
  else
    match (List.range 16).find? (fun w => x.lines.all (fun l => l.set != setOf line || l.way != w)) with
    | some w =>
      (s.modSlice c (fun x => { x with lines :=
        { set := setOf line, way := w, line := line, present := secs, dirty := secs, bad := 0, cls := 0, used := 0 } :: x.lines })).occAdd 0
    | none => s

/-- Sectors of a line that a range of addresses touches. -/
def secsOf (line a n : Nat) : Nat :=
  ((List.range 4).map (fun i => if decide (a < line * 128 + 32 * i + 32) && decide (line * 128 + 32 * i < a + n) then 2 ^ i else 0)).sum

/-- Segments stand in the system cache as dirty lines (R405). -/
def State.loadSegs (s : State) (base h : Nat) : State :=
  ((imgSegs h).filter Seg.loads).foldl (fun x g =>
    (unitsOf 128 g.load g.len).foldl (fun y l => y.loadLine l (secsOf l g.load g.len))
      (x.memWrite g.load (s.flashRead (base + g.off) g.len))) s

/-- Island images reach the TCM of the islands that are there (R406). -/
def State.deliverIslands (s : State) (base h : Nat) : State := s.deliverTo base h (fun _ => true)

/-! ## Connections (R289–R291, Table 19.3 step 5) -/

/-- What the lane tests of a connection sample. -/
def connLanes (l : List (Nat × LaneRun)) (n : Nat) : List LaneRun := (l.filter (fun x => x.1 == n)).map (·.2)

/-- A connection takes the maps both sides agree on. -/
def State.startMaps (s : State) (n : Nat) (l : List LaneRun) : State :=
  ((skAll n).foldl (fun x i =>
    let b := s.laneMaps n i (runOf l i)
    let m := Nat.land b.1 b.2.1
    let w := skWidth n m b.2.2
    (x.setMap n i m w).modBundle n i (fun y => { y with rx := b.1, tx := b.2.1, clock := b.2.2, live := w != 0 })) s).showConn n

/-- A die that fails its lane test is ABSENT from the start, and the event is journalled. [DEDUCED, log entry 86] -/
def State.startAbsent (s : State) (n d : Nat) : State :=
  let j := s.rf rSK_QLOG_HEAD fSK_QLOG_HEAD_NEXT
  let s1 := ((s.setConnState n skQUAR).wf (rSK_CONN_STATUS n) fSK_CONN_STATUS_LAST_CAUSE causeAGREE).setDieState d 3
  let s2 := (s1.modConn n (fun c => { c with bundles := c.bundles.map (fun b => { b with live := false }) })).showConn n
  let s3 := s2.skLog n causeAGREE d evREJOINFAIL
  s3.hubAppend jnFAULT 2 (leBytes 8 (s3.reg (rSK_QLOG_TIME j)).toNat ++ leBytes 8 (s3.reg (rSK_QLOG_INFO j)).toNat)

/-- A die whose connection to HUB is agreed at a start is PRESENT, and HUB loads its DTIME copy (R18). -/
def State.dieStarts (s : State) (d : Nat) : State :=
  ((s.diePresentNow d).loadCopy d).modSk (fun k => { k with loaded := setAt k.loaded d true })

/-- One connection at a start. -/
def State.startConn (s : State) (l : List (Nat × LaneRun)) (n : Nat) : State :=
  match skDie n with
  | some d =>
    let s1 := s.startMaps n (connLanes l n)
    if s1.tooFew n then s1.startAbsent n d else (s1.setConnState n skUP).dieStarts d
  | none =>
    if s.diePresent (skEnds n).1 && s.diePresent (skEnds n).2 then
      let s1 := s.startMaps n (connLanes l n)
      if s1.tooFew n then (s1.setConnState n skAGREE).connQuarantine n causeAGREE (skLogDie n) else s1.setConnState n skUP
    else s

/-- Every connection, those of HUB first. [DEDUCED, log entry 86] -/
def State.startConns (s : State) (l : List (Nat × LaneRun)) : State :=
  [0, 1, 2, 3, 8, 9, 4, 5, 6, 7].foldl (fun x n => (x.modConn n (fun c => { c with epoch := s.dtime, heard := s.dtime })).startConn l n) s

/-! ## Stacks (R407) -/

/-- A pseudo-channel at step 6: ONLINE with the record of its band, or left FENCED. -/
def State.startMc (s : State) (recs : List JRec) (c : Nat) : State :=
  let s1 := s.mcTemp c (s.bandTemp (c / 32))
  let b := s1.rf (rMC_STATUS c) fMC_STATUS_BAND_SEEN
  match s.startDelay recs c b with
  | some d =>
    ((s1.setMcState c mcONLINE).loadBand c b).modMc c (fun m => { m with delay := d, refAt := s.fabNs })
  | none => ((s1.setMcState c mcFENCED).loseStack c).hubAppend jnFAULT 4 (leBytes 8 (s1.reg (rMC_STATUS c)).toNat)

/-- The journal gets the fused records of a stack in a band it has none of. -/
def State.addDelay (s : State) (recs : List JRec) (k : Nat) : State :=
  let rs := (List.range 32).map (fun i => s.fusedDelay (k / 5 * 32 + i) (k % 5))
  if recs.any (fun r => r.type == jnDELAY && r.key == k) then s
  else s.hubAppend jnDELAY k (rs.flatMap (leBytes 64))

/-- Step 6: the stacks run, and the slices write their dirty lines back; those of a FENCED pseudo-channel are discarded and counted
(R405, R261). -/
def State.startStacks (s : State) (recs : List JRec) : State :=
  let s1 := (List.range 64).foldl (fun x c => (x.startMc recs c).cleanSlice false c) s
  (List.range 10).foldl (fun x k => x.addDelay recs k) s1

/-! ## The quick-start decision (R408) -/

/-- BOOT_CNT of a BOOT or SHUTDOWN record. -/
def JRec.bootCnt (r : JRec) : Nat := bytesOf (leNat r.data) 0 4

/-- BOOT_CNT of the start. -/
def nextBoot (recs : List JRec) : Nat := ((newestOf recs jnBOOT).map (fun r => r.bootCnt + 1)).getD 1

def State.quickStart (s : State) (recs : List JRec) : Bool :=
  s.flash.dir.isSome && !s.flag rJN_STATUS fJN_STATUS_EMPTY && !s.flag rJN_STATUS fJN_STATUS_FOREIGN
  && match newestOf recs jnSHUTDOWN, newestOf recs jnBOOT with
     | some x, some b => bytesOf (leNat x.data) 4 1 == 1 && bytesOf (leNat x.data) 5 1 == 0 && x.bootCnt == b.bootCnt
     | _, _ => false

/-! ## Records of the start -/

/-- The BOOT record. [DESIGN CHOICE, log entry 88] -/
def State.bootRec (s : State) : State :=
  let b := rJN_BOOT
  s.hubAppend jnBOOT 0
    (leBytes 4 (s.rf b fJN_BOOT_BOOT_CNT) ++ leBytes 1 (s.rf b fJN_BOOT_SLOT) ++ leBytes 1 (s.rf b fJN_BOOT_SVN)
      ++ leBytes 1 (s.rf b fJN_BOOT_STRAPS) ++ leBytes 1 (s.rf b fJN_BOOT_RESET_CAUSE) ++ leBytes 1 (s.rf b fJN_BOOT_QUICK)
      ++ leBytes 1 (s.rf b fJN_BOOT_TADPOLE_WHY) ++ leBytes 1 (s.rf rTH_STATUS fTH_STATUS_THERM_OFF))

/-- Records that fit in the replay buffer. -/
def fitting : Nat → List JRec → List JRec
  | _, [] => []
  | room, r :: t => if r.size ≤ room then r :: fitting (room - r.size) t else []

/-- The kept state of the journal goes to REPLAY_ADDR (R420). -/
def State.writeReplay (s : State) (recs : List JRec) (a : Nat) : State :=
  let bs := (fitting (2 ^ 20) (keptRecs recs)).flatMap JRec.image
  ((s.memWrite a bs).setReg rJN_REPLAY (BitVec.ofNat 64 (a / 64 * 64))).wf rJN_REPLAY_LEN fJN_REPLAY_LEN_LEN bs.length

/-! ## Tadpole mode (R410–R412) -/

/-- The sensor hub's header as the ROM sets it. -/
def tadHdr : Nat :=
  1 + 1 * 2 ^ 32 + 1 * 2 ^ 40 + 1 * 2 ^ 56 + 50000 * 2 ^ 64 + 5000 * 2 ^ 96 + 0xFFFF * 2 ^ 1024 + 1000 * 2 ^ 1056

/-- An island that runs on from before is not READY in Tadpole mode (Table 15.2, R331). -/
def State.tadIslands (s : State) : State :=
  (List.range 2).foldl (fun x i =>
    if (x.isle i).state = isREADY then (x.islSilence i).modIsle i (fun y => { y with state := isNOTREADY }) else x) s

/-- The ROM starts the sensor hub. -/
def State.tadStartHub (s : State) (nvme : Option Nat) : State :=
  (s.tadIslands.modSh (fun h => { h with tad := { on := true, nvme := nvme } })).shStart { hdr := tadHdr } []

/-! ## The start (R403) -/

/-- Straps as JN_BOOT shows them. -/
def bootStraps (b : BootIn) : Nat := b.chid % 16 * 8 + bit b.tadpole * 4 + bit b.bootsel * 2 + bit b.xspi1s

/-- Steps 1 to 3: the straps and the cause are latched, PGOOD rises, and the journal is replayed. -/
def State.startRom (s : State) : State :=
  let s0 := s.mainRailsOff s.aon.cause
  let st := s0.aon.straps
  let dir := s0.readDir
  let s1 := (s0.modAon (fun a => { a with low := false, off := false, wait := false, pgood := true, cause := 1 })).modFlash
    (fun f => { f with dir := dir, octal := dir.any (fun d => bytesOf d 6 1 == 1) && !st.testBit 0 })
  let s2 := (s1.wf rCH_STATUS fCH_STATUS_SELF_ID (st / 8)).wf rJN_BOOT fJN_BOOT_STRAPS st
  ((s2.wf rJN_BOOT fJN_BOOT_RESET_CAUSE s.aon.cause).wf rJN_BOOT fJN_BOOT_SLOT 3).jnReplay

/-- Why the part enters Tadpole mode: 0 where it does not (R410). [DESIGN CHOICE, log entry 87] -/
def State.tadWhy (s : State) (img : Option (Nat × Nat)) : Nat :=
  if s.aon.straps.testBit 2 then 1 else if s.flash.dir.isNone then 2 else if img.isNone then 3 else 0

/-- Step 4: the image is loaded, and named in JN_BOOT. -/
def State.startImage (s : State) (k key : Nat) : State :=
  let base := s.slotBase k
  let h := s.imgHdr base
  let s1 := (s.loadSegs base h).modFlash (fun f => { f with signer := some key })
  (s1.wf rJN_BOOT fJN_BOOT_SLOT k).wf rJN_BOOT fJN_BOOT_SVN (imgSvn h)

/-- Step 6a, or its omission (R408, R409). -/
def State.startTests (s : State) (quick : Bool) (b : BootIn) : State :=
  if quick then (s.setFlag rJN_BOOT fJN_BOOT_QUICK).setFlag rPM_BIST_STAT fPM_BIST_STAT_QUICK
  else (s.bistStat 1 b.fails b.hbm b.us).bistApply b.fails b.hbm

/-- HBM at a start (R467): nothing has written it; after step 6a it holds what the test wrote, and never poison where the
test passed. [DESIGN CHOICE, log entry 2] -/
def State.darkHbm (s : State) (tested : Bool) : State :=
  (s.modMem (fun m => { m with wild := [(0, s.hbmBytes, s.free)], dark := if tested then [] else [s.free] })).tick

/-- Hart 0 is released at the image's ENTRY. [DEDUCED, log entry 86] -/
def State.releaseHarts (s : State) (entry : Nat) : State :=
  s.modHarts (fun l => modAt l 0 (fun h => { h with released := true, start := entry }))

/-- The whole start, with the straps already latched. [DEDUCED, log entry 84] -/
def State.startPart (s : State) (b : BootIn) : State :=
  let s1 := s.startRom
  let recs := s1.jnRecs
  let img := s1.chooseImage (s1.aon.straps.testBit 1)
  let why := s1.tadWhy img
  let quick := s1.quickStart recs && decide (why = 0)
  let s1 := s1.darkHbm (decide (why = 0) && !quick)
  let s2 := match img with
    | some (k, key) => if why = 0 then s1.startImage k key else s1
    | none => s1
  let s3 := (s2.startConns b.lanes).startStacks recs
  let s4 := (if why = 0 then s3.startTests quick b else s3).islandsStart
  let s5 := (s4.wf rJN_BOOT fJN_BOOT_TADPOLE_WHY why).wf rJN_BOOT fJN_BOOT_BOOT_CNT (nextBoot recs)
  match img with
  | some (k, _) =>
    if why = 0 then
      let h := s5.imgHdr (s5.slotBase k)
      (((s5.deliverIslands (s5.slotBase k) h).bootRec).writeReplay recs (imgReplay h)).releaseHarts (imgEntry h)
    else s5.bootRec.tadStartHub b.nvme
  | none => s5.bootRec.tadStartHub b.nvme

/-- RESET_N_RISE (R403, R454): the straps are latched; the start waits for VIN_MAIN where it is
outside its window. [DEDUCED, log entry 84] -/
def execResetNRise (boot : BootIn) (s : State) : Res State :=
  .next <|
    if s.aon.low then
      let s1 := s.modAon (fun a => { a with low := false, straps := bootStraps boot })
      if boot.vin then s1.startPart boot else s1.modAon (fun a => { a with off := true, wait := true })
    else s

/-- VIN_MAIN_IN_WINDOW (R454): step 2 of a start that waits proceeds. [DEDUCED, log entry 84] -/
def execVinMainInWindow (boot : BootIn) (s : State) : Res State :=
  .next <| if s.aon.wait then s.startPart boot else s

/-- RESET_N_ASSERT (R454, R456): a pulse of 10 µs or more wins over everything. [DEDUCED, log entry 84] -/
def execResetNAssert (us : Nat) (s : State) : Res State :=
  .next <|
    if 10 ≤ us then
      (s.mainRailsOff s.aon.cause).modAon (fun a => { a with low := true })
    else s

/-! ## Tadpole recording and telemetry -/

/-- A second has passed since an earlier event. -/
def State.secondSince (s : State) (t : Option Nat) : Bool :=
  match t with
  | some t => decide (t + 1000000000 ≤ s.dtime)
  | none => true

/-- The session header. [DESIGN CHOICE, log entry 87] -/
def State.sessionHdr (s : State) : List Byte :=
  let t := s.sh.tad
  let h := leBytes 4 0x54564450 ++ leBytes 4 (s.rf rJN_BOOT fJN_BOOT_BOOT_CNT) ++ leBytes 8 s.fuses.uid ++ leBytes 8 t.off
    ++ leBytes 8 t.lap ++ leBytes 8 (t.seq + 2 ^ 64 - 1) ++ leBytes 20 0
  h ++ leBytes 4 (crc32c h)

/-- TADPOLE_SESSION_HEADER (R411): at bytes 0 and 4,096 in turn. -/
def execTadpoleSessionHeader (s : State) : Res State :=
  let t := s.sh.tad
  .next <|
    if t.on ∧ t.nvme.isSome ∧ s.secondSince t.lastHdr then
      (s.emit (.nvme (t.hdrs % 2 * 4096) s.sessionHdr)).modSh (fun h =>
        { h with tad := { h.tad with hdrs := t.hdrs + 1, lastHdr := some s.dtime } })
    else s

/-- ASCII bytes of a text. -/
def ascii (t : String) : List Byte := t.toList.map (fun c => BitVec.ofNat 8 c.toNat)

/-- Decimal digits of a number; `n` bounds their count. -/
def decDigits : Nat → Nat → List Byte → List Byte
  | 0, _, acc => acc
  | n + 1, v, acc =>
    let d := BitVec.ofNat 8 (48 + v % 10)
    if v / 10 = 0 then d :: acc else decDigits n (v / 10) (d :: acc)

def decNat (v : Nat) : List Byte := decDigits 20 v []
def decInt (v : Int) : List Byte := if v < 0 then ascii "-" ++ decNat v.natAbs else decNat v.toNat
def decOpt : Option Int → List Byte
  | some v => decInt v
  | none => ascii "FAIL"

/-- One key=value pair of the telemetry line. [DESIGN CHOICE, log entry 87] -/
def telPair (k : String) (v : List Byte) : List Byte := ascii k ++ ascii "=" ++ v ++ ascii " "

/-- The sum of a counter over the sensors. -/
def State.sensSum (s : State) (f : Fld) : Nat := ((List.range 64).map (fun n => s.rf (rSH_SENS_CNT n) f)).sum

/-- The telemetry line (R412); `vin` are VIN_MAIN, VIN_AON, VIN_SIA and VIN_SIB in mV. [DESIGN CHOICE, log entry 87] -/
def State.telemetry (s : State) (vin : List Nat) : List Byte :=
  telPair "DTIME" (decNat s.dtime) ++ telPair "TIME_SRC" (decNat (s.rf rIO_TIME_STAT fIO_TIME_STAT_SOURCE))
  ++ telPair "T_CD0" (decOpt (s.dieReading 0)) ++ telPair "T_CD1" (decOpt (s.dieReading 1)) ++ telPair "T_CD2" (decOpt (s.dieReading 2))
  ++ telPair "T_CD3" (decOpt (s.dieReading 3)) ++ telPair "T_HUB" (decOpt (s.dieReading 4)) ++ telPair "T_SIA" (decOpt (s.dieReading 5))
  ++ telPair "T_SIB" (decOpt (s.dieReading 6)) ++ telPair "T_MS0" (decOpt (s.dieReading 7)) ++ telPair "T_MS1" (decOpt (s.dieReading 8))
  ++ telPair "INLET_A" (decOpt (s.coolTemp 0)) ++ telPair "INLET_B" (decOpt (s.coolTemp 1)) ++ telPair "FLOW" (decNat s.flowLevel)
  ++ telPair "VIN_MAIN" (decNat (vin.getD 0 0)) ++ telPair "VIN_AON" (decNat (vin.getD 1 0)) ++ telPair "VIN_SIA" (decNat (vin.getD 2 0))
  ++ telPair "VIN_SIB" (decNat (vin.getD 3 0)) ++ telPair "ERR" (decNat (s.sensSum fSH_SENS_CNT_ERR_CNT))
  ++ telPair "MISS" (decNat (s.sensSum fSH_SENS_CNT_MISS_CNT)) ++ telPair "LATE" (decNat (s.sensSum fSH_SENS_CNT_LATE_CNT))
  ++ telPair "BYTES" (decNat s.sh.tad.bytes) ++ ascii "NVME=" ++ decNat (bit s.sh.tad.nvme.isSome) ++ [13, 10]

/-- The source address 169.254.x.y of the telemetry. -/
def State.telAddr (s : State) : Nat :=
  169 * 2 ^ 24 + 254 * 2 ^ 16 + (1 + s.fuses.uid % 254) * 256 + (1 + s.fuses.uid / 256 % 254)

/-- TADPOLE_TELEMETRY (R412). -/
def execTadpoleTelemetry (vin : List Nat) (s : State) : Res State :=
  .next <|
    if s.sh.tad.on ∧ s.secondSince s.sh.tad.lastTel then
      let l := s.telemetry vin
      ((s.emit (.uart 0 l)).emit (.udp 0 s.telAddr 48879 l)).modSh (fun h => { h with tad := { h.tad with lastTel := some s.dtime } })
    else s

end Sys2Proof.Machine
end

