-- ==== Sys2Proof/Machine/Access.lean ====
section
/-!
DEFINITION. Register accesses (R3–R7, R433), global counters (R432), the loads and stores of the
application cores and of system-bus debug access (R9, R435), inbound requests (R311), and outbound reads of
PCIe memory space (R444).
-/
namespace Sys2Proof.Machine

/-! ## Register writes -/

/-- A counter register with CLR in bit 0: every field goes to 0 (R433). -/
def State.clrWrite (s : State) (a : Addr) (w : Word) : State := if w.toNat % 2 = 1 then s.setReg a 0 else s

/-- Every accounting field and bin of a context (Table 8.5). -/
def State.accClear (s : State) (c : Nat) : State :=
  ((List.range 4).map (fun k => rHUB_CTX_WAIT_SUM c + 8 * k) ++ (List.range 32).map (fun k => rHUB_CTX_WAIT_SUM c + 0x80 + 8 * k)).foldl
    (fun x a => x.setReg a 0) s

/-- A write of a HUB_CTX_ window. -/
def State.ctxWrite (s : State) (c off : Nat) (w : Word) : State :=
  let a := ctxBase c + off
  if off = 0x18 then s.plainWrite a w
  else if off = 0x100 ∨ off = 0x30 then s.clrWrite a w
  else if off = 0x220 then (if w.toNat % 2 = 1 then s.accClear c else s)
  else s.ctxConfig c off w

/-- A write of HUB_TEST_BASE (R364). [DEDUCED, log entry 16] -/
def State.testBaseWrite (s : State) (w : Word) : State :=
  if s.flag rHUB_TEST_CFG fHUB_TEST_CFG_ENABLE then
    (if fHUB_TEST_BASE_ADDR.get w = s.rf rHUB_TEST_BASE fHUB_TEST_BASE_ADDR then s
     else s.setFlag rHUB_TEST_CFG fHUB_TEST_CFG_CFG_REJ)
  else s.plainWrite rHUB_TEST_BASE w

/-- PM is no longer raised to every hart once its status bit is cleared (R179). -/
def State.pmAllFalls (s : State) : State := s.modPw (fun p => { p with pmAll := p.pmAll && s.flag rHUB_IRQ_STATUS { hi := irqPM, lo := irqPM } })

/-- A write of the HUB window. -/
def State.hubWindow (s : State) (off : Nat) (w : Word) : State :=
  let a := rHUB_ID + off
  if 0x2000 ≤ off ∧ off < 0x2200 then s.slotCfgWrite ((off - 0x2000) / 8) w
  else if off = 0x400 then (if fHUB_KV_SCORE_STAT_CLR.get w = 1 then s.wf rHUB_KV_SCORE_STAT fHUB_KV_SCORE_STAT_REFUSE_CNT 0 else s)
  else if off = 0x100 then (s.plainWrite a w).pmAllFalls
  else if off = 0x3000 then s.testCfgWrite w
  else if off = 0x3008 then s.testBaseWrite w
  else if off = 0x3040 then (if fHUB_TEST_RETEST_GO.get w = 1 then s.retest (fHUB_TEST_RETEST_ENGINE.get w) else s)
  else if off = 0x3200 ∨ off = 0x3208 then s.clrWrite a w
  else s.plainWrite a w

/-- A write of a compute die's blocks: TILE_, GE_, DE_ and CD_ hold settings and counters only. -/
def State.dieWindow (s : State) (a off : Nat) (w : Word) : State :=
  if globalCounter a then s.clrWrite a w
  else if off = 0x100 then s.plainWrite a w
  else s

/-- A write of a path checker's window; the plan registers stand in that of PC0. -/
def State.pcWindow (s : State) (a off : Nat) (w : Word) : State :=
  if a / 0x10000 = 0x140100 ∧ 0x1000 ≤ off then (if off = 0x1000 then s.planCfgWrite w else s.planRegWrite a w)
  else if globalCounter a then s.clrWrite a w
  else s

/-- A write of a controller's window. -/
def State.mcWindow (s : State) (c off : Nat) (w : Word) : State :=
  let a := rMC_STATUS c + off
  if off = 8 then s.mcCfgWrite c w
  else if off = 0x10 then s.mcDlyWrite c w
  else if 0x18 ≤ off ∧ off < 0x50 then s.mcShadowWrite c a w
  else if 0x200 ≤ off ∧ off < 0x220 then s.clrWrite a w
  else s.plainWrite a w

/-- A write of the SC_ window. -/
def State.scWindow (s : State) (off : Nat) (w : Word) : State :=
  if off = 0 then s.scMaintWrite (fSC_MAINT_CMD.get w)
  else if off = 0x200 then s.clrWrite rSC_ECC_CNT w
  else s.plainWrite (rSC_MAINT + off) w

/-- A write of the SH_ window. -/
def State.shWindow (s : State) (off : Nat) (w : Word) : State :=
  if off = 0 then s.shCfgWrite w
  else if off = 0x18 then s.shFreeWrite w
  else if off = 0x20 then s.shEvtWrite w
  else if off = 0x28 then s.shCalStatWrite w
  else if off = 0x30 then s.shSavedWrite w
  else if off = 0x40 then s.shLimWrite w
  else if 0x800 ≤ off ∧ off < 0xA00 then s.shCntWrite ((off - 0x800) / 8) w
  else s.plainWrite (rSH_CFG + off) w

/-- A write of the TH_ window. -/
def State.thWindow (s : State) (off : Nat) (w : Word) : State :=
  let a := rTH_CFG + off
  if off = 0 then s.thCfgWrite w
  else if off = 0x20 then s.thFlowWrite w
  else if off = 0x28 then s.thRjcWrite w
  else if off = 0x30 then s.thHeadWrite w
  else if off = 0x38 then s.thClampWrite w
  else if off = 0x40 then s.thBaskWrite w
  else if 0x500 ≤ off ∧ off < 0x518 then s.clrWrite a w
  else if 0x600 ≤ off ∧ off < 0x650 then
    (match regAt a with
     | some (r, _, _) =>
       s.wearWrite a w (r.fields.foldl (fun m f => ({ hi := f.hi, lo := f.lo } : Fld).set m (2 ^ (f.hi + 1 - f.lo) - 1)) 0)
     | none => s)
  else s.plainWrite a w

/-- A write of the IO_ window. -/
def State.ioWindow (s : State) (off : Nat) (w : Word) : State :=
  let a := rIO_TIME_CFG + off
  if off = 0 then s.timeCfgWrite w
  else if off = 0x10 ∨ off = 0x18 ∨ (0x300 ≤ off ∧ off < 0x320) then s.clrWrite a w
  else if off = 0x20 then s.timeSetWrite w
  else if off = 0x100 then s.camPhyWrite w
  else if off = 0x400 then s.xspiWrite w
  else s.plainWrite a w

/-- A write of a doorbell page (Table 7.2). -/
def State.doorbellPage (s : State) (c off : Nat) (w : Word) : State :=
  if off = 0 then s.doorbell c (w.toNat % 2 ^ 32)
  else if off = 8 then s.cqHeadWrite c (w.toNat % 2 ^ 32)
  else s

/-- A 64-bit write of the register at an 8-byte aligned address (R6), by the block whose window it lies in
(Table 7.1). The result-slot store is read only. [DEDUCED, log entry 10] -/
def State.regWrite (s : State) (p : Port) (a : Addr) (v : Word) : State :=
  let n := a / 0x10000
  let off := a % 0x10000
  if n < 0x140100 then
    (if 0x1400C0 ≤ n then s.mcWindow (n - 0x1400C0) off v else s.dieWindow a off v)
  else if n < 0x140110 then s.pcWindow a off v
  else if n < 0x140120 then s.skWrite (n - 0x140110) off v
  else if n < 0x140130 then s.dlWrite (n - 0x140120) off v
  else if n = 0x140130 then s.hubWindow off v
  else if n = 0x140131 then s.scWindow off v
  else if n = 0x140132 then s.qosWrite off v
  else if n = 0x140133 then s.shWindow off v
  else if n = 0x140134 then s.chWrite off v
  else if n = 0x140135 then s.pmWrite off v
  else if n = 0x140136 then s.thWindow off v
  else if n = 0x140137 then s.jnWrite off v
  else if n = 0x140138 then s.trWrite p off v
  else if n = 0x140139 then s.ioWindow off v
  else if n = 0x14013A then s
  else if n < 0x140142 then s.siWrite (n - 0x140140) off v
  else if n < 0x140240 then s.ctxWrite (n - 0x140200) off v
  else s.doorbellPage ((a - 0x1800000000) / 4096) (a % 4096) v

/-- The low half that leaves a register's low half as it stands: its RW bits as they are, no W1C bit and no
WO field (R4). [DESIGN CHOICE, log entry 11] -/
def State.neutralLow (s : State) (a : Addr) : Nat :=
  if rTR_AUTH_KEY 0 ≤ a ∧ a < rTR_AUTH_KEY 12 then ((s.dbg.key[(a - rTR_AUTH_KEY 0) / 8]?).getD 0).toNat % 2 ^ 32
  else if rTR_AUTH_SIG 0 ≤ a ∧ a < rTR_AUTH_SIG 12 then ((s.dbg.sig[(a - rTR_AUTH_SIG 0) / 8]?).getD 0).toNat % 2 ^ 32
  else
    match regAt a with
    | some (r, _, _) =>
      (r.fields.foldl (fun (m : Word) f =>
        if f.acc = .rw then ({ hi := f.hi, lo := f.lo } : Fld).set m (({ hi := f.hi, lo := f.lo } : Fld).get (s.reg a)) else m) 0).toNat % 2 ^ 32
    | none => 0

/-- A low half staged by a port for a register (R4). -/
def State.stagedLow (s : State) (p : Port) (a : Addr) : Option Nat :=
  (s.bus.staged.find? (fun x => x.port == masterPort p && x.addr == a)).map Staged.low

def State.unstage (s : State) (p : Port) : State :=
  s.modBus (fun b => { b with staged := b.staged.filter (fun x => x.port != masterPort p) })

/-- A doorbell page, whose words have no bits 63:32, or the debug-module window. -/
def lowOnly (a : Addr) : Bool := decide (0x1800000000 ≤ a) || decide (rTR_CFG + dmOffset ≤ a ∧ a < rTR_CFG + 0x10000)

/-- The register has a field above bit 31: a write of its high half alone changes nothing else (R4, R7). -/
def highHalf (a : Addr) : Bool :=
  match regAt a with
  | some (r, _, _) => r.fields.any (fun f => decide (32 ≤ f.hi))
  | none => false

/-- A 32-bit write of a high half: with a staged low half both are written, else the high half only (R4); the rule of LOG2 of
TR_STREAM_BASE is then not met, since LOG2 is not written. [DESIGN CHOICE, log entry 11] -/
def State.highWrite (s : State) (p : Port) (a : Addr) (v : Nat) : State :=
  match s.stagedLow p a with
  | some l => (s.unstage p).regWrite p a (BitVec.ofNat 64 (v % 2 ^ 32 * 2 ^ 32 + l))
  | none =>
    let w := BitVec.ofNat 64 (v % 2 ^ 32 * 2 ^ 32 + s.neutralLow a)
    if lowOnly a || !highHalf a then s else if a = rTR_STREAM_BASE then s.plainWrite a w else s.regWrite p a w

/-- A 32-bit write of a low half is staged; SQ_TAIL and CQ_HEAD take it at once (R4, R153). -/
def State.lowWrite (s : State) (p : Port) (a : Addr) (v : Nat) : State :=
  if 0x1800000000 ≤ a then s.regWrite p a (BitVec.ofNat 64 (v % 2 ^ 32))
  else (s.unstage p).modBus (fun b => { b with staged := { port := masterPort p, addr := a, low := v % 2 ^ 32 } :: b.staged })

/-- Width and alignment of a legal register access (R3). -/
def legalAccess (a size : Nat) : Bool := (size == 4 && a % 4 == 0) || (size == 8 && a % 8 == 0)

/-- The register range (R9). -/
def regRange (a : Addr) : Bool := decide (0x1400000000 ≤ a ∧ a < 0x1800040000)

/-- REGISTER_WRITE (R3, R4, R6): a 64-bit write discards a half its port has staged, for this register too. [DEDUCED, log entry 12] -/
def execRegisterWrite (port : Port) (addr : Nat) (data : RegData) (s : State) : Res State :=
  .next <|
    if addr % 8 ≠ 0 then s.answered port (portFail port)
    else
      s.access port addr (fun s =>
        match data with
        | .full v => (s.unstage port).regWrite port addr v
        | .high v => s.highWrite port addr v)

/-- LOW_HALF_WRITE (R4). -/
def execLowHalfWrite (port : Port) (addr half : Nat) (s : State) : Res State :=
  .next <|
    if addr % 8 ≠ 0 then s.answered port (portFail port) else s.access port addr (fun s => s.lowWrite port addr half)

/-- ILLEGAL_REGISTER_ACCESS (R3): not performed. [DEDUCED, log entry 12] -/
def execIllegalRegisterAccess (port : Port) (addr size : Nat) (s : State) : Res State :=
  .next <| if regRange addr ∧ legalAccess addr size = false then s.answered port (portFail port) else s

/-! ## Counters -/

/-- The per-context counter registers of R432. -/
def ctxCounter (a : Addr) : Bool :=
  decide (rHUB_CTX_CFG 0 ≤ a ∧ a < rHUB_CTX_CFG 64) && (a % 0x10000 == 0x100 || a % 0x10000 == 0x30 || a % 0x10000 == 0x220)

/-- The word that writes 1 to CLR and 0 elsewhere. [DEDUCED, log entry 13] -/
def clrWord (a : Addr) : Word := if a = rQOS_OCC_STAT then 0x10000 else 1

/-- COUNTER_CLR (R433). -/
def execCounterClr (port : Port) (addr : Nat) (s : State) : Res State :=
  .next <|
    if globalCounter addr || ctxCounter addr then s.access port addr (fun s => s.regWrite port addr (clrWord addr)) else s

/-! ## Register reads -/

/-- HUB_ID with what is fused (Table 22.10). -/
def State.hubIdWord (s : State) : Word :=
  let f := s.fuses
  fHUB_ID_VARIANT.set
    (fHUB_ID_HBM_GIB.set (fHUB_ID_REV_MINOR.set (fHUB_ID_REV_MAJOR.set (s.reg rHUB_ID) f.revMajor) f.revMinor) f.hbmGib) f.variant

/-- The register a word of a doorbell page mirrors (Table 7.2). -/
def State.pageRead (s : State) (c off : Nat) : Word :=
  if off = 0 then s.reg (rDB_SQ_TAIL c)
  else if off = 8 then s.reg (rDB_CQ_HEAD c)
  else if off = 0x10 then s.reg (rHUB_CTX_PTRS c)
  else if off = 0x18 then s.reg (rHUB_CTX_STATUS c)
  else if off = 0x100 then s.reg (rHUB_CTX_CNT c)
  else if 0x200 ≤ off ∧ off < 0x400 then s.reg (ctxBase c + off)
  else 0

/-- The value a 64-bit read of an 8-byte aligned address returns (R6): stored registers, the words that show
other state, and the current buffers of the result-slot store. -/
def State.regRead (s : State) (a : Addr) : Word :=
  if a = rHUB_ID then s.hubIdWord
  else if a = rHUB_UID then BitVec.ofNat 64 s.fuses.uid
  else if a = rPM_STATUS then fPM_STATUS_ISL_VETO.set (s.reg a) (bit (s.vetoes 0) + 2 * bit (s.vetoes 1))
  else if a / 0x10000 = 0x140132 ∧ 0x400 ≤ a % 0x10000 ∧ a % 0x10000 < 0xD00 ∧ a % 32 = 24 then s.tokWord ((a % 0x10000 - 0x400) / 32)
  else if rTR_ENG_CMD 0 ≤ a ∧ a < rTR_ENG_CMD 204 then s.engWord ((a - rTR_ENG_CMD 0) / 32) (a % 32 / 8)
  else if a / 0x10000 = 0x14013A then
    BitVec.ofNat 64 (bytesOf (s.slotRec (a % 0x10000 / 1024)) (a % 1024) 8)
  else if rTR_CFG + dmOffset ≤ a ∧ a < rTR_CFG + 0x10000 then BitVec.ofNat 64 (s.dmRead 0 ((a % 0x10000 - dmOffset) / 8))
  else if 0x1800000000 ≤ a then s.pageRead ((a - 0x1800000000) / 4096) (a % 4096)
  else s.reg a

/-- A read of the slot store meets a slot whose SRAM failed its test (R415). -/
def State.slotBadAt (s : State) (a : Addr) : Bool := a / 0x10000 == 0x14013A && s.hub.slots.bad.contains (a % 0x10000 / 1024)

/-- How poison reaches a requester (R259, R444): a core or a debugger gets a fault, PCIe and a peer get data
marked so. [PRESUMED, log entry 15] -/
def poisonAnswer (p : Port) (bs : List Byte) : Answer :=
  match p with
  | .pcie => .ep bs
  | .peer _ => .ep bs
  | _ => portFail p

/-- A PCIe burst of up to 1,024 bytes within one result slot is one read request (R177). -/
def slotBurst (p : Port) (a n : Nat) : Bool :=
  p == .pcie && a / 0x10000 == 0x14013A && decide (1 ≤ n ∧ a % 1024 + n ≤ 1024)

/-- A legal register read, answered; a burst is served from one buffer of its slot. -/
def State.regReadAt (s : State) (p : Port) (a n : Nat) : State :=
  let bs :=
    if slotBurst p a n then leBytes n (bytesOf (s.slotRec (a % 0x10000 / 1024)) (a % 1024) n)
    else (leBytes 8 (s.regRead (a / 8 * 8)).toNat).drop (a % 8) |>.take n
  s.answered p (if s.slotBadAt a then poisonAnswer p bs else .data bs)

/-- GLOBAL_COUNTER_ACCESS (R432): `data` is absent for a read. -/
def execGlobalCounterAccess (port : Port) (addr : Nat) (data : Option Word) (s : State) : Res State :=
  .next <|
    if globalCounter addr = false then s
    else
      match data with
      | some v => s.access port addr (fun s => s.regWrite port addr v)
      | none =>
        let s1 := (s.dropStaged port addr).wakeFor port addr
        match s1.portRefusal port .rd addr with
        | some x => s1.refuseAccess port x
        | none => s1.regReadAt port addr 8

/-! ## Loads, stores and atomics of a port -/

/-- An access to the register range by loads and stores: 32-bit and 64-bit aligned ones only (R3). -/
def State.portReg (s : State) (p : Port) (a : Addr) : MemReq → State
  | .read n =>
    if legalAccess a n || slotBurst p a n then
      let s1 := (s.dropStaged p (a / 8 * 8)).wakeFor p a
      match (unitsOf 64 a n).findSome? (fun l => s1.portRefusal p .rd (max (a / 8 * 8) (64 * l))) with
      | some x => s1.refuseAccess p x
      | none => s1.regReadAt p a n
    else s.answered p (portFail p)
  | .write bs =>
    if legalAccess a bs.length then
      s.access p (a / 8 * 8) (fun s =>
        if bs.length = 8 then (s.unstage p).regWrite p a (BitVec.ofNat 64 (leNat bs))
        else if a % 8 = 4 then s.highWrite p (a - 4) (leNat bs)
        else s.lowWrite p a (leNat bs))
    else s.answered p (portFail p)
  | .amo _ _ _ => s.answered p (portFail p)

/-- The result of an atomic on a word of `size` bytes. -/
def amoResult (op : Amo) (size old v : Nat) : Nat :=
  let b := 8 * size
  match op with
  | .swap => v % 2 ^ b
  | .add => (old + v) % 2 ^ b
  | .and => Nat.land old (v % 2 ^ b)
  | .or => Nat.lor old (v % 2 ^ b)
  | .xor => Nat.xor old (v % 2 ^ b)
  | .max => if signedOf b old < signedOf b (v % 2 ^ b) then v % 2 ^ b else old
  | .min => if signedOf b (v % 2 ^ b) < signedOf b old then v % 2 ^ b else old
  | .maxu => max old (v % 2 ^ b)
  | .minu => min old (v % 2 ^ b)

/-- An atomic's number on its way to a peer's HUB; 0 to 2 are those of a SIGNAL (Table 7.15). -/
def amoCode : Amo → Nat
  | .swap => 0 | .add => 1 | .maxu => 2 | .minu => 3 | .and => 4 | .or => 5 | .xor => 6 | .max => 7 | .min => 8

def reqLength : MemReq → Nat
  | .read n => n
  | .write bs => bs.length
  | .amo _ n _ => n

def reqWant : MemReq → Want
  | .read _ => .rd
  | .write _ => .wr
  | .amo _ _ _ => .both

/-- An atomic is on a 4- or 8-byte aligned word. -/
def reqPlaced (a : Addr) : MemReq → Bool
  | .amo _ n _ => legalAccess a n
  | _ => true

/-- A request to memory once its checks have passed; `land` is how a write of the requester lands. [PRESUMED, log entry 15; DEDUCED, log entry 18] -/
def State.memDo (s : State) (p : Port) (a : Addr) (land : State → Addr → List Byte → State) : MemReq → State
  | .read n =>
    let bs := s.anyRead a n
    (s.tick.windowEcc .rd a n).answered p (if s.mem.poisoned a n then poisonAnswer p bs else .data bs)
  | .write bs =>
    let s1 := s.windowEcc .wr a bs.length
    if s.windowTorn a bs.length then s1.answered p (poisonAnswer p []) else (land s1 a bs).answered p .done
  | .amo op n v =>
    let old := s.anyRead a n
    match s.zone a with
    | .peer d off => ((s.tick).emit (.peerAtomic d off (amoCode op) n v)).answered p (.data old)
    | _ =>
      let s1 := s.windowEcc .both a n
      if s.mem.poisoned a n then s1.answered p (poisonAnswer p old)
      else (land s1 a (leBytes n (amoResult op n (leNat old) v))).answered p (.data old)

/-- A compute die's memories: an access to them ends IDLE (R377). -/
def State.wakesDie (s : State) (a : Addr) : State :=
  match s.zone a with
  | .dieMem _ => s.idleExit
  | .tileSram _ _ => s.idleExit
  | _ => s

/-- A load, store or atomic of an application core or of the debugger (R9, R10, R55, R293, R315, R378). A
load from PCIe memory space waits for its completion (R444). [DESIGN CHOICE, log entry 17] -/
def State.portAccess (s : State) (p : Port) (a : Addr) (req : MemReq) : State :=
  let s := s.wakesDie a
  if regRange a then s.portReg p a req
  else if !s.hubServes || !(reqPlaced a req) || ((unitsOf 64 a (reqLength req)).any (fun l => (s.lineErr l).isSome)) then
    s.answered p (portFail p)
  else
    match s.zone a, p, req with
    | .peer 15 off, .hart h, .read n =>
      if s.pcieRoot then
        (s.emit (.pcieRead off n)).modReads (fun l => l ++ [{ hart := h, addr := off, len := n, at' := s.dtime }])
      else s.memDo p a State.putBytes req
    | _, _, _ => s.memDo p a State.putBytes req

/-- CORE_MEMORY_ACCESS (R9). -/
def execCoreMemoryAccess (hart addr : Nat) (req : MemReq) (s : State) : Res State :=
  .next <| s.portAccess (.hart hart) addr req

/-- DEBUG_SYSTEM_BUS_ACCESS (R435, R436): at level 2, past every region table; below it what Table 20.9 and
level 1 open in the register range. -/
def execDebugSystemBusAccess (addr : Nat) (req : MemReq) (s : State) : Res State :=
  .next <| if s.dbgLevel < 2 ∧ regRange addr = false then s.answered .debug .busError else s.portAccess .debug addr req

/-! ## Inbound requests (R311, R306, R162) -/

/-- The data of a write arrives poisoned. [DEDUCED, log entry 19] -/
def State.inboundLand (s : State) (coll : Option CollHead) (ep : Bool) (a : Addr) (bs : List Byte) : State :=
  let s1 := s.inboundWrite a bs
  let s2 := if ep then s1.modMem (fun m => m.putPoison a bs.length) else s1
  match coll with
  | some h => s2.noteLanded a bs.length h
  | none => s2

/-- An inbound request to HBM: its lines are checked by the inbound regions, then by what stands there. -/
def State.inboundMem (s : State) (p : Port) (coll : Option CollHead) (ep : Bool) (a : Addr) (req : MemReq) : State :=
  let lines := unitsOf 64 a (reqLength req)
  let s := s.idleExit
  if lines.any (fun l => !(s.inboundOk p (reqWant req) l)) then
    (s.bump rCH_ACC_CNT fCH_ACC_CNT_INRGN_CNT 1).answered p (inboundFail p)
  else if !(reqPlaced a req) || lines.any (fun l => (s.lineErr l).isSome) then s.answered p (inboundFail p)
  else s.memDo p a (fun x b bs => x.inboundLand coll ep b bs) req

/-- PCIE_INBOUND_REQUEST (R306, R311): the BARs reach the register windows, the doorbell pages and HBM. [DEDUCED, log entry 19] -/
def execPcieInboundRequest (addr : Nat) (req : MemReq) (ep : Bool) (s : State) : Res State :=
  .next <|
    if !(s.inboundFrom .pcie) then s
    else if regRange addr then s.idleExit.portReg .pcie addr req
    else if addr < 0x1000000000 then s.inboundMem .pcie none ep addr req
    else s.idleExit.answered .pcie .unsupportedRequest

/-- PEER_INBOUND_REQUEST (R10, R311, R319): `addr` is the offset in this part's window, an address of its
HBM. [DEDUCED, log entry 19] -/
def execPeerInboundRequest (src addr : Nat) (req : MemReq) (mark : PeerMark) (s : State) : Res State :=
  .next <|
    if !(s.inboundFrom (.peer src)) then s.inboundForeign (.peer src)
    else if s.hbmBytes ≤ addr then s.idleExit.answered (.peer src) (inboundFail (.peer src))
    else s.inboundMem (.peer src) mark.coll mark.ep addr req

/-- TAIL_MIRROR_WRITE (R162, R311): an inbound 8-byte write to the mirror word of a context, performed as any other. -/
def execTailMirrorWrite (port : Port) (ctx val : Nat) (s : State) : Res State :=
  .next <|
    if !(s.inboundFrom port) then s.inboundForeign port
    else if ctx < 64 ∧ s.flag (rHUB_CTX_TAIL_MIRROR ctx) fHUB_CTX_TAIL_MIRROR_EN
      ∧ s.mirrorAddr ctx < s.hbmBytes then
      s.inboundMem port none false (s.mirrorAddr ctx) (.write (leBytes 8 val))
    else s

/-! ## PCIe completions (R444) -/

/-- Ten milliseconds have passed since a read was sent. -/
def State.readLate (s : State) (r : PcieRead) : Bool := decide (r.at' + 10000000 < s.dtime)

/-- The oldest outstanding read of a hart leaves the list. -/
def dropRead (h : Nat) : List PcieRead → List PcieRead
  | [] => []
  | r :: t => if r.hart = h then t else r :: dropRead h t

/-- PCIE_COMPLETION (R444): the completion of a hart's oldest outstanding read; a late one is discarded, and
a poisoned one is a fault at the hart. -/
def execPcieCompletion (hart : Nat) (data : List Byte) (ep : Bool) (s : State) : Res State :=
  .next <|
    match s.pcieReads.find? (fun r => r.hart == hart) with
    | some r =>
      if s.readLate r then s
      else (s.modReads (dropRead hart)).answered (.hart hart) (if ep then .accessFault else .data (data.take r.len))
    | none => s

/-- PCIE_COMPLETION_TIMEOUT (R444): an outbound read of an engine or a hart has waited 10 ms. -/
def execPcieCompletionTimeout (req : PeerReq) (s : State) : Res State :=
  .next <|
    match req with
    | .hart h =>
      (match s.pcieReads.find? (fun r => r.hart == h) with
       | some r =>
         if s.readLate r then (s.modReads (dropRead h)).reqLinkDown (.hart h) else s
       | none => s)
    | r => if s.pcieRoot ∧ s.reqOpen r then s.reqLinkDown r else s

end Sys2Proof.Machine
end

