-- ==== Sys2Proof/Machine/Grant.lean ====
section
/-!
DEFINITION. Granting a free unit (R180–R182, R188, R359): work first, then test slices, then Basking.
-/
namespace Sys2Proof.Machine

/-- A dealt candidate that its path checker has still to check (R231). -/
def State.candWaits (s : State) (e : Nat) : Bool :=
  match s.plan.plan with
  | some p => p.cands.any (fun c => c.owner == some e && c.outcome.isNone && !(p.checks.any (fun k => k.cand == c.idx)))
  | none => false

/-- Started work waits for a unit by the engine's own rule: a partition of a SET_OP, a share of a DMA descriptor, a dealt
candidate (R188). -/
def State.workWaits (s : State) (e : Nat) : Bool :=
  if e < 128 then false
  else if e < 144 then !(s.setWaiting (e - 128)).isEmpty || !(s.setEngine (e - 128)).susp.isEmpty
  else if e < 176 then !(s.dmaWaiting (e - 144)).isEmpty || !(s.dma (e - 144)).yielded.isEmpty
  else s.candWaits e

/-- A started SET_OP of class 15 waits and no engine that it may use is free. -/
def State.setWaits15 (s : State) (die : Nat) : Bool :=
  s.hub.setOps.any (fun o => !o.waiting && o.ran.isNone
    && (match s.desc o.ctx o.num with
        | some d => s.effClass o.ctx d.raw == 15 && decide (o.by'.length < setParts d) && (s.jobDies o.ctx d).testBit die
            && !(s.setPool o.ctx d).any s.setIdle
        | none => false))

/-- A started DMA descriptor of class 15 waits without an engine on a die. -/
def State.dmaWaits15 (s : State) (die : Nat) : Bool :=
  (s.hub.ctxs.zipIdx).any (fun p => p.1.window.any (fun d =>
    decide (d.phase = .started) && [2, 3, 5].contains d.op && d.units.isEmpty && s.effClass p.2 d.raw == 15 && (s.jobDies p.2 d).testBit die
    && !((List.range 8).any (fun i => s.dmaFit (8 * die + i) 15))))

/-- A plan of a class-15 stream has a candidate that no checker was dealt. -/
def State.planWaits15 (s : State) : Bool :=
  s.rf rPC_PLAN_CFG fPC_PLAN_CFG_CLASS == 15
    && (match s.plan.plan with
        | some p => p.cands.any (fun c => c.owner.isNone && c.outcome.isNone)
        | none => false)

/-- R359's exception for the other units: class-15 work waits, no tested unit can serve it, and a free one is untested. [DEDUCED, log
entry 30] -/
def State.urgentUnit (s : State) (die : Nat) : Option Nat :=
  pickBy s.testBefore ((dieUnits die).filter (fun e =>
    decide (128 ≤ e) && s.testable e && s.untested e
    && (if e < 144 then s.setWaits15 die else if e < 176 then s.dmaWaits15 die else s.planWaits15)))

/-- SLICE_GRANT (R180–R182, R188, R359): work first, then test slices, then Basking. Die 4
grants test slices to the path checkers. -/
def execSliceGrant (die : Nat) (s : State) : Res State :=
  .next <|
    if die < 4 ∧ s.dieUsable die = false then s
    else
      match (s.urgentTest die).orElse (fun _ => s.urgentUnit die) with
      | some t => s.startTest t
      | none =>
        match s.nextKernel die with
        | some k =>
          match pickBy (fun a b => decide (s.tileRank k a < s.tileRank k b)) (s.tilesFor die k) with
          | some t => s.place die k t
          | none => s
        | none =>
          match pickBy s.testBefore ((dieUnits die).filter (fun e => s.testable e && !s.workWaits e)) with
          | some e => s.startTest e
          | none =>
            if die < 4 ∧ ((dieTiles die).filter (fun t => s.tileState t == tsBASKING)).length < s.th.bask.getD die 0 then
              match (dieTiles die).find? (fun t => s.tileState t == tsIDLE && !s.doneRaised t) with
              | some t => ((s.ungate t).setTileState t tsBASKING).setBaskCount
              | none => s
            else s

end Sys2Proof.Machine
end

