-- ==== Sys2Proof/Machine/IslOut.lean ====
section
/-!
DEFINITION. What an island judges and sends: the trajectory checks (R338, R353), withholding and
re-issue (R342), Eft (R343, R344), the age monitor (R345), active and standby over the cross-link
(R346–R351), and the output message (R356, R443).
-/
namespace Sys2Proof.Machine

/-! ## Ages (R21, R23, R24) -/

/-- More than a limit of milliseconds has passed since `t`, with the widening of holdover. [DEDUCED, log entry 74] -/
def State.tooOld (s : State) (i t ms : Nat) : Bool :=
  decide ((ms * 1000000 : Int) < (s.islTime i : Int) - t + s.holdMargin i)

def State.worldOld (s : State) (i ref : Nat) : Bool := s.tooOld i ref (s.rf (rSI_TIMING i) fSI_TIMING_WORLD_AGE_MS)

/-- Order 5 of Table 15.6: the planned start of transmission is the moment of the judgement. [DESIGN CHOICE, log entry 105] -/
def State.trajOld (s : State) (i r : Nat) : Bool :=
  s.tooOld i (recFreeze r) (s.rf (rSI_TIMING i) fSI_TIMING_TRAJ_AGE_MS) || s.worldOld i (recRef r)

/-! ## The checks of Table 15.6 -/

/-- Order 2: the record is whole and the output stage's. -/
def recordOk (r : Nat) : Bool :=
  let n := recLen r
  bytesOf r 16 1 % 2 == 1 && recSeq r == bytesOf r 1016 8 && Nat.testBit (bytesOf r 116 1) 7
  && decide (n ≤ 888) && n == 64 + 12 * recPay r 11 1 && crc32c (leBytes n (recPay r 0 n)) == bytesOf r 20 4

/-- The record's manifest, header and entries. -/
def State.readManifest (s : State) (i r : Nat) : Option Nat :=
  match s.islRead i (bytesOf r 80 8) 64 with
  | none => none
  | some h => (s.islRead i (bytesOf r 80 8) (64 + 64 * bytesOf (leNat h) 36 1)).map leNat

/-- What HUB refuses of that read is counted there (R16). -/
def State.manifestTries (s : State) (i r : Nat) : State :=
  let a := bytesOf r 80 8
  if !recordOk r then s
  else
    match s.islRead i a 64 with
    | none => s.islTries i a 64
    | some h => s.islTries i a (64 + 64 * bytesOf (leNat h) 36 1)

/-- Order 3: the manifest is the one the record names. -/
def manifestOk (r m : Nat) : Bool :=
  let n := bytesOf m 36 1
  crc32c (leBytes 60 m ++ leBytes (64 * n) (bytesOf m 64 (64 * n))) == bytesOf r 88 4
  && bytesOf m 0 8 == recInst r && bytesOf m 8 8 == recRef r

def Island.worldAt (x : Island) (inst : Nat) : Option IslWorld := x.worlds.find? (fun w => w.inst == inst)

def Island.lineageOk (x : Island) (r : Nat) : Bool :=
  (match x.lastInst with
   | some k => decide (k ≤ recInst r)
   | none => true)
  && (match x.worldAt (recInst r) with
      | some w => w.cal == recCal r
      | none => true)

/-- Order 4: a critical sensor is MISSING or EXCLUDED in the manifest. -/
def State.critical (s : State) (i m : Nat) : Bool :=
  (List.range (bytesOf m 36 1)).any (fun j =>
    let e := bytesOf m (64 + 64 * j) 64
    let st := bytesOf e 52 1
    Nat.testBit (s.rf (rSI_CRIT i) fSI_CRIT_CRIT) (bytesOf e 0 1) && (st == esMISSING || st == esEXCLUDED))

/-- The step a record is checked from. -/
def startStep (r : Nat) : Nat := if recKind r = 2 then recPay r 12 2 else 0

/-- The limit check and the corridor check against a world (R339, R340): 0, 6 or 7. -/
def State.motionCheck (s : State) (i r start : Nat) (w : Option IslWorld) : Nat × Corridor :=
  let ts := rollout64 (primSteps (recPrims r)) 0 (recBegin r).pose
  if !(s.islLimits i).okFrom start ts then (6, {})
  else
    match w with
    | none => (7, {})
    | some w =>
      let c := s.corridor i w (recBegin r) (recFreeze r) start false ts
      (if c.blocks = 0 then 0 else 7, c)

/-- What a judgement answers: the reason, the cells counted outside, and whether order 3 held. -/
structure Verdict where
  reason  : Nat
  outside : Nat := 0
  lineage : Bool := true
  deriving DecidableEq, Repr

/-- Orders 2 to 8 of Table 15.6; the first failure decides. -/
def State.verdict (s : State) (i r : Nat) : Verdict :=
  let x := s.isle i
  if !recordOk r then { reason := 1, lineage := false }
  else
    match s.readManifest i r with
    | none => { reason := 2, lineage := false }
    | some m =>
      if !(manifestOk r m && x.lineageOk r) then { reason := 2, lineage := false }
      else if s.critical i m then { reason := 3 }
      else if s.trajOld i r then { reason := 4 }
      else if recKind r = 3 then { reason := 5 }
      else
        let c := s.motionCheck i r (startStep r) (x.worldAt (recInst r))
        { reason := c.1, outside := c.2.outside }

/-! ## Falling due (R342–R345) -/

def cap24 (n : Nat) : Nat := min 0xFFFFFF n

/-- A message falls due; one that waits is replaced. -/
def State.islSend (s : State) (i : Nat) (d : IslDue) : State := s.modIsle i (fun x => { x with due := some d })

/-- Eft is sent (R343). -/
def State.sendEft (s : State) (i reason : Nat) : State :=
  (s.islSend i { kind := 3, reason := reason }).modIsle i (fun x => { x with efts := cap24 (x.efts + 1) })

/-- First step of a re-issue: ceil((start − FREEZE) / 10 ms). -/
def State.reissueStep (s : State) (i r : Nat) : Nat := ceilDiv (s.islTime i - recFreeze r) 10000000

/-- The last trajectory transmitted qualifies for a re-issue against the newest world (R342). -/
def State.reissue (s : State) (i : Nat) : Option IslDue :=
  let x := s.isle i
  match x.base, x.worlds.head? with
  | some b, some w =>
    let n := s.reissueStep i b.rec'
    if s.trajOld i b.rec' || s.worldOld i w.ref || decide (primCount (recPrims b.rec') < n) then none
    else if (s.motionCheck i b.rec' n (some w)).1 = 0 then some { kind := 2, reason := 0, traj := some b, world := some w, start := n }
    else none
  | _, _ => none

/-- What is sent in place of a trajectory (R342, R344). -/
def State.fallback (s : State) (i reason : Nat) : State :=
  if (s.isle i).latched then s.sendEft i 10
  else
    match s.reissue i with
    | some d => (s.islSend i { d with reason := reason }).modIsle i (fun x => { x with reissues := cap24 (x.reissues + 1) })
    | none => s.sendEft i reason

/-- A trajectory is withheld; the run may reach N_DIS and latch Eft (R342, R344). The report code of a
latch is 16. [DEDUCED, log entry 74] -/
def State.withhold (s : State) (i reason : Nat) : State :=
  let s1 := s.modIsle i (fun x => { x with heldCnt := cap24 (x.heldCnt + 1) })
  let x := s1.isle i
  let s2 :=
    if x.latched = false ∧ s.rf (rSI_CFG i) fSI_CFG_N_DIS ≤ x.disRun then
      s1.modIsle i (fun x => { x with latched := true, passes := 0, reports := 16 :: x.reports })
    else s1
  s2.fallback i reason

/-- A trajectory that passed is sent, unless Eft is latched. -/
def State.sendPassed (s : State) (i : Nat) (t : IslTraj) : State :=
  if (s.isle i).latched then s.sendEft i 10
  else s.islSend i { kind := 1, reason := 0, traj := some t, world := some t.world, start := t.start }

/-- The conditions of READY but the passed trajectory (R330, R341). [DEDUCED, log entry 74] -/
def State.readyOk (s : State) (i : Nat) : Bool :=
  s.flag (rSI_CFG i) fSI_CFG_LOCK && (s.isle i).mode != imSPLIT && (s.isle i).limOk && !s.sh.tad.on

/-- NOT_READY to READY with a trajectory to send (R330, R343). [DEDUCED, log entry 74] -/
def State.tryReady (s : State) (i : Nat) : State :=
  let x := s.isle i
  match x.kept with
  | some t =>
    if x.state = isNOTREADY ∧ x.rom = false ∧ s.readyOk i ∧ !(s.trajOld i t.rec') then
      (s.modIsle i (fun y => { y with state := isREADY, heardAt := s.islTime i })).sendPassed i t
    else s
  | none => s

/-! ## Judging (R338, R353) -/

/-- TRAJECTORY_NOTICE (R338): a record whose SEQ is newer is taken, in place of one under check; one
that passed and was never transmitted is taken again (R353). -/
def execTrajectoryNotice (isl : Nat) (s : State) : Res State :=
  .next <|
    let sl := s.rf (rSI_CFG isl) fSI_CFG_TRAJ_SLOT
    s.onNotice isl sl (fun s =>
      let r := s.slotRec sl
      let x := s.isle isl
      let newer := match x.judging with
        | some p => decide (recSeq p.1 < recSeq r)
        | none => true
      let above := match x.lastSeq with
        | some n => decide (n < recSeq r)
        | none => true
      let again := match x.kept with
        | some t => recSeq t.rec' == recSeq r && !t.sent
        | none => false
      if !newer then s
      else if above then s.modIsle isl (fun x => { x with judging := some (r, false) })
      else if again then s.modIsle isl (fun x => { x with judging := some (r, true) })
      else s)

/-- What a judgement does to the disagreement run and the counts (R342, R344). -/
def State.judged (s : State) (i r : Nat) (v : Verdict) : State :=
  let x := s.isle i
  let dis := v.reason == 6 || v.reason == 7
  let keep := if v.reason = 0 then (x.worldAt (recInst r)).map (fun w => { rec' := r, start := startStep r, world := w, sent := false : IslTraj })
    else x.kept
  s.modIsle i (fun x =>
    { x with
      judging := none, lastSeq := some (recSeq r), lastInst := if v.lineage then some (recInst r) else x.lastInst
      outside := x.outside + v.outside, kept := keep
      disRun := if v.reason = 0 then 0 else if dis then x.disRun + 1 else x.disRun
      passes := if v.reason = 0 then x.passes + 1 else 0
      disagrees := if dis then cap24 (x.disagrees + 1) else x.disagrees
      passCnt := if v.reason = 0 then cap24 (x.passCnt + 1) else x.passCnt })

/-- What follows a judgement while READY. -/
def State.answer (s : State) (i reason : Nat) : State :=
  match reason, (s.isle i).kept with
  | 0, some t => s.sendPassed i t
  | 5, _ => s.sendEft i (if (s.isle i).latched then 10 else 5)
  | r, _ => s.withhold i r

/-- TRAJECTORY_READ_COMPLETE (R338, R353). -/
def execTrajectoryReadComplete (isl : Nat) (s : State) : Res State :=
  let x := s.isle isl
  .next <|
    match x.judging with
    | none => s
    | some (r, true) =>
      let s1 := s.modIsle isl (fun x => { x with judging := none })
      if x.state ≠ isREADY then s1
      else
        match x.kept with
        | some t => if s.trajOld isl r then s1.withhold isl 4 else s1.sendPassed isl t
        | none => s1
    | some (r, false) =>
      let v := s.verdict isl r
      let s1 := (s.manifestTries isl r).judged isl r v
      if x.state = isREADY then s1.answer isl v.reason
      else if v.reason = 0 then s1.tryReady isl
      else if v.reason = 5 then s1
      else s1.modIsle isl (fun x => { x with heldCnt := cap24 (x.heldCnt + 1) })

/-! ## Eft (R343) -/

/-- Steps that take a binary64 value to a goal at a rate per second (FP32): whole steps at the rate,
then one that ends on the goal. -/
def rampTo (goal rate : Nat) : Nat → Nat → List Nat
  | 0, _ => []
  | n + 1, x =>
    let gap := f64Sub goal x
    let most := f64Mul (f64OfF32 rate) dtStep64
    let neg := f64Lt gap 0
    if !(f64Lt 0 (f64Abs gap)) then []
    else if f64Lt (f64Abs gap) most then [f32Of64 (f64Div gap dtStep64)]
    else
      let j := if neg then f32Neg rate else rate
      j :: rampTo goal rate n (f64Fma (f64OfF32 j) dtStep64 x)

/-- Jerks of a braking candidate from speed `v` and acceleration `a`, to its last step whose speed is
not below 0. [DEDUCED, log entry 76] -/
def brakeGo : Nat → List Nat → Nat → Nat → List Nat
  | 0, _, _, _ => []
  | n + 1, js, v, a =>
    let j := js.headD 0
    let a1 := f64Fma (f64OfF32 j) dtStep64 a
    let v1 := f64Fma (f64Mul (f64Add a a1) f64Half) dtStep64 v
    if f64Lt v1 0 || !(f64Le v1 v1) then [] else j :: brakeGo n js.tail v1 a1

/-- Most steps of a fallback: what the 16 bits of a primitive's STEPS count. [DEDUCED, log entry 76] -/
def mostSteps : Nat := 65535

/-- Runs of equal steps as primitives. -/
def toPrims : List (Nat × Nat) → List (Nat × Nat × Nat)
  | [] => []
  | s :: r =>
    match toPrims r with
    | (d, c, j) :: l => if s = (c, j) then (d + 1, c, j) :: l else (1, s.1, s.2) :: (d, c, j) :: l
    | [] => [(1, s.1, s.2)]

/-- A base's state at a step, and what is left of the primitive it is in. -/
def Pose.after (ts : List Step64) (q : Pose) (n : Nat) : Pose :=
  if n = 0 then q
  else
    match ts[min n ts.length - 1]? with
    | some t => t.pose
    | none => q

def primLeft : List (Nat × Nat × Nat) → Nat → Nat × Nat
  | [], _ => (0, 0)
  | p :: r, n => if n < p.1 then (p.1 - n, p.2.1) else primLeft r (n - p.1)

/-- A pose of a plan frame in the odometry frame. -/
def odoPose (b : Begin) (q : Pose) : Nat × Nat × Nat :=
  let c := f64Cos b.oyaw
  let s := f64Sin b.oyaw
  (f64Fma c q.x (f64Fma (f64Neg s) q.y b.ox), f64Fma s q.x (f64Fma c q.y b.oy), f64Add b.oyaw q.th)

def Eft.begin (e : Eft) : Begin :=
  { ox := e.ox, oy := e.oy, oyaw := e.oyaw, pose := { x := 0, y := 0, th := 0, k := e.k, v := e.v, a := e.a } }

/-- Standstill time of a fallback. -/
def Eft.endTime (e : Eft) : Nat := e.start + primCount e.prims * 10000000

/-- The six candidates in their fixed order. -/
def State.eftCands (s : State) (i : Nat) (q : Pose) (left : Nat × Nat) : List (List (Nat × Nat × Nat)) :=
  let e := s.rf (rSI_EFT i) fSI_EFT_EFT_DECEL
  let m := s.rf (rSI_EFT i) fSI_EFT_EFT_DECEL_MAX
  let jmax := s.rf (rSI_LIM_WJ i) fSI_LIM_WJ_J_MAX
  let kr := s.rf (rSI_LIM_K i) fSI_LIM_K_KRATE_MAX
  let curves := [[], List.replicate left.1 left.2, rampTo 0 kr mostSteps q.k]
  [e, m].flatMap (fun d =>
    let js := brakeGo mostSteps (rampTo (f64OfF32 d) jmax mostSteps q.a) q.v q.a
    curves.map (fun cs => toPrims (js.mapIdx (fun n j => (cs.getD n 0, j)))))

/-- Blocking cells of a candidate, and whether it passes (R339, R340). -/
def State.eftJudge (s : State) (i : Nat) (w : IslWorld) (e : Eft) : Nat × Bool :=
  let ts := rollout64 (primSteps e.prims) 0 e.begin.pose
  let n := (s.corridor i w e.begin e.start 1 true ts).blocks
  (n, n == 0 && (s.islLimits i).okFrom 1 ts)

/-- The candidate Eft chooses: the first that passes, else the first with the fewest blocking cells. [DEDUCED, log entry 76] -/
def chooseEft : List (Eft × Nat × Bool) → Option Eft
  | l =>
    match l.find? (fun c => c.2.2) with
    | some c => some c.1
    | none => (pickBy (fun a b => decide (a.2.1 < b.2.1)) l).map (fun c => { c.1 with bad := true })

/-- Eft computes its fallback on a base (R343). -/
def State.eftOn (s : State) (i : Nat) (b : IslTraj) : Option Eft :=
  let beg := recBegin b.rec'
  let ts := rollout64 (primSteps (recPrims b.rec')) 0 beg.pose
  let n0 := (s.islTime i - recFreeze b.rec') / 10000000
  let q := Pose.after ts beg.pose n0
  let o := odoPose beg q
  chooseEft ((s.eftCands i q (primLeft (recPrims b.rec') n0)).map (fun ps =>
    let e : Eft :=
      { base := b, ox := o.1, oy := o.2.1, oyaw := o.2.2, v := q.v, a := q.a, k := q.k, prims := ps
        start := recFreeze b.rec' + n0 * 10000000, bad := false, sent := false }
    (e, s.eftJudge i b.world e)))

/-- EFT_RUN (R343): every EFT_PERIOD_MS; a fallback already sent on the same base stays the chosen one. [DEDUCED, log entry 76] -/
def execEftRun (isl : Nat) (s : State) : Res State :=
  let x := s.isle isl
  let keep := match x.eft, x.base with
    | some e, some b => e.sent && recSeq e.base.rec' == recSeq b.rec'
    | _, _ => false
  .next <|
    if !x.running || x.rom || decide (s.islTime isl < x.eftAt + s.rf (rSI_TIMING isl) fSI_TIMING_EFT_PERIOD_MS * 1000000) then s
    else s.modIsle isl (fun x => { x with eft := if keep then x.eft else x.base.bind (s.eftOn isl), eftAt := s.islTime isl })

/-- EFT_CLEAR (R344): at standstill, once the last RECOVER_N judged have all passed. -/
def execEftClear (isl : Nat) (s : State) : Res State :=
  let x := s.isle isl
  .next <|
    match x.eft with
    | some e =>
      if x.running ∧ x.latched ∧ e.endTime ≤ s.islTime isl ∧ s.rf (rSI_CFG isl) fSI_CFG_RECOVER_N ≤ x.passes then
        s.modIsle isl (fun x => { x with latched := false })
      else s
    | none => s

/-! ## The message (R356, Table 15.7) -/

/-- What a message carries of a trajectory. -/
structure MsgBody where
  freeze : Nat
  seq    : Nat
  world  : IslWorld
  traj   : List Byte
  steps  : List Step64
  deriving DecidableEq, Repr

/-- A trajectory that passed, or a re-issue from a step. -/
def passedBody (t : IslTraj) (w : IslWorld) (kind start : Nat) : MsgBody :=
  let pay := leBytes 448 (recPay t.rec' 0 448)
  { freeze := recFreeze t.rec', seq := recSeq t.rec', world := w
    traj := if kind = 2 then pay.take 12 ++ leBytes 2 start ++ pay.drop 14 else pay
    steps := rollout64 (primSteps (recPrims t.rec')) 0 (recBegin t.rec').pose }

/-- The Eft trajectory, or once its standstill time has passed one primitive of 100 steps at rest. [DEDUCED, log entry 76] -/
def eftBody (e0 : Eft) (now : Nat) : MsgBody :=
  let ts0 := rollout64 (primSteps e0.prims) 0 e0.begin.pose
  let q := Pose.after ts0 e0.begin.pose ts0.length
  let o := odoPose e0.begin q
  let e := if e0.endTime ≤ now then
      { e0 with ox := o.1, oy := o.2.1, oyaw := o.2.2, v := 0, a := 0, k := q.k, prims := [(100, 0, 0)], start := e0.endTime }
    else e0
  let prims := e.prims.flatMap (fun p => leBytes 2 p.1 ++ leBytes 2 0 ++ leBytes 4 p.2.1 ++ leBytes 4 p.2.2)
  let head := leBytes 8 (recPay e.base.rec' 0 8) ++ leBytes 2 0xFFFF ++ leBytes 1 4 ++ leBytes 1 e.prims.length ++ leBytes 2 0
    ++ leBytes 2 (primCount e.prims) ++ leBytes 8 0 ++ leBytes 8 e.ox ++ leBytes 8 e.oy ++ leBytes 8 e.oyaw
    ++ leBytes 4 (f32Of64 e.v) ++ leBytes 4 (f32Of64 e.a) ++ leBytes 4 (f32Of64 e.k) ++ leBytes 4 0
  { freeze := e.start, seq := recSeq e.base.rec', world := e.base.world, traj := leBytes 448 (leNat (head ++ prims))
    steps := rollout64 (primSteps e.prims) 0 e.begin.pose }

/-- A binary64 value times an integer, as INT16. -/
def toInt16 (v k : Nat) : Nat := (convInt 16 (-32768) 32767 (mulV (f64 v) (.fin false k 0))).bits

/-- The 80 preview poses; 0x8000 beyond the last step. [DEDUCED, log entry 76] -/
def preview (ts : List Step64) : List Byte :=
  (List.range 80).flatMap (fun i =>
    match ts[10 * i + 9]? with
    | some t => leBytes 2 (toInt16 t.pose.x 100) ++ leBytes 2 (toInt16 t.pose.y 100) ++ leBytes 2 (toInt16 t.pose.th 8192)
    | none => leBytes 6 0x800080008000)

/-- An age in microseconds. -/
def ageUs (now t : Nat) : Nat := min 0xFFFFFFFF ((now - t) / 1000)

/-- ROLE, VIEW and PART_ID as messages carry them (R346): with SI_VIEW.EN = 0 they are 1, 0 and 0. -/
def State.islRole (s : State) (i : Nat) : Nat := if s.flag (rSI_VIEW i) fSI_VIEW_EN then (s.isle i).role else 1
def State.islView (s : State) (i : Nat) : Nat := if s.flag (rSI_VIEW i) fSI_VIEW_EN then (s.isle i).view else 0
def State.islPart (s : State) (i : Nat) : Nat := if s.flag (rSI_VIEW i) fSI_VIEW_EN then (s.isle i).partId else 0

/-- Bytes 0–7 of a message. [DEDUCED, log entry 77] -/
def State.msgHead (s : State) (i kind reason : Nat) : List Byte :=
  let x := s.isle i
  let flags := bit x.active + 2 * bit (s.islT i).holdover + 4 * bit x.latched + 8 * bit (x.retired != []) + 16 * bit x.xlinkLost
  leBytes 1 1 ++ leBytes 1 kind ++ leBytes 1 flags ++ leBytes 1 (s.islRole i) ++ leBytes 1 (s.islPart i) ++ leBytes 1 i ++ leBytes 1 x.mode
    ++ leBytes 1 reason

/-- A message without its CRC; NOT_READY carries no trajectory. -/
def State.msgBytes (s : State) (i kind reason : Nat) (b : Option MsgBody) : List Byte :=
  let x := s.isle i
  let now := s.islTime i
  let head := s.msgHead i kind reason ++ leBytes 8 x.counter ++ leBytes 8 now
  match b with
  | none => head ++ leBytes 8 (Config.notReadyFreeze s.free).toNat ++ leBytes 988 0
  | some b =>
    head ++ leBytes 8 b.freeze ++ leBytes 8 (s.islView i) ++ leBytes 8 b.seq ++ leBytes 8 b.world.inst ++ leBytes 4 b.world.epoch
      ++ leBytes 4 b.world.cal ++ b.traj ++ preview b.steps ++ leBytes 4 (ageUs now b.freeze)
      ++ leBytes 4 (ageUs now b.world.ref) ++ leBytes 1 (min 255 x.disRun) ++ leBytes 19 0

/-- Transmitters a message goes to: the CAN controllers of CAN_TX_MASK in CAN XL mode that are not
bus-off, and the MAC (4); under the ROM all of them (R356, R412, R443). -/
def State.txOf (s : State) (i : Nat) : List Nat :=
  let x := s.isle i
  (List.range 4).filter (fun c =>
    let t := (x.txs[c]?).getD {}
    t.xl && !t.busOff && (x.rom || Nat.testBit (s.rf (rSI_CFG i) fSI_CFG_CAN_TX_MASK) c))
  ++ (if x.rom || s.flag (rSI_CFG i) fSI_CFG_ETH_TX_EN then [4] else [])

/-- SI_CAN, SI_ETH and SI_ETH2 as the ROM uses them: PRIO_ID 0x7FF, a broadcast to port 48,880 (R412). -/
def romCan : Nat := 0x7FF
def romEth : Nat := 48880 * 2 ^ 48 + (2 ^ 48 - 1)
def romEth2 : Nat := (2 ^ 32 - 1) * 2 ^ 32

/-- A frame starts on a transmitter. -/
def State.txStart (s : State) (i c msg : Nat) : State :=
  let rom := (s.isle i).rom
  let w := fun (a : Addr) (r : Nat) => if rom then r else (s.reg a).toNat
  let s1 := s.modTx i c (fun t => { t with tx := some msg, waiting := none })
  if c = 4 then s1.emit (.eth i (w (rSI_ETH i) romEth) (w (rSI_ETH2 i) romEth2) (leBytes 1024 msg))
  else s1.emit (.can i c (w (rSI_CAN i) romCan) (leBytes 1024 msg))

/-- A message at one transmitter: it starts, or waits in place of one that waits (R443). [DEDUCED, log entry 77] -/
def State.txPut (s : State) (i : Nat) (m : IslWait) (c : Nat) : State :=
  if (s.islTx i c).tx.isNone then s.txStart i c m.msg else s.modTx i c (fun t => { t with waiting := some m })

/-- A message whose transmission starts at `now`: TX_DTIME, the ages and the CRC are those of the start (R23, Table 15.7). -/
def IslWait.stamped (m : IslWait) (now : Nat) : Nat :=
  let b := leBytes 1024 m.msg
  let ages := match m.ages with
    | some p => leBytes 4 (ageUs now p.1) ++ leBytes 4 (ageUs now p.2)
    | none => (b.drop 992).take 8
  let body := b.take 16 ++ leBytes 8 now ++ (b.drop 24).take 968 ++ ages ++ (b.drop 1000).take 20
  leNat (body ++ leBytes 4 (crc32c body))

/-- HUB's trace record of a message (R426): one END of core 0 with ACTIVE in STATUS bit 0. [DEDUCED, log entry 96] -/
def State.islTrace (s : State) (i kind reason : Nat) : State :=
  if s.islHub i then
    s.traceEvent (204 + 3 * i) evEND
      { ctx := 0, descId := (s.isle i).counter % 2 ^ 32, aux := kind % 256 + reason % 256 * 256, status := bit (s.isle i).active }
  else s

/-- A message is sent on every transmitter it goes to; where there is none, no message is sent. -/
def State.islEmit (s : State) (i kind reason : Nat) (b : Option MsgBody) (due : IslDue) : State :=
  let cs := s.txOf i
  if cs = [] then s
  else
    let body := s.msgBytes i kind reason b
    let m : IslWait := { msg := leNat (body ++ leBytes 4 (crc32c body)), ages := b.map (fun b => (b.freeze, b.world.ref)), due := due }
    ((cs.foldl (fun x c => x.txPut i m c) s.tick).islTrace i kind reason).modIsle i (fun x =>
      { x with counter := (x.counter + 1) % 2 ^ 64, sentAny := true, lastMsg := some (s.islTime i) })

/-- A READY island of a part of a Chorus system transmits in role PRIMARY only (R346). -/
def Island.mayTransmit (x : Island) : Bool := !x.chorus || x.role == 1

/-- A message may start: the island transmits by what it read, or its view record is off. -/
def State.islMay (s : State) (i : Nat) : Bool := !(s.flag (rSI_VIEW i) fSI_VIEW_EN) || (s.isle i).mayTransmit

/-- The due message of a READY island starts; without a base it is NOT_READY (R343). -/
def State.transmit (s : State) (i : Nat) (d : IslDue) : State :=
  let x := s.isle i
  match d.kind, d.traj, d.world, x.eft with
  | 1, some t, some w, _ =>
    (s.islEmit i 1 d.reason (some (passedBody t w 1 t.start)) d).modIsle i (fun x =>
      { x with base := some { t with sent := true }, kept := x.kept.map (fun k => if recSeq k.rec' = recSeq t.rec' then { k with sent := true } else k) })
  | 2, some t, some w, _ => s.islEmit i 2 d.reason (some (passedBody t w 2 d.start)) d
  | 3, _, _, some e =>
    (s.islEmit i 3 (d.reason + 128 * bit e.bad) (some (eftBody e (s.islTime i))) d).modIsle i (fun x => { x with eft := some { e with sent := true } })
  | _, _, _, _ => s.islEmit i 4 d.reason none d

/-- The message that goes out now: one whose trajectory or world has passed its age limit since it was judged is withheld, and
what R342 gives in its place falls due (R23). [DESIGN CHOICE, log entry 105] -/
def State.refreshDue (s : State) (i : Nat) (d : IslDue) : State :=
  match d.traj, d.world with
  | some t, some w =>
    if s.trajOld i t.rec' || s.worldOld i w.ref then (if d.kind = 1 then s.withhold i 4 else s.sendEft i d.reason) else s.islSend i d
  | _, _ => s.islSend i d

/-- MESSAGE_TRANSMIT (R23, R356). [DEDUCED, log entry 77] -/
def execMessageTransmit (isl : Nat) (s : State) : Res State :=
  let x := s.isle isl
  .next <|
    match x.due with
    | none => s
    | some d0 =>
      if x.power && x.state == isREADY && s.islMay isl then
        let s1 := s.refreshDue isl d0
        match (s1.isle isl).due with
        | some d => (s1.modIsle isl (fun x => { x with due := none })).transmit isl d
        | none => s1
      else s.modIsle isl (fun x => { x with due := none })

/-- The trajectory or the world of a waiting message has passed its age limit (R23). -/
def State.waitOld (s : State) (i : Nat) (m : IslWait) : Bool :=
  match m.due.traj, m.due.world with
  | some t, some w => s.trajOld i t.rec' || s.worldOld i w.ref
  | _, _ => false

/-- A message that waited starts with the stamp and the ages of its start; one too old is withheld on every transmitter, and what
R342 gives in its place falls due (R23). [DESIGN CHOICE, log entry 105] -/
def State.txNext (s : State) (i c : Nat) (m : IslWait) : State :=
  if s.waitOld i m then
    (s.modIsle i (fun x =>
      { x with txs := x.txs.mapIdx (fun k t =>
          { t with tx := if k = c then none else t.tx, waiting := if t.waiting = some m then none else t.waiting }) })).refreshDue i m.due
  else s.txStart i c (m.stamped (s.islTime i))

/-- MESSAGE_TRANSMIT_COMPLETE (R23, R443, R331): `same` is the transmit monitor's comparison; a difference is
trip 7, and otherwise a waiting message starts. [DEDUCED, log entry 77] -/
def execMessageTransmitComplete (isl ctl : Nat) (same : Bool) (s : State) : Res State :=
  let t := s.islTx isl ctl
  .next <|
    if t.tx = none ∨ 4 < ctl then s
    else if !same then s.islTrip isl 7 true
    else
      match t.waiting with
      | some m => s.txNext isl ctl m
      | none => s.modTx isl ctl (fun t => { t with tx := none })

/-! ## Output times (R345, R352, Table 15.2) -/

/-- OUT_PERIOD_MS, or the ROM's 20 ms, in nanoseconds. -/
def State.outPeriod (s : State) (i : Nat) : Nat :=
  (if (s.isle i).rom then 20 else s.rf (rSI_TIMING i) fSI_TIMING_OUT_PERIOD_MS) * 1000000

/-- Start of the last message, or of the island. -/
def Island.lastOut (x : Island) : Nat := x.lastMsg.getD x.bornAt

/-- NOT_READY_MESSAGE (Table 15.2); the island becomes READY where it can (R330). -/
def execNotReadyMessage (isl : Nat) (s : State) : Res State :=
  let x := s.isle isl
  .next <|
    if x.power = false ∨ x.state ≠ isNOTREADY then s
    else
      let s1 := s.tryReady isl
      if (s1.isle isl).state = isREADY then s1
      else if x.lastMsg = none ∨ x.lastOut + s.outPeriod isl ≤ s.islTime isl then s1.islEmit isl 4 0 none { kind := 4, reason := 0 }
      else s1

/-- OUTPUT_TIMEOUT (R345, R352): REASON 8, or 9 while the connection to HUB is quarantined. -/
def execOutputTimeout (isl : Nat) (s : State) : Res State :=
  let x := s.isle isl
  let up := s.islHub isl
  let grace := if up then s.rf (rSI_TIMING isl) fSI_TIMING_OUT_GRACE_MS * 1000000 else 0
  .next <|
    if x.power = false ∨ x.state ≠ isREADY ∨ s.islTime isl < x.lastOut + s.outPeriod isl + grace then s
    else if up then (s.modIsle isl (fun x => { x with timeouts := cap24 (x.timeouts + 1) })).fallback isl 8
    else s.fallback isl 9

/-! ## The cross-link (R347–R351) -/

/-- CRC-5 with polynomial 0x15 of the 11 upper bits, most significant first. [PRESUMED, log entry 78] -/
def crc5 (v : Nat) : Nat :=
  (List.range 11).foldl (fun c k =>
    let top := Nat.xor (c / 16) (v / 2 ^ (10 - k) % 2)
    let d := c * 2 % 32
    if top % 2 = 1 then Nat.xor d 0x15 else d) 0

/-- A heartbeat word (R349). [PRESUMED, log entry 78] -/
def hbWord (seq act hub mode state : Nat) : Nat :=
  let v := seq % 16 * 128 + act % 2 * 64 + hub % 2 * 32 + mode % 4 * 8 + state % 8
  v * 32 + crc5 v

/-- CROSSLINK_HEARTBEAT_SEND (R349): a READY island sends its word, but not while a voted core is
halted (R336). -/
def execCrosslinkHeartbeatSend (isl : Nat) (s : State) : Res State :=
  let x := s.isle isl
  .next <|
    if x.power = false ∨ x.state ≠ isREADY ∨ x.debugged then s
    else
      (s.modIsle isl (fun x => { x with hbSeq := (x.hbSeq + 1) % 16 })).emit
        (.xlink isl (hbWord x.hbSeq (bit x.active) (bit (s.islHub isl)) x.mode x.state))

/-- The standby takes ACTIVE (R350): its first message carries the newest trajectory that passed, or is
that of R342. [DEDUCED, log entry 79] -/
def State.takeActive (s : State) (i : Nat) : State :=
  let s1 := s.modIsle i (fun x => { x with active := true })
  match (s.isle i).kept with
  | some t => if s.trajOld i t.rec' then s1.tick.fallback i (Config.takeoverReason s.free).toNat else s1.sendPassed i t
  | none => s1.tick.fallback i (Config.takeoverReason s.free).toNat

/-- A valid word at the standby. -/
def State.wordStandby (s : State) (i hub st : Nat) : State :=
  let lost := if hub = 0 ∧ s.islHub i then (s.isle i).hubZero + 1 else 0
  let s1 := s.modIsle i (fun x => { x with hubZero := lost, bothOn := 0 })
  if (s.isle i).state = isREADY ∧ (st ≠ isREADY ∨ 2 ≤ lost) then
    let s2 := if 2 ≤ lost then s1.modIsle (1 - i) (fun x => { x with active := false }) else s1
    (s2.modIsle i (fun x => { x with hubZero := 0 })).takeActive i
  else s1

/-- A valid word at the active island: a double claim ends at the second, and SIB drops (R351). -/
def State.wordActive (s : State) (i act : Nat) : State :=
  let n := if act = 1 then (s.isle i).bothOn + 1 else 0
  let drop := decide (2 ≤ n) && i == 1
  s.modIsle i (fun x => { x with bothOn := if drop then 0 else n, hubZero := 0, active := !drop })

/-- CROSSLINK_WORD (R349–R351): a word with a bad CRC or a repeated sequence is not valid. [DEDUCED, log entry 79] -/
def execCrosslinkWord (isl word : Nat) (s : State) : Res State :=
  let x := s.isle isl
  let v := word / 32 % 2048
  let act := v / 64 % 2
  .next <|
    if 2 ≤ isl ∨ x.running = false ∨ x.state = isBOOT ∨ crc5 v ≠ word % 32 ∨ x.heardSeq = some (v / 128) then s
    else
      let s1 := s.modIsle isl (fun x => { x with heardAt := s.islTime isl, heardSeq := some (v / 128) })
      let s2 := if x.active then s1.wordActive isl act else s1.wordStandby isl (v / 32 % 2) (v % 8)
      if (s2.isle isl).active != (act == 1) then s2.modIsle isl (fun x => { x with xlinkLost := false }) else s2

/-- CROSSLINK_SILENCE (R350, R351): 610 µs without a valid word. [DEDUCED, log entry 79] -/
def execCrosslinkSilence (isl : Nat) (s : State) : Res State :=
  let x := s.isle isl
  .next <|
    if x.power = false ∨ x.state ≠ isREADY ∨ (x.xlinkLost ∧ x.active) ∨ s.islTime isl < x.heardAt + 610000 then s
    else
      let s1 := s.modIsle isl (fun x => { x with xlinkLost := true })
      if x.active then s1 else s1.takeActive isl

end Sys2Proof.Machine
end

