-- ==== Sys2Proof/Machine/Dispatch.lean ====
section
/-!
DEFINITION. The dispatch table: one arm for each command, each a direct call of its meaning.
-/
namespace Sys2Proof.Machine

/-- The effect of a command on everything but the queue. -/
def exec (i : Instr) (s : State) : Host.Outcome State Fault Refusal :=
  match i with
  | .registerWrite port addr data => Sys2Proof.Machine.execRegisterWrite port addr data s
  | .lowHalfWrite port addr half => Sys2Proof.Machine.execLowHalfWrite port addr half s
  | .illegalRegisterAccess port addr size => Sys2Proof.Machine.execIllegalRegisterAccess port addr size s
  | .counterClr port addr => Sys2Proof.Machine.execCounterClr port addr s
  | .globalCounterAccess port addr data => Sys2Proof.Machine.execGlobalCounterAccess port addr data s
  | .coreMemoryAccess hart addr req => Sys2Proof.Machine.execCoreMemoryAccess hart addr req s
  | .pcieInboundRequest addr req ep => Sys2Proof.Machine.execPcieInboundRequest addr req ep s
  | .peerInboundRequest src addr req mark => Sys2Proof.Machine.execPeerInboundRequest src addr req mark s
  | .dtimeSidebandCheck die => Sys2Proof.Machine.execDtimeSidebandCheck die s
  | .dtimeLoad die => Sys2Proof.Machine.execDtimeLoad die s
  | .dtimeInc die incr => Sys2Proof.Machine.execDtimeInc die incr s
  | .timeMessageSend isl => Sys2Proof.Machine.execTimeMessageSend isl s
  | .timeMessage isl => Sys2Proof.Machine.execTimeMessage isl s
  | .holdoverTimeout isl => Sys2Proof.Machine.execHoldoverTimeout isl s
  | .sliceGrant die => Sys2Proof.Machine.execSliceGrant die s
  | .imageLoadComplete tile => Sys2Proof.Machine.execImageLoadComplete tile s
  | .load tile => Sys2Proof.Machine.execLoad tile s
  | .store tile => Sys2Proof.Machine.execStore tile s
  | .matmul tile => Sys2Proof.Machine.execMatmul tile s
  | .convConvolution tile => Sys2Proof.Machine.execConvConvolution tile s
  | .convMaxPool tile => Sys2Proof.Machine.execConvMaxPool tile s
  | .convAvgPool tile => Sys2Proof.Machine.execConvAvgPool tile s
  | .convMinPool tile => Sys2Proof.Machine.execConvMinPool tile s
  | .convGridSample tile => Sys2Proof.Machine.execConvGridSample tile s
  | .vectCopy tile => Sys2Proof.Machine.execVectCopy tile s
  | .vectAdd tile => Sys2Proof.Machine.execVectAdd tile s
  | .vectSub tile => Sys2Proof.Machine.execVectSub tile s
  | .vectMul tile => Sys2Proof.Machine.execVectMul tile s
  | .vectFma tile => Sys2Proof.Machine.execVectFma tile s
  | .vectMax tile => Sys2Proof.Machine.execVectMax tile s
  | .vectMin tile => Sys2Proof.Machine.execVectMin tile s
  | .vectAbs tile => Sys2Proof.Machine.execVectAbs tile s
  | .vectCmp tile => Sys2Proof.Machine.execVectCmp tile s
  | .vectSelect tile => Sys2Proof.Machine.execVectSelect tile s
  | .vectExp tile => Sys2Proof.Machine.execVectExp tile s
  | .vectRcp tile => Sys2Proof.Machine.execVectRcp tile s
  | .vectRsqrt tile => Sys2Proof.Machine.execVectRsqrt tile s
  | .vectConvert tile => Sys2Proof.Machine.execVectConvert tile s
  | .vectAct tile => Sys2Proof.Machine.execVectAct tile s
  | .vectRsum tile => Sys2Proof.Machine.execVectRsum tile s
  | .vectRmax tile => Sys2Proof.Machine.execVectRmax tile s
  | .vectRmin tile => Sys2Proof.Machine.execVectRmin tile s
  | .vectSmxStep tile => Sys2Proof.Machine.execVectSmxStep tile s
  | .vectMeanvar tile => Sys2Proof.Machine.execVectMeanvar tile s
  | .vectNorm tile => Sys2Proof.Machine.execVectNorm tile s
  | .postFloat tile => Sys2Proof.Machine.execPostFloat tile s
  | .postInt tile => Sys2Proof.Machine.execPostInt tile s
  | .postArgmax tile => Sys2Proof.Machine.execPostArgmax tile s
  | .loop tile => Sys2Proof.Machine.execLoop tile s
  | .leap tile => Sys2Proof.Machine.execLeap tile s
  | .leapOut tile => Sys2Proof.Machine.execLeapOut tile s
  | .leapIn tile => Sys2Proof.Machine.execLeapIn tile s
  | .sig tile => Sys2Proof.Machine.execSig tile s
  | .entryComplete tile idx => Sys2Proof.Machine.execEntryComplete tile idx s
  | .tileFaultClear tile => Sys2Proof.Machine.execTileFaultClear tile s
  | .sliceComplete tile => Sys2Proof.Machine.execSliceComplete tile s
  | .preemptRequest die => Sys2Proof.Machine.execPreemptRequest die s
  | .lateLeapTimeout tile => Sys2Proof.Machine.execLateLeapTimeout tile s
  | .dmaYield eng => Sys2Proof.Machine.execDmaYield eng s
  | .hashBuild ctx num => Sys2Proof.Machine.execHashBuild ctx num s
  | .hashQuery ctx num => Sys2Proof.Machine.execHashQuery ctx num s
  | .neighbours ctx num => Sys2Proof.Machine.execNeighbours ctx num s
  | .knn ctx num => Sys2Proof.Machine.execKnn ctx num s
  | .ball ctx num => Sys2Proof.Machine.execBall ctx num s
  | .sort ctx num => Sys2Proof.Machine.execSort ctx num s
  | .topk ctx num => Sys2Proof.Machine.execTopk ctx num s
  | .segmentReduce ctx num => Sys2Proof.Machine.execSegmentReduce ctx num s
  | .gatherRows ctx num => Sys2Proof.Machine.execGatherRows ctx num s
  | .scatterGrid ctx num => Sys2Proof.Machine.execScatterGrid ctx num s
  | .tableBuildWaitEnd ctx num => Sys2Proof.Machine.execTableBuildWaitEnd ctx num s
  | .setOpChunkBoundary eng => Sys2Proof.Machine.execSetOpChunkBoundary eng s
  | .setOpResume eng => Sys2Proof.Machine.execSetOpResume eng s
  | .setOpComplete ctx num => Sys2Proof.Machine.execSetOpComplete ctx num s
  | .append ctx num => Sys2Proof.Machine.execAppend ctx num s
  | .attendFetch ctx num => Sys2Proof.Machine.execAttendFetch ctx num s
  | .evictTruncate ctx num => Sys2Proof.Machine.execEvictTruncate ctx num s
  | .evictLowestScored ctx num => Sys2Proof.Machine.execEvictLowestScored ctx num s
  | .evictOnePosition ctx num => Sys2Proof.Machine.execEvictOnePosition ctx num s
  | .free ctx num => Sys2Proof.Machine.execFree ctx num s
  | .allGather ctx num => Sys2Proof.Machine.execAllGather ctx num s
  | .reduce ctx num => Sys2Proof.Machine.execReduce ctx num s
  | .reduceCombine ctx num => Sys2Proof.Machine.execReduceCombine ctx num s
  | .doorbellWrite port ctx val => Sys2Proof.Machine.execDoorbellWrite port ctx val s
  | .cqHeadWrite port ctx val => Sys2Proof.Machine.execCqHeadWrite port ctx val s
  | .tailMirrorWrite port ctx val => Sys2Proof.Machine.execTailMirrorWrite port ctx val s
  | .ctxEnable port ctx => Sys2Proof.Machine.execCtxEnable port ctx s
  | .ctxDisable port ctx => Sys2Proof.Machine.execCtxDisable port ctx s
  | .ctxDrainComplete ctx => Sys2Proof.Machine.execCtxDrainComplete ctx s
  | .ctxConfigWrite port ctx off val => Sys2Proof.Machine.execCtxConfigWrite port ctx off val s
  | .slotCfgWrite port slot val => Sys2Proof.Machine.execSlotCfgWrite port slot val s
  | .descriptorFetch ctx => Sys2Proof.Machine.execDescriptorFetch ctx s
  | .kernel ctx num => Sys2Proof.Machine.execKernel ctx num s
  | .copy ctx num => Sys2Proof.Machine.execCopy ctx num s
  | .copyFill ctx num => Sys2Proof.Machine.execCopyFill ctx num s
  | .jobBegin ctx num => Sys2Proof.Machine.execJobBegin ctx num s
  | .jobEnd ctx num => Sys2Proof.Machine.execJobEnd ctx num s
  | .fence ctx num => Sys2Proof.Machine.execFence ctx num s
  | .signalSet ctx num => Sys2Proof.Machine.execSignalSet ctx num s
  | .signalAdd ctx num => Sys2Proof.Machine.execSignalAdd ctx num s
  | .signalMax ctx num => Sys2Proof.Machine.execSignalMax ctx num s
  | .wait ctx num => Sys2Proof.Machine.execWait ctx num s
  | .waitReevaluate ctx num => Sys2Proof.Machine.execWaitReevaluate ctx num s
  | .waitTimeout ctx num => Sys2Proof.Machine.execWaitTimeout ctx num s
  | .timestamp ctx num => Sys2Proof.Machine.execTimestamp ctx num s
  | .resultPost ctx num => Sys2Proof.Machine.execResultPost ctx num s
  | .completionRecord ctx num => Sys2Proof.Machine.execCompletionRecord ctx num s
  | .jobAbort ctx => Sys2Proof.Machine.execJobAbort ctx s
  | .jobQuiesced ctx => Sys2Proof.Machine.execJobQuiesced ctx s
  | .jobDeadline ctx => Sys2Proof.Machine.execJobDeadline ctx s
  | .shEnable port val => Sys2Proof.Machine.execShEnable port val s
  | .shDisable port val => Sys2Proof.Machine.execShDisable port val s
  | .shFreeBeforeWrite port val => Sys2Proof.Machine.execShFreeBeforeWrite port val s
  | .csi2FrameStart cam vc dt => Sys2Proof.Machine.execCsi2FrameStart cam vc dt s
  | .csi2PixelPacket cam vc dt data fault => Sys2Proof.Machine.execCsi2PixelPacket cam vc dt data fault s
  | .csi2FrameEnd cam vc dt => Sys2Proof.Machine.execCsi2FrameEnd cam vc dt s
  | .frameEndTimeout sens => Sys2Proof.Machine.execFrameEndTimeout sens s
  | .hubEthFrame rx => Sys2Proof.Machine.execHubEthFrame rx s
  | .spiTransferTimer sens => Sys2Proof.Machine.execSpiTransferTimer sens s
  | .drdyEdge line => Sys2Proof.Machine.execDrdyEdge line s
  | .spiTransferComplete sens data => Sys2Proof.Machine.execSpiTransferComplete sens data s
  | .uartRecord uart data ago fault => Sys2Proof.Machine.execUartRecord uart data ago fault s
  | .windowEnd => Sys2Proof.Machine.execWindowEnd s
  | .waitLimitExpiry => Sys2Proof.Machine.execWaitLimitExpiry s
  | .instantLaunch => Sys2Proof.Machine.execInstantLaunch s
  | .tick m => Sys2Proof.Machine.execTick m s
  | .triggerEdge out => Sys2Proof.Machine.execTriggerEdge out s
  | .triggerPulseEnd out => Sys2Proof.Machine.execTriggerPulseEnd out s
  | .planEnable port val => Sys2Proof.Machine.execPlanEnable port val s
  | .planDisable port val => Sys2Proof.Machine.execPlanDisable port val s
  | .planCountUpdate => Sys2Proof.Machine.execPlanCountUpdate s
  | .pathCheck pc => Sys2Proof.Machine.execPathCheck pc s
  | .checkResult pc => Sys2Proof.Machine.execCheckResult pc s
  | .epochPublish ctx num => Sys2Proof.Machine.execEpochPublish ctx num s
  | .epochPublishComplete ctx num => Sys2Proof.Machine.execEpochPublishComplete ctx num s
  | .planDeadline => Sys2Proof.Machine.execPlanDeadline s
  | .sealRecheckComplete => Sys2Proof.Machine.execSealRecheckComplete s
  | .cacheLookup pc heads ecc => Sys2Proof.Machine.execCacheLookup pc heads ecc s
  | .readForward pc => Sys2Proof.Machine.execReadForward pc s
  | .mcCommandIssue pc met refresh => Sys2Proof.Machine.execMcCommandIssue pc met refresh s
  | .stackReadData pc seq codes => Sys2Proof.Machine.execStackReadData pc seq codes s
  | .refreshDue pc => Sys2Proof.Machine.execRefreshDue pc s
  | .parityError pc replays => Sys2Proof.Machine.execParityError pc replays s
  | .mcReinit port pc => Sys2Proof.Machine.execMcReinit port pc s
  | .reinitComplete pc ok => Sys2Proof.Machine.execReinitComplete pc ok s
  | .scrubComplete pc => Sys2Proof.Machine.execScrubComplete pc s
  | .delayCommit port pc val => Sys2Proof.Machine.execDelayCommit port pc val s
  | .delayCommitApply pc => Sys2Proof.Machine.execDelayCommitApply pc s
  | .stackTemperatureRead stack own => Sys2Proof.Machine.execStackTemperatureRead stack own s
  | .bandStaleTimeout pc => Sys2Proof.Machine.execBandStaleTimeout pc s
  | .cleanAll port => Sys2Proof.Machine.execCleanAll port s
  | .cleanInvAll port => Sys2Proof.Machine.execCleanInvAll port s
  | .maintenanceComplete => Sys2Proof.Machine.execMaintenanceComplete s
  | .urgencyChange master level => Sys2Proof.Machine.execUrgencyChange master level s
  | .occupancyShed pc => Sys2Proof.Machine.execOccupancyShed pc s
  | .qosConfigWrite port off val => Sys2Proof.Machine.execQosConfigWrite port off val s
  | .skinkFrame conn dir bundle frame => Sys2Proof.Machine.execSkinkFrame conn dir bundle frame s
  | .nak conn dir seq => Sys2Proof.Machine.execNak conn dir seq s
  | .sbStateSend conn side rep => Sys2Proof.Machine.execSbStateSend conn side rep s
  | .sbState conn side rep => Sys2Proof.Machine.execSbState conn side rep s
  | .quarantineMessage conn lost cause => Sys2Proof.Machine.execQuarantineMessage conn lost cause s
  | .testStart conn dirs bundles slot => Sys2Proof.Machine.execTestStart conn dirs bundles slot s
  | .laneTestComplete conn runs => Sys2Proof.Machine.execLaneTestComplete conn runs s
  | .mapSummary conn side xch bad => Sys2Proof.Machine.execMapSummary conn side xch bad s
  | .laneMap conn side xch bundle good => Sys2Proof.Machine.execLaneMap conn side xch bundle good s
  | .confirm conn side xch crc => Sys2Proof.Machine.execConfirm conn side xch crc s
  | .rejoinReq die count => Sys2Proof.Machine.execRejoinReq die count s
  | .rejoinCommit die cycle => Sys2Proof.Machine.execRejoinCommit die cycle s
  | .nack conn side seq typ => Sys2Proof.Machine.execNack conn side seq typ s
  | .sidebandLost conn => Sys2Proof.Machine.execSidebandLost conn s
  | .forwardedClockLoss conn => Sys2Proof.Machine.execForwardedClockLoss conn s
  | .rspTimeout conn us => Sys2Proof.Machine.execRspTimeout conn us s
  | .quarantineSweepComplete die done discarded => Sys2Proof.Machine.execQuarantineSweepComplete die done discarded s
  | .quar port mask => Sys2Proof.Machine.execQuar port mask s
  | .rejoin port mask => Sys2Proof.Machine.execRejoin port mask s
  | .dlCfgWrite port link val => Sys2Proof.Machine.execDlCfgWrite port link val s
  | .deviceLinkFlit link head fixed body crc => Sys2Proof.Machine.execDeviceLinkFlit link head fixed body crc s
  | .laneLoss link bad => Sys2Proof.Machine.execLaneLoss link bad s
  | .linkRetrainComplete link ok => Sys2Proof.Machine.execLinkRetrainComplete link ok s
  | .chEnable port => Sys2Proof.Machine.execChEnable port s
  | .chDisable port => Sys2Proof.Machine.execChDisable port s
  | .helloSend => Sys2Proof.Machine.execHelloSend s
  | .hello link origin seq ok cfg adj => Sys2Proof.Machine.execHello link origin seq ok cfg adj s
  | .discoveryEnd => Sys2Proof.Machine.execDiscoveryEnd s
  | .heartbeatSend => Sys2Proof.Machine.execHeartbeatSend s
  | .heartbeat link origin ok view members sent => Sys2Proof.Machine.execHeartbeat link origin ok view members sent s
  | .heartbeatMiss link => Sys2Proof.Machine.execHeartbeatMiss link s
  | .view link origin seq ok num set => Sys2Proof.Machine.execView link origin seq ok num set s
  | .viewReflood => Sys2Proof.Machine.execViewReflood s
  | .agreementRestart => Sys2Proof.Machine.execAgreementRestart s
  | .barrierArrival => Sys2Proof.Machine.execBarrierArrival s
  | .arrive link origin seq ok num => Sys2Proof.Machine.execArrive link origin seq ok num s
  | .barrierLate num => Sys2Proof.Machine.execBarrierLate num s
  | .probe link trips => Sys2Proof.Machine.execProbe link trips s
  | .peerResponseTimeout req us => Sys2Proof.Machine.execPeerResponseTimeout req us s
  | .islandPowerUp up => Sys2Proof.Machine.execIslandPowerUp up s
  | .islandImageVerify isl ok xl => Sys2Proof.Machine.execIslandImageVerify isl ok xl s
  | .islandImageWaitTimeout isl => Sys2Proof.Machine.execIslandImageWaitTimeout isl s
  | .islandTrip isl code heal => Sys2Proof.Machine.execIslandTrip isl code heal s
  | .islandSelfRestart isl => Sys2Proof.Machine.execIslandSelfRestart isl s
  | .siRestart port isl => Sys2Proof.Machine.execSiRestart port isl s
  | .coreDisagree isl core => Sys2Proof.Machine.execCoreDisagree isl core s
  | .checkpoint isl => Sys2Proof.Machine.execCheckpoint isl s
  | .moultReq isl paired => Sys2Proof.Machine.execMoultReq isl paired s
  | .moultComplete isl => Sys2Proof.Machine.execMoultComplete isl s
  | .islandDebugCommand isl core cmd => Sys2Proof.Machine.execIslandDebugCommand isl core cmd s
  | .worldNotice isl => Sys2Proof.Machine.execWorldNotice isl s
  | .worldReadComplete isl => Sys2Proof.Machine.execWorldReadComplete isl s
  | .trajectoryNotice isl => Sys2Proof.Machine.execTrajectoryNotice isl s
  | .trajectoryReadComplete isl => Sys2Proof.Machine.execTrajectoryReadComplete isl s
  | .messageTransmit isl => Sys2Proof.Machine.execMessageTransmit isl s
  | .notReadyMessage isl => Sys2Proof.Machine.execNotReadyMessage isl s
  | .eftRun isl => Sys2Proof.Machine.execEftRun isl s
  | .eftClear isl => Sys2Proof.Machine.execEftClear isl s
  | .outputTimeout isl => Sys2Proof.Machine.execOutputTimeout isl s
  | .crosslinkHeartbeatSend isl => Sys2Proof.Machine.execCrosslinkHeartbeatSend isl s
  | .crosslinkWord isl word => Sys2Proof.Machine.execCrosslinkWord isl word s
  | .crosslinkSilence isl => Sys2Proof.Machine.execCrosslinkSilence isl s
  | .statusMailboxRefresh isl => Sys2Proof.Machine.execStatusMailboxRefresh isl s
  | .siConfigWrite port isl off val => Sys2Proof.Machine.execSiConfigWrite port isl off val s
  | .spiStatusRead isl cmd => Sys2Proof.Machine.execSpiStatusRead isl cmd s
  | .pmVeto isl on => Sys2Proof.Machine.execPmVeto isl on s
  | .canReceive isl ctl pass room data => Sys2Proof.Machine.execCanReceive isl ctl pass room data s
  | .canBusOff isl ctl => Sys2Proof.Machine.execCanBusOff isl ctl s
  | .canBusOffRecovery isl ctl => Sys2Proof.Machine.execCanBusOffRecovery isl ctl s
  | .islandEthReceive isl => Sys2Proof.Machine.execIslandEthReceive isl s
  | .testDue eng => Sys2Proof.Machine.execTestDue eng s
  | .testSliceComplete eng got want => Sys2Proof.Machine.execTestSliceComplete eng got want s
  | .testDeadline eng => Sys2Proof.Machine.execTestDeadline eng s
  | .retest port eng => Sys2Proof.Machine.execRetest port eng s
  | .testEnable port => Sys2Proof.Machine.execTestEnable port s
  | .testDisable port => Sys2Proof.Machine.execTestDisable port s
  | .idleEntry us => Sys2Proof.Machine.execIdleEntry us s
  | .powerRequestRetain port busy => Sys2Proof.Machine.execPowerRequestRetain port busy s
  | .powerRequestBrumation port busy => Sys2Proof.Machine.execPowerRequestBrumation port busy s
  | .powerRequestOff port busy => Sys2Proof.Machine.execPowerRequestOff port busy s
  | .forcedOff port => Sys2Proof.Machine.execForcedOff port s
  | .hartParkDeadline => Sys2Proof.Machine.execHartParkDeadline s
  | .shutdownSelfTestComplete fails hbm us => Sys2Proof.Machine.execShutdownSelfTestComplete fails hbm us s
  | .powerEntryCommit => Sys2Proof.Machine.execPowerEntryCommit s
  | .powerEntryComplete => Sys2Proof.Machine.execPowerEntryComplete s
  | .dieRetainEntry port die => Sys2Proof.Machine.execDieRetainEntry port die s
  | .dieRetainExit port die => Sys2Proof.Machine.execDieRetainExit port die s
  | .gpioWake line level => Sys2Proof.Machine.execGpioWake line level s
  | .wakeTimer => Sys2Proof.Machine.execWakeTimer s
  | .islandWakeRequest isl => Sys2Proof.Machine.execIslandWakeRequest isl s
  | .powerExitComplete => Sys2Proof.Machine.execPowerExitComplete s
  | .pmClkWrite port val => Sys2Proof.Machine.execPmClkWrite port val s
  | .clockLevelSwitch hart mv => Sys2Proof.Machine.execClockLevelSwitch hart mv s
  | .unitClockGate eng cycles => Sys2Proof.Machine.execUnitClockGate eng cycles s
  | .vinMainLoss us => Sys2Proof.Machine.execVinMainLoss us s
  | .vinAonLoss => Sys2Proof.Machine.execVinAonLoss s
  | .pllLockLoss die => Sys2Proof.Machine.execPllLockLoss die s
  | .brumationRun vals => Sys2Proof.Machine.execBrumationRun vals s
  | .brumationCameraFrame bits width samples => Sys2Proof.Machine.execBrumationCameraFrame bits width samples s
  | .dieSensorSample sensor val => Sys2Proof.Machine.execDieSensorSample sensor val s
  | .thermalTick power compute => Sys2Proof.Machine.execThermalTick power compute s
  | .throttleLevelFall => Sys2Proof.Machine.execThrottleLevelFall s
  | .clampPulse => Sys2Proof.Machine.execClampPulse s
  | .clampRelease => Sys2Proof.Machine.execClampRelease s
  | .clampClr port => Sys2Proof.Machine.execClampClr port s
  | .haltEnd => Sys2Proof.Machine.execHaltEnd s
  | .coolantSample input val => Sys2Proof.Machine.execCoolantSample input val s
  | .coolantInputTimeout input => Sys2Proof.Machine.execCoolantInputTimeout input s
  | .flowPulse widthUs => Sys2Proof.Machine.execFlowPulse widthUs s
  | .wearSample => Sys2Proof.Machine.execWearSample s
  | .wearLock port => Sys2Proof.Machine.execWearLock port s
  | .resetNRise boot => Sys2Proof.Machine.execResetNRise boot s
  | .resetNAssert us => Sys2Proof.Machine.execResetNAssert us s
  | .tadpoleSessionHeader => Sys2Proof.Machine.execTadpoleSessionHeader s
  | .tadpoleTelemetry vin => Sys2Proof.Machine.execTadpoleTelemetry vin s
  | .jnAppend port typ key len => Sys2Proof.Machine.execJnAppend port typ key len s
  | .appendCommit ok => Sys2Proof.Machine.execAppendCommit ok s
  | .compactionStart => Sys2Proof.Machine.execCompactionStart s
  | .compactionComplete => Sys2Proof.Machine.execCompactionComplete s
  | .jnOffline port => Sys2Proof.Machine.execJnOffline port s
  | .jnOnline port => Sys2Proof.Machine.execJnOnline port s
  | .fuseAdvanceSvn port arg => Sys2Proof.Machine.execFuseAdvanceSvn port arg s
  | .fuseRevokeKey port arg => Sys2Proof.Machine.execFuseRevokeKey port arg s
  | .xspiRead port addr len => Sys2Proof.Machine.execXspiRead port addr len s
  | .xspiProgram port addr len => Sys2Proof.Machine.execXspiProgram port addr len s
  | .xspiErase port addr => Sys2Proof.Machine.execXspiErase port addr s
  | .xspiCommandComplete => Sys2Proof.Machine.execXspiCommandComplete s
  | .traceRecordArrival eng => Sys2Proof.Machine.execTraceRecordArrival eng s
  | .trTrig port => Sys2Proof.Machine.execTrTrig port s
  | .traceFreeze => Sys2Proof.Machine.execTraceFreeze s
  | .trArm port => Sys2Proof.Machine.execTrArm port s
  | .trStop port => Sys2Proof.Machine.execTrStop port s
  | .trDump port val => Sys2Proof.Machine.execTrDump port val s
  | .traceDumpComplete => Sys2Proof.Machine.execTraceDumpComplete s
  | .traceStreamWrite => Sys2Proof.Machine.execTraceStreamWrite s
  | .authChal port level => Sys2Proof.Machine.execAuthChal port level s
  | .authVerify port => Sys2Proof.Machine.execAuthVerify port s
  | .authVerifyComplete => Sys2Proof.Machine.execAuthVerifyComplete s
  | .authLock port => Sys2Proof.Machine.execAuthLock port s
  | .debugModuleAccess port dm addr data => Sys2Proof.Machine.execDebugModuleAccess port dm addr data s
  | .debugSystemBusAccess addr req => Sys2Proof.Machine.execDebugSystemBusAccess addr req s
  | .jtagIdcode => Sys2Proof.Machine.execJtagIdcode s
  | .jtagBypass => Sys2Proof.Machine.execJtagBypass s
  | .jtagSamplePreload pins preload => Sys2Proof.Machine.execJtagSamplePreload pins preload s
  | .jtagExtest => Sys2Proof.Machine.execJtagExtest s
  | .gptpMessage mac chosen paired ofs => Sys2Proof.Machine.execGptpMessage mac chosen paired ofs s
  | .gptpTimeout => Sys2Proof.Machine.execGptpTimeout s
  | .ppsEdge falling widthUs => Sys2Proof.Machine.execPpsEdge falling widthUs s
  | .ppsLost => Sys2Proof.Machine.execPpsLost s
  | .ppsOutSecond => Sys2Proof.Machine.execPpsOutSecond s
  | .ioTimeSetWrite port val => Sys2Proof.Machine.execIoTimeSetWrite port val s
  | .gpioInputChange line level stableUs => Sys2Proof.Machine.execGpioInputChange line level stableUs s
  | .pcieCompletion hart data ep => Sys2Proof.Machine.execPcieCompletion hart data ep s
  | .pcieCompletionTimeout req => Sys2Proof.Machine.execPcieCompletionTimeout req s
  | .islandSupplyLoss isl => Sys2Proof.Machine.execIslandSupplyLoss isl s
  | .hartWfi hart => Sys2Proof.Machine.execHartWfi hart s
  | .dlTrainingComplete link ok width rate nbr nbrPort => Sys2Proof.Machine.execDlTrainingComplete link ok width rate nbr nbrPort s
  | .pcieLinkChange up width rate => Sys2Proof.Machine.execPcieLinkChange up width rate s
  | .vinMainInWindow boot => Sys2Proof.Machine.execVinMainInWindow boot s
  | .brumationCameraTimeout => Sys2Proof.Machine.execBrumationCameraTimeout s
  | .messageTransmitComplete isl ctl same => Sys2Proof.Machine.execMessageTransmitComplete isl ctl same s
  | .completionRetire die => Sys2Proof.Machine.execCompletionRetire die s

end Sys2Proof.Machine
end

