-- ==== Sys2Proof/WellFormed.lean ====
section
/-!
DEFINITION. Well-formed commands: each operand that names a unit, a place or a field of the part lies in the
range the manual gives (Tables 0.5, 0.6, 7.1, 12.1, 13.1). Operands that carry what arrives from outside are
free. A command that is not well formed names nothing of the part; the meanings are stated for those that are.
-/
namespace Sys2Proof

/-- A requester the part has (R152, R308, Table 1.1). [DESIGN CHOICE, log entry 5] -/
def portOk : Port → Bool
  | .hart h => decide (h < 16)
  | .user h => decide (h < 16)
  | .pcie => true
  | .debug => true
  | .peer d => decide (d < 16)
  | .island i => decide (i < 2)

/-- A requester of an outbound request. -/
def peerReqOk : PeerReq → Bool
  | .tile t addr => decide (t < 128) && decide (addr < 2 ^ 44)
  | .engine e c n => decide (e < 176) && decide (c < 64) && decide (n < 2 ^ 32)
  | .hart h => decide (h < 16)

/-- A memory request of at least one byte; an atomic is on 4 or 8 bytes. -/
def memReqOk : MemReq → Bool
  | .read n => decide (0 < n)
  | .write bs => !bs.isEmpty
  | .amo _ n _ => n == 4 || n == 8

/-- A COLLECTIVE's head: fields of Table 6.8, and a rank of its list. -/
def collHeadOk (h : CollHead) : Bool :=
  decide (h.tag < 2 ^ 32) && decide (h.cop < 256) && decide (h.red < 4) && decide (h.fmt < 16) && decide (h.elems < 2 ^ 24)
  && h.list.all (fun e => decide (e.1 < 256 ∧ e.2 < 256)) && decide (h.rank < h.list.length) && decide (h.list.length ≤ 64)

/-- A command is well formed. [DESIGN CHOICE, log entry 5] -/
def Instr.wf : Instr → Bool
  | .registerWrite port addr _ => portOk port && decide (addr < 2 ^ 44)
  | .lowHalfWrite port addr half => portOk port && decide (addr < 2 ^ 44) && decide (half < 2 ^ 32)
  | .illegalRegisterAccess port addr _ => portOk port && decide (addr < 2 ^ 44)
  | .counterClr port addr => portOk port && decide (addr < 2 ^ 44)
  | .globalCounterAccess port addr _ => portOk port && decide (addr < 2 ^ 44)
  | .coreMemoryAccess hart addr req => decide (hart < 16) && decide (addr < 2 ^ 44) && memReqOk req
  | .pcieInboundRequest addr req _ => decide (addr < 2 ^ 44) && memReqOk req
  | .peerInboundRequest src addr req mark =>
    decide (src < 16) && decide (addr < 2 ^ 44) && (memReqOk req || (mark.coll.isSome && req == .write [])) && mark.coll.all collHeadOk
  | .dtimeSidebandCheck die => decide (die < 4)
  | .dtimeLoad die => decide (die < 4)
  | .dtimeInc die _ => decide (die < 4)
  | .timeMessageSend isl => decide (isl < 2)
  | .timeMessage isl => decide (isl < 2)
  | .holdoverTimeout isl => decide (isl < 2)
  | .sliceGrant die => decide (die < 5)
  | .imageLoadComplete tile => decide (tile < 128)
  | .load tile => decide (tile < 128)
  | .store tile => decide (tile < 128)
  | .matmul tile => decide (tile < 128)
  | .convConvolution tile => decide (tile < 128)
  | .convMaxPool tile => decide (tile < 128)
  | .convAvgPool tile => decide (tile < 128)
  | .convMinPool tile => decide (tile < 128)
  | .convGridSample tile => decide (tile < 128)
  | .vectCopy tile => decide (tile < 128)
  | .vectAdd tile => decide (tile < 128)
  | .vectSub tile => decide (tile < 128)
  | .vectMul tile => decide (tile < 128)
  | .vectFma tile => decide (tile < 128)
  | .vectMax tile => decide (tile < 128)
  | .vectMin tile => decide (tile < 128)
  | .vectAbs tile => decide (tile < 128)
  | .vectCmp tile => decide (tile < 128)
  | .vectSelect tile => decide (tile < 128)
  | .vectExp tile => decide (tile < 128)
  | .vectRcp tile => decide (tile < 128)
  | .vectRsqrt tile => decide (tile < 128)
  | .vectConvert tile => decide (tile < 128)
  | .vectAct tile => decide (tile < 128)
  | .vectRsum tile => decide (tile < 128)
  | .vectRmax tile => decide (tile < 128)
  | .vectRmin tile => decide (tile < 128)
  | .vectSmxStep tile => decide (tile < 128)
  | .vectMeanvar tile => decide (tile < 128)
  | .vectNorm tile => decide (tile < 128)
  | .postFloat tile => decide (tile < 128)
  | .postInt tile => decide (tile < 128)
  | .postArgmax tile => decide (tile < 128)
  | .loop tile => decide (tile < 128)
  | .leap tile => decide (tile < 128)
  | .leapOut tile => decide (tile < 128)
  | .leapIn tile => decide (tile < 128)
  | .sig tile => decide (tile < 128)
  | .entryComplete tile fin => decide (tile < 128) && fin.flips.all (fun f => decide (f.word < 262144))
  | .tileFaultClear tile => decide (tile < 128)
  | .sliceComplete tile => decide (tile < 128)
  | .preemptRequest die => decide (die < 4)
  | .lateLeapTimeout tile => decide (tile < 128)
  | .dmaYield eng => decide (eng < 32)
  | .hashBuild ctx num => decide (ctx < 64) && decide (num < 2 ^ 32)
  | .hashQuery ctx num => decide (ctx < 64) && decide (num < 2 ^ 32)
  | .neighbours ctx num => decide (ctx < 64) && decide (num < 2 ^ 32)
  | .knn ctx num => decide (ctx < 64) && decide (num < 2 ^ 32)
  | .ball ctx num => decide (ctx < 64) && decide (num < 2 ^ 32)
  | .sort ctx num => decide (ctx < 64) && decide (num < 2 ^ 32)
  | .topk ctx num => decide (ctx < 64) && decide (num < 2 ^ 32)
  | .segmentReduce ctx num => decide (ctx < 64) && decide (num < 2 ^ 32)
  | .gatherRows ctx num => decide (ctx < 64) && decide (num < 2 ^ 32)
  | .scatterGrid ctx num => decide (ctx < 64) && decide (num < 2 ^ 32)
  | .tableBuildWaitEnd ctx num => decide (ctx < 64) && decide (num < 2 ^ 32)
  | .setOpChunkBoundary at' => decide (at'.eng < 16) && at'.flips.all (fun f => decide (f.word < 1441792))
  | .setOpResume eng => decide (eng < 16)
  | .setOpComplete ctx num => decide (ctx < 64) && decide (num < 2 ^ 32)
  | .append ctx num => decide (ctx < 64) && decide (num < 2 ^ 32)
  | .attendFetch ctx num => decide (ctx < 64) && decide (num < 2 ^ 32)
  | .evictTruncate ctx num => decide (ctx < 64) && decide (num < 2 ^ 32)
  | .evictLowestScored ctx num => decide (ctx < 64) && decide (num < 2 ^ 32)
  | .evictOnePosition ctx num => decide (ctx < 64) && decide (num < 2 ^ 32)
  | .free ctx num => decide (ctx < 64) && decide (num < 2 ^ 32)
  | .allGather ctx num => decide (ctx < 64) && decide (num < 2 ^ 32)
  | .reduce ctx num => decide (ctx < 64) && decide (num < 2 ^ 32)
  | .reduceCombine ctx num => decide (ctx < 64) && decide (num < 2 ^ 32)
  | .doorbellWrite port ctx val => portOk port && decide (ctx < 64) && decide (val < 2 ^ 32)
  | .cqHeadWrite port ctx val => portOk port && decide (ctx < 64) && decide (val < 2 ^ 32)
  | .tailMirrorWrite port ctx val => portOk port && decide (ctx < 64) && decide (val < 2 ^ 64)
  | .ctxEnable port ctx => portOk port && decide (ctx < 64)
  | .ctxDisable port ctx => portOk port && decide (ctx < 64)
  | .ctxDrainComplete ctx => decide (ctx < 64)
  | .ctxConfigWrite port ctx off _ => portOk port && decide (ctx < 64) && decide (off < 65536) && off % 8 == 0
  | .slotCfgWrite port slot _ => portOk port && decide (slot < 64)
  | .descriptorFetch ctx => decide (ctx < 64)
  | .kernel ctx num => decide (ctx < 64) && decide (num < 2 ^ 32)
  | .copy ctx num => decide (ctx < 64) && decide (num < 2 ^ 32)
  | .copyFill ctx num => decide (ctx < 64) && decide (num < 2 ^ 32)
  | .jobBegin ctx num => decide (ctx < 64) && decide (num < 2 ^ 32)
  | .jobEnd ctx num => decide (ctx < 64) && decide (num < 2 ^ 32)
  | .fence ctx num => decide (ctx < 64) && decide (num < 2 ^ 32)
  | .signalSet ctx num => decide (ctx < 64) && decide (num < 2 ^ 32)
  | .signalAdd ctx num => decide (ctx < 64) && decide (num < 2 ^ 32)
  | .signalMax ctx num => decide (ctx < 64) && decide (num < 2 ^ 32)
  | .wait ctx num => decide (ctx < 64) && decide (num < 2 ^ 32)
  | .waitReevaluate ctx num => decide (ctx < 64) && decide (num < 2 ^ 32)
  | .waitTimeout ctx num => decide (ctx < 64) && decide (num < 2 ^ 32)
  | .timestamp ctx num => decide (ctx < 64) && decide (num < 2 ^ 32)
  | .resultPost ctx num => decide (ctx < 64) && decide (num < 2 ^ 32)
  | .completionRecord ctx num => decide (ctx < 64) && decide (num < 2 ^ 32)
  | .jobAbort ctx => decide (ctx < 64)
  | .jobQuiesced ctx => decide (ctx < 64)
  | .jobDeadline ctx => decide (ctx < 64)
  | .shEnable port _ => portOk port
  | .shDisable port _ => portOk port
  | .shFreeBeforeWrite port _ => portOk port
  | .csi2FrameStart cam vc dt => decide (cam < 16) && decide (vc < 16) && decide (dt < 64)
  | .csi2PixelPacket cam vc dt _ _ => decide (cam < 16) && decide (vc < 16) && decide (dt < 64)
  | .csi2FrameEnd cam vc dt => decide (cam < 16) && decide (vc < 16) && decide (dt < 64)
  | .frameEndTimeout sens => decide (sens < 64)
  | .hubEthFrame _ => true
  | .spiTransferTimer sens => decide (sens < 64)
  | .drdyEdge line => decide (line < 32)
  | .spiTransferComplete sens _ => decide (sens < 64)
  | .uartRecord uart _ _ _ => decide (uart < 4)
  | .windowEnd => true
  | .waitLimitExpiry => true
  | .instantLaunch => true
  | .tick _ => true
  | .triggerEdge out => decide (out < 16)
  | .triggerPulseEnd out => decide (out < 16)
  | .planEnable port _ => portOk port
  | .planDisable port _ => portOk port
  | .planCountUpdate => true
  | .pathCheck pc => decide (pc < 8)
  | .checkResult pc => decide (pc < 8)
  | .epochPublish ctx num => decide (ctx < 64) && decide (num < 2 ^ 32)
  | .epochPublishComplete ctx num => decide (ctx < 64) && decide (num < 2 ^ 32)
  | .planDeadline => true
  | .sealRecheckComplete => true
  | .cacheLookup pc _ _ => decide (pc < 64)
  | .readForward pc => decide (pc < 64)
  | .mcCommandIssue pc _ _ => decide (pc < 64)
  | .stackReadData pc _ _ => decide (pc < 64)
  | .refreshDue pc => decide (pc < 64)
  | .parityError pc _ => decide (pc < 64)
  | .mcReinit port pc => portOk port && decide (pc < 64)
  | .reinitComplete pc _ => decide (pc < 64)
  | .scrubComplete pc => decide (pc < 64)
  | .delayCommit port pc _ => portOk port && decide (pc < 64)
  | .delayCommitApply pc => decide (pc < 64)
  | .stackTemperatureRead stack _ => decide (stack < 2)
  | .bandStaleTimeout pc => decide (pc < 64)
  | .cleanAll port => portOk port
  | .cleanInvAll port => portOk port
  | .maintenanceComplete => true
  | .urgencyChange master _ => decide (master < 72)
  | .occupancyShed pc => decide (pc < 64)
  | .qosConfigWrite port off _ => portOk port && decide (off < 65536) && off % 8 == 0
  | .skinkFrame conn dir bundle frame => decide (conn < 10) && decide (dir < 2) && decide (bundle < 24) && decide (frame.sent < 2 ^ 320) && decide (frame.flips < 2 ^ 320)
  | .nak conn dir _ => decide (conn < 10) && decide (dir < 2)
  | .sbStateSend conn side _ => decide (conn < 10) && decide (side < 2)
  | .sbState conn side _ => decide (conn < 10) && decide (side < 2)
  | .quarantineMessage conn lost _ => decide (conn < 10) && decide (lost < 10)
  | .testStart conn _ _ _ => decide (conn < 10)
  | .laneTestComplete conn _ => decide (conn < 10)
  | .mapSummary conn side _ _ => decide (conn < 10) && decide (side < 2)
  | .laneMap conn side _ bundle _ => decide (conn < 10) && decide (side < 2) && decide (bundle < 24)
  | .confirm conn side _ _ => decide (conn < 10) && decide (side < 2)
  | .rejoinReq die _ => decide (die < 6)
  | .rejoinCommit die _ => decide (die < 6)
  | .nack conn side _ _ => decide (conn < 10) && decide (side < 2)
  | .sidebandLost conn => decide (conn < 10)
  | .forwardedClockLoss conn => decide (conn < 10)
  | .rspTimeout conn _ => decide (conn < 10)
  | .quarantineSweepComplete die _ _ => decide (die < 6)
  | .quar port _ => portOk port
  | .rejoin port _ => portOk port
  | .dlCfgWrite port link _ => portOk port && decide (link < 4)
  | .deviceLinkFlit link head _ body _ => decide (link < 4) && head.length == 8 && body.length == 236
  | .laneLoss link _ => decide (link < 4)
  | .linkRetrainComplete link _ => decide (link < 4)
  | .chEnable port => portOk port
  | .chDisable port => portOk port
  | .helloSend => true
  | .hello link origin _ _ _ _ => decide (link < 4) && decide (origin < 16)
  | .discoveryEnd => true
  | .heartbeatSend => true
  | .heartbeat link origin _ _ _ _ => decide (link < 4) && decide (origin < 16)
  | .heartbeatMiss link => decide (link < 4)
  | .view link origin _ _ num _ => decide (link < 4) && decide (origin < 16) && decide (num < 2 ^ 32)
  | .viewReflood => true
  | .agreementRestart => true
  | .barrierArrival => true
  | .arrive link origin _ _ num => decide (link < 4) && decide (origin < 16) && decide (num < 2 ^ 32)
  | .barrierLate num => decide (num < 2 ^ 32)
  | .probe link _ => decide (link < 4)
  | .peerResponseTimeout req _ => peerReqOk req
  | .islandPowerUp up => decide (up.isl < 2)
  | .islandImageVerify isl _ _ => decide (isl < 2)
  | .islandImageWaitTimeout isl => decide (isl < 2)
  | .islandTrip isl _ _ => decide (isl < 2)
  | .islandSelfRestart isl => decide (isl < 2)
  | .siRestart port isl => portOk port && decide (isl < 2)
  | .coreDisagree isl core => decide (isl < 2) && decide (core < 3)
  | .checkpoint isl => decide (isl < 2)
  | .moultReq isl _ => decide (isl < 2)
  | .moultComplete isl => decide (isl < 2)
  | .islandDebugCommand isl core _ => decide (isl < 2) && decide (core < 3)
  | .worldNotice isl => decide (isl < 2)
  | .worldReadComplete isl => decide (isl < 2)
  | .trajectoryNotice isl => decide (isl < 2)
  | .trajectoryReadComplete isl => decide (isl < 2)
  | .messageTransmit isl => decide (isl < 2)
  | .notReadyMessage isl => decide (isl < 2)
  | .eftRun isl => decide (isl < 2)
  | .eftClear isl => decide (isl < 2)
  | .outputTimeout isl => decide (isl < 2)
  | .crosslinkHeartbeatSend isl => decide (isl < 2)
  | .crosslinkWord isl _ => decide (isl < 2)
  | .crosslinkSilence isl => decide (isl < 2)
  | .statusMailboxRefresh isl => decide (isl < 2)
  | .siConfigWrite port isl off _ => portOk port && decide (isl < 2) && decide (off < 65536) && off % 8 == 0
  | .spiStatusRead isl _ => decide (isl < 2)
  | .pmVeto isl _ => decide (isl < 2)
  | .canReceive isl ctl _ _ _ => decide (isl < 2) && decide (ctl < 4)
  | .canBusOff isl ctl => decide (isl < 2) && decide (ctl < 4)
  | .canBusOffRecovery isl ctl => decide (isl < 2) && decide (ctl < 4)
  | .islandEthReceive isl => decide (isl < 2)
  | .testDue eng => decide (eng < 184)
  | .testSliceComplete eng _ _ => decide (eng < 184)
  | .testDeadline eng => decide (eng < 184)
  | .retest port eng => portOk port && decide (eng < 184)
  | .testEnable port => portOk port
  | .testDisable port => portOk port
  | .idleEntry _ => true
  | .powerRequestRetain port _ => portOk port
  | .powerRequestBrumation port _ => portOk port
  | .powerRequestOff port _ => portOk port
  | .forcedOff port => portOk port
  | .hartParkDeadline => true
  | .shutdownSelfTestComplete _ _ _ => true
  | .powerEntryCommit => true
  | .powerEntryComplete => true
  | .dieRetainEntry port die => portOk port && decide (die < 4)
  | .dieRetainExit port die => portOk port && decide (die < 4)
  | .gpioWake line _ => decide (line < 32)
  | .wakeTimer => true
  | .islandWakeRequest isl => decide (isl < 2)
  | .powerExitComplete => true
  | .pmClkWrite port _ => portOk port
  | .clockLevelSwitch _ _ => true
  | .unitClockGate eng _ => decide (eng < 184)
  | .vinMainLoss _ => true
  | .vinAonLoss => true
  | .pllLockLoss die => die.all (fun d => decide (d < 4))
  | .brumationRun _ => true
  | .brumationCameraFrame _ _ _ => true
  | .dieSensorSample sensor _ => decide (sensor < 30)
  | .thermalTick _ _ => true
  | .throttleLevelFall => true
  | .clampPulse => true
  | .clampRelease => true
  | .clampClr port => portOk port
  | .haltEnd => true
  | .coolantSample input _ => decide (input < 3)
  | .coolantInputTimeout input => decide (input < 3)
  | .flowPulse _ => true
  | .wearSample => true
  | .wearLock port => portOk port
  | .resetNRise _ => true
  | .resetNAssert _ => true
  | .tadpoleSessionHeader => true
  | .tadpoleTelemetry _ => true
  | .jnAppend port _ _ _ => portOk port
  | .appendCommit _ => true
  | .compactionStart => true
  | .compactionComplete => true
  | .jnOffline port => portOk port
  | .jnOnline port => portOk port
  | .fuseAdvanceSvn port _ => portOk port
  | .fuseRevokeKey port _ => portOk port
  | .xspiRead port addr _ => portOk port && decide (addr < 2 ^ 28)
  | .xspiProgram port addr _ => portOk port && decide (addr < 2 ^ 28)
  | .xspiErase port addr => portOk port && decide (addr < 2 ^ 28)
  | .xspiCommandComplete => true
  | .traceRecordArrival eng => decide (eng < 256)
  | .trTrig port => portOk port
  | .traceFreeze => true
  | .trArm port => portOk port
  | .trStop port => portOk port
  | .trDump port _ => portOk port
  | .traceDumpComplete => true
  | .traceStreamWrite => true
  | .authChal port _ => portOk port
  | .authVerify port => portOk port
  | .authVerifyComplete => true
  | .authLock port => portOk port
  | .debugModuleAccess port dm addr _ => port.all portOk && decide (dm < 3) && decide (addr < 3584)
  | .debugSystemBusAccess addr req => decide (addr < 2 ^ 44) && memReqOk req
  | .jtagIdcode => true
  | .jtagBypass => true
  | .jtagSamplePreload _ _ => true
  | .jtagExtest => true
  | .gptpMessage mac _ _ _ => decide (mac < 4)
  | .gptpTimeout => true
  | .ppsEdge _ _ => true
  | .ppsLost => true
  | .ppsOutSecond => true
  | .ioTimeSetWrite port _ => portOk port
  | .gpioInputChange line _ _ => decide (line < 32)
  | .pcieCompletion hart _ _ => decide (hart < 16)
  | .pcieCompletionTimeout req => peerReqOk req
  | .islandSupplyLoss isl => decide (isl < 2)
  | .hartWfi hart => decide (hart < 16)
  | .dlTrainingComplete link _ _ _ nbr nbrPort => decide (link < 4) && decide (nbr < 16) && decide (nbrPort < 4)
  | .pcieLinkChange _ _ _ => true
  | .vinMainInWindow _ => true
  | .brumationCameraTimeout => true
  | .messageTransmitComplete isl ctl _ => decide (isl < 2) && decide (ctl < 5)
  | .completionRetire die => decide (die < 4)

end Sys2Proof
end

