-- ==== Sys2Proof/Safety.lean ====
section
/-!
DEFINITION. What claims take a sound state of the part to be: memory and registers in their canonical form,
so that equal contents are equal data; and what may happen to what is fused.
-/
namespace Sys2Proof.Machine

/-- Memory is in its canonical form. -/
def Memory.wf (m : Mem) : Bool := m.wf

/-- Memory and the register map are in their canonical form. -/
def Canonical (s : State) : Prop := Memory.wf s.mem = true ∧ regsOk s.regs = true

/-- Every waiting command is well formed. -/
def QueueWf (s : State) : Prop := ∀ c ∈ s.pending, c.wf = true

/-- What fuses allow (R404, R436, R465): what identifies the part and what is burned at test stays as it is,
the fused SVN never falls, and a revoked key slot stays revoked. -/
structure FusesKept (a b : Fuses) : Prop where
  hbmGib   : b.hbmGib = a.hbmGib
  variant  : b.variant = a.variant
  revMajor : b.revMajor = a.revMajor
  revMinor : b.revMinor = a.revMinor
  uid      : b.uid = a.uid
  keyHash  : b.keyHash = a.keyHash
  dbgKeys  : b.dbgKeys = a.dbgKeys
  delays   : b.delays = a.delays
  svn      : a.svn ≤ b.svn
  revoked  : ∀ k, a.revoked.getD k false = true → b.revoked.getD k false = true

end Sys2Proof.Machine
end

