-- ==== Sys2Proof/Certificates/Slice0/Obligations.lean ====
section
/-!
DEFINITION. The statements for the provers. The helpers name what recurs in them: that a command answers a next
state, that a port's register write is accepted, which registers and bytes changed, and how a counter counts.
-/
open Sys2Proof Sys2Proof.Machine

namespace Sys2Proof.Machine

/-- The command answers a next state of which `P` holds. -/
def Runs (c : Instr) (s : State) (P : State → Prop) : Prop := ∃ t, exec c s = .next t ∧ P t

/-- A register write by port `p` to address `a` is accepted (R3, R9, R152, R432). -/
abbrev State.accepts (s : State) (p : Port) (a : Addr) : Prop := ((s.dropStaged p a).wakeFor p a).portRefusal p .wr a = none

/-- The port's access was performed. -/
def State.did (t : State) (p : Port) : Prop := t.bus.port = p ∧ t.bus.answer = .done

/-- Every register but those listed is as before. -/
def RegsBut (s t : State) (l : List Addr) : Prop := ∀ a, a ∉ l → t.reg a = s.reg a

/-- Every register outside the trace window but those listed is as before: a command that is traced writes the trace
window as well (R424). -/
def RegsTraced (s t : State) (l : List Addr) : Prop := ∀ a, a / 0x10000 ≠ 0x140138 → a ∉ l → t.reg a = s.reg a

/-- A counter field that stops at its largest value has counted `n`. -/
def Counted (s t : State) (a : Addr) (f : Fld) (n : Nat) : Prop := t.rf a f = min (2 ^ f.width - 1) (s.rf a f + n)

/-- The bytes stand in memory from `a` on, and every other byte is as before. -/
def Stored (s t : State) (a : Addr) (bs : List Byte) : Prop :=
  t.mem.read a bs.length = bs ∧ ∀ b, (b < a ∨ a + bs.length ≤ b) → t.mem.byte b = s.mem.byte b

/-- `n` bytes from `a` on lie in populated HBM that a load, a store or an engine may reach. -/
abbrev State.inHbm (s : State) (a n : Nat) : Prop :=
  0 < n ∧ a + n ≤ s.hbmBytes ∧ a + n ≤ 0xC00000000 ∧ ∀ l ∈ unitsOf 64 a n, s.lineErr l = none

/-- No pseudo-channel of the bytes is FENCED or on its way back: a write of them lands (R261). -/
abbrev State.alive (s : State) (a n : Nat) : Prop := ∀ l ∈ unitsOf 64 a n, s.mcDead (pcOf (l * 64)) = false

/-- `n` bytes from `a` on lie in populated HBM and a store to them lands. -/
abbrev State.storable (s : State) (a n : Nat) : Prop := s.inHbm a n ∧ s.alive a n

end Sys2Proof.Machine

/-! ## Register accesses and memory requests -/

/-- R3 and R4: an access of an illegal width or alignment is not performed; a low half is staged and changes no
register, and the high half that follows from the same port writes both halves as one 64-bit write would.
R6 and Table 0.4: a write that the access types alone govern gives a RW field its new value, clears in a W1C field
the bits written 1, keeps a RO field, and changes no other register; an inbound-region register is written while Chorus is
off, and refused with CFG_ERR otherwise.
[Model choices: log entries 10, 11, 12.] -/
def Obligations.RegisterWritesCommitHalvesAndTypes : Prop :=
  (
    ∀ (s : State) (p : Port) (a : Nat),
      (∀ n, regRange a = true → legalAccess a n = false →
        Runs (.illegalRegisterAccess p a n) s (fun t =>
          t.bus.port = p ∧ t.bus.answer = portFail p ∧ t = { s with bus := t.bus }))
      ∧ (∀ l h, a % 8 = 0 → a < 0x1800000000 → s.accepts p a →
        Runs (.lowHalfWrite p a l) s (fun t =>
          t.did p ∧ t.stagedLow p a = some (l % 2 ^ 32) ∧ RegsBut s t [rPM_STATUS] ∧ t.mem = s.mem
          ∧ exec (.registerWrite p a (.high h)) t
              = exec (.registerWrite p a (.full (BitVec.ofNat 64 (h % 2 ^ 32 * 2 ^ 32 + l % 2 ^ 32)))) (s.answered p .done)))
      ∧ (∀ d x, a % 8 = 0 → ((s.dropStaged p a).wakeFor p a).portRefusal p .wr a = some (x, none) → (∀ i, p ≠ .island i) →
        Runs (.registerWrite p a d) s (fun t =>
          t.bus.port = p ∧ t.bus.answer = x ∧ t = { s with bus := t.bus, regs := t.regs } ∧ RegsBut s t [rPM_STATUS]))) ∧
  (
    ∀ (s : State) (p : Port) (w : Word) (r : Nat) (f : FieldDef),
      (r < 64 → s.accepts p (rCH_INRGN_BASE r) → s.chState = csOFF → f ∈ (regAt (rCH_INRGN_BASE r)).elim [] (fun x => x.1.fields) →
        Runs (.registerWrite p (rCH_INRGN_BASE r) (.full w)) s (fun t =>
          t.did p
          ∧ (f.acc = .rw → t.rf (rCH_INRGN_BASE r) ⟨f.hi, f.lo⟩ = (⟨f.hi, f.lo⟩ : Fld).get w)
          ∧ RegsBut s t [rCH_INRGN_BASE r, rPM_STATUS] ∧ t.mem = s.mem))
      ∧ (r < 64 → s.accepts p (rCH_INRGN_BASE r) → s.chState ≠ csOFF →
        Runs (.registerWrite p (rCH_INRGN_BASE r) (.full w)) s (fun t =>
          t.did p ∧ t.flag rCH_STATUS fCH_STATUS_CFG_ERR = true ∧ RegsBut s t [rCH_STATUS, rPM_STATUS] ∧ t.mem = s.mem))
      ∧ (∀ a i j d, regAt a = some (d, i, j) → f ∈ d.fields →
          ((s.plainWrite a w).rf a ⟨f.hi, f.lo⟩ = match f.acc with
            | .rw => (⟨f.hi, f.lo⟩ : Fld).get w
            | .w1c => Nat.land (s.rf a ⟨f.hi, f.lo⟩) (2 ^ (f.hi + 1 - f.lo) - 1 - (⟨f.hi, f.lo⟩ : Fld).get w)
            | .ro => s.rf a ⟨f.hi, f.lo⟩
            | .wo => s.rf a ⟨f.hi, f.lo⟩)
          ∧ RegsBut s (s.plainWrite a w) [a]))

/-- R432 and R433: a counter register of a compute die or of a context is cleared by its CLR; one that a requester is
not served is not touched, and DENY_CNT counts the refusal; a served read returns the register.
[Model choices: log entry 13.] -/
def Obligations.GlobalCountersServeTable : Prop :=
  ∀ (s : State) (p : Port) (a : Nat), a % 8 = 0 →
    (globalCounter a = true → a < 0x1400C00000 → s.accepts p a →
      Runs (.counterClr p a) s (fun t => t.did p ∧ t.reg a = 0 ∧ RegsBut s t [a, rPM_STATUS] ∧ t.mem = s.mem))
    ∧ (∀ c, c < 64 → s.accepts p (rHUB_CTX_CNT c) →
      Runs (.counterClr p (rHUB_CTX_CNT c)) s (fun t =>
        t.did p ∧ t.reg (rHUB_CTX_CNT c) = 0 ∧ RegsBut s t [rHUB_CTX_CNT c, rPM_STATUS] ∧ t.mem = s.mem))
    ∧ (globalCounter a = true → s.hubServes = true →
        (∀ d, blockDie a = some d → s.diePresent d = true ∧ s.dieRetained d = false) →
        ((p = .debug ∧ s.dbgLevel = 0) ∨ (∃ d, p = .peer d) ∨ ∃ h, p = .user h ∧ s.counterServed (.user h) = false) →
      Runs (.globalCounterAccess p a none) s (fun t =>
        t.bus.port = p ∧ t.bus.answer = portFail p ∧ Counted s t rTR_DENY_CNT fTR_DENY_CNT_DENY_CNT 1
        ∧ RegsBut s t [rTR_DENY_CNT, rPM_STATUS] ∧ t.mem = s.mem))
    ∧ (globalCounter a = true → a < 0x1400C00000 → ((s.dropStaged p a).wakeFor p a).portRefusal p .rd a = none →
      Runs (.globalCounterAccess p a none) s (fun t =>
        t.bus.port = p ∧ t.bus.answer = .data (leBytes 8 (s.reg a).toNat) ∧ RegsBut s t [rPM_STATUS] ∧ t.mem = s.mem))

/-- R9, R435 and R436: a load, store or atomic of an application core or, at debug level 2, of the debugger reads and
writes the bytes it names; one that meets a line it may not reach ends in a fault and changes nothing; a write within a line of a
FENCED pseudo-channel that the cache does not hold is discarded and counted (R261).
[Model choices: log entries 2, 15, 16, 17, 18.] -/
def Obligations.CoreAndDebugMemoryAccess : Prop :=
  ∀ (s : State) (h : Nat) (a : Nat),
    (∀ bs, s.hubServes = true → s.storable a bs.length →
      Runs (.coreMemoryAccess h a (.write bs)) s (fun t => t.did (.hart h) ∧ Stored s t a bs ∧ t.regs = s.regs)
      ∧ (2 ≤ s.dbgLevel → Runs (.debugSystemBusAccess a (.write bs)) s (fun t =>
          t.did .debug ∧ Stored s t a bs ∧ t.regs = s.regs)))
    ∧ (∀ bs, s.hubServes = true → s.inHbm a bs.length → a % 128 + bs.length ≤ 128 → s.mem.lost ≠ [] → s.mcDead (pcOf a) = true →
        s.lineHeld (a / 128) = false →
      Runs (.coreMemoryAccess h a (.write bs)) s (fun t =>
        t.did (.hart h) ∧ Counted s t (rMC_POISON_CNT (pcOf a)) fMC_POISON_CNT_WDROP_CNT 1
        ∧ RegsBut s t [rMC_POISON_CNT (pcOf a)] ∧ t.mem = s.mem))
    ∧ (∀ n, s.hubServes = true → s.inHbm a n → s.mem.poisoned a n = false →
      Runs (.coreMemoryAccess h a (.read n)) s (fun t =>
        t.bus.port = .hart h ∧ t.bus.answer = .data (s.mem.read a n) ∧ t.regs = s.regs ∧ t.mem = s.mem))
    ∧ (∀ op n v, s.hubServes = true → (n = 4 ∨ n = 8) → a % n = 0 → s.storable a n → s.mem.poisoned a n = false →
      Runs (.coreMemoryAccess h a (.amo op n v)) s (fun t =>
        t.bus.port = .hart h ∧ t.bus.answer = .data (s.mem.read a n)
        ∧ Stored s t a (leBytes n (amoResult op n (leNat (s.mem.read a n)) v)) ∧ t.regs = s.regs))
    ∧ (∀ r, regRange a = false → (∃ l ∈ unitsOf 64 a (reqLength r), s.lineErr l ≠ none) →
      Runs (.coreMemoryAccess h a r) s (fun t =>
        t.bus.port = .hart h ∧ t.bus.answer = .accessFault ∧ t = { s with bus := t.bus, regs := t.regs } ∧ RegsBut s t [rPM_STATUS]))
    ∧ (∀ r, s.dbgLevel < 2 → regRange a = false →
      Runs (.debugSystemBusAccess a r) s (fun t =>
        t.bus.port = .debug ∧ t.bus.answer = .busError ∧ t = { s with bus := t.bus }))

/-- R306, R311 and R162: a write from PCIe or from a peer member lands, and a read returns the bytes, where the inbound regions
allow every line of it; where they do not, nothing lands and INRGN_CNT counts it; a write to an enabled tail mirror also rings the context's
doorbell.
R444: the completion of a core's oldest read from PCIe memory space answers it, a poisoned one with a fault; one
that comes after 10 ms is discarded, and the read itself has ended with a fault.
[Model choices: log entries 7, 18, 19.] -/
def Obligations.InboundRequestsAndPcieReadsAreChecked : Prop :=
  (
    ∀ (s : State) (d a : Nat) (bs : List Byte) (ep : Bool) (coll : Option CollHead),
      (s.inboundFrom .pcie = true → s.storable a bs.length → s.mirrorsAt a bs.length = [] →
          (∀ l ∈ unitsOf 64 a bs.length, s.inboundOk .pcie .wr l = true) →
        Runs (.pcieInboundRequest a (.write bs) ep) s (fun t =>
          t.did .pcie ∧ Stored s t a bs ∧ (ep = true → t.mem.poisoned a bs.length = true) ∧ RegsBut s t [rPM_STATUS]))
      ∧ (s.inboundFrom (.peer d) = true → s.storable a bs.length → s.mirrorsAt a bs.length = [] →
          (∀ l ∈ unitsOf 64 a bs.length, s.inboundOk (.peer d) .wr l = true) →
          (∀ h, coll = some h → s.coll h.tag = none) →
        Runs (.peerInboundRequest d a (.write bs) ⟨ep, coll⟩) s (fun t =>
          t.did (.peer d) ∧ Stored s t a bs ∧ (ep = true → t.mem.poisoned a bs.length = true) ∧ RegsBut s t [rPM_STATUS]))
      ∧ (∀ n, s.inHbm a n → s.mem.poisoned a n = false →
        (s.inboundFrom .pcie = true → (∀ l ∈ unitsOf 64 a n, s.inboundOk .pcie .rd l = true) →
          Runs (.pcieInboundRequest a (.read n) ep) s (fun t =>
            t.bus.port = .pcie ∧ t.bus.answer = .data (s.mem.read a n) ∧ RegsBut s t [rPM_STATUS] ∧ t.mem = s.mem))
        ∧ (s.inboundFrom (.peer d) = true → (∀ l ∈ unitsOf 64 a n, s.inboundOk (.peer d) .rd l = true) →
          Runs (.peerInboundRequest d a (.read n) ⟨ep, coll⟩) s (fun t =>
            t.bus.port = .peer d ∧ t.bus.answer = .data (s.mem.read a n) ∧ RegsBut s t [rPM_STATUS] ∧ t.mem = s.mem)))
      ∧ (∀ r, s.inboundFrom (.peer d) = true → a < s.hbmBytes →
          (∃ l ∈ unitsOf 64 a (reqLength r), s.inboundOk (.peer d) (reqWant r) l = false) →
        Runs (.peerInboundRequest d a r ⟨ep, coll⟩) s (fun t =>
          t.bus.port = .peer d ∧ t.bus.answer = .status stREGION_FAULT ∧ Counted s t rCH_ACC_CNT fCH_ACC_CNT_INRGN_CNT 1
          ∧ RegsBut s t [rCH_ACC_CNT, rPM_STATUS] ∧ t.mem = s.mem))
      ∧ (∀ p c v, s.inboundFrom p = true → c < 64 → s.flag (rHUB_CTX_TAIL_MIRROR c) fHUB_CTX_TAIL_MIRROR_EN = true →
          s.mirrorAddr c < s.hbmBytes → s.alive (s.mirrorAddr c) 8 → s.inboundOk p .wr (s.mirrorAddr c / 64) = true →
              s.mirrorsAt (s.mirrorAddr c) 8 = [c] →
          v < 2 ^ 32 → sub32 v (s.sqHead c) ≤ s.sqSize c → sub32 v (s.sqTail c) ≤ s.sqSize c →
        Runs (.tailMirrorWrite p c v) s (fun t =>
          t.did p ∧ Stored s t (s.mirrorAddr c) (leBytes 8 v) ∧ t.sqTail c = v
          ∧ (∀ e, e < 64 → e ≠ c → t.sqTail e = s.sqTail e)))) ∧
  (
    ∀ (s : State) (h : Nat) (r : PcieRead) (data : List Byte), s.pcieReads.find? (fun r => r.hart == h) = some r →
      (s.dtime ≤ r.at' + 10000000 →
        Runs (.pcieCompletion h data false) s (fun t =>
          t.bus.port = .hart h ∧ t.bus.answer = .data (data.take r.len)
          ∧ t.pcieReads.length + 1 = s.pcieReads.length ∧ t = { s with bus := t.bus, pcieReads := t.pcieReads })
        ∧ Runs (.pcieCompletion h data true) s (fun t =>
          t.bus.port = .hart h ∧ t.bus.answer = .accessFault ∧ t.pcieReads.length + 1 = s.pcieReads.length
          ∧ t = { s with bus := t.bus, pcieReads := t.pcieReads })
        ∧ exec (.pcieCompletionTimeout (.hart h)) s = .next s)
      ∧ (r.at' + 10000000 < s.dtime →
        exec (.pcieCompletion h data false) s = .next s
        ∧ Runs (.pcieCompletionTimeout (.hart h)) s (fun t =>
          t.bus.port = .hart h ∧ t.bus.answer = .accessFault ∧ t.pcieReads.length + 1 = s.pcieReads.length
          ∧ t = { s with bus := t.bus, pcieReads := t.pcieReads })))

/-! ## Time -/

/-- R19 and Table 1.3's sideband: a copy further than 20 ns from the master is reloaded and counted; a load sets the
copy to the master; a message of the increment HUB adds changes a copy's increment only, and one of another does nothing.
R21: HUB sends DTIME to an island at most every 1 ms; the island's first message sets its time and every later one
is slewed to; without one for 5 ms of its own time it is in holdover, which the next message ends.
[Model choices: log entries 21, 23.] -/
def Obligations.TimeCopiesAndIslandTimeFollow : Prop :=
  (
    ∀ (s : State) (die incr : Nat),
      (die < 4 → 20 < s.copyDiff die →
        Runs (.dtimeSidebandCheck die) s (fun t =>
          t.dieTime die = s.dtime ∧ t.dtime = s.dtime ∧ Counted s t (rCD_ERR_CNT die) fCD_ERR_CNT_DTIME_RELOAD 1
          ∧ t.rf (rCD_ERR_CNT die) fCD_ERR_CNT_LAST_DIFF_NS = min (s.copyDiff die) 0xFFFFFF
          ∧ RegsBut s t [rCD_ERR_CNT die] ∧ t.mem = s.mem))
      ∧ (s.copyDiff die ≤ 20 → exec (.dtimeSidebandCheck die) s = .next s)
      ∧ Runs (.dtimeLoad die) s (fun t => t.dieTime die = s.dtime ∧ t.dtime = s.dtime ∧ t.mem = s.mem)
      ∧ (die < s.time.dies.length → incr = s.time.incr →
        Runs (.dtimeInc die incr) s (fun t =>
          t.time.dies[die]? = (s.time.dies[die]?).map (fun x => { x with incr := incr })
          ∧ (∀ e, e ≠ die → t.time.dies[e]? = s.time.dies[e]?) ∧ t.time.master = s.time.master ∧ t.mem = s.mem))
      ∧ (incr ≠ s.time.incr → exec (.dtimeInc die incr) s = .next s)) ∧
  (
    ∀ (s : State) (i : Nat), i < s.time.isl.length →
      ((∀ x, (s.islT i).lastSend = some x → x + 1000000 ≤ s.dtime) → s.diePresent (4 + i) = true → s.hubServes = true →
        Runs (.timeMessageSend i) s (fun t =>
          (t.islT i).inbox = (s.islT i).inbox ++ [s.time.master] ∧ (t.islT i).lastSend = some s.dtime
          ∧ (t.islT i).now = (s.islT i).now ∧ t.regs = s.regs ∧ t.mem = s.mem))
      ∧ (∀ v r, (s.islT i).inbox = v :: r →
        Runs (.timeMessage i) s (fun t =>
          (t.islT i).inbox = r ∧ (t.islT i).synced = true ∧ (t.islT i).holdover = false
          ∧ ((s.islT i).synced = false → (t.islT i).now = v ∧ (t.islT i).owed = 0)
          ∧ ((s.islT i).synced = true → (t.islT i).now = (s.islT i).now ∧ (t.islT i).owed = (v : Int) - (s.islT i).now)
          ∧ (t.islT i).lastMsg = (t.islT i).now ∧ t.regs = s.regs ∧ t.mem = s.mem))
      ∧ (5000000 ≤ (s.islT i).silent →
        Runs (.holdoverTimeout i) s (fun t =>
          (t.islT i).holdover = true ∧ (t.islT i).now = (s.islT i).now ∧ (t.islT i).owed = (s.islT i).owed
          ∧ t.regs = s.regs ∧ t.mem = s.mem)))

/-- R441 and R442: a Sync of the chosen grandmaster within 1 ms becomes AS_VALID with its offset; one that is not
paired or not the grandmaster's only counts; a source that stays away for its time-out is no longer valid and counts.
R438, R441, R442: PPS_OUT rises at a whole second once stamps exist; IO_TIME_SET is taken before the first stamp
and refused with CFG_REJ after it; a GPIO line follows its input once it has been stable for FILT_US.
R442: an edge of the other polarity does nothing; a short pulse counts in GLITCH_CNT; an edge within PPS_WIN_US of a
predicted one is accepted; one outside counts in OUT_WIN_CNT and is not used, except after four regular ones.
[Model choices: log entries 21, 22.] -/
def Obligations.TimeInputsPinsAndPulsesAct : Prop :=
  (
    ∀ (s : State) (mac : Nat) (ofs : Int), s.hubServes = true →
      (¬(s.time.stamped = true ∧ 1000000 < ofs.natAbs) →
        Runs (.gptpMessage mac true true ofs) s (fun t =>
          t.flag rIO_TIME_STAT fIO_TIME_STAT_AS_VALID = true ∧ t.time.sync = some s.dtime ∧ t.time.asOfs = ofs
          ∧ RegsTraced s t [rIO_TIME_STAT, rIO_TIME_CNT2, rIO_TIME_ALT] ∧ t.mem = s.mem))
      ∧ (∀ chosen paired, (chosen && paired) = false →
        Runs (.gptpMessage mac chosen paired ofs) s (fun t =>
          Counted s t rIO_TIME_CNT fIO_TIME_CNT_GLITCH_CNT 1 ∧ RegsBut s t [rIO_TIME_CNT] ∧ t.time = s.time ∧ t.mem = s.mem))
      ∧ (∀ x, s.time.sync = some x → x + 3000000000 ≤ s.dtime → s.flag rIO_TIME_STAT fIO_TIME_STAT_AS_VALID = true →
        Runs .gptpTimeout s (fun t =>
          t.flag rIO_TIME_STAT fIO_TIME_STAT_AS_VALID = false ∧ Counted s t rIO_TIME_CNT2 fIO_TIME_CNT2_LOST_CNT 1
          ∧ RegsBut s t [rIO_TIME_STAT, rIO_TIME_CNT2] ∧ t.time = s.time ∧ t.mem = s.mem))
      ∧ (∀ x, s.time.pps = some x → x + 1500000000 ≤ s.dtime → s.flag rIO_TIME_STAT fIO_TIME_STAT_PPS_VALID = true →
        Runs .ppsLost s (fun t =>
          t.flag rIO_TIME_STAT fIO_TIME_STAT_PPS_VALID = false ∧ Counted s t rIO_TIME_CNT2 fIO_TIME_CNT2_LOST_CNT 1
          ∧ RegsBut s t [rIO_TIME_STAT, rIO_TIME_CNT2] ∧ t.time = s.time ∧ t.mem = s.mem))) ∧
  (
    ∀ (s : State) (p : Port) (val : Word) (line stable : Nat) (level : Bool), s.hubServes = true →
      (s.time.stamped = true → s.dtime - s.dtime / 1000000000 * 1000000000 ≤ 20 →
        Runs .ppsOutSecond s (fun t =>
          t.time.ppsOut = some (s.dtime / 1000000000 * 1000000000) ∧ t.dtime = s.dtime ∧ t.regs = s.regs ∧ t.mem = s.mem))
      ∧ (s.accepts p rIO_TIME_SET → s.time.stamped = false →
        Runs (.ioTimeSetWrite p val) s (fun t =>
          t.did p ∧ t.reg rIO_TIME_SET = val ∧ t.time.armed = true ∧ RegsBut s t [rIO_TIME_SET, rPM_STATUS] ∧ t.mem = s.mem))
      ∧ (s.accepts p rIO_TIME_SET → s.time.stamped = true →
        Runs (.ioTimeSetWrite p val) s (fun t =>
          t.did p ∧ t.flag rIO_TIME_STAT fIO_TIME_STAT_CFG_REJ = true ∧ t.time.armed = s.time.armed
          ∧ RegsBut s t [rIO_TIME_STAT, rPM_STATUS] ∧ t.mem = s.mem))
      ∧ (line < 32 → s.rf rIO_GPIO_FILT fIO_GPIO_FILT_FILT_US ≤ stable →
        Runs (.gpioInputChange line level stable) s (fun t =>
          t.flag rIO_GPIO_DATA ⟨32 + line, 32 + line⟩ = level
          ∧ (∀ k, k < 64 → k ≠ 32 + line → t.rf rIO_GPIO_DATA ⟨k, k⟩ = s.rf rIO_GPIO_DATA ⟨k, k⟩)
          ∧ RegsBut s t [rIO_GPIO_DATA] ∧ t.time = s.time ∧ t.mem = s.mem))) ∧
  (
    ∀ (s : State) (falling : Bool) (us : Nat), s.hubServes = true → s.sh.on = false →
      (falling ≠ s.flag rIO_TIME_CFG fIO_TIME_CFG_PPS_EDGE → exec (.ppsEdge falling us) s = .next s)
      ∧ (falling = s.flag rIO_TIME_CFG fIO_TIME_CFG_PPS_EDGE → us < s.rf rIO_TIME_CFG fIO_TIME_CFG_PPS_MIN_US →
        Runs (.ppsEdge falling us) s (fun t =>
          Counted s t rIO_TIME_CNT fIO_TIME_CNT_GLITCH_CNT 1 ∧ RegsBut s t [rIO_TIME_CNT] ∧ t = { s with regs := t.regs }))
      ∧ (falling = s.flag rIO_TIME_CFG fIO_TIME_CFG_PPS_EDGE → s.rf rIO_TIME_CFG fIO_TIME_CFG_PPS_MIN_US ≤ us →
        (∀ l n, s.time.pps = some l → 1 ≤ n → l + n * 1000000000 ≤ s.dtime + s.rf rIO_TIME_CFG fIO_TIME_CFG_PPS_WIN_US * 1000 →
            s.dtime ≤ l + n * 1000000000 + s.rf rIO_TIME_CFG fIO_TIME_CFG_PPS_WIN_US * 1000 →
          Runs (.ppsEdge falling us) s (fun t =>
            t.time.pps = some s.dtime ∧ t.time.armed = false ∧ t.flag rIO_TIME_STAT fIO_TIME_STAT_PPS_VALID = true
            ∧ RegsTraced s t [rIO_TIME_STAT, rIO_TIME_CNT2, rIO_TIME_ALT]
            ∧ t = { s with regs := t.regs, time := t.time, trace := t.trace }))
        ∧ (s.ppsInWindow s.dtime = false → ¬(s.ppsRegular s.dtime = true ∧ 4 ≤ s.time.outRun) →
          Runs (.ppsEdge falling us) s (fun t =>
            Counted s t rIO_TIME_CNT fIO_TIME_CNT_OUT_WIN_CNT 1 ∧ t.time.pps = s.time.pps ∧ t.dtime = s.dtime
            ∧ t.time.outRun = (if s.ppsRegular s.dtime then s.time.outRun + 1 else 1) ∧ t.time.outAt = s.dtime
            ∧ RegsBut s t [rIO_TIME_CNT] ∧ t = { s with regs := t.regs, time := t.time }))
        ∧ (s.ppsInWindow s.dtime = false → s.ppsRegular s.dtime = true → 4 ≤ s.time.outRun →
          Runs (.ppsEdge falling us) s (fun t =>
            t.time.pps = some s.dtime ∧ t.time.outRun = 0 ∧ t.flag rIO_TIME_STAT fIO_TIME_STAT_PPS_VALID = true
            ∧ RegsTraced s t [rIO_TIME_STAT, rIO_TIME_CNT2, rIO_TIME_ALT]
            ∧ t = { s with regs := t.regs, time := t.time, trace := t.trace }))))

/-! ## Die schedulers and tiles -/

/-- R180, R181 and R182: a die grants a slice of the kernel that no other grantable one comes before, on the tile of
lowest rank; a saved slice is taken before an unclaimed one, and the kernel's account follows.
R184, R187, R188 and R198: the request goes to the running slice of lowest priority and highest index; a request
unsampled for LEAP_WAIT_NS counts once and stays; a scan pointer retires a raised completion flag; a DMA engine goes to a
waiting descriptor of higher priority and keeps its own to go back to.
[Model choices: log entries 29, 31.] -/
def Obligations.SlicesAreGrantedPreemptedAndRetired : Prop :=
  (
    ∀ (s : State) (d : Nat) (k : Kernel) (t : Nat),
      d < 4 → s.dieUsable d = true → s.urgentTest d = none → s.tiles.length = 128 → k.ctx < 64 →
      k ∈ s.hub.kernels → s.grantable d k = true →
      (∀ j ∈ s.hub.kernels, s.grantable d j = true → s.tilesFor d j ≠ [] → j ≠ k →
        s.kernelBefore d k j = true ∧ s.kernelBefore d j k = false) →
      t ∈ s.tilesFor d k → (∀ u ∈ s.tilesFor d k, u ≠ t → s.tileRank k t < s.tileRank k u) →
      (∀ sl r, k.resume = sl :: r → sl < 2 ^ fTILE_STATUS_SLICE.width →
        Runs (.sliceGrant d) s (fun u =>
          u.tileCtx t = k.ctx ∧ u.tileSlice t = sl ∧ (u.tile t).knum = k.num ∧ (u.tile t).resuming = true
          ∧ u.tileState t = (if s.holdsImage t k then tsLEAP_RESTORE else tsLOADING)
          ∧ u.kernel k.ctx k.num = some { k with resume := r, held := k.held + 1 }
          ∧ (∀ b, (b < sramBase t ∨ sramBase t + sramBytes ≤ b) → u.mem.byte b = s.mem.byte b)))
      ∧ (k.resume = [] → k.next < 2 ^ fTILE_STATUS_SLICE.width →
        Runs (.sliceGrant d) s (fun u =>
          u.tileCtx t = k.ctx ∧ u.tileSlice t = k.next ∧ (u.tile t).knum = k.num ∧ (u.tile t).resuming = false
          ∧ (u.tileState t = tsFAULT ∨ u.kernel k.ctx k.num = some { k with next := k.next + 1, held := k.held + 1 })
          ∧ (∀ b, (b < sramBase t ∨ sramBase t + sramBytes ≤ b) → u.mem.byte b = s.mem.byte b)))) ∧
  (
    ∀ (s : State) (d t e : Nat) (k : Kernel),
      (d < 4 → s.tiles.length = 128 → k ∈ s.hub.kernels → s.mayRequest d k = true →
          (∀ j ∈ s.hub.kernels, s.mayRequest d j = true → j ≠ k → s.kernelBefore d k j = true ∧ s.kernelBefore d j k = false) →
          t ∈ s.victims d k →
          (∀ u ∈ s.victims d k, s.slicePrio t ≤ s.slicePrio u ∧ (s.slicePrio u = s.slicePrio t → u ≤ t)) →
        Runs (.preemptRequest d) s (fun u =>
          (u.tile t).req = some { since := s.dieTime d, late := false, ctx := k.ctx, num := k.num }
          ∧ (∀ v, v ≠ t → u.tile v = s.tile v) ∧ u = { s with tiles := u.tiles }))
      ∧ (∀ r, t < 128 → t < s.tiles.length → (s.tile t).req = some r → r.late = false → (s.tile t).sampled = none →
          s.rf (rCD_SCHED_CFG (t / 32)) fCD_SCHED_CFG_LEAP_WAIT_NS ≤ s.dieTime (t / 32) - r.since →
        Runs (.lateLeapTimeout t) s (fun u =>
          (u.tile t).req = some { r with late := true }
          ∧ Counted s u (rCD_SCHED_STAT (t / 32)) fCD_SCHED_STAT_LATE_LEAP_CNT 1 ∧ RegsBut s u [rCD_SCHED_STAT (t / 32)]
          ∧ (∀ v, v ≠ t → u.tile v = s.tile v) ∧ u = { s with tiles := u.tiles, regs := u.regs }
          ∧ exec (.lateLeapTimeout t) u = .next u))
      ∧ (d < s.hub.dies.length → (s.die d).flags ≠ [] → (∀ x ∈ (s.die d).flags, x < 44) → (s.die d).tptr < 32 →
          32 ≤ (s.die d).eptr → (s.die d).eptr < 44 →
        Runs (.completionRetire d) s (fun u =>
          (∀ x ∈ (u.die d).flags, x ∈ (s.die d).flags) ∧ (u.die d).flags.length < (s.die d).flags.length
          ∧ (u.die d).tptr < 32 ∧ 32 ≤ (u.die d).eptr ∧ (u.die d).eptr < 44
          ∧ (∀ v, v ≠ d → u.die v = s.die v) ∧ u.regs = s.regs ∧ u.mem = s.mem ∧ u.tiles = s.tiles))
      ∧ (∀ c n c' n' x x', e < s.hub.dmas.length → (s.dma e).cur = some (c, n) → s.halted = false →
          s.dmaWaiting e = [(c', n')] → s.desc c n = some x → s.desc c' n' = some x' → s.descPrio c n < s.descPrio c' n' →
        Runs (.dmaYield e) s (fun u =>
          (u.dma e).cur = some (c', n') ∧ (u.dma e).yielded = (c, n) :: (s.dma e).yielded
          ∧ (∀ v, v ≠ e → u.dma v = s.dma v) ∧ u.mem = s.mem ∧ u.tiles = s.tiles))
      ∧ (t < 128 → s.tileState t = tsFAULT → s.testFault t = false → s.kernelTiles (s.tileCtx t) (s.tile t).knum = [] →
        Runs (.tileFaultClear t) s (fun u =>
          u.tileState t = tsIDLE ∧ u.tileCtx t = s.tileCtx t ∧ RegsBut s u [rTILE_STATUS t] ∧ u = { s with regs := u.regs })))

/-- R57, R63, R64 and R180: a loaded image is kept and its slice runs; an image that fails its check faults the slice; a
completed entry leaves the scoreboard, with its fault if its access met one; a slice of which every entry has
issued and none is in flight completes: the tile raises its completion flag, is free again, and the kernel's account follows.
[The clauses outside R63 rest on model choices: log entry 25.] -/
def Obligations.TileSlicesLoadAndEnd : Prop :=
  ∀ (s : State) (t : Nat) (k : Kernel), t < 128 → s.tiles.length = 128 → s.kernel (s.tileCtx t) (s.tile t).knum = some k →
    (∀ im, s.tileState t = tsLOADING → s.loadImage (s.tileCtx t) k.image (s.kernelTag (s.tileCtx t) k.num) = .ok im →
      Runs (.imageLoadComplete t) s (fun u =>
        (u.tile t).image = some im ∧ u.tileState t = (if (s.tile t).resuming then tsLEAP_RESTORE else tsRUN)
        ∧ (∀ v, v ≠ t → u.tile v = s.tile v) ∧ RegsTraced s u [rTILE_STATUS t] ∧ u.mem = s.mem))
    ∧ (∀ st a, s.tileState t = tsLOADING → s.loadImage (s.tileCtx t) k.image (s.kernelTag (s.tileCtx t) k.num) = .bad st a →
      Runs (.imageLoadComplete t) s (fun u =>
        u.tileState t = tsFAULT ∧ u.kernel (s.tileCtx t) (s.tile t).knum = none ∧ u.mem = s.mem))
    ∧ (∀ fin f, s.tileState t = tsRUN → (s.tile t).flight.find? (fun f => f.idx == fin.idx) = some f → (s.tile t).mayEnd f = true → f.fault = none →
      Runs (.entryComplete t fin) s (fun u =>
        (u.tile t).flight = (s.tile t).flight.erase f ∧ u.tileState t = tsRUN
        ∧ (u.tile t).entry = (s.tile t).entry ∧ (∀ v, v ≠ t → u.tile v = s.tile v) ∧ RegsTraced s u []
        ∧ u.mem = (s.flipTile t fin.flips).mem))
    ∧ (∀ fin f x, s.tileState t = tsRUN → (s.tile t).flight.find? (fun f => f.idx == fin.idx) = some f → (s.tile t).mayEnd f = true →
        f.fault = some x →
      Runs (.entryComplete t fin) s (fun u =>
        u.tileState t = tsFAULT ∧ u.kernel (s.tileCtx t) (s.tile t).knum = none ∧ u.mem = (s.flipTile t fin.flips).mem))
    ∧ (∀ fin f, (s.tile t).flight.find? (fun f => f.idx == fin.idx) = some f → (s.tile t).mayEnd f = false →
      exec (.entryComplete t fin) s = .next (s.flipTile t fin.flips))
    ∧ (∀ im, t / 32 < s.hub.dies.length → (s.tile t).image = some im → s.tileState t = tsRUN → im.ops.length ≤ (s.tile t).entry →
        (s.tile t).flight = [] → k.done + 1 < k.count →
      Runs (.sliceComplete t) s (fun u =>
        u.tileState t = tsIDLE ∧ u.doneRaised t = true ∧ (u.tile t).req = none
        ∧ u.kernel (s.tileCtx t) (s.tile t).knum = some { k with done := k.done + 1, held := k.held - 1 }
        ∧ RegsTraced s u [rTILE_STATUS t, rTILE_LEAP_STAT t] ∧ u.mem = s.mem))
    ∧ (∀ im x, (s.tile t).image = some im → s.tileState t = tsRUN → im.ops.length ≤ (s.tile t).entry → (s.tile t).flight = [] →
        k.count ≤ k.done + 1 → s.desc (s.tileCtx t) (s.tile t).knum = some x →
      Runs (.sliceComplete t) s (fun u =>
        u.tileState t = tsIDLE ∧ (t / 32 < s.hub.dies.length → u.doneRaised t = true) ∧ u.kernel (s.tileCtx t) (s.tile t).knum = none
        ∧ (u.desc (s.tileCtx t) (s.tile t).knum).map (fun y => (y.phase, y.status)) = some (.finished, stOK)
        ∧ RegsTraced s u [rTILE_STATUS t, rTILE_LEAP_STAT t] ∧ u.mem = s.mem))
    ∧ (∀ im, (s.tile t).image = some im → s.tileState t = tsRUN → ((s.tile t).entry < im.ops.length ∨ (s.tile t).flight ≠ []) →
      exec (.sliceComplete t) s = .next s)

/-- A LOOP steps argument `k` (Table 3.14: ADJ0 and ADJ1 name an argument each, when enabled). -/
abbrev loopMoves (e k : Nat) : Prop :=
  (Nat.testBit e 72 = true ∧ bits e 67 64 = k) ∨ (Nat.testBit e 73 = true ∧ bits e 71 68 = k)

/-- What one turn of a LOOP adds to argument `k`. -/
def loopInc (e k : Nat) : Int :=
  (if Nat.testBit e 72 = true ∧ bits e 67 64 = k then signedOf 64 (bytesOf e 16 8) else 0)
  + (if Nat.testBit e 73 = true ∧ bits e 71 68 = k then signedOf 64 (bytesOf e 24 8) else 0)

/-- R78: LOOP counts up to COUNT, going back to its target with its increments added, and at COUNT goes on with the
counter at 0 and the increments taken back.
R79, R197 and R395: LEAP goes on to the next entry, or, under a request or HALT, counts the pre-emption and goes on to the save of its live range; LEAP_OUT stores the sequencer
and the live range and frees the tile; LEAP_IN brings both back. -/
def Obligations.LoopsReturnAndLeapsSave : Prop :=
  (
    ∀ (s : State) (t e : Nat), t < 128 → t < s.tiles.length → s.nextEntry t = some e → opcOf e = 6 → (s.tile t).unitReady e = true →
      (s.tile t).loops.length = 4 → (s.tile t).args.length = 16 →
      ((s.tile t).loops.getD (loopCtr e) 0 + 1 < loopCount e →
        Runs (.loop t) s (fun u =>
          (u.tile t).entry = loopTarget e ∧ (u.tile t).loops = setAt (s.tile t).loops (loopCtr e) ((s.tile t).loops.getD (loopCtr e) 0 + 1)
          ∧ (∀ k, k < 16 → loopMoves e k → (u.tile t).arg k = wrap64 ((s.tile t).arg k + loopInc e k))
          ∧ (∀ k, ¬ loopMoves e k → (u.tile t).arg k = (s.tile t).arg k)
          ∧ (u.tile t).flight = (s.tile t).flight ∧ (∀ v, v ≠ t → u.tile v = s.tile v) ∧ RegsTraced s u [rTILE_STATUS t] ∧ u.mem = s.mem))
      ∧ (loopCount e ≤ (s.tile t).loops.getD (loopCtr e) 0 + 1 →
        Runs (.loop t) s (fun u =>
          (u.tile t).entry = (s.tile t).entry + 1 ∧ (u.tile t).loops = setAt (s.tile t).loops (loopCtr e) 0
          ∧ (∀ k, k < 16 → loopMoves e k →
              (u.tile t).arg k = wrap64 ((s.tile t).arg k - (s.tile t).loops.getD (loopCtr e) 0 * loopInc e k))
          ∧ (∀ k, ¬ loopMoves e k → (u.tile t).arg k = (s.tile t).arg k)
          ∧ (u.tile t).flight = (s.tile t).flight ∧ (∀ v, v ≠ t → u.tile v = s.tile v) ∧ RegsTraced s u [rTILE_STATUS t] ∧ u.mem = s.mem))) ∧
  (
    ∀ (s : State) (t : Nat), t < 128 → s.tiles.length = 128 →
      (∀ e, s.nextEntry t = some e → opcOf e = 7 → (s.tile t).flight = [] → s.undrained t = false → liveOk (liveRange (s.tile t) e) = true →
        ((s.tile t).req = none → s.halted = false →
          Runs (.leap t) s (fun u =>
            (u.tile t).entry = (s.tile t).entry + 1 ∧ u.tileState t = tsRUN
            ∧ u.sramRead t (liveRange (s.tile t) e).1 (liveRange (s.tile t) e).2 = s.sramRead t (liveRange (s.tile t) e).1 (liveRange (s.tile t) e).2
            ∧ (∀ b, (b < sramBase t ∨ sramBase t + sramBytes ≤ b) → u.mem.byte b = s.mem.byte b)
            ∧ RegsTraced s u [rTILE_STATUS t, rTILE_LEAP_STAT t]))
        ∧ ((s.tile t).req.isSome = true ∨ s.halted = true →
          Runs (.leap t) s (fun u =>
            (u.tile t).entry = (s.tile t).entry + 1 ∧ u.tileState t = tsLEAP_SAVE ∧ (u.tile t).sampled = some (s.dieTime (t / 32))
            ∧ ((u.tile t).leapOff, (u.tile t).leapLen) = liveRange (s.tile t) e
            ∧ u.sramRead t (u.tile t).leapOff (u.tile t).leapLen = s.sramRead t (u.tile t).leapOff (u.tile t).leapLen
            ∧ Counted s u (rCD_SCHED_STAT (t / 32)) fCD_SCHED_STAT_PREEMPT_CNT 1
            ∧ Counted s u (rHUB_CTX_PRE_CNT (s.tileCtx t)) fHUB_CTX_PRE_CNT_PRE_CNT 1
            ∧ RegsTraced s u [rTILE_STATUS t, rTILE_LEAP_STAT t, rCD_SCHED_STAT (t / 32), rHUB_CTX_PRE_CNT (s.tileCtx t)])))
      ∧ (∀ k bs, s.tileState t = tsLEAP_SAVE → s.kernel (s.tileCtx t) (s.tile t).knum = some k →
          bs = savedHead (s.tile t) ++ s.sramRead t (s.tile t).leapOff (s.tile t).leapLen →
          s.sramBad t [{ lo := (s.tile t).leapOff, hi := (s.tile t).leapOff + (s.tile t).leapLen }] [] = false →
          s.storable (k.save + s.tileSlice t * k.saveBytes) bs.length →
          s.engineErr (s.tileCtx t) .wr (k.save + s.tileSlice t * k.saveBytes) bs.length = none →
        Runs (.leapOut t) s (fun u =>
          Stored s u (k.save + s.tileSlice t * k.saveBytes) bs ∧ u.tileState t = tsIDLE ∧ (u.tile t).req = none
          ∧ u.kernel (s.tileCtx t) (s.tile t).knum = some { k with resume := setIns k.resume (s.tileSlice t), held := k.held - 1 }
          ∧ RegsTraced s u [rTILE_STATUS t, rTILE_ECC_CNT t]))
      ∧ (∀ k im hb live, s.tileState t = tsLEAP_RESTORE → s.kernel (s.tileCtx t) (s.tile t).knum = some k → (s.tile t).image = some im →
          s.engRead (s.tileCtx t) (k.save + s.tileSlice t * k.saveBytes) 256 = .ok hb → restoreOk im (leNat hb) = true →
          liveOk (liveRange (restoreHead (s.tile t) (leNat hb)) (im.ops.getD (bytesOf (leNat hb) 144 2 - 1) 0)) = true →
          s.section (s.tileCtx t) (k.save + s.tileSlice t * k.saveBytes + 256)
            (liveRange (restoreHead (s.tile t) (leNat hb)) (im.ops.getD (bytesOf (leNat hb) 144 2 - 1) 0)).2 = .ok live →
        Runs (.leapIn t) s (fun u =>
          u.tileState t = tsRUN ∧ (u.tile t).entry = bytesOf (leNat hb) 144 2 ∧ (u.tile t).sig = bytesOf (leNat hb) 148 4
          ∧ (u.tile t).args = chunksNat 8 16 (leBytes 128 (leNat hb)) ∧ (u.tile t).resuming = false
          ∧ Stored s u (sramBase t + (liveRange (restoreHead (s.tile t) (leNat hb)) (im.ops.getD (bytesOf (leNat hb) 144 2 - 1) 0)).1) live
          ∧ (∀ v, v ≠ t → u.tile v = s.tile v)
          ∧ RegsTraced s u [rTILE_STATUS t, rHUB_CTX_LOST_SUM (s.tileCtx t)])))

/-- A tile may issue entry `e` with these spans: it is the running slice's next entry, and each of the six conditions of R62
holds; no double-bit error stands in the bytes it reads, or in a word it writes in part (R53). -/
abbrev Sys2Proof.Machine.State.mayIssue (s : State) (t e : Nat) (rd wr rdBytes wrBytes mrd mwr : List Span) : Prop :=
  t < 128 ∧ t < s.tiles.length ∧ s.nextEntry t = some e
  ∧ (∀ f ∈ (s.tile t).flight, unitOf e = some f.unit → f.unit = .port)
  ∧ (unitOf e = some .port → ((s.tile t).flight.filter (fun f => decide (f.unit = .port))).length < 2)
  ∧ (∀ f ∈ (s.tile t).flight, anyOverlap rd f.wr = false ∧ anyOverlap wr f.wr = false ∧ anyOverlap wr f.rd = false
      ∧ anyOverlap mrd f.mwr = false ∧ anyOverlap mwr f.mwr = false ∧ anyOverlap mwr f.mrd = false)
  ∧ (s.tile t).flight.length < 8 ∧ (syncOf e = true → (s.tile t).flight = [])
  ∧ s.mem.metWords s.mem.badWords t rdBytes wrBytes = []

/-- The entry has issued: it is in flight without a fault, and the sequencer stands at the next one. -/
def Sys2Proof.Machine.Issued (s u : State) (t e : Nat) : Prop :=
  (u.tile t).entry = (s.tile t).entry + 1 ∧ u.tileState t = tsRUN ∧ (∀ v, v ≠ t → u.tile v = s.tile v)
  ∧ ∃ f, (u.tile t).flight = (s.tile t).flight ++ [f] ∧ f.idx = (s.tile t).entry ∧ f.mark = markOf e ∧ f.fault = none

/-- The registers an entry's issue may write: the tile's status and counters. -/
def Sys2Proof.Machine.tileRegs (t : Nat) : List Addr := [rTILE_STATUS t, rTILE_ECC_CNT t, rTILE_ARITH_CNT t]

/-- Planes of bytes stand in tile SRAM from an offset on, at a pitch. -/
def Sys2Proof.Machine.Planes (u : State) (t off pitch n : Nat) (p : Nat → List Byte) : Prop :=
  ∀ c, c < n → u.sramRead t (off + c * pitch) (p c).length = p c

/-- Every byte outside a span of a tile's SRAM is as before. -/
def Sys2Proof.Machine.OnlySpan (s u : State) (t : Nat) (sp : Span) : Prop :=
  ∀ b, (b < sramBase t + sp.lo ∨ sramBase t + sp.hi ≤ b) → u.mem.byte b = s.mem.byte b

/-- R61, R82 and R85: LOAD brings a byte string or the converted planes of a tensor into tile SRAM, and STORE writes
them to memory; nothing else in memory changes.
[Model choices: log entries 24, 25, 27.] -/
def Obligations.LoadAndStoreMoveTensors : Prop :=
  ∀ (s : State) (t e : Nat) (m : MemForm) (sf : Fmt) (sr : SramForm), memForm (s.tile t) e = some (m, sf) →
    sr = sramForm (s.tile t) e m sf → lsCheck m sf sr = none →
    (opcOf e = 0 → s.mayIssue t e [] [sr.span] [] sr.bytes [m.span] [] → s.rangesErr (s.tileCtx t) .rd m.ranges = none →
        s.rangesPoison m.ranges = false →
      Runs (.load t) s (fun u =>
        Issued s u t e ∧ RegsTraced s u (rDE_ARITH_CNT (portDma t) :: tileRegs t)
        ∧ (m.layout = 3 → Stored s u (sramBase t + sr.off) (s.anyRead m.base m.stringBytes))
        ∧ (m.layout ≠ 3 → m.fmt.scaled = false → packedBytes sf.bits (m.h * m.w) ≤ sr.pitch →
            OnlySpan s u t sr.span
            ∧ Planes u t sr.off sr.pitch m.c (fun c =>
                packElems sf.bits ((s.loadPlane m sf (Nat.testBit e 40) c).map (·.bits))))))
    ∧ (opcOf e = 1 → s.mayIssue t e [sr.span] [] sr.bytes [] [] [m.span] → s.rangesErr (s.tileCtx t) .wr m.ranges = none →
        (∀ r ∈ m.ranges, r.1 + r.2 ≤ s.hbmBytes ∧ r.1 + r.2 ≤ 0xC00000000 ∧ s.alive r.1 r.2) →
      Runs (.store t) s (fun u =>
        Issued s u t e ∧ RegsTraced s u (rDE_ARITH_CNT (portDma t) :: tileRegs t)
        ∧ (m.layout = 3 → Stored s u m.base (s.sramRead t sr.off m.stringBytes))
        ∧ (m.layout ≠ 3 → m.fmt.scaled = false →
            (∀ b y, b < m.blocks → y < m.h →
              u.mem.read (m.rowAddr b y) m.rowBytes
                = packElems m.fmt.bits ((s.storeRow t m sf (Nat.testBit e 40) sr b y).map (·.bits)))
            ∧ ∀ a, (∀ r ∈ m.ranges, a < r.1 ∨ r.1 + r.2 ≤ a) → u.mem.byte a = s.mem.byte a)))

/-- The operand formats of the exact path, codes 0x0 to 0x5 (R27). -/
abbrev Sys2Proof.Machine.exactFmts : List Fmt := [.int8, .uint8, .int4, .e4m3, .e5m2, .e2m1]

/-- What an array entry's formats and accumulation must meet: Table 2.1 and R27 for its operands, R37 and R41 for its start
format, Table 2.1 for its drain format; R66 for START_EN and for the accumulation it continues, R35 for its products, R41
for a length that is no multiple of 32. -/
abbrev Sys2Proof.Machine.ArrayLegal (x : Tile) (und : Bool) (shape m n k : Nat) (af bf : Fmt) (f : ArrayForm) : Prop :=
  (af ∉ [Fmt.bf16, .fp16, .fp32, .int32] ∧ bf ∉ [Fmt.bf16, .fp16, .fp32, .int32] ∨ af ∈ [Fmt.bf16, .fp16] ∧ bf ∈ [Fmt.bf16, .fp16])
  ∧ (f.startEn = true → f.start ∈ (if af ∈ exactFmts ∧ bf ∈ exactFmts then [Fmt.int32] else [.fp32, .bf16, .fp16]))
  ∧ (f.drain = true → f.drn ∉ [Fmt.mxint8, .mxe4m3, .mxe5m2, .mxfp4, .bsint4])
  ∧ (und = true → f.startEn = false ∧ x.acc.fits (decide (af ∈ exactFmts ∧ bf ∈ exactFmts)) shape m n = true)
  ∧ (af ∈ exactFmts ∧ bf ∈ exactFmts → (if und then x.acc.count else 0) + k ≤ 8388608)
  ∧ (¬(af ∈ exactFmts ∧ bf ∈ exactFmts) → f.drain = false → k % 32 = 0)

/-- The fields of C are used only with DRAIN, those of S only with START_EN, and are 0 otherwise (R59). -/
abbrev Sys2Proof.Machine.UnusedZero (e : Nat) (f : ArrayForm) : Prop :=
  (f.drain = false → bits e 159 128 = 0) ∧ (f.startEn = false → bits e 191 160 = 0)

/-- The products of INT8 operands A and B at cell (m, n), summed (R34, R65). -/
def Sys2Proof.Machine.State.dot8 (s : State) (t ao ap bo bp k m n : Nat) : Int :=
  ((List.range k).map (fun i => signedOf 8 (s.sramElem t (ao + i * ap) 8 m) * signedOf 8 (s.sramElem t (bo + i * bp) 8 n))).sum

/-- R34, R38, R65 and R80: MATMUL adds its products to the accumulators, exactly for INT8 operands, and a drain writes the
block and empties them; SIG feeds its CRC with the bytes it names and, with EMIT, writes the record.
A MATMUL completes when its fields are in the ranges of Table 3.7, its operands on their alignment and in tile SRAM (R60),
its formats and accumulation legal, and its issue free (R62).
[Model choices: log entries 24, 25, 27.] -/
def Obligations.MatmulAccumulatesAndSigSigns : Prop :=
  ∀ (s : State) (t e : Nat),
    (∀ af bf drn st M N f k mv nv ao bo ap bp aSp bSp, opcOf e = 2 → arrayFmts e = some (af, bf, drn, st) →
        shapeMN (ef e 6 1 0) = some (M, N) → f = arrayForm (s.tile t) e M drn st →
        k = bits e 215 192 → mv = bits e 232 224 → nv = bits e 248 240 →
        ao = (s.tile t).sramOp (ef e 1 3 0) (bits e 84 64) → bo = (s.tile t).sramOp (ef e 1 7 4) (bits e 116 96) →
        ap = planePitch (bits e 95 85) (packedBytes af.bits M) → bp = planePitch (bits e 127 117) (packedBytes bf.bits N) →
        aSp = (planarSpan ao ap k af mv M).lineEnd → bSp = (planarSpan bo bp k bf nv N).lineEnd →
        1 ≤ k → 1 ≤ mv → mv ≤ M → 1 ≤ nv → nv ≤ N → UnusedZero e f →
        ao % 64 = 0 → bo % 64 = 0 → aSp.hi ≤ sramBytes → bSp.hi ≤ sramBytes →
        (f.drain = true → f.coff % 64 = 0 ∧ (f.cSpan mv nv).hi ≤ sramBytes) →
        (f.startEn = true → f.soff % 64 = 0 ∧ (f.sSpan mv nv).hi ≤ sramBytes) →
        ArrayLegal (s.tile t) (s.undrained t) (ef e 6 1 0) mv nv k af bf f →
        s.mayIssue t e ([aSp, bSp] ++ (if f.startEn then [f.sSpan mv nv] else [])) (if f.drain then [f.cSpan mv nv] else [])
          (planarRanges ao ap k af mv M ++ planarRanges bo bp k bf nv N ++ f.sBytes mv nv) (f.cBytes mv nv) [] [] →
      (f.drain = false →
        Runs (.matmul t) s (fun u =>
          Issued s u t e ∧ u.undrained t = true ∧ u.mem = s.mem ∧ RegsBut s u (tileRegs t)
          ∧ (af = .int8 → bf = .int8 → s.undrained t = false → f.startEn = false →
              ∃ cs, (u.tile t).acc = .exact (ef e 6 1 0) mv nv cs
                ∧ ∀ m n, m < mv → n < nv → (cs[n * mv + m]?).map ExactAcc.acc = some (2 ^ 32 * s.dot8 t ao ap bo bp k m n))))
      ∧ (f.drain = true →
        Runs (.matmul t) s (fun u =>
          Issued s u t e ∧ u.undrained t = false ∧ (u.tile t).acc = .empty ∧ RegsBut s u (tileRegs t)
          ∧ OnlySpan s u t (f.cSpan mv nv)
          ∧ (af = .int8 → bf = .int8 → s.undrained t = false → f.startEn = false → packedBytes drn.bits mv ≤ f.cpitch →
              Planes u t f.coff f.cpitch nv (fun n => packElems drn.bits ((List.range mv).map (fun m =>
                (convertVal drn f.ovf ({ acc := 2 ^ 32 * s.dot8 t ao ap bo bp k m n } : ExactAcc).value).bits)))))))
    ∧ (∀ off len rd, opcOf e = 8 → off = (s.tile t).sramOp (ef e 1 3 0) (bits e 84 64) → len = bits e 53 32 →
        len ≤ sramBytes → (0 < len → off + len ≤ sramBytes) → rd = (if len = 0 then [] else [({ lo := off, hi := off + len } : Span)]) →
      (Nat.testBit e 17 = false → s.mayIssue t e rd [] rd [] [] [] →
        Runs (.sig t) s (fun u =>
          Issued s u t e ∧ u.mem = s.mem ∧ RegsBut s u (tileRegs t)
          ∧ (u.tile t).sig = crc32cFeed (if Nat.testBit e 16 then 0xFFFFFFFF else (s.tile t).sig) (s.sramRead t off len)))
      ∧ (∀ a, a = (s.tile t).memOp (ef e 1 7 4) (s32Of e 12) → Nat.testBit e 17 = true →
          s.mayIssue t e rd [] rd [] [] [{ lo := a, hi := a + 16 }] → s.storable a 16 → s.engineErr (s.tileCtx t) .wr a 16 = none →
        Runs (.sig t) s (fun u =>
          Issued s u t e ∧ RegsTraced s u (tileRegs t)
          ∧ (u.tile t).sig = crc32cFeed (if Nat.testBit e 16 then 0xFFFFFFFF else (s.tile t).sig) (s.sramRead t off len)
          ∧ Stored s u a (sigRecord (u.tile t).sig (s.tileSlice t) (s.tile t).entry))))

/-! ## CONV, VECT and POST -/

/-- What Table 4.6, R94 and R100 ask of a CONV in modes 1 to 4 that reads the planes `ins`. -/
abbrev Sys2Proof.Machine.ConvDirect (e : Nat) (f : ConvForm) (co cp : Nat) (ins : List Span) : Prop :=
  ef e 6 1 0 = 0 ∧ ef e 6 2 2 = 0 ∧ ef e 5 7 4 = 0 ∧ ef e 2 7 4 = 0 ∧ bits e 191 160 = 0
  ∧ 1 ≤ f.npos ∧ f.npos ≤ 64 ∧ 1 ≤ f.nco ∧ f.nco ≤ 64 ∧ f.xoff % 64 = 0 ∧ co % 64 = 0
  ∧ (∀ sp ∈ (planarSpan co cp f.nco f.drn f.npos f.npos).lineEnd :: ins, sp.hi ≤ sramBytes)
  ∧ (∀ sp ∈ ins, overlap (planarSpan co cp f.nco f.drn f.npos f.npos).lineEnd sp = false)
  ∧ wFILL f.w < 2 ^ f.xf.bits ∧ f.xf.scaled = false ∧ f.drn.scaled = false

/-- What a CONV in modes 1 to 4 has done: the planes of its outputs stand at their destination, and no other byte has changed. -/
def Sys2Proof.Machine.ConvWrote (s : State) (t e : Nat) (f : ConvForm) (co cp : Nat) (val : Nat → Nat → Conv) (u : State) : Prop :=
  Issued s u t e ∧ RegsBut s u (tileRegs t)
  ∧ Planes u t co cp f.nco (fun c => packElems f.drn.bits ((List.range f.npos).map (fun i => (val c (f.p0 + i)).bits)))
  ∧ OnlySpan s u t (planarSpan co cp f.nco f.drn f.npos f.npos)

/-- R88, R94, R95 and R97: a CONV in mode 0 works on the accumulators as MATMUL does; in modes 1 to 4 it writes one
converted plane of outputs a channel, each the maximum, the average, the minimum or the sample of its window.
A CONV completes when its window and its fields are in the ranges of Tables 3.8 and 4.3, no check of Table 4.6 stands
against it, and its issue is free (R62).
[Model choices: log entries 24, 26, 28, 115.] -/
def Obligations.ConvModesWriteTheirPlanes : Prop :=
  ∀ (s : State) (t e : Nat) af bf drn st M N im w f xSp, opcOf e = 3 → arrayFmts e = some (af, bf, drn, st) →
      shapeMN (ef e 6 1 0) = some (M, N) → (s.tile t).image = some im → im.wins[bits e 27 24]? = some w →
      f = convForm (s.tile t) e af bf drn st w N → 1 ≤ wIH w → 1 ≤ wIW w → f.p0 + f.npos ≤ wOH w * wOW w →
    (∀ a step k wSp sSp cSp, bits e 30 28 = 0 → a = arrayForm (s.tile t) e M drn st →
        step = (if af ∈ exactFmts ∧ bf ∈ exactFmts then wCI w else 32 * ceilDiv (wCI w) 32) → k = wKH w * wKW w * step →
        xSp = planarSpan f.xoff f.xp (wCI w) af (wIH w * wIW w) (wIH w * wIW w) →
        wSp = (planarSpan f.woff f.wp k bf f.nco f.nco).lineEnd →
        sSp = (if a.startEn then [a.sSpan f.npos f.nco] else []) → cSp = (if a.drain then [a.cSpan f.npos f.nco] else []) →
        1 ≤ wCI w → 1 ≤ wKH w → 1 ≤ wKW w → 1 ≤ f.npos → f.npos ≤ M → 1 ≤ f.nco → f.nco ≤ N → k ≤ 16777215 → UnusedZero e a →
        f.xoff % 64 = 0 → f.woff % 64 = 0 → (a.drain = true → a.coff % 64 = 0) → (a.startEn = true → a.soff % 64 = 0) →
        (∀ sp ∈ [xSp, wSp] ++ sSp ++ cSp, sp.hi ≤ sramBytes) → (∀ c ∈ cSp, ∀ sp ∈ [xSp, wSp] ++ sSp, overlap c sp = false) →
        wFILL w < 2 ^ af.bits → ArrayLegal (s.tile t) (s.undrained t) (ef e 6 1 0) f.npos f.nco k af bf a →
        s.mayIssue t e ([xSp, wSp] ++ sSp) cSp
          (f.elems (wCI w) f.taps ++ f.weights step k ++ a.sBytes f.npos f.nco) (a.cBytes f.npos f.nco) [] [] →
      Runs (.convConvolution t) s (fun u =>
        Issued s u t e ∧ u.undrained t = !a.drain ∧ RegsBut s u (tileRegs t)
        ∧ (a.drain = false → u.mem = s.mem) ∧ (a.drain = true → (u.tile t).acc = .empty)
        ∧ ∀ sp ∈ cSp, OnlySpan s u t sp))
    ∧ (∀ co cp, xSp = planarSpan f.xoff f.xp f.nco af (wIH w * wIW w) (wIH w * wIW w) → co = (convOut (s.tile t) e f).1 →
        cp = (convOut (s.tile t) e f).2 → packedBytes drn.bits f.npos ≤ cp →
      (1 ≤ wKH w → 1 ≤ wKW w → ef e 1 7 4 = 0 → bits e 127 96 = 0 → ConvDirect e f co cp [xSp] →
          s.mayIssue t e [xSp] [(planarSpan co cp f.nco drn f.npos f.npos).lineEnd]
            (f.elems f.nco f.taps) (planeRanges co cp f.nco (packedBytes drn.bits f.npos)) [] [] →
        (bits e 30 28 = 1 → Runs (.convMaxPool t) s (ConvWrote s t e f co cp (fun c p =>
          poolOr f (Nat.testBit e 52) (s.poolTaps t f c p) (fun l => foldVals maxV (l.map (elemVal af))))))
        ∧ (bits e 30 28 = 2 → Runs (.convAvgPool t) s (ConvWrote s t e f co cp (fun c p =>
          poolOr f (Nat.testBit e 52) (s.poolTaps t f c p) (poolAvg f))))
        ∧ (bits e 30 28 = 3 → Runs (.convMinPool t) s (ConvWrote s t e f co cp (fun c p =>
          poolOr f (Nat.testBit e 52) (s.poolTaps t f c p) (fun l => foldVals minV (l.map (elemVal af)))))))
      ∧ (∀ gSp, bits e 30 28 = 4 → gSp = planarSpan f.woff f.wp 2 (gridFmt w) f.npos f.npos → f.woff % 64 = 0 →
          -16777216 ≤ wORGY w → wORGY w ≤ 16777216 → -16777216 ≤ wORGX w → wORGX w ≤ 16777216 →
          ConvDirect e f co cp [xSp, gSp] →
          s.mayIssue t e [xSp, gSp] [(planarSpan co cp f.nco drn f.npos f.npos).lineEnd]
            (f.elems f.nco (s.gridTaps t f) ++ planeRanges f.woff f.wp 2 (packedBytes (gridFmt w).bits f.npos))
            (planeRanges co cp f.nco (packedBytes drn.bits f.npos)) [] [] →
        Runs (.convGridSample t) s (ConvWrote s t e f co cp (s.gridVal t f (Nat.testBit e 52)))))

/-- The formats of a VECT entry are allowed in their roles (R69, R72, R73): block-scaled ones for CONVERT alone, and not at both
ends; an immediate y of an integer format or FP32; FP32 pairs. -/
abbrev Sys2Proof.Machine.VectFmts (f : VForm) (v : VSpec) : Prop :=
  (v.conv = true → f.xf.scaled = false ∨ f.df.scaled = false) ∧ (v.conv = false → f.xf.scaled = false ∧ f.df.scaled = false)
  ∧ (v.y = true → f.yf.scaled = false) ∧ (v.z = true → f.zf.scaled = false)
  ∧ (v.y = true ∧ f.yimm = true → f.yf ∈ [Fmt.int8, .uint8, .int4, .int32, .fp32])
  ∧ (v.pairY = true → f.yf = .fp32) ∧ (v.pairD = true → f.df = .fp32)

/-- A VECT entry of operation `code` that completes: its format codes are defined (R26) and allowed in their roles, COUNT and GLEN
lie in the ranges of Table 3.9 and GLEN divides COUNT, Y_IMM is 0 where IMM is a selector or unused (Table 3.5), its spans lie
in tile SRAM (R60), and its issue is free (R62). -/
abbrev Sys2Proof.Machine.State.mayVect (s : State) (t e : Nat) (f : VForm) (code : Nat) (v : VSpec) : Prop :=
  opcOf e = 4 ∧ vopOf e = code ∧ vForm (s.tile t) e v = some f
  ∧ 1 ≤ f.n ∧ f.n ≤ 2097152 ∧ (v.group = true → 1 ≤ f.glen ∧ f.glen ≤ 1048576 ∧ f.n % f.glen = 0)
  ∧ (v.noImm = true → Nat.testBit e 49 = false) ∧ VectFmts f v
  ∧ (∀ sp ∈ f.reads v ++ f.writes v, sp.hi ≤ sramBytes)
  ∧ s.mayIssue t e (f.reads v) (f.writes v) (f.reads v) (f.writes v) [] []

/-- A VECT operation has written these bytes at its destination and counted its saturations and NaNs, and has changed no
other byte and no other register. -/
def Sys2Proof.Machine.VectDone (s : State) (t e : Nat) (f : VForm) (bs : List Byte) (cs : List Conv) (u : State) : Prop :=
  Issued s u t e ∧ Stored s u (sramBase t + f.dof) bs
  ∧ Counted s u (rTILE_ARITH_CNT t) fTILE_ARITH_CNT_SAT_CNT (sumSat cs)
  ∧ Counted s u (rTILE_ARITH_CNT t) fTILE_ARITH_CNT_NAN_CNT (sumNan cs)
  ∧ RegsBut s u (tileRegs t)

/-- A list of values has been converted and written. -/
def Sys2Proof.Machine.VectVals (s : State) (t e : Nat) (f : VForm) (vs : List FVal) (u : State) : Prop :=
  VectDone s t e f (packElems f.df.bits ((vs.map (convertVal f.df f.ovf)).map (·.bits))) (vs.map (convertVal f.df f.ovf)) u

/-- The values of an elementwise operation of Table 3.10, from its row. -/
def Sys2Proof.Machine.State.elemVals (s : State) (t : Nat) (f : VForm) (v : VSpec) (g : FVal → FVal → FVal → FVal) : List FVal :=
  (List.range f.n).map (fun i => g (s.vx t f (f.intMode v) i) (s.vy t f (f.intMode v) i) (s.vz t f i))

/-- The values of a reduction, one a group. -/
def Sys2Proof.Machine.State.redVals (s : State) (t : Nat) (f : VForm) (v : VSpec) (r : List FVal → FVal) : List FVal :=
  (List.range f.groups).map (fun g => r (s.groupVals t f (f.intMode v) g))

/-- What the rows of Table 3.10 share: one operand, two, two and a third, one result a group. -/
def Sys2Proof.Machine.v1 : VSpec := { int := true }
def Sys2Proof.Machine.v2 : VSpec := { int := true, y := true }
def Sys2Proof.Machine.vRed : VSpec := { int := true, group := true, reduce := true }

/-- R69, R70 and Table 3.10: COPY, ADD, SUB, MUL, FMA, MAX, MIN, ABS, EXP, RCP and RSQRT each complete and write, for each
element, the value their row gives for the elements at the same place of X, Y and Z, converted to D_FMT; each counts its
saturations and NaNs and changes no other byte.
[Model choices: log entries 24, 26, 27.] -/
def Obligations.VectElementwiseValues : Prop :=
  ∀ (s : State) (t e : Nat) (f : VForm),
    (s.mayVect t e f 0x00 v1 → Runs (.vectCopy t) s (VectVals s t e f (s.elemVals t f v1 (fun x _ _ => x))))
    ∧ (s.mayVect t e f 0x01 v2 → Runs (.vectAdd t) s (VectVals s t e f (s.elemVals t f v2 (fun x y _ => vRound (f.intMode v2) (addV x y)))))
    ∧ (s.mayVect t e f 0x02 v2 →
        Runs (.vectSub t) s (VectVals s t e f (s.elemVals t f v2 (fun x y _ => vRound (f.intMode v2) (addV x (negV y))))))
    ∧ (s.mayVect t e f 0x03 v2 → Runs (.vectMul t) s (VectVals s t e f (s.elemVals t f v2 (fun x y _ => vRound (f.intMode v2) (mulV x y)))))
    ∧ (s.mayVect t e f 0x04 { y := true, z := true } →
        Runs (.vectFma t) s (VectVals s t e f (s.elemVals t f { y := true, z := true } (fun x y z => f32 (r32 (addV (mulV x y) z))))))
    ∧ (s.mayVect t e f 0x05 v2 → Runs (.vectMax t) s (VectVals s t e f (s.elemVals t f v2 (fun x y _ => maxV x y))))
    ∧ (s.mayVect t e f 0x06 v2 → Runs (.vectMin t) s (VectVals s t e f (s.elemVals t f v2 (fun x y _ => minV x y))))
    ∧ (s.mayVect t e f 0x07 v1 → Runs (.vectAbs t) s (VectVals s t e f (s.elemVals t f v1 (fun x _ _ => absV x))))
    ∧ (s.mayVect t e f 0x0A {} → Runs (.vectExp t) s (VectVals s t e f (s.elemVals t f {} (fun x _ _ => f32 (expR fp32 x)))))
    ∧ (s.mayVect t e f 0x0B {} → Runs (.vectRcp t) s (VectVals s t e f (s.elemVals t f {} (fun x _ _ => f32 (r32 (divV (.fin false 1 0) x))))))
    ∧ (s.mayVect t e f 0x0C {} → Runs (.vectRsqrt t) s (VectVals s t e f (s.elemVals t f {} (fun x _ _ => f32 (r32 (rsqrtV x))))))

/-- R69 to R74: CMP writes its predicate, SELECT one of two operands, ACT the value of its table, and CONVERT the converted element;
RSUM, RMAX and RMIN write one value a group, SMX_STEP and MEANVAR one pair a group, and NORM the normalised elements. Each
of CMP, SELECT, ACT, CONVERT, RSUM, RMAX, RMIN, SMX_STEP, MEANVAR and NORM completes.
[Model choices: log entries 24, 26, 27.] -/
def Obligations.VectSelectingAndGroupValues : Prop :=
  ∀ (s : State) (t e : Nat) (f : VForm),
    (s.mayVect t e f 0x08 { int := true, y := true, noImm := true } → f.imm % 8 ≤ 5 → f.df = .uint8 →
      Runs (.vectCmp t) s (VectVals s t e f (s.elemVals t f { int := true, y := true, noImm := true }
        (fun x y _ => .fin false (bit (cmpPred (f.imm % 8) x y)) 0))))
    ∧ (s.mayVect t e f 0x09 { int := true, y := true, z := true } → (f.zf = .int8 ∨ f.zf = .uint8) →
      Runs (.vectSelect t) s (VectVals s t e f (s.elemVals t f { int := true, y := true, z := true } (fun x y z => if isZeroV z then y else x))))
    ∧ (∀ tab, s.mayVect t e f 0x0E { noImm := true } → s.actTab t (f.imm % 8) = some tab →
      Runs (.vectAct t) s (VectVals s t e f (s.elemVals t f { noImm := true } (fun x _ _ => f32 (actEval tab (r32 x))))))
    ∧ (s.mayVect t e f 0x0D { conv := true } → f.df.scaled = false →
      Runs (.vectConvert t) s (VectVals s t e f ((List.range f.n).map (s.convVal t f))))
    ∧ (s.mayVect t e f 0x0D { conv := true } → f.df.scaled = true →
      Runs (.vectConvert t) s (fun u =>
        Issued s u t e ∧ u.sramRead t f.zo f.blocks = (s.convBlocks t f).map (fun q => BitVec.ofNat 8 q.scale)
        ∧ (f.dof + packedBytes f.df.bits f.n ≤ f.zo ∨ f.zo + f.blocks ≤ f.dof →
            u.sramRead t f.dof (packedBytes f.df.bits f.n) = packElems f.df.bits ((s.convBlocks t f).flatMap (·.elems)))
        ∧ RegsBut s u (tileRegs t)))
    ∧ (s.mayVect t e f 0x10 vRed →
      Runs (.vectRsum t) s (VectVals s t e f (s.redVals t f vRed (fun l =>
        if f.intMode vRed then intNorm (l.foldl addV (.fin false 0 0)) else f32 (rsum (l.map r32))))))
    ∧ (s.mayVect t e f 0x11 vRed → Runs (.vectRmax t) s (VectVals s t e f (s.redVals t f vRed (foldVals maxV))))
    ∧ (s.mayVect t e f 0x12 vRed → Runs (.vectRmin t) s (VectVals s t e f (s.redVals t f vRed (foldVals minV))))
    ∧ (s.mayVect t e f 0x13 { group := true, pairY := true, pairD := true, noImm := true } →
      Runs (.vectSmxStep t) s (VectDone s t e f ((List.range f.groups).flatMap (fun g =>
        leBytes 4 (smxStep (s.pairAt t f g 0) (s.pairAt t f g 1) (s.groupVals t f false g)).1
        ++ leBytes 4 (smxStep (s.pairAt t f g 0) (s.pairAt t f g 1) (s.groupVals t f false g)).2)) []))
    ∧ (s.mayVect t e f 0x14 { group := true, pairD := true } →
      Runs (.vectMeanvar t) s (VectDone s t e f ((List.range f.groups).flatMap (fun g =>
        leBytes 4 (meanVar f.imm ((s.groupVals t f false g).map r32)).1 ++ leBytes 4 (meanVar f.imm ((s.groupVals t f false g).map r32)).2)) []))
    ∧ (s.mayVect t e f 0x15 { group := true, pairY := true, noImm := true } →
      Runs (.vectNorm t) s (VectVals s t e f ((List.range f.n).map (fun i =>
        f32 (f32Mul (f32Sub (r32 (s.vx t f false i)) (s.pairAt t f (i / f.glen) 0)) (s.pairAt t f (i / f.glen) 1))))))

/-- The fields of a POST entry in the ranges of Table 3.12: C and P, and no zero point for a format without one (Table 3.5);
its input is not block-scaled (R26). -/
abbrev Sys2Proof.Machine.PostLegal (f : PForm) : Prop :=
  1 ≤ f.c ∧ 1 ≤ f.p ∧ f.p ≤ 2097152 ∧ (f.zp ≠ 0 → f.df ∈ [Fmt.int8, .uint8, .int4]) ∧ f.xf.scaled = false

/-- R75, R76 and R77: POST FLOAT and INT write one plane of outputs a channel, with scale, bias, activation or shift and
zero point; ARGMAX writes the index and the value of the largest channel. Each completes when its fields are in range, its
formats and settings are those its mode allows, its table is one of the image's, its spans lie in tile SRAM (R60) and its
issue is free (R62).
[Model choices: log entries 24, 26, 28.] -/
def Obligations.PostModesWriteTheirPlanes : Prop :=
  ∀ (s : State) (t e : Nat) (f : PForm), opcOf e = 5 → pForm (s.tile t) e = some f → PostLegal f →
    (ef e 3 1 0 = 0 → (f.act = true → (s.actTab t f.tab).isSome = true) → f.df.scaled = false →
        (∀ sp ∈ [f.xSpan, spanOf f.ta (8 * f.c), f.dSpan f.c], sp.hi ≤ sramBytes) →
        packedBytes f.df.bits f.p ≤ f.dp → s.mayIssue t e [f.xSpan, spanOf f.ta (8 * f.c)] [f.dSpan f.c]
          (spanOf f.ta (8 * f.c) :: f.xBytes) (f.dBytes f.c) [] [] →
      Runs (.postFloat t) s (fun u => Issued s u t e ∧ RegsBut s u (tileRegs t) ∧ OnlySpan s u t (f.dSpan f.c)
        ∧ Planes u t f.dof f.dp f.c (fun c => packElems f.df.bits ((List.range f.p).map (fun i => (postOut f (f32 (s.postY t f c i))).bits)))))
    ∧ (ef e 3 1 0 = 0 → (f.act = true → (s.actTab t f.tab).isSome = true) → f.df.scaled = true →
        (∀ sp ∈ [f.xSpan, spanOf f.ta (8 * f.c), f.dSpan f.c, planesSpan f.io f.ip (ceilDiv f.c 32) f.p], sp.hi ≤ sramBytes) →
        s.mayIssue t e [f.xSpan, spanOf f.ta (8 * f.c)] [f.dSpan f.c, planesSpan f.io f.ip (ceilDiv f.c 32) f.p]
          (spanOf f.ta (8 * f.c) :: f.xBytes) (f.dBytes f.c ++ planeRanges f.io f.ip (ceilDiv f.c 32) f.p) [] [] →
      Runs (.postFloat t) s (fun u => Issued s u t e ∧ RegsBut s u (tileRegs t)
        ∧ ∀ b, (b < sramBase t ∨ sramBase t + sramBytes ≤ b) → u.mem.byte b = s.mem.byte b))
    ∧ (ef e 3 1 0 = 1 → f.xf = .int32 → f.df ∈ [Fmt.int8, .uint8, .int4, .int32] → f.act = false →
        (∀ sp ∈ [f.xSpan, spanOf f.ta (16 * f.c), f.dSpan f.c], sp.hi ≤ sramBytes) →
        packedBytes f.df.bits f.p ≤ f.dp → s.mayIssue t e [f.xSpan, spanOf f.ta (16 * f.c)] [f.dSpan f.c]
          (spanOf f.ta (16 * f.c) :: f.xBytes) (f.dBytes f.c) [] [] →
        (∀ c, c < f.c → s.postShift t f c ≤ 63) →
      Runs (.postInt t) s (fun u => Issued s u t e ∧ RegsBut s u (tileRegs t) ∧ OnlySpan s u t (f.dSpan f.c)
        ∧ Planes u t f.dof f.dp f.c (fun c => packElems f.df.bits ((List.range f.p).map (fun i => (zpOut f.df f.zp (s.postQ t f c i)).bits)))))
    ∧ (ef e 3 1 0 = 2 → f.df = f.xf → f.act = false → (∀ sp ∈ [f.xSpan, f.dSpan 1, spanOf f.io (2 * f.p)], sp.hi ≤ sramBytes) →
        s.mayIssue t e [f.xSpan] [f.dSpan 1, spanOf f.io (2 * f.p)] f.xBytes (spanOf f.io (2 * f.p) :: f.dBytes 1) [] [] →
      Runs (.postArgmax t) s (fun u => Issued s u t e ∧ RegsBut s u (tileRegs t)
        ∧ u.sramRead t f.io (2 * f.p) = (List.range f.p).flatMap (fun i => leBytes 2 (s.argAt t f i).1)
        ∧ (overlap (f.dSpan 1) (spanOf f.io (2 * f.p)) = false →
            u.sramRead t f.dof (packedBytes f.df.bits f.p) = packElems f.df.bits ((List.range f.p).map (fun i => (s.argAt t f i).2)))
        ∧ ∀ b, (b < sramBase t ∨ sramBase t + sramBytes ≤ b) → u.mem.byte b = s.mem.byte b))

/-! ## Set engines and DMA engines -/

/-- A waiting descriptor that R170 lets start and that is not refused, failed or done before. -/
abbrev Sys2Proof.Machine.State.ready (s : State) (c n : Nat) (d : Desc) : Prop :=
  s.desc c n = some d ∧ s.startable c d = true ∧ s.depFailed c d = false ∧ s.classRefused c d = false ∧ s.doneOnce c d = false

/-- The descriptor has ended with a status. -/
def Sys2Proof.Machine.Ended (t : State) (c n st : Nat) : Prop :=
  (t.desc c n).map (fun y => (y.phase, y.status)) = some (.finished, st)

/-- Bytes outside a list of writes are as before. -/
def Sys2Proof.Machine.OnlyWrites (s t : State) (ws : List (Nat × List Byte)) : Prop :=
  ∀ b, (∀ w ∈ ws, b < w.1 ∨ w.1 + w.2.length ≤ b) → t.mem.byte b = s.mem.byte b

/-- Every write starts in populated HBM, and lands. -/
abbrev Sys2Proof.Machine.State.hbmWrites (s : State) (ws : List (Nat × List Byte)) : Prop :=
  ∀ w ∈ ws, w.1 < s.hbmBytes ∧ w.1 < 0xC00000000 ∧ s.alive w.1 w.2.length

/-- An illegal SET_OP has ended with its status, and nothing else has changed. -/
def Sys2Proof.Machine.SetRefused (s : State) (c n st : Nat) (t : State) : Prop :=
  Ended t c n st ∧ t.regs = s.regs ∧ t.mem = s.mem ∧ t.tiles = s.tiles ∧ t.hub.sets = s.hub.sets

/-- A started SET_OP whose partitions are all placed, on engines that all hold it, and whose accesses pass their checks. -/
abbrev Sys2Proof.Machine.State.setMayRun (s : State) (c n : Nat) (d : Desc) (o : SetOut) : Prop :=
  s.desc c n = some d ∧ d.phase = .started ∧ s.jobLive c d = true
  ∧ (s.setOp c n).any (fun a => !a.waiting && a.ran.isNone) = true
  ∧ (∃ x, x < 4 ∧ s.dieUsable x = true ∧ Nat.testBit (s.jobDies c d) x = true) ∧ s.setHeld c d = true ∧ s.setBad d = none
  ∧ Sys2Proof.Machine.setCompute c s d = .ok o ∧ s.writesErr c o.writes = none ∧ s.hbmWrites o.writes

/-- The outputs of a SET_OP stand in memory and the counts of its header are kept for its completion. -/
def Sys2Proof.Machine.SetRan (s : State) (c n : Nat) (d : Desc) (o : SetOut) (t : State) : Prop :=
  (t.setOp c n).map (·.ran) = some (some o.header) ∧ OnlyWrites s t o.writes ∧ (∀ w, o.writes = [w] → Stored s t w.1 w.2)
  ∧ t.desc c n = some d ∧ t.tiles = s.tiles ∧ t.time = s.time

/-- R110, R112 and R126: an illegal SET_OP ends with its status and does nothing; one whose partitions engines all hold writes
the outputs of its operation and nothing else, and keeps the counts of its header for the completion. Each of HASH_BUILD,
HASH_QUERY, NEIGHBOURS, KNN, BALL, SORT, TOPK, SEGMENT_REDUCE, GATHER_ROWS and SCATTER_GRID completes so.
R112: SET_OP_COMPLETE writes the result header, ends the descriptor OK and frees its engines.
[Model choices: log entries 35, 36, 37, 38.] -/
def Obligations.SetOpsComputeAndWriteHeaders : Prop :=
  (
    ∀ (s : State) (c n : Nat) (d : Desc), d.op = 4 →
      (∀ st, s.ready c n d → setDescErr d = some st →
        (sopOf d = 1 → Runs (.hashBuild c n) s (SetRefused s c n st))
        ∧ (sopOf d = 2 → Runs (.hashQuery c n) s (SetRefused s c n st))
        ∧ (sopOf d = 3 → Runs (.neighbours c n) s (SetRefused s c n st))
        ∧ (sopOf d = 4 → Runs (.knn c n) s (SetRefused s c n st))
        ∧ (sopOf d = 5 → Runs (.ball c n) s (SetRefused s c n st))
        ∧ (sopOf d = 6 → Runs (.sort c n) s (SetRefused s c n st))
        ∧ (sopOf d = 7 → Runs (.topk c n) s (SetRefused s c n st))
        ∧ (sopOf d = 8 → Runs (.segmentReduce c n) s (SetRefused s c n st))
        ∧ (sopOf d = 9 → Runs (.gatherRows c n) s (SetRefused s c n st))
        ∧ (sopOf d = 10 → Runs (.scatterGrid c n) s (SetRefused s c n st)))
      ∧ (∀ o, s.setMayRun c n d o →
        (sopOf d = 1 → Runs (.hashBuild c n) s (SetRan s c n d o))
        ∧ (sopOf d = 2 → Runs (.hashQuery c n) s (SetRan s c n d o))
        ∧ (sopOf d = 3 → Runs (.neighbours c n) s (SetRan s c n d o))
        ∧ (sopOf d = 4 → Runs (.knn c n) s (SetRan s c n d o))
        ∧ (sopOf d = 5 → Runs (.ball c n) s (SetRan s c n d o))
        ∧ (sopOf d = 6 → Runs (.sort c n) s (SetRan s c n d o))
        ∧ (sopOf d = 7 → Runs (.topk c n) s (SetRan s c n d o))
        ∧ (sopOf d = 8 → Runs (.segmentReduce c n) s (SetRan s c n d o))
        ∧ (sopOf d = 9 → Runs (.gatherRows c n) s (SetRan s c n d o))
        ∧ (sopOf d = 10 → Runs (.scatterGrid c n) s (SetRan s c n d o)))) ∧
  (
    ∀ (s : State) (c n : Nat) (d : Desc) (a : SetOp) (h : List Nat), s.desc c n = some d → s.setOp c n = some a → a.ran = some h →
      s.setHeld c d = true → s.jobLive c d = true →
      s.engineErr c .wr (setResult d) (packNats 8 h ++ leBytes 8 0).length = none → s.storable (setResult d) (packNats 8 h ++ leBytes 8 0).length →
      Runs (.setOpComplete c n) s (fun t =>
        Stored s t (setResult d) (packNats 8 h ++ leBytes 8 0) ∧ Ended t c n stOK ∧ t.setOp c n = none
        ∧ (∀ u ∈ d.units, (t.setEngine (u - 128)).cur = none)
        ∧ RegsTraced s t (d.units.map (fun u => rGE_STATUS (u - 128))) ∧ t.tiles = s.tiles))

/-- R106 and R114: a waiting operation goes on when the build has ended; a chunk boundary suspends an operation for work
of higher priority, keeping its partition and its input position, and the newest suspended operation takes its engine again
from there.
[Model choices: log entries 38, 108.] -/
def Obligations.SetEnginesSuspendAndResume : Prop :=
  ∀ (s : State) (e c n : Nat) (d : Desc), s.desc c n = some d →
    (∀ a, s.setOp c n = some a → a.waiting = true → s.buildOn (setTable d) c n = false → s.jobLive c d = true →
      Runs (.tableBuildWaitEnd c n) s (fun t =>
        (∀ b, t.setOp c n = some b → b.waiting = false) ∧ t.tiles = s.tiles ∧ t.time = s.time))
    ∧ (∀ fl, e < s.hub.sets.length → (s.setEngine e).cur = some (c, n) → (s.setEngine e).susp.length < suspCap →
        (s.halted = true ∨ ∃ p ∈ s.setWaiting e, s.descPrio c n < s.descPrio p.1 p.2) →
      Runs (.setOpChunkBoundary { eng := e, flips := fl }) s (fun t =>
        (t.setEngine e).cur = none
        ∧ (t.setEngine e).susp = { op := (c, n), part := (s.setEngine e).part
                                   pos := min (setN d) ((s.setEngine e).pos + chunkInputs) } :: (s.setEngine e).susp
        ∧ (∀ v, v ≠ e → t.setEngine v = s.setEngine v) ∧ t.mem = s.mem ∧ RegsTraced s t [rGE_STATUS e]))
    ∧ (∀ fl, e < s.hub.sets.length → (s.setEngine e).cur = some (c, n) →
        s.halted = false → (∀ p ∈ s.setWaiting e, s.descPrio p.1 p.2 ≤ s.descPrio c n) →
      Runs (.setOpChunkBoundary { eng := e, flips := fl }) s (fun t =>
        t.setEngine e = { fl.foldl SetEngine.flip (s.setEngine e) with pos := min (setN d) ((s.setEngine e).pos + chunkInputs) }
        ∧ (∀ v, v ≠ e → t.setEngine v = s.setEngine v) ∧ t = { s with hub := t.hub }))
    ∧ (∀ u r, e < s.hub.sets.length → (s.setEngine e).susp = u :: r → u.op = (c, n) → s.setIdle e = true →
        s.setFit (s.jobDies c d) (s.effClass c d.raw) e = true → s.jobLive c d = true →
      Runs (.setOpResume e) s (fun t =>
        (t.setEngine e).cur = some (c, n) ∧ (t.setEngine e).part = u.part ∧ (t.setEngine e).pos = u.pos ∧ (t.setEngine e).susp = r
        ∧ (∀ v, v ≠ e → t.setEngine v = s.setEngine v)
        ∧ t.mem = s.mem ∧ RegsTraced s t [rGE_STATUS e, rGE_EVENT_CNT e]))

/-- A started descriptor that all its DMA engines hold. -/
abbrev Sys2Proof.Machine.State.dmaServes (s : State) (c n : Nat) (d : Desc) : Prop :=
  s.desc c n = some d ∧ d.phase = .started ∧ s.jobLive c d = true ∧ s.dmaHeld c d = true

/-- Its engines have let go of it and raised their completion flags (R198). -/
def Sys2Proof.Machine.Released (t : State) (d : Desc) : Prop := ∀ u ∈ d.units, (t.dma (u - 144)).cur = none

/-- R167: COPY moves its bytes, FILL repeats its pattern, and an access that fails ends the descriptor with its status and
changes no byte.
[Model choices: log entries 18, 31.] -/
def Obligations.CopyAndFillMoveBytes : Prop :=
  ∀ (s : State) (c n : Nat) (d : Desc), s.dmaServes c n d → d.op = 2 →
    (∀ bs, copyFills d = false → s.engRead c (d.at 16 8) (copyBytes d) = .ok bs → s.engineErr c .wr (d.at 24 8) bs.length = none →
        s.storable (d.at 24 8) bs.length →
      Runs (.copy c n) s (fun t =>
        Stored s t (d.at 24 8) bs ∧ Ended t c n stOK ∧ Released t d ∧ RegsTraced s t [] ∧ t.tiles = s.tiles))
    ∧ (∀ e, copyFills d = false → s.engRead c (d.at 16 8) (copyBytes d) = .err e →
      Runs (.copy c n) s (fun t => Ended t c n e.status ∧ Released t d ∧ t.mem = s.mem ∧ RegsTraced s t [] ∧ t.tiles = s.tiles))
    ∧ (copyFills d = true → s.engineErr c .wr (d.at 24 8) (copyBytes d) = none → s.storable (d.at 24 8) (copyBytes d) →
      Runs (.copyFill c n) s (fun t =>
        (∀ i, i < copyBytes d → t.mem.byte (d.at 24 8 + i) = BitVec.ofNat 8 (bytesOf (d.at 48 8) ((d.at 24 8 + i) % 8) 1))
        ∧ (∀ b, (b < d.at 24 8 ∨ d.at 24 8 + copyBytes d ≤ b) → t.mem.byte b = s.mem.byte b)
        ∧ Ended t c n stOK ∧ Released t d ∧ RegsTraced s t [] ∧ t.tiles = s.tiles))

/-- A refused KV_OP has ended with its status and changed nothing. -/
def Sys2Proof.Machine.KvRefused (s : State) (c n : Nat) (d : Desc) (st : Nat) (t : State) : Prop :=
  Ended t c n st ∧ Released t d ∧ t.mem = s.mem ∧ RegsTraced s t []

/-- The register in which a KV_OP's engine counts. -/
def Sys2Proof.Machine.kvCntReg (d : Desc) : Addr := rDE_KV_CNT ((d.units.head?).getD 144 - 144)

/-- An accepted KV_OP on a latent sequence has ended OK with the writes of its operation, and counted. -/
def Sys2Proof.Machine.KvLatentDone (s : State) (c n : Nat) (d : Desc) (q : Seq) (k : KvDone) (t : State) : Prop :=
  Ended t c n stOK ∧ Released t d ∧ OnlyWrites s t k.writes ∧ RegsTraced s t [kvCntReg d]
  ∧ (kvKop d = 1 → t.memNat (q.at' + 24) 4 = (q.length + kvCount d) % 2 ^ 32 ∧ t.memNat (q.at' + 76) 4 = (q.updates + 1) % 2 ^ 32
      ∧ Counted s t (kvCntReg d) fDE_KV_CNT_APPEND_CNT (kvCount d))
  ∧ (kvKop d = 3 → t.memNat (q.at' + 24) 4 = kvFirst d ∧ t.memNat (q.at' + 76) 4 = (q.updates + 1) % 2 ^ 32)
  ∧ (kvKop d = 4 → t.memNat (q.at' + 3) 1 = 2 ∧ t.memNat (q.at' + 76) 4 = (q.updates + 1) % 2 ^ 32)

/-- The same on a score-mode sequence. -/
def Sys2Proof.Machine.KvScoreDone (s : State) (c n : Nat) (d : Desc) (q : Seq) (k : KvDone) (t : State) : Prop :=
  Ended t c n stOK ∧ Released t d ∧ OnlyWrites s t k.writes ∧ (kvKop d ≠ 2 → t.memNat (q.at' + 76) 4 = (q.updates + 1) % 2 ^ 32)

/-- R131 to R143: an accepted KV_OP makes the writes of its operation and no other, a latent APPEND advances LENGTH by
COUNT, an EVICT to FIRST sets LENGTH to it, a FREE marks the sequence, and each counts in UPDATE_SEQ; a refused KV_OP,
an EVICT by score or of one position on a latent sequence among them, changes nothing. Each of APPEND, ATTEND_FETCH, EVICT (truncate, lowest scored, one position) and FREE completes so.
[Model choices: log entries 31, 39.] -/
def Obligations.KvOpsChangeTheSequence : Prop :=
  ∀ (s : State) (c n : Nat) (d : Desc), s.dmaServes c n d → d.op = 5 → s.kvBusy c d = false →
    (∀ e, kvOpen s c d = .error e →
      (kvKop d = 1 → Runs (.append c n) s (KvRefused s c n d e.status))
      ∧ (kvKop d = 2 → Runs (.attendFetch c n) s (KvRefused s c n d e.status))
      ∧ (kvKop d = 3 ∧ kvEmode d = 0 → Runs (.evictTruncate c n) s (KvRefused s c n d e.status))
      ∧ (kvKop d = 3 ∧ kvEmode d = 1 → Runs (.evictLowestScored c n) s (KvRefused s c n d e.status))
      ∧ (kvKop d = 3 ∧ kvEmode d = 2 → Runs (.evictOnePosition c n) s (KvRefused s c n d e.status))
      ∧ (kvKop d = 4 → Runs (.free c n) s (KvRefused s c n d e.status)))
    ∧ (∀ q k, kvOpen s c d = .ok q → q.score = false → kvEffect s c q d = .ok k → s.writesErr c k.writes = none → s.hbmWrites k.writes →
      (kvKop d = 1 → Runs (.append c n) s (KvLatentDone s c n d q k))
      ∧ (kvKop d = 2 → Runs (.attendFetch c n) s (KvLatentDone s c n d q k))
      ∧ (kvKop d = 3 ∧ kvEmode d = 0 → Runs (.evictTruncate c n) s (KvLatentDone s c n d q k))
      ∧ (kvKop d = 4 → Runs (.free c n) s (KvLatentDone s c n d q k)))
    ∧ (∀ q, kvOpen s c d = .ok q → q.score = false →
      (kvKop d = 3 ∧ kvEmode d = 1 → Runs (.evictLowestScored c n) s (KvRefused s c n d stUNSUPPORTED))
      ∧ (kvKop d = 3 ∧ kvEmode d = 2 → Runs (.evictOnePosition c n) s (KvRefused s c n d stUNSUPPORTED)))
    ∧ (∀ q k, kvOpen s c d = .ok q → q.score = true → s.scoreGrant c q = .yes → kvEffect s c q d = .ok k →
        (s.scoreRegister c q.at').writesErr c k.writes = none → s.hbmWrites k.writes →
      (kvKop d = 1 → Runs (.append c n) s (KvScoreDone s c n d q k))
      ∧ (kvKop d = 2 → Runs (.attendFetch c n) s (KvScoreDone s c n d q k))
      ∧ (kvKop d = 3 ∧ kvEmode d = 0 → Runs (.evictTruncate c n) s (KvScoreDone s c n d q k))
      ∧ (kvKop d = 3 ∧ kvEmode d = 1 → Runs (.evictLowestScored c n) s (KvScoreDone s c n d q k))
      ∧ (kvKop d = 3 ∧ kvEmode d = 2 → Runs (.evictOnePosition c n) s (KvScoreDone s c n d q k))
      ∧ (kvKop d = 4 → Runs (.free c n) s (KvScoreDone s c n d q k)))

/-- R147 to R150: a malformed COLLECTIVE is refused; a member's contribution goes to its slot here and to every other
member part; the lowest-ranked member combines the slots into DST in ascending rank.
[Model choices: log entries 40, 109.] -/
def Obligations.CollectivesWriteAndCombine : Prop :=
  ∀ (s : State) (c n : Nat) (d : Desc),
    (s.ready c n d → d.op = 3 → collDescOk d = false →
      (collCop d ≠ 2 → Runs (.allGather c n) s (fun t => Ended t c n stMALFORMED ∧ t.mem = s.mem ∧ t.regs = s.regs ∧ t.sent = s.sent))
      ∧ (collCop d = 2 → Runs (.reduce c n) s (fun t => Ended t c n stMALFORMED ∧ t.mem = s.mem ∧ t.regs = s.regs ∧ t.sent = s.sent)))
    ∧ (∀ x m die bs, s.dmaServes c n d → d.op = 3 → s.coll (collTag d) = some x →
        x.joined.find? (fun m => m.ctx == c && m.num == n) = some m → m.pushed = false → collPlace s c d x = .die die →
        s.engRead c (collSrc d) x.len = .ok bs → s.engineErr c .wr (x.slot (collRank d)) bs.length = none →
        s.storable (x.slot (collRank d)) bs.length →
      (collCop d = 1 → Runs (.allGather c n) s (fun t =>
        Stored s t (x.slot (collRank d)) bs ∧ Released t d ∧ RegsTraced s t []
        ∧ t.sent = ((x.others s.selfId).map (fun p => Sent.peerColl p (x.slot (collRank d)) (x.head (collRank d)) bs)).reverse ++ s.sent
        ∧ (x.cop = 1 → x.joined = [m] → x.list = [(s.selfId, 4)] → m.rank = 0 → collRank d = 0 → Ended t c n stOK)))
      ∧ (collCop d = 2 → x.cop = 2 → Runs (.reduce c n) s (fun t =>
        Stored s t (x.slot (collRank d)) bs ∧ Released t d ∧ RegsTraced s t []
        ∧ t.sent = ((x.others s.selfId).map (fun p => Sent.peerColl p (x.slot (collRank d)) (x.head (collRank d)) bs)).reverse ++ s.sent)))
    ∧ (∀ x f bs out, s.desc c n = some d → s.coll (collTag d) = some x → x.cop = 2 → s.collLeads x c n = true → s.collAll x = true →
        s.jobLive c d = true → fmtOfCode x.fmt = some f → s.engRead c x.recv (x.off x.list.length) = .ok bs →
        out = packElems f.bits ((List.range x.elems).map (fun i =>
          (convertVal f false (combine f (x.red == 1) ((List.range x.list.length).map (fun r => collElem bs x f r i)))).bits)) →
        s.engineErr c .wr x.dst out.length = none → s.storable x.dst out.length →
      Runs (.reduceCombine c n) s (fun t =>
        Stored s t x.dst out ∧ Ended t c n stOK ∧ t.coll (collTag d) = none
        ∧ RegsTraced s t [rDE_ARITH_CNT ((d.units.head?).getD 144 - 144)]))

/-! ## Contexts, descriptors and jobs -/

/-- R154 and R155: a context is enabled when both rings and its class are legal, with pointers and window empty; else the
cause is set and nothing starts; a disable drains, and a drained context becomes DISABLED.
R156 and R175: rings, mirror and regions of a context are written while it is DISABLED and refused with CFG_REJ
otherwise; a slot's KIND and OWNER change unless its present owner or the plan stream is using it.
[Model choices: log entry 33.] -/
def Obligations.ContextsAreConfiguredEnabledAndDrained : Prop :=
  (
    ∀ (s : State) (p : Port) (c : Nat), c < 64 → c < s.hub.ctxs.length →
      (s.accepts p (rHUB_CTX_CFG c) → s.ctxState c = 0 → s.ringsOk c = true → s.classOk c = true →
        Runs (.ctxEnable p c) s (fun t =>
          t.did p ∧ t.ctxState c = 1 ∧ t.flag (rHUB_CTX_CFG c) fHUB_CTX_CFG_ENABLE = true ∧ t.sqHead c = 0 ∧ t.cqTail c = 0
          ∧ t.sqTail c = 0 ∧ t.cqHead c = 0 ∧ t.ctx c = {} ∧ (∀ e, e ≠ c → t.ctx e = s.ctx e)
          ∧ RegsBut s t [rHUB_CTX_CFG c, rHUB_CTX_PTRS c, rDB_SQ_TAIL c, rDB_CQ_HEAD c, rHUB_CTX_STATUS c, rPM_STATUS] ∧ t.mem = s.mem))
      ∧ (s.accepts p (rHUB_CTX_CFG c) → s.ctxState c = 0 → (s.ringsOk c && s.classOk c) = false →
        Runs (.ctxEnable p c) s (fun t =>
          t.did p ∧ t.ctxState c = 0
          ∧ t.flag (rHUB_CTX_STATUS c) fHUB_CTX_STATUS_EN_RING = (s.flag (rHUB_CTX_STATUS c) fHUB_CTX_STATUS_EN_RING || !s.ringsOk c)
          ∧ t.flag (rHUB_CTX_STATUS c) fHUB_CTX_STATUS_EN_CLASS = (s.flag (rHUB_CTX_STATUS c) fHUB_CTX_STATUS_EN_CLASS || !s.classOk c)
          ∧ RegsBut s t [rHUB_CTX_STATUS c, rPM_STATUS] ∧ t.hub = s.hub ∧ t.mem = s.mem))
      ∧ (s.accepts p (rHUB_CTX_CFG c) → s.ctxState c = 2 →
        Runs (.ctxEnable p c) s (fun t =>
          t.did p ∧ t.ctxState c = 2 ∧ t.flag (rHUB_CTX_STATUS c) fHUB_CTX_STATUS_CFG_REJ = true
          ∧ RegsBut s t [rHUB_CTX_STATUS c, rPM_STATUS] ∧ t.hub = s.hub ∧ t.mem = s.mem))
      ∧ (s.accepts p (rHUB_CTX_CFG c) → s.ctxState c = 1 →
        Runs (.ctxDisable p c) s (fun t =>
          t.did p ∧ t.ctxState c = 2 ∧ t.flag (rHUB_CTX_CFG c) fHUB_CTX_CFG_ENABLE = false ∧ (t.ctx c).window = (s.ctx c).window
          ∧ (∀ j, (s.ctx c).job = some j → j.endSeen = false →
              ∃ k, (t.ctx c).job = some k ∧ k.causes = j.causes ++ [disableCause] ∧ ∀ a, k.abort = some a → a.restart = false)
          ∧ RegsBut s t [rHUB_CTX_CFG c, rHUB_CTX_STATUS c, rPM_STATUS] ∧ t.mem = s.mem))
      ∧ (s.ctxState c = 2 → (s.ctx c).window = [] → (s.ctx c).job = none → (s.ctx c).rest = [] →
        Runs (.ctxDrainComplete c) s (fun t =>
          t.ctxState c = 0 ∧ RegsBut s t [rHUB_CTX_STATUS c] ∧ t = { s with regs := t.regs }))) ∧
  (
    ∀ (s : State) (p : Port) (c off sl : Nat) (w : Word),
      (c < 64 → off % 8 = 0 → s.accepts p (ctxBase c + off) → ctxGuarded off = true → s.ctxState c = 0 →
        Runs (.ctxConfigWrite p c off w) s (fun t =>
          t.did p ∧ t.reg (ctxBase c + off) = (s.plainWrite (ctxBase c + off) w).reg (ctxBase c + off)
          ∧ RegsBut s t [ctxBase c + off, rPM_STATUS] ∧ t.hub = s.hub ∧ t.mem = s.mem))
      ∧ (c < 64 → off % 8 = 0 → s.accepts p (ctxBase c + off) → ctxGuarded off = true → s.ctxState c ≠ 0 →
        Runs (.ctxConfigWrite p c off w) s (fun t =>
          t.did p ∧ t.flag (rHUB_CTX_STATUS c) fHUB_CTX_STATUS_CFG_REJ = true
          ∧ RegsBut s t [rHUB_CTX_STATUS c, rPM_STATUS] ∧ t.hub = s.hub ∧ t.mem = s.mem))
      ∧ (c < 64 → s.accepts p (ctxBase c) → s.ctxState c = 1 → fHUB_CTX_CFG_ENABLE.get w = 1 →
        Runs (.ctxConfigWrite p c 0 w) s (fun t =>
          t.did p ∧ t.rf (rHUB_CTX_CFG c) fHUB_CTX_CFG_IRQ_EN = fHUB_CTX_CFG_IRQ_EN.get w
          ∧ (ctxCfgOther w ≠ ctxCfgOther (s.reg (rHUB_CTX_CFG c)) → t.flag (rHUB_CTX_STATUS c) fHUB_CTX_STATUS_CFG_REJ = true)
          ∧ ctxCfgOther (t.reg (rHUB_CTX_CFG c)) = ctxCfgOther (s.reg (rHUB_CTX_CFG c))
          ∧ RegsBut s t [rHUB_CTX_CFG c, rHUB_CTX_STATUS c, rPM_STATUS] ∧ t.hub = s.hub ∧ t.mem = s.mem))
      ∧ (sl < 64 → s.accepts p (rHUB_SLOT_CFG sl) →
          ((fHUB_SLOT_CFG_KIND.get w = s.rf (rHUB_SLOT_CFG sl) fHUB_SLOT_CFG_KIND
              ∧ fHUB_SLOT_CFG_OWNER.get w = s.rf (rHUB_SLOT_CFG sl) fHUB_SLOT_CFG_OWNER)
            ∨ (s.rf (rHUB_SLOT_CFG sl) fHUB_SLOT_CFG_KIND = 1 ∧ s.ctxState (s.rf (rHUB_SLOT_CFG sl) fHUB_SLOT_CFG_OWNER) = 0)
            ∨ (s.rf (rHUB_SLOT_CFG sl) fHUB_SLOT_CFG_KIND = 2 ∧ s.planUsesSlot sl = false)
            ∨ s.rf (rHUB_SLOT_CFG sl) fHUB_SLOT_CFG_KIND = 0) →
        Runs (.slotCfgWrite p sl w) s (fun t =>
          t.did p ∧ t.rf (rHUB_SLOT_CFG sl) fHUB_SLOT_CFG_KIND = fHUB_SLOT_CFG_KIND.get w
          ∧ t.rf (rHUB_SLOT_CFG sl) fHUB_SLOT_CFG_OWNER = fHUB_SLOT_CFG_OWNER.get w
          ∧ t.rf (rHUB_SLOT_CFG sl) fHUB_SLOT_CFG_NOTIFY_A = fHUB_SLOT_CFG_NOTIFY_A.get w
          ∧ t.rf (rHUB_SLOT_CFG sl) fHUB_SLOT_CFG_NOTIFY_B = fHUB_SLOT_CFG_NOTIFY_B.get w
          ∧ RegsBut s t [rHUB_SLOT_CFG sl, rPM_STATUS] ∧ t.hub = s.hub ∧ t.mem = s.mem))
      ∧ (sl < 64 → s.accepts p (rHUB_SLOT_CFG sl) →
          (fHUB_SLOT_CFG_KIND.get w ≠ s.rf (rHUB_SLOT_CFG sl) fHUB_SLOT_CFG_KIND
            ∨ fHUB_SLOT_CFG_OWNER.get w ≠ s.rf (rHUB_SLOT_CFG sl) fHUB_SLOT_CFG_OWNER) →
        (s.rf (rHUB_SLOT_CFG sl) fHUB_SLOT_CFG_KIND = 1 → s.ctxState (s.rf (rHUB_SLOT_CFG sl) fHUB_SLOT_CFG_OWNER) ≠ 0 →
          Runs (.slotCfgWrite p sl w) s (fun t =>
            t.did p ∧ t.flag (rHUB_CTX_STATUS (s.rf (rHUB_SLOT_CFG sl) fHUB_SLOT_CFG_OWNER)) fHUB_CTX_STATUS_CFG_REJ = true
            ∧ RegsBut s t [rHUB_CTX_STATUS (s.rf (rHUB_SLOT_CFG sl) fHUB_SLOT_CFG_OWNER), rPM_STATUS] ∧ t.mem = s.mem))
        ∧ (s.rf (rHUB_SLOT_CFG sl) fHUB_SLOT_CFG_KIND = 2 → s.planUsesSlot sl = true →
          Runs (.slotCfgWrite p sl w) s (fun t =>
            t.did p ∧ t.flag rPC_PLAN_STAT fPC_PLAN_STAT_CFG_REJ = true ∧ RegsBut s t [rPC_PLAN_STAT, rPM_STATUS] ∧ t.mem = s.mem))))

/-- R161: a doorbell and a CQ_HEAD write take their value when it lies in range; any other value is ignored, sets DB_RANGE
and counts in DB_ERR_CNT. -/
def Obligations.DoorbellsAndHeadsStayInRange : Prop :=
  ∀ (s : State) (p : Port) (c v : Nat), c < 64 → v < 2 ^ 32 →
    (s.accepts p (rDB_SQ_TAIL c) → sub32 v (s.sqHead c) ≤ s.sqSize c → sub32 v (s.sqTail c) ≤ s.sqSize c →
      Runs (.doorbellWrite p c v) s (fun t =>
        t.did p ∧ t.sqTail c = v ∧ t.sqHead c = s.sqHead c ∧ (∀ e, e < 64 → e ≠ c → t.sqTail e = s.sqTail e) ∧ t.mem = s.mem
        ∧ (s.pw.phase = 0 → RegsBut s t [rDB_SQ_TAIL c, rPM_STATUS])))
    ∧ (s.accepts p (rDB_SQ_TAIL c) → ¬(sub32 v (s.sqHead c) ≤ s.sqSize c ∧ sub32 v (s.sqTail c) ≤ s.sqSize c) →
      Runs (.doorbellWrite p c v) s (fun t =>
        t.did p ∧ t.flag (rHUB_CTX_STATUS c) fHUB_CTX_STATUS_DB_RANGE = true
        ∧ Counted s t (rHUB_CTX_CNT c) fHUB_CTX_CNT_DB_ERR_CNT 1
        ∧ RegsBut s t [rHUB_CTX_STATUS c, rHUB_CTX_CNT c, rPM_STATUS] ∧ t.mem = s.mem))
    ∧ (s.accepts p (rDB_CQ_HEAD c) → sub32 v (s.cqHead c) ≤ sub32 (s.cqTail c) (s.cqHead c) →
      Runs (.cqHeadWrite p c v) s (fun t =>
        t.did p ∧ t.cqHead c = v ∧ RegsBut s t [rDB_CQ_HEAD c, rPM_STATUS] ∧ t.mem = s.mem))
    ∧ (s.accepts p (rDB_CQ_HEAD c) → sub32 (s.cqTail c) (s.cqHead c) < sub32 v (s.cqHead c) →
      Runs (.cqHeadWrite p c v) s (fun t =>
        t.did p ∧ t.flag (rHUB_CTX_STATUS c) fHUB_CTX_STATUS_DB_RANGE = true
        ∧ Counted s t (rHUB_CTX_CNT c) fHUB_CTX_CNT_DB_ERR_CNT 1
        ∧ RegsBut s t [rHUB_CTX_STATUS c, rHUB_CTX_CNT c, rPM_STATUS] ∧ t.mem = s.mem))

/-- R159, R160, R155 and R163: a descriptor is fetched from slot SQ_HEAD into the window, where a poisoned one ends
DATA_POISON and an illegal one MALFORMED; a finished one writes record CQ_TAIL with its PHASE when the ring has room,
leaves the window and advances CQ_TAIL; while DRAINING a full ring discards the record.
[The clauses outside R155 rest on model choices: log entry 33.] -/
def Obligations.DescriptorsAreFetchedAndRecorded : Prop :=
  ∀ (s : State) (c : Nat), c < 64 → c < s.hub.ctxs.length →
    (∀ d, s.ctxState c = 1 → s.powerState < 2 → (s.ctx c).window.length < 32 → (s.ctx c).rest = [] → (s.ctx c).replayNext = none →
        (s.ctx c).ended = none → (s.ctx c).openFor = none → s.sqHead c ≠ s.sqTail c →
        (∀ y ∈ (s.ctx c).window, y.num ≠ (s.ctx c).count) → d.num = (s.ctx c).count →
      (∀ bs, s.engRead c (s.sqBase c + d.num % s.sqSize c * 64) 64 = .ok bs →
          d = { num := d.num, raw := leNat bs, slot := s.sqBase c + d.num % s.sqSize c * 64 } →
          s.fetchOk c d = true →
        Runs (.descriptorFetch c) s (fun t =>
          (t.ctx c).window = (s.ctx c).window ++ [d] ∧ t.sqHead c = (s.sqHead c + 1) % 2 ^ 32
          ∧ t.rf (rHUB_CTX_STATUS c) fHUB_CTX_STATUS_INFLIGHT = (s.ctx c).window.length + 1 ∧ (t.ctx c).count = d.num + 1
          ∧ (d.op = 6 → (s.ctx c).job = none → (t.ctx c).job = some (jobOf d))
          ∧ RegsBut s t [rHUB_CTX_PTRS c, rHUB_CTX_STATUS c] ∧ t.mem = s.mem ∧ (∀ e, e ≠ c → t.ctx e = s.ctx e)))
      ∧ (∀ bs, s.engRead c (s.sqBase c + d.num % s.sqSize c * 64) 64 = .ok bs →
          d = { num := d.num, raw := leNat bs, slot := s.sqBase c + d.num % s.sqSize c * 64 } →
          s.fetchOk c d = false →
        Runs (.descriptorFetch c) s (fun t =>
          Ended t c d.num stMALFORMED ∧ t.sqHead c = (s.sqHead c + 1) % 2 ^ 32
          ∧ RegsTraced s t [rHUB_CTX_PTRS c, rHUB_CTX_STATUS c] ∧ t.mem = s.mem))
      ∧ (∀ e, s.engRead c (s.sqBase c + d.num % s.sqSize c * 64) 64 = .err e →
        Runs (.descriptorFetch c) s (fun t =>
          Ended t c d.num stDATA_POISON ∧ t.sqHead c = (s.sqHead c + 1) % 2 ^ 32
          ∧ RegsBut s t [rHUB_CTX_PTRS c, rHUB_CTX_STATUS c] ∧ t.mem = s.mem)))
    ∧ (∀ n d, s.desc c n = some d → d.phase = .finished → s.recordDue c d = true → s.cqFull c = false →
        s.storable (s.cqBase c + s.cqTail c % s.cqSize c * 32) 32 →
      Runs (.completionRecord c n) s (fun t =>
        t.desc c n = none ∧ t.cqTail c = (s.cqTail c + 1) % 2 ^ 32
        ∧ (d.inJob = none → d.op ≠ 7 → (∀ j, (s.ctx c).job = some j → j.beginNum ≠ n) →
            Stored s t (s.cqBase c + s.cqTail c % s.cqSize c * 32)
              (recordBytes d d.op d.status d.detail (phaseOf (s.cqTail c) (s.cqSize c)) d.attempt s.dtime)
            ∧ RegsBut s t [rHUB_CTX_PTRS c, rHUB_CTX_STATUS c, rHUB_CTX_CNT c]
            ∧ (d.irq = true → s.flag (rHUB_CTX_CFG c) fHUB_CTX_CFG_IRQ_EN = true → 32 + c ∈ t.hub.ctxIrq))))
    ∧ (∀ n d, s.desc c n = some d → d.phase = .finished → s.recordDue c d = true → s.cqFull c = true →
      (s.ctxState c ≠ 2 → exec (.completionRecord c n) s = .next s)
      ∧ (s.ctxState c = 2 →
        Runs (.completionRecord c n) s (fun t =>
          t.desc c n = none ∧ t.cqTail c = (s.cqTail c + 1) % 2 ^ 32
          ∧ t.rf (rHUB_CTX_CNT c) fHUB_CTX_CNT_DB_ERR_CNT = s.rf (rHUB_CTX_CNT c) fHUB_CTX_CNT_DB_ERR_CNT
          ∧ (d.inJob = none → d.op ≠ 7 → (∀ j, (s.ctx c).job = some j → j.beginNum ≠ n) →
              t.mem = s.mem ∧ RegsBut s t [rHUB_CTX_PTRS c, rHUB_CTX_STATUS c, rHUB_CTX_CNT c]))))

/-- Commands that start a descriptor the dispatcher or HUB serves, each with its opcode and the test its form adds. -/
def Sys2Proof.Machine.hubRows : List ((Nat → Nat → Instr) × Nat × (Desc → Bool)) :=
  [(.kernel, 1, fun _ => true), (.fence, 8, fun _ => true), (.jobBegin, 6, fun _ => true), (.jobEnd, 7, fun _ => true),
   (.signalSet, 9, fun d => d.at 32 1 == 0), (.signalAdd, 9, fun d => d.at 32 1 == 1), (.signalMax, 9, fun d => d.at 32 1 == 2),
   (.wait, 10, fun _ => true), (.timestamp, 11, fun _ => true), (.resultPost, 12, fun d => d.at 17 1 == 0)]

/-- A SIGNAL has stored the new value of its semaphore and reported the value before. -/
def Sys2Proof.Machine.Signalled (s : State) (c n : Nat) (d : Desc) (v : Nat) (t : State) : Prop :=
  Stored s t (d.at 16 8) (leBytes 8 v) ∧ Ended t c n stOK
  ∧ (t.desc c n).map (·.detail) = some (okDetail + s.memNat (d.at 16 8) 8 % 2 ^ 56) ∧ RegsTraced s t [] ∧ t.tiles = s.tiles

/-- A SIGNAL that read poison has ended and changed nothing. -/
def Sys2Proof.Machine.SignalPoisoned (s : State) (c n : Nat) (t : State) : Prop :=
  Ended t c n stDATA_POISON ∧ t.mem = s.mem ∧ RegsTraced s t [] ∧ t.tiles = s.tiles

/-- R167, R168, R170, R175 and R176: a descriptor that starts does what its opcode says: KERNEL enters the slice account,
FENCE and JOB_END complete, JOB_BEGIN opens its job under a new tag, TIMESTAMP writes DTIME, RESULT_POST switches its slot;
one with a failed dependency or a class above MAX_CLASS completes STATE_REFUSED and does nothing.
R169: SIGNAL performs SET, ADD or MAX on its semaphore and reports the value before; WAIT completes at once when its
condition holds, else it stays started, is evaluated again after writes, and completes DEADLINE when its time-out passes.
[Model choices: log entries 32, 33.] -/
def Obligations.DescriptorsStartAndUseSemaphores : Prop :=
  (
    ∀ (s : State) (c n : Nat) (d : Desc),
      (∀ p ∈ hubRows, s.desc c n = some d → d.op = p.2.1 → p.2.2 d = true → s.startable c d = true →
          (s.depFailed c d || s.classRefused c d) = true →
        Runs (p.1 c n) s (fun t =>
          Ended t c n stSTATE_REFUSED ∧ RegsTraced s t [] ∧ t.mem = s.mem ∧ t.tiles = s.tiles ∧ t.hub.kernels = s.hub.kernels))
      ∧ (s.ready c n d →
        (d.op = 1 → s.kernelDies c d = none →
          Runs (.kernel c n) s (fun t =>
            t.hub.kernels = s.hub.kernels ++ [s.newKernel c d] ∧ (t.desc c n).map (·.phase) = some .started
            ∧ t.mem = s.mem ∧ RegsTraced s t [] ∧ t.tiles = s.tiles))
        ∧ (∀ st x, d.op = 1 → s.kernelDies c d = some (st, x) →
          Runs (.kernel c n) s (fun t =>
            Ended t c n st ∧ t.hub.kernels = s.hub.kernels ∧ t.mem = s.mem ∧ RegsTraced s t [] ∧ t.tiles = s.tiles))
        ∧ (d.op = 8 → Runs (.fence c n) s (fun t => Ended t c n stOK ∧ t.mem = s.mem ∧ RegsTraced s t [] ∧ t.tiles = s.tiles))
        ∧ (∀ j, d.op = 6 → (s.ctx c).job = some j → j.beginNum = n → j.started = false →
          Runs (.jobBegin c n) s (fun t =>
            Ended t c n stOK ∧ (t.desc c n).map (·.detail) = some (okDetail + s.hub.nextTag)
            ∧ (∃ k, (t.ctx c).job = some k ∧ k.tag = s.hub.nextTag ∧ k.started = true ∧ k.dies = s.dieSet ∧ k.causes = j.causes)
            ∧ t.hub.nextTag ≠ 0 ∧ t.flag (rHUB_CTX_STATUS c) fHUB_CTX_STATUS_JOB_OPEN = true
            ∧ t.rf (rHUB_CTX_STATUS c) fHUB_CTX_STATUS_JOB_TAG = s.hub.nextTag % 2 ^ 32
            ∧ t.mem = s.mem ∧ RegsTraced s t [rHUB_CTX_STATUS c] ∧ t.tiles = s.tiles))
        ∧ (d.op = 6 → (∀ j, (s.ctx c).job = some j → j.beginNum ≠ n ∨ j.started = true) →
          Runs (.jobBegin c n) s (fun t => Ended t c n stSTATE_REFUSED ∧ t.mem = s.mem ∧ RegsTraced s t [] ∧ t.tiles = s.tiles))
        ∧ (d.op = 7 → Runs (.jobEnd c n) s (fun t =>
            Ended t c n (if d.inJob.isSome then stOK else stSTATE_REFUSED) ∧ t.mem = s.mem ∧ RegsTraced s t [] ∧ t.tiles = s.tiles))
        ∧ (d.op = 11 → s.engineErr c .wr (d.at 16 8) 8 = none → s.storable (d.at 16 8) 8 →
          Runs (.timestamp c n) s (fun t =>
            Stored s t (d.at 16 8) (leBytes 8 s.dtime) ∧ Ended t c n stOK ∧ RegsTraced s t [] ∧ t.tiles = s.tiles))
        ∧ (∀ bs sl, d.op = 12 → d.at 17 1 = 0 → sl = d.at 16 1 % 64 → sl < s.hub.slots.cur.length → s.sh.on = false →
            s.rf (rHUB_SLOT_CFG sl) fHUB_SLOT_CFG_KIND = 1 → s.rf (rHUB_SLOT_CFG sl) fHUB_SLOT_CFG_OWNER = c →
            s.engRead c (d.at 24 8) 1024 = .ok bs →
          (bytesOf (leNat bs) 18 2 ≤ 888 → Runs (.resultPost c n) s (fun t =>
            t.slotRec sl = leNat (postRec (leNat bs) ((s.slotSeq sl + 1) % 2 ^ 64) s.dtime (s.jobTagOf c d) c)
            ∧ (∀ k, k ≠ sl → t.slotRec k = s.slotRec k) ∧ Ended t c n stOK ∧ t.mem = s.mem ∧ RegsTraced s t [] ∧ t.tiles = s.tiles))
          ∧ (888 < bytesOf (leNat bs) 18 2 → Runs (.resultPost c n) s (fun t =>
            Ended t c n stMALFORMED ∧ t.hub.slots = s.hub.slots ∧ t.mem = s.mem ∧ RegsTraced s t [] ∧ t.tiles = s.tiles)))
        ∧ (d.op = 12 → d.at 17 1 = 0 → (s.rf (rHUB_SLOT_CFG (d.at 16 1 % 64)) fHUB_SLOT_CFG_KIND ≠ 1
              ∨ s.rf (rHUB_SLOT_CFG (d.at 16 1 % 64)) fHUB_SLOT_CFG_OWNER ≠ c) →
          Runs (.resultPost c n) s (fun t =>
            Ended t c n stSTATE_REFUSED ∧ t.hub.slots = s.hub.slots ∧ t.mem = s.mem ∧ RegsTraced s t [] ∧ t.tiles = s.tiles)))) ∧
  (
    ∀ (s : State) (c n : Nat) (d : Desc),
      (s.ready c n d → d.op = 9 → s.engineErr c .both (d.at 16 8) 8 = none →
        (s.storable (d.at 16 8) 8 → s.mem.poisoned (d.at 16 8) 8 = false →
          (d.at 32 1 = 0 → Runs (.signalSet c n) s (Signalled s c n d (d.at 24 8)))
          ∧ (d.at 32 1 = 1 → Runs (.signalAdd c n) s (Signalled s c n d ((s.memNat (d.at 16 8) 8 + d.at 24 8) % 2 ^ 64)))
          ∧ (d.at 32 1 = 2 → Runs (.signalMax c n) s (Signalled s c n d (max (s.memNat (d.at 16 8) 8) (d.at 24 8)))))
        ∧ (s.mem.poisoned (d.at 16 8) 8 = true →
          (d.at 32 1 = 0 → Runs (.signalSet c n) s (SignalPoisoned s c n))
          ∧ (d.at 32 1 = 1 → Runs (.signalAdd c n) s (SignalPoisoned s c n))
          ∧ (d.at 32 1 = 2 → Runs (.signalMax c n) s (SignalPoisoned s c n))))
      ∧ (∀ bs, s.ready c n d → d.op = 10 → s.inHbm (d.at 16 8) 8 → s.engRead c (d.at 16 8) 8 = .ok bs →
        Runs (.wait c n) s (fun t =>
          (waitHolds (d.at 32 1) (leNat bs) (d.at 24 8) = true → Ended t c n stOK)
          ∧ (waitHolds (d.at 32 1) (leNat bs) (d.at 24 8) = false →
              (t.desc c n).map (fun y => (y.phase, y.start)) = some (.started, s.dtime))
          ∧ t.mem = s.mem ∧ RegsTraced s t [] ∧ t.tiles = s.tiles))
      ∧ (∀ bs, s.desc c n = some d → d.op = 10 → d.phase = .started → s.jobLive c d = true → s.inHbm (d.at 16 8) 8 →
          s.engRead c (d.at 16 8) 8 = .ok bs →
        (waitHolds (d.at 32 1) (leNat bs) (d.at 24 8) = true → Runs (.waitReevaluate c n) s (fun t =>
          Ended t c n stOK ∧ t.mem = s.mem ∧ RegsTraced s t [] ∧ t.tiles = s.tiles))
        ∧ (waitHolds (d.at 32 1) (leNat bs) (d.at 24 8) = false → exec (.waitReevaluate c n) s = .next s))
      ∧ (s.desc c n = some d → d.op = 10 → d.phase = .started → s.jobLive c d = true →
        (d.at 36 4 ≠ 0 → d.start + d.at 36 4 * 1000 ≤ s.dtime → Runs (.waitTimeout c n) s (fun t =>
          Ended t c n stDEADLINE ∧ t.mem = s.mem ∧ RegsTraced s t [] ∧ t.tiles = s.tiles))
        ∧ (d.at 36 4 = 0 → exec (.waitTimeout c n) s = .next s)))

/-- R191 to R194: an abort records its decisive cause and stops the job's work; once quiet the job runs again from its
first descriptor when the cause, its sequences and its budget allow it and no deadline has passed, and ends with
JOB_ABORTED or DEADLINE otherwise; a deadline that expires is a cause.
[Model choices: log entries 32, 34.] -/
def Obligations.JobsAbortRestartAndEnd : Prop :=
  ∀ (s : State) (c : Nat) (j : Job), (s.ctx c).job = some j →
    (∀ a, decisive j.causes = some a → j.begun = true → j.abort = none →
      Runs (.jobAbort c) s (fun t =>
        (∃ k, (t.ctx c).job = some k ∧ k.abort = some a ∧ k.causes = [] ∧ k.attempt = j.attempt)
        ∧ Counted s t (rHUB_CTX_JOB_STAT c) fHUB_CTX_JOB_STAT_ABORT_CNT 1
        ∧ t.rf (rHUB_CTX_JOB_STAT c) fHUB_CTX_JOB_STAT_LAST_CAUSE = a.status % 256
        ∧ t.rf (rHUB_CTX_JOB_STAT c) fHUB_CTX_JOB_STAT_LAST_ENGINE = a.engine % 256
        ∧ t.flag (rHUB_CTX_JOB_STAT c) fHUB_CTX_JOB_STAT_SELF_CHECK = a.selfCheck
        ∧ (∀ d ∈ (s.ctx c).window, s.inOpenJob c d = true → t.kernel c d.num = none ∧ t.kernelTiles c d.num = [])
        ∧ t.mem = s.mem))
    ∧ (∀ a, j.abort = some a → (∀ n, a.num = some n → s.desc c n = none) →
      (a.restart = true → (s.kvRestore c j.touched).2 = true → j.attempt < j.budget → a.deadline = false →
          s.pastDeadline j = false →
        Runs (.jobQuiesced c) s (fun t =>
          (∃ k, (t.ctx c).job = some k ∧ k.attempt = j.attempt + 1 ∧ k.pos = 0 ∧ k.causes = [] ∧ k.abort = none ∧ k.replay = j.replay)
          ∧ (t.ctx c).window = (s.ctx c).window.filter (fun d => !(s.ctx c).mine d)
          ∧ Counted s t (rHUB_CTX_JOB_STAT c) fHUB_CTX_JOB_STAT_RESTART_CNT 1))
      ∧ ((a.restart && (s.kvRestore c j.touched).2 && decide (j.attempt < j.budget)
            && !(a.deadline || s.pastDeadline j)) = false →
        Runs (.jobQuiesced c) s (fun t =>
          t.flag (rHUB_CTX_STATUS c) fHUB_CTX_STATUS_JOB_OPEN = false ∧ t.rf (rHUB_CTX_STATUS c) fHUB_CTX_STATUS_JOB_TAG = 0
          ∧ (t.ctx c).job = (s.ctx c).later.head?
          ∧ (∀ d ∈ (t.ctx c).window, ∀ e ∈ (s.ctx c).window, d.num = e.num → (s.ctx c).mine e = true →
              (∀ x ∈ (s.ctx c).window, x.num = e.num → x = e) →
              d.phase = .finished ∧ d.status = (if a.deadline || s.pastDeadline j then stDEADLINE else stJOB_ABORTED))
          ∧ (j.endSeen = false → s.ctxState c = 1 → (t.ctx c).ended
              = some (if a.deadline || s.pastDeadline j then stDEADLINE else stJOB_ABORTED, j.attempt)))))
    ∧ (j.begun = true → s.pastDeadline j = true → j.causes.any (·.deadline) = false →
      Runs (.jobDeadline c) s (fun t =>
        (∃ k, (t.ctx c).job = some k ∧ (j.abort = none → k.causes.head? = some deadlineCause)
          ∧ (∀ a, j.abort = some a → k.abort = some { a with deadline := true }))))
    ∧ ((j.begun = false ∨ s.pastDeadline j = false) → exec (.jobDeadline c) s = .next s)

/-! ## The sensor hub -/

/-- The state that a register write by port `p` to `a` meets once it is accepted. -/
def Sys2Proof.Machine.State.metBy (s : State) (p : Port) (a : Addr) : State :=
  if (blockDie a).isSome || p == .pcie then (s.dropStaged p a).idleExit else s.dropStaged p a

/-- The hub is enabled, and no window has ended or passed its wait limit without its release. -/
abbrev Sys2Proof.Machine.State.shCalm (s : State) : Prop := s.sh.on = true ∧ s.sh.ended ≤ s.nextInstant
    ∧ s.dtime ≤ s.sh.windowEnd s.nextInstant + s.sh.cfg.waitNs

/-- Outside Tadpole mode, the hub's context lets the `len` bytes at `a` be written. -/
abbrev Sys2Proof.Machine.State.shWrites (s : State) (a len : Nat) : Prop :=
  s.sh.tad.on = false ∧ s.engineErr s.sh.cfg.ctx .wr a len = none ∧ s.storable a len

/-- R200, R212 and R218: the hub enables with a block that passes its checks and stays off with the cause set otherwise; a
disable stops it; SH_FREE_BEFORE never goes back; a trigger edge raises its output and ends after TRIG_WIDTH.
[Model choices: log entries 41, 49.] -/
def Obligations.SensorHubIsEnabledFreedAndTriggered : Prop :=
  ∀ (s : State) (p : Port) (w : Word) (out : Nat),
    (∀ u, s.accepts p rSH_CFG → s.sh.on = false →
        u = ((s.metBy p rSH_CFG).wf rSH_CFG fSH_CFG_GUARD (fSH_CFG_GUARD.get w)).wf rSH_CFG fSH_CFG_BLOCK (fSH_CFG_BLOCK.get w) →
      (∀ c start, u.readShCfg = .ok (c, start) → Runs (.shEnable p w) s (fun t =>
        t.did p ∧ t.sh.on = true ∧ t.sh.cfg = c ∧ t.sh.since = s.dtime ∧ t.sh.ended = 0 ∧ t.nextInstant = 0
        ∧ t.sh.epoch = (if c.at 16 8 = 0 then (s.dtime / c.period + 1) * c.period else c.at 16 8)
        ∧ t.sh.launches = [] ∧ t.flag rSH_CFG fSH_CFG_ENABLE = true
        ∧ (∀ n, n < 64 → t.rf (rSH_SENS_CNT n) fSH_SENS_CNT_CLOCK = ckSYNCED)))
      ∧ (∀ e, u.readShCfg = .error e → Runs (.shEnable p w) s (fun t =>
        t.did p ∧ t.sh = s.sh ∧ t.rf rSH_CFG fSH_CFG_ENABLE = s.rf rSH_CFG fSH_CFG_ENABLE ∧ t.mem = s.mem
        ∧ (match e with
            | .block => t.flag rSH_EVT fSH_EVT_EN_BLOCK = true
            | .region => t.flag rSH_EVT fSH_EVT_EN_REGION = true)
        ∧ RegsBut s t [rSH_CFG, rSH_EVT, rPM_STATUS])))
    ∧ (s.accepts p rSH_CFG → s.sh.on = true →
      Runs (.shDisable p w) s (fun t =>
        t.did p ∧ t.sh.on = false ∧ t.sh.launches = [] ∧ (∀ o, t.trigPin o = false)
        ∧ t.sh.macRx = s.sh.macRx ∧ t.flag rSH_CFG fSH_CFG_ENABLE = false ∧ RegsBut s t [rSH_CFG, rPM_STATUS] ∧ t.mem = s.mem))
    ∧ (s.accepts p rSH_FREE_BEFORE →
      Runs (.shFreeBeforeWrite p w) s (fun t =>
        t.did p ∧ (t.reg rSH_FREE_BEFORE).toNat = max (s.reg rSH_FREE_BEFORE).toNat w.toNat
        ∧ RegsBut s t [rSH_FREE_BEFORE, rPM_STATUS] ∧ t.sh = s.sh ∧ t.mem = s.mem))
    ∧ (∀ j, s.sh.on = true → s.sh.cfg.trig = true → out < 16 → out < s.sh.edges.length → out < s.sh.pulses.length →
        Nat.testBit (s.sh.cfg.at 128 2) out = true → s.sh.epoch + s.sh.cfg.trigDelay out ≤ s.dtime →
        j = (s.dtime - (s.sh.epoch + s.sh.cfg.trigDelay out)) * s.sh.cfg.trigDiv / s.sh.cfg.period →
        (∀ e, s.sh.edges[out]? = some (some e) → e < s.sh.epoch + s.sh.cfg.trigDelay out + j * s.sh.cfg.period / s.sh.cfg.trigDiv) →
      Runs (.triggerEdge out) s (fun t =>
        t.sh.edges[out]? = some (some (s.sh.epoch + s.sh.cfg.trigDelay out + j * s.sh.cfg.period / s.sh.cfg.trigDiv))
        ∧ t.trigPin out = !(Nat.testBit (s.sh.cfg.at 130 2) out) ∧ (∀ o, o ≠ out → t.trigPin o = s.trigPin o)
        ∧ t = { s with sh := t.sh }))
    ∧ (∀ e, s.sh.pulses[out]? = some (some e) → e + s.sh.cfg.trigWidth ≤ s.dtime →
      Runs (.triggerPulseEnd out) s (fun t =>
        t.trigPin out = Nat.testBit (s.sh.cfg.at 130 2) out ∧ (∀ o, o ≠ out → t.trigPin o = s.trigPin o)
        ∧ t.sh.edges = s.sh.edges ∧ t = { s with sh := t.sh }))

/-- R202, R203, R210, R211 and R215: a frame start opens a frame with its counter, stamp and slot; packets of a raw stream
go to that slot; a whole frame becomes its window's sample behind its lineage, and a late, bad or overdue one is dropped
and counted.
[Model choices: log entries 41, 43, 46.] -/
def Obligations.CameraFramesBecomeSamples : Prop :=
  ∀ (s : State) (cam vc dt n : Nat) (data : List Byte), s.shCalm → n < s.sh.sens.length → n < 64 →
    (s.streamOf cam vc dt = some n →
      (∀ x, (s.sens n).frame = none → s.sh.cfg.trig = false → s.findSlot n = some x →
        Runs (.csi2FrameStart cam vc dt) s (fun t =>
          (t.sens n).frame = some { counter := (s.sens n).counter, stamp := (s.dtime : Int) + senAdj (s.senE n), flags := 0
                                    slot := x, lines := [], bad := false }
          ∧ (t.sens n).counter = ((s.sens n).counter + 1) % 2 ^ 32 ∧ t.time.stamped = true
          ∧ (∀ m, m ≠ n → t.sens m = s.sens m) ∧ RegsTraced s t [rSH_SENS_STAT n] ∧ t.mem = s.mem))
      ∧ (s.findSlot n = none → (s.sens n).frame = none →
        Runs (.csi2FrameStart cam vc dt) s (fun t =>
          (t.sens n).frame = none ∧ Counted s t (rSH_SENS_CNT n) fSH_SENS_CNT_ERR_CNT 1
          ∧ RegsTraced s t [rSH_SENS_STAT n, rSH_SENS_CNT n] ∧ t.mem = s.mem))
      ∧ (∀ f fault, (s.sens n).frame = some f → senFeMode (s.senE n) = 0 → 64 + f.bytes.length + data.length ≤ senBytes (s.senE n) →
          s.shWrites (s.slotAddr n f.slot + 64 + f.bytes.length) data.length →
        Runs (.csi2PixelPacket cam vc dt data fault) s (fun t =>
          Stored s t (s.slotAddr n f.slot + 64 + f.bytes.length) data
          ∧ (t.sens n).frame = some { f with lines := data :: f.lines, bad := f.bad || fault }
          ∧ (∀ m, m ≠ n → t.sens m = s.sens m) ∧ RegsTraced s t []))
      ∧ (∀ f fault, (s.sens n).frame = some f → senFeMode (s.senE n) ≠ 0 →
        Runs (.csi2PixelPacket cam vc dt data fault) s (fun t =>
          (t.sens n).frame = some { f with lines := data :: f.lines, bad := f.bad || fault }
          ∧ (∀ m, m ≠ n → t.sens m = s.sens m) ∧ t.regs = s.regs ∧ t.mem = s.mem))
      ∧ (∀ f w bs, (s.sens n).frame = some f → f.bad = false → s.linesOk n f = true →
          (s.dtime : Int) ≤ f.stamp + 2 * senFrame (s.senE n) → s.winOf f.stamp = some w → s.released w = false →
          bs = s.lineageOf n f.flags f.counter f.stamp f.bytes w 0 ++ leBytes 32 0
            ++ (if senFeMode (s.senE n) = 0 then [] else s.frameOut n f) →
          s.shWrites (s.slotAddr n f.slot) bs.length →
        Runs (.csi2FrameEnd cam vc dt) s (fun t =>
          Stored s t (s.slotAddr n f.slot) bs ∧ (t.sens n).frame = none
          ∧ (t.sampleOf n w).map (fun m => (m.counter, m.stamp, m.slot)) = some (f.counter, f.stamp, some f.slot)
          ∧ (∀ m, m ≠ n → t.sens m = s.sens m) ∧ RegsTraced s t []))
      ∧ (∀ f w, (s.sens n).frame = some f → f.bad = false → s.linesOk n f = true →
          (s.dtime : Int) ≤ f.stamp + 2 * senFrame (s.senE n) → s.winOf f.stamp = some w → s.released w = true →
        Runs (.csi2FrameEnd cam vc dt) s (fun t =>
          (t.sens n).frame = none ∧ (t.sens n).samples = (s.sens n).samples ∧ Counted s t (rSH_SENS_CNT n) fSH_SENS_CNT_LATE_CNT 1
          ∧ RegsTraced s t [rSH_SENS_CNT n] ∧ t.mem = s.mem))
      ∧ (∀ f, (s.sens n).frame = some f →
          (f.bad = true ∨ s.linesOk n f = false ∨ f.stamp + 2 * senFrame (s.senE n) < s.dtime) →
        Runs (.csi2FrameEnd cam vc dt) s (fun t =>
          (t.sens n).frame = none ∧ (t.sens n).samples = (s.sens n).samples ∧ Counted s t (rSH_SENS_CNT n) fSH_SENS_CNT_ERR_CNT 1
          ∧ RegsTraced s t [rSH_SENS_CNT n] ∧ t.mem = s.mem)))
    ∧ (∀ f, (s.sens n).frame = some f → f.stamp + 2 * senFrame (s.senE n) ≤ s.dtime →
      Runs (.frameEndTimeout n) s (fun t =>
        (t.sens n).frame = none ∧ (t.sens n).samples = (s.sens n).samples ∧ Counted s t (rSH_SENS_CNT n) fSH_SENS_CNT_ERR_CNT 1
        ∧ RegsTraced s t [rSH_SENS_CNT n] ∧ t.mem = s.mem))
    ∧ (∀ f, (s.sens n).frame = some f → (s.dtime : Int) < f.stamp + 2 * senFrame (s.senE n) → exec (.frameEndTimeout n) s = .next s)

/-- A series record of sensor `n` with this stamp lies in window `w` and gets slot `x`. -/
abbrev Sys2Proof.Machine.State.seriesGoes (s : State) (n w x : Nat) (stamp : Int) : Prop :=
  s.winOf stamp = some w ∧ s.released w = false ∧ s.findSlot n = some x ∧ s.shWrites (s.slotAddr n x) 128

/-- The samples of released instants that a packet or record with this unwrapped number and stamp completes (R215). -/
def Sys2Proof.Machine.State.lateCount (s : State) (n : Nat) (u stamp : Int) : Nat :=
  ((s.sens n).undone.filter (fun x => ({ x with recv := x.recv.filter (fun p => p.1 != u) ++ [(u, stamp)] } : Undone).done stamp)).length

/-- A series record has been kept, and a sample it completes too late is counted: its 128 bytes stand in its slot and it waits for its window. -/
def Sys2Proof.Machine.SeriesKept (s t : State) (n w x counter : Nat) (stamp : Int) (flags : Nat) (data : List Byte) : Prop :=
  Stored s t (s.slotAddr n x) (s.lineageOf n flags counter stamp data w 0 ++ data.take 96 ++ leBytes (96 - (data.take 96).length) 0)
  ∧ (t.sens n).recs.map (fun r => (r.win, r.stamp, r.idx, r.counter))
      = (s.sens n).recs.map (fun r => (r.win, r.stamp, r.idx, r.counter)) ++ [(w, stamp, x, counter)]
  ∧ Counted s t (rSH_SENS_CNT n) fSH_SENS_CNT_LATE_CNT (s.lateCount n 0 stamp)
  ∧ t.time.stamped = true

/-- R206 to R210: a bad Ethernet frame counts in RX_ERR, one that no template takes goes to its MAC or counts in RX_DROP, and
a matched datagram becomes a record or is dropped and counted; an SPI transfer starts at its timer or data-ready edge, and
its bytes, as those of a framed UART record, become a record.
[Model choices: log entries 41, 45, 46.] -/
def Obligations.SensorInputsBecomeRecords : Prop :=
  ∀ (s : State) (n line : Nat) (data : List Byte) (rx : EthRx), s.shCalm → n < s.sh.sens.length → n < 64 →
      s.sh.cfg.nsens ≤ 64 → s.sh.tad.on = false →
    (rx.mac < 4 → s.rail .hub = .on →
      ((rx.fcs && rx.sums && between 64 rx.len 9022) = false →
        Runs (.hubEthFrame rx) s (fun t =>
          Counted s t (rIO_MAC_CNT rx.mac) fIO_MAC_CNT_RX_ERR 1 ∧ RegsBut s t [rIO_MAC_CNT rx.mac] ∧ t = { s with regs := t.regs }))
      ∧ ((rx.fcs && rx.sums && between 64 rx.len 9022) = true → (rx.udp = false ∨ s.sh.cfg.matchTpl rx = none) →
        (rx.room = true → Runs (.hubEthFrame rx) s (fun t =>
          t.sh.macRx = { mac := rx.mac, data := rx.data } :: s.sh.macRx ∧ t = { s with sh := t.sh }))
        ∧ (rx.room = false → Runs (.hubEthFrame rx) s (fun t =>
          Counted s t (rIO_MAC_CNT rx.mac) fIO_MAC_CNT_RX_DROP 1 ∧ RegsBut s t [rIO_MAC_CNT rx.mac] ∧ t = { s with regs := t.regs })))
      ∧ (∀ tpl, (rx.fcs && rx.sums && between 64 rx.len 9022) = true → rx.udp = true → s.sh.cfg.matchTpl rx = some tpl →
          tplSensor tpl = n →
        (tplDrops tpl rx.data = true → Runs (.hubEthFrame rx) s (fun t =>
          Counted s t (rSH_SENS_CNT n) fSH_SENS_CNT_ERR_CNT 1 ∧ RegsBut s t [rSH_SENS_CNT n] ∧ t = { s with regs := t.regs }))
        ∧ (∀ w x, tplDrops tpl rx.data = false → tplTimeFmt tpl = 0 → senKind (s.senE n) ≠ kSWEEP →
            s.seriesGoes n w x ((s.dtime : Int) + senAdj (s.senE n)) →
          Runs (.hubEthFrame rx) s (fun t =>
            SeriesKept s t n w x (s.sens n).counter ((s.dtime : Int) + senAdj (s.senE n)) 0
              ((slice rx.data (tplCopyOff tpl) (tplCopyLen tpl)).take 96)
            ∧ RegsBut s t [rSH_SENS_STAT n, rSH_SENS_CNT n]))
        ∧ (∀ w, tplDrops tpl rx.data = false → tplTimeFmt tpl = 0 → senKind (s.senE n) = kSWEEP →
            s.winOf ((s.dtime : Int) + senAdj (s.senE n)) = some w → s.released w = true →
          Runs (.hubEthFrame rx) s (fun t =>
            Counted s t (rSH_SENS_CNT n) fSH_SENS_CNT_LATE_CNT (1 + s.lateCount n
              ((s.sens n).unwrap (tplSeqBits tpl) (beNat (slice rx.data (bytesOf tpl 10 2) (tplSeqBits tpl / 8))))
              ((s.dtime : Int) + senAdj (s.senE n)))
            ∧ RegsBut s t [rSH_SENS_CNT n] ∧ (t.sens n).samples = (s.sens n).samples ∧ (∀ m, m ≠ n → t.sens m = s.sens m)
            ∧ t.mem = s.mem))))
    ∧ (senKind (s.senE n) = kSPI → senDrdy (s.senE n) = false → s.sh.since + ((s.sens n).xferNo + 1) * senFrame (s.senE n) ≤ s.dtime →
        (s.sens n).xfer = none →
      Runs (.spiTransferTimer n) s (fun t =>
        (t.sens n).xfer = some ((s.sens n).counter, (s.dtime : Int) + senAdj (s.senE n)) ∧ (t.sens n).xferNo = (s.sens n).xferNo + 1
        ∧ (t.sens n).counter = ((s.sens n).counter + 1) % 2 ^ 32 ∧ t.sent.length = s.sent.length + 1
        ∧ RegsBut s t [rSH_SENS_STAT n] ∧ t.mem = s.mem))
    ∧ (n < s.sh.cfg.nsens → senKind (s.senE n) = kSPI → senDrdy (s.senE n) = true →
        bytesOf ((s.sh.cfg.param[n]?).getD 0) 12 1 = line →
      ((s.sens n).xfer = none → Runs (.drdyEdge line) s (fun t =>
        (t.sens n).xfer = some ((s.sens n).counter, (s.dtime : Int) + senAdj (s.senE n))
        ∧ (t.sens n).counter = ((s.sens n).counter + 1) % 2 ^ 32 ∧ t.mem = s.mem))
      ∧ ((s.sens n).xfer.isSome = true → Runs (.drdyEdge line) s (fun t =>
        t.sens n = s.sens n ∧ Counted s t (rSH_SENS_CNT n) fSH_SENS_CNT_ERR_CNT 1 ∧ t.mem = s.mem)))
    ∧ (∀ c stamp w x, (s.sens n).xfer = some (c, stamp) → s.seriesGoes n w x stamp →
      Runs (.spiTransferComplete n data) s (fun t =>
        SeriesKept s t n w x c stamp 0 ((data ++ leBytes (bytesOf ((s.sh.cfg.param[n]?).getD 0) 1 1) 0).take
          (bytesOf ((s.sh.cfg.param[n]?).getD 0) 1 1))
        ∧ (t.sens n).xfer = none ∧ RegsBut s t [rSH_SENS_CNT n]))
    ∧ (∀ uart ago, s.sourceOf kUART uart = some n → uartFramed ((s.sh.cfg.param[n]?).getD 0) data = true →
      (∀ fault, (fault || decide (96 < data.length)) = true → Runs (.uartRecord uart data ago fault) s (fun t =>
        Counted s t (rSH_SENS_CNT n) fSH_SENS_CNT_ERR_CNT 1 ∧ (t.sens n).recs = (s.sens n).recs
        ∧ RegsBut s t [rSH_SENS_STAT n, rSH_SENS_CNT n] ∧ t.mem = s.mem))
      ∧ (∀ w x, data.length ≤ 96 → s.seriesGoes n w x ((s.dtime : Int) - ago + senAdj (s.senE n)) →
        Runs (.uartRecord uart data ago false) s (fun t =>
          SeriesKept s t n w x (s.sens n).counter ((s.dtime : Int) - ago + senAdj (s.senE n)) 0 data
          ∧ RegsBut s t [rSH_SENS_STAT n, rSH_SENS_CNT n])))

/-- R213, R214 and R216: an ended window keeps every clock state and its instant is released at once when no WAIT sensor is
incomplete, at the wait limit otherwise; a release advances SH_INSTANT, writes the manifest and queues its launch unless the
slot is held; a launch puts its descriptors into the ring and rings the doorbell, or counts LAUNCH_DROP.
[Model choices: log entries 41, 46, 47, 48.] -/
def Obligations.InstantsAreReleasedAndLaunched : Prop :=
  ∀ (s : State),
    (∀ k, s.shCalm → s.sh.ended = s.nextInstant → k = s.sh.ended → s.sh.windowEnd k ≤ s.dtime → k + 1 < 2 ^ 64 →
      ((s.windowEnds.judgeAll k).any (·.waits) = true →
        Runs .windowEnd s (fun t =>
          t.sh.ended = k + 1 ∧ t.nextInstant = k ∧ (∀ n, (t.sens n).atEnd = (s.sens n).clock ∨ s.sh.sens.length ≤ n)
          ∧ t = { s with sh := t.sh }))
      ∧ ((s.windowEnds.judgeAll k).any (·.waits) = false → Runs .windowEnd s (fun t => t.sh.ended = k + 1 ∧ t.nextInstant = k + 1)))
    ∧ (s.shCalm → s.dtime < s.sh.windowEnd s.sh.ended → exec .windowEnd s = .next s)
    ∧ (∀ k js, s.sh.on = true → k = s.nextInstant → k < s.sh.ended → s.sh.windowEnd k + s.sh.cfg.waitNs < s.dtime → k + 1 < 2 ^ 64 →
        js = s.judgeAll k → s.sh.tad.on = false → s.sh.cfg.nsens ≤ 64 →
      (s.manHeld k = true → Runs .waitLimitExpiry s (fun t =>
        t.nextInstant = k + 1 ∧ Counted s t rSH_EVT fSH_EVT_MAN_HELD 1 ∧ t.sh.launches = s.sh.launches ∧ t.mem = s.mem))
      ∧ (∀ a bs, s.manHeld k = false → js.all (fun j => j.head.isNone) = true →
          a = s.sh.cfg.manBase + k % 2 ^ s.sh.cfg.manLog2 * s.sh.cfg.manBytes →
          bs = s.manHeader k (js.any (·.waits))
            ++ leBytes 4 (crc32c (s.manHeader k (js.any (·.waits)) ++ js.flatMap (·.entry))) ++ js.flatMap (·.entry) →
          s.engineErr s.sh.cfg.ctx .wr a bs.length = none → s.storable a bs.length →
        Runs .waitLimitExpiry s (fun t =>
          t.nextInstant = k + 1 ∧ Stored s t a bs
          ∧ t.sh.launches = s.sh.launches ++ [{ ctx := s.sh.cfg.ctx, descs := s.sh.cfg.launch, user := k, man := a }])))
    ∧ (s.sh.on = true → s.dtime ≤ s.sh.windowEnd s.nextInstant + s.sh.cfg.waitNs → exec .waitLimitExpiry s = .next s)
    ∧ (∀ l r c, s.sh.launches = l :: r → l.ctx = c → c < 64 →
      (∀ d, l.descs = [d] → s.ctxState c = 1 → sub32 (s.sqTail c) (s.sqHead c) + 1 ≤ s.sqSize c →
          s.sqSize c ≤ 65536 → s.pw.phase = 0 →
          s.engineErr c .wr (s.sqBase c + s.sqTail c % s.sqSize c * 64) 64 = none → s.storable (s.sqBase c + s.sqTail c % s.sqSize c * 64) 64 →
        Runs .instantLaunch s (fun t =>
          Stored s t (s.sqBase c + s.sqTail c % s.sqSize c * 64) (leBytes 64 (launchDesc 0 d l.user l.man))
          ∧ t.sqTail c = (s.sqTail c + 1) % 2 ^ 32 ∧ t.sh.launches = r ∧ RegsBut s t [rDB_SQ_TAIL c, rPM_STATUS]))
      ∧ ((s.ctxState c ≠ 1 ∨ s.sqSize c < sub32 (s.sqTail c) (s.sqHead c) + l.descs.length) →
        Runs .instantLaunch s (fun t =>
          Counted s t rSH_EVT fSH_EVT_LAUNCH_DROP 1 ∧ t.sqTail c = s.sqTail c ∧ t.sh.launches = r ∧ t.mem = s.mem
          ∧ RegsBut s t [rSH_EVT])))

/-! ## The plan stream -/

/-- R217, R229, R230 and R241 to R244: the stream is enabled only with a legal configuration and abandons its plan when
disabled; a tick of its launcher opens its plan, after the releases that are due; the deadline seals it, with undecided candidates LATE; a re-check that
passes posts its trajectory, and one that fails tries the next, the previous trajectory and the fallback in turn.
[Model choices: log entries 51, 52, 54.] -/
def Obligations.PlansAreOpenedAndSealed : Prop :=
  ∀ (s : State),
    (∀ p w u, s.accepts p rPC_PLAN_CFG → s.flag rPC_PLAN_CFG fPC_PLAN_CFG_ENABLE = false →
        u = (s.metBy p rPC_PLAN_CFG).plainWrite rPC_PLAN_CFG (fPC_PLAN_CFG_ENABLE.set (fPC_PLAN_CFG_ENABLE.set w 1) 0) →
      Runs (.planEnable p w) s (fun t =>
        t.did p ∧ t.flag rPC_PLAN_CFG fPC_PLAN_CFG_ENABLE = u.planOk (u.reg rPC_PLAN_CFG)
        ∧ (u.planOk (u.reg rPC_PLAN_CFG) = false → t.flag rPC_PLAN_STAT fPC_PLAN_STAT_EN_REJ = true)
        ∧ RegsBut s t [rPC_PLAN_CFG, rPC_PLAN_STAT, rPM_STATUS] ∧ t.plan = s.plan ∧ t.mem = s.mem))
    ∧ (∀ p w, s.accepts p rPC_PLAN_CFG → s.flag rPC_PLAN_CFG fPC_PLAN_CFG_ENABLE = true →
      Runs (.planDisable p w) s (fun t =>
        t.did p ∧ t.flag rPC_PLAN_CFG fPC_PLAN_CFG_ENABLE = false ∧ t.plan.plan = none ∧ t.plan.seals = s.plan.seals
        ∧ (s.plan.plan.isSome = true → t.flag rPC_PLAN_STAT fPC_PLAN_STAT_PLAN_OPEN = false
            ∧ Counted s t rPC_OUT_CNT3 fPC_OUT_CNT3_PLAN_ERR 1)
        ∧ t.mem = s.mem))
    ∧ (s.shCalm → s.dtime < s.sh.windowEnd s.sh.ended → s.releasesDue = s)
    ∧ (∀ m j u, u = s.releasesDue → u.sh.on = true → m < 4 → u.sh.tickNext[m]? = some j →
        tickPeriod (tickRaw u.sh.cfg.hdr m) ≠ 0 →
      (u.sh.tickTime m j ≤ u.dtime → Runs (.tick m) s (fun t =>
        t.sh.tickNext[m]? = some (j + 1) ∧ (∀ k, k ≠ m → t.sh.tickNext[k]? = u.sh.tickNext[k]?)
        ∧ (u.flag rPC_PLAN_CFG fPC_PLAN_CFG_ENABLE = true → u.rf rPC_PLAN_CFG fPC_PLAN_CFG_TICK = m → u.plan.plan = none →
            t.plan.plan = some { j := j, base := u.planBase + j % 2 * bufStride, freeze := u.sh.tickTime m j
                                 deadline := u.sh.tickTime m j + u.rf rPC_PLAN_CFG fPC_PLAN_CFG_DEADLINE_US * 1000
                                 elig := u.eligible })
        ∧ (¬(u.flag rPC_PLAN_CFG fPC_PLAN_CFG_ENABLE = true ∧ u.rf rPC_PLAN_CFG fPC_PLAN_CFG_TICK = m) → t.plan = u.plan)))
      ∧ (u.dtime < u.sh.tickTime m j → exec (.tick m) s = .next u))
    ∧ (∀ p, s.plan.plan = some p →
      (p.deadline ≤ s.dtime → Runs .planDeadline s (fun t =>
        t.plan.plan = none ∧ t.flag rPC_PLAN_STAT fPC_PLAN_STAT_PLAN_OPEN = false
        ∧ Counted s t rPC_OUT_CNT3 fPC_OUT_CNT3_LATE_CAND ((p.cands.filter (fun c => c.outcome.isNone)).length)
        ∧ (s.plan.seals ≠ [] → t.plan.seals.length = s.plan.seals.length + 1 ∧ t.plan.prev = s.plan.prev)))
      ∧ (s.dtime < p.deadline → exec .planDeadline s = .next s))
    ∧ (∀ x r, s.plan.seals = x :: r →
      (x.reissue = false →
        (∀ v, bestOf x.plan.verified = some v →
          ((s.sealEnd x).sealPasses x (x.plan.hdr.getD 0) x.plan.freeze v.raw 0 = true → Runs .sealRecheckComplete s (fun t =>
            t.plan.seals = r ∧ t.plan.prev = some (x.traj v) ∧ Counted s t rPC_OUT_CNT0 fPC_OUT_CNT0_BEST 1))
          ∧ ((s.sealEnd x).sealPasses x (x.plan.hdr.getD 0) x.plan.freeze v.raw 0 = false →
            (∀ y, bestOf (x.plan.verified.filter (fun z => z.idx != v.idx && z.epoch == x.epochNum)) = some y →
              Runs .sealRecheckComplete s (fun t =>
                t.plan.seals = r ∧ t.plan.prev = some (x.traj y) ∧ Counted s t rPC_OUT_CNT2 fPC_OUT_CNT2_SEAL_FAIL 1
                ∧ Counted s t rPC_OUT_CNT0 fPC_OUT_CNT0_NEXT 1))
            ∧ (bestOf (x.plan.verified.filter (fun z => z.idx != v.idx && z.epoch == x.epochNum)) = none → s.canReissue x = true →
              Runs .sealRecheckComplete s (fun t =>
                t.plan.seals = { x with reissue := true } :: r ∧ t.plan.prev = s.plan.prev
                ∧ Counted s t rPC_OUT_CNT2 fPC_OUT_CNT2_SEAL_FAIL 1)))))
      ∧ (∀ y, x.reissue = true → s.plan.prev = some y →
        ((s.sealEnd x).sealPasses x y.hdr y.freeze y.raw (reissueStep x.start y.freeze) = true →
          Runs .sealRecheckComplete s (fun t =>
            t.plan.seals = r ∧ t.plan.prev = some y ∧ Counted s t rPC_OUT_CNT1 fPC_OUT_CNT1_REISSUE 1))
        ∧ ((s.sealEnd x).sealPasses x y.hdr y.freeze y.raw (reissueStep x.start y.freeze) = false →
          Runs .sealRecheckComplete s (fun t =>
            t.plan.seals = r ∧ t.plan.prev = none ∧ Counted s t rPC_OUT_CNT1 fPC_OUT_CNT1_FALLBACK 1))))

/-- R231, R232, R236, R239 and R240: a count update adds candidates and deals them to the checkers; an idle checker takes
its next candidate against the newest epoch; a result is written, counted and, when verified, ranked; a publication by
EPOCH_CTX switches the epoch, and completes once the epoch it retires is used no more.
[Model choices: log entries 9, 51, 52, 53, 54.] -/
def Obligations.CandidatesAreCheckedAgainstEpochs : Prop :=
  ∀ (s : State),
    (∀ p bs, s.plan.plan = some p → s.engRead s.planCtx (p.base + offCount) 8 = .ok bs →
      (p.count < min (leNat bs % 2 ^ 32) 256 → Runs .planCountUpdate s (fun t => ∃ q, t.plan.plan = some q
        ∧ q.count = min (leNat bs % 2 ^ 32) 256 ∧ q.cands.length = p.cands.length + (q.count - p.count)
        ∧ (∀ i, i < p.cands.length → q.cands[i]? = p.cands[i]?)
        ∧ (∀ i, i < q.count - p.count →
            q.cands[p.cands.length + i]? = some { idx := p.count + i, owner := p.deal (p.count + i), outcome := none })
        ∧ (256 < leNat bs % 2 ^ 32 → p.capped = false → p.count ≠ 0 → Counted s t rPC_OUT_CNT3 fPC_OUT_CNT3_PLAN_ERR 1)
        ∧ RegsBut s t [rPC_OUT_CNT3] ∧ t.mem = s.mem))
      ∧ (min (leNat bs % 2 ^ 32) 256 ≤ p.count → leNat bs % 2 ^ 32 ≤ 256 → exec .planCountUpdate s = .next s))
    ∧ (∀ pc p ep c, s.plan.plan = some p → s.plan.newest = some ep → pc < 8 → p.bad = false → p.hdr.isSome = true →
        s.testFault (pcEngine pc) = false → s.unitState (pcEngine pc) = 0 → p.nextFor (pcEngine pc) = some c →
      Runs (.pathCheck pc) s (fun t =>
        (∃ q k, t.plan.plan = some q ∧ q.checks = p.checks ++ [k] ∧ k.cand = c ∧ k.eng = pcEngine pc ∧ k.epoch = ep.num
          ∧ (∀ bs, s.engRead s.planCtx (p.base + offCands + 448 * c) 448 = .ok bs → k.raw = leNat bs
              ∧ (candOk (leNat bs) p.j c = false → k.res.outcome = 4)
              ∧ (candOk (leNat bs) p.j c = true → k.res = s.checkCand (p.hdr.getD 0) p.freeze (leNat bs) 0 ep))
          ∧ (∀ e, s.engRead s.planCtx (p.base + offCands + 448 * c) 448 = .err e → k.res.outcome = 5))
        ∧ t.unitState (pcEngine pc) = 1 ∧ t.rf (rPC_STATUS pc) fPC_STATUS_CAND = c % 256
        ∧ RegsTraced s t [rPC_STATUS pc] ∧ t.mem = s.mem))
    ∧ (∀ pc p k bs, pc < 8 → s.plan.plan = some p → p.checks.find? (fun k => k.eng == pcEngine pc) = some k →
        bs = resultBytes k.cand k.epoch k.res → s.engineErr s.planCtx .wr (p.base + offResults + 32 * k.cand) bs.length = none →
        s.storable (p.base + offResults + 32 * k.cand) bs.length →
      Runs (.checkResult pc) s (fun t =>
        Stored s t (p.base + offResults + 32 * k.cand) bs ∧ Counted s t (rPC_CNT pc) fPC_CNT_CHECKED 1
        ∧ Counted s t (rPC_CNT pc) fPC_CNT_VERIFIED (if k.res.outcome = 1 then 1 else 0)
        ∧ Counted s t (rPC_REJ_CNT pc) fPC_REJ_CNT_LIMIT_REJ (if k.res.outcome = 2 then 1 else 0)
        ∧ Counted s t (rPC_REJ_CNT pc) fPC_REJ_CNT_BLOCKED_REJ (if k.res.outcome = 3 then 1 else 0)
        ∧ t.unitState (pcEngine pc) = 0
        ∧ (∃ q, t.plan.plan = some q ∧ q.checks = p.checks.filter (fun x => x.eng != pcEngine pc)
            ∧ (∀ c ∈ q.cands, c.idx = k.cand → c.outcome = some k.res.outcome)
            ∧ (k.res.outcome = 1 → q.verified
                = insVerified p.verified { idx := k.cand, raw := k.raw, key := k.res.key, epoch := k.epoch })
            ∧ (k.res.outcome ≠ 1 → q.verified = p.verified))
        ∧ RegsTraced s t [rPC_CNT pc, rPC_REJ_CNT pc, rPC_STATUS pc]))
    ∧ (∀ c n d, s.ready c n d → d.op = 12 → d.at 17 1 = 1 →
      ((c ≠ s.rf rPC_PLAN_CFG fPC_PLAN_CFG_EPOCH_CTX ∨ s.flag rPC_PLAN_CFG fPC_PLAN_CFG_ENABLE = false) →
        Runs (.epochPublish c n) s (fun t =>
          Ended t c n stSTATE_REFUSED ∧ t.plan = s.plan ∧ RegsTraced s t [] ∧ t.mem = s.mem))
      ∧ (∀ bs g, c = s.rf rPC_PLAN_CFG fPC_PLAN_CFG_EPOCH_CTX → s.flag rPC_PLAN_CFG fPC_PLAN_CFG_ENABLE = true → d.at 16 1 = 0 →
          d.at 32 32 = 0 → d.at 24 8 % 64 = 0 → s.engRead c (d.at 24 8) 128 = .ok bs → epochOk (leNat bs) = true →
          s.epochGrid (leNat bs) = some g → s.newestNum < bytesOf (leNat bs) 0 8 →
          s.epochErr { rec' := leNat bs, ctx := c, grid := g } = none →
        Runs (.epochPublish c n) s (fun t =>
          t.plan.newest = some { rec' := leNat bs, ctx := c, grid := g } ∧ t.plan.previous = s.plan.newest
          ∧ t.plan.pubs = s.plan.pubs.filter (fun x => !(x.1 == c && x.2.1 == n)) ++ [(c, n, s.plan.previous.map Epoch.num)]
          ∧ t.rf rPC_PLAN_STAT fPC_PLAN_STAT_NEWEST = bytesOf (leNat bs) 0 8 % 2 ^ 32
          ∧ (t.desc c n).map (·.phase) = some .started ∧ RegsTraced s t [rPC_PLAN_STAT] ∧ t.mem = s.mem)))
    ∧ (∀ c n old, (s.desc c n).isSome = true → s.plan.pubs.find? (fun p => p.1 == c && p.2.1 == n) = some (c, n, old) →
      ((∀ e, old = some e → s.epochUsed e = false) → s.publishing c n = false → Runs (.epochPublishComplete c n) s (fun t =>
        t.plan.pubs = s.plan.pubs.filter (fun x => !(x.1 == c && x.2.1 == n)) ∧ t = { s with plan := t.plan }))
      ∧ ((∀ e, old = some e → s.epochUsed e = false) → s.publishing c n = true → Runs (.epochPublishComplete c n) s (fun t =>
        Ended t c n stOK ∧ t.plan.pubs = s.plan.pubs.filter (fun x => !(x.1 == c && x.2.1 == n))
        ∧ t.plan.newest = s.plan.newest ∧ RegsTraced s t [] ∧ t.mem = s.mem))
      ∧ (∀ e, old = some e → s.epochUsed e = true → exec (.epochPublishComplete c n) s = .next s))

/-! ## The memory system -/

/-- R255 and R257 to R262: a read that the write queue holds is forwarded; commands issue in the stated order; stack data is
returned with its errors counted, and fills its line; three failed replays fence a pseudo-channel, whose contents are then
lost; a fenced one is re-initialised with its delay record and scrubbed before it is ONLINE again.
[Model choices: log entries 55, 56, 104, 114.] -/
def Obligations.ControllersReadWriteAndFence : Prop :=
  ∀ (s : State) (pc : Nat), pc < 64 → pc < s.ms.mcs.length → pc < s.ms.slices.length →
    (∀ e, (s.mc pc).rq.find? (fun e => e.copied == e.mask && decide (e.cyc + 8 ≤ s.fabCycle)) = some e →
      Runs (.readForward pc) s (fun t =>
        (t.mc pc).out.head? = some { line := e.line, mask := e.mask, poison := e.poison, data := e.data }
        ∧ (t.slice pc).find e.line = ((s.slice pc).find e.line).map (·.fill e.mask)
        ∧ (t.mc pc).rq = (s.mc pc).rq.filter (fun x => x.seq != e.seq)
        ∧ (t.slice pc).merging = (s.slice pc).merging.filter (fun w => w.fetch != e.seq)
        ∧ ((∀ w ∈ (s.slice pc).merging, w.fetch ≠ e.seq) → (t.mc pc).wq = (s.mc pc).wq ∧ t.mem = s.mem)
        ∧ Counted s t (rMC_HAZ_CNT pc) fMC_HAZ_CNT_FWD_CNT 1
        ∧ RegsBut s t [rMC_HAZ_CNT pc, rMC_POISON_CNT pc, rMC_STATUS pc]))
    ∧ (s.mcState pc = mcONLINE →
      (∀ met r, (s.mc pc).replay ≠ [] → Runs (.mcCommandIssue pc met r) s (fun t =>
          (t.mc pc).replay = (s.mc pc).replay.drop 1 ∧ (t.mc pc).rq = (s.mc pc).rq ∧ (t.mc pc).wq = (s.mc pc).wq
          ∧ (t.mc pc).refDue = (s.mc pc).refDue ∧ t = { s with ms := t.ms }))
      ∧ (∀ met, (s.mc pc).replay = [] → (s.mc pc).refDue ≠ 0 → s.flag (rMC_DLY_CTRL pc) fMC_DLY_CTRL_PENDING = false →
        Runs (.mcCommandIssue pc met true) s (fun t =>
          (t.mc pc).refDue + 1 = (s.mc pc).refDue ∧ mapGet (t.mc pc).rows (s.mc pc).refBank = none
          ∧ (t.mc pc).refBank = ((s.mc pc).refBank + 1) % s.mcBanks
          ∧ (t.mc pc).rq = (s.mc pc).rq ∧ (t.mc pc).wq = (s.mc pc).wq ∧ t.regs = s.regs ∧ t.mem = s.mem))
      ∧ (∀ met r, (s.mc pc).replay = [] → (s.mc pc).refDue ≠ 0 → s.flag (rMC_DLY_CTRL pc) fMC_DLY_CTRL_PENDING = true →
        exec (.mcCommandIssue pc met r) s = .next s)
      ∧ (∀ met e, (s.mc pc).replay = [] → (s.mc pc).refDue = 0 ∨ s.flag (rMC_DLY_CTRL pc) fMC_DLY_CTRL_PENDING = false →
          (s.mc pc).rq.find? (fun e => !e.issued && e.copied != e.mask && met.contains e.seq && e.urg == 3) = some e →
        ((s.mc pc).open e.line = true → Runs (.mcCommandIssue pc met false) s (fun t =>
          (t.mc pc).rq = (s.mc pc).rq.map (fun x => if x.seq = e.seq then { x with issued := true } else x)
          ∧ (t.mc pc).wq = (s.mc pc).wq ∧ t.regs = s.regs ∧ t.mem = s.mem))
        ∧ ((s.mc pc).open e.line = false → Runs (.mcCommandIssue pc met false) s (fun t =>
          mapGet (t.mc pc).rows (bankOf e.line)
              = (if (mapGet (s.mc pc).rows (bankOf e.line)).isSome then none else some (rowOf e.line))
          ∧ (t.mc pc).rq = (s.mc pc).rq ∧ (t.mc pc).wq = (s.mc pc).wq ∧ t.regs = s.regs ∧ t.mem = s.mem)))
      ∧ (∀ met r q, s.chooseCmd pc met r = some (.write q) →
        Runs (.mcCommandIssue pc met r) s (fun t =>
          ((∃ e ∈ (s.mc pc).wq, e.seq = q) → (t.mc pc).wq = (s.mc pc).wq.filter (fun x => x.seq != q))
          ∧ (t.mc pc).rq = (s.mc pc).rq ∧ RegsBut s t [rMC_STATUS pc] ∧ t.mem = s.mem))
      ∧ (∀ fails left, fails < 3 → Runs (.parityError pc ⟨fails, left⟩) s (fun t =>
          Counted s t (rMC_PAR_CNT pc) fMC_PAR_CNT_REPLAY_CNT (fails + 1) ∧ t.mcState pc = mcONLINE
          ∧ (t.mc pc).replay = ((s.mc pc).retry.take left).reverse ∧ (t.mc pc).rq = (s.mc pc).rq ∧ (t.mc pc).wq = (s.mc pc).wq
          ∧ RegsBut s t [rMC_PAR_CNT pc] ∧ t = { s with regs := t.regs, ms := t.ms }))
      ∧ (∀ fails left, 3 ≤ fails → Runs (.parityError pc ⟨fails, left⟩) s (fun t =>
          Counted s t (rMC_PAR_CNT pc) fMC_PAR_CNT_REPLAY_CNT 3 ∧ Counted s t (rMC_PAR_CNT pc) fMC_PAR_CNT_FENCE_CNT 1
          ∧ ((s.slice pc).merging = [] → Counted s t (rMC_POISON_CNT pc) fMC_POISON_CNT_WDROP_CNT (s.mc pc).wq.length)
          ∧ t.mcState pc = mcFENCED ∧ (t.mc pc).rq = [] ∧ (t.mc pc).wq = [] ∧ pc ∈ t.mem.lost
          ∧ (∀ e ∈ (s.mc pc).rq, ∃ r ∈ (t.mc pc).out, r.line = e.line ∧ r.mask = e.mask ∧ r.poison = e.mask)
          ∧ RegsBut s t [rMC_PAR_CNT pc, rMC_POISON_CNT pc, rMC_STATUS pc])))
    ∧ (∀ q codes e asked coded, (s.mc pc).rq.find? (fun e => e.seq == q && e.issued) = some e → asked = without e.mask e.copied →
        coded = Nat.land asked e.poison →
      Runs (.stackReadData pc q codes) s (fun t =>
        (t.mc pc).out.head? = some { line := e.line, mask := e.mask, data := e.data
                                     poison := Nat.lor e.poison (without (codesMask codes asked 2) coded) }
        ∧ (t.mc pc).rq = (s.mc pc).rq.filter (fun x => x.seq != q)
        ∧ Counted s t (rMC_ECC_CNT pc) fMC_ECC_CNT_CE_CNT (popcount4 (without (codesMask codes asked 1) coded))
        ∧ Counted s t (rMC_ECC_CNT pc) fMC_ECC_CNT_UE_CNT (popcount4 (without (codesMask codes asked 2) coded))
        ∧ Counted s t (rMC_POISON_CNT pc) fMC_POISON_CNT_PCODE_CNT (popcount4 coded)
        ∧ Counted s t (rMC_HAZ_CNT pc) fMC_HAZ_CNT_MERGE_CNT (if e.copied = 0 then 0 else 1)
        ∧ (codesMask codes asked 2 = 0 → (∀ w ∈ (s.slice pc).merging, w.fetch ≠ e.seq) → t.mem = s.mem)))
    ∧ (∀ p, s.accepts p (rMC_CFG pc) → s.rf (rMC_CFG pc) fMC_CFG_HWM ≠ 0 → s.rf (rMC_CFG pc) fMC_CFG_HWM ≤ 48 →
        s.rf (rMC_CFG pc) fMC_CFG_LWM < s.rf (rMC_CFG pc) fMC_CFG_HWM → s.rf (rMC_CFG pc) fMC_CFG_READ_AGE_MAX ≠ 0 →
        s.rf (rMC_CFG pc) fMC_CFG_IDLE_DRAIN ≠ 0 →
      (s.mcState pc = mcFENCED → Runs (.mcReinit p pc) s (fun t =>
        t.did p ∧ t.mcState pc = mcREINIT ∧ RegsBut s t [rMC_CFG pc, rMC_STATUS pc, rPM_STATUS] ∧ t.mem = s.mem))
      ∧ (s.mcState pc ≠ mcFENCED → Runs (.mcReinit p pc) s (fun t =>
        t.did p ∧ t.mcState pc = s.mcState pc ∧ t.flag (rMC_STATUS pc) fMC_STATUS_CFG_ERR = true
        ∧ RegsBut s t [rMC_CFG pc, rMC_STATUS pc, rPM_STATUS] ∧ t.mem = s.mem)))
    ∧ (s.mcState pc = mcREINIT →
      (∀ d, s.startDelay s.jnRecs pc (s.rf (rMC_STATUS pc) fMC_STATUS_BAND_SEEN) = some d → Runs (.reinitComplete pc true) s (fun t =>
        t.mcState pc = mcSCRUB ∧ t.rf (rMC_STATUS pc) fMC_STATUS_BAND_LOADED = s.rf (rMC_STATUS pc) fMC_STATUS_BAND_SEEN
        ∧ (t.mc pc).delay = d ∧ RegsBut s t [rMC_STATUS pc] ∧ t.mem = s.mem))
      ∧ (s.startDelay s.jnRecs pc (s.rf (rMC_STATUS pc) fMC_STATUS_BAND_SEEN) = none → Runs (.reinitComplete pc true) s (fun t =>
        t.mcState pc = mcFENCED ∧ t.flag (rMC_STATUS pc) fMC_STATUS_REINIT_FAIL = true ∧ RegsBut s t [rMC_STATUS pc]
        ∧ t = { s with regs := t.regs, ms := t.ms }))
      ∧ Runs (.reinitComplete pc false) s (fun t =>
        t.mcState pc = mcFENCED ∧ t.flag (rMC_STATUS pc) fMC_STATUS_REINIT_FAIL = true ∧ RegsBut s t [rMC_STATUS pc]
        ∧ t = { s with regs := t.regs, ms := t.ms }))
    ∧ (s.mcState pc = mcSCRUB → Runs (.scrubComplete pc) s (fun t =>
        t.mcState pc = (if (s.mc pc).closing = true ∧ (s.mc pc).rq = [] ∧ (s.mc pc).wq = [] then mcSELF else mcONLINE) ∧ pc ∈ t.mem.lost
        ∧ (∀ u, pcOf (u * 32) = pc → (u ∈ t.mem.saved ↔ u ∈ s.cachedGood pc)) ∧ (∀ a, t.mem.byte a = s.mem.byte a)
        ∧ (t.mc pc).refAt = s.fabNs ∧ RegsBut s t [rMC_STATUS pc] ∧ t = { s with regs := t.regs, ms := t.ms, mem := t.mem }))
    ∧ (s.mcState pc ≠ mcSCRUB → exec (.scrubComplete pc) s = .next s)

/-- R263 to R266: a commit is pending until a refresh applies the shadow record; a stack's temperature sets the band, refresh
rate and TEMP_C of its 32 controllers; a band not loaded for 100 ms is stale and counted; refreshes fall due at the interval of the rate.
[Model choices: log entry 57.] -/
def Obligations.DelaysBandsAndRefreshFollowTemperature : Prop :=
  ∀ (s : State) (pc : Nat), pc < 64 → pc < s.ms.mcs.length →
    (∀ p w, s.accepts p (rMC_DLY_CTRL pc) →
      (s.flag (rMC_DLY_CTRL pc) fMC_DLY_CTRL_PENDING = false → Runs (.delayCommit p pc w) s (fun t =>
        t.did p ∧ t.flag (rMC_DLY_CTRL pc) fMC_DLY_CTRL_PENDING = true
        ∧ t.rf (rMC_DLY_CTRL pc) fMC_DLY_CTRL_SHADOW_BAND = fMC_DLY_CTRL_SHADOW_BAND.get w
        ∧ RegsBut s t [rMC_DLY_CTRL pc, rPM_STATUS] ∧ t.mem = s.mem))
      ∧ (s.flag (rMC_DLY_CTRL pc) fMC_DLY_CTRL_PENDING = true → Runs (.delayCommit p pc w) s (fun t =>
        t.did p ∧ t.flag (rMC_STATUS pc) fMC_STATUS_CFG_ERR = true ∧ RegsBut s t [rMC_STATUS pc, rPM_STATUS] ∧ t.mem = s.mem)))
    ∧ (s.mcState pc = mcONLINE → s.flag (rMC_DLY_CTRL pc) fMC_DLY_CTRL_PENDING = true → (s.mc pc).refDue ≠ 0 →
        (s.mc pc).replay = [] →
      Runs (.delayCommitApply pc) s (fun t =>
        t.flag (rMC_DLY_CTRL pc) fMC_DLY_CTRL_PENDING = false ∧ (t.mc pc).delay = s.shadowDelay pc
        ∧ t.rf (rMC_STATUS pc) fMC_STATUS_BAND_LOADED = s.rf (rMC_DLY_CTRL pc) fMC_DLY_CTRL_SHADOW_BAND
        ∧ (t.mc pc).refDue = (s.mc pc).refDue - 16 ∧ (t.mc pc).refSkip = (s.mc pc).refSkip + (16 - (s.mc pc).refDue) ∧ (t.mc pc).rows = []
        ∧ RegsBut s t [rMC_DLY_CTRL pc, rMC_STATUS pc] ∧ t.mem = s.mem))
    ∧ (∀ st own i u, st < 2 → i < 32 → u = { s with th := { s.th with stack := setAt s.th.stack st own } } →
      Runs (.stackTemperatureRead st own) s (fun t =>
        t.rf (rMC_STATUS (32 * st + i)) fMC_STATUS_BAND_SEEN
          = bandNext (s.rf (rMC_STATUS (32 * st + i)) fMC_STATUS_BAND_SEEN) (u.bandTemp st) % 8
        ∧ t.rf (rMC_STATUS (32 * st + i)) fMC_STATUS_REF_RATE = refRate (u.bandTemp st)
        ∧ t.rf (rMC_STATUS (32 * st + i)) fMC_STATUS_TEMP_C = bitsOf 8 ((u.bandTemp st).fdiv 16)
        ∧ t.mcState (32 * st + i) = s.mcState (32 * st + i)
        ∧ t.reg (rMC_STATUS (32 * (1 - st) + i)) = s.reg (rMC_STATUS (32 * (1 - st) + i)) ∧ t.mem = s.mem))
    ∧ (∀ a, s.rf (rMC_STATUS pc) fMC_STATUS_BAND_LOADED ≠ s.rf (rMC_STATUS pc) fMC_STATUS_BAND_SEEN →
        (s.mc pc).bandAt = some a →
      (a + 100000000 ≤ s.dtime → Runs (.bandStaleTimeout pc) s (fun t =>
        t.flag (rMC_STATUS pc) fMC_STATUS_BAND_STALE = true ∧ (t.mc pc).stale = (s.mc pc).stale + 1
        ∧ RegsBut s t [rMC_STATUS pc] ∧ t = { s with regs := t.regs, ms := t.ms }))
      ∧ (s.dtime < a + 100000000 → exec (.bandStaleTimeout pc) s = .next s))
    ∧ (s.mcState pc = mcONLINE → (s.mc pc).refAt + refInterval (s.rf (rMC_STATUS pc) fMC_STATUS_REF_RATE) ≤ s.fabNs →
      Runs (.refreshDue pc) s (fun t =>
        (t.mc pc).refAt = (s.mc pc).refAt + refInterval (s.rf (rMC_STATUS pc) fMC_STATUS_REF_RATE)
        ∧ (t.mc pc).refDue = (s.mc pc).refDue + (if (s.mc pc).refSkip = 0 then 1 else 0)
        ∧ (t.mc pc).refSkip = (s.mc pc).refSkip - 1 ∧ t.regs = s.regs ∧ t.mem = s.mem))
    ∧ (s.mcState pc ≠ mcONLINE → exec (.refreshDue pc) s = .next s)

/-- R249 to R253, R273, R274 and R277 to R279: a granted request that hits is served from its line and one that misses asks its
controller; urgency follows the buffer level; a held class sheds the line of the set in turn, and waits for the write queue;
regulation refuses a guarantee above GUAR_MAX; maintenance passes set after set, cleans what it passes, and completes when every
slice is passed.
[Model choices: log entries 55, 58, 59, 60, 103, 110.] -/
def Obligations.SlicesServeAndRegulate : Prop :=
  ∀ (s : State) (pc : Nat), pc < 64 → pc < s.ms.slices.length → pc < s.ms.mcs.length →
    (∀ heads ecc stage r x l, ecc.ue = 0 → ecc.backUe = 0 → (s.atSlice pc heads).1.arbitrate pc (s.atSlice pc heads).2 = some (stage, r, x) →
        (s.slice pc).find r.line = some l →
      (r.write = none → without (needed r) l.present = 0 → Runs (.cacheLookup pc heads ecc) s (fun t =>
        (t.mc pc).out.head? = some { line := r.line, mask := needed r, poison := Nat.land (needed r) (s.linePoison r.line)
                                     data := s.memNat (r.line * 128) 128 }
        ∧ t.rf (rSC_CLS_HIT (s.classAt r)) fSC_CLS_HIT_HIT = (s.rf (rSC_CLS_HIT (s.classAt r)) fSC_CLS_HIT_HIT + 1) % 2 ^ 64
        ∧ t.mem = s.mem))
      ∧ (r.write = none → without (needed r) l.present ≠ 0 → s.mcState pc = mcONLINE → (s.mc pc).closing = false →
          (s.mc pc).rq.length < 32 → (s.mc pc).wq.length + (s.slice pc).merging.length ≤ 48 →
        Runs (.cacheLookup pc heads ecc) s (fun t =>
          (∃ e, (t.mc pc).rq = (s.mc pc).rq ++ [e] ∧ e.line = r.line ∧ e.mask = without (needed r) l.present
            ∧ e.urg = s.urgOf r.port ∧ e.cls = s.classAt r ∧ e.issued = false)
          ∧ t.rf (rSC_CLS_MISS (s.classAt r)) fSC_CLS_MISS_MISS = (s.rf (rSC_CLS_MISS (s.classAt r)) fSC_CLS_MISS_MISS + 1) % 2 ^ 64
          ∧ t.mem = s.mem))
      ∧ (∀ d, r.write = some d → without (needed r) l.present = 0 → s.mcDead pc = false → Runs (.cacheLookup pc heads ecc) s (fun t =>
        (t.mem = (s.writeMasked r.line r.mask d).mem)
        ∧ t.rf (rSC_CLS_HIT (s.classAt r)) fSC_CLS_HIT_HIT = (s.rf (rSC_CLS_HIT (s.classAt r)) fSC_CLS_HIT_HIT + 1) % 2 ^ 64)))
    ∧ (∀ m level, 60 ≤ m → m ≤ 63 → m < s.ms.ports.length →
      Runs (.urgencyChange m level) s (fun t =>
        t.rf (rQOS_PORT_URG m) fQOS_PORT_URG_LEVEL = s.urgNext (rQOS_PORT_URG m) level
        ∧ (s.rf (rQOS_PORT_URG m) fQOS_PORT_URG_TH3 < level → t.rf (rQOS_PORT_URG m) fQOS_PORT_URG_LEVEL = 3
            ∧ Counted s t (rQOS_PORT_URGCNT m) fQOS_PORT_URGCNT_URG3_CNT
                (if s.rf (rQOS_PORT_URG m) fQOS_PORT_URG_LEVEL < 3 then 1 else 0))
        ∧ (t.portQ m).buf = level ∧ (∀ k, k ≠ m → t.portQ k = s.portQ k)
        ∧ RegsBut s t [rQOS_PORT_URG m, rQOS_PORT_URGCNT m]
        ∧ t = { s with regs := t.regs, ms := { s.ms with ports := t.ms.ports, cyc := s.fabCycle + 1 } }))
    ∧ ((∀ c l, s.clsHeld c = true → l ∈ (s.slice pc).lines → l.set = (s.slice pc).shed → l.cls ≠ c) →
        s.rf rQOS_OCC_STAT fQOS_OCC_STAT_HELD ≠ 0 →
      Runs (.occupancyShed pc) s (fun t =>
        (t.slice pc).shed = ((s.slice pc).shed + 1) % 512 ∧ (t.slice pc).lines = (s.slice pc).lines ∧ t.regs = s.regs ∧ t.mem = s.mem))
    ∧ (∀ c l, c < 16 → s.rf rQOS_OCC_STAT fQOS_OCC_STAT_HELD = 2 ^ c →
        (s.slice pc).shedLine (s.slice pc).shed c = some l → l.pend = 0 →
      ((l.dirty = 0 ∨ s.mcRoom pc 1 = true) → Runs (.occupancyShed pc) s (fun t =>
        (t.slice pc).find l.line = none ∧ Counted s t rQOS_OCC_STAT fQOS_OCC_STAT_SHED_CNT 1
        ∧ (t.slice pc).shed = ((s.slice pc).shed + 1) % 512))
      ∧ (l.dirty ≠ 0 → s.mcRoom pc 1 = false → Runs (.occupancyShed pc) s (fun t =>
        (t.slice pc).shed = (s.slice pc).shed ∧ (t.slice pc).lines = (s.slice pc).lines ∧ t = { s with ms := t.ms })))
    ∧ (∀ p w k, k < 72 → s.accepts p (qosBase + (0x400 + 32 * k)) →
      (s.rf rQOS_CFG fQOS_CFG_GUAR_SUM < s.rf rQOS_CFG fQOS_CFG_GUAR_SUM - s.rf (rQOS_PORT_BKT k) fQOS_PORT_BKT_MIN_RATE
            + fQOS_PORT_BKT_MIN_RATE.get w →
          s.rf rQOS_CFG fQOS_CFG_GUAR_MAX < s.rf rQOS_CFG fQOS_CFG_GUAR_SUM - s.rf (rQOS_PORT_BKT k) fQOS_PORT_BKT_MIN_RATE
            + fQOS_PORT_BKT_MIN_RATE.get w →
        Runs (.qosConfigWrite p (0x400 + 32 * k) w) s (fun t =>
          t.did p ∧ t.flag rQOS_CFG fQOS_CFG_CFG_ERR = true ∧ RegsBut s t [rQOS_CFG, rPM_STATUS] ∧ t.ms = s.ms ∧ t.mem = s.mem))
      ∧ (s.rf rQOS_CFG fQOS_CFG_GUAR_SUM - s.rf (rQOS_PORT_BKT k) fQOS_PORT_BKT_MIN_RATE + fQOS_PORT_BKT_MIN_RATE.get w
            ≤ s.rf rQOS_CFG fQOS_CFG_GUAR_MAX →
        Runs (.qosConfigWrite p (0x400 + 32 * k) w) s (fun t =>
          t.did p ∧ t.rf (rQOS_PORT_BKT k) fQOS_PORT_BKT_MIN_RATE = fQOS_PORT_BKT_MIN_RATE.get w
          ∧ t.rf rQOS_CFG fQOS_CFG_GUAR_SUM
              = (s.rf rQOS_CFG fQOS_CFG_GUAR_SUM - s.rf (rQOS_PORT_BKT k) fQOS_PORT_BKT_MIN_RATE + fQOS_PORT_BKT_MIN_RATE.get w) % 2 ^ 20
          ∧ RegsBut s t [rQOS_CFG, rQOS_PORT_BKT k, rPM_STATUS] ∧ t.mem = s.mem)))
    ∧ (∀ p, s.accepts p rSC_MAINT → s.flag rSC_MAINT fSC_MAINT_BUSY = false →
      Runs (.cleanAll p) s (fun t => t.did p ∧ t.flag rSC_MAINT fSC_MAINT_BUSY = true ∧ t.ms.maint = 1
        ∧ RegsBut s t [rSC_MAINT, rPM_STATUS] ∧ t.mem = s.mem)
      ∧ Runs (.cleanInvAll p) s (fun t => t.did p ∧ t.flag rSC_MAINT fSC_MAINT_BUSY = true ∧ t.ms.maint = 2
        ∧ RegsBut s t [rSC_MAINT, rPM_STATUS] ∧ t.mem = s.mem))
    ∧ ((s.slice pc).swept < 512 → (∀ l ∈ (s.slice pc).lines, l.set = (s.slice pc).swept → l.pend = 0) →
        s.mcRoom pc ((s.slice pc).lines.filter (fun l => l.set == (s.slice pc).swept && l.dirty != 0)).length = true →
      ((s.sweepSet pc).slice pc).swept = (s.slice pc).swept + 1
      ∧ (∀ l ∈ ((s.sweepSet pc).slice pc).lines, l.set = (s.slice pc).swept → l.dirty = 0 ∧ s.ms.maint ≠ 2))
    ∧ (s.flag rSC_MAINT fSC_MAINT_BUSY = true →
      (s.ms.slices.all (fun x => decide (512 ≤ x.swept)) = true → Runs .maintenanceComplete s (fun t =>
        t.flag rSC_MAINT fSC_MAINT_BUSY = false ∧ RegsBut s t [rSC_MAINT] ∧ t = { s with regs := t.regs, ms := { s.ms with maint := 0 } }))
      ∧ (s.ms.slices.all (fun x => decide (512 ≤ x.swept)) = false → exec .maintenanceComplete s = .next s))

/-! ## Thermal control and known-answer tests -/

/-- R388, R390, R393 and R400: a die sample joins its tick; a coolant input is the median of five samples and FAILED when out
of range or silent; a flow pulse of at least 50 µs counts and sets the flow; wear seconds and half-cycles count once locked;
in RETAIN and BRUMATION none of this happens (R399).
[Model choices: log entry 61.] -/
def Obligations.ThermalInputsAreMeasured : Prop :=
  ∀ (s : State),
    (∀ i v, s.thermalRuns = true → i < s.th.sens.length →
      (s.sensorHeard i = true → Runs (.dieSensorSample i v) s (fun t =>
        (t.sensorRec i).samples = v :: (s.sensorRec i).samples ∧ (∀ k, k ≠ i → t.sensorRec k = s.sensorRec k)
        ∧ t = { s with th := t.th }))
      ∧ (s.sensorHeard i = false → exec (.dieSensorSample i v) s = .next s))
    ∧ (∀ i v us, s.thermalRuns = false →
        exec (.dieSensorSample i v) s = .next s ∧ exec (.coolantSample i v) s = .next s ∧ exec (.flowPulse us) s = .next s
        ∧ exec (.coolantInputTimeout i) s = .next s ∧ exec .wearSample s = .next s)
    ∧ (∀ i v m ok, s.thermalRuns = true → s.coolFitted i = true → m = medianInt ((v :: (s.th.cool.getD i {}).hist).take 5) →
        ok = (if -450 ≤ v ∧ v ≤ 1100 then s.dtime else (s.th.cool.getD i {}).lastOk) →
      ((-450 ≤ m ∧ m ≤ 1100 ∧ s.dtime < ok + 100000000) → Runs (.coolantSample i v) s (fun t =>
        t.rf rTH_COOL (coolFld i) = enc16 m ∧ RegsBut s t [rTH_COOL] ∧ t = { s with th := t.th, regs := t.regs }))
      ∧ (¬(-450 ≤ m ∧ m ≤ 1100 ∧ s.dtime < ok + 100000000) → Runs (.coolantSample i v) s (fun t =>
        t.rf rTH_COOL (coolFld i) = failedCode
        ∧ Counted s t rTH_IN_CNT fTH_IN_CNT_INPUT_CNT (if s.rf rTH_COOL (coolFld i) = failedCode then 0 else 1)
        ∧ RegsBut s t [rTH_COOL, rTH_IN_CNT] ∧ t = { s with th := t.th, regs := t.regs })))
    ∧ (∀ i v, s.coolFitted i = false → exec (.coolantSample i v) s = .next s)
    ∧ (∀ us, us < 50 → exec (.flowPulse us) s = .next s)
    ∧ (∀ us n, s.thermalRuns = true → 50 ≤ us → s.rf rTH_CLAMP_CFG fTH_CLAMP_CFG_FLOW_TMO_MS ≠ 0 →
        n = (s.th.pulses.filter (fun p => decide (s.dtime < p + 500000000))).length + 1 →
      Runs (.flowPulse us) s (fun t =>
        t.th.lastPulse = s.dtime
        ∧ t.rf rTH_COOL fTH_COOL_FLOW = (if 20000 < n * 120000 / s.rf rTH_CFG fTH_CFG_FLOW_K then failedCode
            else n * 120000 / s.rf rTH_CFG fTH_CFG_FLOW_K)
        ∧ RegsBut s t [rTH_COOL, rTH_IN_CNT] ∧ t = { s with th := t.th, regs := t.regs }))
    ∧ (∀ i f, s.thermalRuns = true → (i = 3 ∨ s.coolFitted i = true) → f = (if i = 3 then fTH_COOL_FLOW else coolFld i) →
      ((if i = 3 then s.flowStopped = true else (s.th.cool.getD i {}).lastOk + 100000000 ≤ s.dtime) →
        Runs (.coolantInputTimeout i) s (fun t =>
          t.rf rTH_COOL f = failedCode ∧ Counted s t rTH_IN_CNT fTH_IN_CNT_INPUT_CNT (if s.rf rTH_COOL f = failedCode then 0 else 1)
          ∧ RegsBut s t [rTH_COOL, rTH_IN_CNT] ∧ t = { s with regs := t.regs }))
      ∧ (¬(if i = 3 then s.flowStopped = true else (s.th.cool.getD i {}).lastOk + 100000000 ≤ s.dtime) →
        exec (.coolantInputTimeout i) s = .next s))
    ∧ (s.flag rTH_CFG fTH_CFG_WEAR_LOCK = false → exec .wearSample s = .next s)
    ∧ (∀ v x, s.flag rTH_CFG fTH_CFG_WEAR_LOCK = true → s.thermalRuns = true → s.th.tl = some v → s.th.wearExt = some x →
        s.wearLast < x → (v ≤ x ∧ 80 ≤ x - v) →
      Runs .wearSample s (fun t =>
        t.rf rTH_WEAR_SEC fTH_WEAR_SEC_SEC = (s.rf rTH_WEAR_SEC fTH_WEAR_SEC_SEC + (if s.powerState ≤ 1 then 1 else 0)) % 2 ^ 64
        ∧ t.th.wearExt = some v
        ∧ (∀ b, wearBin (x - s.wearLast).natAbs = some b → Counted s t (rTH_WEAR_CYC b) fTH_WEAR_CYC_HALF 1
            ∧ RegsBut s t [rTH_WEAR_SEC, rTH_WEAR_CYC b, rTH_WEAR_LAST])
        ∧ (wearBin (x - s.wearLast).natAbs = none → RegsBut s t [rTH_WEAR_SEC, rTH_WEAR_LAST])
        ∧ t.rf rTH_WEAR_LAST fTH_WEAR_LAST_LAST = enc16 x ∧ t.mem = s.mem))
    ∧ (∀ p, s.accepts p rTH_CFG → Runs (.wearLock p) s (fun t =>
        t.did p ∧ t.flag rTH_CFG fTH_CFG_WEAR_LOCK = true ∧ RegsBut s t [rTH_CFG, rPM_STATUS] ∧ t.mem = s.mem))

/-- R389 and R392 to R396: a tick takes in the samples and power, retires a sensor after ten bad ticks and never lowers the
level, or turns the rails off; the level falls one step after 2 s; a silent flow clamps; the clamp ends when its conditions
have held, and a HALT ends after 2 s of low temperatures.
[Model choices: log entry 61.] -/
def Obligations.ThermalLevelsClampAndHalt : Prop :=
  ∀ (s : State),
    (∀ power compute, s.thermalRuns = true → Runs (.thermalTick power compute) s (fun t =>
      t.aon.off = true
      ∨ (t.rf rTH_POWER fTH_POWER_P_TOTAL = power % 2 ^ 16 ∧ t.rf rTH_POWER fTH_POWER_P_COMPUTE = compute % 2 ^ 16
          ∧ (s.th.fresh = false → s.level ≤ t.level) ∧ (∀ i, i < 68 → (t.sensorRec i).samples = [])
          ∧ (∀ i, i < 68 → (s.sensorRec i).bad = 9 → (s.sensorRec i).reading = none → t.sensorState i = stRETIRED)
          ∧ (s.clamped = true → t.clamped = true))))
    ∧ (∀ power compute, s.thermalRuns = false → exec (.thermalTick power compute) s = .next s)
    ∧ (s.clamped = false → 0 < s.level → s.levelDue < s.level → s.th.heldAt + 2000000000 ≤ s.dtime →
      Runs .throttleLevelFall s (fun t =>
        t.level + 1 = s.level ∧ t.th.heldAt = s.dtime
        ∧ t.rf rPM_CLK fPM_CLK_TILE_TH = (if s.halted then 4 else s.level - 2)
        ∧ t.rf rPM_CLK fPM_CLK_HART_TH = (if s.halted then 3 else s.level - 2)
        ∧ RegsBut s t [rTH_STATUS, rPM_CLK] ∧ t.mem = s.mem))
    ∧ ((s.clamped = true ∨ s.level ≤ s.levelDue) → exec .throttleLevelFall s = .next s)
    ∧ (s.flowStopped = true → s.thermalRuns = true → Runs .clampPulse s (fun t =>
        t.clamped = true ∧ t.flag rTH_STATUS fTH_STATUS_PULSE = true
        ∧ (s.clamped = false → Counted s t rTH_EVT_CNT fTH_EVT_CNT_CLAMP_CNT 1 ∧ t.rf rPM_CLK fPM_CLK_TILE_TH = 4
            ∧ t.rf rPM_CLK fPM_CLK_HART_TH = 3 ∧ t.flag rHUB_IRQ_STATUS ⟨irqTH, irqTH⟩ = true)))
    ∧ (s.flowStopped = false → exec .clampPulse s = .next s)
    ∧ (∀ p, s.accepts p rTH_CLAMP_CFG → Runs (.clampClr p) s (fun t =>
        t.did p ∧ t.th.clr = (s.th.clr || (s.clamped && s.th.clampOk.isSome)) ∧ RegsBut s t [rPM_STATUS] ∧ t.mem = s.mem))
    ∧ (s.clamped = true → s.clampQuiet = true → s.flowStopped = false → s.rateMet = false →
      Runs .clampRelease s (fun t =>
        t.clamped = false ∧ t.flag rTH_STATUS fTH_STATUS_PULSE = false ∧ t.flag rTH_STATUS fTH_STATUS_RATE = false
        ∧ t.level = s.levelDue ∧ t.th.clr = false ∧ RegsBut s t [rTH_STATUS, rPM_CLK, rTH_LVL_CNT, rHUB_IRQ_STATUS] ∧ t.mem = s.mem))
    ∧ ((s.clamped = false ∨ s.clampQuiet = false) → exec .clampRelease s = .next s)
    ∧ (∀ t0, s.th.haltOk = some t0 → s.halted = true → t0 + 2000000000 ≤ s.dtime →
      Runs .haltEnd s (fun t =>
        t.halted = false ∧ (∀ i r, (t.tile i).req = some r → r.ctx = 64 → (t.tile i).sampled ≠ none)
        ∧ RegsBut s t [rTH_STATUS, rPM_CLK] ∧ t.mem = s.mem))
    ∧ (s.th.haltOk = none → exec .haltEnd s = .next s)

/-- R357, R358, R360 and R362 to R364: a window opens half a period after the last pass; a wrong signature puts the unit in FAULT
and gives every job that used it a cause, and the last right one makes it tested; a missed deadline leaves it UNTESTED; a
retest and the enabling and disabling of tests follow HUB_TEST_CFG.
[Model choices: log entry 30.] -/
def Obligations.KnownAnswerTestsRun : Prop :=
  ∀ (s : State) (e : Nat), e < 184 → e < s.tests.length →
    (s.flag rHUB_TEST_CFG fHUB_TEST_CFG_ENABLE = true → s.unitThere e = true → (s.unitTest e).due = false → s.testFault e = false →
        (∀ lp, (s.unitTest e).lp = some lp → lp + s.halfPeriod ≤ s.dtime) →
      Runs (.testDue e) s (fun t =>
        (t.unitTest e).due = true ∧ (t.unitTest e).next = 0 ∧ (∀ u, u ≠ e → t.unitTest u = s.unitTest u)
        ∧ RegsBut s t [rPM_STATUS] ∧ t.mem = s.mem))
    ∧ (∀ lp, (s.unitTest e).lp = some lp → s.dtime < lp + s.halfPeriod → exec (.testDue e) s = .next s)
    ∧ (∀ got want, (s.unitTest e).running = true → got ≠ want →
      Runs (.testSliceComplete e got want) s (fun t =>
        t.testFault e = true ∧ t.unitState e = tsFAULT ∧ (t.unitTest e).running = false
        ∧ Counted s t rHUB_TEST_CNT fHUB_TEST_CNT_FAIL_CNT 1 ∧ t.rf rHUB_TEST_LASTI fHUB_TEST_LASTI_ENGINE = e
        ∧ t.rf rHUB_TEST_LAST fHUB_TEST_LAST_DTIME = s.dtime % 2 ^ 64
        ∧ (∀ c j, (s.ctx c).job = some j → j.used.contains e = true → ∃ k a, (t.ctx c).job = some k ∧ k.causes = j.causes ++ [a]
            ∧ a.engine = e ∧ a.selfCheck = true ∧ a.restart = true)
        ∧ t.mem = s.mem))
    ∧ (∀ got, (s.unitTest e).running = true → testSlices e ≤ (s.unitTest e).next + 1 →
      Runs (.testSliceComplete e got got) s (fun t =>
        (t.unitTest e).lp = some s.dtime ∧ (t.unitTest e).due = false ∧ (t.unitTest e).running = false ∧ t.untested e = false
        ∧ t.testFault e = false ∧ Counted s t rHUB_TEST_CNT fHUB_TEST_CNT_PASS_CNT 1
        ∧ ((e < 144 ∨ 176 ≤ e) → t.unitState e = tsIDLE) ∧ t.mem = s.mem))
    ∧ (∀ got, (s.unitTest e).running = true → (s.unitTest e).next + 1 < testSlices e →
      Runs (.testSliceComplete e got got) s (fun t =>
        (t.unitTest e).next = (s.unitTest e).next + 1 ∧ (t.unitTest e).running = false ∧ t.testFault e = s.testFault e
        ∧ t.untested e = s.untested e ∧ t.mem = s.mem))
    ∧ (∀ lp, (s.unitTest e).lp = some lp → s.flag rHUB_TEST_CFG fHUB_TEST_CFG_ENABLE = true → (s.unitTest e).missed = false →
        s.testFault e = false → lp + 2 * s.halfPeriod ≤ s.dtime →
      Runs (.testDeadline e) s (fun t =>
        t.untested e = true ∧ (t.unitTest e).due = true ∧ (t.unitTest e).missed = true
        ∧ Counted s t rHUB_TEST_CNT2 fHUB_TEST_CNT2_OVERRUN_CNT 1 ∧ t.mem = s.mem))
    ∧ (∀ p, s.accepts p rHUB_TEST_RETEST →
      (s.testFault e = true → (s.unitTest e).dead = false → Runs (.retest p e) s (fun t =>
        t.did p ∧ (t.unitTest e).retest = true ∧ (t.unitTest e).next = 0 ∧ t.testFault e = true ∧ RegsBut s t [rPM_STATUS]))
      ∧ ((s.testFault e = false ∨ (s.unitTest e).dead = true) → Runs (.retest p e) s (fun t =>
        t.did p ∧ t.unitTest e = s.unitTest e ∧ t.flag rHUB_TEST_CFG fHUB_TEST_CFG_CFG_REJ = true
        ∧ RegsBut s t [rHUB_TEST_CFG, rPM_STATUS])))
    ∧ (∀ p, s.accepts p rHUB_TEST_CFG → s.flag rHUB_TEST_CFG fHUB_TEST_CFG_ENABLE = false →
      (s.rf rHUB_TEST_BASE fHUB_TEST_BASE_ADDR ≠ 0 → Runs (.testEnable p) s (fun t =>
        t.did p ∧ t.flag rHUB_TEST_CFG fHUB_TEST_CFG_ENABLE = true
        ∧ (s.testFault e = false → s.unitThere e = true → (t.unitTest e).due = true ∧ (t.unitTest e).lp = none)
        ∧ RegsBut s t [rHUB_TEST_CFG, rPM_STATUS] ∧ t.mem = s.mem))
      ∧ (s.rf rHUB_TEST_BASE fHUB_TEST_BASE_ADDR = 0 → Runs (.testEnable p) s (fun t =>
        t.did p ∧ t.flag rHUB_TEST_CFG fHUB_TEST_CFG_ENABLE = false ∧ t.flag rHUB_TEST_CFG fHUB_TEST_CFG_CFG_REJ = true
        ∧ t.tests = s.tests ∧ RegsBut s t [rHUB_TEST_CFG, rPM_STATUS] ∧ t.mem = s.mem)))
    ∧ (∀ p, s.accepts p rHUB_TEST_CFG → s.flag rHUB_TEST_CFG fHUB_TEST_CFG_ENABLE = true →
      Runs (.testDisable p) s (fun t =>
        t.did p ∧ t.flag rHUB_TEST_CFG fHUB_TEST_CFG_ENABLE = false ∧ t.untested e = true ∧ (t.unitTest e).running = false
        ∧ (t.unitTest e).due = false ∧ t.mem = s.mem))

/-! ## The die links -/

/-- R283 to R286: a good frame in order is delivered, and its message handed on with its LAST frame; for one out of order a NAK is
dealt; a bad one counts and retrains its bundle at the limit; a NAK makes the transmitter send again what it holds from the SEQ
named, and the 64th in a row quarantines the connection.
[Model choices: log entries 62, 63, 111.] -/
def Obligations.LinkFramesAreDeliveredInOrder : Prop :=
  ∀ (s : State) (n d b f i : Nat) (fr : FrameIn) (x : SkDir), n < 10 → n < s.sk.conns.length → d < 2 → b < skBundles n → i = 24 * d + b →
      d < (s.skConn n).dirs.length → i < (s.skConn n).bundles.length → x = (s.skConn n).dir d → s.connState n = skUP → f = frGot fr →
    (((s.skConn n).bundle i).live = true → frGood f = true →
      (seqDist x.next (frSeq f) = 0 → Runs (.skinkFrame n d b fr) s (fun t =>
        ((t.skConn n).dir d).next = (x.next + 1) % 4096 ∧ ((t.skConn n).dir d).nakDue = none
        ∧ (frCarries f = true → frLast f = true →
            ((t.skConn n).dir d).done = (x.part.filter (fun g => frTag g == frTag f) ++ [f]).map beatOf :: x.done
            ∧ ((t.skConn n).dir d).part = x.part.filter (fun g => frTag g != frTag f))
        ∧ (frCarries f = true → frLast f = false →
            ((t.skConn n).dir d).done = x.done ∧ ((t.skConn n).dir d).part = x.part ++ [f])
        ∧ (frCarries f = false → ((t.skConn n).dir d).done = x.done ∧ ((t.skConn n).dir d).part = x.part)
        ∧ t.regs = s.regs ∧ t.mem = s.mem))
      ∧ (0 < seqDist x.next (frSeq f) → seqDist x.next (frSeq f) < 2048 → Runs (.skinkFrame n d b fr) s (fun t =>
        ((t.skConn n).dir d).next = x.next ∧ ((t.skConn n).dir d).nakDue = some x.next ∧ ((t.skConn n).dir d).done = x.done
        ∧ ((t.skConn n).dir d).part = x.part
        ∧ ((s.skConn n).dirs.length = 2 →
            ((t.skConn n).dir (1 - d)).queue.getLast? = some { kind := kNAK, low := 0, payload := x.next }
            ∨ ∃ g, ((t.skConn n).dir (1 - d)).held.getLast? = some g ∧ frKind g = kNAK ∧ g % 2 ^ 256 = x.next % 2 ^ 256)
        ∧ Counted s t (rSK_BCRC n i) fSK_BCRC_NAK_CNT 1 ∧ RegsBut s t [rSK_BCRC n i] ∧ t.mem = s.mem))
      ∧ (2048 ≤ seqDist x.next (frSeq f) → Runs (.skinkFrame n d b fr) s (fun t =>
        ((t.skConn n).dir d).next = x.next ∧ ((t.skConn n).dir d).done = x.done ∧ ((t.skConn n).dir d).part = x.part
        ∧ t.regs = s.regs ∧ t.mem = s.mem)))
    ∧ (((s.skConn n).bundle i).live = true → frGood fr.sent = true → x.held.length < 2048 → seqDist x.acked (frSeq fr.sent) < 2048 →
        Runs (.skinkFrame n d b fr) s (fun t =>
          (t.connState n = skUP → frSeq fr.sent ∈ ((t.skConn n).dir d).held.map frSeq) ∧ t.mem = s.mem))
    ∧ (((s.skConn n).bundle i).live = true → frGood f = false → Runs (.skinkFrame n d b fr) s (fun t =>
        ((t.skConn n).dir d).done = x.done ∧ ((t.skConn n).dir d).next = x.next ∧ ((t.skConn n).dir d).nakDue = some x.next
        ∧ Counted s t (rSK_BCRC n i) fSK_BCRC_CRC_CNT 1 ∧ Counted s t (rSK_BCRC n i) fSK_BCRC_NAK_CNT 1
        ∧ ((t.skConn n).bundle i).live = !(decide (((s.takeCfg n false).skConn n).lim
            ≤ (((s.skConn n).bundle i).fails.filter (fun a => decide (s.dtime < a + 1000000))).length + 1))))
    ∧ (((s.skConn n).bundle i).live = false → exec (.skinkFrame n d b fr) s = .next s)
    ∧ (∀ q run, seqDist x.acked q < 2048 → run = (if x.nakSeq = some (q % 4096) then x.nakRun + 1 else 1) →
      (run < 64 → Runs (.nak n d q) s (fun t =>
        ((t.skConn n).dir d).resend = some (q % 4096) ∧ ((t.skConn n).dir d).nakRun = run ∧ ((t.skConn n).dir d).next = x.next
        ∧ ((t.skConn n).dir d).held = x.held
        ∧ (s.inService n d ≠ [] → ∀ g ∈ x.held, seqDist x.acked q ≤ seqDist x.acked (frSeq g) →
            ∃ b l, Sent.skink n d b l g ∈ t.sent)
        ∧ t.regs = s.regs ∧ t.mem = s.mem))
      ∧ (64 ≤ run → Runs (.nak n d q) s (fun t =>
        t.connState n = skQUAR ∧ t.rf (rSK_CONN_STATUS n) fSK_CONN_STATUS_LAST_CAUSE = causeLINK)))

/-- The side that receives the messages of side `side` keeps what it has of its own, and sends its CONFIRM with the message that
makes them complete (R290). -/
abbrev Sys2Proof.Machine.State.confirmsWhen (s t : State) (n side : Nat) (e : SkXch) : Prop :=
  ((t.skConn n).side (1 - side)).sum = ((s.skConn n).side (1 - side)).sum
  ∧ ((t.skConn n).side (1 - side)).lanes = ((s.skConn n).side (1 - side)).lanes
  ∧ ((t.skConn n).side (1 - side)).conf = ((s.skConn n).side (1 - side)).conf
  ∧ (((s.skConn n).side side).complete e.bundles = false → ((t.skConn n).side side).complete e.bundles = true →
      ∃ k m, Sent.sideband n (1 - side) k m ∈ t.sent ∧ m / 2 ^ 120 = 6)

/-- R287, R289, R290 and R291: a TEST_START sets up a lane test of the bundles it names; a completed test begins the first
exchange, but not over a lost sideband; maps and summaries are kept with their exchange; matching CONFIRMs put the agreed maps in force and bring the
connection UP, and a mismatch or a second NACK repeats the exchange or makes it fall back.
[Model choices: log entries 64, 65, 66.] -/
def Obligations.LanesAreTestedAndAgreed : Prop :=
  ∀ (s : State) (n side : Nat), n < 10 → n < s.sk.conns.length → side < 2 → (s.skConn n).sides.length = 2 →
    (∀ dirs bundles slot sel, sel = (skAll n).filter (fun i => dirs.testBit (i / 24) && bundles.testBit (i % 24)) →
      (s.sbLost n = false → s.connState n ≠ skUP → sel ≠ [] → s.connClocked n = true → (s.connState n ≠ skQUAR ∨ s.mayRetest n = true) →
        Runs (.testStart n dirs bundles slot) s (fun t =>
          t.connState n = skTEST
          ∧ (t.skConn n).test = some { start := (s.skConn n).epoch + 5600 * slot, bundles := sel, whole := true }
          ∧ (t.skConn n).heard = s.dtime ∧ t.inService n 0 = [] ∧ t.inService n 1 = []
          ∧ RegsBut s t [rSK_CONN_STATUS n] ∧ t.mem = s.mem))
      ∧ (s.sbLost n = true → Runs (.testStart n dirs bundles slot) s (fun t =>
          t.sbLost n = false ∧ (t.skConn n).test = (s.skConn n).test ∧ t.connState n = s.connState n
          ∧ RegsBut s t [rSK_CONN_STATUS n] ∧ t.mem = s.mem)))
    ∧ (∀ maps x, (s.skConn n).test = some x →
      (s.sbLost n = true → exec (.laneTestComplete n maps) s = .next s)
      ∧ (s.sbLost n = false → x.start + s.testNs n ≤ s.dtime → Runs (.laneTestComplete n maps) s (fun t =>
        (t.skConn n).test = none
        ∧ (t.skConn n).xch = some { num := 1, bundles := x.bundles, whole := x.whole, fallback := false }
        ∧ t.connState n = (if x.whole then skAGREE else s.connState n) ∧ RegsBut s t [rSK_CONN_STATUS n] ∧ t.mem = s.mem))
      ∧ (s.dtime < x.start + s.testNs n → exec (.laneTestComplete n maps) s = .next s))
    ∧ (∀ e num bad, s.inXch n num = some e → Runs (.mapSummary n side num bad) s (fun t =>
        ((t.skConn n).side side).sum = some bad ∧ s.confirmsWhen t n side e
        ∧ RegsBut s t [rSK_CONN_STATUS n] ∧ t.mem = s.mem))
    ∧ (∀ e num m b good, s.inXch n num = some e → ((s.skConn n).side side).sum = some m → m.testBit b = true →
        e.bundles.contains b = true → Runs (.laneMap n side num b good) s (fun t =>
        mapGet ((t.skConn n).side side).lanes b = some (good % 2 ^ skWires n)
        ∧ s.confirmsWhen t n side e ∧ RegsBut s t [rSK_CONN_STATUS n] ∧ t.mem = s.mem))
    ∧ (∀ e crc, (s.skConn n).xch = some e → e.fallback = false → ((s.skConn n).side side).complete e.bundles = true →
      (crc = s.confirmOf n (1 - side) e → ((s.skConn n).side (1 - side)).conf = false →
        Runs (.confirm n side e.num crc) s (fun t =>
          ((t.skConn n).side side).conf = true ∧ (t.skConn n).xch = some e ∧ t.connState n = s.connState n
          ∧ RegsBut s t [rSK_CONN_STATUS n] ∧ t.mem = s.mem))
      ∧ (crc = s.confirmOf n (1 - side) e → ((s.skConn n).side (1 - side)).conf = true →
        Runs (.confirm n side e.num crc) s (fun t =>
          (t.skConn n).xch = none ∧ (t.connState n = skUP ∨ t.connState n = skQUAR)
          ∧ ((∀ i ∈ e.bundles, i < 48) → ∀ i ∈ e.bundles, s.agreedMap n 1 e i < 2 ^ 68 → t.skMap n i = s.agreedMap n 1 e i)))
      ∧ (crc ≠ s.confirmOf n (1 - side) e →
        Runs (.confirm n side e.num crc) s (fun t =>
          (t.skConn n).xch = some (if 3 ≤ e.num then { e with fallback := true } else { e with num := e.num + 1 })
          ∧ ((t.skConn n).side 0).conf = false ∧ ((t.skConn n).side 1).conf = false
          ∧ RegsBut s t [rSK_CONN_STATUS n] ∧ t.mem = s.mem)))
    ∧ (∀ q typ, ((s.skConn n).side (1 - side)).nacked ≠ some q → Runs (.nack n side q typ) s (fun t =>
        ((t.skConn n).side (1 - side)).nacked = some q ∧ (t.skConn n).xch = (s.skConn n).xch
        ∧ RegsBut s t [rSK_CONN_STATUS n] ∧ t.mem = s.mem))
    ∧ (∀ q typ e, ((s.skConn n).side (1 - side)).nacked = some q → (s.skConn n).xch = some e → e.fallback = false →
        4 ≤ typ → typ ≤ 6 → Runs (.nack n side q typ) s (fun t =>
        (t.skConn n).xch = some (if 3 ≤ e.num then { e with fallback := true } else { e with num := e.num + 1 })
        ∧ RegsBut s t [rSK_CONN_STATUS n] ∧ t.mem = s.mem))

/-- R287, R288, R292, R293, R298 and R300: STATE messages and sideband silence are kept; a lost clock, a late response, a STATE,
a message or firmware quarantines a connection, and with it its die; a swept die is ABSENT or HELD, and comes back through a
rejoin and its commit.
[Model choices: log entries 65, 66, 67, 103, 112.] -/
def Obligations.DiesAreQuarantinedAndRejoin : Prop :=
  ∀ (s : State) (n side : Nat), n < 10 → n < s.sk.conns.length → side < 2 → (s.skConn n).sides.length = 2 →
      s.sk.reports.length = 6 → s.sk.sweeps.length = 6 → s.sk.claims.length = 6 → s.sk.commits.length = 6 →
    (∀ rep, ((s.skConn n).side side).last ≠ some rep ∨ ((s.skConn n).side side).sentAt + 100000 ≤ s.dtime →
      Runs (.sbStateSend n side rep) s (fun t =>
        ((t.skConn n).side side).last = some rep ∧ ((t.skConn n).side side).seq = (((s.skConn n).side side).seq + 1) % 256
        ∧ ((t.skConn n).side side).sentAt = s.dtime ∧ t.regs = s.regs ∧ t.mem = s.mem))
    ∧ (∀ rep d, skSideDie n side = some d → Runs (.sbState n side rep) s (fun t =>
        t.sk.reports[d]? = some (some rep) ∧ t.sbLost n = false
        ∧ ((rep = .reset ∨ rep = .noclk) → s.connState n = skUP → t.connState n = skQUAR
            ∧ t.rf (rSK_CONN_STATUS n) fSK_CONN_STATUS_LAST_CAUSE = causeRESET)
        ∧ (rep = .run → skDie n = some d → s.dieState d = 3 → s.flag rSK_DIE_CTRL fSK_DIE_CTRL_AUTO_REJOIN = true → t.dieState d = 2)))
    ∧ (∀ lost cause, lost < 10 → 1 ≤ cause → cause ≤ 6 → s.connState lost = skUP →
      Runs (.quarantineMessage n lost cause) s (fun t =>
        t.connState lost = skQUAR ∧ t.rf (rSK_CONN_STATUS lost) fSK_CONN_STATUS_LAST_CAUSE = cause
        ∧ (∀ d, skDie lost = some d → s.dieState d = 0 → t.dieState d = 1)))
    ∧ ((s.skConn n).heard + 1000000 ≤ s.dtime → Runs (.sidebandLost n) s (fun t =>
        t.sbLost n = true ∧ t.connState n = s.connState n ∧ RegsBut s t [rSK_CONN_STATUS n] ∧ t = { s with regs := t.regs }))
    ∧ (s.dtime < (s.skConn n).heard + 1000000 → exec (.sidebandLost n) s = .next s)
    ∧ (s.connState n = skUP →
      Runs (.forwardedClockLoss n) s (fun t =>
        t.connState n = skQUAR ∧ t.rf (rSK_CONN_STATUS n) fSK_CONN_STATUS_LAST_CAUSE = causeCLOCK
        ∧ Counted s t (rSK_CONN_EVT n) fSK_CONN_EVT_QUAR_CNT 1 ∧ (∀ d, skDie n = some d → s.dieState d = 0 → t.dieState d = 1))
      ∧ (∀ us, ((s.takeCfg n false).skConn n).rsp < us → Runs (.rspTimeout n us) s (fun t =>
          t.connState n = skQUAR ∧ t.rf (rSK_CONN_STATUS n) fSK_CONN_STATUS_LAST_CAUSE = causeTIMEOUT))
      ∧ (∀ us, us ≤ ((s.takeCfg n false).skConn n).rsp → Runs (.rspTimeout n us) s (fun t =>
          t.connState n = skUP ∧ t.regs = s.regs ∧ t.mem = s.mem)))
    ∧ (∀ d done disc w, d < 6 → s.sk.sweeps[d]? = some (some w) → s.dieState d = 1 → w.entry < 16 →
      (w.bound ≤ s.dtime → Runs (.quarantineSweepComplete d done disc) s (fun t =>
        t.dieState d = (if w.hold then 4 else 3) ∧ t.sk.sweeps[d]? = some none
        ∧ (s.rf rSK_QLOG_HEAD fSK_QLOG_HEAD_TOTAL < w.total + 16 →
            t.rf (rSK_QLOG_INFO w.entry) fSK_QLOG_INFO_COMPLETED = min (done + w.swept) 0xFFFFF
            ∧ t.rf (rSK_QLOG_INFO w.entry) fSK_QLOG_INFO_DISCARDED = min (disc + w.lost) 0xFFFF)
        ∧ t.mem = s.mem))
      ∧ (s.dtime < w.bound → exec (.quarantineSweepComplete d done disc) s = .next s))
    ∧ (∀ d count, d < 6 → Runs (.rejoinReq d count) s (fun t =>
        t.sk.claims[d]? = some count ∧ t.sbLost (skHubConn d) = false
        ∧ (s.dieState d = 3 → s.sk.reports[d]? = some (some .run) → s.flag rSK_DIE_CTRL fSK_DIE_CTRL_AUTO_REJOIN = true → t.dieState d = 2)
        ∧ (s.dieState d ≠ 3 → t.dieState d = s.dieState d) ∧ t.mem = s.mem))
    ∧ (∀ d cycle, s.rejoinReady d = false → exec (.rejoinCommit d cycle) s = .next s)
    ∧ (∀ d cycle, d < 6 → s.rejoinReady d = true →
      (cycle ≤ s.fabCycle → Runs (.rejoinCommit d cycle) s (fun t => t.dieState d = 0 ∧ t.sk.commits[d]? = some none))
      ∧ (s.fabCycle < cycle → Runs (.rejoinCommit d cycle) s (fun t => t.dieState d = 2 ∧ t.sk.commits[d]? = some (some cycle))))
    ∧ (∀ p d, s.accepts p rSK_DIE_CTRL → d < 6 →
      (s.diePresent d = true → s.connState (skHubConn d) ≠ skQUAR → Runs (.quar p (2 ^ d)) s (fun t =>
        t.did p ∧ t.connState (skHubConn d) = skQUAR ∧ t.dieState d = 1
        ∧ t.rf (rSK_CONN_STATUS (skHubConn d)) fSK_CONN_STATUS_LAST_CAUSE = causeFW))
      ∧ ((s.dieState d = 3 ∨ s.dieState d = 4) → s.sbLost (skHubConn d) = false → Runs (.rejoin p (2 ^ d)) s (fun t =>
        t.did p ∧ t.dieState d = 2)))

/-! ## Chorus -/

/-- R303, R304, R306, R307, R313, R315, R316 and R324: a port trains into the mode it is given; flits are taken in order and
acknowledged, handed on or forwarded on the route of their part, and bad ones replayed; lost lanes narrow a link or bring it DOWN; heartbeats keep a link and three misses end it; a peer request without
answer ends LINK_DOWN.
[Model choices: log entries 68, 69, 72.] -/
def Obligations.DeviceLinksTrainCarryAndFail : Prop :=
  ∀ (s : State) (k : Nat), k < 4 → s.ch.links.length = 4 →
    (∀ bad, s.linkOn k = true → bad % 256 ≠ 0 →
      (lanesLeft bad ≠ 0 → Runs (.laneLoss k bad) s (fun t =>
        t.dlState k = dlRETRAIN ∧ (t.devLink k).width = lanesLeft bad ∧ RegsBut s t [rDL_STATUS k] ∧ t.mem = s.mem))
      ∧ (lanesLeft bad = 0 → Runs (.laneLoss k bad) s (fun t => t.dlState k = dlDOWN ∧ t.rf (rDL_STATUS k) fDL_STATUS_WIDTH = 0)))
    ∧ (s.isDev k = true → s.dlState k = dlRETRAIN → (s.devLink k).width < 4 →
      Runs (.linkRetrainComplete k true) s (fun t =>
        t.dlState k = dlUP ∧ t.rf (rDL_STATUS k) fDL_STATUS_WIDTH = (s.devLink k).width
        ∧ RegsBut s t [rDL_STATUS k] ∧ t = { s with regs := t.regs })
      ∧ Runs (.linkRetrainComplete k false) s (fun t => t.dlState k = dlDOWN))
    ∧ (∀ head fixed load crc body, body = head ++ load → s.linkUp k = true →
      (crc32c body = crc → flDist (s.devLink k).next (flSeq body) = 0 → Runs (.deviceLinkFlit k head fixed load crc) s (fun t =>
        (t.devLink k).next = ((s.devLink k).next + 1) % 65536
        ∧ (t.devLink k).got = (if flKind body = flDATA ∧ flVc body ≠ vcCHORUS ∧ flDst body = s.selfId then body :: (s.devLink k).got
            else (s.devLink k).got)
        ∧ (t.devLink k).replay = none ∧ (t.devLink k).credits = (s.devLink k).credits + flCred body
        ∧ (flKind body = flIDLE → (t.devLink k).held = (s.devLink k).held.filter (fun g =>
            decide (flDist (flAck body) (flSeq g) ≠ 0 ∧ flDist (flAck body) (flSeq g) < 32768)))
        ∧ (∀ p, flKind body = flDATA → flVc body ≠ vcCHORUS → flDst body ≠ s.selfId →
            s.flag (rCH_ROUTE (flDst body)) fCH_ROUTE_VALID = true → p = s.rf (rCH_ROUTE (flDst body)) fCH_ROUTE_PORT → p ≠ k →
            s.linkUp p = true → (s.devLink p).held.length < 512 →
            (t.devLink p).held.length = (s.devLink p).held.length + 1
            ∧ ∃ g ∈ (t.devLink p).held, flDst g = flDst body ∧ flKind g = flDATA)
        ∧ Counted s t (rDL_CNT k) fDL_CNT_FEC_CNT (if fixed then 1 else 0)
        ∧ RegsBut s t [rDL_CNT k] ∧ t.mem = s.mem))
      ∧ (crc32c body = crc → 0 < flDist (s.devLink k).next (flSeq body) → Runs (.deviceLinkFlit k head fixed load crc) s (fun t =>
        (t.devLink k).next = (s.devLink k).next ∧ (t.devLink k).got = (s.devLink k).got
        ∧ (t.devLink k).replay = (if flDist (s.devLink k).next (flSeq body) < 32768 then some (s.devLink k).next else (s.devLink k).replay)
        ∧ Counted s t (rDL_CNT k) fDL_CNT_FEC_CNT (if fixed then 1 else 0) ∧ RegsBut s t [rDL_CNT k] ∧ t.mem = s.mem))
      ∧ (crc32c body ≠ crc → Runs (.deviceLinkFlit k head fixed load crc) s (fun t =>
        (((s.devLink k).fails.filter (fun a => decide (s.dtime < a + 1000000))).length < 15 →
            (t.devLink k).replay = some (s.devLink k).next)
        ∧ (t.devLink k).next = (s.devLink k).next
        ∧ (t.devLink k).got = (s.devLink k).got ∧ Counted s t (rDL_CNT k) fDL_CNT_CRC_CNT 1
        ∧ (s.rf (rDL_STATUS k) fDL_STATUS_WIDTH ≠ 0 → t.dlState k
            = (if 15 ≤ ((s.devLink k).fails.filter (fun a => decide (s.dtime < a + 1000000))).length then dlRETRAIN else dlUP)))))
    ∧ (∀ width rate nbr port, s.isDev k = true → s.dlState k = dlTRAINING →
      Runs (.dlTrainingComplete k true width rate nbr port) s (fun t =>
        t.dlState k = dlUP ∧ t.nbrOf k = nbr % 2 ^ fDL_STATUS_NBR_ID.width
        ∧ t.rf (rDL_STATUS k) fDL_STATUS_NBR_PORT = port % 2 ^ fDL_STATUS_NBR_PORT.width
        ∧ t.rf (rDL_STATUS k) fDL_STATUS_WIDTH = width % 2 ^ fDL_STATUS_WIDTH.width
        ∧ t.rf (rDL_STATUS k) fDL_STATUS_RATE = rate % 2 ^ fDL_STATUS_RATE.width
        ∧ t.sent.length = s.sent.length + 16 ∧ RegsBut s t [rDL_STATUS k] ∧ t.mem = s.mem)
      ∧ Runs (.dlTrainingComplete k false width rate nbr port) s (fun t =>
        t.dlState k = dlDOWN ∧ RegsBut s t [rDL_STATUS k] ∧ t = { s with regs := t.regs }))
    ∧ (∀ width rate, 2 ≤ s.rf (rDL_CFG 0) fDL_CFG_MODE →
      Runs (.pcieLinkChange true width rate) s (fun t => t.dlState 0 = dlUP ∧ RegsBut s t [rDL_STATUS 0] ∧ t = { s with regs := t.regs })
      ∧ Runs (.pcieLinkChange false width rate) s (fun t =>
          t.dlState 0 = dlDOWN ∧ t.rf (rDL_STATUS 0) fDL_STATUS_WIDTH = 0 ∧ RegsBut s t [rDL_STATUS 0] ∧ t.pcieReads = []
          ∧ t = { s with regs := t.regs, bus := t.bus, pcieReads := t.pcieReads } ∧ (s.pcieReads = [] → t.bus = s.bus)))
    ∧ (∀ p w, s.accepts p (rDL_CFG k) →
      (s.dlState k = dlDOWN → (fDL_CFG_MODE.get w < 2 ∨ k = 0) → Runs (.dlCfgWrite p k w) s (fun t =>
        t.did p ∧ t.rf (rDL_CFG k) fDL_CFG_MODE = fDL_CFG_MODE.get w
        ∧ t.dlState k = (if fDL_CFG_MODE.get w = 0 then dlDOWN else dlTRAINING)
        ∧ RegsBut s t [rDL_CFG k, rDL_STATUS k, rPM_STATUS] ∧ t.mem = s.mem))
      ∧ ((s.dlState k ≠ dlDOWN ∨ (2 ≤ fDL_CFG_MODE.get w ∧ k ≠ 0)) → Runs (.dlCfgWrite p k w) s (fun t =>
        t.did p ∧ t.flag (rDL_STATUS k) fDL_STATUS_CFG_ERR = true ∧ t.dlState k = s.dlState k
        ∧ t.rf (rDL_CFG k) fDL_CFG_MODE = s.rf (rDL_CFG k) fDL_CFG_MODE ∧ t.rf (rDL_CFG k) fDL_CFG_RATE = fDL_CFG_RATE.get w
        ∧ RegsBut s t [rDL_CFG k, rDL_STATUS k, rPM_STATUS] ∧ t.mem = s.mem)))
    ∧ ((∀ a, s.ch.beatAt = some a → a + 50000 ≤ s.dtime) → Runs .heartbeatSend s (fun t =>
        t.ch.beatAt = some s.dtime ∧ t.sent.length = s.sent.length + ((List.range 4).filter s.linkUp).length
        ∧ t.regs = s.regs ∧ t.mem = s.mem))
    ∧ (∀ o view ms sent, s.linkOn k = true →
      Runs (.heartbeat k o false view ms sent) s (fun t =>
        Counted s t (rDL_LINK_CNT k) fDL_LINK_CNT_FRAME_ERR_CNT 1 ∧ RegsBut s t [rDL_LINK_CNT k] ∧ t = { s with regs := t.regs })
      ∧ (s.chState = csRUN → s.listens o = false → Runs (.heartbeat k o true view ms sent) s (fun t =>
        Counted s t rCH_ERR_CNT fCH_ERR_CNT_FOREIGN_CNT 1 ∧ RegsBut s t [rCH_ERR_CNT] ∧ t = { s with regs := t.regs }))
      ∧ (¬(s.chState = csRUN ∧ s.listens o = false) → view ≤ s.chView → s.followsChorus = false →
        Runs (.heartbeat k o true view ms sent) s (fun t =>
          (t.devLink k).timer = s.dtime ∧ (t.devLink k).misses = 0 ∧ t.regs = s.regs ∧ t = { s with ch := t.ch })))
    ∧ (s.linkOn k = true → (s.devLink k).timer + 50000 ≤ s.dtime → Runs (.heartbeatMiss k) s (fun t =>
        Counted s t (rDL_LINK_CNT k) fDL_LINK_CNT_HB_MISS_CNT 1
        ∧ ((s.devLink k).misses < 2 → (t.devLink k).misses = (s.devLink k).misses + 1 ∧ (t.devLink k).timer = s.dtime
            ∧ RegsBut s t [rDL_LINK_CNT k] ∧ t.mem = s.mem)
        ∧ (2 ≤ (s.devLink k).misses → t.dlState k = dlDOWN)))
    ∧ (∀ trips, s.linkUp k = true →
      (trips.length = 16 → (s.devLink k).probed = false → Runs (.probe k trips) s (fun t =>
        (t.devLink k).delay = trips.sum / 32 ∧ (t.devLink k).probed = true ∧ t = { s with ch := t.ch }))
      ∧ ((trips.length ≠ 16 ∨ (s.devLink k).probed = true) → exec (.probe k trips) s = .next s))
    ∧ (∀ us, s.rf rCH_RSP_CFG fCH_RSP_CFG_RSP_TIMEOUT_US < us →
      (∀ h, Runs (.peerResponseTimeout (.hart h) us) s (fun t =>
        t.bus.port = .hart h ∧ t.bus.answer = .accessFault ∧ Counted s t rCH_ACC_CNT fCH_ACC_CNT_TMO_CNT 1
        ∧ RegsBut s t [rCH_ACC_CNT] ∧ t.mem = s.mem))
      ∧ (∀ e c n d, s.desc c n = some d → d.phase = .started → d.units.contains e = true →
        Runs (.peerResponseTimeout (.engine e c n) us) s (fun t =>
          Ended t c n stLINK_DOWN ∧ (t.desc c n).map (·.detail) = some (e * 2 ^ 56)
          ∧ Counted s t rCH_ACC_CNT fCH_ACC_CNT_TMO_CNT 1 ∧ RegsTraced s t (rCH_ACC_CNT :: (List.range 16).map rGE_STATUS) ∧ t.mem = s.mem))
      ∧ (∀ u addr, u < 128 → slicePresent (s.tileState u) = true → (s.desc (s.tileCtx u) (s.tile u).knum).isSome = true →
        Runs (.peerResponseTimeout (.tile u addr) us) s (fun t =>
          Ended t (s.tileCtx u) (s.tile u).knum stLINK_DOWN ∧ t.tileState u = tsFAULT
          ∧ Counted s t rCH_ACC_CNT fCH_ACC_CNT_TMO_CNT 1 ∧ t.mem = s.mem)))
    ∧ (∀ r us, (us ≤ s.rf rCH_RSP_CFG fCH_RSP_CFG_RSP_TIMEOUT_US ∨ s.reqOpen r = false) → exec (.peerResponseTimeout r us) s = .next s)

/-- R309, R312, R317 to R320, R322 and R323: a part discovers its peers by HELLO, ends discovery in FAULT or in an agreement,
counts a HELLO of its own ID that it did not send as another's,
commits a view on which all agree or is EXILED, reopens an agreement that stays open, and completes a barrier at which every
member has arrived; a barrier that has not completed FRAME_BUDGET_US after the part's own arrival counts once in BAR_LATE_CNT,
raises the Chorus interrupt, and keeps waiting.
[The clauses outside R323 rest on model choices: log entries 69, 70, 71, 72.] -/
def Obligations.MembersDiscoverAgreeAndMeet : Prop :=
  ∀ (s : State) (k : Nat), k < 4 → s.selfId < 16 →
    (∀ p, s.accepts p rCH_CFG →
      (s.chState = csOFF → Runs (.chEnable p) s (fun t =>
        t.did p ∧ t.chState = csDISCOVER ∧ t.flag rCH_CFG fCH_CFG_ENABLE = true ∧ t.ch.learned = s.dtime
        ∧ t.rf rCH_CFG fCH_CFG_DISC_MS = max 1 (s.rf rCH_CFG fCH_CFG_DISC_MS)
        ∧ (s.entering = false → RegsBut s t [rCH_CFG, rCH_STATUS, rPM_STATUS]) ∧ t.mem = s.mem))
      ∧ (s.chState ≠ csOFF → Runs (.chEnable p) s (fun t =>
        t.did p ∧ t.chState = s.chState ∧ t.flag rCH_STATUS fCH_STATUS_CFG_ERR = true
        ∧ RegsBut s t [rCH_STATUS, rPM_STATUS] ∧ t.ch = s.ch ∧ t.mem = s.mem))
      ∧ (s.chState ≠ csOFF → Runs (.chDisable p) s (fun t =>
        t.did p ∧ t.chState = csOFF ∧ t.flag rCH_CFG fCH_CFG_ENABLE = false ∧ t.chView = 0 ∧ t.barDone = 0
        ∧ t.rf rCH_STATUS fCH_STATUS_MEMBERS = 0 ∧ t.ch.agree = none ∧ t.ch.parts = [] ∧ t.selfId = s.selfId)))
    ∧ (s.chState = csDISCOVER → (∀ a, s.ch.helloAt = some a → a + 100000 ≤ s.dtime) → Runs .helloSend s (fun t =>
        t.ch.helloAt = some s.dtime ∧ t.sent.length = s.sent.length + ((List.range 4).filter s.linkUp).length
        ∧ t.regs = s.regs ∧ t.mem = s.mem))
    ∧ (∀ o q cfg adj, s.linkUp k = true →
      Runs (.hello k o q false cfg adj) s (fun t =>
        Counted s t (rDL_LINK_CNT k) fDL_LINK_CNT_FRAME_ERR_CNT 1 ∧ RegsBut s t [rDL_LINK_CNT k] ∧ t = { s with regs := t.regs })
      ∧ (s.chState = csDISCOVER → s.ch.seen.contains (o, q) = false → Runs (.hello k o q true cfg adj) s (fun t =>
        (o ≠ s.selfId → t.chPart o = some { id := o, cfg := cfg, adj := adj })
        ∧ t.sent.length = s.sent.length + ((List.range 4).filter (fun j => j != k && s.linkUp j)).length
        ∧ t.regs = s.regs ∧ t.mem = s.mem)))
    ∧ (∀ q cfg adj, s.linkUp k = true → s.chState = csDISCOVER →
        s.ch.hellos.contains { origin := s.selfId, seq := q, body := .hello cfg adj } = false →
      Runs (.hello k s.selfId q true cfg adj) s (fun t => t.ch.dup = true ∧ t.regs = s.regs ∧ t.mem = s.mem))
    ∧ (s.chState = csDISCOVER → s.ch.agree = none → s.ch.learned + s.rf rCH_CFG fCH_CFG_DISC_MS * 1000000 ≤ s.dtime →
      (s.discoveryFault ≠ cfNONE → Runs .discoveryEnd s (fun t =>
        t.chState = csFAULT ∧ t.rf rCH_STATUS fCH_STATUS_FAULT = s.discoveryFault ∧ RegsBut s t [rCH_STATUS] ∧ t = { s with regs := t.regs }))
      ∧ (s.discoveryFault = cfNONE → s.ch.views = [] → s.discovered ≠ 2 ^ s.selfId → Runs .discoveryEnd s (fun t =>
        t.ch.agree = some { num := 1, set := s.discovered, since := s.dtime, flooded := s.dtime }
        ∧ t.flag rCH_STATUS fCH_STATUS_AGREE_OPEN = true ∧ t.chState = csDISCOVER ∧ RegsBut s t [rCH_STATUS] ∧ t.mem = s.mem))
      ∧ (s.discoveryFault = cfNONE → s.discovered = 2 ^ s.selfId → Runs .discoveryEnd s (fun t =>
        t.chState = csRUN ∧ t.chView = 1 ∧ t.rf rCH_STATUS fCH_STATUS_MEMBERS = 2 ^ s.selfId ∧ t.ch.agree = none)))
    ∧ (∀ o q num set, s.linkUp k = true → s.chState = csRUN → s.listens o = true → s.ch.seen.contains (o, q) = false →
      (s.ch.agree = none → num ≤ s.chView → Runs (.view k o q true num set) s (fun t =>
        mapGet t.ch.views o = some (num, set) ∧ t.ch.agree = none ∧ t.regs = s.regs ∧ t.mem = s.mem))
      ∧ (s.ch.agree = none → s.chView < num → set.testBit s.selfId = false → Runs (.view k o q true num set) s (fun t =>
        t.chState = csEXILED ∧ t.rf rCH_STATUS fCH_STATUS_MEMBERS = 2 ^ s.selfId ∧ t.ch.agree = none))
      ∧ (∀ a, s.ch.agree = some a → a.num = num → a.set = set → set < 2 ^ 16 → num < 2 ^ 64 → set.testBit s.selfId = true →
          (∀ d ∈ membersOf set, d ≠ s.selfId → d ≠ o → mapGet s.ch.views d = some (num, set)) →
        Runs (.view k o q true num set) s (fun t =>
          t.chState = csRUN ∧ t.chView = num ∧ t.rf rCH_STATUS fCH_STATUS_MEMBERS = set ∧ t.ch.agree = none)))
    ∧ (∀ a, s.ch.agree = some a →
      (a.flooded + 10000 ≤ s.dtime → Runs .viewReflood s (fun t =>
        t.ch.agree = some { a with flooded := s.dtime }
        ∧ t.sent.length = s.sent.length + ((List.range 4).filter s.linkUp).length ∧ t.regs = s.regs ∧ t.mem = s.mem))
      ∧ (a.since + 800000 ≤ s.dtime → (s.reachMask s.chMembers).testBit s.selfId = true →
          (∃ d ∈ membersOf (s.reachMask s.chMembers), d ≠ s.selfId
            ∧ mapGet s.ch.views d ≠ some (a.num + 1, s.reachMask s.chMembers)) →
        Runs .agreementRestart s (fun t =>
          t.ch.agree = some { num := a.num + 1, set := s.reachMask s.chMembers, since := s.dtime, flooded := s.dtime }
          ∧ Counted s t rCH_ERR_CNT fCH_ERR_CNT_AGREE_RESTART 1 ∧ RegsBut s t [rCH_ERR_CNT, rCH_STATUS] ∧ t.mem = s.mem))
      ∧ (s.dtime < a.since + 800000 → exec .agreementRestart s = .next s))
    ∧ (∀ n a, a = s.rf rCH_ARRIVE_ADDR fCH_ARRIVE_ADDR_ADDR * 8 → n = s.memNat a 8 → s.chState = csRUN →
        s.flag rCH_ARRIVE_ADDR fCH_ARRIVE_ADDR_EN = true → s.mem.poisoned a 8 = false → s.ch.arrived s.selfId < n →
      Runs .barrierArrival s (fun t =>
        t.ch.arrived s.selfId = n ∧ t.sent.length = s.sent.length + ((List.range 4).filter s.linkUp).length
        ∧ ((s.rf rCH_STATUS fCH_STATUS_MEMBERS).testBit s.selfId = true →
            (∀ d ∈ membersOf (s.rf rCH_STATUS fCH_STATUS_MEMBERS), d ≠ s.selfId → n ≤ s.ch.arrived d) → s.barDone < n →
            n < 2 ^ fCH_BAR_STAT_COMPLETED.width →
            t.barDone = n ∧ (s.flag rCH_RELEASE_ADDR fCH_RELEASE_ADDR_EN = true →
              s.alive (s.rf rCH_RELEASE_ADDR fCH_RELEASE_ADDR_ADDR * 8) 8 →
              t.memNat (s.rf rCH_RELEASE_ADDR fCH_RELEASE_ADDR_ADDR * 8) 8 = n))))
    ∧ (∀ o q num, s.linkUp k = true → s.chState = csRUN → s.listens o = true → s.ch.seen.contains (o, q) = false →
      Runs (.arrive k o q true num) s (fun t => t.ch.arrived o = max num (s.ch.arrived o)))
    ∧ (∀ num a, s.ch.arrivedAt num = some a → s.chState = csRUN → s.barDone < num → s.ch.late.contains num = false →
      (a + s.rf rCH_BAR_CFG fCH_BAR_CFG_FRAME_BUDGET_US * 1000 ≤ s.dtime → Runs (.barrierLate num) s (fun t =>
        Counted s t rCH_EVT_CNT fCH_EVT_CNT_BAR_LATE_CNT 1 ∧ t.ch.late = num :: s.ch.late
        ∧ t.flag rHUB_IRQ_STATUS ⟨irqCH, irqCH⟩ = true ∧ RegsBut s t [rCH_EVT_CNT, rHUB_IRQ_STATUS] ∧ t.mem = s.mem))
      ∧ (s.dtime < a + s.rf rCH_BAR_CFG fCH_BAR_CFG_FRAME_BUDGET_US * 1000 → exec (.barrierLate num) s = .next s))
    ∧ (∀ num, s.ch.late.contains num = true → exec (.barrierLate num) s = .next s)

/-! ## The safety islands -/

/-- Every register outside window `n` but those listed is as before. -/
def Sys2Proof.Machine.RegsOutside (s t : State) (n : Nat) (l : List Addr) : Prop :=
  ∀ a, a / 0x10000 ≠ n → a ∉ l → t.reg a = s.reg a

/-- The other island is as before. -/
def Sys2Proof.Machine.IslandsBut (s t : State) (i : Nat) : Prop := ∀ j, j ≠ i → t.isle j = s.isle j

/-- Nothing but one island's own state, and the count of free values, changed. -/
def Sys2Proof.Machine.IslandFree (s t : State) (i : Nat) : Prop := t = { s with isl := t.isl, free := t.free } ∧ IslandsBut s t i

/-- Nothing but one island's own state changed. -/
def Sys2Proof.Machine.IslandOnly (s t : State) (i : Nat) : Prop := t = { s with isl := t.isl } ∧ IslandsBut s t i

/-- R330, R331, R406 and R412: an island powers up in RESET, stops with its supply, trips to FAULT with its pin asserted,
restarts by itself or by HUB as standby, is HELD after a second trip within 10 s, and boots its image or runs the ROM output.
[Model choices: log entries 73, 79, 86, 113.] -/
def Obligations.IslandsTripRestartAndBoot : Prop :=
  ∀ (s : State) (i : Nat) (x : Island), i < 2 → s.isl.length = 2 → s.time.isl.length = 2 → x = s.isle i →
    (∀ sp, x.power = false → Runs (.islandPowerUp { isl := i, split := sp }) s (fun t =>
        (t.isle i).power = true ∧ (t.isle i).state = isRESET ∧ (t.isle i).mode = (if sp then imSPLIT else imVOTED)
        ∧ (t.isle i).held = false ∧ (t.isle i).lastTrip = 0 ∧ (t.isle i).counter = 0 ∧ (t.isle i).image = 0 ∧ (t.isle i).tcm = {}
        ∧ (t.isle i).active = x.active ∧ t.islTime i = 0 ∧ (∀ o ∈ siOffsets, t.reg (rSI_STATUS i + o) = regReset (rSI_STATUS i + o))
        ∧ RegsOutside s t (0x140140 + i) [] ∧ IslandsBut s t i ∧ t.mem = s.mem))
    ∧ (∀ sp, x.power = true → exec (.islandPowerUp { isl := i, split := sp }) s = .next s)
    ∧ Runs (.islandSupplyLoss i) s (fun t =>
        (t.isle i).power = false ∧ (t.isle i).pinHigh = false ∧ (t.isle i).image = 0 ∧ (t.isle i).tcm = {} ∧ (t.isle i).strap = x.strap
        ∧ IslandsBut s t i ∧ t.regs = s.regs ∧ t.mem = s.mem)
    ∧ (∀ code heal, x.power = true →
      (x.state ≠ isFAULT → 1 ≤ code → code ≤ 8 → Runs (.islandTrip i code heal) s (fun t =>
        (t.isle i).state = isFAULT ∧ (t.isle i).lastTrip = code ∧ (t.isle i).pinHigh = false ∧ (t.isle i).due = none
        ∧ (t.isle i).reports = code :: x.reports ∧ (t.isle i).tripAt = s.islTime i
        ∧ ((∃ r, x.restartAt = some r ∧ s.islTime i < r + tenSec) → (t.isle i).held = true)
        ∧ (∀ c, c < 5 → ((t.isle i).txs.getD c {}).tx = none)
        ∧ IslandsBut s t i ∧ RegsTraced s t [] ∧ t.mem = s.mem))
      ∧ (x.state = isFAULT → exec (.islandTrip i code heal) s = .next s))
    ∧ (x.power = true → x.state = isFAULT →
      (x.held = false → x.healable = true → x.tripAt + 100000000 ≤ s.islTime i → Runs (.islandSelfRestart i) s (fun t =>
        (t.isle i).state = isRESET ∧ (t.isle i).active = false ∧ (t.isle i).held = false ∧ (t.isle i).lastTrip = x.lastTrip
        ∧ (t.isle i).reports = x.reports ∧ (t.isle i).restartAt = some (s.islTime i) ∧ (t.isle i).tcm = x.tcm ∧ (t.isle i).image = x.image
        ∧ t.rf (rSI_CFG i) fSI_CFG_LOCK = 0 ∧ RegsOutside s t (0x140140 + i) [] ∧ IslandsBut s t i ∧ t.mem = s.mem))
      ∧ ((x.held = true ∨ x.healable = false ∨ s.islTime i < x.tripAt + 100000000) → exec (.islandSelfRestart i) s = .next s))
    ∧ (∀ p, s.accepts p (rSI_CTRL i) → s.islHub i = true →
      (x.held = true → Runs (.siRestart p i) s (fun t =>
        t.did p ∧ t.isl = s.isl ∧ t.flag (rSI_CFG i) fSI_CFG_CFG_REJ = true ∧ RegsBut s t [rSI_CFG i, rPM_STATUS] ∧ t.mem = s.mem))
      ∧ (x.held = false → x.power = true → x.state = isFAULT → Runs (.siRestart p i) s (fun t =>
        t.did p ∧ (t.isle i).state = isRESET ∧ (t.isle i).active = false ∧ (t.isle i).lastTrip = x.lastTrip
        ∧ RegsOutside s t (0x140140 + i) [rPM_STATUS] ∧ IslandsBut s t i ∧ t.mem = s.mem))
      ∧ (x.held = false → x.state ≠ isFAULT → Runs (.siRestart p i) s (fun t =>
        t.did p ∧ t.isl = s.isl ∧ RegsBut s t [rPM_STATUS] ∧ t.mem = s.mem)))
    ∧ (∀ xl, x.power = true → x.txs.length = 5 →
      (∀ ok, (x.state = isBOOT ∨ x.rom = true) → Runs (.islandImageVerify i ok xl) s (fun t =>
        (ok = true → s.islImageOk i = true → (t.isle i).state = isNOTREADY ∧ (t.isle i).rom = false
          ∧ (t.isle i).limOk = s.limitsValid i ∧ (t.isle i).tcm = x.tcm ∧ (∀ c, c < 5 → (t.islTx i c).xl = Nat.testBit xl c))
        ∧ ((ok = false ∨ s.islImageOk i = false) →
          t.isle i = { x with tcm := (t.isle i).tcm, image := (t.isle i).image } ∧ (s.islHub i = false → t = s))
        ∧ IslandOnly s t i))
      ∧ (x.state ≠ isBOOT → x.rom = false → ∀ ok, exec (.islandImageVerify i ok xl) s = .next s))
    ∧ (x.power = true → (x.state = isRESET ∨ x.state = isBOOT) →
      (x.bornAt + 2000000000 ≤ s.islTime i → x.txs.length = 5 → Runs (.islandImageWaitTimeout i) s (fun t =>
        (t.isle i).state = isNOTREADY ∧ (t.isle i).rom = true ∧ (∀ c, c < 5 → (t.islTx i c).xl = true) ∧ IslandOnly s t i))
      ∧ (s.islTime i < x.bornAt + 2000000000 → exec (.islandImageWaitTimeout i) s = .next s))

/-- R332 to R336 and R379: a voted core that disagrees is fenced, retired at its third fence within 10 s, and a second
disagreement trips; a checkpoint resynchronises; the mode changes on request unless a core is retired; debug commands need
level 3 and an unlocked island; the veto follows the image.
[Model choices: log entries 73, 79.] -/
def Obligations.IslandCoresVoteAndChangeMode : Prop :=
  ∀ (s : State) (i : Nat) (x : Island), i < 2 → s.isl.length = 2 → x = s.isle i → x.running = true →
    (∀ core, core ≤ 2 → core ∉ x.retired →
      (x.mode = imVOTED → x.paired = false → x.fenced = [] →
          ((x.fences.filter (fun p => decide (s.islTime i < p.2 + tenSec))).filter (fun p => p.1 == core)).length < 2 →
        Runs (.coreDisagree i core) s (fun t =>
          (t.isle i).fenced = [core] ∧ (t.isle i).retired = x.retired ∧ (t.isle i).mode = imVOTED ∧ (t.isle i).state = x.state
          ∧ (∀ c, c ≠ core → (t.isle i).cores.getD c 0 = x.cores.getD c 0)
          ∧ (t.isle i).fenceCnt = min 0xFFFFFF (x.fenceCnt + 1) ∧ IslandFree s t i))
      ∧ (x.mode = imVOTED → x.paired = false → x.fenced = [] →
          2 ≤ ((x.fences.filter (fun p => decide (s.islTime i < p.2 + tenSec))).filter (fun p => p.1 == core)).length →
        Runs (.coreDisagree i core) s (fun t =>
          core ∈ (t.isle i).retired ∧ (t.isle i).mode = imPAIRED ∧ (t.isle i).moult = none ∧ (t.isle i).state = x.state ∧ IslandFree s t i))
      ∧ (x.mode = imVOTED → x.paired = false → (∃ c ∈ x.fenced, c ≠ core) → Runs (.coreDisagree i core) s (fun t =>
        (t.isle i).state = isFAULT ∧ (t.isle i).lastTrip = 1 ∧ IslandsBut s t i ∧ RegsTraced s t [] ∧ t.mem = s.mem))
      ∧ (x.paired = true → x.mode ≠ imSPLIT → ¬(core = 2 ∧ x.retired = []) → Runs (.coreDisagree i core) s (fun t =>
        (t.isle i).state = isFAULT ∧ (t.isle i).lastTrip = 2 ∧ IslandsBut s t i ∧ RegsTraced s t [] ∧ t.mem = s.mem))
      ∧ (x.mode = imSPLIT → exec (.coreDisagree i core) s = .next s))
    ∧ (x.checkAt + 100000 ≤ s.islTime i → Runs (.checkpoint i) s (fun t =>
        t.isle i = { x with fenced := [], checkAt := s.islTime i, cores := (t.isle i).cores }
        ∧ (∀ c, c ∈ x.fenced → c < x.cores.length → (t.isle i).cores.getD c 0 = x.cores.getD (if 0 ∈ x.fenced then 1 else 0) 0)
        ∧ (∀ c, c ∉ x.fenced → (t.isle i).cores.getD c 0 = x.cores.getD c 0) ∧ IslandOnly s t i))
    ∧ (s.islTime i < x.checkAt + 100000 → exec (.checkpoint i) s = .next s)
    ∧ (∀ paired want, want = (if paired then imPAIRED else imVOTED) → x.mode ≠ imSPLIT → x.mode ≠ want →
      (x.retired ≠ [] → Runs (.moultReq i paired) s (fun t => t.isle i = { x with refused := x.refused + 1 } ∧ IslandOnly s t i))
      ∧ (x.retired = [] → Runs (.moultReq i paired) s (fun t => t.isle i = { x with moult := some want, recalled := !paired } ∧ IslandOnly s t i)))
    ∧ (∀ m, x.moult = some m →
      ((x.fenced = [] ∨ (m = imPAIRED ∧ x.fenced = [2])) → Runs (.moultComplete i) s (fun t =>
        (m = imPAIRED → t.isle i = { x with mode := m, moult := none, fenced := [], cores := (t.isle i).cores })
        ∧ (m ≠ imPAIRED → t.isle i = { x with mode := m, moult := none, recalled := false, cores := (t.isle i).cores }
            ∧ (2 < x.cores.length → (t.isle i).cores.getD 2 0 = x.cores.getD 0 0) ∧ t.free = s.free)
        ∧ (∀ c, c ≠ 2 → (t.isle i).cores.getD c 0 = x.cores.getD c 0) ∧ IslandFree s t i))
      ∧ (x.fenced ≠ [] → (m ≠ imPAIRED ∨ x.fenced ≠ [2]) → exec (.moultComplete i) s = .next s))
    ∧ (x.moult = none → exec (.moultComplete i) s = .next s)
    ∧ (∀ core cmd, core ≤ 2 →
      (s.rf rTR_AUTH_STAT fTR_AUTH_STAT_LEVEL = 3 → s.islHub i = true →
          (s.rf (rSI_CFG i) fSI_CFG_LOCK = 0 ∨ x.mode = imSPLIT) → Runs (.islandDebugCommand i core cmd) s (fun t =>
        ((∀ a v, cmd ≠ .mem a v) → t.isle i = { x with dbg := (t.isle i).dbg, cores := (t.isle i).cores })
        ∧ ((∀ r v, cmd ≠ .write r v) → (t.isle i).cores = x.cores) ∧ IslandOnly s t i
        ∧ (∀ k v c, cmd = .write (0x1000 + k) v → k < 64 → c ∈ x.dbgCores core → c < x.cores.length → x.cores.length = 3 →
            (∀ c ∈ x.dbgCores core, c ∈ x.dbg.halted) → (t.isle i).cores.getD c 0 / 2 ^ (64 * k) % 2 ^ 64 = v % 2 ^ 64)
        ∧ (∀ a v, cmd = .mem a v → a % 4 = 0 → a < tcmBytes → x.dbgCores core ≠ [] →
            (x.mode = imPAIRED → core = 2 → a < tcmLower → t.isle i = { x with refused := x.refused + 1 })
            ∧ ((x.mode ≠ imPAIRED ∨ core ≠ 2 ∨ tcmLower ≤ a) →
                t.isle i = { x with tcm := (t.isle i).tcm } ∧ (t.isle i).tcm.read a 4 = leBytes 4 v
                ∧ ∀ b, (b < a ∨ a + 4 ≤ b) → (t.isle i).tcm.byte b = x.tcm.byte b))
        ∧ (cmd = .halt → ∀ c ∈ x.dbgCores core, c ∈ (t.isle i).dbg.halted)
        ∧ (cmd = .halt → core = 0 → x.mode = imVOTED → x.retired = [] →
            0 ∈ (t.isle i).dbg.halted ∧ 1 ∈ (t.isle i).dbg.halted ∧ 2 ∈ (t.isle i).dbg.halted)
        ∧ (cmd = .resume → ∀ c ∈ x.dbgCores core, c ∉ (t.isle i).dbg.halted)))
      ∧ ((s.rf rTR_AUTH_STAT fTR_AUTH_STAT_LEVEL ≠ 3 ∨ (s.rf (rSI_CFG i) fSI_CFG_LOCK ≠ 0 ∧ x.mode ≠ imSPLIT)) →
        exec (.islandDebugCommand i core cmd) s = .next s))
    ∧ (∀ on, Runs (.pmVeto i on) s (fun t => t.isle i = { x with veto := on } ∧ (s.entering = false → IslandOnly s t i)))

/-- R337, R346, R354, R355 and R443: an island takes its notices, checks a world record before it uses it, answers status by
mailbox and SPI, keeps its configuration locked, and counts what its own controllers lose.
[Model choices: log entries 73, 77, 78.] -/
def Obligations.IslandsReadAnswerAndReceive : Prop :=
  ∀ (s : State) (i : Nat) (x : Island), i < 2 → s.isl.length = 2 → x = s.isle i →
    (∀ sl rest, sl = s.rf (rSI_CFG i) fSI_CFG_WORLD_SLOT →
      (takeNotice i sl s.hub.notices = none → exec (.worldNotice i) s = .next s)
      ∧ (takeNotice i sl s.hub.notices = some rest → x.power = true → x.rom = false → isNOTREADY ≤ x.state → x.state ≤ isREADY →
          s.islHub i = true → Runs (.worldNotice i) s (fun t =>
        (t.isle i).reading = some (s.slotRec sl) ∧ t.hub.notices = rest
        ∧ (s.flag (rSI_VIEW i) fSI_VIEW_EN = false → (t.isle i).chorus = false ∧ (t.isle i).role = 1)
        ∧ (∀ bs, s.flag (rSI_VIEW i) fSI_VIEW_EN = true → s.islRead i (s.rf (rSI_VIEW i) fSI_VIEW_ADDR * 64) 64 = some bs →
            crc32c (bs.take 60) = bytesOf (leNat bs) 60 4 →
            (t.isle i).chorus = true ∧ (t.isle i).role = bytesOf (leNat bs) 22 1 ∧ (t.isle i).view = bytesOf (leNat bs) 0 8)
        ∧ t.regs = s.regs ∧ IslandsBut s t i ∧ t.mem = s.mem)))
    ∧ (∀ r, x.reading = some r →
      ((recKind r ≠ 0x10 ∨ recSeq r ≠ bytesOf r 1016 8 ∨ recLen r ≠ 64 ∨ crc32c (leBytes 64 (recPay r 0 64)) ≠ bytesOf r 20 4
          ∨ 262144 < recPay r 0 2 * recPay r 2 2 ∨ bytesOf r 32 4 ≠ recPay r 0 2 * recPay r 2 2
          ∨ s.islRead i (bytesOf r 24 8) (recPay r 0 2 * recPay r 2 2) = none) → Runs (.worldReadComplete i) s (fun t =>
        t.isle i = { x with reading := none, worldErr := min 0xFFFFFF (x.worldErr + 1) }
        ∧ t = { s with isl := t.isl, bus := t.bus } ∧ IslandsBut s t i
        ∧ (worldClean r = true → s.islHub i = true → s.islReach i (bytesOf r 24 8) (recPay r 0 2 * recPay r 2 2) = false →
            t.bus.islandRefused = s.bus.islandRefused + 1)
        ∧ (s.islReach i (bytesOf r 24 8) (recPay r 0 2 * recPay r 2 2) = true → t.bus = s.bus)))
      ∧ (∀ bs, recKind r = 0x10 → recSeq r = bytesOf r 1016 8 → recLen r = 64 →
          crc32c (leBytes 64 (recPay r 0 64)) = bytesOf r 20 4 → recPay r 48 16 = 0 → recPay r 0 2 * recPay r 2 2 ≤ 262144 →
          bytesOf r 32 4 = recPay r 0 2 * recPay r 2 2 →
          s.islRead i (bytesOf r 24 8) (recPay r 0 2 * recPay r 2 2) = some bs →
          (crc32c bs ≠ bytesOf r 36 4 → Runs (.worldReadComplete i) s (fun t =>
            t.isle i = { x with reading := none, worldErr := min 0xFFFFFF (x.worldErr + 1) } ∧ IslandOnly s t i))
          ∧ (crc32c bs = bytesOf r 36 4 → (∀ w ∈ x.worlds, w.inst < recInst r) → Runs (.worldReadComplete i) s (fun t =>
            ∃ w, (t.isle i).worlds = w :: x.worlds.take 1 ∧ w.seq = recSeq r ∧ w.inst = recInst r ∧ w.ref = recRef r
              ∧ w.cal = recCal r ∧ w.digest = leNat bs ∧ (t.isle i).reading = none ∧ (t.isle i).worldErr = x.worldErr
              ∧ IslandOnly s t i))))
    ∧ (x.reading = none → exec (.worldReadComplete i) s = .next s)
    ∧ (x.power = true → s.islHub i = true → Runs (.statusMailboxRefresh i) s (fun t =>
        t.rf (rSI_STATUS i) fSI_STATUS_STATE = x.state % 2 ^ fSI_STATUS_STATE.width
        ∧ t.rf (rSI_STATUS i) fSI_STATUS_MODE = x.mode % 2 ^ fSI_STATUS_MODE.width
        ∧ t.rf (rSI_STATUS i) fSI_STATUS_LAST_TRIP = x.lastTrip % 2 ^ fSI_STATUS_LAST_TRIP.width
        ∧ t.flag (rSI_STATUS i) fSI_STATUS_ACTIVE = x.active ∧ t.flag (rSI_STATUS i) fSI_STATUS_FAULT = !x.pinHigh
        ∧ t.flag (rSI_STATUS i) fSI_STATUS_HELD = x.held ∧ t.flag (rSI_STATUS i) fSI_STATUS_HUB_LOST = false
        ∧ (t.reg (rSI_TX_CNT i)).toNat = x.lastCounter % 2 ^ 64 ∧ (t.reg (rSI_CFG_CRC i)).toNat = s.siCrc i % 2 ^ 64
        ∧ RegsBut s t [rSI_STATUS i, rSI_CFG_CRC i, rSI_TX_CNT i, rSI_OUT_CNT i, rSI_FALL_CNT i, rSI_DIS_CNT i, rSI_AGE_CNT i, rSI_IO_CNT i]
        ∧ t = { s with regs := t.regs }))
    ∧ ((x.power = false ∨ s.islHub i = false) → exec (.statusMailboxRefresh i) s = .next s)
    ∧ (∀ p off val, off % 8 = 0 → off < 65536 → s.accepts p (rSI_STATUS i + off) →
      (s.islHub i = false → off ≠ 0x220 → Runs (.siConfigWrite p i off val) s (fun t =>
        t.did p ∧ t.flag (rSI_CFG i) fSI_CFG_CFG_REJ = true ∧ RegsBut s t [rSI_CFG i, rPM_STATUS] ∧ t.isl = s.isl ∧ t.mem = s.mem))
      ∧ (s.islHub i = true → off = 0x10 → s.flag (rSI_CFG i) fSI_CFG_LOCK = false → Runs (.siConfigWrite p i off val) s (fun t =>
        t.did p ∧ t.rf (rSI_TIMING i) fSI_TIMING_OUT_PERIOD_MS = fSI_TIMING_OUT_PERIOD_MS.get val
        ∧ t.rf (rSI_TIMING i) fSI_TIMING_TRAJ_AGE_MS = fSI_TIMING_TRAJ_AGE_MS.get val
        ∧ t.rf (rSI_TIMING i) fSI_TIMING_EFT_PERIOD_MS = max 1 (fSI_TIMING_EFT_PERIOD_MS.get val)
        ∧ RegsBut s t [rSI_TIMING i, rPM_STATUS] ∧ t.isl = s.isl ∧ t.mem = s.mem))
      ∧ (s.islHub i = true → off = 0x10 → s.flag (rSI_CFG i) fSI_CFG_LOCK = true →
          fSI_TIMING_OUT_PERIOD_MS.get val ≠ s.rf (rSI_TIMING i) fSI_TIMING_OUT_PERIOD_MS →
        Runs (.siConfigWrite p i off val) s (fun t =>
          t.did p ∧ t.reg (rSI_TIMING i) = s.reg (rSI_TIMING i) ∧ t.flag (rSI_CFG i) fSI_CFG_CFG_REJ = true
          ∧ RegsBut s t [rSI_CFG i, rPM_STATUS] ∧ t.isl = s.isl ∧ t.mem = s.mem))
      ∧ (s.islHub i = true → off = 0x308 → val.toNat % 2 = 1 → Runs (.siConfigWrite p i off val) s (fun t =>
        t.did p ∧ t.reg (rSI_OUT_CNT i) = 0 ∧ (t.isle i).passCnt = 0 ∧ (t.isle i).heldCnt = 0
        ∧ RegsBut s t [rSI_OUT_CNT i, rPM_STATUS] ∧ IslandsBut s t i ∧ t.mem = s.mem)))
    ∧ (∀ cmd, x.power = true → Runs (.spiStatusRead i cmd) s (fun t =>
        t = { s with sent := t.sent }
        ∧ (cmd ≠ 0x0B → t.sent = .spi (2 + i) (leBytes 32 0) :: s.sent)
        ∧ (cmd = 0x0B → ∃ f, t.sent = .spi (2 + i) f :: s.sent ∧ f.length = 32 ∧ (f.getD 2 0).toNat = x.lastTrip % 256
            ∧ (f.getD 1 0).toNat = x.role % 256 ∧ leNat ((f.drop 4).take 8) = x.lastCounter % 2 ^ 64
            ∧ leNat ((f.drop 12).take 8) = s.islTime i % 2 ^ 64
            ∧ (x.state < 8 → x.mode < 4 → (f.getD 0 0).toNat = x.state + 8 * x.mode + 64 * bit x.active + 128 * bit !x.pinHigh)
            ∧ leNat (f.drop 28) = crc32c (f.take 28))))
    ∧ (x.running = true →
      (∀ ctl data, ctl ≤ 3 →
        Runs (.canReceive i ctl true true data) s (fun t => t.isle i = { x with mailbox := (ctl, data) :: x.mailbox } ∧ IslandOnly s t i)
        ∧ Runs (.canReceive i ctl true false data) s (fun t =>
            t.isle i = { x with rxDrops := min 0xFFFFFF (x.rxDrops + 1) } ∧ IslandOnly s t i)
        ∧ ∀ room, exec (.canReceive i ctl false room data) s = .next s)
      ∧ Runs (.islandEthReceive i) s (fun t => t.isle i = { x with rxDrops := min 0xFFFFFF (x.rxDrops + 1) } ∧ IslandOnly s t i))
    ∧ (∀ ctl, ctl ≤ 3 → x.power = true → x.txs.length = 5 →
      ((s.islTx i ctl).busOff = false → Runs (.canBusOff i ctl) s (fun t =>
        (t.islTx i ctl).busOff = true ∧ (t.islTx i ctl).tx = none ∧ (t.islTx i ctl).waiting = none
        ∧ (t.isle i).busOffs = min 0xFFFFFF (x.busOffs + 1) ∧ (∀ c, c ≠ ctl → t.islTx i c = s.islTx i c) ∧ IslandOnly s t i))
      ∧ Runs (.canBusOffRecovery i ctl) s (fun t =>
        (t.islTx i ctl).busOff = false ∧ (∀ c, c ≠ ctl → t.islTx i c = s.islTx i c) ∧ IslandOnly s t i))

/-- A whole message of an island stands on the transmitters it goes to: those that were free send it, the others hold it
waiting. -/
def Sys2Proof.Machine.MessageOut (s t : State) (i kind : Nat) : Prop :=
  ∃ m, (∀ c ∈ s.txOf i, ((s.islTx i c).tx = none → (t.islTx i c).tx = some m)
      ∧ ((s.islTx i c).tx ≠ none → (t.islTx i c).tx = (s.islTx i c).tx ∧ ((t.islTx i c).waiting.map (·.msg)) = some m))
    ∧ bytesOf m 0 1 = 1 ∧ bytesOf m 1 1 = kind ∧ bytesOf m 5 1 = i ∧ bytesOf m 8 8 = (s.isle i).counter
    ∧ bytesOf m 16 8 = s.islTime i ∧ bytesOf m 1020 4 = crc32c (leBytes 1020 m)

/-- R338 to R344 and R353: an island takes a newer trajectory, judges it by the ordered checks, sends what passes, withholds
what does not, latches Eft after N_DIS disagreements in a row, computes its fallback each period, and clears the latch at
standstill.
[Model choices: log entries 74, 75, 76.] -/
def Obligations.IslandsJudgeTrajectories : Prop :=
  ∀ (s : State) (i : Nat) (x : Island), i < 2 → s.isl.length = 2 → x = s.isle i → x.power = true →
    (∀ sl rest, sl = s.rf (rSI_CFG i) fSI_CFG_TRAJ_SLOT → takeNotice i sl s.hub.notices = some rest → x.rom = false →
        isNOTREADY ≤ x.state → x.state ≤ isREADY → s.islHub i = true →
      (x.judging = none → (∀ n, x.lastSeq = some n → n < recSeq (s.slotRec sl)) → Runs (.trajectoryNotice i) s (fun t =>
        (t.isle i).judging = some (s.slotRec sl, false) ∧ t.hub.notices = rest ∧ t.regs = s.regs ∧ IslandsBut s t i ∧ t.mem = s.mem))
      ∧ (∀ p, x.judging = some p → recSeq (s.slotRec sl) ≤ recSeq p.1 → Runs (.trajectoryNotice i) s (fun t =>
        (t.isle i).judging = x.judging ∧ t.hub.notices = rest ∧ t.regs = s.regs ∧ IslandsBut s t i ∧ t.mem = s.mem)))
    ∧ (x.judging = none → exec (.trajectoryReadComplete i) s = .next s)
    ∧ (∀ r v, x.judging = some (r, false) → v = s.verdict i r →
      (recordOk r = false → v.reason = 1) ∧ (recordOk r = true → s.readManifest i r = none → v.reason = 2)
      ∧ (∀ m, recordOk r = true → s.readManifest i r = some m →
          ((manifestOk r m && x.lineageOk r) = false → v.reason = 2)
          ∧ ((manifestOk r m && x.lineageOk r) = true → s.critical i m = true → v.reason = 3)
          ∧ ((manifestOk r m && x.lineageOk r) = true → s.critical i m = false → s.trajOld i r = true → v.reason = 4)
          ∧ ((manifestOk r m && x.lineageOk r) = true → s.critical i m = false → s.trajOld i r = false → recKind r = 3 → v.reason = 5))
      ∧ (v.reason = 0 → x.state = isREADY → Runs (.trajectoryReadComplete i) s (fun t =>
        (t.isle i).judging = none ∧ (t.isle i).lastSeq = some (recSeq r) ∧ (t.isle i).disRun = 0 ∧ (t.isle i).passes = x.passes + 1
        ∧ (t.isle i).passCnt = min 0xFFFFFF (x.passCnt + 1) ∧ (t.isle i).heldCnt = x.heldCnt
        ∧ (x.latched = false → ∃ d k, (t.isle i).due = some d ∧ d.kind = 1 ∧ d.traj = some k ∧ k.rec' = r ∧ (t.isle i).kept = some k)
        ∧ (x.latched = true → (t.isle i).due = some { kind := 3, reason := 10 }) ∧ IslandOnly s t i))
      ∧ ((v.reason = 6 ∨ v.reason = 7) → x.state = isREADY → x.latched = false → Runs (.trajectoryReadComplete i) s (fun t =>
        (t.isle i).disRun = x.disRun + 1 ∧ (t.isle i).passes = 0 ∧ (t.isle i).disagrees = min 0xFFFFFF (x.disagrees + 1)
        ∧ (t.isle i).heldCnt = min 0xFFFFFF (x.heldCnt + 1) ∧ (t.isle i).kept = x.kept
        ∧ (s.rf (rSI_CFG i) fSI_CFG_N_DIS ≤ x.disRun + 1 →
            (t.isle i).latched = true ∧ (t.isle i).due = some { kind := 3, reason := 10 } ∧ (t.isle i).efts = min 0xFFFFFF (x.efts + 1))
        ∧ (x.disRun + 1 < s.rf (rSI_CFG i) fSI_CFG_N_DIS → (t.isle i).latched = false
            ∧ ∃ d, (t.isle i).due = some d ∧ (d.kind = 2 ∨ d.kind = 3) ∧ d.reason = v.reason)
        ∧ IslandOnly s t i))
      ∧ (v.reason = 5 → x.state = isREADY → Runs (.trajectoryReadComplete i) s (fun t =>
        (t.isle i).due = some { kind := 3, reason := if x.latched then 10 else 5 } ∧ (t.isle i).disRun = x.disRun
        ∧ (t.isle i).heldCnt = x.heldCnt ∧ IslandOnly s t i))
      ∧ (1 ≤ v.reason → v.reason ≤ 4 → x.state = isREADY → x.latched = false → x.disRun < s.rf (rSI_CFG i) fSI_CFG_N_DIS →
        Runs (.trajectoryReadComplete i) s (fun t =>
          (t.isle i).disRun = x.disRun ∧ (t.isle i).heldCnt = min 0xFFFFFF (x.heldCnt + 1) ∧ (t.isle i).latched = false
          ∧ (∃ d, (t.isle i).due = some d ∧ (d.kind = 2 ∨ d.kind = 3) ∧ d.reason = v.reason)
          ∧ t = { s with isl := t.isl, bus := t.bus } ∧ IslandsBut s t i
          ∧ (recordOk r = true → s.islHub i = true → s.islReach i (bytesOf r 80 8) 64 = false →
              t.bus.islandRefused = s.bus.islandRefused + 1)))
      ∧ (v.reason ≠ 0 → v.reason ≠ 5 → x.state ≠ isREADY → Runs (.trajectoryReadComplete i) s (fun t =>
        (t.isle i).due = x.due ∧ (t.isle i).state = x.state ∧ (t.isle i).heldCnt = min 0xFFFFFF (x.heldCnt + 1)
        ∧ t = { s with isl := t.isl, bus := t.bus } ∧ IslandsBut s t i)))
    ∧ (x.running = true → x.rom = false →
      x.eftAt + s.rf (rSI_TIMING i) fSI_TIMING_EFT_PERIOD_MS * 1000000 ≤ s.islTime i →
      (x.base = none → Runs (.eftRun i) s (fun t => t.isle i = { x with eft := none, eftAt := s.islTime i } ∧ IslandOnly s t i))
      ∧ (∀ b, x.base = some b → (∀ e, x.eft = some e → e.sent = false ∨ recSeq e.base.rec' ≠ recSeq b.rec') →
        Runs (.eftRun i) s (fun t => ∃ e, t.isle i = { x with eft := some e, eftAt := s.islTime i } ∧ e.base = b ∧ e.sent = false
          ∧ (e.bad = false → (s.eftJudge i b.world e).2 = true) ∧ IslandOnly s t i))
      ∧ (∀ b e, x.base = some b → x.eft = some e → e.sent = true → recSeq e.base.rec' = recSeq b.rec' →
        Runs (.eftRun i) s (fun t => t.isle i = { x with eftAt := s.islTime i } ∧ IslandOnly s t i)))
    ∧ (s.islTime i < x.eftAt + s.rf (rSI_TIMING i) fSI_TIMING_EFT_PERIOD_MS * 1000000 → exec (.eftRun i) s = .next s)
    ∧ (∀ e, x.eft = some e → x.running = true → x.latched = true →
      (e.endTime ≤ s.islTime i → s.rf (rSI_CFG i) fSI_CFG_RECOVER_N ≤ x.passes → Runs (.eftClear i) s (fun t =>
        t.isle i = { x with latched := false } ∧ IslandOnly s t i))
      ∧ ((s.islTime i < e.endTime ∨ x.passes < s.rf (rSI_CFG i) fSI_CFG_RECOVER_N) → exec (.eftClear i) s = .next s))

/-- R330, R331, R341, R345, R346, R349 to R352, R356 and R443: due messages go out with their counter and CRC, the transmit
monitor trips on a difference, a late output falls back, and the cross-link words decide which island is ACTIVE.
[Model choices: log entries 9, 73, 77, 78, 79.] -/
def Obligations.IslandsTransmitAndTakeOver : Prop :=
  ∀ (s : State) (i : Nat) (x : Island), i < 2 → s.isl.length = 2 → x = s.isle i → x.power = true → x.txs.length = 5 →
    x.counter < 2 ^ 64 →
    (x.due = none → exec (.messageTransmit i) s = .next s)
    ∧ (∀ d, x.due = some d →
      (x.state = isREADY → s.islMay i = true → s.txOf i ≠ [] →
        (∀ k w, d.kind = 1 → d.traj = some k → d.world = some w →
          (s.trajOld i k.rec' = false → s.worldOld i w.ref = false → Runs (.messageTransmit i) s (fun t =>
            MessageOut s t i 1 ∧ (t.isle i).counter = (x.counter + 1) % 2 ^ 64 ∧ (t.isle i).due = none
            ∧ (t.isle i).lastMsg = some (s.islTime i) ∧ (t.isle i).base = some { k with sent := true }
            ∧ IslandsBut s t i ∧ RegsTraced s t [] ∧ t.mem = s.mem))
          ∧ ((s.trajOld i k.rec' = true ∨ s.worldOld i w.ref = true) → Runs (.messageTransmit i) s (fun t =>
            (∃ kind, (kind = 2 ∨ kind = 3 ∨ kind = 4) ∧ MessageOut s t i kind) ∧ (t.isle i).counter = (x.counter + 1) % 2 ^ 64
            ∧ (t.isle i).heldCnt = min 0xFFFFFF (x.heldCnt + 1) ∧ (t.isle i).due = none ∧ (t.isle i).base = x.base
            ∧ (t.isle i).lastMsg = some (s.islTime i) ∧ IslandsBut s t i ∧ RegsTraced s t [] ∧ t.mem = s.mem)))
        ∧ (∀ e, d.kind = 3 → x.eft = some e → Runs (.messageTransmit i) s (fun t =>
          MessageOut s t i 3 ∧ (t.isle i).counter = (x.counter + 1) % 2 ^ 64 ∧ (t.isle i).eft = some { e with sent := true }
          ∧ (t.isle i).base = x.base ∧ IslandsBut s t i ∧ RegsTraced s t [] ∧ t.mem = s.mem))
        ∧ (d.kind = 3 → x.eft = none → Runs (.messageTransmit i) s (fun t =>
          MessageOut s t i 4 ∧ (t.isle i).counter = (x.counter + 1) % 2 ^ 64 ∧ IslandsBut s t i ∧ RegsTraced s t [] ∧ t.mem = s.mem)))
      ∧ ((x.state ≠ isREADY ∨ s.islMay i = false) → Runs (.messageTransmit i) s (fun t =>
        t.isle i = { x with due := none } ∧ IslandOnly s t i)))
    ∧ (∀ c m, c ≤ 4 → (s.islTx i c).tx = some m →
      (x.state ≠ isFAULT → Runs (.messageTransmitComplete i c false) s (fun t =>
        (t.isle i).state = isFAULT ∧ (t.isle i).lastTrip = 7 ∧ IslandsBut s t i ∧ RegsTraced s t [] ∧ t.mem = s.mem))
      ∧ ((s.islTx i c).waiting = none → Runs (.messageTransmitComplete i c true) s (fun t =>
        (t.islTx i c).tx = none ∧ (∀ k, k ≠ c → t.islTx i k = s.islTx i k) ∧ IslandOnly s t i))
      ∧ (∀ n, (s.islTx i c).waiting = some n →
        (s.waitOld i n = false → Runs (.messageTransmitComplete i c true) s (fun t =>
          (∃ v, (t.islTx i c).tx = some v ∧ bytesOf v 0 16 = bytesOf n.msg 0 16 ∧ bytesOf v 16 8 = s.islTime i % 2 ^ 64
            ∧ bytesOf v 24 968 = bytesOf n.msg 24 968 ∧ bytesOf v 1020 4 = crc32c (leBytes 1020 v)
            ∧ (∀ p, n.ages = some p → bytesOf v 992 4 = ageUs (s.islTime i) p.1 ∧ bytesOf v 996 4 = ageUs (s.islTime i) p.2))
          ∧ (t.islTx i c).waiting = none ∧ t.sent.length = s.sent.length + 1
          ∧ (∀ k, k ≠ c → t.islTx i k = s.islTx i k) ∧ IslandsBut s t i ∧ t.regs = s.regs ∧ t.mem = s.mem))
        ∧ (s.waitOld i n = true → Runs (.messageTransmitComplete i c true) s (fun t =>
          (t.islTx i c).tx = none ∧ (t.islTx i c).waiting = none ∧ t.sent = s.sent
          ∧ (∀ k, k ≠ c → (t.islTx i k).tx = (s.islTx i k).tx ∧ (t.islTx i k).waiting ≠ some n)
          ∧ (∃ e, (t.isle i).due = some e ∧ (e.kind = 2 ∨ e.kind = 3)) ∧ IslandOnly s t i))))
    ∧ (∀ c same, (s.islTx i c).tx = none → exec (.messageTransmitComplete i c same) s = .next s)
    ∧ (x.state = isNOTREADY →
      ((x.kept = none ∨ s.sh.tad.on = true) → (x.lastMsg = none ∨ x.lastOut + s.outPeriod i ≤ s.islTime i) → s.txOf i ≠ [] →
        Runs (.notReadyMessage i) s (fun t =>
          MessageOut s t i 4 ∧ (t.isle i).state = isNOTREADY ∧ (t.isle i).counter = (x.counter + 1) % 2 ^ 64
          ∧ (t.isle i).lastMsg = some (s.islTime i) ∧ IslandsBut s t i ∧ RegsTraced s t [] ∧ t.mem = s.mem))
      ∧ ((x.kept = none ∨ s.sh.tad.on = true) → x.lastMsg ≠ none → s.islTime i < x.lastOut + s.outPeriod i → exec (.notReadyMessage i) s = .next s)
      ∧ (∀ k, x.kept = some k → x.rom = false → s.flag (rSI_CFG i) fSI_CFG_LOCK = true → x.mode ≠ imSPLIT → x.limOk = true →
          s.sh.tad.on = false → s.trajOld i k.rec' = false → x.latched = false → Runs (.notReadyMessage i) s (fun t =>
        (t.isle i).state = isREADY ∧ (∃ d, (t.isle i).due = some d ∧ d.kind = 1 ∧ d.traj = some k) ∧ IslandOnly s t i)))
    ∧ (x.state = isREADY →
      (s.islTime i < x.lastOut + s.outPeriod i → exec (.outputTimeout i) s = .next s)
      ∧ (s.islHub i = true → x.lastOut + s.outPeriod i + s.rf (rSI_TIMING i) fSI_TIMING_OUT_GRACE_MS * 1000000 ≤ s.islTime i →
          x.latched = false → Runs (.outputTimeout i) s (fun t =>
        (t.isle i).timeouts = min 0xFFFFFF (x.timeouts + 1)
        ∧ (∃ d, (t.isle i).due = some d ∧ (d.kind = 2 ∨ d.kind = 3) ∧ d.reason = 8) ∧ IslandOnly s t i))
      ∧ (s.islHub i = false → x.lastOut + s.outPeriod i ≤ s.islTime i → x.latched = false → Runs (.outputTimeout i) s (fun t =>
        (t.isle i).timeouts = x.timeouts
        ∧ (∃ d, (t.isle i).due = some d ∧ (d.kind = 2 ∨ d.kind = 3) ∧ d.reason = 9) ∧ IslandOnly s t i))
      ∧ (x.debugged = false → Runs (.crosslinkHeartbeatSend i) s (fun t =>
        t.sent = .xlink i (hbWord x.hbSeq (bit x.active) (bit (s.islHub i)) x.mode x.state) :: s.sent
        ∧ t.isle i = { x with hbSeq := (x.hbSeq + 1) % 16 } ∧ IslandsBut s t i ∧ t.regs = s.regs ∧ t.mem = s.mem))
      ∧ (x.debugged = true → exec (.crosslinkHeartbeatSend i) s = .next s)
      ∧ (x.xlinkLost = true → x.active = true → exec (.crosslinkSilence i) s = .next s)
      ∧ ((x.xlinkLost = false ∨ x.active = false) →
        (s.islTime i < x.heardAt + 610000 → exec (.crosslinkSilence i) s = .next s)
        ∧ (x.heardAt + 610000 ≤ s.islTime i → Runs (.crosslinkSilence i) s (fun t =>
          (t.isle i).xlinkLost = true ∧ (t.isle i).active = true
          ∧ (x.active = true → t.isle i = { x with xlinkLost := true }) ∧ (x.active = false → (t.isle i).due ≠ none)
          ∧ IslandsBut s t i ∧ t.regs = s.regs ∧ t.mem = s.mem))))
    ∧ (∀ word v, v = word / 32 % 2048 →
      ((crc5 v ≠ word % 32 ∨ x.heardSeq = some (v / 128)) → exec (.crosslinkWord i word) s = .next s)
      ∧ (crc5 v = word % 32 → x.heardSeq ≠ some (v / 128) → x.state = isREADY →
        (x.active = false → v % 8 ≠ isREADY → v / 64 % 2 = 0 → Runs (.crosslinkWord i word) s (fun t =>
          (t.isle i).active = true ∧ (t.isle i).heardAt = s.islTime i ∧ (t.isle i).due ≠ none ∧ t.regs = s.regs ∧ t.mem = s.mem))
        ∧ (x.active = false → v % 8 = isREADY → v / 32 % 2 = 0 → s.islHub i = true → 1 ≤ x.hubZero →
          Runs (.crosslinkWord i word) s (fun t =>
            (t.isle i).active = true ∧ (t.isle (1 - i)).active = false ∧ (t.isle i).heardAt = s.islTime i ∧ (t.isle i).due ≠ none
            ∧ t.regs = s.regs ∧ t.mem = s.mem))
        ∧ (x.active = false → v % 8 = isREADY → v / 32 % 2 = 1 → v / 64 % 2 = 1 → Runs (.crosslinkWord i word) s (fun t =>
          (t.isle i).active = false ∧ (t.isle i).heardAt = s.islTime i ∧ (t.isle i).heardSeq = some (v / 128)
          ∧ (t.isle i).xlinkLost = false ∧ (t.isle i).due = x.due ∧ IslandOnly s t i))
        ∧ (x.active = true → v / 64 % 2 = 1 → 1 ≤ x.bothOn → Runs (.crosslinkWord i word) s (fun t =>
          (t.isle i).active = decide (i = 0) ∧ (t.isle i).heardAt = s.islTime i ∧ IslandOnly s t i))
        ∧ (x.active = true → v / 64 % 2 = 0 → Runs (.crosslinkWord i word) s (fun t =>
          (t.isle i).active = true ∧ (t.isle i).bothOn = 0 ∧ (t.isle i).xlinkLost = false ∧ IslandOnly s t i))))

/-! ## Power -/

/-- A power request while a transition runs is refused with CFG_REJ. -/
def Sys2Proof.Machine.PowerBusy (s : State) (p : Port) (t : State) : Prop :=
  t.did p ∧ t.flag rPM_STATUS fPM_STATUS_CFG_REJ = true ∧ t.pw = s.pw ∧ RegsBut s t [rPM_STATUS] ∧ t.mem = s.mem

/-- A power request of a target is refused: every refuser that holds is counted, and the lowest is named (R379, R387). -/
def Sys2Proof.Machine.PowerRefused (s : State) (p : Port) (busy : Option Nat) (target : Nat) (t : State) : Prop :=
  t.did p ∧ t.pw = s.pw ∧ t.rf rPM_REF_INFO fPM_REF_INFO_KIND = 1 ∧ t.rf rPM_REF_INFO fPM_REF_INFO_TARGET = target
  ∧ (∀ h, (s.refusers busy).head? = some h → t.rf rPM_REF_INFO fPM_REF_INFO_REFUSER = h.1)
  ∧ t.rf rPM_REF_LAST fPM_REF_LAST_DTIME = s.dtime
  ∧ (∀ h ∈ s.refusers busy, Counted s t (rPM_REF_CNT (h.1 - 1)) fPM_REF_CNT_REFUSED 1)
  ∧ RegsBut s t ([rPM_STATUS, rPM_REF_LAST, rPM_REF_INFO] ++ (List.range 9).map rPM_REF_CNT) ∧ t.mem = s.mem

/-- A power request of a target starts its entry (Table 17.6 step 1). -/
def Sys2Proof.Machine.PowerStarts (s : State) (p : Port) (target : Nat) (t : State) : Prop :=
  t.did p ∧ t.powerState = 2 ∧ t.flag rPM_STATUS fPM_STATUS_BUSY = true ∧ t.pw.target = target ∧ t.pw.phase = 1
  ∧ t.pw.forced = false ∧ t.pw.since = s.dtime ∧ t.flag rHUB_IRQ_STATUS ⟨irqPM, irqPM⟩ = true
  ∧ RegsBut s t [rPM_STATUS, rHUB_IRQ_STATUS] ∧ t.mem = s.mem

/-- A wake source, bit `n` of SOURCE, begins the exit (R382). -/
def Sys2Proof.Machine.WakeBegins (s : State) (n : Nat) (t : State) : Prop :=
  t.powerState = 5 ∧ t.flag rPM_STATUS fPM_STATUS_BUSY = true ∧ t.rf rPM_WAKE_CAUSE fPM_WAKE_CAUSE_SOURCE = 2 ^ n
  ∧ t.rf rPM_WAKE_DTIME fPM_WAKE_DTIME_DTIME = s.dtime
  ∧ (∀ d, d < 4 → s.diePower d = 2 → (s.rf rPM_CTRL fPM_CTRL_DIE_RETAIN).testBit d = false → t.diePower d = 3)
  ∧ ∀ c, c < 64 → s.mcState c = mcSELF → t.mcState c = mcONLINE

/-- A wake source behind the commit point of an entry is held. -/
def Sys2Proof.Machine.WakeHeld (s : State) (n : Nat) (t : State) : Prop :=
  t.pw = { s.pw with held := Nat.lor s.pw.held (2 ^ n) } ∧ t = { s with pw := t.pw }

/-- The part is in RETAIN or BRUMATION, and no sampler run is under way. -/
abbrev Sys2Proof.Machine.State.mayWake (s : State) : Prop :=
  s.asleep = true ∧ s.pw.phase = 0 ∧ s.pw.run = none

/-- An entry was aborted: the part is back in RUN and the abort is recorded. -/
def Sys2Proof.Machine.EntryAborted (t : State) : Prop :=
  t.powerState = 0 ∧ t.pw.phase = 0 ∧ t.flag rPM_STATUS fPM_STATUS_BUSY = false ∧ t.rf rPM_REF_INFO fPM_REF_INFO_KIND = 2
  ∧ ∀ h ∈ t.harts, h.parked = false

/-- R377, R379 to R383 and R413 to R416: IDLE follows a quiet time; a request is refused with its refusers counted, or starts an
entry that runs through parking, self-test and commit and that a refuser or a wake aborts; a wake brings the part back.
[Model choices: log entries 9, 80, 81, 85.] -/
def Obligations.PowerStatesAreEnteredAndLeft : Prop :=
  ∀ (s : State),
    (∀ us, s.powerState = 0 → s.pw.phase = 0 → s.aon.off = false →
      (s.mayIdle = true → s.rf rPM_GATE_CFG fPM_GATE_CFG_IDLE_DELAY_US ≤ us → Runs (.idleEntry us) s (fun t =>
        t.powerState = 1 ∧ (∀ d, d < 4 → s.diePower d = 0 → t.diePower d = 1) ∧ RegsBut s t [rPM_STATUS] ∧ t = { s with regs := t.regs }))
      ∧ ((s.mayIdle = false ∨ us < s.rf rPM_GATE_CFG fPM_GATE_CFG_IDLE_DELAY_US) → exec (.idleEntry us) s = .next s))
    ∧ (∀ p busy, s.accepts p rPM_CTRL →
      (s.flag rPM_STATUS fPM_STATUS_BUSY = true → Runs (.powerRequestRetain p busy) s (PowerBusy s p)
        ∧ Runs (.powerRequestBrumation p busy) s (PowerBusy s p) ∧ Runs (.powerRequestOff p busy) s (PowerBusy s p))
      ∧ (s.flag rPM_STATUS fPM_STATUS_BUSY = false → s.refusers busy ≠ [] →
        Runs (.powerRequestRetain p busy) s (PowerRefused s p busy 1) ∧ Runs (.powerRequestBrumation p busy) s (PowerRefused s p busy 2)
        ∧ Runs (.powerRequestOff p busy) s (PowerRefused s p busy 3))
      ∧ (s.flag rPM_STATUS fPM_STATUS_BUSY = false → s.refusers busy = [] →
        Runs (.powerRequestRetain p busy) s (PowerStarts s p 1) ∧ Runs (.powerRequestBrumation p busy) s (PowerStarts s p 2)
        ∧ Runs (.powerRequestOff p busy) s (PowerStarts s p 3)))
    ∧ (∀ p, s.accepts p rPM_CTRL → s.flag rPM_STATUS fPM_STATUS_BUSY = false →
      ((∃ h ∈ s.refusers none, h.1 = 3) → Runs (.forcedOff p) s (fun t =>
        t.did p ∧ t.pw = s.pw ∧ t.rf rPM_REF_INFO fPM_REF_INFO_KIND = 1
        ∧ (∀ h ∈ s.refusers none, Counted s t (rPM_REF_CNT (h.1 - 1)) fPM_REF_CNT_REFUSED 1)))
      ∧ ((∀ h ∈ s.refusers none, h.1 ≠ 3) → Runs (.forcedOff p) s (fun t =>
        t.did p ∧ t.powerState = 2 ∧ t.pw.target = 3 ∧ t.pw.phase = 1 ∧ t.pw.forced = true
        ∧ t.rf rPM_REF_INFO fPM_REF_INFO_KIND = 3 ∧ Counted s t rPM_FORCE_CNT fPM_FORCE_CNT_FORCED 1
        ∧ ∀ c, c < 64 → t.ctxState c ≠ 1)))
    ∧ (∀ h, s.pw.phase = 1 → h < 16 → s.harts.length = 16 →
      (s.entryRefusers ≠ [] → Runs (.hartWfi h) s EntryAborted)
      ∧ (s.entryRefusers = [] →
        ((∀ k, k < 16 → k ≠ h → (s.harts[k]?.getD {}).parked = true ∨ (s.harts[k]?.getD {}).inReset = true) →
          Runs (.hartWfi h) s (fun t => (t.harts[h]?.getD {}).parked = true
            ∧ t.pw.phase = (if s.flag rPM_CTRL fPM_CTRL_BIST then 2 else 3) ∧ t.powerState = s.powerState))
        ∧ ((∃ k, k < 16 ∧ k ≠ h ∧ (s.harts[k]?.getD {}).parked = false ∧ (s.harts[k]?.getD {}).inReset = false) →
          Runs (.hartWfi h) s (fun t => (t.harts[h]?.getD {}).parked = true ∧ t = { s with harts := t.harts }))))
    ∧ (s.pw.phase = 1 → s.pw.forced = false → (s.unparked).isSome = true →
      (s.pw.since + s.rf rPM_CTRL fPM_CTRL_PARK_US * 1000 ≤ s.dtime → Runs .hartParkDeadline s (fun t =>
        EntryAborted t ∧ Counted s t (rPM_REF_CNT 7) fPM_REF_CNT_ABORTED 1))
      ∧ (s.dtime < s.pw.since + s.rf rPM_CTRL fPM_CTRL_PARK_US * 1000 → exec .hartParkDeadline s = .next s))
    ∧ (∀ fails hbm us, s.pw.phase = 2 →
      (s.entryRefusers = [] → Runs (.shutdownSelfTestComplete fails hbm us) s (fun t =>
        t.pw.phase = 3 ∧ t.pw.fails = fails ∧ t.pw.hbmBad = (if s.pw.target = 3 then hbm.take 64 else [])
        ∧ t.rf rPM_BIST_STAT fPM_BIST_STAT_KIND = (if s.pw.target = 3 then 3 else 2)
        ∧ t.rf rPM_BIST_STAT fPM_BIST_STAT_DURATION_US = us % 2 ^ 32
        ∧ (fails = [] → hbm = [] → t.rf rPM_BIST_STAT fPM_BIST_STAT_RESULT = 0 ∧ t.rf rPM_BIST_STAT fPM_BIST_STAT_GROUP_FAIL = 0)
        ∧ (∀ i, (1, i) ∈ fails → t.rf rPM_BIST_STAT fPM_BIST_STAT_RESULT = 1)))
      ∧ (s.entryRefusers ≠ [] → Runs (.shutdownSelfTestComplete fails hbm us) s EntryAborted))
    ∧ (s.pw.phase = 3 → s.tests.length = 184 →
      (s.entryRefusers = [] → Runs .powerEntryCommit s (fun t =>
        t.pw.phase = 4 ∧ (∀ e, e < 184 → (t.unitTest e).running = false) ∧ t.powerState = s.powerState ∧ t.harts = s.harts))
      ∧ (s.entryRefusers ≠ [] → Runs .powerEntryCommit s EntryAborted))
    ∧ (∀ line level, line < 16 → (s.rf rPM_WAKE_CFG fPM_WAKE_CFG_GPIO_MASK).testBit line = true →
        (s.rf rPM_WAKE_CFG fPM_WAKE_CFG_GPIO_POL).testBit line = (!level) →
      (s.mayWake → Runs (.gpioWake line level) s (WakeBegins s 0))
      ∧ (s.pw.phase = 4 → Runs (.gpioWake line level) s (WakeHeld s 0))
      ∧ (1 ≤ s.pw.phase → s.pw.phase ≤ 3 → s.pw.forced = false → Runs (.gpioWake line level) s EntryAborted)
      ∧ (1 ≤ s.pw.phase → s.pw.phase ≤ 3 → s.pw.forced = true → exec (.gpioWake line level) s = .next s))
    ∧ (∀ i, (s.isle i).power = true → s.flag rPM_WAKE_CFG fPM_WAKE_CFG_ISLAND_EN = true →
      (s.mayWake → Runs (.islandWakeRequest i) s (WakeBegins s 3))
      ∧ (s.pw.phase = 4 → Runs (.islandWakeRequest i) s (WakeHeld s 3))
      ∧ (1 ≤ s.pw.phase → s.pw.phase ≤ 3 → s.pw.forced = false → Runs (.islandWakeRequest i) s EntryAborted))
    ∧ (∀ i, ((s.isle i).power = false ∨ s.flag rPM_WAKE_CFG fPM_WAKE_CFG_ISLAND_EN = false) →
        exec (.islandWakeRequest i) s = .next s)
    ∧ (s.mayWake → s.flag rPM_WAKE_CFG fPM_WAKE_CFG_TIMER_EN = true →
      (s.pw.endedAt + s.rf rPM_WAKE_TIMER fPM_WAKE_TIMER_TIMER_MS * 1000000 ≤ s.dtime → Runs .wakeTimer s (WakeBegins s 1))
      ∧ (s.dtime < s.pw.endedAt + s.rf rPM_WAKE_TIMER fPM_WAKE_TIMER_TIMER_MS * 1000000 → exec .wakeTimer s = .next s))
    ∧ (∀ line level, (s.rf rPM_WAKE_CFG fPM_WAKE_CFG_GPIO_MASK).testBit line = false → exec (.gpioWake line level) s = .next s)
    ∧ (s.mcQuiet = false → exec .powerEntryComplete s = .next s)
    ∧ (s.pw.phase = 4 → s.mcQuiet = true →
      (s.pw.target = 3 → Runs .powerEntryComplete s (fun t =>
        t.aon.off = true ∧ t.aon.pgood = false ∧ t.aon.budget = s.rf rPM_BIST_CFG fPM_BIST_CFG_BUDGET_W ∧ t.mem = {}
        ∧ t.fuses = s.fuses ∧ t.isl = s.isl ∧ t.flash.cells = s.flash.cells))
      ∧ (∀ k, s.pw.target = k → (k = 1 ∨ k = 2) → s.pw.held = 0 → Runs .powerEntryComplete s (fun t =>
        t.powerState = k + 2 ∧ t.flag rPM_STATUS fPM_STATUS_BUSY = false ∧ t.pw.phase = 0 ∧ t.pw.endedAt = s.dtime
        ∧ (∀ d, d < 4 → s.dieState d = 0 → t.diePower d = 2) ∧ (∀ l, l < 4 → t.dlState l = dlDOWN)))
      ∧ (∀ k, s.pw.target = k → (k = 1 ∨ k = 2) → s.pw.held ≠ 0 → Runs .powerEntryComplete s (fun t =>
        t.powerState = 5 ∧ t.rf rPM_WAKE_CAUSE fPM_WAKE_CAUSE_SOURCE = s.pw.held % 16)))
    ∧ (s.powerState = 5 →
      (s.exitReady = true → Runs .powerExitComplete s (fun t =>
        t.powerState = 0 ∧ t.flag rPM_STATUS fPM_STATUS_BUSY = false ∧ t.pw.phase = 0 ∧ t.flag rHUB_IRQ_STATUS ⟨irqPM, irqPM⟩ = true
        ∧ ∀ d, d < 4 → s.diePower d = 3 → t.diePower d = 0))
      ∧ (s.exitReady = false → exec .powerExitComplete s = .next s))

/-- R372 to R376, R378 and R384 to R386: one die is retained and comes back; clock levels are limited and follow the slower
limit; free units are gated; a lost clock or supply takes what hangs on it; the Brumation sampler measures, counts and wakes.
[Model choices: log entries 9, 82, 83, 84.] -/
def Obligations.DiesClocksSuppliesAndSampler : Prop :=
  ∀ (s : State),
    (∀ p d, d < 4 → s.accepts p rPM_CTRL →
      (s.flag rPM_STATUS fPM_STATUS_BUSY = true → Runs (.dieRetainEntry p d) s (fun t => PowerBusy s p t ∧ t.diePower d = s.diePower d))
      ∧ (s.flag rPM_STATUS fPM_STATUS_BUSY = false → s.diePresent d = true → s.diePower d < 2 → s.dieRefusers d = [] →
        Runs (.dieRetainEntry p d) s (fun t =>
        t.did p ∧ t.diePower d = 2 ∧ t.flag rPM_CTRL (dieRetainFld d) = true ∧ t.connState (skHubConn d) = skDOWN))
      ∧ (s.flag rPM_STATUS fPM_STATUS_BUSY = false → s.diePresent d = true → s.diePower d < 2 → s.dieRefusers d ≠ [] →
          Runs (.dieRetainEntry p d) s (fun t =>
        t.did p ∧ t.rf rPM_REF_INFO fPM_REF_INFO_KIND = 1 ∧ t.rf rPM_REF_INFO fPM_REF_INFO_TARGET = 4 + d
        ∧ t.flag rPM_CTRL (dieRetainFld d) = s.flag rPM_CTRL (dieRetainFld d) ∧ t.diePower d < 2 ∧ t.mem = s.mem))
      ∧ (s.diePresent d = false → Runs (.dieRetainEntry p d) s (fun t => t.did p ∧ t.pw = s.pw ∧ RegsBut s t [rPM_STATUS] ∧ t.mem = s.mem))
      ∧ Runs (.dieRetainExit p d) s (fun t =>
        t.did p ∧ t.flag rPM_CTRL (dieRetainFld d) = false ∧ (s.diePower d = 2 → t.diePower d = 3)
        ∧ RegsBut s t [rPM_CTRL, rPM_STATUS] ∧ t.mem = s.mem))
    ∧ (∀ p w, s.accepts p rPM_CLK →
      ((3 < fPM_CLK_HART_MAX.get w ∨ 4 < fPM_CLK_TILE_MAX.get w) → Runs (.pmClkWrite p w) s (fun t =>
        t.did p ∧ t.flag rPM_STATUS fPM_STATUS_CFG_REJ = true ∧ RegsBut s t [rPM_STATUS] ∧ t.mem = s.mem))
      ∧ (fPM_CLK_HART_MAX.get w ≤ 3 → fPM_CLK_TILE_MAX.get w ≤ 4 → Runs (.pmClkWrite p w) s (fun t =>
        t.did p ∧ t.rf rPM_CLK fPM_CLK_HART_MAX = fPM_CLK_HART_MAX.get w ∧ t.rf rPM_CLK fPM_CLK_TILE_MAX = fPM_CLK_TILE_MAX.get w
        ∧ t.rf rPM_CLK fPM_CLK_HART_TH = s.rf rPM_CLK fPM_CLK_HART_TH ∧ t.rf rPM_CLK fPM_CLK_TILE_TH = s.rf rPM_CLK fPM_CLK_TILE_TH
        ∧ (s.rf rPM_STATUS fPM_STATUS_TILE_LVL < t.wantLevel false → t.pw.slowTile = some (max (t.wantLevel false) (s.pw.slowTile.getD 0)))
        ∧ (t.wantLevel false ≤ s.rf rPM_STATUS fPM_STATUS_TILE_LVL → t.pw.slowTile = s.pw.slowTile)
        ∧ RegsBut s t [rPM_CLK, rPM_STATUS] ∧ t.mem = s.mem)))
    ∧ (∀ mv l, s.pw.slowTile = some l → l < 8 → Runs (.clockLevelSwitch false mv) s (fun t =>
        t.rf rPM_STATUS fPM_STATUS_TILE_LVL = l ∧ t.pw = { s.pw with slowTile := none } ∧ RegsBut s t [rPM_STATUS]
        ∧ t = { s with regs := t.regs, pw := t.pw }))
    ∧ (∀ mv want, s.pw.slowTile = none → want = max (s.rf rPM_CLK fPM_CLK_TILE_MAX) (s.rf rPM_CLK fPM_CLK_TILE_TH) →
      ((s.rf rPM_STATUS fPM_STATUS_TILE_LVL < want ∨ (want < s.rf rPM_STATUS fPM_STATUS_TILE_LVL ∧ levelMv false want ≤ mv)) →
        Runs (.clockLevelSwitch false mv) s (fun t =>
          t.rf rPM_STATUS fPM_STATUS_TILE_LVL = want ∧ t.powerState = s.powerState ∧ RegsBut s t [rPM_STATUS] ∧ t = { s with regs := t.regs }))
      ∧ (want < s.rf rPM_STATUS fPM_STATUS_TILE_LVL → mv < levelMv false want → exec (.clockLevelSwitch false mv) s = .next s))
    ∧ (∀ mv want, s.pw.slowHart = none → want = max (s.rf rPM_CLK fPM_CLK_HART_MAX) (s.rf rPM_CLK fPM_CLK_HART_TH) →
      s.rf rPM_STATUS fPM_STATUS_HART_LVL < want → Runs (.clockLevelSwitch true mv) s (fun t =>
        t.rf rPM_STATUS fPM_STATUS_HART_LVL = want ∧ RegsBut s t [rPM_STATUS] ∧ t = { s with regs := t.regs }))
    ∧ (∀ e cycles, e < 184 → (s.unitState e = tsIDLE ∨ s.unitState e = tsFAULT) → (176 ≤ e ∨ s.doneRaised e = false) →
      (s.rf rPM_GATE_CFG fPM_GATE_CFG_GATE_DELAY ≤ cycles → Runs (.unitClockGate e cycles) s (fun t =>
        e ∈ t.pw.gated ∧ (∀ k, k ≠ e → (k ∈ t.pw.gated ↔ k ∈ s.pw.gated)) ∧ t = { s with pw := t.pw }))
      ∧ (cycles < s.rf rPM_GATE_CFG fPM_GATE_CFG_GATE_DELAY → exec (.unitClockGate e cycles) s = .next s))
    ∧ (∀ d, s.rail (.cd d) ≠ .on → exec (.pllLockLoss (some d)) s = .next s)
    ∧ (s.rail .hub ≠ .on → exec (.pllLockLoss none) s = .next s)
    ∧ (∀ d, d < 4 → s.rail (.cd d) = .on → s.sk.conns.length = 10 → s.connState (skHubConn d) = skUP → Runs (.pllLockLoss (some d)) s (fun t =>
        t.connState (skHubConn d) = skQUAR ∧ t.rf (rSK_CONN_STATUS (skHubConn d)) fSK_CONN_STATUS_LAST_CAUSE = causeCLOCK
        ∧ (s.dieState d = 0 → t.dieState d = 1)))
    ∧ (s.aon.off = false →
      (s.rail .hub = .on → Runs (.pllLockLoss none) s (fun t =>
        t.aon.off = true ∧ t.aon.pgood = false ∧ t.aon.cause = 5 ∧ t.aon.wait = !s.aon.low ∧ t.mem = {} ∧ t.fuses = s.fuses ∧ t.isl = s.isl))
      ∧ (∀ us, 10 < us → Runs (.vinMainLoss us) s (fun t =>
        t.aon.off = true ∧ t.aon.pgood = false ∧ t.aon.cause = 3 ∧ t.aon.wait = false ∧ t.mem = {} ∧ t.fuses = s.fuses ∧ t.isl = s.isl
        ∧ t.flash.cells = s.flash.cells ∧ t.pending = s.pending))
      ∧ (∀ us, us ≤ 10 → exec (.vinMainLoss us) s = .next s))
    ∧ Runs .vinAonLoss s (fun t => t.aon = { off := true } ∧ t.mem = {} ∧ t.fuses = s.fuses ∧ t.isl = s.isl ∧ t.flash.cells = s.flash.cells)
    ∧ (∀ (vals : List (Option Int)), s.powerState = 4 → s.pw.run = none →
      (∀ a, s.pw.lastRun = some a → s.dtime < a + s.rf rPM_BRU_CFG fPM_BRU_CFG_PERIOD_MS * 1000000 → exec (.brumationRun vals) s = .next s)
      ∧ ((∀ a, s.pw.lastRun = some a → a + s.rf rPM_BRU_CFG fPM_BRU_CFG_PERIOD_MS * 1000000 ≤ s.dtime) →
          s.rf rPM_BRU_CFG fPM_BRU_CFG_NSTEP_M1 = 0 → 1 ≤ s.bruCfg 0 fPM_BRU_STEP_SRC → s.bruCfg 0 fPM_BRU_STEP_SRC ≤ 8 →
        (∀ v r, vals = some v :: r → s.bruOut 0 (enc16 v) = false → Runs (.brumationRun vals) s (fun t =>
          t.rf (rPM_BRU_VAL 0) fPM_BRU_VAL_VALUE = enc16 v ∧ t.rf (rPM_BRU_VAL 0) fPM_BRU_VAL_COUNT = 0 ∧ t.powerState = 4
          ∧ t.pw.run = none ∧ t.pw.lastRun = some s.dtime ∧ RegsBut s t [rPM_BRU_VAL 0] ∧ t.mem = s.mem))
        ∧ (∀ v r, vals = some v :: r → s.bruOut 0 (enc16 v) = true →
            s.bruCfg 0 fPM_BRU_STEP_PERSIST ≤ min 15 (s.rf (rPM_BRU_VAL 0) fPM_BRU_VAL_COUNT + 1) → Runs (.brumationRun vals) s (fun t =>
          t.powerState = 5 ∧ t.rf rPM_WAKE_CAUSE fPM_WAKE_CAUSE_SOURCE = 4 ∧ t.rf rPM_WAKE_CAUSE fPM_WAKE_CAUSE_STEP = 0
          ∧ t.rf rPM_WAKE_CAUSE fPM_WAKE_CAUSE_STEP_MASK = 1 ∧ t.rf rPM_WAKE_CAUSE fPM_WAKE_CAUSE_VALUE = enc16 v
          ∧ t.rf rPM_WAKE_CAUSE fPM_WAKE_CAUSE_FAILED = 0 ∧ t.rf rPM_WAKE_DTIME fPM_WAKE_DTIME_DTIME = s.dtime))
        ∧ (∀ r, vals = none :: r → min 15 (s.rf (rPM_BRU_VAL 0) fPM_BRU_VAL_COUNT + 1) < s.bruCfg 0 fPM_BRU_STEP_PERSIST →
          Runs (.brumationRun vals) s (fun t =>
            t.rf (rPM_BRU_VAL 0) fPM_BRU_VAL_VALUE = 0x8000
            ∧ t.rf (rPM_BRU_VAL 0) fPM_BRU_VAL_COUNT = min 15 (s.rf (rPM_BRU_VAL 0) fPM_BRU_VAL_COUNT + 1) ∧ t.powerState = 4
            ∧ RegsBut s t [rPM_BRU_VAL 0] ∧ t.mem = s.mem))))
    ∧ (∀ r k, s.pw.run = some r → k = r.step → k < 16 → s.powerState = 4 → s.rf rPM_BRU_CFG fPM_BRU_CFG_NSTEP_M1 = k → r.qual = [] →
      (∀ nbits width samples m old, s.dtime < r.since + 100000000 → 0 < width → 8 ≤ nbits →
          m = blockMeans width (samples.length / width) (samples.map (fun v => v / 2 ^ (nbits - 8) % 256)) →
          mapGet s.pw.means k = some old → s.bruOut k (frameDiff m old) = false →
        Runs (.brumationCameraFrame nbits width samples) s (fun t =>
          t.rf (rPM_BRU_VAL k) fPM_BRU_VAL_VALUE = frameDiff m old % 2 ^ 16 ∧ t.rf (rPM_BRU_VAL k) fPM_BRU_VAL_COUNT = 0
          ∧ mapGet t.pw.means k = some m ∧ t.pw.run = none ∧ t.powerState = 4 ∧ RegsBut s t [rPM_BRU_VAL k] ∧ t.mem = s.mem))
      ∧ (r.since + 100000000 ≤ s.dtime →
          min 15 (s.rf (rPM_BRU_VAL k) fPM_BRU_VAL_COUNT + 1) < s.bruCfg k fPM_BRU_STEP_PERSIST →
        Runs .brumationCameraTimeout s (fun t =>
          t.rf (rPM_BRU_VAL k) fPM_BRU_VAL_VALUE = 0x8000 ∧ t.pw.run = none ∧ t.powerState = 4 ∧ RegsBut s t [rPM_BRU_VAL k] ∧ t.mem = s.mem))
      ∧ (s.dtime < r.since + 100000000 → exec .brumationCameraTimeout s = .next s))

/-! ## The start, Tadpole mode and RESET_N -/

/-- R372, R401, R403, R404, R408 to R412, R454 and R455: the start latches its straps, replays the journal, and releases hart 0
on a valid image or enters Tadpole mode for a stated reason; RESET_N takes everything fed from VIN_MAIN; Tadpole mode writes its
session headers and telemetry each second.
[Model choices: log entries 1, 84, 85, 86, 87, 88.] -/
def Obligations.ThePartStartsOrEntersTadpole : Prop :=
  ∀ (s : State),
    (∀ boot, s.aon.low = true → boot.vin = false → Runs (.resetNRise boot) s (fun t =>
        t = { s with aon := { s.aon with low := false, straps := bootStraps boot, off := true, wait := true } }))
    ∧ (∀ boot, s.aon.low = false → exec (.resetNRise boot) s = .next s)
    ∧ (∀ boot, s.aon.wait = false → exec (.vinMainInWindow boot) s = .next s)
    ∧ (∀ boot c s0 s1 img, ((c = .resetNRise boot ∧ s.aon.low = true ∧ boot.vin = true
          ∧ s0 = s.modAon (fun a => { a with low := false, straps := bootStraps boot }))
        ∨ (c = .vinMainInWindow boot ∧ s.aon.wait = true ∧ s0 = s)) →
        s1 = s0.startRom → img = s1.chooseImage (s0.aon.straps.testBit 1) → s.isl.length = 2 → s0.aon.straps < 128 →
      Runs c s (fun t =>
        t.aon = { low := false, off := false, wait := false, straps := s0.aon.straps, pgood := true, cause := 1, budget := s.aon.budget }
        ∧ t.rf rJN_BOOT fJN_BOOT_STRAPS = s0.aon.straps ∧ t.rf rCH_STATUS fCH_STATUS_SELF_ID = s0.aon.straps / 8
        ∧ t.rf rJN_BOOT fJN_BOOT_RESET_CAUSE = s.aon.cause % 8 ∧ t.rf rJN_BOOT fJN_BOOT_BOOT_CNT = nextBoot s1.jnRecs % 2 ^ 32
        ∧ t.rf rJN_BOOT fJN_BOOT_TADPOLE_WHY = s1.tadWhy img ∧ (t.isle 0).active = true ∧ (t.isle 1).active = false
        ∧ t.fuses = s.fuses ∧ t.pending = s.pending ∧ t.harts.length = 16
        ∧ (∀ h, 0 < h → h < 16 → (t.harts[h]?.getD {}).released = false)
        ∧ (s0.aon.straps.testBit 2 = true → s1.tadWhy img = 1)
        ∧ (s0.aon.straps.testBit 2 = false → s1.flash.dir = none → s1.tadWhy img = 2)
        ∧ (s0.aon.straps.testBit 2 = false → s1.flash.dir.isSome = true → img = none → s1.tadWhy img = 3)
        ∧ (s1.tadWhy img = 0 → (t.harts.getD 0 {}).released = true ∧ t.sh.tad.on = false
            ∧ ∀ k key, img = some (k, key) → k < 2 → t.rf rJN_BOOT fJN_BOOT_SLOT = k ∧ t.flash.signer = some key
              ∧ (t.harts.getD 0 {}).start = imgEntry (s1.imgHdr (s1.slotBase k))
              ∧ t.rf rJN_BOOT fJN_BOOT_SVN = imgSvn (s1.imgHdr (s1.slotBase k)) % 256)
        ∧ (s1.tadWhy img ≠ 0 → (t.harts.getD 0 {}).released = false ∧ t.sh.tad.on = true ∧ t.sh.tad.nvme = boot.nvme
            ∧ t.rf rJN_BOOT fJN_BOOT_SLOT = 3 ∧ t.flag rSH_CFG fSH_CFG_ENABLE = true)))
    ∧ (∀ us, 10 ≤ us → Runs (.resetNAssert us) s (fun t =>
        t.aon = { s.aon with low := true, off := true, wait := false, pgood := false } ∧ t.mem = {} ∧ t.fuses = s.fuses ∧ t.isl = s.isl
        ∧ t.flash.cells = s.flash.cells ∧ t.pending = s.pending ∧ (∀ h ∈ t.harts, h.released = false)))
    ∧ (∀ us, us < 10 → exec (.resetNAssert us) s = .next s)
    ∧ (∀ n, s.sh.tad.on = true → s.sh.tad.nvme = some n → (∀ a, s.sh.tad.lastHdr = some a → a + 1000000000 ≤ s.dtime) →
      Runs .tadpoleSessionHeader s (fun t =>
        (∃ h, t.sent = .nvme (s.sh.tad.hdrs % 2 * 4096) h :: s.sent ∧ h.length = 64 ∧ leNat (h.drop 60) = crc32c (h.take 60)
          ∧ leNat ((h.drop 16).take 8) = s.sh.tad.off % 2 ^ 64 ∧ leNat ((h.drop 24).take 8) = s.sh.tad.lap % 2 ^ 64)
        ∧ t.sh.tad.hdrs = s.sh.tad.hdrs + 1 ∧ t.sh.tad.lastHdr = some s.dtime ∧ t = { s with sent := t.sent, sh := t.sh }))
    ∧ ((s.sh.tad.on = false ∨ s.sh.tad.nvme = none ∨ ∃ a, s.sh.tad.lastHdr = some a ∧ s.dtime < a + 1000000000) →
        exec .tadpoleSessionHeader s = .next s)
    ∧ (∀ vin, s.sh.tad.on = true → (∀ a, s.sh.tad.lastTel = some a → a + 1000000000 ≤ s.dtime) → Runs (.tadpoleTelemetry vin) s (fun t =>
        t.sent = .udp 0 s.telAddr 48879 (s.telemetry vin) :: .uart 0 (s.telemetry vin) :: s.sent
        ∧ t.sh.tad.lastTel = some s.dtime ∧ t = { s with sent := t.sent, sh := t.sh }))
    ∧ (∀ vin, s.sh.tad.on = false → exec (.tadpoleTelemetry vin) s = .next s)

/-! ## The flash, the journal and the fuses -/

/-- R404, R417 to R423 and R445: an append is refused for a stated reason or programmed and committed; a full area is compacted
into the other; OFFLINE takes the journal out of service and back through replay; fuses only advance; flash commands read,
program and erase outside what is guarded.
[Model choices: log entries 88, 89, 90.] -/
def Obligations.JournalFusesAndFlashCommands : Prop :=
  ∀ (s : State) (p : Port),
    (∀ typ key len src, s.accepts p rJN_APPEND → typ < 256 → key < 2 ^ 16 → len < 4096 →
        src = s.rf rJN_APPEND_SRC fJN_APPEND_SRC_ADDR * 64 →
      (∀ e, e ≠ 0 → (s.jnEngine = jnOFFLINE ∧ e = 6
          ∨ s.jnEngine = jnIDLE ∧ (((jnTypeOk typ = false ∨ typ = jnAREA ∨ typ = jnSNAP) ∧ e = 1)
            ∨ jnTypeOk typ = true ∧ typ ≠ jnAREA ∧ typ ≠ jnSNAP ∧ (4048 < len ∧ e = 2
              ∨ len ≤ 4048 ∧ ((unitsOf 64 src len).any (fun l => (s.lineErr l).isSome) = true ∧ e = 3
                ∨ (unitsOf 64 src len).any (fun l => (s.lineErr l).isSome) = false ∧ s.mem.poisoned src len = true ∧ e = 4)))) →
        Runs (.jnAppend p typ key len) s (fun t =>
          t.did p ∧ t.rf rJN_APPEND_STAT fJN_APPEND_STAT_RESULT = 3 ∧ t.rf rJN_APPEND_STAT fJN_APPEND_STAT_ERR = e
          ∧ t.flash = s.flash ∧ RegsBut s t [rJN_APPEND, rJN_APPEND_STAT, rPM_STATUS] ∧ t.mem = s.mem))
      ∧ (s.jnEngine ≠ jnOFFLINE → s.jnEngine ≠ jnIDLE → Runs (.jnAppend p typ key len) s (fun t =>
          t.did p ∧ t.flag rJN_STATUS fJN_STATUS_CFG_REJ = true ∧ t.flash = s.flash
          ∧ RegsBut s t [rJN_APPEND, rJN_STATUS, rPM_STATUS] ∧ t.mem = s.mem))
      ∧ (s.jnEngine = jnIDLE → jnTypeOk typ = true → typ ≠ jnAREA → typ ≠ jnSNAP → len ≤ 4048 →
          (unitsOf 64 src len).any (fun l => (s.lineErr l).isSome) = false → s.mem.poisoned src len = false →
        (s.flash.next + recSize len ≤ s.jnSize → Runs (.jnAppend p typ key len) s (fun t =>
          t.did p ∧ t.rf rJN_APPEND_STAT fJN_APPEND_STAT_RESULT = 2 ∧ t.jnEngine = jnAPPEND
          ∧ t.flash.append = some { again := false, rec' := { off := s.flash.next, type := typ, seq := s.jnNextSeq, key := key, data := s.memRead src len } }
          ∧ RegsBut s t [rJN_APPEND, rJN_APPEND_STAT, rJN_STATUS, rPM_STATUS] ∧ t.mem = s.mem))
        ∧ (s.jnSize < s.flash.next + recSize len → Runs (.jnAppend p typ key len) s (fun t =>
          t.did p ∧ t.rf rJN_APPEND_STAT fJN_APPEND_STAT_RESULT = 3 ∧ t.rf rJN_APPEND_STAT fJN_APPEND_STAT_ERR = 5
          ∧ t.jnEngine = jnIDLE ∧ t.flash.cells = s.flash.cells ∧ t.mem = s.mem))))
    ∧ (∀ ok, s.flash.append = none → exec (.appendCommit ok) s = .next s)
    ∧ (∀ x, s.flash.append = some x → x.rec'.seq < 2 ^ 32 →
      Runs (.appendCommit true) s (fun t =>
        t.rf rJN_APPEND_STAT fJN_APPEND_STAT_RESULT = 1 ∧ t.rf rJN_APPEND_STAT fJN_APPEND_STAT_SEQ = x.rec'.seq
        ∧ t.jnNextSeq = (x.rec'.seq + 1) % 2 ^ 32 ∧ t.jnEngine = jnIDLE ∧ t.flash.append = none
        ∧ t.flash.next = x.rec'.off + x.rec'.size ∧ t.flashNat (s.jnBase s.jnActive + x.rec'.off + commitAt x.rec'.data.length) 4 = 0
        ∧ Counted s t rJN_CNT2 fJN_CNT2_APPEND_CNT 1
        ∧ RegsBut s t [rJN_APPEND_STAT, rJN_SEQ, rJN_STATUS, rJN_FILL, rJN_CNT2] ∧ t.mem = s.mem)
      ∧ (x.again = false → x.rec'.off + x.rec'.size + x.rec'.size ≤ s.jnSize → Runs (.appendCommit false) s (fun t =>
        t.flash.append = some { again := true, rec' := { x.rec' with off := x.rec'.off + x.rec'.size } } ∧ t.jnEngine = jnAPPEND
        ∧ Counted s t rJN_CNT2 fJN_CNT2_FLASH_ERR_CNT 1 ∧ t.mem = s.mem))
      ∧ (x.again = true → Runs (.appendCommit false) s (fun t =>
        t.flash.append = none ∧ t.jnEngine = jnIDLE ∧ t.rf rJN_APPEND_STAT fJN_APPEND_STAT_RESULT = 3
        ∧ t.rf rJN_APPEND_STAT fJN_APPEND_STAT_ERR = 5 ∧ t.flash.next = x.rec'.off + x.rec'.size
        ∧ t.flash.cells = s.flash.cells ∧ Counted s t rJN_CNT2 fJN_CNT2_FLASH_ERR_CNT 1 ∧ t.mem = s.mem)))
    ∧ (s.jnEngine = jnIDLE → s.rf rJN_STATUS fJN_STATUS_COMPACT = 0 → s.flash.dir.isSome = true →
      (3 * s.jnSize ≤ 4 * s.flash.next → Runs .compactionStart s (fun t =>
        t.rf rJN_STATUS fJN_STATUS_COMPACT = 1 ∧ t.flashBlank (s.jnBase (1 - s.jnActive)) s.jnSize = true
        ∧ RegsBut s t [rJN_STATUS] ∧ t.mem = s.mem))
      ∧ (4 * s.flash.next < 3 * s.jnSize → exec .compactionStart s = .next s))
    ∧ (s.rf rJN_STATUS fJN_STATUS_COMPACT = 1 → s.flash.append = none → Runs .compactionComplete s (fun t =>
        t.jnActive = 1 - s.jnActive ∧ t.rf rJN_STATUS fJN_STATUS_GEN = (s.rf rJN_STATUS fJN_STATUS_GEN + 1) % 2 ^ 32
        ∧ t.rf rJN_STATUS fJN_STATUS_COMPACT = 0 ∧ t.jnNextSeq = (s.jnNextSeq + 1) % 2 ^ 32
        ∧ t.flashBlank (s.jnBase s.jnActive) s.jnSize = true ∧ Counted s t rJN_CNT fJN_CNT_COMPACT_CNT 1
        ∧ RegsBut s t [rJN_STATUS, rJN_SEQ, rJN_FILL, rJN_ERASE, rJN_CNT] ∧ t.mem = s.mem))
    ∧ (s.rf rJN_STATUS fJN_STATUS_COMPACT = 0 → exec .compactionComplete s = .next s)
    ∧ (s.accepts p rJN_CTRL →
      (s.jnEngine ≠ jnOFFLINE → s.flash.append = none → Runs (.jnOffline p) s (fun t =>
        t.did p ∧ t.jnEngine = jnOFFLINE ∧ t.flag rJN_CTRL fJN_CTRL_OFFLINE = true ∧ t.rf rJN_STATUS fJN_STATUS_COMPACT = 0
        ∧ RegsBut s t [rJN_STATUS, rJN_CTRL, rPM_STATUS] ∧ t.flash = s.flash ∧ t.mem = s.mem))
      ∧ (s.jnEngine = jnOFFLINE → s.flash.dir = none → Runs (.jnOnline p) s (fun t =>
        t.did p ∧ t.jnEngine = jnREPLAY ∧ t.flag rJN_CTRL fJN_CTRL_OFFLINE = false ∧ t.flash = s.flash ∧ t.mem = s.mem))
      ∧ (s.jnEngine = jnOFFLINE → s.flash.dir.isSome = true → s.activeArea = none → Runs (.jnOnline p) s (fun t =>
        t.did p ∧ t.jnEngine = jnIDLE ∧ t.flag rJN_STATUS fJN_STATUS_EMPTY = true ∧ t.jnActive = 0
        ∧ t.rf rJN_STATUS fJN_STATUS_GEN = 1 ∧ t.mem = s.mem))
      ∧ (∀ k a, s.jnEngine = jnOFFLINE → s.flash.dir.isSome = true → s.activeArea = some k → k < 2 → (s.scanArea k).area = some a →
        Runs (.jnOnline p) s (fun t =>
          t.did p ∧ t.jnEngine = jnIDLE ∧ t.flag rJN_STATUS fJN_STATUS_EMPTY = false ∧ t.jnActive = k
          ∧ t.rf rJN_STATUS fJN_STATUS_GEN = a.gen % 2 ^ 32 ∧ t.flag rJN_STATUS fJN_STATUS_FOREIGN = (a.uid != s.fuses.uid)
          ∧ t.flash.cells = s.flash.cells ∧ t.flash.next = s.freeBoundary k
          ∧ Counted s t rJN_CNT fJN_CNT_TORN_CNT (s.scanArea k).ignored ∧ t.mem = s.mem)))
    ∧ (∀ arg, s.accepts p rJN_FUSE → arg < 256 →
      (s.fuses.svn ≤ arg → Runs (.fuseAdvanceSvn p arg) s (fun t =>
        t.did p ∧ t.fuses = { s.fuses with svn := arg } ∧ RegsBut s t [rPM_STATUS] ∧ t.mem = s.mem))
      ∧ (arg < s.fuses.svn → Runs (.fuseAdvanceSvn p arg) s (fun t =>
        t.did p ∧ t.fuses = s.fuses ∧ t.flag rJN_STATUS fJN_STATUS_CFG_REJ = true ∧ RegsBut s t [rJN_STATUS, rPM_STATUS] ∧ t.mem = s.mem))
      ∧ (arg < 4 → s.flash.signer ≠ some arg → s.fuses.revoked.length = 4 → Runs (.fuseRevokeKey p arg) s (fun t =>
        t.did p ∧ t.fuses = { s.fuses with revoked := t.fuses.revoked } ∧ t.fuses.revoked.getD arg false = true
        ∧ (∀ k, k ≠ arg → t.fuses.revoked.getD k false = s.fuses.revoked.getD k false) ∧ RegsBut s t [rPM_STATUS] ∧ t.mem = s.mem))
      ∧ ((4 ≤ arg ∨ s.flash.signer = some arg) → Runs (.fuseRevokeKey p arg) s (fun t =>
        t.did p ∧ t.fuses = s.fuses ∧ t.flag rJN_STATUS fJN_STATUS_CFG_REJ = true ∧ RegsBut s t [rJN_STATUS, rPM_STATUS] ∧ t.mem = s.mem)))
    ∧ (∀ a len buf, s.accepts p rIO_XSPI_CMD → a < 2 ^ 28 → len < 512 → buf = s.rf rIO_XSPI_BUF fIO_XSPI_BUF_ADDR * 64 →
        s.rf rIO_XSPI_CMD fIO_XSPI_CMD_RESULT ≠ 2 →
      (s.xsLegal xsREAD a len = true → (s.xsGuarded a len = false ∨ s.jnEngine = jnOFFLINE) → s.storable buf len →
        Runs (.xspiRead p a len) s (fun t =>
          t.did p ∧ t.rf rIO_XSPI_CMD fIO_XSPI_CMD_RESULT = 2 ∧ Stored s t buf (s.flashRead a len) ∧ t.flash = s.flash
          ∧ RegsBut s t [rIO_XSPI_CMD, rPM_STATUS]))
      ∧ (s.xsLegal xsPROGRAM a len = true → (s.xsGuarded a len = false ∨ s.jnEngine = jnOFFLINE) → s.inHbm buf len →
        Runs (.xspiProgram p a len) s (fun t =>
          t.did p ∧ t.rf rIO_XSPI_CMD fIO_XSPI_CMD_RESULT = 2 ∧ (∀ k, k < len → t.flashByte (a + k) = s.flashByte (a + k) &&& s.mem.byte (buf + k))
          ∧ (∀ b, (b < a ∨ a + len ≤ b) → t.flashByte b = s.flashByte b) ∧ RegsBut s t [rIO_XSPI_CMD, rPM_STATUS] ∧ t.mem = s.mem))
      ∧ (a % 65536 = 0 → (s.xsGuarded a 65536 = false ∨ s.jnEngine = jnOFFLINE) → Runs (.xspiErase p a) s (fun t =>
          t.did p ∧ t.rf rIO_XSPI_CMD fIO_XSPI_CMD_RESULT = 2 ∧ t.flashBlank a 65536 = true
          ∧ (∀ b, (b < a ∨ a + 65536 ≤ b) → t.flashByte b = s.flashByte b) ∧ RegsBut s t [rIO_XSPI_CMD, rPM_STATUS] ∧ t.mem = s.mem))
      ∧ ((a % 65536 ≠ 0 ∨ (s.xsGuarded a 65536 = true ∧ s.jnEngine ≠ jnOFFLINE)) → Runs (.xspiErase p a) s (fun t =>
          t.did p ∧ t.rf rIO_XSPI_CMD fIO_XSPI_CMD_RESULT = 3 ∧ t.flash = s.flash ∧ RegsBut s t [rIO_XSPI_CMD, rPM_STATUS] ∧ t.mem = s.mem)))
    ∧ (s.rf rIO_XSPI_CMD fIO_XSPI_CMD_RESULT = 2 → Runs .xspiCommandComplete s (fun t =>
        t.rf rIO_XSPI_CMD fIO_XSPI_CMD_RESULT = 1 ∧ RegsBut s t [rIO_XSPI_CMD] ∧ t = { s with regs := t.regs }))
    ∧ (s.rf rIO_XSPI_CMD fIO_XSPI_CMD_RESULT ≠ 2 → exec .xspiCommandComplete s = .next s)

/-! ## Trace and debug access -/

/-- R427 to R431: a record leaves its source for the buffer; the buffer is armed, triggered, frozen and stopped; its content is
dumped to memory or streamed in groups of 64 bytes.
[Model choices: log entries 8, 91, 96.] -/
def Obligations.TraceIsBufferedDumpedAndStreamed : Prop :=
  ∀ (s : State),
    (∀ e, (s.trace.src e).fifo = [] → exec (.traceRecordArrival e) s = .next s)
    ∧ (∀ e r rest, (s.trace.src e).fifo = r :: rest → (s.trace.src e).dropped = 0 → s.traceMatch r = false → bits r 11 8 ≠ evGAP →
        s.trace.timeHi = s.dtime / 2 ^ 40 → s.trace.bufGap = 0 →
      (s.trState = trARMED → s.trMode = 0 → s.trace.recs.length < traceCap → Runs (.traceRecordArrival e) s (fun t =>
        (t.trace.src e).fifo = rest ∧ t.trace.recs = s.trace.recs ++ [r] ∧ t.trace.total = s.trace.total + 1 ∧ t = { s with trace := t.trace }))
      ∧ (s.trState = trIDLE → Runs (.traceRecordArrival e) s (fun t =>
        (t.trace.src e).fifo = rest ∧ t.trace.recs = s.trace.recs ∧ t = { s with trace := t.trace }))
      ∧ (s.trState = trFROZEN → Runs (.traceRecordArrival e) s (fun t =>
        (t.trace.src e).fifo = rest ∧ t.trace.recs = s.trace.recs ∧ Counted s t rTR_DROP_CNT fTR_DROP_CNT_BUF_DROP 1
        ∧ RegsBut s t [rTR_DROP_CNT] ∧ t.mem = s.mem)))
    ∧ (s.trState = trPOST →
      (s.trace.post = 0 → Runs .traceFreeze s (fun t => t.trState = trFROZEN ∧ RegsBut s t [rTR_STATUS] ∧ t = { s with regs := t.regs }))
      ∧ (s.trace.post ≠ 0 → exec .traceFreeze s = .next s))
    ∧ (∀ p, s.accepts p rTR_CTRL →
      (Nat.testBit (s.rf rTR_TRIG_CFG fTR_TRIG_CFG_EN) 0 = false → Runs (.trTrig p) s (fun t =>
        t.did p ∧ t.trace = s.trace ∧ RegsBut s t [rPM_STATUS] ∧ t.mem = s.mem))
      ∧ (∀ pre, Nat.testBit (s.rf rTR_TRIG_CFG fTR_TRIG_CFG_EN) 0 = true → s.trMode = 0 → s.trState = trARMED →
          s.trace.recs.length + 1 < traceCap → pre = (if s.trace.timeHi = s.dtime / 2 ^ 40 then [] else [recTime s.dtime]) →
          Runs (.trTrig p) s (fun t =>
        t.did p ∧ t.trace.recs = s.trace.recs ++ pre ++ [recTrigger 1 s.dtime]
        ∧ t.rf rTR_STATUS fTR_STATUS_TRIG_IDX = (s.trace.total + pre.length) % traceCap
        ∧ t.trace.post = s.rf rTR_CFG fTR_CFG_POST_SHARE * 65536 - 1
        ∧ t.trState = (if s.rf rTR_CFG fTR_CFG_POST_SHARE = 0 then trFROZEN else trPOST)
        ∧ RegsBut s t [rTR_STATUS, rPM_STATUS] ∧ t.mem = s.mem))
      ∧ (Nat.testBit (s.rf rTR_TRIG_CFG fTR_TRIG_CFG_EN) 0 = true →
          (s.trMode ≠ 0 ∨ (s.trState ≠ trARMED ∧ s.trState ≠ trIDLE ∧ ∀ x, s.trace.trig = some x → x.1 ≠ s.fabCycle)) → Runs (.trTrig p) s (fun t =>
        t.did p ∧ Counted s t rTR_DROP_CNT2 fTR_DROP_CNT2_TRIG_LOST 1 ∧ t.trace = s.trace
        ∧ RegsBut s t [rTR_DROP_CNT2, rPM_STATUS] ∧ t.mem = s.mem))
      ∧ Runs (.trArm p) s (fun t =>
        t.did p ∧ t.trState = trARMED ∧ t.trace.recs = [recTime s.dtime] ∧ t.trace.total = 1 ∧ t.rf rTR_RD fTR_RD_RD = 0
        ∧ t.trace.stopped = false ∧ t.trace.srcs = s.trace.srcs ∧ RegsBut s t [rTR_STATUS, rTR_RD, rPM_STATUS] ∧ t.mem = s.mem)
      ∧ Runs (.trStop p) s (fun t =>
        t.did p ∧ t.trState = trIDLE ∧ t.trace = s.trace ∧ RegsBut s t [rTR_STATUS, rPM_STATUS] ∧ t.mem = s.mem))
    ∧ (∀ p w a, s.accepts p rTR_DUMP → a = fTR_DUMP_DUMP_ADDR.get w * 64 →
      (s.dumpAllowed = true → s.trace.recs ≠ [] → s.storable a (16 * s.trace.recs.length) →
          s.engineErr s.trCtx .wr a (16 * s.trace.recs.length) = none → Runs (.trDump p w) s (fun t =>
        t.did p ∧ Stored s t a (traceBytes s.trace.recs) ∧ t.trace.dump = some s.trace.recs.length
        ∧ (∀ u ∈ unitsOf 32 a (16 * s.trace.bad), 0 < s.trace.bad → u ∈ t.mem.poison)
        ∧ t.rf rTR_DUMP fTR_DUMP_DONE = 0 ∧ t.trace.recs = s.trace.recs ∧ RegsBut s t [rTR_DUMP, rPM_STATUS]))
      ∧ (s.dumpAllowed = true → (s.engineErr s.trCtx .wr a (16 * s.trace.recs.length)).isSome = true → Runs (.trDump p w) s (fun t =>
        t.did p ∧ t.flag rTR_STATUS fTR_STATUS_ERR = true ∧ t.trace = s.trace ∧ RegsBut s t [rTR_DUMP, rTR_STATUS, rPM_STATUS]))
      ∧ (s.dumpAllowed = false → Runs (.trDump p w) s (fun t =>
        t.did p ∧ t.flag rTR_STATUS fTR_STATUS_CFG_REJ = true ∧ t.trace = s.trace
        ∧ RegsBut s t [rTR_DUMP, rTR_STATUS, rPM_STATUS] ∧ t.mem = s.mem)))
    ∧ (s.trace.dump = none → exec .traceDumpComplete s = .next s)
    ∧ (∀ n, s.trace.dump = some n → n < 2 ^ 64 → Runs .traceDumpComplete s (fun t =>
        t.trace = { s.trace with dump := none } ∧ t.rf rTR_DUMP fTR_DUMP_DONE = 1 ∧ t.rf rTR_DUMP_LEN fTR_DUMP_LEN_LEN = n
        ∧ RegsBut s t [rTR_DUMP, rTR_DUMP_LEN] ∧ t.mem = s.mem))
    ∧ (s.streamReady = false → exec .traceStreamWrite s = .next s)
    ∧ (∀ base a bs, base = s.rf rTR_STREAM_BASE fTR_STREAM_BASE_ADDR * 64 →
        a = base + s.rf rTR_STREAM_WR fTR_STREAM_WR_PTR % s.ringCap * 16 → bs = traceBytes (s.trace.recs.take 4) → s.streamReady = true →
      (s.flag rTR_STREAM_BASE fTR_STREAM_BASE_DEST = true → s.pcieUp = true → Runs .traceStreamWrite s (fun t =>
        t.sent = .pcieWrite (base + s.ringCap * 16) (leBytes 8 (t.rf rTR_STREAM_WR fTR_STREAM_WR_PTR)) :: .pcieWrite a bs :: s.sent
        ∧ t.rf rTR_STREAM_WR fTR_STREAM_WR_PTR = (s.rf rTR_STREAM_WR fTR_STREAM_WR_PTR + 4) % 2 ^ 64
        ∧ t.trace.recs = s.trace.recs.drop 4 ∧ RegsBut s t [rTR_STREAM_WR] ∧ t.mem = s.mem))
      ∧ (s.flag rTR_STREAM_BASE fTR_STREAM_BASE_DEST = false → s.storable a 64 → s.engineErr s.trCtx .wr a 64 = none →
        Runs .traceStreamWrite s (fun t =>
          Stored s t a bs ∧ t.rf rTR_STREAM_WR fTR_STREAM_WR_PTR = (s.rf rTR_STREAM_WR fTR_STREAM_WR_PTR + 4) % 2 ^ 64
          ∧ t.trace.recs = s.trace.recs.drop 4 ∧ (∀ u ∈ unitsOf 32 a (16 * min 4 s.trace.bad), 0 < s.trace.bad → u ∈ t.mem.poison)
          ∧ RegsBut s t [rTR_STREAM_WR] ∧ t.sent = s.sent))
      ∧ (((s.flag rTR_STREAM_BASE fTR_STREAM_BASE_DEST = true ∧ s.pcieUp = false)
          ∨ (s.flag rTR_STREAM_BASE fTR_STREAM_BASE_DEST = false ∧ (s.engineErr s.trCtx .wr a 64).isSome = true)) →
        Runs .traceStreamWrite s (fun t =>
          t.trace = { s.trace with stopped := true } ∧ t.flag rTR_STATUS fTR_STATUS_ERR = true ∧ RegsBut s t [rTR_STATUS] ∧ t.mem = s.mem)))

/-- R435 to R437: a challenge is opened and used up by one verify; a good one gives its level, a third failure locks; a lock
returns to level 0; debug modules answer from their level on; the TAP selects its registers.
[Model choices: log entries 9, 92, 93, 94.] -/
def Obligations.DebugIsUnlockedAndReachesItsModules : Prop :=
  ∀ (s : State),
    (∀ p level, s.accepts p rTR_AUTH_CMD →
      (s.dbgLocked = false → s.dbgBusy = false → 1 ≤ level → level ≤ 3 → Runs (.authChal p level) s (fun t =>
        ∃ ch, t.did p ∧ t.dbg = { s.dbg with chal := some (ch, level) } ∧ bytesOf ch 32 8 = s.fuses.uid % 2 ^ 64 ∧ bytesOf ch 40 4 = level
          ∧ bytesOf ch 44 4 = s.rf rTR_AUTH_STAT fTR_AUTH_STAT_ATTEMPTS + 1
          ∧ (∀ k, k < 6 → (t.reg (rTR_AUTH_CHAL k)).toNat = bytesOf ch (8 * k) 8)
          ∧ RegsBut s t (rPM_STATUS :: (List.range 6).map rTR_AUTH_CHAL) ∧ t.mem = s.mem))
      ∧ ((s.dbgLocked = true ∨ s.dbgBusy = true ∨ level = 0 ∨ 3 < level) → Runs (.authChal p level) s (fun t =>
        t.did p ∧ t.dbg = s.dbg ∧ RegsBut s t [rPM_STATUS] ∧ t.mem = s.mem))
      ∧ (s.dbgLocked = false → s.dbgBusy = false → Runs (.authVerify p) s (fun t =>
        t.did p ∧ t.dbg = { s.dbg with verify := some s.dbg.chal, chal := none } ∧ t.dbgBusy = true
        ∧ RegsBut s t [rTR_AUTH_STAT, rPM_STATUS] ∧ t.mem = s.mem))
      ∧ (s.dbgLocked = false → Runs (.authLock p) s (fun t =>
        t.did p ∧ t.dbgLevel = 0 ∧ Counted s t rTR_AUTH_STAT fTR_AUTH_STAT_OK_CNT 1 ∧ t.dbg = s.dbg
        ∧ RegsBut s t [rTR_AUTH_STAT, rPM_STATUS] ∧ t.mem = s.mem))
      ∧ (s.dbgLocked = true → Runs (.authLock p) s (fun t =>
        t.did p ∧ t.dbgLevel = s.dbgLevel ∧ t.dbg = s.dbg ∧ RegsBut s t [rPM_STATUS] ∧ t.mem = s.mem)))
    ∧ (s.dbg.verify = none → exec .authVerifyComplete s = .next s)
    ∧ (∀ c, s.dbg.verify = some c →
      (∀ ch level, c = some (ch, level) → level < 4 → s.authOk ch level = true → Runs .authVerifyComplete s (fun t =>
        t.dbgLevel = level ∧ t.dbgBusy = false ∧ t.dbg.verify = none ∧ Counted s t rTR_AUTH_STAT fTR_AUTH_STAT_OK_CNT 1
        ∧ t.dbgLocked = s.dbgLocked ∧ RegsBut s t [rTR_AUTH_STAT] ∧ t.mem = s.mem))
      ∧ ((c = none ∨ ∃ ch level, c = some (ch, level) ∧ s.authOk ch level = false) → s.dbgLocked = false →
        Runs .authVerifyComplete s (fun t =>
          t.dbgLevel = s.dbgLevel ∧ t.dbgBusy = false ∧ t.dbg.verify = none ∧ Counted s t rTR_AUTH_STAT fTR_AUTH_STAT_FAIL_CNT 1
          ∧ t.dbgLocked = decide (2 ≤ s.rf rTR_AUTH_STAT fTR_AUTH_STAT_ATTEMPTS)
          ∧ (s.rf rTR_AUTH_STAT fTR_AUTH_STAT_ATTEMPTS < 3 →
              t.rf rTR_AUTH_STAT fTR_AUTH_STAT_ATTEMPTS = s.rf rTR_AUTH_STAT fTR_AUTH_STAT_ATTEMPTS + 1)
          ∧ RegsBut s t [rTR_AUTH_STAT] ∧ t.mem = s.mem)))
    ∧ (∀ h v, 2 ≤ s.dbgLevel → h < s.harts.length → bits v 25 16 = h → Nat.testBit v 31 = true →
      Runs (.debugModuleAccess none 0 dmiCONTROL (some v)) s (fun t =>
        (t.harts[h]?.getD {}).halted = true ∧ (∀ k, k ≠ h → t.harts[k]?.getD {} = s.harts[k]?.getD {})
        ∧ t.bus.answer = .done ∧ t.regs = s.regs ∧ t.mem = s.mem))
    ∧ (∀ a v, s.dbgLevel < 2 → Runs (.debugModuleAccess none 0 a (some v)) s (fun t => t.dbg = s.dbg ∧ t.harts = s.harts ∧ t.regs = s.regs))
    ∧ (∀ a, s.dbgLevel = 0 → Runs (.debugModuleAccess none 0 a none) s (fun t => t.bus.answer = .data (leBytes 4 0) ∧ t.dbg = s.dbg))
    ∧ (∀ a, 1 ≤ s.dbgLevel → a ≠ dmiSTATUS → Runs (.debugModuleAccess none 0 a none) s (fun t =>
        t.bus.answer = .data (leBytes 4 (s.dmReg 0 a)) ∧ t.dbg = s.dbg ∧ t.harts = s.harts ∧ t.free = s.free ∧ t.regs = s.regs))
    ∧ (∀ a v, 2 ≤ s.dbgLevel → a ≠ dmiCONTROL → a ≠ dmiCOMMAND → a < 65536 → Runs (.debugModuleAccess none 0 a (some v)) s (fun t =>
        t.dmReg 0 a = v % 2 ^ 32 ∧ (∀ b, b < 65536 → b ≠ a → t.dmReg 0 b = s.dmReg 0 b) ∧ t.bus.answer = .done ∧ t.harts = s.harts
        ∧ t.regs = s.regs ∧ t.mem = s.mem))
    ∧ Runs .jtagIdcode s (fun t => t.bus.answer = .data (leBytes 4 0x20090C4D) ∧ t.dbg = { s.dbg with ir := 0 } ∧ t.regs = s.regs ∧ t.mem = s.mem)
    ∧ Runs .jtagBypass s (fun t => t = { s with dbg := { s.dbg with ir := 1 } })
    ∧ (2 ≤ s.dbgLevel →
      (∀ pins pre, Runs (.jtagSamplePreload pins pre) s (fun t => t = { s with dbg := { s.dbg with ir := 2, sample := pins, bound := pre } }))
      ∧ Runs .jtagExtest s (fun t => t = { s with dbg := { s.dbg with ir := 3 } }))
    ∧ (s.dbgLevel < 2 → (∀ pins pre, exec (.jtagSamplePreload pins pre) s = .next s) ∧ exec .jtagExtest s = .next s)

/-! ## Whole-part rules -/

/-- Commands that may change the islands: their own, a write of any register, what quarantines a connection, a start, and a
debug-module access. -/
def Sys2Proof.Machine.mayChangeIslands : Instr → Bool
  | .registerWrite .. | .lowHalfWrite .. | .counterClr .. | .globalCounterAccess .. | .coreMemoryAccess ..
  | .pcieInboundRequest .. | .skinkFrame .. | .nak .. | .sbState .. | .quarantineMessage .. | .confirm .. | .nack ..
  | .forwardedClockLoss .. | .rspTimeout .. | .quar .. | .rejoin .. | .islandPowerUp .. | .islandImageVerify ..
  | .islandImageWaitTimeout .. | .islandTrip .. | .islandSelfRestart .. | .siRestart .. | .coreDisagree .. | .checkpoint ..
  | .moultReq .. | .moultComplete .. | .islandDebugCommand .. | .worldNotice .. | .worldReadComplete .. | .trajectoryNotice ..
  | .trajectoryReadComplete .. | .messageTransmit .. | .notReadyMessage .. | .eftRun .. | .eftClear .. | .outputTimeout ..
  | .crosslinkHeartbeatSend .. | .crosslinkWord .. | .crosslinkSilence .. | .siConfigWrite .. | .pmVeto .. | .canReceive ..
  | .canBusOff .. | .canBusOffRecovery .. | .islandEthReceive .. | .pllLockLoss .. | .resetNRise .. | .debugModuleAccess ..
  | .debugSystemBusAccess .. | .islandSupplyLoss .. | .vinMainInWindow .. | .messageTransmitComplete .. => true
  | _ => false

/-- Commands and events of the islands themselves. -/
def Sys2Proof.Machine.islandCommand : Instr → Bool
  | .islandPowerUp .. | .islandSupplyLoss .. | .islandTrip .. | .islandSelfRestart .. | .islandImageVerify ..
  | .islandImageWaitTimeout .. | .coreDisagree .. | .checkpoint .. | .moultReq .. | .moultComplete .. | .islandDebugCommand ..
  | .worldNotice .. | .worldReadComplete .. | .statusMailboxRefresh .. | .spiStatusRead .. | .pmVeto .. | .canReceive ..
  | .canBusOff .. | .canBusOffRecovery .. | .islandEthReceive .. | .trajectoryNotice .. | .trajectoryReadComplete ..
  | .eftRun .. | .eftClear .. | .messageTransmit .. | .messageTransmitComplete .. | .notReadyMessage .. | .outputTimeout ..
  | .crosslinkHeartbeatSend .. | .crosslinkWord .. | .crosslinkSilence .. => true
  | _ => false

/-- Commands that may change the always-on domain: supplies, RESET_N, a lost HUB clock, the thermal trip and OFF. -/
def Sys2Proof.Machine.mayChangeAlwaysOn : Instr → Bool
  | .powerEntryComplete | .vinMainLoss .. | .vinAonLoss | .pllLockLoss .. | .thermalTick .. | .resetNRise .. | .resetNAssert ..
  | .vinMainInWindow .. => true
  | _ => false

/-- Commands that may change a fuse: a write of any register, and the two fuse commands. -/
def Sys2Proof.Machine.mayChangeFuses : Instr → Bool
  | .registerWrite .. | .lowHalfWrite .. | .counterClr .. | .globalCounterAccess .. | .coreMemoryAccess ..
  | .pcieInboundRequest .. | .fuseAdvanceSvn .. | .fuseRevokeKey .. | .debugSystemBusAccess .. => true
  | _ => false

/-- Commands that may change the flash. -/
def Sys2Proof.Machine.mayChangeFlash : Instr → Bool
  | .registerWrite .. | .lowHalfWrite .. | .counterClr .. | .globalCounterAccess .. | .coreMemoryAccess ..
  | .pcieInboundRequest .. | .hartParkDeadline | .shutdownSelfTestComplete .. | .powerEntryComplete | .vinMainLoss ..
  | .vinAonLoss | .pllLockLoss .. | .thermalTick .. | .resetNRise .. | .resetNAssert .. | .jnAppend .. | .appendCommit ..
  | .compactionStart | .compactionComplete | .jnOffline .. | .jnOnline .. | .xspiRead .. | .xspiProgram .. | .xspiErase ..
  | .debugSystemBusAccess .. | .hartWfi .. | .vinMainInWindow .. => true
  | _ => false

/-- Commands that may change memory or what is known of its lines. -/
def Sys2Proof.Machine.mayChangeMemory : Instr → Bool
  | .registerWrite .. | .lowHalfWrite .. | .counterClr .. | .globalCounterAccess .. | .coreMemoryAccess ..
  | .pcieInboundRequest .. | .peerInboundRequest .. | .sliceGrant .. | .load .. | .store .. | .matmul .. | .convConvolution ..
  | .convMaxPool .. | .convAvgPool .. | .convMinPool .. | .convGridSample .. | .vectCopy .. | .vectAdd .. | .vectSub ..
  | .vectMul .. | .vectFma .. | .vectMax .. | .vectMin .. | .vectAbs .. | .vectCmp .. | .vectSelect .. | .vectExp ..
  | .vectRcp .. | .vectRsqrt .. | .vectConvert .. | .vectAct .. | .vectRsum .. | .vectRmax .. | .vectRmin .. | .vectSmxStep ..
  | .vectMeanvar .. | .vectNorm .. | .postFloat .. | .postInt .. | .postArgmax .. | .leap .. | .leapOut .. | .leapIn ..
  | .sig .. | .hashBuild .. | .hashQuery .. | .neighbours .. | .knn .. | .ball .. | .sort .. | .topk .. | .segmentReduce ..
  | .gatherRows .. | .scatterGrid .. | .tableBuildWaitEnd .. | .setOpComplete .. | .append .. | .attendFetch ..
  | .evictTruncate .. | .evictLowestScored .. | .evictOnePosition .. | .free .. | .allGather .. | .reduce ..
  | .reduceCombine .. | .tailMirrorWrite .. | .copy .. | .copyFill .. | .signalSet .. | .signalAdd .. | .signalMax ..
  | .timestamp .. | .resultPost .. | .completionRecord .. | .jobQuiesced .. | .shEnable .. | .shDisable .. | .csi2FrameStart ..
  | .csi2PixelPacket .. | .entryComplete .. | .setOpResume .. | .csi2FrameEnd .. | .frameEndTimeout .. | .hubEthFrame .. | .spiTransferTimer .. | .drdyEdge ..
  | .spiTransferComplete .. | .uartRecord .. | .windowEnd | .waitLimitExpiry | .instantLaunch | .tick .. | .checkResult ..
  | .planDeadline | .sealRecheckComplete | .cacheLookup .. | .stackReadData .. | .parityError .. | .readForward .. | .scrubComplete ..
  | .occupancyShed .. | .rejoinCommit .. | .deviceLinkFlit .. | .laneLoss .. | .linkRetrainComplete .. | .discoveryEnd
  | .heartbeat .. | .heartbeatMiss .. | .view .. | .agreementRestart | .barrierArrival | .arrive .. | .powerRequestRetain ..
  | .powerRequestBrumation .. | .powerRequestOff .. | .forcedOff .. | .shutdownSelfTestComplete .. | .powerEntryCommit
  | .powerEntryComplete | .powerExitComplete | .vinMainLoss .. | .vinAonLoss | .pllLockLoss .. | .thermalTick .. | .clampPulse
  | .resetNRise .. | .resetNAssert .. | .xspiRead .. | .xspiProgram .. | .xspiErase .. | .trDump .. | .traceStreamWrite
  | .debugSystemBusAccess .. | .ppsEdge .. | .vinMainInWindow .. => true
  | _ => false

/-- Taking a command from the queue is carrying it out on the state with the rest of the queue.
[Model choices: log entry 3.] -/
def Obligations.AStepCarriesOutTheCommandInFront : Prop :=
  ∀ (c : Instr) (q : List Instr) (s : State), step { s with pending := c :: q } = exec c { s with pending := q }

/-- One die's copy of DTIME. -/
abbrev Sys2Proof.Machine.State.dieCopy (s : State) (d : Nat) : Nat := (s.time.dies[d]?.getD {}).copy

/-- R18, R20, R21 and R253: with no command waiting a step is one REFCLK
edge, at which DTIME, the copies whose sideband is up and the islands' times advance at their disciplined rates and a maintenance
sweep goes on; in RETAIN and BRUMATION it is one edge of the 32.768 kHz clock at the last rate; with the main rails off only the
islands' times advance. An island in RESET comes to its boot ROM. Where DTIME 63:40 change, a TIME record goes to the trace buffer
(R425).
[Model choices: log entries 20, 21, 23, 110, 113.] -/
def Obligations.AnIdleStepIsOneClockEdge : Prop :=
  ∀ (s : State) (low : Bool), s.pending = [] → low = decide (s.powerState = 3 ∨ s.powerState = 4) → ∃ t, step s = .next t ∧ t.pending = []
    ∧ t.fuses = s.fuses ∧ t.flash = s.flash ∧ t.aon = s.aon ∧ t.sent = s.sent
    ∧ (∀ i, i < s.isl.length → t.isle i =
        if (s.isle i).power = true ∧ (s.isle i).state = isRESET then { s.isle i with state := isBOOT } else s.isle i)
    ∧ (∀ i, t.islT i = if i < s.time.isl.length then
        (s.islT i).pass (if s.aon.off = false ∧ low = true then nominalIncr * slowNum / slowDen else nominalIncr) else s.islT i)
    ∧ (s.aon.off = true → t = { s with time := t.time, isl := t.isl } ∧ t.time = { s.time with isl := t.time.isl })
    ∧ (s.aon.off = false → low = true → t = { s with time := t.time, isl := t.isl, regs := t.regs, trace := t.trace }
        ∧ t.time = { s.time with isl := t.time.isl, dies := t.time.dies, master := s.time.master + s.time.incr * slowNum / slowDen }
        ∧ (∀ d, d < s.time.dies.length → t.dieCopy d = s.dieCopy d + (if s.sbLost d = true then 0 else s.time.incr * slowNum / slowDen)))
    ∧ (s.aon.off = false → (low = true ∨ s.flag rSC_MAINT fSC_MAINT_BUSY = false) → (∀ d, d < 6 → s.sk.commits.getD d none = none) →
        (t.dtime / 2 ^ 40 = s.trace.timeHi → t.trace = s.trace ∧ t.regs = s.regs)
        ∧ (t.dtime / 2 ^ 40 ≠ s.trace.timeHi → t.trace.timeHi = t.dtime / 2 ^ 40
            ∧ (s.trState = trARMED → s.trMode = 0 → s.trace.recs.length < traceCap → t.trace.recs = s.trace.recs ++ [recTime t.dtime])))
    ∧ (s.aon.off = false → low = false → t.time.edges = s.time.edges + 1
        ∧ t.time.master = s.time.master + (((nominalIncr : Int) + slewStep s.time.owed).toNat) ∧ t.time.owed = s.time.owed - slewStep s.time.owed
        ∧ (∀ d, d < s.time.dies.length → t.time.dies[d]?.getD {} = (s.time.dies[d]?.getD {}).edge (!s.sbLost d) s.time.nextIncr)
        ∧ ((∀ d, d < 6 → s.sk.commits.getD d none = none) → s.flag rSC_MAINT fSC_MAINT_BUSY = false →
            t = { s with time := t.time, isl := t.isl, regs := t.regs, trace := t.trace })
        ∧ ((∀ d, d < 6 → s.sk.commits.getD d none = none) → s.flag rSC_MAINT fSC_MAINT_BUSY = true →
            t = { s with time := t.time, isl := t.isl, regs := t.regs, mem := t.mem, ms := t.ms, trace := t.trace }))

/-- Every command, in every state, answers a next state; it leaves the queue as it is, and what is fused only moves as fuses do.
[Model choices: log entries 3, 4.] -/
def Obligations.EveryCommandAnswersAndKeepsTheQueue : Prop :=
  ∀ (c : Instr) (s : State), Runs c s (fun t => t.pending = s.pending ∧ t.peerGib = s.peerGib ∧ FusesKept s.fuses t.fuses)

/-- Every step keeps memory and the register map in their canonical form, and every waiting command well formed.
[Model choices: log entries 2, 3.] -/
def Obligations.StepsKeepTheCanonicalForm : Prop :=
  ∀ (s t : State), Canonical s → QueueWf s → step s = .next t → Canonical t ∧ QueueWf t

/-- After reset memory and registers are in their canonical form, no command waits, and every register holds its reset value;
among the values that the spec's register tables give are these.
[Model choices: log entries 1, 84.] -/
def Obligations.ResetIsCanonicalWithTheTabledValues : Prop :=
  Canonical State.reset ∧ QueueWf State.reset ∧ State.reset.pending = [] ∧ State.reset.sent = [] ∧ State.reset.dtime = 0
  ∧ (∀ a, State.reset.reg a = regReset a)
  ∧ (∀ i, i < 128 → State.reset.tileState i = tsIDLE) ∧ (∀ c, c < 64 → State.reset.ctxState c = 0)
  ∧ State.reset.rf rPM_CTRL fPM_CTRL_PARK_US = 100 ∧ State.reset.rf rPM_CTRL fPM_CTRL_BIST = 1
  ∧ State.reset.rf rPM_GATE_CFG fPM_GATE_CFG_GATE_DELAY = 256 ∧ State.reset.rf rPM_GATE_CFG fPM_GATE_CFG_IDLE_DELAY_US = 50
  ∧ (∀ i, i < 2 → State.reset.rf (rSI_TIMING i) fSI_TIMING_OUT_PERIOD_MS = 20 ∧ State.reset.rf (rSI_TIMING i) fSI_TIMING_EFT_PERIOD_MS = 10)
  ∧ State.reset.reg (rHUB_UNTESTED 0) = BitVec.allOnes 64 ∧ State.reset.reg (rHUB_UNTESTED 1) = BitVec.allOnes 64
  ∧ (State.reset.reg (rHUB_UNTESTED 2)).toNat = 2 ^ 56 - 1

/-- R404, R436 and R465: only a register write or a fuse command changes a fuse; the fused SVN never falls, a revoked key slot
stays revoked, and what identifies the part stays as it is. R372, R454: only supplies, RESET_N, HUB's clock, the thermal trip and
OFF reach the always-on domain. Memory and flash change by the commands named for them only.
[Model choices: log entries 4, 9.] -/
def Obligations.OnlyNamedCommandsReachFusesFlashAndMemory : Prop :=
  ∀ (c : Instr) (s : State), Runs c s (fun t =>
    FusesKept s.fuses t.fuses ∧ (mayChangeFuses c = false → t.fuses = s.fuses)
    ∧ (mayChangeAlwaysOn c = false → t.aon = s.aon) ∧ (mayChangeFlash c = false → t.flash = s.flash)
    ∧ (mayChangeMemory c = false → t.mem = s.mem ∧ ∀ a, t.mem.byte a = s.mem.byte a))

/-- R328 to R331 and R381: no command but those named reaches an island, whatever state the part is in, and what an island does
leaves the tiles, the contexts, memory, the flash, the fuses and every other part of the machine as they are, but for the count of
its refused reads at HUB and, while a power state is entered, for the harts that an abort by its veto lets run on.
[Model choices: log entries 4, 79.] -/
def Obligations.IslandsAreApartFromTheRest : Prop :=
  ∀ (c : Instr) (s : State), Runs c s (fun t =>
    (mayChangeIslands c = false → t.isl = s.isl)
    ∧ (islandCommand c = true → t.mem = s.mem ∧ t.tiles = s.tiles ∧ t.fuses = s.fuses ∧ t.flash = s.flash ∧ t.aon = s.aon
        ∧ t.plan = s.plan ∧ t.sh = s.sh ∧ t.ms = s.ms ∧ t.th = s.th ∧ t.tests = s.tests ∧ t.sk = s.sk ∧ t.ch = s.ch
        ∧ (s.entering = false → t.harts = s.harts) ∧ t.bus = { s.bus with islandRefused := t.bus.islandRefused } ∧ t.dbg = s.dbg
            ∧ t.pcieReads = s.pcieReads))
end

