-- ==== Sys2Proof/Laws/Maps.lean ====
section
/-!
SUPPORT. Ascending lists: what the maps and sets of the model keep, and what they answer.
-/
namespace Sys2Proof.Machine

theorem ascending_iff (l : List Nat) : ascending l = true ↔ l.Pairwise (· < ·) := by
  induction l with
  | nil => simp [ascending]
  | cons a r ih =>
    cases r with
    | nil => simp [ascending]
    | cons b r =>
      simp only [ascending, Bool.and_eq_true, decide_eq_true_eq, ih, List.pairwise_cons]
      constructor
      · rintro ⟨h, h1, h2⟩
        exact ⟨fun x hx => by
          rcases List.mem_cons.1 hx with rfl | hx
          · exact h
          · exact lt_trans h (h1 x hx), h1, h2⟩
      · rintro ⟨h, h1, h2⟩
        exact ⟨h b (by simp), h1, h2⟩

theorem ascending_sublist {l m : List Nat} (h : l.Sublist m) (hm : ascending m = true) : ascending l = true :=
  (ascending_iff l).2 (((ascending_iff m).1 hm).sublist h)

theorem ascending_filter {l : List Nat} (p : Nat → Bool) (h : ascending l = true) : ascending (l.filter p) = true :=
  ascending_sublist List.filter_sublist h

theorem ascending_keys_filter {α : Type} {l : List (Nat × α)} (p : Nat × α → Bool) (h : ascending (l.map (·.1)) = true) :
    ascending ((l.filter p).map (·.1)) = true :=
  ascending_sublist (List.filter_sublist.map _) h

theorem mem_setIns (l : List Nat) (a x : Nat) : x ∈ setIns l a ↔ x = a ∨ x ∈ l := by
  induction l with
  | nil => simp [setIns]
  | cons k r ih =>
    simp only [setIns]
    split
    · simp
    · split
      · next h => simp [h]
      · simp only [List.mem_cons, ih]
        tauto

theorem ascending_setIns {l : List Nat} (a : Nat) (h : ascending l = true) : ascending (setIns l a) = true := by
  rw [ascending_iff] at h ⊢
  induction l with
  | nil => simp [setIns]
  | cons k r ih =>
    obtain ⟨h1, h2⟩ := List.pairwise_cons.1 h
    simp only [setIns]
    split
    · next hk =>
      refine List.pairwise_cons.2 ⟨fun x hx => ?_, h⟩
      rcases List.mem_cons.1 hx with rfl | hx
      · exact hk
      · exact lt_trans hk (h1 x hx)
    · split
      · exact h
      · next hk hne =>
        refine List.pairwise_cons.2 ⟨fun x hx => ?_, ih h2⟩
        rcases (mem_setIns r a x).1 hx with rfl | hx
        · omega
        · exact h1 x hx

theorem ascending_setDel {l : List Nat} (a : Nat) (h : ascending l = true) : ascending (setDel l a) = true :=
  ascending_filter _ h

theorem ascending_foldl_setIns (xs : List Nat) : ∀ {l : List Nat}, ascending l = true → ascending (xs.foldl setIns l) = true := by
  induction xs with
  | nil => intro l h; exact h
  | cons x r ih => intro l h; exact ih (ascending_setIns x h)

theorem ascending_foldl_setDel (xs : List Nat) : ∀ {l : List Nat}, ascending l = true → ascending (xs.foldl setDel l) = true := by
  induction xs with
  | nil => intro l h; exact h
  | cons x r ih => intro l h; exact ih (ascending_setDel x h)

theorem mem_mapPut_keys {α : Type} (l : List (Nat × α)) (a : Nat) (w : α) (x : Nat) :
    x ∈ (mapPut l a w).map (·.1) ↔ x = a ∨ x ∈ l.map (·.1) := by
  induction l with
  | nil => simp [mapPut]
  | cons p r ih =>
    obtain ⟨k, v⟩ := p
    simp only [mapPut]
    split
    · simp
    · split
      · next h => simp [h]
      · simp only [List.map_cons, List.mem_cons, ih]
        tauto

theorem ascending_mapPut {α : Type} {l : List (Nat × α)} (a : Nat) (w : α) (h : ascending (l.map (·.1)) = true) :
    ascending ((mapPut l a w).map (·.1)) = true := by
  rw [ascending_iff] at h ⊢
  induction l with
  | nil => simp [mapPut]
  | cons p r ih =>
    obtain ⟨k, v⟩ := p
    rw [List.map_cons] at h
    obtain ⟨h1, h2⟩ := List.pairwise_cons.1 h
    simp only [mapPut]
    split
    · next hk =>
      rw [List.map_cons, List.map_cons]
      refine List.pairwise_cons.2 ⟨fun x hx => ?_, h⟩
      rcases List.mem_cons.1 hx with rfl | hx
      · exact hk
      · exact lt_trans hk (h1 x hx)
    · split
      · next hk =>
        subst hk
        rw [List.map_cons]
        exact h
      · next hk hne =>
        rw [List.map_cons]
        refine List.pairwise_cons.2 ⟨fun x hx => ?_, ih h2⟩
        rcases (mem_mapPut_keys r a w x).1 hx with rfl | hx
        · show k < x
          omega
        · exact h1 x hx

theorem ascending_mapDel {α : Type} {l : List (Nat × α)} (a : Nat) (h : ascending (l.map (·.1)) = true) :
    ascending ((mapDel l a).map (·.1)) = true :=
  ascending_keys_filter _ h

theorem mem_mapPut {α : Type} {l : List (Nat × α)} {a : Nat} {w : α} {x : Nat × α} (h : x ∈ mapPut l a w) :
    x = (a, w) ∨ x ∈ l := by
  induction l with
  | nil => simp [mapPut] at h; exact .inl h
  | cons p r ih =>
    obtain ⟨k, v⟩ := p
    simp only [mapPut] at h
    split at h
    · simpa using h
    · split at h
      · rcases List.mem_cons.1 h with h | h
        · exact .inl h
        · exact .inr (List.mem_cons_of_mem _ h)
      · rcases List.mem_cons.1 h with h | h
        · exact .inr (by simp [h])
        · rcases ih h with h | h
          · exact .inl h
          · exact .inr (List.mem_cons_of_mem _ h)

/-- What a map answers after an entry is put in. -/
theorem mapGet_mapPut {α : Type} (l : List (Nat × α)) (a b : Nat) (w : α) :
    mapGet (mapPut l a w) b = if b = a then some w else mapGet l b := by
  induction l with
  | nil => simp only [mapPut, mapGet]; split <;> simp_all [eq_comm]
  | cons p r ih =>
    obtain ⟨k, v⟩ := p
    simp only [mapPut]
    split
    · simp only [mapGet]; split <;> simp_all [eq_comm]
    · split
      · simp only [mapGet]; split <;> simp_all [eq_comm]
      · simp only [mapGet, ih]
        split <;> split <;> simp_all

/-- What a map answers after an entry is taken out. -/
theorem mapGet_mapDel {α : Type} (l : List (Nat × α)) (a b : Nat) :
    mapGet (mapDel l a) b = if b = a then none else mapGet l b := by
  induction l with
  | nil => simp [mapDel, mapGet]
  | cons p r ih =>
    obtain ⟨k, v⟩ := p
    unfold mapDel at ih ⊢
    by_cases hk : k = a
    · subst hk
      simp only [bne_self_eq_false, Bool.false_eq_true, not_false_eq_true, List.filter_cons_of_neg, ih, mapGet]
      split <;> simp_all [eq_comm]
    · have : (k != a) = true := by simpa using hk
      simp only [List.filter_cons, this, if_true, mapGet, ih]
      split <;> split <;> simp_all

end Sys2Proof.Machine
end

