-- ==== Sys2Proof/Laws/Regs.lean ====
section
/-!
SUPPORT. Registers and their fields: what reads after a write, and the canonical form of the register map.
-/
namespace Sys2Proof.Machine

/-! ## The register map -/

theorem regsOk_iff (l : List (Nat × Word)) :
    regsOk l = true ↔ ascending (l.map (·.1)) = true ∧ ∀ r ∈ l, r.2 ≠ regReset r.1 := by
  simp [regsOk, List.all_eq_true]

theorem regsOk_regsPut {l : List (Nat × Word)} (a : Addr) (w : Word) (h : regsOk l = true) : regsOk (regsPut l a w) = true := by
  rw [regsOk_iff] at h ⊢
  unfold regsPut
  split
  · exact ⟨ascending_mapDel a h.1, fun r hr => h.2 r (List.mem_of_mem_filter hr)⟩
  · next hw =>
    refine ⟨ascending_mapPut a w h.1, fun r hr => ?_⟩
    rcases mem_mapPut hr with rfl | hr
    · exact hw
    · exact h.2 r hr

theorem regsOk_filter {l : List (Nat × Word)} (p : Nat × Word → Bool) (h : regsOk l = true) : regsOk (l.filter p) = true := by
  rw [regsOk_iff] at h ⊢
  exact ⟨ascending_keys_filter p h.1, fun r hr => h.2 r (List.mem_of_mem_filter hr)⟩

/-- A register reads what was last written to it; every other register reads as before. -/
theorem State.reg_setReg (s : State) (a b : Addr) (w : Word) : (s.setReg a w).reg b = if b = a then w else s.reg b := by
  unfold State.reg State.setReg regsPut
  dsimp only
  split
  · next h =>
    rw [mapGet_mapDel]
    split
    · next hb => subst hb; simp [h]
    · rfl
  · rw [mapGet_mapPut]
    split <;> rfl

theorem State.reg_setReg_same (s : State) (a : Addr) (w : Word) : (s.setReg a w).reg a = w := by rw [State.reg_setReg, if_pos rfl]

theorem State.reg_setReg_other (s : State) {a b : Addr} (w : Word) (h : b ≠ a) : (s.setReg a w).reg b = s.reg b := by
  rw [State.reg_setReg, if_neg h]

/-! ## Fields -/

/-- A field lies in a word. -/
def Fld.ok (f : Fld) : Bool := decide (f.lo ≤ f.hi ∧ f.hi < 64)

/-- Two fields share no bit. -/
def Fld.apart (f g : Fld) : Bool := decide (f.hi < g.lo ∨ g.hi < f.lo)

theorem Fld.get_lt (f : Fld) (w : Word) : f.get w < 2 ^ f.width := Nat.mod_lt _ (Nat.two_pow_pos _)

/-- A word around a field: what stands above it, in it, and below it. -/
theorem Fld.split (f : Fld) (n : Nat) :
    n = n / 2 ^ f.lo / 2 ^ f.width * 2 ^ (f.lo + f.width) + n / 2 ^ f.lo % 2 ^ f.width * 2 ^ f.lo + n % 2 ^ f.lo := by
  have h1 := Nat.div_add_mod n (2 ^ f.lo)
  have h2 := Nat.div_add_mod (n / 2 ^ f.lo) (2 ^ f.width)
  rw [Nat.pow_add]
  calc n = 2 ^ f.lo * (n / 2 ^ f.lo) + n % 2 ^ f.lo := h1.symm
    _ = 2 ^ f.lo * (2 ^ f.width * (n / 2 ^ f.lo / 2 ^ f.width) + n / 2 ^ f.lo % 2 ^ f.width) + n % 2 ^ f.lo := by rw [h2]
    _ = _ := by ring

theorem Fld.set_toNat {f : Fld} (hf : f.ok = true) (w : Word) (v : Nat) :
    (f.set w v).toNat = w.toNat / 2 ^ f.lo / 2 ^ f.width * 2 ^ (f.lo + f.width) + v % 2 ^ f.width * 2 ^ f.lo + w.toNat % 2 ^ f.lo := by
  simp only [Fld.ok, decide_eq_true_eq] at hf
  have hw : f.lo + f.width ≤ 64 := by unfold Fld.width; omega
  have hlt := w.isLt
  have hsp := f.split w.toNat
  have hv : v % 2 ^ f.width < 2 ^ f.width := Nat.mod_lt _ (Nat.two_pow_pos _)
  have hg : w.toNat / 2 ^ f.lo % 2 ^ f.width < 2 ^ f.width := Nat.mod_lt _ (Nat.two_pow_pos _)
  have hb : w.toNat % 2 ^ f.lo < 2 ^ f.lo := Nat.mod_lt _ (Nat.two_pow_pos _)
  have hpow : 2 ^ (f.lo + f.width) = 2 ^ f.width * 2 ^ f.lo := by rw [Nat.pow_add, Nat.mul_comm]
  have h64 : ∃ k, 2 ^ 64 = k * 2 ^ (f.lo + f.width) := ⟨2 ^ (64 - (f.lo + f.width)), by rw [← Nat.pow_add]; congr 1; omega⟩
  obtain ⟨k, hk⟩ := h64
  generalize hA : w.toNat / 2 ^ f.lo / 2 ^ f.width = A at hsp ⊢
  generalize hG : w.toNat / 2 ^ f.lo % 2 ^ f.width = G at hsp hg
  generalize hB : w.toNat % 2 ^ f.lo = B at hsp hb ⊢
  generalize hV : v % 2 ^ f.width = V at hv ⊢
  generalize hP : 2 ^ (f.lo + f.width) = P at *
  generalize hQ : 2 ^ f.lo = Q at *
  generalize hR : 2 ^ f.width = R at *
  have hA' : A < k := by
    by_contra hcon
    have : k * P ≤ A * P := Nat.mul_le_mul_right _ (by omega)
    omega
  have hVQ : V * Q + Q ≤ P := by
    have : (V + 1) * Q ≤ R * Q := Nat.mul_le_mul_right _ hv
    rw [hpow]; linarith [Nat.add_mul V 1 Q]
  have hGQ : G * Q + Q ≤ P := by
    have : (G + 1) * Q ≤ R * Q := Nat.mul_le_mul_right _ hg
    rw [hpow]; linarith [Nat.add_mul G 1 Q]
  have hAP : A * P + P ≤ 2 ^ 64 := by
    have : (A + 1) * P ≤ k * P := Nat.mul_le_mul_right _ hA'
    rw [hk]; linarith [Nat.add_mul A 1 P]
  have hget : f.get w = G := by unfold Fld.get; rw [hQ, hR]; exact hG
  unfold Fld.set
  rw [hget, hQ, hR, hV]
  simp only [BitVec.toNat_add, BitVec.toNat_sub, BitVec.toNat_ofNat]
  omega

theorem Fld.get_set_same {f : Fld} (hf : f.ok = true) (w : Word) (v : Nat) : f.get (f.set w v) = v % 2 ^ f.width := by
  unfold Fld.get
  rw [Fld.set_toNat hf]
  have hb : w.toNat % 2 ^ f.lo < 2 ^ f.lo := Nat.mod_lt _ (Nat.two_pow_pos _)
  have e : w.toNat / 2 ^ f.lo / 2 ^ f.width * 2 ^ (f.lo + f.width) + v % 2 ^ f.width * 2 ^ f.lo + w.toNat % 2 ^ f.lo
      = 2 ^ f.lo * (2 ^ f.width * (w.toNat / 2 ^ f.lo / 2 ^ f.width) + v % 2 ^ f.width) + w.toNat % 2 ^ f.lo := by
    rw [Nat.pow_add]; ring
  rw [e, Nat.mul_add_div (Nat.two_pow_pos _), Nat.div_eq_of_lt hb, Nat.add_zero, Nat.mul_add_mod,
    Nat.mod_mod]

theorem Fld.get_set_apart {f g : Fld} (hf : f.ok = true) (hg : g.ok = true) (h : f.apart g = true) (w : Word) (v : Nat) :
    g.get (f.set w v) = g.get w := by
  simp only [Fld.ok, Fld.apart, decide_eq_true_eq] at hf hg h
  unfold Fld.get
  rw [Fld.set_toNat (by simp [Fld.ok, hf])]
  have hsp := f.split w.toNat
  have hb : w.toNat % 2 ^ f.lo < 2 ^ f.lo := Nat.mod_lt _ (Nat.two_pow_pos _)
  generalize hA : w.toNat / 2 ^ f.lo / 2 ^ f.width = A at hsp ⊢
  have hG : w.toNat / 2 ^ f.lo % 2 ^ f.width < 2 ^ f.width := Nat.mod_lt _ (Nat.two_pow_pos _)
  have hV : v % 2 ^ f.width < 2 ^ f.width := Nat.mod_lt _ (Nat.two_pow_pos _)
  have hlow : ∀ x, x < 2 ^ f.width → x * 2 ^ f.lo + w.toNat % 2 ^ f.lo < 2 ^ (f.lo + f.width) := by
    intro x hx
    have : (x + 1) * 2 ^ f.lo ≤ 2 ^ f.width * 2 ^ f.lo := Nat.mul_le_mul_right _ hx
    rw [Nat.pow_add, Nat.mul_comm (2 ^ f.lo)]
    linarith [Nat.add_mul x 1 (2 ^ f.lo)]
  conv_rhs => rw [hsp]
  rcases h with h | h
  · have hlo : ∃ k, 2 ^ g.lo = 2 ^ (f.lo + f.width) * k := ⟨2 ^ (g.lo - (f.lo + f.width)), by
      rw [← Nat.pow_add]; congr 1; unfold Fld.width; omega⟩
    obtain ⟨k, hk⟩ := hlo
    rw [hk, ← Nat.div_div_eq_div_mul, ← Nat.div_div_eq_div_mul, Nat.add_assoc, Nat.add_assoc, Nat.mul_comm A,
      Nat.mul_add_div (Nat.two_pow_pos _), Nat.mul_add_div (Nat.two_pow_pos _), Nat.div_eq_of_lt (hlow _ hV),
      Nat.div_eq_of_lt (hlow _ hG)]
  · have hlo : ∃ k, 2 ^ f.lo = 2 ^ g.lo * (2 ^ g.width * k) := ⟨2 ^ (f.lo - (g.lo + g.width)), by
      rw [← Nat.mul_assoc, ← Nat.pow_add, ← Nat.pow_add]; congr 1; unfold Fld.width; omega⟩
    obtain ⟨k, hk⟩ := hlo
    have key : ∀ x, (A * 2 ^ (f.lo + f.width) + x * 2 ^ f.lo + w.toNat % 2 ^ f.lo) / 2 ^ g.lo % 2 ^ g.width
        = w.toNat % 2 ^ f.lo / 2 ^ g.lo % 2 ^ g.width := by
      intro x
      have e : A * 2 ^ (f.lo + f.width) + x * 2 ^ f.lo + w.toNat % 2 ^ f.lo
          = 2 ^ g.lo * (2 ^ g.width * (k * (A * 2 ^ f.width + x))) + w.toNat % 2 ^ f.lo := by
        rw [Nat.pow_add, hk]; ring
      rw [e, Nat.mul_add_div (Nat.two_pow_pos _), Nat.mul_add_mod]
    rw [key, key]

/-- A field reads what was last written to it, cut to its width. -/
theorem State.rf_wf_same {s : State} {a : Addr} {f : Fld} (hf : f.ok = true) (v : Nat) : (s.wf a f v).rf a f = v % 2 ^ f.width := by
  unfold State.rf State.wf
  rw [State.reg_setReg_same, Fld.get_set_same hf]

/-- A field keeps its value under a write to another field of its register. -/
theorem State.rf_wf_apart {s : State} {a : Addr} {f g : Fld} (hf : f.ok = true) (hg : g.ok = true) (h : f.apart g = true)
    (v : Nat) : (s.wf a f v).rf a g = s.rf a g := by
  unfold State.rf State.wf
  rw [State.reg_setReg_same, Fld.get_set_apart hf hg h]

/-- A field keeps its value under a write to another register. -/
theorem State.rf_wf_other {s : State} {a b : Addr} {f g : Fld} (h : b ≠ a) (v : Nat) : (s.wf a f v).rf b g = s.rf b g := by
  unfold State.rf State.wf
  rw [State.reg_setReg_other _ _ h]

theorem State.rf_setReg_other {s : State} {a b : Addr} {g : Fld} (h : b ≠ a) (w : Word) : (s.setReg a w).rf b g = s.rf b g := by
  unfold State.rf
  rw [State.reg_setReg_other _ _ h]

end Sys2Proof.Machine
end

