-- ==== Sys2Proof/Laws/Mem.lean ====
section
/-!
SUPPORT. Memory: every operation keeps the canonical form, and a byte reads what was last written to it.
-/
namespace Sys2Proof.Machine

theorem Mem.wf_iff (m : Mem) :
    m.wf = true ↔ ascending (m.cells.map (·.1)) = true ∧ (∀ c ∈ m.cells, c.2 ≠ unwritten) ∧ ascending m.poison = true
      ∧ ascending (m.dieLines.map (·.1)) = true ∧ ascending m.sramLines = true ∧ ascending m.badWords = true
      ∧ ascending m.softWords = true ∧ ascending m.lost = true ∧ ascending m.saved = true := by
  simp only [Mem.wf, Bool.and_eq_true, List.all_eq_true, bne_iff_ne, ne_eq, and_assoc]

/-! ## The canonical form -/

theorem Mem.wf_setByte {m : Mem} (a : Addr) (b : Byte) (h : m.wf = true) : (m.setByte a b).wf = true := by
  rw [Mem.wf_iff] at h ⊢
  obtain ⟨h1, h2, h3⟩ := h
  refine ⟨?_, ?_, h3⟩
  · show ascending ((cellsPut m.cells a b).map (·.1)) = true
    unfold cellsPut
    split
    · exact ascending_mapDel a h1
    · exact ascending_mapPut a b h1
  · show ∀ c ∈ cellsPut m.cells a b, c.2 ≠ unwritten
    unfold cellsPut
    split
    · exact fun c hc => h2 c (List.mem_of_mem_filter hc)
    · next hb =>
      intro c hc
      rcases mem_mapPut hc with rfl | hc
      · exact hb
      · exact h2 c hc

theorem Mem.wf_setBytes (bs : List Byte) : ∀ {m : Mem} (a : Addr), m.wf = true → (m.setBytes a bs).wf = true := by
  induction bs with
  | nil => intro m a h; exact h
  | cons b r ih => intro m a h; exact ih (a + 1) (Mem.wf_setByte a b h)

theorem ascending_foldl_mapPut {α : Type} (f : List (Nat × α) → Nat → α) (xs : List Nat) :
    ∀ {l : List (Nat × α)}, ascending (l.map (·.1)) = true →
      ascending ((xs.foldl (fun d x => mapPut d x (f d x)) l).map (·.1)) = true := by
  induction xs with
  | nil => intro l h; exact h
  | cons x r ih => intro l h; exact ih (ascending_mapPut x _ h)

theorem Mem.wf_clean {m : Mem} (a : Addr) (n : Nat) (h : m.wf = true) : (m.clean a n).wf = true := by
  rw [Mem.wf_iff] at h ⊢
  obtain ⟨h1, h2, h3, h4, h5, h6, h7, h8, h9⟩ := h
  refine ⟨h1, h2, ascending_foldl_setDel _ h3, ?_, ?_, ?_, ?_, h8, ascending_foldl_setIns _ h9⟩
  · simp only [Mem.clean]
    split
    · exact ascending_foldl_mapPut _ _ h4
    · exact h4
  · simp only [Mem.clean]
    split
    · exact ascending_foldl_setIns _ h5
    · exact h5
  · simp only [Mem.clean]
    split
    · exact ascending_filter _ (ascending_foldl_setDel _ h6)
    · exact ascending_foldl_setDel _ h6
  · simp only [Mem.clean]
    split
    · exact ascending_filter _ (ascending_foldl_setDel _ h7)
    · exact ascending_foldl_setDel _ h7

theorem Mem.wf_write {m : Mem} (a : Addr) (bs : List Byte) (h : m.wf = true) : (m.write a bs).wf = true :=
  Mem.wf_clean _ _ (Mem.wf_setBytes bs a h)

theorem Mem.wf_putPoison {m : Mem} (a n : Nat) (h : m.wf = true) : (m.putPoison a n).wf = true := by
  rw [Mem.wf_iff] at h ⊢
  obtain ⟨h1, h2, h3, h4⟩ := h
  exact ⟨h1, h2, ascending_foldl_setIns _ h3, h4⟩

theorem Mem.wf_forget {m : Mem} (a n : Nat) (h : m.wf = true) : (m.forget a n).wf = true := by
  rw [Mem.wf_iff] at h ⊢
  obtain ⟨h1, h2, h3, h4, h5, h6, h7⟩ := h
  exact ⟨ascending_keys_filter _ h1, fun c hc => h2 c (List.mem_of_mem_filter hc), h3, ascending_keys_filter _ h4,
    ascending_filter _ h5, ascending_filter _ h6, h7⟩

theorem Mem.wf_poison {m : Mem} {l : List Nat} (h : m.wf = true) (hl : ascending m.poison = true → ascending l = true) :
    ({ m with poison := l } : Mem).wf = true := by
  rw [Mem.wf_iff] at h ⊢
  obtain ⟨h1, h2, h3, h4⟩ := h
  exact ⟨h1, h2, hl h3, h4⟩

theorem Mem.wf_saved {m : Mem} {l : List Nat} (h : m.wf = true) (hl : ascending m.saved = true → ascending l = true) :
    ({ m with saved := l } : Mem).wf = true := by
  rw [Mem.wf_iff] at h ⊢
  obtain ⟨h1, h2, h3, h4, h5, h6, h7, h8, h9⟩ := h
  exact ⟨h1, h2, h3, h4, h5, h6, h7, h8, hl h9⟩

theorem Mem.wf_cacheOnly {m : Mem} {l : List Nat} (h : m.wf = true) : ({ m with cacheOnly := l } : Mem).wf = true := h

theorem Mem.wf_inCache {m : Mem} (us : List Nat) (h : m.wf = true) : (m.inCache us).wf = true := h

theorem Mem.wf_flip {m : Mem} (w : Nat) (double : Bool) (h : m.wf = true) : (m.flip w double).wf = true := by
  rw [Mem.wf_iff] at h
  obtain ⟨h1, h2, h3, h4, h5, h6, h7, h8⟩ := h
  unfold Mem.flip
  split
  · exact (Mem.wf_iff _).2 ⟨h1, h2, h3, h4, h5, ascending_setIns _ h6, ascending_filter _ h7, h8⟩
  · exact (Mem.wf_iff _).2 ⟨h1, h2, h3, h4, h5, h6, ascending_setIns _ h7, h8⟩

/-! ## Reading after writing -/

/-- The number of the wild range an address lies in. -/
def wildNum (w : List (Nat × Nat × Nat)) (a : Nat) : Option Nat := (wildAt w a).map (fun r => r.2.2)

theorem Mem.byte_eq (m : Mem) (a : Addr) :
    m.byte a = match wildNum m.wild a with
      | some n => Config.saveByte n a
      | none => (mapGet m.cells a).getD unwritten := by
  unfold Mem.byte wildNum
  cases wildAt m.wild a <;> rfl

theorem wildNum_cons (r : Nat × Nat × Nat) (w : List (Nat × Nat × Nat)) (x : Nat) :
    wildNum (r :: w) x = if r.1 ≤ x ∧ x < r.2.1 then some r.2.2 else wildNum w x := by
  unfold wildNum wildAt
  rw [List.find?_cons]
  by_cases h : r.1 ≤ x ∧ x < r.2.1
  · simp [h]
  · rw [if_neg h]
    have : (decide (r.1 ≤ x) && decide (x < r.2.1)) = false := by
      simpa using h
    simp [this]

theorem carve_cons (r : Nat × Nat × Nat) (w : List (Nat × Nat × Nat)) (a : Nat) :
    carve (r :: w) a = ((if r.1 ≤ a ∧ a < r.2.1 then [(r.1, a, r.2.2), (a + 1, r.2.1, r.2.2)] else [r]).filter
      (fun r => decide (r.1 < r.2.1))) ++ carve w a := by
  unfold carve
  rw [List.flatMap_cons, List.filter_append]

theorem wildNum_skip (r : Nat × Nat × Nat) (w : List (Nat × Nat × Nat)) (x : Nat) :
    wildNum (([r].filter (fun r => decide (r.1 < r.2.1))) ++ w) x = wildNum (r :: w) x := by
  by_cases h : r.1 < r.2.1
  · simp [h]
  · rw [wildNum_cons, if_neg (by omega)]
    simp [h]

theorem wildNum_carve (w : List (Nat × Nat × Nat)) (a x : Nat) :
    wildNum (carve w a) x = if x = a then none else wildNum w x := by
  induction w with
  | nil => simp [carve, wildNum, wildAt]
  | cons r w ih =>
    rw [carve_cons]
    split
    · next h =>
      have e : ([(r.1, a, r.2.2), (a + 1, r.2.1, r.2.2)].filter (fun r => decide (r.1 < r.2.1))) ++ carve w a
          = ([(r.1, a, r.2.2)].filter (fun r => decide (r.1 < r.2.1)))
            ++ (([(a + 1, r.2.1, r.2.2)].filter (fun r => decide (r.1 < r.2.1))) ++ carve w a) := by
        rw [← List.append_assoc, ← List.filter_append]; rfl
      rw [e, wildNum_skip, wildNum_cons, wildNum_skip, wildNum_cons, ih, wildNum_cons]
      dsimp only
      split_ifs <;> first | rfl | omega
    · next h =>
      rw [wildNum_skip, wildNum_cons, ih, wildNum_cons]
      split_ifs <;> first | rfl | omega

/-- The written byte reads as written; every other byte reads as before. -/
theorem Mem.byte_setByte (m : Mem) (a x : Nat) (b : Byte) : (m.setByte a b).byte x = if x = a then b else m.byte x := by
  rw [Mem.byte_eq, Mem.byte_eq]
  show (match wildNum (carve m.wild a) x with
      | some n => Config.saveByte n x
      | none => (mapGet (cellsPut m.cells a b) x).getD unwritten) = _
  rw [wildNum_carve]
  by_cases hx : x = a
  · subst hx
    simp only [if_true]
    unfold cellsPut
    split
    · next hb => rw [mapGet_mapDel, if_pos rfl, hb]; rfl
    · rw [mapGet_mapPut, if_pos rfl]; rfl
  · simp only [if_neg hx]
    cases wildNum m.wild x with
    | some n => rfl
    | none =>
      dsimp only
      unfold cellsPut
      split
      · rw [mapGet_mapDel, if_neg hx]
      · rw [mapGet_mapPut, if_neg hx]

theorem Mem.byte_setBytes (bs : List Byte) : ∀ (m : Mem) (a x : Nat),
    (m.setBytes a bs).byte x = if a ≤ x ∧ x < a + bs.length then bs.getD (x - a) unwritten else m.byte x := by
  induction bs with
  | nil => intro m a x; rw [if_neg (by simp)]; rfl
  | cons b r ih =>
    intro m a x
    show ((m.setByte a b).setBytes (a + 1) r).byte x = _
    rw [ih, Mem.byte_setByte]
    simp only [List.length_cons]
    by_cases hx : x = a
    · subst hx
      rw [if_neg (by omega), if_pos rfl, if_pos (by omega)]
      simp
    · rw [if_neg hx]
      by_cases h : a + 1 ≤ x ∧ x < a + 1 + r.length
      · rw [if_pos h, if_pos (by omega)]
        obtain ⟨k, hk⟩ : ∃ k, x - a = k + 1 := ⟨x - a - 1, by omega⟩
        rw [hk, show x - (a + 1) = k by omega]
        rfl
      · rw [if_neg h, if_neg (by omega)]

theorem Mem.byte_clean (m : Mem) (a n : Nat) (x : Addr) : (m.clean a n).byte x = m.byte x := rfl

/-- A write of bytes: each reads as written, and every byte outside them as before. -/
theorem Mem.byte_write (m : Mem) (a x : Nat) (bs : List Byte) :
    (m.write a bs).byte x = if a ≤ x ∧ x < a + bs.length then bs.getD (x - a) unwritten else m.byte x := by
  unfold Mem.write
  rw [Mem.byte_clean, Mem.byte_setBytes]

/-- What was written reads back. -/
theorem Mem.read_write (m : Mem) (a : Nat) (bs : List Byte) : (m.write a bs).read a bs.length = bs := by
  unfold Mem.read
  apply List.ext_getElem
  · simp
  · intro i _ h2
    simp only [List.getElem_map, List.getElem_range]
    rw [Mem.byte_write, if_pos ⟨by omega, by omega⟩, show a + i - a = i by omega]
    simp [h2]

end Sys2Proof.Machine
end

