-- ==== Sys2Proof/Laws/State.lean ====
section
/-!
SUPPORT. Fields of State under the named updates: each update changes its own field and no other.
-/
namespace Sys2Proof.Machine

/-! ### setReg -/

@[simp] theorem State.setReg_regs (s : State) (a : Addr) (w : Word) : (s.setReg a w).regs = regsPut s.regs a w := rfl
@[simp] theorem State.setReg_mem (s : State) (a : Addr) (w : Word) : (s.setReg a w).mem = s.mem := rfl
@[simp] theorem State.setReg_bus (s : State) (a : Addr) (w : Word) : (s.setReg a w).bus = s.bus := rfl
@[simp] theorem State.setReg_time (s : State) (a : Addr) (w : Word) : (s.setReg a w).time = s.time := rfl
@[simp] theorem State.setReg_tiles (s : State) (a : Addr) (w : Word) : (s.setReg a w).tiles = s.tiles := rfl
@[simp] theorem State.setReg_hub (s : State) (a : Addr) (w : Word) : (s.setReg a w).hub = s.hub := rfl
@[simp] theorem State.setReg_fuses (s : State) (a : Addr) (w : Word) : (s.setReg a w).fuses = s.fuses := rfl
@[simp] theorem State.setReg_sent (s : State) (a : Addr) (w : Word) : (s.setReg a w).sent = s.sent := rfl
@[simp] theorem State.setReg_peerGib (s : State) (a : Addr) (w : Word) : (s.setReg a w).peerGib = s.peerGib := rfl
@[simp] theorem State.setReg_trace (s : State) (a : Addr) (w : Word) : (s.setReg a w).trace = s.trace := rfl
@[simp] theorem State.setReg_debug (s : State) (a : Addr) (w : Word) : (s.setReg a w).dbg = s.dbg := rfl
@[simp] theorem State.setReg_pcieReads (s : State) (a : Addr) (w : Word) : (s.setReg a w).pcieReads = s.pcieReads := rfl
@[simp] theorem State.setReg_tests (s : State) (a : Addr) (w : Word) : (s.setReg a w).tests = s.tests := rfl
@[simp] theorem State.setReg_th (s : State) (a : Addr) (w : Word) : (s.setReg a w).th = s.th := rfl
@[simp] theorem State.setReg_sh (s : State) (a : Addr) (w : Word) : (s.setReg a w).sh = s.sh := rfl
@[simp] theorem State.setReg_plan (s : State) (a : Addr) (w : Word) : (s.setReg a w).plan = s.plan := rfl
@[simp] theorem State.setReg_ms (s : State) (a : Addr) (w : Word) : (s.setReg a w).ms = s.ms := rfl
@[simp] theorem State.setReg_isl (s : State) (a : Addr) (w : Word) : (s.setReg a w).isl = s.isl := rfl
@[simp] theorem State.setReg_sk (s : State) (a : Addr) (w : Word) : (s.setReg a w).sk = s.sk := rfl
@[simp] theorem State.setReg_ch (s : State) (a : Addr) (w : Word) : (s.setReg a w).ch = s.ch := rfl
@[simp] theorem State.setReg_pw (s : State) (a : Addr) (w : Word) : (s.setReg a w).pw = s.pw := rfl
@[simp] theorem State.setReg_aon (s : State) (a : Addr) (w : Word) : (s.setReg a w).aon = s.aon := rfl
@[simp] theorem State.setReg_flash (s : State) (a : Addr) (w : Word) : (s.setReg a w).flash = s.flash := rfl
@[simp] theorem State.setReg_harts (s : State) (a : Addr) (w : Word) : (s.setReg a w).harts = s.harts := rfl
@[simp] theorem State.setReg_free (s : State) (a : Addr) (w : Word) : (s.setReg a w).free = s.free := rfl
@[simp] theorem State.setReg_pending (s : State) (a : Addr) (w : Word) : (s.setReg a w).pending = s.pending := rfl

/-! ### tick -/

@[simp] theorem State.tick_regs (s : State) : (s.tick).regs = s.regs := rfl
@[simp] theorem State.tick_mem (s : State) : (s.tick).mem = s.mem := rfl
@[simp] theorem State.tick_bus (s : State) : (s.tick).bus = s.bus := rfl
@[simp] theorem State.tick_time (s : State) : (s.tick).time = s.time := rfl
@[simp] theorem State.tick_tiles (s : State) : (s.tick).tiles = s.tiles := rfl
@[simp] theorem State.tick_hub (s : State) : (s.tick).hub = s.hub := rfl
@[simp] theorem State.tick_fuses (s : State) : (s.tick).fuses = s.fuses := rfl
@[simp] theorem State.tick_sent (s : State) : (s.tick).sent = s.sent := rfl
@[simp] theorem State.tick_peerGib (s : State) : (s.tick).peerGib = s.peerGib := rfl
@[simp] theorem State.tick_trace (s : State) : (s.tick).trace = s.trace := rfl
@[simp] theorem State.tick_debug (s : State) : (s.tick).dbg = s.dbg := rfl
@[simp] theorem State.tick_pcieReads (s : State) : (s.tick).pcieReads = s.pcieReads := rfl
@[simp] theorem State.tick_tests (s : State) : (s.tick).tests = s.tests := rfl
@[simp] theorem State.tick_th (s : State) : (s.tick).th = s.th := rfl
@[simp] theorem State.tick_sh (s : State) : (s.tick).sh = s.sh := rfl
@[simp] theorem State.tick_plan (s : State) : (s.tick).plan = s.plan := rfl
@[simp] theorem State.tick_ms (s : State) : (s.tick).ms = s.ms := rfl
@[simp] theorem State.tick_isl (s : State) : (s.tick).isl = s.isl := rfl
@[simp] theorem State.tick_sk (s : State) : (s.tick).sk = s.sk := rfl
@[simp] theorem State.tick_ch (s : State) : (s.tick).ch = s.ch := rfl
@[simp] theorem State.tick_pw (s : State) : (s.tick).pw = s.pw := rfl
@[simp] theorem State.tick_aon (s : State) : (s.tick).aon = s.aon := rfl
@[simp] theorem State.tick_flash (s : State) : (s.tick).flash = s.flash := rfl
@[simp] theorem State.tick_harts (s : State) : (s.tick).harts = s.harts := rfl
@[simp] theorem State.tick_free (s : State) : (s.tick).free = s.free + 1 := rfl
@[simp] theorem State.tick_pending (s : State) : (s.tick).pending = s.pending := rfl

/-! ### emit -/

@[simp] theorem State.emit_regs (s : State) (x : Sent) : (s.emit x).regs = s.regs := rfl
@[simp] theorem State.emit_mem (s : State) (x : Sent) : (s.emit x).mem = s.mem := rfl
@[simp] theorem State.emit_bus (s : State) (x : Sent) : (s.emit x).bus = s.bus := rfl
@[simp] theorem State.emit_time (s : State) (x : Sent) : (s.emit x).time = s.time := rfl
@[simp] theorem State.emit_tiles (s : State) (x : Sent) : (s.emit x).tiles = s.tiles := rfl
@[simp] theorem State.emit_hub (s : State) (x : Sent) : (s.emit x).hub = s.hub := rfl
@[simp] theorem State.emit_fuses (s : State) (x : Sent) : (s.emit x).fuses = s.fuses := rfl
@[simp] theorem State.emit_sent (s : State) (x : Sent) : (s.emit x).sent = x :: s.sent := rfl
@[simp] theorem State.emit_peerGib (s : State) (x : Sent) : (s.emit x).peerGib = s.peerGib := rfl
@[simp] theorem State.emit_trace (s : State) (x : Sent) : (s.emit x).trace = s.trace := rfl
@[simp] theorem State.emit_debug (s : State) (x : Sent) : (s.emit x).dbg = s.dbg := rfl
@[simp] theorem State.emit_pcieReads (s : State) (x : Sent) : (s.emit x).pcieReads = s.pcieReads := rfl
@[simp] theorem State.emit_tests (s : State) (x : Sent) : (s.emit x).tests = s.tests := rfl
@[simp] theorem State.emit_th (s : State) (x : Sent) : (s.emit x).th = s.th := rfl
@[simp] theorem State.emit_sh (s : State) (x : Sent) : (s.emit x).sh = s.sh := rfl
@[simp] theorem State.emit_plan (s : State) (x : Sent) : (s.emit x).plan = s.plan := rfl
@[simp] theorem State.emit_ms (s : State) (x : Sent) : (s.emit x).ms = s.ms := rfl
@[simp] theorem State.emit_isl (s : State) (x : Sent) : (s.emit x).isl = s.isl := rfl
@[simp] theorem State.emit_sk (s : State) (x : Sent) : (s.emit x).sk = s.sk := rfl
@[simp] theorem State.emit_ch (s : State) (x : Sent) : (s.emit x).ch = s.ch := rfl
@[simp] theorem State.emit_pw (s : State) (x : Sent) : (s.emit x).pw = s.pw := rfl
@[simp] theorem State.emit_aon (s : State) (x : Sent) : (s.emit x).aon = s.aon := rfl
@[simp] theorem State.emit_flash (s : State) (x : Sent) : (s.emit x).flash = s.flash := rfl
@[simp] theorem State.emit_harts (s : State) (x : Sent) : (s.emit x).harts = s.harts := rfl
@[simp] theorem State.emit_free (s : State) (x : Sent) : (s.emit x).free = s.free := rfl
@[simp] theorem State.emit_pending (s : State) (x : Sent) : (s.emit x).pending = s.pending := rfl

/-! ### modTile -/

@[simp] theorem State.modTile_regs (s : State) (t : Nat) (f : Tile → Tile) : (s.modTile t f).regs = s.regs := rfl
@[simp] theorem State.modTile_mem (s : State) (t : Nat) (f : Tile → Tile) : (s.modTile t f).mem = s.mem := rfl
@[simp] theorem State.modTile_bus (s : State) (t : Nat) (f : Tile → Tile) : (s.modTile t f).bus = s.bus := rfl
@[simp] theorem State.modTile_time (s : State) (t : Nat) (f : Tile → Tile) : (s.modTile t f).time = s.time := rfl
@[simp] theorem State.modTile_tiles (s : State) (t : Nat) (f : Tile → Tile) : (s.modTile t f).tiles = modAt s.tiles t f := rfl
@[simp] theorem State.modTile_hub (s : State) (t : Nat) (f : Tile → Tile) : (s.modTile t f).hub = s.hub := rfl
@[simp] theorem State.modTile_fuses (s : State) (t : Nat) (f : Tile → Tile) : (s.modTile t f).fuses = s.fuses := rfl
@[simp] theorem State.modTile_sent (s : State) (t : Nat) (f : Tile → Tile) : (s.modTile t f).sent = s.sent := rfl
@[simp] theorem State.modTile_peerGib (s : State) (t : Nat) (f : Tile → Tile) : (s.modTile t f).peerGib = s.peerGib := rfl
@[simp] theorem State.modTile_trace (s : State) (t : Nat) (f : Tile → Tile) : (s.modTile t f).trace = s.trace := rfl
@[simp] theorem State.modTile_debug (s : State) (t : Nat) (f : Tile → Tile) : (s.modTile t f).dbg = s.dbg := rfl
@[simp] theorem State.modTile_pcieReads (s : State) (t : Nat) (f : Tile → Tile) : (s.modTile t f).pcieReads = s.pcieReads := rfl
@[simp] theorem State.modTile_tests (s : State) (t : Nat) (f : Tile → Tile) : (s.modTile t f).tests = s.tests := rfl
@[simp] theorem State.modTile_th (s : State) (t : Nat) (f : Tile → Tile) : (s.modTile t f).th = s.th := rfl
@[simp] theorem State.modTile_sh (s : State) (t : Nat) (f : Tile → Tile) : (s.modTile t f).sh = s.sh := rfl
@[simp] theorem State.modTile_plan (s : State) (t : Nat) (f : Tile → Tile) : (s.modTile t f).plan = s.plan := rfl
@[simp] theorem State.modTile_ms (s : State) (t : Nat) (f : Tile → Tile) : (s.modTile t f).ms = s.ms := rfl
@[simp] theorem State.modTile_isl (s : State) (t : Nat) (f : Tile → Tile) : (s.modTile t f).isl = s.isl := rfl
@[simp] theorem State.modTile_sk (s : State) (t : Nat) (f : Tile → Tile) : (s.modTile t f).sk = s.sk := rfl
@[simp] theorem State.modTile_ch (s : State) (t : Nat) (f : Tile → Tile) : (s.modTile t f).ch = s.ch := rfl
@[simp] theorem State.modTile_pw (s : State) (t : Nat) (f : Tile → Tile) : (s.modTile t f).pw = s.pw := rfl
@[simp] theorem State.modTile_aon (s : State) (t : Nat) (f : Tile → Tile) : (s.modTile t f).aon = s.aon := rfl
@[simp] theorem State.modTile_flash (s : State) (t : Nat) (f : Tile → Tile) : (s.modTile t f).flash = s.flash := rfl
@[simp] theorem State.modTile_harts (s : State) (t : Nat) (f : Tile → Tile) : (s.modTile t f).harts = s.harts := rfl
@[simp] theorem State.modTile_free (s : State) (t : Nat) (f : Tile → Tile) : (s.modTile t f).free = s.free := rfl
@[simp] theorem State.modTile_pending (s : State) (t : Nat) (f : Tile → Tile) : (s.modTile t f).pending = s.pending := rfl

/-! ### modHub -/

@[simp] theorem State.modHub_regs (s : State) (f : Hub → Hub) : (s.modHub f).regs = s.regs := rfl
@[simp] theorem State.modHub_mem (s : State) (f : Hub → Hub) : (s.modHub f).mem = s.mem := rfl
@[simp] theorem State.modHub_bus (s : State) (f : Hub → Hub) : (s.modHub f).bus = s.bus := rfl
@[simp] theorem State.modHub_time (s : State) (f : Hub → Hub) : (s.modHub f).time = s.time := rfl
@[simp] theorem State.modHub_tiles (s : State) (f : Hub → Hub) : (s.modHub f).tiles = s.tiles := rfl
@[simp] theorem State.modHub_hub (s : State) (f : Hub → Hub) : (s.modHub f).hub = f s.hub := rfl
@[simp] theorem State.modHub_fuses (s : State) (f : Hub → Hub) : (s.modHub f).fuses = s.fuses := rfl
@[simp] theorem State.modHub_sent (s : State) (f : Hub → Hub) : (s.modHub f).sent = s.sent := rfl
@[simp] theorem State.modHub_peerGib (s : State) (f : Hub → Hub) : (s.modHub f).peerGib = s.peerGib := rfl
@[simp] theorem State.modHub_trace (s : State) (f : Hub → Hub) : (s.modHub f).trace = s.trace := rfl
@[simp] theorem State.modHub_debug (s : State) (f : Hub → Hub) : (s.modHub f).dbg = s.dbg := rfl
@[simp] theorem State.modHub_pcieReads (s : State) (f : Hub → Hub) : (s.modHub f).pcieReads = s.pcieReads := rfl
@[simp] theorem State.modHub_tests (s : State) (f : Hub → Hub) : (s.modHub f).tests = s.tests := rfl
@[simp] theorem State.modHub_th (s : State) (f : Hub → Hub) : (s.modHub f).th = s.th := rfl
@[simp] theorem State.modHub_sh (s : State) (f : Hub → Hub) : (s.modHub f).sh = s.sh := rfl
@[simp] theorem State.modHub_plan (s : State) (f : Hub → Hub) : (s.modHub f).plan = s.plan := rfl
@[simp] theorem State.modHub_ms (s : State) (f : Hub → Hub) : (s.modHub f).ms = s.ms := rfl
@[simp] theorem State.modHub_isl (s : State) (f : Hub → Hub) : (s.modHub f).isl = s.isl := rfl
@[simp] theorem State.modHub_sk (s : State) (f : Hub → Hub) : (s.modHub f).sk = s.sk := rfl
@[simp] theorem State.modHub_ch (s : State) (f : Hub → Hub) : (s.modHub f).ch = s.ch := rfl
@[simp] theorem State.modHub_pw (s : State) (f : Hub → Hub) : (s.modHub f).pw = s.pw := rfl
@[simp] theorem State.modHub_aon (s : State) (f : Hub → Hub) : (s.modHub f).aon = s.aon := rfl
@[simp] theorem State.modHub_flash (s : State) (f : Hub → Hub) : (s.modHub f).flash = s.flash := rfl
@[simp] theorem State.modHub_harts (s : State) (f : Hub → Hub) : (s.modHub f).harts = s.harts := rfl
@[simp] theorem State.modHub_free (s : State) (f : Hub → Hub) : (s.modHub f).free = s.free := rfl
@[simp] theorem State.modHub_pending (s : State) (f : Hub → Hub) : (s.modHub f).pending = s.pending := rfl

/-! ### modMem -/

@[simp] theorem State.modMem_regs (s : State) (f : Mem → Mem) : (s.modMem f).regs = s.regs := rfl
@[simp] theorem State.modMem_mem (s : State) (f : Mem → Mem) : (s.modMem f).mem = f s.mem := rfl
@[simp] theorem State.modMem_bus (s : State) (f : Mem → Mem) : (s.modMem f).bus = s.bus := rfl
@[simp] theorem State.modMem_time (s : State) (f : Mem → Mem) : (s.modMem f).time = s.time := rfl
@[simp] theorem State.modMem_tiles (s : State) (f : Mem → Mem) : (s.modMem f).tiles = s.tiles := rfl
@[simp] theorem State.modMem_hub (s : State) (f : Mem → Mem) : (s.modMem f).hub = s.hub := rfl
@[simp] theorem State.modMem_fuses (s : State) (f : Mem → Mem) : (s.modMem f).fuses = s.fuses := rfl
@[simp] theorem State.modMem_sent (s : State) (f : Mem → Mem) : (s.modMem f).sent = s.sent := rfl
@[simp] theorem State.modMem_peerGib (s : State) (f : Mem → Mem) : (s.modMem f).peerGib = s.peerGib := rfl
@[simp] theorem State.modMem_trace (s : State) (f : Mem → Mem) : (s.modMem f).trace = s.trace := rfl
@[simp] theorem State.modMem_debug (s : State) (f : Mem → Mem) : (s.modMem f).dbg = s.dbg := rfl
@[simp] theorem State.modMem_pcieReads (s : State) (f : Mem → Mem) : (s.modMem f).pcieReads = s.pcieReads := rfl
@[simp] theorem State.modMem_tests (s : State) (f : Mem → Mem) : (s.modMem f).tests = s.tests := rfl
@[simp] theorem State.modMem_th (s : State) (f : Mem → Mem) : (s.modMem f).th = s.th := rfl
@[simp] theorem State.modMem_sh (s : State) (f : Mem → Mem) : (s.modMem f).sh = s.sh := rfl
@[simp] theorem State.modMem_plan (s : State) (f : Mem → Mem) : (s.modMem f).plan = s.plan := rfl
@[simp] theorem State.modMem_ms (s : State) (f : Mem → Mem) : (s.modMem f).ms = s.ms := rfl
@[simp] theorem State.modMem_isl (s : State) (f : Mem → Mem) : (s.modMem f).isl = s.isl := rfl
@[simp] theorem State.modMem_sk (s : State) (f : Mem → Mem) : (s.modMem f).sk = s.sk := rfl
@[simp] theorem State.modMem_ch (s : State) (f : Mem → Mem) : (s.modMem f).ch = s.ch := rfl
@[simp] theorem State.modMem_pw (s : State) (f : Mem → Mem) : (s.modMem f).pw = s.pw := rfl
@[simp] theorem State.modMem_aon (s : State) (f : Mem → Mem) : (s.modMem f).aon = s.aon := rfl
@[simp] theorem State.modMem_flash (s : State) (f : Mem → Mem) : (s.modMem f).flash = s.flash := rfl
@[simp] theorem State.modMem_harts (s : State) (f : Mem → Mem) : (s.modMem f).harts = s.harts := rfl
@[simp] theorem State.modMem_free (s : State) (f : Mem → Mem) : (s.modMem f).free = s.free := rfl
@[simp] theorem State.modMem_pending (s : State) (f : Mem → Mem) : (s.modMem f).pending = s.pending := rfl

/-! ### modTime -/

@[simp] theorem State.modTime_regs (s : State) (f : TimeSt → TimeSt) : (s.modTime f).regs = s.regs := rfl
@[simp] theorem State.modTime_mem (s : State) (f : TimeSt → TimeSt) : (s.modTime f).mem = s.mem := rfl
@[simp] theorem State.modTime_bus (s : State) (f : TimeSt → TimeSt) : (s.modTime f).bus = s.bus := rfl
@[simp] theorem State.modTime_time (s : State) (f : TimeSt → TimeSt) : (s.modTime f).time = f s.time := rfl
@[simp] theorem State.modTime_tiles (s : State) (f : TimeSt → TimeSt) : (s.modTime f).tiles = s.tiles := rfl
@[simp] theorem State.modTime_hub (s : State) (f : TimeSt → TimeSt) : (s.modTime f).hub = s.hub := rfl
@[simp] theorem State.modTime_fuses (s : State) (f : TimeSt → TimeSt) : (s.modTime f).fuses = s.fuses := rfl
@[simp] theorem State.modTime_sent (s : State) (f : TimeSt → TimeSt) : (s.modTime f).sent = s.sent := rfl
@[simp] theorem State.modTime_peerGib (s : State) (f : TimeSt → TimeSt) : (s.modTime f).peerGib = s.peerGib := rfl
@[simp] theorem State.modTime_trace (s : State) (f : TimeSt → TimeSt) : (s.modTime f).trace = s.trace := rfl
@[simp] theorem State.modTime_debug (s : State) (f : TimeSt → TimeSt) : (s.modTime f).dbg = s.dbg := rfl
@[simp] theorem State.modTime_pcieReads (s : State) (f : TimeSt → TimeSt) : (s.modTime f).pcieReads = s.pcieReads := rfl
@[simp] theorem State.modTime_tests (s : State) (f : TimeSt → TimeSt) : (s.modTime f).tests = s.tests := rfl
@[simp] theorem State.modTime_th (s : State) (f : TimeSt → TimeSt) : (s.modTime f).th = s.th := rfl
@[simp] theorem State.modTime_sh (s : State) (f : TimeSt → TimeSt) : (s.modTime f).sh = s.sh := rfl
@[simp] theorem State.modTime_plan (s : State) (f : TimeSt → TimeSt) : (s.modTime f).plan = s.plan := rfl
@[simp] theorem State.modTime_ms (s : State) (f : TimeSt → TimeSt) : (s.modTime f).ms = s.ms := rfl
@[simp] theorem State.modTime_isl (s : State) (f : TimeSt → TimeSt) : (s.modTime f).isl = s.isl := rfl
@[simp] theorem State.modTime_sk (s : State) (f : TimeSt → TimeSt) : (s.modTime f).sk = s.sk := rfl
@[simp] theorem State.modTime_ch (s : State) (f : TimeSt → TimeSt) : (s.modTime f).ch = s.ch := rfl
@[simp] theorem State.modTime_pw (s : State) (f : TimeSt → TimeSt) : (s.modTime f).pw = s.pw := rfl
@[simp] theorem State.modTime_aon (s : State) (f : TimeSt → TimeSt) : (s.modTime f).aon = s.aon := rfl
@[simp] theorem State.modTime_flash (s : State) (f : TimeSt → TimeSt) : (s.modTime f).flash = s.flash := rfl
@[simp] theorem State.modTime_harts (s : State) (f : TimeSt → TimeSt) : (s.modTime f).harts = s.harts := rfl
@[simp] theorem State.modTime_free (s : State) (f : TimeSt → TimeSt) : (s.modTime f).free = s.free := rfl
@[simp] theorem State.modTime_pending (s : State) (f : TimeSt → TimeSt) : (s.modTime f).pending = s.pending := rfl


/-! ### modFuses -/

@[simp] theorem State.modFuses_regs (s : State) (f : Fuses → Fuses) : (s.modFuses f).regs = s.regs := rfl
@[simp] theorem State.modFuses_mem (s : State) (f : Fuses → Fuses) : (s.modFuses f).mem = s.mem := rfl
@[simp] theorem State.modFuses_bus (s : State) (f : Fuses → Fuses) : (s.modFuses f).bus = s.bus := rfl
@[simp] theorem State.modFuses_time (s : State) (f : Fuses → Fuses) : (s.modFuses f).time = s.time := rfl
@[simp] theorem State.modFuses_tiles (s : State) (f : Fuses → Fuses) : (s.modFuses f).tiles = s.tiles := rfl
@[simp] theorem State.modFuses_hub (s : State) (f : Fuses → Fuses) : (s.modFuses f).hub = s.hub := rfl
@[simp] theorem State.modFuses_fuses (s : State) (f : Fuses → Fuses) : (s.modFuses f).fuses = f s.fuses := rfl
@[simp] theorem State.modFuses_sent (s : State) (f : Fuses → Fuses) : (s.modFuses f).sent = s.sent := rfl
@[simp] theorem State.modFuses_peerGib (s : State) (f : Fuses → Fuses) : (s.modFuses f).peerGib = s.peerGib := rfl
@[simp] theorem State.modFuses_trace (s : State) (f : Fuses → Fuses) : (s.modFuses f).trace = s.trace := rfl
@[simp] theorem State.modFuses_debug (s : State) (f : Fuses → Fuses) : (s.modFuses f).dbg = s.dbg := rfl
@[simp] theorem State.modFuses_pcieReads (s : State) (f : Fuses → Fuses) : (s.modFuses f).pcieReads = s.pcieReads := rfl
@[simp] theorem State.modFuses_tests (s : State) (f : Fuses → Fuses) : (s.modFuses f).tests = s.tests := rfl
@[simp] theorem State.modFuses_th (s : State) (f : Fuses → Fuses) : (s.modFuses f).th = s.th := rfl
@[simp] theorem State.modFuses_sh (s : State) (f : Fuses → Fuses) : (s.modFuses f).sh = s.sh := rfl
@[simp] theorem State.modFuses_plan (s : State) (f : Fuses → Fuses) : (s.modFuses f).plan = s.plan := rfl
@[simp] theorem State.modFuses_ms (s : State) (f : Fuses → Fuses) : (s.modFuses f).ms = s.ms := rfl
@[simp] theorem State.modFuses_isl (s : State) (f : Fuses → Fuses) : (s.modFuses f).isl = s.isl := rfl
@[simp] theorem State.modFuses_sk (s : State) (f : Fuses → Fuses) : (s.modFuses f).sk = s.sk := rfl
@[simp] theorem State.modFuses_ch (s : State) (f : Fuses → Fuses) : (s.modFuses f).ch = s.ch := rfl
@[simp] theorem State.modFuses_pw (s : State) (f : Fuses → Fuses) : (s.modFuses f).pw = s.pw := rfl
@[simp] theorem State.modFuses_aon (s : State) (f : Fuses → Fuses) : (s.modFuses f).aon = s.aon := rfl
@[simp] theorem State.modFuses_flash (s : State) (f : Fuses → Fuses) : (s.modFuses f).flash = s.flash := rfl
@[simp] theorem State.modFuses_harts (s : State) (f : Fuses → Fuses) : (s.modFuses f).harts = s.harts := rfl
@[simp] theorem State.modFuses_free (s : State) (f : Fuses → Fuses) : (s.modFuses f).free = s.free := rfl
@[simp] theorem State.modFuses_pending (s : State) (f : Fuses → Fuses) : (s.modFuses f).pending = s.pending := rfl

/-! ### modReads -/

@[simp] theorem State.modReads_regs (s : State) (f : List PcieRead → List PcieRead) : (s.modReads f).regs = s.regs := rfl
@[simp] theorem State.modReads_mem (s : State) (f : List PcieRead → List PcieRead) : (s.modReads f).mem = s.mem := rfl
@[simp] theorem State.modReads_bus (s : State) (f : List PcieRead → List PcieRead) : (s.modReads f).bus = s.bus := rfl
@[simp] theorem State.modReads_time (s : State) (f : List PcieRead → List PcieRead) : (s.modReads f).time = s.time := rfl
@[simp] theorem State.modReads_tiles (s : State) (f : List PcieRead → List PcieRead) : (s.modReads f).tiles = s.tiles := rfl
@[simp] theorem State.modReads_hub (s : State) (f : List PcieRead → List PcieRead) : (s.modReads f).hub = s.hub := rfl
@[simp] theorem State.modReads_fuses (s : State) (f : List PcieRead → List PcieRead) : (s.modReads f).fuses = s.fuses := rfl
@[simp] theorem State.modReads_sent (s : State) (f : List PcieRead → List PcieRead) : (s.modReads f).sent = s.sent := rfl
@[simp] theorem State.modReads_peerGib (s : State) (f : List PcieRead → List PcieRead) : (s.modReads f).peerGib = s.peerGib := rfl
@[simp] theorem State.modReads_trace (s : State) (f : List PcieRead → List PcieRead) : (s.modReads f).trace = s.trace := rfl
@[simp] theorem State.modReads_debug (s : State) (f : List PcieRead → List PcieRead) : (s.modReads f).dbg = s.dbg := rfl
@[simp] theorem State.modReads_pcieReads (s : State) (f : List PcieRead → List PcieRead) : (s.modReads f).pcieReads = f s.pcieReads := rfl
@[simp] theorem State.modReads_tests (s : State) (f : List PcieRead → List PcieRead) : (s.modReads f).tests = s.tests := rfl
@[simp] theorem State.modReads_th (s : State) (f : List PcieRead → List PcieRead) : (s.modReads f).th = s.th := rfl
@[simp] theorem State.modReads_sh (s : State) (f : List PcieRead → List PcieRead) : (s.modReads f).sh = s.sh := rfl
@[simp] theorem State.modReads_plan (s : State) (f : List PcieRead → List PcieRead) : (s.modReads f).plan = s.plan := rfl
@[simp] theorem State.modReads_ms (s : State) (f : List PcieRead → List PcieRead) : (s.modReads f).ms = s.ms := rfl
@[simp] theorem State.modReads_isl (s : State) (f : List PcieRead → List PcieRead) : (s.modReads f).isl = s.isl := rfl
@[simp] theorem State.modReads_sk (s : State) (f : List PcieRead → List PcieRead) : (s.modReads f).sk = s.sk := rfl
@[simp] theorem State.modReads_ch (s : State) (f : List PcieRead → List PcieRead) : (s.modReads f).ch = s.ch := rfl
@[simp] theorem State.modReads_pw (s : State) (f : List PcieRead → List PcieRead) : (s.modReads f).pw = s.pw := rfl
@[simp] theorem State.modReads_aon (s : State) (f : List PcieRead → List PcieRead) : (s.modReads f).aon = s.aon := rfl
@[simp] theorem State.modReads_flash (s : State) (f : List PcieRead → List PcieRead) : (s.modReads f).flash = s.flash := rfl
@[simp] theorem State.modReads_harts (s : State) (f : List PcieRead → List PcieRead) : (s.modReads f).harts = s.harts := rfl
@[simp] theorem State.modReads_free (s : State) (f : List PcieRead → List PcieRead) : (s.modReads f).free = s.free := rfl
@[simp] theorem State.modReads_pending (s : State) (f : List PcieRead → List PcieRead) : (s.modReads f).pending = s.pending := rfl

/-! ### modBus -/

@[simp] theorem State.modBus_regs (s : State) (f : Bus → Bus) : (s.modBus f).regs = s.regs := rfl
@[simp] theorem State.modBus_mem (s : State) (f : Bus → Bus) : (s.modBus f).mem = s.mem := rfl
@[simp] theorem State.modBus_bus (s : State) (f : Bus → Bus) : (s.modBus f).bus = f s.bus := rfl
@[simp] theorem State.modBus_time (s : State) (f : Bus → Bus) : (s.modBus f).time = s.time := rfl
@[simp] theorem State.modBus_tiles (s : State) (f : Bus → Bus) : (s.modBus f).tiles = s.tiles := rfl
@[simp] theorem State.modBus_hub (s : State) (f : Bus → Bus) : (s.modBus f).hub = s.hub := rfl
@[simp] theorem State.modBus_fuses (s : State) (f : Bus → Bus) : (s.modBus f).fuses = s.fuses := rfl
@[simp] theorem State.modBus_sent (s : State) (f : Bus → Bus) : (s.modBus f).sent = s.sent := rfl
@[simp] theorem State.modBus_peerGib (s : State) (f : Bus → Bus) : (s.modBus f).peerGib = s.peerGib := rfl
@[simp] theorem State.modBus_trace (s : State) (f : Bus → Bus) : (s.modBus f).trace = s.trace := rfl
@[simp] theorem State.modBus_debug (s : State) (f : Bus → Bus) : (s.modBus f).dbg = s.dbg := rfl
@[simp] theorem State.modBus_pcieReads (s : State) (f : Bus → Bus) : (s.modBus f).pcieReads = s.pcieReads := rfl
@[simp] theorem State.modBus_tests (s : State) (f : Bus → Bus) : (s.modBus f).tests = s.tests := rfl
@[simp] theorem State.modBus_th (s : State) (f : Bus → Bus) : (s.modBus f).th = s.th := rfl
@[simp] theorem State.modBus_sh (s : State) (f : Bus → Bus) : (s.modBus f).sh = s.sh := rfl
@[simp] theorem State.modBus_plan (s : State) (f : Bus → Bus) : (s.modBus f).plan = s.plan := rfl
@[simp] theorem State.modBus_ms (s : State) (f : Bus → Bus) : (s.modBus f).ms = s.ms := rfl
@[simp] theorem State.modBus_isl (s : State) (f : Bus → Bus) : (s.modBus f).isl = s.isl := rfl
@[simp] theorem State.modBus_sk (s : State) (f : Bus → Bus) : (s.modBus f).sk = s.sk := rfl
@[simp] theorem State.modBus_ch (s : State) (f : Bus → Bus) : (s.modBus f).ch = s.ch := rfl
@[simp] theorem State.modBus_pw (s : State) (f : Bus → Bus) : (s.modBus f).pw = s.pw := rfl
@[simp] theorem State.modBus_aon (s : State) (f : Bus → Bus) : (s.modBus f).aon = s.aon := rfl
@[simp] theorem State.modBus_flash (s : State) (f : Bus → Bus) : (s.modBus f).flash = s.flash := rfl
@[simp] theorem State.modBus_harts (s : State) (f : Bus → Bus) : (s.modBus f).harts = s.harts := rfl
@[simp] theorem State.modBus_free (s : State) (f : Bus → Bus) : (s.modBus f).free = s.free := rfl
@[simp] theorem State.modBus_pending (s : State) (f : Bus → Bus) : (s.modBus f).pending = s.pending := rfl

/-! ### modTiles -/

@[simp] theorem State.modTiles_regs (s : State) (f : List Tile → List Tile) : (s.modTiles f).regs = s.regs := rfl
@[simp] theorem State.modTiles_mem (s : State) (f : List Tile → List Tile) : (s.modTiles f).mem = s.mem := rfl
@[simp] theorem State.modTiles_bus (s : State) (f : List Tile → List Tile) : (s.modTiles f).bus = s.bus := rfl
@[simp] theorem State.modTiles_time (s : State) (f : List Tile → List Tile) : (s.modTiles f).time = s.time := rfl
@[simp] theorem State.modTiles_tiles (s : State) (f : List Tile → List Tile) : (s.modTiles f).tiles = f s.tiles := rfl
@[simp] theorem State.modTiles_hub (s : State) (f : List Tile → List Tile) : (s.modTiles f).hub = s.hub := rfl
@[simp] theorem State.modTiles_fuses (s : State) (f : List Tile → List Tile) : (s.modTiles f).fuses = s.fuses := rfl
@[simp] theorem State.modTiles_sent (s : State) (f : List Tile → List Tile) : (s.modTiles f).sent = s.sent := rfl
@[simp] theorem State.modTiles_peerGib (s : State) (f : List Tile → List Tile) : (s.modTiles f).peerGib = s.peerGib := rfl
@[simp] theorem State.modTiles_trace (s : State) (f : List Tile → List Tile) : (s.modTiles f).trace = s.trace := rfl
@[simp] theorem State.modTiles_debug (s : State) (f : List Tile → List Tile) : (s.modTiles f).dbg = s.dbg := rfl
@[simp] theorem State.modTiles_pcieReads (s : State) (f : List Tile → List Tile) : (s.modTiles f).pcieReads = s.pcieReads := rfl
@[simp] theorem State.modTiles_tests (s : State) (f : List Tile → List Tile) : (s.modTiles f).tests = s.tests := rfl
@[simp] theorem State.modTiles_th (s : State) (f : List Tile → List Tile) : (s.modTiles f).th = s.th := rfl
@[simp] theorem State.modTiles_sh (s : State) (f : List Tile → List Tile) : (s.modTiles f).sh = s.sh := rfl
@[simp] theorem State.modTiles_plan (s : State) (f : List Tile → List Tile) : (s.modTiles f).plan = s.plan := rfl
@[simp] theorem State.modTiles_ms (s : State) (f : List Tile → List Tile) : (s.modTiles f).ms = s.ms := rfl
@[simp] theorem State.modTiles_isl (s : State) (f : List Tile → List Tile) : (s.modTiles f).isl = s.isl := rfl
@[simp] theorem State.modTiles_sk (s : State) (f : List Tile → List Tile) : (s.modTiles f).sk = s.sk := rfl
@[simp] theorem State.modTiles_ch (s : State) (f : List Tile → List Tile) : (s.modTiles f).ch = s.ch := rfl
@[simp] theorem State.modTiles_pw (s : State) (f : List Tile → List Tile) : (s.modTiles f).pw = s.pw := rfl
@[simp] theorem State.modTiles_aon (s : State) (f : List Tile → List Tile) : (s.modTiles f).aon = s.aon := rfl
@[simp] theorem State.modTiles_flash (s : State) (f : List Tile → List Tile) : (s.modTiles f).flash = s.flash := rfl
@[simp] theorem State.modTiles_harts (s : State) (f : List Tile → List Tile) : (s.modTiles f).harts = s.harts := rfl
@[simp] theorem State.modTiles_free (s : State) (f : List Tile → List Tile) : (s.modTiles f).free = s.free := rfl
@[simp] theorem State.modTiles_pending (s : State) (f : List Tile → List Tile) : (s.modTiles f).pending = s.pending := rfl

/-! ### modTests -/

@[simp] theorem State.modTests_regs (s : State) (f : List TestUnit → List TestUnit) : (s.modTests f).regs = s.regs := rfl
@[simp] theorem State.modTests_mem (s : State) (f : List TestUnit → List TestUnit) : (s.modTests f).mem = s.mem := rfl
@[simp] theorem State.modTests_bus (s : State) (f : List TestUnit → List TestUnit) : (s.modTests f).bus = s.bus := rfl
@[simp] theorem State.modTests_time (s : State) (f : List TestUnit → List TestUnit) : (s.modTests f).time = s.time := rfl
@[simp] theorem State.modTests_tiles (s : State) (f : List TestUnit → List TestUnit) : (s.modTests f).tiles = s.tiles := rfl
@[simp] theorem State.modTests_hub (s : State) (f : List TestUnit → List TestUnit) : (s.modTests f).hub = s.hub := rfl
@[simp] theorem State.modTests_fuses (s : State) (f : List TestUnit → List TestUnit) : (s.modTests f).fuses = s.fuses := rfl
@[simp] theorem State.modTests_sent (s : State) (f : List TestUnit → List TestUnit) : (s.modTests f).sent = s.sent := rfl
@[simp] theorem State.modTests_peerGib (s : State) (f : List TestUnit → List TestUnit) : (s.modTests f).peerGib = s.peerGib := rfl
@[simp] theorem State.modTests_trace (s : State) (f : List TestUnit → List TestUnit) : (s.modTests f).trace = s.trace := rfl
@[simp] theorem State.modTests_debug (s : State) (f : List TestUnit → List TestUnit) : (s.modTests f).dbg = s.dbg := rfl
@[simp] theorem State.modTests_pcieReads (s : State) (f : List TestUnit → List TestUnit) : (s.modTests f).pcieReads = s.pcieReads := rfl
@[simp] theorem State.modTests_tests (s : State) (f : List TestUnit → List TestUnit) : (s.modTests f).tests = f s.tests := rfl
@[simp] theorem State.modTests_th (s : State) (f : List TestUnit → List TestUnit) : (s.modTests f).th = s.th := rfl
@[simp] theorem State.modTests_sh (s : State) (f : List TestUnit → List TestUnit) : (s.modTests f).sh = s.sh := rfl
@[simp] theorem State.modTests_plan (s : State) (f : List TestUnit → List TestUnit) : (s.modTests f).plan = s.plan := rfl
@[simp] theorem State.modTests_ms (s : State) (f : List TestUnit → List TestUnit) : (s.modTests f).ms = s.ms := rfl
@[simp] theorem State.modTests_isl (s : State) (f : List TestUnit → List TestUnit) : (s.modTests f).isl = s.isl := rfl
@[simp] theorem State.modTests_sk (s : State) (f : List TestUnit → List TestUnit) : (s.modTests f).sk = s.sk := rfl
@[simp] theorem State.modTests_ch (s : State) (f : List TestUnit → List TestUnit) : (s.modTests f).ch = s.ch := rfl
@[simp] theorem State.modTests_pw (s : State) (f : List TestUnit → List TestUnit) : (s.modTests f).pw = s.pw := rfl
@[simp] theorem State.modTests_aon (s : State) (f : List TestUnit → List TestUnit) : (s.modTests f).aon = s.aon := rfl
@[simp] theorem State.modTests_flash (s : State) (f : List TestUnit → List TestUnit) : (s.modTests f).flash = s.flash := rfl
@[simp] theorem State.modTests_harts (s : State) (f : List TestUnit → List TestUnit) : (s.modTests f).harts = s.harts := rfl
@[simp] theorem State.modTests_free (s : State) (f : List TestUnit → List TestUnit) : (s.modTests f).free = s.free := rfl
@[simp] theorem State.modTests_pending (s : State) (f : List TestUnit → List TestUnit) : (s.modTests f).pending = s.pending := rfl

/-! ### modHarts -/

@[simp] theorem State.modHarts_regs (s : State) (f : List Hart → List Hart) : (s.modHarts f).regs = s.regs := rfl
@[simp] theorem State.modHarts_mem (s : State) (f : List Hart → List Hart) : (s.modHarts f).mem = s.mem := rfl
@[simp] theorem State.modHarts_bus (s : State) (f : List Hart → List Hart) : (s.modHarts f).bus = s.bus := rfl
@[simp] theorem State.modHarts_time (s : State) (f : List Hart → List Hart) : (s.modHarts f).time = s.time := rfl
@[simp] theorem State.modHarts_tiles (s : State) (f : List Hart → List Hart) : (s.modHarts f).tiles = s.tiles := rfl
@[simp] theorem State.modHarts_hub (s : State) (f : List Hart → List Hart) : (s.modHarts f).hub = s.hub := rfl
@[simp] theorem State.modHarts_fuses (s : State) (f : List Hart → List Hart) : (s.modHarts f).fuses = s.fuses := rfl
@[simp] theorem State.modHarts_sent (s : State) (f : List Hart → List Hart) : (s.modHarts f).sent = s.sent := rfl
@[simp] theorem State.modHarts_peerGib (s : State) (f : List Hart → List Hart) : (s.modHarts f).peerGib = s.peerGib := rfl
@[simp] theorem State.modHarts_trace (s : State) (f : List Hart → List Hart) : (s.modHarts f).trace = s.trace := rfl
@[simp] theorem State.modHarts_debug (s : State) (f : List Hart → List Hart) : (s.modHarts f).dbg = s.dbg := rfl
@[simp] theorem State.modHarts_pcieReads (s : State) (f : List Hart → List Hart) : (s.modHarts f).pcieReads = s.pcieReads := rfl
@[simp] theorem State.modHarts_tests (s : State) (f : List Hart → List Hart) : (s.modHarts f).tests = s.tests := rfl
@[simp] theorem State.modHarts_th (s : State) (f : List Hart → List Hart) : (s.modHarts f).th = s.th := rfl
@[simp] theorem State.modHarts_sh (s : State) (f : List Hart → List Hart) : (s.modHarts f).sh = s.sh := rfl
@[simp] theorem State.modHarts_plan (s : State) (f : List Hart → List Hart) : (s.modHarts f).plan = s.plan := rfl
@[simp] theorem State.modHarts_ms (s : State) (f : List Hart → List Hart) : (s.modHarts f).ms = s.ms := rfl
@[simp] theorem State.modHarts_isl (s : State) (f : List Hart → List Hart) : (s.modHarts f).isl = s.isl := rfl
@[simp] theorem State.modHarts_sk (s : State) (f : List Hart → List Hart) : (s.modHarts f).sk = s.sk := rfl
@[simp] theorem State.modHarts_ch (s : State) (f : List Hart → List Hart) : (s.modHarts f).ch = s.ch := rfl
@[simp] theorem State.modHarts_pw (s : State) (f : List Hart → List Hart) : (s.modHarts f).pw = s.pw := rfl
@[simp] theorem State.modHarts_aon (s : State) (f : List Hart → List Hart) : (s.modHarts f).aon = s.aon := rfl
@[simp] theorem State.modHarts_flash (s : State) (f : List Hart → List Hart) : (s.modHarts f).flash = s.flash := rfl
@[simp] theorem State.modHarts_harts (s : State) (f : List Hart → List Hart) : (s.modHarts f).harts = f s.harts := rfl
@[simp] theorem State.modHarts_free (s : State) (f : List Hart → List Hart) : (s.modHarts f).free = s.free := rfl
@[simp] theorem State.modHarts_pending (s : State) (f : List Hart → List Hart) : (s.modHarts f).pending = s.pending := rfl

/-! ### modAon -/

@[simp] theorem State.modAon_regs (s : State) (f : Aon → Aon) : (s.modAon f).regs = s.regs := rfl
@[simp] theorem State.modAon_mem (s : State) (f : Aon → Aon) : (s.modAon f).mem = s.mem := rfl
@[simp] theorem State.modAon_bus (s : State) (f : Aon → Aon) : (s.modAon f).bus = s.bus := rfl
@[simp] theorem State.modAon_time (s : State) (f : Aon → Aon) : (s.modAon f).time = s.time := rfl
@[simp] theorem State.modAon_tiles (s : State) (f : Aon → Aon) : (s.modAon f).tiles = s.tiles := rfl
@[simp] theorem State.modAon_hub (s : State) (f : Aon → Aon) : (s.modAon f).hub = s.hub := rfl
@[simp] theorem State.modAon_fuses (s : State) (f : Aon → Aon) : (s.modAon f).fuses = s.fuses := rfl
@[simp] theorem State.modAon_sent (s : State) (f : Aon → Aon) : (s.modAon f).sent = s.sent := rfl
@[simp] theorem State.modAon_peerGib (s : State) (f : Aon → Aon) : (s.modAon f).peerGib = s.peerGib := rfl
@[simp] theorem State.modAon_trace (s : State) (f : Aon → Aon) : (s.modAon f).trace = s.trace := rfl
@[simp] theorem State.modAon_debug (s : State) (f : Aon → Aon) : (s.modAon f).dbg = s.dbg := rfl
@[simp] theorem State.modAon_pcieReads (s : State) (f : Aon → Aon) : (s.modAon f).pcieReads = s.pcieReads := rfl
@[simp] theorem State.modAon_tests (s : State) (f : Aon → Aon) : (s.modAon f).tests = s.tests := rfl
@[simp] theorem State.modAon_th (s : State) (f : Aon → Aon) : (s.modAon f).th = s.th := rfl
@[simp] theorem State.modAon_sh (s : State) (f : Aon → Aon) : (s.modAon f).sh = s.sh := rfl
@[simp] theorem State.modAon_plan (s : State) (f : Aon → Aon) : (s.modAon f).plan = s.plan := rfl
@[simp] theorem State.modAon_ms (s : State) (f : Aon → Aon) : (s.modAon f).ms = s.ms := rfl
@[simp] theorem State.modAon_isl (s : State) (f : Aon → Aon) : (s.modAon f).isl = s.isl := rfl
@[simp] theorem State.modAon_sk (s : State) (f : Aon → Aon) : (s.modAon f).sk = s.sk := rfl
@[simp] theorem State.modAon_ch (s : State) (f : Aon → Aon) : (s.modAon f).ch = s.ch := rfl
@[simp] theorem State.modAon_pw (s : State) (f : Aon → Aon) : (s.modAon f).pw = s.pw := rfl
@[simp] theorem State.modAon_aon (s : State) (f : Aon → Aon) : (s.modAon f).aon = f s.aon := rfl
@[simp] theorem State.modAon_flash (s : State) (f : Aon → Aon) : (s.modAon f).flash = s.flash := rfl
@[simp] theorem State.modAon_harts (s : State) (f : Aon → Aon) : (s.modAon f).harts = s.harts := rfl
@[simp] theorem State.modAon_free (s : State) (f : Aon → Aon) : (s.modAon f).free = s.free := rfl
@[simp] theorem State.modAon_pending (s : State) (f : Aon → Aon) : (s.modAon f).pending = s.pending := rfl

/-! ### modTrace -/

@[simp] theorem State.modTrace_regs (s : State) (f : Trace → Trace) : (s.modTrace f).regs = s.regs := rfl
@[simp] theorem State.modTrace_mem (s : State) (f : Trace → Trace) : (s.modTrace f).mem = s.mem := rfl
@[simp] theorem State.modTrace_bus (s : State) (f : Trace → Trace) : (s.modTrace f).bus = s.bus := rfl
@[simp] theorem State.modTrace_time (s : State) (f : Trace → Trace) : (s.modTrace f).time = s.time := rfl
@[simp] theorem State.modTrace_tiles (s : State) (f : Trace → Trace) : (s.modTrace f).tiles = s.tiles := rfl
@[simp] theorem State.modTrace_hub (s : State) (f : Trace → Trace) : (s.modTrace f).hub = s.hub := rfl
@[simp] theorem State.modTrace_fuses (s : State) (f : Trace → Trace) : (s.modTrace f).fuses = s.fuses := rfl
@[simp] theorem State.modTrace_sent (s : State) (f : Trace → Trace) : (s.modTrace f).sent = s.sent := rfl
@[simp] theorem State.modTrace_peerGib (s : State) (f : Trace → Trace) : (s.modTrace f).peerGib = s.peerGib := rfl
@[simp] theorem State.modTrace_trace (s : State) (f : Trace → Trace) : (s.modTrace f).trace = f s.trace := rfl
@[simp] theorem State.modTrace_debug (s : State) (f : Trace → Trace) : (s.modTrace f).dbg = s.dbg := rfl
@[simp] theorem State.modTrace_pcieReads (s : State) (f : Trace → Trace) : (s.modTrace f).pcieReads = s.pcieReads := rfl
@[simp] theorem State.modTrace_tests (s : State) (f : Trace → Trace) : (s.modTrace f).tests = s.tests := rfl
@[simp] theorem State.modTrace_th (s : State) (f : Trace → Trace) : (s.modTrace f).th = s.th := rfl
@[simp] theorem State.modTrace_sh (s : State) (f : Trace → Trace) : (s.modTrace f).sh = s.sh := rfl
@[simp] theorem State.modTrace_plan (s : State) (f : Trace → Trace) : (s.modTrace f).plan = s.plan := rfl
@[simp] theorem State.modTrace_ms (s : State) (f : Trace → Trace) : (s.modTrace f).ms = s.ms := rfl
@[simp] theorem State.modTrace_isl (s : State) (f : Trace → Trace) : (s.modTrace f).isl = s.isl := rfl
@[simp] theorem State.modTrace_sk (s : State) (f : Trace → Trace) : (s.modTrace f).sk = s.sk := rfl
@[simp] theorem State.modTrace_ch (s : State) (f : Trace → Trace) : (s.modTrace f).ch = s.ch := rfl
@[simp] theorem State.modTrace_pw (s : State) (f : Trace → Trace) : (s.modTrace f).pw = s.pw := rfl
@[simp] theorem State.modTrace_aon (s : State) (f : Trace → Trace) : (s.modTrace f).aon = s.aon := rfl
@[simp] theorem State.modTrace_flash (s : State) (f : Trace → Trace) : (s.modTrace f).flash = s.flash := rfl
@[simp] theorem State.modTrace_harts (s : State) (f : Trace → Trace) : (s.modTrace f).harts = s.harts := rfl
@[simp] theorem State.modTrace_free (s : State) (f : Trace → Trace) : (s.modTrace f).free = s.free := rfl
@[simp] theorem State.modTrace_pending (s : State) (f : Trace → Trace) : (s.modTrace f).pending = s.pending := rfl

/-! ### modDebug -/

@[simp] theorem State.modDebug_regs (s : State) (f : Debug → Debug) : (s.modDebug f).regs = s.regs := rfl
@[simp] theorem State.modDebug_mem (s : State) (f : Debug → Debug) : (s.modDebug f).mem = s.mem := rfl
@[simp] theorem State.modDebug_bus (s : State) (f : Debug → Debug) : (s.modDebug f).bus = s.bus := rfl
@[simp] theorem State.modDebug_time (s : State) (f : Debug → Debug) : (s.modDebug f).time = s.time := rfl
@[simp] theorem State.modDebug_tiles (s : State) (f : Debug → Debug) : (s.modDebug f).tiles = s.tiles := rfl
@[simp] theorem State.modDebug_hub (s : State) (f : Debug → Debug) : (s.modDebug f).hub = s.hub := rfl
@[simp] theorem State.modDebug_fuses (s : State) (f : Debug → Debug) : (s.modDebug f).fuses = s.fuses := rfl
@[simp] theorem State.modDebug_sent (s : State) (f : Debug → Debug) : (s.modDebug f).sent = s.sent := rfl
@[simp] theorem State.modDebug_peerGib (s : State) (f : Debug → Debug) : (s.modDebug f).peerGib = s.peerGib := rfl
@[simp] theorem State.modDebug_trace (s : State) (f : Debug → Debug) : (s.modDebug f).trace = s.trace := rfl
@[simp] theorem State.modDebug_debug (s : State) (f : Debug → Debug) : (s.modDebug f).dbg = f s.dbg := rfl
@[simp] theorem State.modDebug_pcieReads (s : State) (f : Debug → Debug) : (s.modDebug f).pcieReads = s.pcieReads := rfl
@[simp] theorem State.modDebug_tests (s : State) (f : Debug → Debug) : (s.modDebug f).tests = s.tests := rfl
@[simp] theorem State.modDebug_th (s : State) (f : Debug → Debug) : (s.modDebug f).th = s.th := rfl
@[simp] theorem State.modDebug_sh (s : State) (f : Debug → Debug) : (s.modDebug f).sh = s.sh := rfl
@[simp] theorem State.modDebug_plan (s : State) (f : Debug → Debug) : (s.modDebug f).plan = s.plan := rfl
@[simp] theorem State.modDebug_ms (s : State) (f : Debug → Debug) : (s.modDebug f).ms = s.ms := rfl
@[simp] theorem State.modDebug_isl (s : State) (f : Debug → Debug) : (s.modDebug f).isl = s.isl := rfl
@[simp] theorem State.modDebug_sk (s : State) (f : Debug → Debug) : (s.modDebug f).sk = s.sk := rfl
@[simp] theorem State.modDebug_ch (s : State) (f : Debug → Debug) : (s.modDebug f).ch = s.ch := rfl
@[simp] theorem State.modDebug_pw (s : State) (f : Debug → Debug) : (s.modDebug f).pw = s.pw := rfl
@[simp] theorem State.modDebug_aon (s : State) (f : Debug → Debug) : (s.modDebug f).aon = s.aon := rfl
@[simp] theorem State.modDebug_flash (s : State) (f : Debug → Debug) : (s.modDebug f).flash = s.flash := rfl
@[simp] theorem State.modDebug_harts (s : State) (f : Debug → Debug) : (s.modDebug f).harts = s.harts := rfl
@[simp] theorem State.modDebug_free (s : State) (f : Debug → Debug) : (s.modDebug f).free = s.free := rfl
@[simp] theorem State.modDebug_pending (s : State) (f : Debug → Debug) : (s.modDebug f).pending = s.pending := rfl

/-! ### modTest -/

@[simp] theorem State.modTest_regs (s : State) (e : Nat) (f : TestUnit → TestUnit) : (s.modTest e f).regs = s.regs := rfl
@[simp] theorem State.modTest_mem (s : State) (e : Nat) (f : TestUnit → TestUnit) : (s.modTest e f).mem = s.mem := rfl
@[simp] theorem State.modTest_bus (s : State) (e : Nat) (f : TestUnit → TestUnit) : (s.modTest e f).bus = s.bus := rfl
@[simp] theorem State.modTest_time (s : State) (e : Nat) (f : TestUnit → TestUnit) : (s.modTest e f).time = s.time := rfl
@[simp] theorem State.modTest_tiles (s : State) (e : Nat) (f : TestUnit → TestUnit) : (s.modTest e f).tiles = s.tiles := rfl
@[simp] theorem State.modTest_hub (s : State) (e : Nat) (f : TestUnit → TestUnit) : (s.modTest e f).hub = s.hub := rfl
@[simp] theorem State.modTest_fuses (s : State) (e : Nat) (f : TestUnit → TestUnit) : (s.modTest e f).fuses = s.fuses := rfl
@[simp] theorem State.modTest_sent (s : State) (e : Nat) (f : TestUnit → TestUnit) : (s.modTest e f).sent = s.sent := rfl
@[simp] theorem State.modTest_peerGib (s : State) (e : Nat) (f : TestUnit → TestUnit) : (s.modTest e f).peerGib = s.peerGib := rfl
@[simp] theorem State.modTest_trace (s : State) (e : Nat) (f : TestUnit → TestUnit) : (s.modTest e f).trace = s.trace := rfl
@[simp] theorem State.modTest_debug (s : State) (e : Nat) (f : TestUnit → TestUnit) : (s.modTest e f).dbg = s.dbg := rfl
@[simp] theorem State.modTest_pcieReads (s : State) (e : Nat) (f : TestUnit → TestUnit) : (s.modTest e f).pcieReads = s.pcieReads := rfl
@[simp] theorem State.modTest_tests (s : State) (e : Nat) (f : TestUnit → TestUnit) : (s.modTest e f).tests = modAt s.tests e f := rfl
@[simp] theorem State.modTest_th (s : State) (e : Nat) (f : TestUnit → TestUnit) : (s.modTest e f).th = s.th := rfl
@[simp] theorem State.modTest_sh (s : State) (e : Nat) (f : TestUnit → TestUnit) : (s.modTest e f).sh = s.sh := rfl
@[simp] theorem State.modTest_plan (s : State) (e : Nat) (f : TestUnit → TestUnit) : (s.modTest e f).plan = s.plan := rfl
@[simp] theorem State.modTest_ms (s : State) (e : Nat) (f : TestUnit → TestUnit) : (s.modTest e f).ms = s.ms := rfl
@[simp] theorem State.modTest_isl (s : State) (e : Nat) (f : TestUnit → TestUnit) : (s.modTest e f).isl = s.isl := rfl
@[simp] theorem State.modTest_sk (s : State) (e : Nat) (f : TestUnit → TestUnit) : (s.modTest e f).sk = s.sk := rfl
@[simp] theorem State.modTest_ch (s : State) (e : Nat) (f : TestUnit → TestUnit) : (s.modTest e f).ch = s.ch := rfl
@[simp] theorem State.modTest_pw (s : State) (e : Nat) (f : TestUnit → TestUnit) : (s.modTest e f).pw = s.pw := rfl
@[simp] theorem State.modTest_aon (s : State) (e : Nat) (f : TestUnit → TestUnit) : (s.modTest e f).aon = s.aon := rfl
@[simp] theorem State.modTest_flash (s : State) (e : Nat) (f : TestUnit → TestUnit) : (s.modTest e f).flash = s.flash := rfl
@[simp] theorem State.modTest_harts (s : State) (e : Nat) (f : TestUnit → TestUnit) : (s.modTest e f).harts = s.harts := rfl
@[simp] theorem State.modTest_free (s : State) (e : Nat) (f : TestUnit → TestUnit) : (s.modTest e f).free = s.free := rfl
@[simp] theorem State.modTest_pending (s : State) (e : Nat) (f : TestUnit → TestUnit) : (s.modTest e f).pending = s.pending := rfl

/-! ### modTh -/

@[simp] theorem State.modTh_regs (s : State) (f : Thermal → Thermal) : (s.modTh f).regs = s.regs := rfl
@[simp] theorem State.modTh_mem (s : State) (f : Thermal → Thermal) : (s.modTh f).mem = s.mem := rfl
@[simp] theorem State.modTh_bus (s : State) (f : Thermal → Thermal) : (s.modTh f).bus = s.bus := rfl
@[simp] theorem State.modTh_time (s : State) (f : Thermal → Thermal) : (s.modTh f).time = s.time := rfl
@[simp] theorem State.modTh_tiles (s : State) (f : Thermal → Thermal) : (s.modTh f).tiles = s.tiles := rfl
@[simp] theorem State.modTh_hub (s : State) (f : Thermal → Thermal) : (s.modTh f).hub = s.hub := rfl
@[simp] theorem State.modTh_fuses (s : State) (f : Thermal → Thermal) : (s.modTh f).fuses = s.fuses := rfl
@[simp] theorem State.modTh_sent (s : State) (f : Thermal → Thermal) : (s.modTh f).sent = s.sent := rfl
@[simp] theorem State.modTh_peerGib (s : State) (f : Thermal → Thermal) : (s.modTh f).peerGib = s.peerGib := rfl
@[simp] theorem State.modTh_trace (s : State) (f : Thermal → Thermal) : (s.modTh f).trace = s.trace := rfl
@[simp] theorem State.modTh_debug (s : State) (f : Thermal → Thermal) : (s.modTh f).dbg = s.dbg := rfl
@[simp] theorem State.modTh_pcieReads (s : State) (f : Thermal → Thermal) : (s.modTh f).pcieReads = s.pcieReads := rfl
@[simp] theorem State.modTh_tests (s : State) (f : Thermal → Thermal) : (s.modTh f).tests = s.tests := rfl
@[simp] theorem State.modTh_th (s : State) (f : Thermal → Thermal) : (s.modTh f).th = f s.th := rfl
@[simp] theorem State.modTh_sh (s : State) (f : Thermal → Thermal) : (s.modTh f).sh = s.sh := rfl
@[simp] theorem State.modTh_plan (s : State) (f : Thermal → Thermal) : (s.modTh f).plan = s.plan := rfl
@[simp] theorem State.modTh_ms (s : State) (f : Thermal → Thermal) : (s.modTh f).ms = s.ms := rfl
@[simp] theorem State.modTh_isl (s : State) (f : Thermal → Thermal) : (s.modTh f).isl = s.isl := rfl
@[simp] theorem State.modTh_sk (s : State) (f : Thermal → Thermal) : (s.modTh f).sk = s.sk := rfl
@[simp] theorem State.modTh_ch (s : State) (f : Thermal → Thermal) : (s.modTh f).ch = s.ch := rfl
@[simp] theorem State.modTh_pw (s : State) (f : Thermal → Thermal) : (s.modTh f).pw = s.pw := rfl
@[simp] theorem State.modTh_aon (s : State) (f : Thermal → Thermal) : (s.modTh f).aon = s.aon := rfl
@[simp] theorem State.modTh_flash (s : State) (f : Thermal → Thermal) : (s.modTh f).flash = s.flash := rfl
@[simp] theorem State.modTh_harts (s : State) (f : Thermal → Thermal) : (s.modTh f).harts = s.harts := rfl
@[simp] theorem State.modTh_free (s : State) (f : Thermal → Thermal) : (s.modTh f).free = s.free := rfl
@[simp] theorem State.modTh_pending (s : State) (f : Thermal → Thermal) : (s.modTh f).pending = s.pending := rfl

/-! ### modSh -/

@[simp] theorem State.modSh_regs (s : State) (f : SensorHub → SensorHub) : (s.modSh f).regs = s.regs := rfl
@[simp] theorem State.modSh_mem (s : State) (f : SensorHub → SensorHub) : (s.modSh f).mem = s.mem := rfl
@[simp] theorem State.modSh_bus (s : State) (f : SensorHub → SensorHub) : (s.modSh f).bus = s.bus := rfl
@[simp] theorem State.modSh_time (s : State) (f : SensorHub → SensorHub) : (s.modSh f).time = s.time := rfl
@[simp] theorem State.modSh_tiles (s : State) (f : SensorHub → SensorHub) : (s.modSh f).tiles = s.tiles := rfl
@[simp] theorem State.modSh_hub (s : State) (f : SensorHub → SensorHub) : (s.modSh f).hub = s.hub := rfl
@[simp] theorem State.modSh_fuses (s : State) (f : SensorHub → SensorHub) : (s.modSh f).fuses = s.fuses := rfl
@[simp] theorem State.modSh_sent (s : State) (f : SensorHub → SensorHub) : (s.modSh f).sent = s.sent := rfl
@[simp] theorem State.modSh_peerGib (s : State) (f : SensorHub → SensorHub) : (s.modSh f).peerGib = s.peerGib := rfl
@[simp] theorem State.modSh_trace (s : State) (f : SensorHub → SensorHub) : (s.modSh f).trace = s.trace := rfl
@[simp] theorem State.modSh_debug (s : State) (f : SensorHub → SensorHub) : (s.modSh f).dbg = s.dbg := rfl
@[simp] theorem State.modSh_pcieReads (s : State) (f : SensorHub → SensorHub) : (s.modSh f).pcieReads = s.pcieReads := rfl
@[simp] theorem State.modSh_tests (s : State) (f : SensorHub → SensorHub) : (s.modSh f).tests = s.tests := rfl
@[simp] theorem State.modSh_th (s : State) (f : SensorHub → SensorHub) : (s.modSh f).th = s.th := rfl
@[simp] theorem State.modSh_sh (s : State) (f : SensorHub → SensorHub) : (s.modSh f).sh = f s.sh := rfl
@[simp] theorem State.modSh_plan (s : State) (f : SensorHub → SensorHub) : (s.modSh f).plan = s.plan := rfl
@[simp] theorem State.modSh_ms (s : State) (f : SensorHub → SensorHub) : (s.modSh f).ms = s.ms := rfl
@[simp] theorem State.modSh_isl (s : State) (f : SensorHub → SensorHub) : (s.modSh f).isl = s.isl := rfl
@[simp] theorem State.modSh_sk (s : State) (f : SensorHub → SensorHub) : (s.modSh f).sk = s.sk := rfl
@[simp] theorem State.modSh_ch (s : State) (f : SensorHub → SensorHub) : (s.modSh f).ch = s.ch := rfl
@[simp] theorem State.modSh_pw (s : State) (f : SensorHub → SensorHub) : (s.modSh f).pw = s.pw := rfl
@[simp] theorem State.modSh_aon (s : State) (f : SensorHub → SensorHub) : (s.modSh f).aon = s.aon := rfl
@[simp] theorem State.modSh_flash (s : State) (f : SensorHub → SensorHub) : (s.modSh f).flash = s.flash := rfl
@[simp] theorem State.modSh_harts (s : State) (f : SensorHub → SensorHub) : (s.modSh f).harts = s.harts := rfl
@[simp] theorem State.modSh_free (s : State) (f : SensorHub → SensorHub) : (s.modSh f).free = s.free := rfl
@[simp] theorem State.modSh_pending (s : State) (f : SensorHub → SensorHub) : (s.modSh f).pending = s.pending := rfl

/-! ### modPlan -/

@[simp] theorem State.modPlan_regs (s : State) (f : PlanSt → PlanSt) : (s.modPlan f).regs = s.regs := rfl
@[simp] theorem State.modPlan_mem (s : State) (f : PlanSt → PlanSt) : (s.modPlan f).mem = s.mem := rfl
@[simp] theorem State.modPlan_bus (s : State) (f : PlanSt → PlanSt) : (s.modPlan f).bus = s.bus := rfl
@[simp] theorem State.modPlan_time (s : State) (f : PlanSt → PlanSt) : (s.modPlan f).time = s.time := rfl
@[simp] theorem State.modPlan_tiles (s : State) (f : PlanSt → PlanSt) : (s.modPlan f).tiles = s.tiles := rfl
@[simp] theorem State.modPlan_hub (s : State) (f : PlanSt → PlanSt) : (s.modPlan f).hub = s.hub := rfl
@[simp] theorem State.modPlan_fuses (s : State) (f : PlanSt → PlanSt) : (s.modPlan f).fuses = s.fuses := rfl
@[simp] theorem State.modPlan_sent (s : State) (f : PlanSt → PlanSt) : (s.modPlan f).sent = s.sent := rfl
@[simp] theorem State.modPlan_peerGib (s : State) (f : PlanSt → PlanSt) : (s.modPlan f).peerGib = s.peerGib := rfl
@[simp] theorem State.modPlan_trace (s : State) (f : PlanSt → PlanSt) : (s.modPlan f).trace = s.trace := rfl
@[simp] theorem State.modPlan_debug (s : State) (f : PlanSt → PlanSt) : (s.modPlan f).dbg = s.dbg := rfl
@[simp] theorem State.modPlan_pcieReads (s : State) (f : PlanSt → PlanSt) : (s.modPlan f).pcieReads = s.pcieReads := rfl
@[simp] theorem State.modPlan_tests (s : State) (f : PlanSt → PlanSt) : (s.modPlan f).tests = s.tests := rfl
@[simp] theorem State.modPlan_th (s : State) (f : PlanSt → PlanSt) : (s.modPlan f).th = s.th := rfl
@[simp] theorem State.modPlan_sh (s : State) (f : PlanSt → PlanSt) : (s.modPlan f).sh = s.sh := rfl
@[simp] theorem State.modPlan_plan (s : State) (f : PlanSt → PlanSt) : (s.modPlan f).plan = f s.plan := rfl
@[simp] theorem State.modPlan_ms (s : State) (f : PlanSt → PlanSt) : (s.modPlan f).ms = s.ms := rfl
@[simp] theorem State.modPlan_isl (s : State) (f : PlanSt → PlanSt) : (s.modPlan f).isl = s.isl := rfl
@[simp] theorem State.modPlan_sk (s : State) (f : PlanSt → PlanSt) : (s.modPlan f).sk = s.sk := rfl
@[simp] theorem State.modPlan_ch (s : State) (f : PlanSt → PlanSt) : (s.modPlan f).ch = s.ch := rfl
@[simp] theorem State.modPlan_pw (s : State) (f : PlanSt → PlanSt) : (s.modPlan f).pw = s.pw := rfl
@[simp] theorem State.modPlan_aon (s : State) (f : PlanSt → PlanSt) : (s.modPlan f).aon = s.aon := rfl
@[simp] theorem State.modPlan_flash (s : State) (f : PlanSt → PlanSt) : (s.modPlan f).flash = s.flash := rfl
@[simp] theorem State.modPlan_harts (s : State) (f : PlanSt → PlanSt) : (s.modPlan f).harts = s.harts := rfl
@[simp] theorem State.modPlan_free (s : State) (f : PlanSt → PlanSt) : (s.modPlan f).free = s.free := rfl
@[simp] theorem State.modPlan_pending (s : State) (f : PlanSt → PlanSt) : (s.modPlan f).pending = s.pending := rfl

/-! ### modMs -/

@[simp] theorem State.modMs_regs (s : State) (f : MemSys → MemSys) : (s.modMs f).regs = s.regs := rfl
@[simp] theorem State.modMs_mem (s : State) (f : MemSys → MemSys) : (s.modMs f).mem = s.mem := rfl
@[simp] theorem State.modMs_bus (s : State) (f : MemSys → MemSys) : (s.modMs f).bus = s.bus := rfl
@[simp] theorem State.modMs_time (s : State) (f : MemSys → MemSys) : (s.modMs f).time = s.time := rfl
@[simp] theorem State.modMs_tiles (s : State) (f : MemSys → MemSys) : (s.modMs f).tiles = s.tiles := rfl
@[simp] theorem State.modMs_hub (s : State) (f : MemSys → MemSys) : (s.modMs f).hub = s.hub := rfl
@[simp] theorem State.modMs_fuses (s : State) (f : MemSys → MemSys) : (s.modMs f).fuses = s.fuses := rfl
@[simp] theorem State.modMs_sent (s : State) (f : MemSys → MemSys) : (s.modMs f).sent = s.sent := rfl
@[simp] theorem State.modMs_peerGib (s : State) (f : MemSys → MemSys) : (s.modMs f).peerGib = s.peerGib := rfl
@[simp] theorem State.modMs_trace (s : State) (f : MemSys → MemSys) : (s.modMs f).trace = s.trace := rfl
@[simp] theorem State.modMs_debug (s : State) (f : MemSys → MemSys) : (s.modMs f).dbg = s.dbg := rfl
@[simp] theorem State.modMs_pcieReads (s : State) (f : MemSys → MemSys) : (s.modMs f).pcieReads = s.pcieReads := rfl
@[simp] theorem State.modMs_tests (s : State) (f : MemSys → MemSys) : (s.modMs f).tests = s.tests := rfl
@[simp] theorem State.modMs_th (s : State) (f : MemSys → MemSys) : (s.modMs f).th = s.th := rfl
@[simp] theorem State.modMs_sh (s : State) (f : MemSys → MemSys) : (s.modMs f).sh = s.sh := rfl
@[simp] theorem State.modMs_plan (s : State) (f : MemSys → MemSys) : (s.modMs f).plan = s.plan := rfl
@[simp] theorem State.modMs_ms (s : State) (f : MemSys → MemSys) : (s.modMs f).ms = f s.ms := rfl
@[simp] theorem State.modMs_isl (s : State) (f : MemSys → MemSys) : (s.modMs f).isl = s.isl := rfl
@[simp] theorem State.modMs_sk (s : State) (f : MemSys → MemSys) : (s.modMs f).sk = s.sk := rfl
@[simp] theorem State.modMs_ch (s : State) (f : MemSys → MemSys) : (s.modMs f).ch = s.ch := rfl
@[simp] theorem State.modMs_pw (s : State) (f : MemSys → MemSys) : (s.modMs f).pw = s.pw := rfl
@[simp] theorem State.modMs_aon (s : State) (f : MemSys → MemSys) : (s.modMs f).aon = s.aon := rfl
@[simp] theorem State.modMs_flash (s : State) (f : MemSys → MemSys) : (s.modMs f).flash = s.flash := rfl
@[simp] theorem State.modMs_harts (s : State) (f : MemSys → MemSys) : (s.modMs f).harts = s.harts := rfl
@[simp] theorem State.modMs_free (s : State) (f : MemSys → MemSys) : (s.modMs f).free = s.free := rfl
@[simp] theorem State.modMs_pending (s : State) (f : MemSys → MemSys) : (s.modMs f).pending = s.pending := rfl

/-! ### modIsle -/

@[simp] theorem State.modIsle_regs (s : State) (i : Nat) (f : Island → Island) : (s.modIsle i f).regs = s.regs := rfl
@[simp] theorem State.modIsle_mem (s : State) (i : Nat) (f : Island → Island) : (s.modIsle i f).mem = s.mem := rfl
@[simp] theorem State.modIsle_bus (s : State) (i : Nat) (f : Island → Island) : (s.modIsle i f).bus = s.bus := rfl
@[simp] theorem State.modIsle_time (s : State) (i : Nat) (f : Island → Island) : (s.modIsle i f).time = s.time := rfl
@[simp] theorem State.modIsle_tiles (s : State) (i : Nat) (f : Island → Island) : (s.modIsle i f).tiles = s.tiles := rfl
@[simp] theorem State.modIsle_hub (s : State) (i : Nat) (f : Island → Island) : (s.modIsle i f).hub = s.hub := rfl
@[simp] theorem State.modIsle_fuses (s : State) (i : Nat) (f : Island → Island) : (s.modIsle i f).fuses = s.fuses := rfl
@[simp] theorem State.modIsle_sent (s : State) (i : Nat) (f : Island → Island) : (s.modIsle i f).sent = s.sent := rfl
@[simp] theorem State.modIsle_peerGib (s : State) (i : Nat) (f : Island → Island) : (s.modIsle i f).peerGib = s.peerGib := rfl
@[simp] theorem State.modIsle_trace (s : State) (i : Nat) (f : Island → Island) : (s.modIsle i f).trace = s.trace := rfl
@[simp] theorem State.modIsle_debug (s : State) (i : Nat) (f : Island → Island) : (s.modIsle i f).dbg = s.dbg := rfl
@[simp] theorem State.modIsle_pcieReads (s : State) (i : Nat) (f : Island → Island) : (s.modIsle i f).pcieReads = s.pcieReads := rfl
@[simp] theorem State.modIsle_tests (s : State) (i : Nat) (f : Island → Island) : (s.modIsle i f).tests = s.tests := rfl
@[simp] theorem State.modIsle_th (s : State) (i : Nat) (f : Island → Island) : (s.modIsle i f).th = s.th := rfl
@[simp] theorem State.modIsle_sh (s : State) (i : Nat) (f : Island → Island) : (s.modIsle i f).sh = s.sh := rfl
@[simp] theorem State.modIsle_plan (s : State) (i : Nat) (f : Island → Island) : (s.modIsle i f).plan = s.plan := rfl
@[simp] theorem State.modIsle_ms (s : State) (i : Nat) (f : Island → Island) : (s.modIsle i f).ms = s.ms := rfl
@[simp] theorem State.modIsle_isl (s : State) (i : Nat) (f : Island → Island) : (s.modIsle i f).isl = modAt s.isl i f := rfl
@[simp] theorem State.modIsle_sk (s : State) (i : Nat) (f : Island → Island) : (s.modIsle i f).sk = s.sk := rfl
@[simp] theorem State.modIsle_ch (s : State) (i : Nat) (f : Island → Island) : (s.modIsle i f).ch = s.ch := rfl
@[simp] theorem State.modIsle_pw (s : State) (i : Nat) (f : Island → Island) : (s.modIsle i f).pw = s.pw := rfl
@[simp] theorem State.modIsle_aon (s : State) (i : Nat) (f : Island → Island) : (s.modIsle i f).aon = s.aon := rfl
@[simp] theorem State.modIsle_flash (s : State) (i : Nat) (f : Island → Island) : (s.modIsle i f).flash = s.flash := rfl
@[simp] theorem State.modIsle_harts (s : State) (i : Nat) (f : Island → Island) : (s.modIsle i f).harts = s.harts := rfl
@[simp] theorem State.modIsle_free (s : State) (i : Nat) (f : Island → Island) : (s.modIsle i f).free = s.free := rfl
@[simp] theorem State.modIsle_pending (s : State) (i : Nat) (f : Island → Island) : (s.modIsle i f).pending = s.pending := rfl

/-! ### modSk -/

@[simp] theorem State.modSk_regs (s : State) (f : Skink → Skink) : (s.modSk f).regs = s.regs := rfl
@[simp] theorem State.modSk_mem (s : State) (f : Skink → Skink) : (s.modSk f).mem = s.mem := rfl
@[simp] theorem State.modSk_bus (s : State) (f : Skink → Skink) : (s.modSk f).bus = s.bus := rfl
@[simp] theorem State.modSk_time (s : State) (f : Skink → Skink) : (s.modSk f).time = s.time := rfl
@[simp] theorem State.modSk_tiles (s : State) (f : Skink → Skink) : (s.modSk f).tiles = s.tiles := rfl
@[simp] theorem State.modSk_hub (s : State) (f : Skink → Skink) : (s.modSk f).hub = s.hub := rfl
@[simp] theorem State.modSk_fuses (s : State) (f : Skink → Skink) : (s.modSk f).fuses = s.fuses := rfl
@[simp] theorem State.modSk_sent (s : State) (f : Skink → Skink) : (s.modSk f).sent = s.sent := rfl
@[simp] theorem State.modSk_peerGib (s : State) (f : Skink → Skink) : (s.modSk f).peerGib = s.peerGib := rfl
@[simp] theorem State.modSk_trace (s : State) (f : Skink → Skink) : (s.modSk f).trace = s.trace := rfl
@[simp] theorem State.modSk_debug (s : State) (f : Skink → Skink) : (s.modSk f).dbg = s.dbg := rfl
@[simp] theorem State.modSk_pcieReads (s : State) (f : Skink → Skink) : (s.modSk f).pcieReads = s.pcieReads := rfl
@[simp] theorem State.modSk_tests (s : State) (f : Skink → Skink) : (s.modSk f).tests = s.tests := rfl
@[simp] theorem State.modSk_th (s : State) (f : Skink → Skink) : (s.modSk f).th = s.th := rfl
@[simp] theorem State.modSk_sh (s : State) (f : Skink → Skink) : (s.modSk f).sh = s.sh := rfl
@[simp] theorem State.modSk_plan (s : State) (f : Skink → Skink) : (s.modSk f).plan = s.plan := rfl
@[simp] theorem State.modSk_ms (s : State) (f : Skink → Skink) : (s.modSk f).ms = s.ms := rfl
@[simp] theorem State.modSk_isl (s : State) (f : Skink → Skink) : (s.modSk f).isl = s.isl := rfl
@[simp] theorem State.modSk_sk (s : State) (f : Skink → Skink) : (s.modSk f).sk = f s.sk := rfl
@[simp] theorem State.modSk_ch (s : State) (f : Skink → Skink) : (s.modSk f).ch = s.ch := rfl
@[simp] theorem State.modSk_pw (s : State) (f : Skink → Skink) : (s.modSk f).pw = s.pw := rfl
@[simp] theorem State.modSk_aon (s : State) (f : Skink → Skink) : (s.modSk f).aon = s.aon := rfl
@[simp] theorem State.modSk_flash (s : State) (f : Skink → Skink) : (s.modSk f).flash = s.flash := rfl
@[simp] theorem State.modSk_harts (s : State) (f : Skink → Skink) : (s.modSk f).harts = s.harts := rfl
@[simp] theorem State.modSk_free (s : State) (f : Skink → Skink) : (s.modSk f).free = s.free := rfl
@[simp] theorem State.modSk_pending (s : State) (f : Skink → Skink) : (s.modSk f).pending = s.pending := rfl

/-! ### modCh -/

@[simp] theorem State.modCh_regs (s : State) (f : Chorus → Chorus) : (s.modCh f).regs = s.regs := rfl
@[simp] theorem State.modCh_mem (s : State) (f : Chorus → Chorus) : (s.modCh f).mem = s.mem := rfl
@[simp] theorem State.modCh_bus (s : State) (f : Chorus → Chorus) : (s.modCh f).bus = s.bus := rfl
@[simp] theorem State.modCh_time (s : State) (f : Chorus → Chorus) : (s.modCh f).time = s.time := rfl
@[simp] theorem State.modCh_tiles (s : State) (f : Chorus → Chorus) : (s.modCh f).tiles = s.tiles := rfl
@[simp] theorem State.modCh_hub (s : State) (f : Chorus → Chorus) : (s.modCh f).hub = s.hub := rfl
@[simp] theorem State.modCh_fuses (s : State) (f : Chorus → Chorus) : (s.modCh f).fuses = s.fuses := rfl
@[simp] theorem State.modCh_sent (s : State) (f : Chorus → Chorus) : (s.modCh f).sent = s.sent := rfl
@[simp] theorem State.modCh_peerGib (s : State) (f : Chorus → Chorus) : (s.modCh f).peerGib = s.peerGib := rfl
@[simp] theorem State.modCh_trace (s : State) (f : Chorus → Chorus) : (s.modCh f).trace = s.trace := rfl
@[simp] theorem State.modCh_debug (s : State) (f : Chorus → Chorus) : (s.modCh f).dbg = s.dbg := rfl
@[simp] theorem State.modCh_pcieReads (s : State) (f : Chorus → Chorus) : (s.modCh f).pcieReads = s.pcieReads := rfl
@[simp] theorem State.modCh_tests (s : State) (f : Chorus → Chorus) : (s.modCh f).tests = s.tests := rfl
@[simp] theorem State.modCh_th (s : State) (f : Chorus → Chorus) : (s.modCh f).th = s.th := rfl
@[simp] theorem State.modCh_sh (s : State) (f : Chorus → Chorus) : (s.modCh f).sh = s.sh := rfl
@[simp] theorem State.modCh_plan (s : State) (f : Chorus → Chorus) : (s.modCh f).plan = s.plan := rfl
@[simp] theorem State.modCh_ms (s : State) (f : Chorus → Chorus) : (s.modCh f).ms = s.ms := rfl
@[simp] theorem State.modCh_isl (s : State) (f : Chorus → Chorus) : (s.modCh f).isl = s.isl := rfl
@[simp] theorem State.modCh_sk (s : State) (f : Chorus → Chorus) : (s.modCh f).sk = s.sk := rfl
@[simp] theorem State.modCh_ch (s : State) (f : Chorus → Chorus) : (s.modCh f).ch = f s.ch := rfl
@[simp] theorem State.modCh_pw (s : State) (f : Chorus → Chorus) : (s.modCh f).pw = s.pw := rfl
@[simp] theorem State.modCh_aon (s : State) (f : Chorus → Chorus) : (s.modCh f).aon = s.aon := rfl
@[simp] theorem State.modCh_flash (s : State) (f : Chorus → Chorus) : (s.modCh f).flash = s.flash := rfl
@[simp] theorem State.modCh_harts (s : State) (f : Chorus → Chorus) : (s.modCh f).harts = s.harts := rfl
@[simp] theorem State.modCh_free (s : State) (f : Chorus → Chorus) : (s.modCh f).free = s.free := rfl
@[simp] theorem State.modCh_pending (s : State) (f : Chorus → Chorus) : (s.modCh f).pending = s.pending := rfl

/-! ### modPw -/

@[simp] theorem State.modPw_regs (s : State) (f : PowerSt → PowerSt) : (s.modPw f).regs = s.regs := rfl
@[simp] theorem State.modPw_mem (s : State) (f : PowerSt → PowerSt) : (s.modPw f).mem = s.mem := rfl
@[simp] theorem State.modPw_bus (s : State) (f : PowerSt → PowerSt) : (s.modPw f).bus = s.bus := rfl
@[simp] theorem State.modPw_time (s : State) (f : PowerSt → PowerSt) : (s.modPw f).time = s.time := rfl
@[simp] theorem State.modPw_tiles (s : State) (f : PowerSt → PowerSt) : (s.modPw f).tiles = s.tiles := rfl
@[simp] theorem State.modPw_hub (s : State) (f : PowerSt → PowerSt) : (s.modPw f).hub = s.hub := rfl
@[simp] theorem State.modPw_fuses (s : State) (f : PowerSt → PowerSt) : (s.modPw f).fuses = s.fuses := rfl
@[simp] theorem State.modPw_sent (s : State) (f : PowerSt → PowerSt) : (s.modPw f).sent = s.sent := rfl
@[simp] theorem State.modPw_peerGib (s : State) (f : PowerSt → PowerSt) : (s.modPw f).peerGib = s.peerGib := rfl
@[simp] theorem State.modPw_trace (s : State) (f : PowerSt → PowerSt) : (s.modPw f).trace = s.trace := rfl
@[simp] theorem State.modPw_debug (s : State) (f : PowerSt → PowerSt) : (s.modPw f).dbg = s.dbg := rfl
@[simp] theorem State.modPw_pcieReads (s : State) (f : PowerSt → PowerSt) : (s.modPw f).pcieReads = s.pcieReads := rfl
@[simp] theorem State.modPw_tests (s : State) (f : PowerSt → PowerSt) : (s.modPw f).tests = s.tests := rfl
@[simp] theorem State.modPw_th (s : State) (f : PowerSt → PowerSt) : (s.modPw f).th = s.th := rfl
@[simp] theorem State.modPw_sh (s : State) (f : PowerSt → PowerSt) : (s.modPw f).sh = s.sh := rfl
@[simp] theorem State.modPw_plan (s : State) (f : PowerSt → PowerSt) : (s.modPw f).plan = s.plan := rfl
@[simp] theorem State.modPw_ms (s : State) (f : PowerSt → PowerSt) : (s.modPw f).ms = s.ms := rfl
@[simp] theorem State.modPw_isl (s : State) (f : PowerSt → PowerSt) : (s.modPw f).isl = s.isl := rfl
@[simp] theorem State.modPw_sk (s : State) (f : PowerSt → PowerSt) : (s.modPw f).sk = s.sk := rfl
@[simp] theorem State.modPw_ch (s : State) (f : PowerSt → PowerSt) : (s.modPw f).ch = s.ch := rfl
@[simp] theorem State.modPw_pw (s : State) (f : PowerSt → PowerSt) : (s.modPw f).pw = f s.pw := rfl
@[simp] theorem State.modPw_aon (s : State) (f : PowerSt → PowerSt) : (s.modPw f).aon = s.aon := rfl
@[simp] theorem State.modPw_flash (s : State) (f : PowerSt → PowerSt) : (s.modPw f).flash = s.flash := rfl
@[simp] theorem State.modPw_harts (s : State) (f : PowerSt → PowerSt) : (s.modPw f).harts = s.harts := rfl
@[simp] theorem State.modPw_free (s : State) (f : PowerSt → PowerSt) : (s.modPw f).free = s.free := rfl
@[simp] theorem State.modPw_pending (s : State) (f : PowerSt → PowerSt) : (s.modPw f).pending = s.pending := rfl

/-! ### modFlash -/

@[simp] theorem State.modFlash_regs (s : State) (f : FlashSt → FlashSt) : (s.modFlash f).regs = s.regs := rfl
@[simp] theorem State.modFlash_mem (s : State) (f : FlashSt → FlashSt) : (s.modFlash f).mem = s.mem := rfl
@[simp] theorem State.modFlash_bus (s : State) (f : FlashSt → FlashSt) : (s.modFlash f).bus = s.bus := rfl
@[simp] theorem State.modFlash_time (s : State) (f : FlashSt → FlashSt) : (s.modFlash f).time = s.time := rfl
@[simp] theorem State.modFlash_tiles (s : State) (f : FlashSt → FlashSt) : (s.modFlash f).tiles = s.tiles := rfl
@[simp] theorem State.modFlash_hub (s : State) (f : FlashSt → FlashSt) : (s.modFlash f).hub = s.hub := rfl
@[simp] theorem State.modFlash_fuses (s : State) (f : FlashSt → FlashSt) : (s.modFlash f).fuses = s.fuses := rfl
@[simp] theorem State.modFlash_sent (s : State) (f : FlashSt → FlashSt) : (s.modFlash f).sent = s.sent := rfl
@[simp] theorem State.modFlash_peerGib (s : State) (f : FlashSt → FlashSt) : (s.modFlash f).peerGib = s.peerGib := rfl
@[simp] theorem State.modFlash_trace (s : State) (f : FlashSt → FlashSt) : (s.modFlash f).trace = s.trace := rfl
@[simp] theorem State.modFlash_debug (s : State) (f : FlashSt → FlashSt) : (s.modFlash f).dbg = s.dbg := rfl
@[simp] theorem State.modFlash_pcieReads (s : State) (f : FlashSt → FlashSt) : (s.modFlash f).pcieReads = s.pcieReads := rfl
@[simp] theorem State.modFlash_tests (s : State) (f : FlashSt → FlashSt) : (s.modFlash f).tests = s.tests := rfl
@[simp] theorem State.modFlash_th (s : State) (f : FlashSt → FlashSt) : (s.modFlash f).th = s.th := rfl
@[simp] theorem State.modFlash_sh (s : State) (f : FlashSt → FlashSt) : (s.modFlash f).sh = s.sh := rfl
@[simp] theorem State.modFlash_plan (s : State) (f : FlashSt → FlashSt) : (s.modFlash f).plan = s.plan := rfl
@[simp] theorem State.modFlash_ms (s : State) (f : FlashSt → FlashSt) : (s.modFlash f).ms = s.ms := rfl
@[simp] theorem State.modFlash_isl (s : State) (f : FlashSt → FlashSt) : (s.modFlash f).isl = s.isl := rfl
@[simp] theorem State.modFlash_sk (s : State) (f : FlashSt → FlashSt) : (s.modFlash f).sk = s.sk := rfl
@[simp] theorem State.modFlash_ch (s : State) (f : FlashSt → FlashSt) : (s.modFlash f).ch = s.ch := rfl
@[simp] theorem State.modFlash_pw (s : State) (f : FlashSt → FlashSt) : (s.modFlash f).pw = s.pw := rfl
@[simp] theorem State.modFlash_aon (s : State) (f : FlashSt → FlashSt) : (s.modFlash f).aon = s.aon := rfl
@[simp] theorem State.modFlash_flash (s : State) (f : FlashSt → FlashSt) : (s.modFlash f).flash = f s.flash := rfl
@[simp] theorem State.modFlash_harts (s : State) (f : FlashSt → FlashSt) : (s.modFlash f).harts = s.harts := rfl
@[simp] theorem State.modFlash_free (s : State) (f : FlashSt → FlashSt) : (s.modFlash f).free = s.free := rfl
@[simp] theorem State.modFlash_pending (s : State) (f : FlashSt → FlashSt) : (s.modFlash f).pending = s.pending := rfl

/-! ### withPending -/

@[simp] theorem State.withPending_regs (s : State) (q : List Instr) : (s.withPending q).regs = s.regs := rfl
@[simp] theorem State.withPending_mem (s : State) (q : List Instr) : (s.withPending q).mem = s.mem := rfl
@[simp] theorem State.withPending_bus (s : State) (q : List Instr) : (s.withPending q).bus = s.bus := rfl
@[simp] theorem State.withPending_time (s : State) (q : List Instr) : (s.withPending q).time = s.time := rfl
@[simp] theorem State.withPending_tiles (s : State) (q : List Instr) : (s.withPending q).tiles = s.tiles := rfl
@[simp] theorem State.withPending_hub (s : State) (q : List Instr) : (s.withPending q).hub = s.hub := rfl
@[simp] theorem State.withPending_fuses (s : State) (q : List Instr) : (s.withPending q).fuses = s.fuses := rfl
@[simp] theorem State.withPending_sent (s : State) (q : List Instr) : (s.withPending q).sent = s.sent := rfl
@[simp] theorem State.withPending_peerGib (s : State) (q : List Instr) : (s.withPending q).peerGib = s.peerGib := rfl
@[simp] theorem State.withPending_trace (s : State) (q : List Instr) : (s.withPending q).trace = s.trace := rfl
@[simp] theorem State.withPending_debug (s : State) (q : List Instr) : (s.withPending q).dbg = s.dbg := rfl
@[simp] theorem State.withPending_pcieReads (s : State) (q : List Instr) : (s.withPending q).pcieReads = s.pcieReads := rfl
@[simp] theorem State.withPending_tests (s : State) (q : List Instr) : (s.withPending q).tests = s.tests := rfl
@[simp] theorem State.withPending_th (s : State) (q : List Instr) : (s.withPending q).th = s.th := rfl
@[simp] theorem State.withPending_sh (s : State) (q : List Instr) : (s.withPending q).sh = s.sh := rfl
@[simp] theorem State.withPending_plan (s : State) (q : List Instr) : (s.withPending q).plan = s.plan := rfl
@[simp] theorem State.withPending_ms (s : State) (q : List Instr) : (s.withPending q).ms = s.ms := rfl
@[simp] theorem State.withPending_isl (s : State) (q : List Instr) : (s.withPending q).isl = s.isl := rfl
@[simp] theorem State.withPending_sk (s : State) (q : List Instr) : (s.withPending q).sk = s.sk := rfl
@[simp] theorem State.withPending_ch (s : State) (q : List Instr) : (s.withPending q).ch = s.ch := rfl
@[simp] theorem State.withPending_pw (s : State) (q : List Instr) : (s.withPending q).pw = s.pw := rfl
@[simp] theorem State.withPending_aon (s : State) (q : List Instr) : (s.withPending q).aon = s.aon := rfl
@[simp] theorem State.withPending_flash (s : State) (q : List Instr) : (s.withPending q).flash = s.flash := rfl
@[simp] theorem State.withPending_harts (s : State) (q : List Instr) : (s.withPending q).harts = s.harts := rfl
@[simp] theorem State.withPending_free (s : State) (q : List Instr) : (s.withPending q).free = s.free := rfl
@[simp] theorem State.withPending_pending (s : State) (q : List Instr) : (s.withPending q).pending = q := rfl

end Sys2Proof.Machine
end

