-- ==== Sys2Proof/Laws/Frame.lean ====
section
/-!
SUPPORT. What an operation leaves alone. `Keeps` is what no operation disturbs: the queue, the peers' memory
sizes, the canonical form of memory and registers, and what is fused. `Within F` adds that every part of the
state outside the set `F` (bit i of `F` is part i, in the order of its fields) is unchanged. Both are closed
under composition, and each operation has one lemma that names the parts it may change.
-/
namespace Sys2Proof.Machine

/-- `t` keeps what every operation keeps of `s`. -/
structure Keeps (s t : State) : Prop where
  pending : t.pending = s.pending
  peers   : t.peerGib = s.peerGib
  fuses   : FusesKept s.fuses t.fuses
  mem     : s.mem.wf = true → t.mem.wf = true
  regs    : regsOk s.regs = true → regsOk t.regs = true

theorem FusesKept.refl (a : Fuses) : FusesKept a a :=
  ⟨rfl, rfl, rfl, rfl, rfl, rfl, rfl, rfl, Nat.le_refl _, fun _ h => h⟩

theorem FusesKept.trans {a b c : Fuses} (h : FusesKept a b) (k : FusesKept b c) : FusesKept a c :=
  ⟨k.1.trans h.1, k.2.trans h.2, k.3.trans h.3, k.4.trans h.4, k.5.trans h.5, k.6.trans h.6, k.7.trans h.7, k.8.trans h.8,
   h.9.trans k.9, fun n x => k.10 n (h.10 n x)⟩

theorem Keeps.refl (s : State) : Keeps s s := ⟨rfl, rfl, .refl _, id, id⟩

theorem Keeps.trans {s t u : State} (h : Keeps s t) (k : Keeps t u) : Keeps s u :=
  ⟨k.1.trans h.1, k.2.trans h.2, h.3.trans k.3, fun x => k.4 (h.4 x), fun x => k.5 (h.5 x)⟩

/-- An update of any other field. -/
theorem Keeps.of_eq {r s t : State} (h : Keeps r s) (h1 : t.pending = s.pending) (h2 : t.peerGib = s.peerGib)
    (h3 : t.fuses = s.fuses) (h4 : t.mem = s.mem) (h5 : t.regs = s.regs) : Keeps r t :=
  h.trans ⟨h1, h2, h3 ▸ .refl _, h4 ▸ id, h5 ▸ id⟩

theorem Keeps.setReg {r s : State} {a : Addr} {w : Word} (h : Keeps r s) : Keeps r (s.setReg a w) :=
  h.trans ⟨rfl, rfl, .refl _, id, fun h => regsOk_regsPut a w h⟩

theorem Keeps.modMem {r s : State} {f : Mem → Mem} (h : Keeps r s) (hf : ∀ m : Mem, m.wf = true → (f m).wf = true) :
    Keeps r (s.modMem f) :=
  h.trans ⟨rfl, rfl, .refl _, fun h => hf _ h, id⟩

theorem Keeps.modFuses {r s : State} {f : Fuses → Fuses} (h : Keeps r s) (hf : FusesKept s.fuses (f s.fuses)) :
    Keeps r (s.modFuses f) :=
  h.trans ⟨rfl, rfl, hf, id, id⟩

/-- `t` keeps what every operation keeps of `r`, and agrees with `r` in every part outside `F`. -/
structure Within (F : Nat) (r t : State) : Prop where
  keeps : Keeps r t
  regs : F.testBit 0 = false → t.regs = r.regs
  mem : F.testBit 1 = false → t.mem = r.mem
  bus : F.testBit 2 = false → t.bus = r.bus
  time : F.testBit 3 = false → t.time = r.time
  tiles : F.testBit 4 = false → t.tiles = r.tiles
  hub : F.testBit 5 = false → t.hub = r.hub
  fuses : F.testBit 6 = false → t.fuses = r.fuses
  sent : F.testBit 7 = false → t.sent = r.sent
  trace : F.testBit 8 = false → t.trace = r.trace
  debug : F.testBit 9 = false → t.dbg = r.dbg
  pcieReads : F.testBit 10 = false → t.pcieReads = r.pcieReads
  tests : F.testBit 11 = false → t.tests = r.tests
  th : F.testBit 12 = false → t.th = r.th
  sh : F.testBit 13 = false → t.sh = r.sh
  plan : F.testBit 14 = false → t.plan = r.plan
  ms : F.testBit 15 = false → t.ms = r.ms
  isl : F.testBit 16 = false → t.isl = r.isl
  sk : F.testBit 17 = false → t.sk = r.sk
  ch : F.testBit 18 = false → t.ch = r.ch
  pw : F.testBit 19 = false → t.pw = r.pw
  aon : F.testBit 20 = false → t.aon = r.aon
  flash : F.testBit 21 = false → t.flash = r.flash
  harts : F.testBit 22 = false → t.harts = r.harts
  free : F.testBit 23 = false → t.free = r.free

theorem Within.refl (F : Nat) (s : State) : Within F s s := by
  constructor
  case keeps => exact .refl s
  all_goals exact fun _ => Eq.refl _

/-- The next state of an outcome differs from `r` inside `F` only. -/
def WithinR (F : Nat) (r : State) (o : Res State) : Prop := ∃ t, o = .next t ∧ Within F r t

theorem WithinR.next {F : Nat} {r t : State} (h : Within F r t) : WithinR F r (.next t) := ⟨t, rfl, h⟩

/-- The parts of a part of `F` lie in `F`. -/
theorem maskSub {F m k : Nat} (h : F &&& m = m) (g : m &&& k = k) : F &&& k = k := by
  rw [← g, ← Nat.land_assoc, h]

theorem maskBit {F : Nat} (i : Nat) (h : F &&& 2 ^ i = 2 ^ i) : ¬ F.testBit i = false := by
  have k := congrArg (fun n => n.testBit i) h
  simp only [Nat.testBit_and, Nat.testBit_two_pow_self, Bool.and_true] at k
  rw [k]
  simp

theorem Within.foldl {F : Nat} {r : State} {α : Type} {f : State → α → State} (hf : ∀ x a, Within F r x → Within F r (f x a))
    {l : List α} : ∀ {x : State}, Within F r x → Within F r (l.foldl f x) := by
  induction l with
  | nil => exact fun h => h
  | cons a l ih => exact fun h => ih (hf _ a h)

theorem Within.foldl_fst {F : Nat} {r : State} {α β : Type} {f : State × β → α → State × β}
    (hf : ∀ p a, Within F r p.1 → Within F r (f p a).1) {l : List α} :
    ∀ {p : State × β}, Within F r p.1 → Within F r (l.foldl f p).1 := by
  induction l with
  | nil => exact fun h => h
  | cons a l ih => exact fun h => ih (hf _ a h)

theorem Within.fst {F : Nat} {α : Type} {r t : State} {p : State × α} {x : α} (h : p = (t, x)) (k : Within F r p.1) :
    Within F r t := by
  rw [h] at k; exact k

theorem Within.snd {F : Nat} {α : Type} {r t : State} {p : α × State} {x : α} (h : p = (x, t)) (k : Within F r p.2) :
    Within F r t := by
  rw [h] at k; exact k

theorem Within.ite {F : Nat} {r a b : State} {c : Prop} [Decidable c] (ha : Within F r a) (hb : Within F r b) :
    Within F r (if c then a else b) := by
  split <;> assumption

/-- What an entry's plan does to a state stays inside `F`. -/
def PlanWithin (F : Nat) : Plan → Prop
  | .fault _ => True
  | .go g => ∀ r x, Within F r x → Within F r (g.eff x).1

theorem PlanWithin.fault {F st : Nat} : PlanWithin F (.fault st) := trivial

theorem PlanWithin.go {F : Nat} {g : Go} (h : ∀ r x, Within F r x → Within F r (g.eff x).1) : PlanWithin F (.go g) := h

theorem PlanWithin.eff {F : Nat} {p : Plan} {g : Go} (e : p = .go g) (k : PlanWithin F p) {r x : State} (h : Within F r x) :
    Within F r (g.eff x).1 := by
  subst e; exact k _ _ h

theorem id_frame {F : Nat} {r s : State} (h : Within F r s) : Within F r (id s) := h

theorem Mem.wf_foldl {α : Type} {f : Mem → α → Mem} (hf : ∀ m a, m.wf = true → (f m a).wf = true) :
    ∀ (l : List α) {m : Mem}, m.wf = true → (l.foldl f m).wf = true := by
  intro l
  induction l with
  | nil => exact fun h => h
  | cons a r ih => exact fun h => ih (hf _ a h)

theorem getD_setAt_true : ∀ {l : List Bool} {n k : Nat}, l.getD k false = true → (setAt l n true).getD k false = true := by
  intro l
  induction l with
  | nil => intro n k h; simp at h
  | cons b r ih =>
    intro n k h
    cases n with
    | zero => cases k with
      | zero => rfl
      | succ k => simpa [setAt] using h
    | succ n => cases k with
      | zero => simpa [setAt] using h
      | succ k =>
        have h' : r.getD k false = true := by simpa using h
        simpa [setAt] using ih h'


theorem State.setReg_frame {F : Nat} {r s : State} {a : Addr} {w : Word} (hF : F &&& 1 = 1) (h : Within F r s) : Within F r (s.setReg a w) :=
  { h with keeps := h.keeps.setReg, regs := fun e => absurd e (maskBit 0 hF) }

theorem State.tick_frame {F : Nat} {r s : State}  (hF : F &&& 8388608 = 8388608) (h : Within F r s) : Within F r (s.tick) :=
  { h with keeps := h.keeps.of_eq rfl rfl rfl rfl rfl, free := fun e => absurd e (maskBit 23 hF) }

theorem State.emit_frame {F : Nat} {r s : State} {x : Sent} (hF : F &&& 128 = 128) (h : Within F r s) : Within F r (s.emit x) :=
  { h with keeps := h.keeps.of_eq rfl rfl rfl rfl rfl, sent := fun e => absurd e (maskBit 7 hF) }

theorem State.modHub_frame {F : Nat} {r s : State} {f : Hub → Hub} (hF : F &&& 32 = 32) (h : Within F r s) : Within F r (s.modHub f) :=
  { h with keeps := h.keeps.of_eq rfl rfl rfl rfl rfl, hub := fun e => absurd e (maskBit 5 hF) }

theorem State.modMem_frame {F : Nat} {r s : State} {f : Mem → Mem} (hF : F &&& 2 = 2) (hf : ∀ m : Mem, m.wf = true → (f m).wf = true) (h : Within F r s) : Within F r (s.modMem f) :=
  { h with keeps := h.keeps.modMem hf, mem := fun e => absurd e (maskBit 1 hF) }

theorem State.modTime_frame {F : Nat} {r s : State} {f : TimeSt → TimeSt} (hF : F &&& 8 = 8) (h : Within F r s) : Within F r (s.modTime f) :=
  { h with keeps := h.keeps.of_eq rfl rfl rfl rfl rfl, time := fun e => absurd e (maskBit 3 hF) }

theorem State.modFuses_frame {F : Nat} {r s : State} {f : Fuses → Fuses} (hF : F &&& 64 = 64) (hf : FusesKept s.fuses (f s.fuses)) (h : Within F r s) : Within F r (s.modFuses f) :=
  { h with keeps := h.keeps.modFuses hf, fuses := fun e => absurd e (maskBit 6 hF) }

theorem State.modReads_frame {F : Nat} {r s : State} {f : List PcieRead → List PcieRead} (hF : F &&& 1024 = 1024) (h : Within F r s) : Within F r (s.modReads f) :=
  { h with keeps := h.keeps.of_eq rfl rfl rfl rfl rfl, pcieReads := fun e => absurd e (maskBit 10 hF) }

theorem State.modBus_frame {F : Nat} {r s : State} {f : Bus → Bus} (hF : F &&& 4 = 4) (h : Within F r s) : Within F r (s.modBus f) :=
  { h with keeps := h.keeps.of_eq rfl rfl rfl rfl rfl, bus := fun e => absurd e (maskBit 2 hF) }

theorem State.modTiles_frame {F : Nat} {r s : State} {f : List Tile → List Tile} (hF : F &&& 16 = 16) (h : Within F r s) : Within F r (s.modTiles f) :=
  { h with keeps := h.keeps.of_eq rfl rfl rfl rfl rfl, tiles := fun e => absurd e (maskBit 4 hF) }

theorem State.modTests_frame {F : Nat} {r s : State} {f : List TestUnit → List TestUnit} (hF : F &&& 2048 = 2048) (h : Within F r s) : Within F r (s.modTests f) :=
  { h with keeps := h.keeps.of_eq rfl rfl rfl rfl rfl, tests := fun e => absurd e (maskBit 11 hF) }

theorem State.modHarts_frame {F : Nat} {r s : State} {f : List Hart → List Hart} (hF : F &&& 4194304 = 4194304) (h : Within F r s) : Within F r (s.modHarts f) :=
  { h with keeps := h.keeps.of_eq rfl rfl rfl rfl rfl, harts := fun e => absurd e (maskBit 22 hF) }

theorem State.modAon_frame {F : Nat} {r s : State} {f : Aon → Aon} (hF : F &&& 1048576 = 1048576) (h : Within F r s) : Within F r (s.modAon f) :=
  { h with keeps := h.keeps.of_eq rfl rfl rfl rfl rfl, aon := fun e => absurd e (maskBit 20 hF) }

theorem State.modTrace_frame {F : Nat} {r s : State} {f : Trace → Trace} (hF : F &&& 256 = 256) (h : Within F r s) : Within F r (s.modTrace f) :=
  { h with keeps := h.keeps.of_eq rfl rfl rfl rfl rfl, trace := fun e => absurd e (maskBit 8 hF) }

theorem State.modDebug_frame {F : Nat} {r s : State} {f : Debug → Debug} (hF : F &&& 512 = 512) (h : Within F r s) : Within F r (s.modDebug f) :=
  { h with keeps := h.keeps.of_eq rfl rfl rfl rfl rfl, debug := fun e => absurd e (maskBit 9 hF) }

theorem State.modTh_frame {F : Nat} {r s : State} {f : Thermal → Thermal} (hF : F &&& 4096 = 4096) (h : Within F r s) : Within F r (s.modTh f) :=
  { h with keeps := h.keeps.of_eq rfl rfl rfl rfl rfl, th := fun e => absurd e (maskBit 12 hF) }

theorem State.modSh_frame {F : Nat} {r s : State} {f : SensorHub → SensorHub} (hF : F &&& 8192 = 8192) (h : Within F r s) : Within F r (s.modSh f) :=
  { h with keeps := h.keeps.of_eq rfl rfl rfl rfl rfl, sh := fun e => absurd e (maskBit 13 hF) }

theorem State.modPlan_frame {F : Nat} {r s : State} {f : PlanSt → PlanSt} (hF : F &&& 16384 = 16384) (h : Within F r s) : Within F r (s.modPlan f) :=
  { h with keeps := h.keeps.of_eq rfl rfl rfl rfl rfl, plan := fun e => absurd e (maskBit 14 hF) }

theorem State.modMs_frame {F : Nat} {r s : State} {f : MemSys → MemSys} (hF : F &&& 32768 = 32768) (h : Within F r s) : Within F r (s.modMs f) :=
  { h with keeps := h.keeps.of_eq rfl rfl rfl rfl rfl, ms := fun e => absurd e (maskBit 15 hF) }

theorem State.modIsle_frame {F : Nat} {r s : State} {i : Nat} {f : Island → Island} (hF : F &&& 65536 = 65536) (h : Within F r s) : Within F r (s.modIsle i f) :=
  { h with keeps := h.keeps.of_eq rfl rfl rfl rfl rfl, isl := fun e => absurd e (maskBit 16 hF) }

theorem State.modSk_frame {F : Nat} {r s : State} {f : Skink → Skink} (hF : F &&& 131072 = 131072) (h : Within F r s) : Within F r (s.modSk f) :=
  { h with keeps := h.keeps.of_eq rfl rfl rfl rfl rfl, sk := fun e => absurd e (maskBit 17 hF) }

theorem State.modCh_frame {F : Nat} {r s : State} {f : Chorus → Chorus} (hF : F &&& 262144 = 262144) (h : Within F r s) : Within F r (s.modCh f) :=
  { h with keeps := h.keeps.of_eq rfl rfl rfl rfl rfl, ch := fun e => absurd e (maskBit 18 hF) }

theorem State.modPw_frame {F : Nat} {r s : State} {f : PowerSt → PowerSt} (hF : F &&& 524288 = 524288) (h : Within F r s) : Within F r (s.modPw f) :=
  { h with keeps := h.keeps.of_eq rfl rfl rfl rfl rfl, pw := fun e => absurd e (maskBit 19 hF) }

theorem State.modFlash_frame {F : Nat} {r s : State} {f : FlashSt → FlashSt} (hF : F &&& 2097152 = 2097152) (h : Within F r s) : Within F r (s.modFlash f) :=
  { h with keeps := h.keeps.of_eq rfl rfl rfl rfl rfl, flash := fun e => absurd e (maskBit 21 hF) }

end Sys2Proof.Machine
end

