-- ==== Sys2Proof/Laws/FrameShared.lean ====
section
/-!
SUPPORT. Frames of register, memory, trace and access operations: one lemma per operation.
-/
namespace Sys2Proof.Machine

/-! ## Ops -/

theorem State.wf_frame {F r0} (hF : F &&& 1 = 1) : ∀ {s a f v}, Within F r0 s → Within F r0 (State.wf s a f v) := by
  intro s a f v h
  unfold State.wf
  repeat' with_reducible first | assumption | apply State.setReg_frame

theorem State.bump_frame {F r0} (hF : F &&& 1 = 1) : ∀ {s a f n}, Within F r0 s → Within F r0 (State.bump s a f n) := by
  intro s a f n h
  unfold State.bump
  repeat' with_reducible first | assumption | apply State.wf_frame

theorem State.wrapAdd_frame {F r0} (hF : F &&& 1 = 1) : ∀ {s a f n}, Within F r0 s → Within F r0 (State.wrapAdd s a f n) := by
  intro s a f n h
  unfold State.wrapAdd
  repeat' with_reducible first | assumption | apply State.wf_frame

theorem State.modTile_frame {F r0} (hF : F &&& 16 = 16) : ∀ {s t f}, Within F r0 s → Within F r0 (State.modTile s t f) := by
  intro s t f h
  unfold State.modTile
  repeat' with_reducible first | assumption | apply State.modTiles_frame

theorem State.modCtx_frame {F r0} (hF : F &&& 32 = 32) : ∀ {s c f}, Within F r0 s → Within F r0 (State.modCtx s c f) := by
  intro s c f h
  unfold State.modCtx
  repeat' with_reducible first | assumption | apply State.modHub_frame

theorem State.modTest_frame {F r0} (hF : F &&& 2048 = 2048) : ∀ {s e f}, Within F r0 s → Within F r0 (State.modTest s e f) := by
  intro s e f h
  unfold State.modTest
  repeat' with_reducible first | assumption | apply State.modTests_frame

theorem State.lineWrite_frame {F r0} (hF : F &&& 3 = 3) : ∀ {s a bs}, Within F r0 s → Within F r0 (State.lineWrite s a bs) := by
  intro s a bs h
  unfold State.lineWrite
  repeat' first
    | with_reducible first
      | assumption | apply State.modMem_frame | apply State.bump_frame | apply Mem.wf_inCache | apply Mem.wf_write
      | intro _
    | split | exact maskSub hF rfl

theorem State.memWrite_frame {F r0} (hF : F &&& 3 = 3) : ∀ {s a bs}, Within F r0 s → Within F r0 (State.memWrite s a bs) := by
  intro s a bs h
  unfold State.memWrite
  dsimp only
  repeat' first
    | with_reducible first
      | assumption | apply State.modMem_frame | apply State.lineWrite_frame | apply Within.foldl | apply Mem.wf_write
      | intro _
    | split | exact maskSub hF rfl

theorem State.setTileState_frame {F r0} (hF : F &&& 1 = 1) : ∀ {s t v}, Within F r0 s → Within F r0 (State.setTileState s t v) := by
  intro s t v h
  unfold State.setTileState
  repeat' with_reducible first | assumption | apply State.wf_frame

/-! ## Flags -/

theorem State.raiseIrq_frame {F r0} (hF : F &&& 1 = 1) : ∀ {s b}, Within F r0 s → Within F r0 (State.raiseIrq s b) := by
  intro s b h
  unfold State.raiseIrq
  repeat' with_reducible first | assumption | apply State.wf_frame

theorem State.raiseCtxIrq_frame {F r0} (hF : F &&& 160 = 160) : ∀ {s c}, Within F r0 s → Within F r0 (State.raiseCtxIrq s c) := by
  intro s c h
  unfold State.raiseCtxIrq
  dsimp only
  repeat' first
    | with_reducible first | assumption | apply State.modHub_frame | apply State.emit_frame
    | split | exact maskSub hF rfl

theorem State.setFlag_frame {F r0} (hF : F &&& 1 = 1) : ∀ {s a f}, Within F r0 s → Within F r0 (State.setFlag s a f) := by
  intro s a f h
  unfold State.setFlag
  repeat' with_reducible first | assumption | apply State.wf_frame

theorem State.clrFlag_frame {F r0} (hF : F &&& 1 = 1) : ∀ {s a f}, Within F r0 s → Within F r0 (State.clrFlag s a f) := by
  intro s a f h
  unfold State.clrFlag
  repeat' with_reducible first | assumption | apply State.wf_frame

/-! ## Operands -/

theorem State.setDieState_frame {F r0} (hF : F &&& 1 = 1) : ∀ {s d v}, Within F r0 s → Within F r0 (State.setDieState s d v) := by
  intro s d v h
  unfold State.setDieState
  repeat' with_reducible first | assumption | apply State.wf_frame

theorem State.setDiePower_frame {F r0} (hF : F &&& 1 = 1) : ∀ {s d v}, Within F r0 s → Within F r0 (State.setDiePower s d v) := by
  intro s d v h
  unfold State.setDiePower
  repeat' with_reducible first | assumption | apply State.wf_frame

theorem State.setPowerState_frame {F r0} (hF : F &&& 1 = 1) : ∀ {s v}, Within F r0 s → Within F r0 (State.setPowerState s v) := by
  intro s v h
  unfold State.setPowerState
  repeat' with_reducible first | assumption | apply State.wf_frame

theorem State.idleExit_frame {F r0} (hF : F &&& 1 = 1) : ∀ {s}, Within F r0 s → Within F r0 (State.idleExit s) := by
  intro s h
  unfold State.idleExit
  repeat' first
    | with_reducible first
      | assumption | apply State.setPowerState_frame | apply State.setDiePower_frame | apply Within.foldl | intro _
    | split

theorem State.windowEcc_frame {F r0} (hF : F &&& 1 = 1) : ∀ {s w a n}, Within F r0 s → Within F r0 (State.windowEcc s w a n) := by
  intro s w a n h
  unfold State.windowEcc
  dsimp only
  repeat' first
    | with_reducible first | assumption | apply State.bump_frame | apply Within.foldl | intro _
    | split

theorem State.putBytes_frame {F r0} (hF : F &&& 131 = 131) : ∀ {s a bs}, Within F r0 s → Within F r0 (State.putBytes s a bs) := by
  intro s a bs h
  unfold State.putBytes
  repeat' first
    | with_reducible first | assumption | apply State.emit_frame | apply State.memWrite_frame
    | split | exact maskSub hF rfl

theorem State.engWrite_frame {F r0} (hF : F &&& 131 = 131) : ∀ {s c a bs}, Within F r0 s → Within F r0 (State.engWrite s c a bs).1 := by
  intro s c a bs h
  unfold State.engWrite
  dsimp only
  repeat' first
    | with_reducible first | assumption | apply State.windowEcc_frame | apply State.putBytes_frame
    | split | exact maskSub hF rfl

theorem State.setUntested_frame {F r0} (hF : F &&& 1 = 1) : ∀ {s e b}, Within F r0 s → Within F r0 (State.setUntested s e b) := by
  intro s e b h
  unfold State.setUntested
  dsimp only
  repeat' first
    | with_reducible first | assumption | apply State.wf_frame
    | split

theorem State.setTestFault_frame {F r0} (hF : F &&& 1 = 1) : ∀ {s e b}, Within F r0 s → Within F r0 (State.setTestFault s e b) := by
  intro s e b h
  unfold State.setTestFault
  repeat' with_reducible first | assumption | apply State.wf_frame

theorem State.modDie_frame {F r0} (hF : F &&& 32 = 32) : ∀ {s d f}, Within F r0 s → Within F r0 (State.modDie s d f) := by
  intro s d f h
  unfold State.modDie
  repeat' with_reducible first | assumption | apply State.modHub_frame

theorem State.merge_frame {F r0} (hF : F &&& 32 = 32) : ∀ {s die l}, Within F r0 s → Within F r0 (State.merge s die l) := by
  intro s die l h
  unfold State.merge
  repeat' with_reducible first | assumption | apply State.modHub_frame | apply Within.foldl | intro _

theorem State.catchUp_frame {F r0} (hF : F &&& 32 = 32) : ∀ {s die}, Within F r0 s → Within F r0 (State.catchUp s die) := by
  intro s die h
  unfold State.catchUp
  dsimp only
  repeat' with_reducible first | assumption | apply State.merge_frame | apply State.modDie_frame

theorem State.raiseDone_frame {F r0} (hF : F &&& 32 = 32) : ∀ {s e}, Within F r0 s → Within F r0 (State.raiseDone s e) := by
  intro s e h
  unfold State.raiseDone
  repeat' with_reducible first | assumption | apply State.modDie_frame | apply State.catchUp_frame

/-! ## TraceOps -/

theorem State.setTrState_frame {F r0} (hF : F &&& 1 = 1) : ∀ {s v}, Within F r0 s → Within F r0 (State.setTrState s v) := by
  intro s v h
  unfold State.setTrState
  repeat' with_reducible first | assumption | apply State.wf_frame

theorem State.bufAppend_frame {F r0} (hF : F &&& 256 = 256) : ∀ {s r}, Within F r0 s → Within F r0 (State.bufAppend s r) := by
  intro s r h
  unfold State.bufAppend
  repeat' first
    | with_reducible first | assumption | apply State.modTrace_frame
    | split

theorem State.bufRecord_frame {F r0} (hF : F &&& 257 = 257) : ∀ {s r}, Within F r0 s → Within F r0 (State.bufRecord s r) := by
  intro s r h
  unfold State.bufRecord
  dsimp only
  repeat' first
    | with_reducible first
      | assumption | apply State.bump_frame | apply State.bufAppend_frame | apply State.modTrace_frame
    | split | exact maskSub hF rfl

theorem State.timeRecord_frame {F r0} (hF : F &&& 257 = 257) : ∀ {s}, Within F r0 s → Within F r0 (State.timeRecord s) := by
  intro s h
  unfold State.timeRecord
  dsimp only
  repeat' first
    | with_reducible first | assumption | apply State.bufRecord_frame | apply State.modTrace_frame
    | split | exact maskSub hF rfl

theorem State.bufWrite_frame {F r0} (hF : F &&& 257 = 257) : ∀ {s r}, Within F r0 s → Within F r0 (State.bufWrite s r) := by
  intro s r h
  unfold State.bufWrite
  dsimp only
  repeat' first
    | with_reducible first
      | assumption | apply State.bufRecord_frame | apply State.modTrace_frame | apply State.timeRecord_frame
    | split | exact maskSub hF rfl

theorem State.takeTrigger_frame {F r0} (hF : F &&& 257 = 257) : ∀ {s on}, Within F r0 s → Within F r0 (State.takeTrigger s on) := by
  intro s on h
  unfold State.takeTrigger
  dsimp only
  repeat' first
    | with_reducible first
      | assumption | apply State.timeRecord_frame | apply State.wf_frame | apply State.bufAppend_frame
      | apply State.setTrState_frame | apply State.modTrace_frame
    | split | exact maskSub hF rfl

theorem State.joinTrigger_frame {F r0} (hF : F &&& 256 = 256) : ∀ {s place on}, Within F r0 s → Within F r0 (State.joinTrigger s place on) := by
  intro s place on h
  unfold State.joinTrigger
  repeat' first
    | with_reducible first | assumption | apply State.modTrace_frame
    | split

theorem State.fireTrigger_frame {F r0} (hF : F &&& 257 = 257) : ∀ {s src}, Within F r0 s → Within F r0 (State.fireTrigger s src) := by
  intro s src h
  unfold State.fireTrigger
  dsimp only
  repeat' first
    | with_reducible first
      | assumption | apply State.bump_frame | apply State.takeTrigger_frame | apply State.joinTrigger_frame
    | split | exact maskSub hF rfl

theorem State.modSrc_frame {F r0} (hF : F &&& 256 = 256) : ∀ {s e f}, Within F r0 s → Within F r0 (State.modSrc s e f) := by
  intro s e f h
  unfold State.modSrc
  repeat' with_reducible first | assumption | apply State.modTrace_frame

theorem State.traceEnter_frame {F r0} (hF : F &&& 257 = 257) : ∀ {s e rs}, Within F r0 s → Within F r0 (State.traceEnter s e rs) := by
  intro s e rs h
  unfold State.traceEnter
  dsimp only
  repeat' first
    | with_reducible first | assumption | apply State.modSrc_frame | apply State.bump_frame
    | split | exact maskSub hF rfl

theorem State.ungate_frame {F r0} (hF : F &&& 524288 = 524288) : ∀ {s e}, Within F r0 s → Within F r0 (State.ungate s e) := by
  intro s e h
  unfold State.ungate
  repeat' with_reducible first | assumption | apply State.modPw_frame

theorem State.liveBegin_frame {F r0} (hF : F &&& 524545 = 524545) : ∀ {s e c}, Within F r0 s → Within F r0 (State.liveBegin s e c) := by
  intro s e c h
  unfold State.liveBegin
  dsimp only
  repeat' first
    | with_reducible first
      | assumption | apply State.modSrc_frame | apply State.ungate_frame | apply State.wf_frame
    | split | exact maskSub hF rfl

theorem State.liveEnd_frame {F r0} (hF : F &&& 8388865 = 8388865) : ∀ {s e}, Within F r0 s → Within F r0 (State.liveEnd s e) := by
  intro s e h
  unfold State.liveEnd
  dsimp only
  repeat' first
    | with_reducible first
      | assumption | apply State.modSrc_frame | apply State.wf_frame | apply State.tick_frame
    | split | exact maskSub hF rfl

theorem State.moved_frame {F r0} (hF : F &&& 257 = 257) : ∀ {s e n}, Within F r0 s → Within F r0 (State.moved s e n) := by
  intro s e n h
  unfold State.moved
  repeat' first
    | with_reducible first | assumption | apply State.wf_frame | apply State.modSrc_frame
    | exact maskSub hF rfl

theorem State.traceEvent_frame {F r0} (hF : F &&& 8913153 = 8913153) : ∀ {s e ev c}, Within F r0 s → Within F r0 (State.traceEvent s e ev c) := by
  intro s e ev c h
  unfold State.traceEvent
  dsimp only
  repeat' first
    | with_reducible first
      | assumption | apply State.liveBegin_frame | apply State.liveEnd_frame | apply State.traceEnter_frame
    | split | exact maskSub hF rfl

theorem State.traceDieLost_frame {F r0} (hF : F &&& 257 = 257) : ∀ {s d}, Within F r0 s → Within F r0 (State.traceDieLost s d) := by
  intro s d h
  unfold State.traceDieLost
  dsimp only
  repeat' first
    | with_reducible first
      | assumption | apply State.modTrace_frame | apply State.bufWrite_frame | apply State.bump_frame
    | split | exact maskSub hF rfl

/-! ## CtxOps -/

theorem State.modDesc_frame {F r0} (hF : F &&& 32 = 32) : ∀ {s c n f}, Within F r0 s → Within F r0 (State.modDesc s c n f) := by
  intro s c n f h
  unfold State.modDesc
  repeat' first
    | with_reducible first | assumption | apply State.modCtx_frame
    | split

theorem State.setInflight_frame {F r0} (hF : F &&& 1 = 1) : ∀ {s c}, Within F r0 s → Within F r0 (State.setInflight s c) := by
  intro s c h
  unfold State.setInflight
  repeat' with_reducible first | assumption | apply State.wf_frame

theorem State.modJob_frame {F r0} (hF : F &&& 32 = 32) : ∀ {s c f}, Within F r0 s → Within F r0 (State.modJob s c f) := by
  intro s c f h
  unfold State.modJob
  repeat' with_reducible first | assumption | apply State.modCtx_frame

theorem State.modJobOf_frame {F r0} (hF : F &&& 32 = 32) : ∀ {s c b f}, Within F r0 s → Within F r0 (State.modJobOf s c b f) := by
  intro s c b f h
  unfold State.modJobOf
  dsimp only
  repeat' first
    | with_reducible first | assumption | apply State.modCtx_frame
    | split

theorem State.finish_frame {F r0} (hF : F &&& 8913185 = 8913185) : ∀ {s c n st detail}, Within F r0 s → Within F r0 (State.finish s c n st detail) := by
  intro s c n st detail h
  unfold State.finish
  dsimp only
  repeat' first
    | with_reducible first
      | assumption | apply State.modDesc_frame | apply State.modJobOf_frame | apply State.traceEvent_frame
    | split | exact maskSub hF rfl

theorem State.finishErr_frame {F r0} (hF : F &&& 8913185 = 8913185) : ∀ {s c n engine e}, Within F r0 s → Within F r0 (State.finishErr s c n engine e) := by
  intro s c n engine e h
  unfold State.finishErr
  repeat' with_reducible first | assumption | apply State.finish_frame

theorem State.startDesc_frame {F r0} {k : State → Desc → State} (hk : ∀ r y0 y1, Within F r y0 → Within F r (k y0 y1)) (hF : F &&& 8913185 = 8913185) : ∀ {s c n mine}, Within F r0 s → Within F r0 (State.startDesc s c n mine k) := by
  intro s c n mine h
  unfold State.startDesc
  dsimp only
  repeat' first
    | with_reducible first
      | assumption | apply State.finish_frame | apply State.modHub_frame | apply State.modDesc_frame
      | apply State.traceEvent_frame | apply hk | intro _
    | split | exact maskSub hF rfl

theorem State.noteUsed_frame {F r0} (hF : F &&& 32 = 32) : ∀ {s c e d}, Within F r0 s → Within F r0 (State.noteUsed s c e d) := by
  intro s c e d h
  unfold State.noteUsed
  repeat' first
    | with_reducible first | assumption | apply State.modJob_frame
    | split

theorem State.waitEnd_frame {F r0} (hF : F &&& 33 = 33) : ∀ {s c d now}, Within F r0 s → Within F r0 (State.waitEnd s c d now) := by
  intro s c d now h
  unfold State.waitEnd
  dsimp only
  repeat' first
    | with_reducible first
      | assumption | apply State.wrapAdd_frame | apply State.bump_frame | apply State.wf_frame
      | apply State.modDesc_frame
    | split | exact maskSub hF rfl

theorem State.modKernel_frame {F r0} (hF : F &&& 32 = 32) : ∀ {s c n f}, Within F r0 s → Within F r0 (State.modKernel s c n f) := by
  intro s c n f h
  unfold State.modKernel
  repeat' first
    | with_reducible first | assumption | apply State.modHub_frame
    | split

theorem State.dropKernel_frame {F r0} (hF : F &&& 32 = 32) : ∀ {s c n}, Within F r0 s → Within F r0 (State.dropKernel s c n) := by
  intro s c n h
  unfold State.dropKernel
  repeat' with_reducible first | assumption | apply State.modHub_frame

theorem State.stopTile_frame {F r0} (hF : F &&& 8913169 = 8913169) : ∀ {s t st}, Within F r0 s → Within F r0 (State.stopTile s t st) := by
  intro s t st h
  unfold State.stopTile
  dsimp only
  repeat' first
    | with_reducible first
      | assumption | apply State.traceEvent_frame | apply State.setTileState_frame | apply State.modTile_frame
    | exact maskSub hF rfl

theorem State.stopKernel_frame {F r0} (hF : F &&& 8913201 = 8913201) : ∀ {s c n st}, Within F r0 s → Within F r0 (State.stopKernel s c n st) := by
  intro s c n st h
  unfold State.stopKernel
  dsimp only
  repeat' first
    | with_reducible first
      | assumption | apply State.stopTile_frame | apply State.wrapAdd_frame | apply State.modHub_frame
      | apply State.dropKernel_frame | apply Within.foldl | intro _
    | exact maskSub hF rfl

theorem State.tileFault_frame {F r0} (hF : F &&& 8913201 = 8913201) : ∀ {s t st addr}, Within F r0 s → Within F r0 (State.tileFault s t st addr) := by
  intro s t st addr h
  unfold State.tileFault
  dsimp only
  repeat' first
    | with_reducible first | assumption | apply State.stopKernel_frame | apply State.finish_frame
    | split | exact maskSub hF rfl

theorem State.stopJobWork_frame {F r0} (hF : F &&& 8913201 = 8913201) : ∀ {s c}, Within F r0 s → Within F r0 (State.stopJobWork s c) := by
  intro s c h
  unfold State.stopJobWork
  repeat' with_reducible first | assumption | apply State.stopKernel_frame | apply Within.foldl | intro _

theorem State.freeDmas_frame {F r0} (hF : F &&& 32 = 32) : ∀ {s c nums}, Within F r0 s → Within F r0 (State.freeDmas s c nums) := by
  intro s c nums h
  unfold State.freeDmas
  repeat' first
    | with_reducible first | assumption | apply State.modHub_frame
    | split

/-! ## Ports -/

theorem State.answered_frame {F r0} (hF : F &&& 4 = 4) : ∀ {s p a}, Within F r0 s → Within F r0 (State.answered s p a) := by
  intro s p a h
  unfold State.answered
  repeat' with_reducible first | assumption | apply State.modBus_frame

theorem State.dropStaged_frame {F r0} (hF : F &&& 4 = 4) : ∀ {s p a}, Within F r0 s → Within F r0 (State.dropStaged s p a) := by
  intro s p a h
  unfold State.dropStaged
  repeat' with_reducible first | assumption | apply State.modBus_frame

theorem State.refuseAccess_frame {F r0} (hF : F &&& 5 = 5) : ∀ {s p x}, Within F r0 s → Within F r0 (State.refuseAccess s p x) := by
  intro s p x h
  unfold State.refuseAccess
  dsimp only
  repeat' first
    | with_reducible first
      | assumption | apply State.bump_frame | apply State.modBus_frame | apply State.answered_frame
    | split | exact maskSub hF rfl

theorem State.wakeFor_frame {F r0} (hF : F &&& 1 = 1) : ∀ {s p a}, Within F r0 s → Within F r0 (State.wakeFor s p a) := by
  intro s p a h
  unfold State.wakeFor
  repeat' first
    | with_reducible first | assumption | apply State.idleExit_frame
    | split

theorem State.access_frame {F r0} {k : State → State} (hk : ∀ r y0, Within F r y0 → Within F r (k y0)) (hF : F &&& 5 = 5) : ∀ {s p a}, Within F r0 s → Within F r0 (State.access s p a k) := by
  intro s p a h
  unfold State.access
  dsimp only
  repeat' first
    | with_reducible first
      | assumption | apply State.wakeFor_frame | apply State.dropStaged_frame | apply State.refuseAccess_frame
      | apply State.answered_frame | apply hk | intro _
    | split | exact maskSub hF rfl

theorem State.plainWrite_frame {F r0} (hF : F &&& 1 = 1) : ∀ {s a w}, Within F r0 s → Within F r0 (State.plainWrite s a w) := by
  intro s a w h
  unfold State.plainWrite
  repeat' first
    | with_reducible first | assumption | apply State.setReg_frame | apply Within.foldl | intro _
    | split

end Sys2Proof.Machine
end

