-- ==== Sys2Proof/Laws/FrameSensor.lean ====
section
/-!
SUPPORT. Frames of time, contexts, sensors and alignment: one lemma per operation.
-/
namespace Sys2Proof.Machine

/-! ## PowerOps -/

theorem State.pmRej_frame {F r0} (hF : F &&& 1 = 1) : ∀ {s}, Within F r0 s → Within F r0 (State.pmRej s) := by
  intro s h
  unfold State.pmRej
  repeat' with_reducible first | assumption | apply State.setFlag_frame

theorem State.powerEvent_frame {F r0} (hF : F &&& 1 = 1) : ∀ {s kind target held}, Within F r0 s → Within F r0 (State.powerEvent s kind target held) := by
  intro s kind target held h
  unfold State.powerEvent
  dsimp only
  repeat' first
    | with_reducible first
      | assumption | apply State.bump_frame | apply State.setReg_frame | apply Within.foldl | intro _
    | split

theorem State.unpark_frame {F r0} (hF : F &&& 4194304 = 4194304) : ∀ {s}, Within F r0 s → Within F r0 (State.unpark s) := by
  intro s h
  unfold State.unpark
  repeat' with_reducible first | assumption | apply State.modHarts_frame

theorem State.backToRun_frame {F r0} (hF : F &&& 4718593 = 4718593) : ∀ {s}, Within F r0 s → Within F r0 (State.backToRun s) := by
  intro s h
  unfold State.backToRun
  repeat' first
    | with_reducible first
      | assumption | apply State.unpark_frame | apply State.modPw_frame | apply State.clrFlag_frame
      | apply State.setPowerState_frame
    | exact maskSub hF rfl

theorem State.abortEntry_frame {F r0} (hF : F &&& 4718593 = 4718593) : ∀ {s held}, Within F r0 s → Within F r0 (State.abortEntry s held) := by
  intro s held h
  unfold State.abortEntry
  repeat' first
    | with_reducible first | assumption | apply State.backToRun_frame | apply State.powerEvent_frame
    | exact maskSub hF rfl

theorem State.entryStep_frame {F r0} {k : State → State} (hk : ∀ r y0, Within F r y0 → Within F r (k y0)) (hF : F &&& 4718593 = 4718593) : ∀ {s}, Within F r0 s → Within F r0 (State.entryStep s k) := by
  intro s h
  unfold State.entryStep
  repeat' first
    | with_reducible first | assumption | apply State.abortEntry_frame | apply hk | intro _
    | split

theorem State.entryCheck_frame {F r0} (hF : F &&& 4718593 = 4718593) : ∀ {s}, Within F r0 s → Within F r0 (State.entryCheck s) := by
  intro s h
  unfold State.entryCheck
  repeat' first
    | with_reducible first | assumption | apply State.entryStep_frame | apply id_frame | intro _
    | split

theorem State.doorbellPower_frame {F r0} (hF : F &&& 4718593 = 4718593) : ∀ {s c}, Within F r0 s → Within F r0 (State.doorbellPower s c) := by
  intro s c h
  unfold State.doorbellPower
  repeat' first
    | with_reducible first | assumption | apply State.entryCheck_frame | apply State.modPw_frame
    | split | exact maskSub hF rfl

theorem State.setSlow_frame {F r0} (hF : F &&& 524288 = 524288) : ∀ {s hart v}, Within F r0 s → Within F r0 (State.setSlow s hart v) := by
  intro s hart v h
  unfold State.setSlow
  repeat' first
    | with_reducible first | assumption | apply State.modPw_frame
    | split

theorem State.slowerAsked_frame {F r0} (hF : F &&& 524288 = 524288) : ∀ {s}, Within F r0 s → Within F r0 (State.slowerAsked s) := by
  intro s h
  unfold State.slowerAsked
  dsimp only
  repeat' first
    | with_reducible first | assumption | apply State.setSlow_frame
    | split

theorem State.mainRailsOff_frame {F r} (hF : F &&& 8322879 = 8322879) : ∀ {s cause}, Within F r s → Within F r (State.mainRailsOff s cause) := by
  intro s cause h
  unfold State.mainRailsOff
  dsimp only
  have b : ∀ i, Nat.testBit 8322879 i = true → F.testBit i = true := fun i e => by rw [← hF, Nat.testBit_and] at e; exact (Bool.and_eq_true _ _ ▸ e).1
  have k : Within F r
      { regs := s.regs.filter (fun r => siHeld r.1), time := { isl := s.time.isl }, fuses := s.fuses, sent := s.sent
        peerGib := s.peerGib, isl := s.isl, free := s.free, pending := s.pending, flash := { cells := s.flash.cells }
        aon := { s.aon with off := true, wait := false, pgood := false, cause := cause } } :=
    { h with
      keeps := h.keeps.trans ⟨rfl, rfl, .refl _, fun _ => rfl, fun h => regsOk_filter _ h⟩
      regs := fun e => by rw [b 0 rfl] at e; cases e
      mem := fun e => by rw [b 1 rfl] at e; cases e
      bus := fun e => by rw [b 2 rfl] at e; cases e
      time := fun e => by rw [b 3 rfl] at e; cases e
      tiles := fun e => by rw [b 4 rfl] at e; cases e
      hub := fun e => by rw [b 5 rfl] at e; cases e
      trace := fun e => by rw [b 8 rfl] at e; cases e
      debug := fun e => by rw [b 9 rfl] at e; cases e
      pcieReads := fun e => by rw [b 10 rfl] at e; cases e
      tests := fun e => by rw [b 11 rfl] at e; cases e
      th := fun e => by rw [b 12 rfl] at e; cases e
      sh := fun e => by rw [b 13 rfl] at e; cases e
      plan := fun e => by rw [b 14 rfl] at e; cases e
      ms := fun e => by rw [b 15 rfl] at e; cases e
      sk := fun e => by rw [b 17 rfl] at e; cases e
      ch := fun e => by rw [b 18 rfl] at e; cases e
      pw := fun e => by rw [b 19 rfl] at e; cases e
      aon := fun e => by rw [b 20 rfl] at e; cases e
      flash := fun e => by rw [b 21 rfl] at e; cases e
      harts := fun e => by rw [b 22 rfl] at e; cases e }
  split
  · exact State.setFlag_frame (maskSub hF rfl) k
  · exact k

/-! ## CtxReg -/

theorem State.doorbellBad_frame {F r0} (hF : F &&& 1 = 1) : ∀ {s c}, Within F r0 s → Within F r0 (State.doorbellBad s c) := by
  intro s c h
  unfold State.doorbellBad
  repeat' with_reducible first | assumption | apply State.bump_frame | apply State.setFlag_frame

theorem State.doorbell_frame {F r0} (hF : F &&& 4718593 = 4718593) : ∀ {s c v}, Within F r0 s → Within F r0 (State.doorbell s c v) := by
  intro s c v h
  unfold State.doorbell
  dsimp only
  repeat' first
    | with_reducible first
      | assumption | apply State.idleExit_frame | apply State.doorbellPower_frame | apply State.wf_frame
      | apply State.doorbellBad_frame
    | split | exact maskSub hF rfl

theorem State.cqHeadWrite_frame {F r0} (hF : F &&& 1 = 1) : ∀ {s c v}, Within F r0 s → Within F r0 (State.cqHeadWrite s c v) := by
  intro s c v h
  unfold State.cqHeadWrite
  dsimp only
  repeat' first
    | with_reducible first
      | assumption | apply State.idleExit_frame | apply State.wf_frame | apply State.doorbellBad_frame
    | split

theorem execDoorbellWrite_frame {F r0} (hF : F &&& 4718597 = 4718597) : ∀ {s port ctx val}, Within F r0 s → WithinR F r0 (execDoorbellWrite port ctx val s) := by
  intro s port ctx val h
  unfold execDoorbellWrite
  repeat' first
    | with_reducible first
      | assumption | apply State.access_frame | apply State.doorbell_frame | apply WithinR.next | intro _
    | split | exact maskSub hF rfl

theorem execCqHeadWrite_frame {F r0} (hF : F &&& 5 = 5) : ∀ {s port ctx val}, Within F r0 s → WithinR F r0 (execCqHeadWrite port ctx val s) := by
  intro s port ctx val h
  unfold execCqHeadWrite
  repeat' first
    | with_reducible first
      | assumption | apply State.access_frame | apply State.cqHeadWrite_frame | apply WithinR.next | intro _
    | split | exact maskSub hF rfl

theorem State.inboundWrite_frame {F r0} (hF : F &&& 4718595 = 4718595) : ∀ {s a bs}, Within F r0 s → Within F r0 (State.inboundWrite s a bs) := by
  intro s a bs h
  unfold State.inboundWrite
  dsimp only
  repeat' first
    | with_reducible first
      | assumption | apply State.memWrite_frame | apply State.doorbell_frame | apply Within.foldl | intro _
    | exact maskSub hF rfl

theorem State.inboundForeign_frame {F r0} (hF : F &&& 1 = 1) : ∀ {s p}, Within F r0 s → Within F r0 (State.inboundForeign s p) := by
  intro s p h
  unfold State.inboundForeign
  repeat' first
    | with_reducible first | assumption | apply State.bump_frame
    | split

theorem State.ctxRej_frame {F r0} (hF : F &&& 1 = 1) : ∀ {s c}, Within F r0 s → Within F r0 (State.ctxRej s c) := by
  intro s c h
  unfold State.ctxRej
  repeat' with_reducible first | assumption | apply State.setFlag_frame

theorem State.ctxStart_frame {F r0} (hF : F &&& 33 = 33) : ∀ {s c}, Within F r0 s → Within F r0 (State.ctxStart s c) := by
  intro s c h
  unfold State.ctxStart
  dsimp only
  repeat' first
    | with_reducible first
      | assumption | apply State.setReg_frame | apply State.setFlag_frame | apply State.modCtx_frame
      | apply State.wf_frame
    | exact maskSub hF rfl

theorem State.ctxEnable_frame {F r0} (hF : F &&& 33 = 33) : ∀ {s c}, Within F r0 s → Within F r0 (State.ctxEnable s c) := by
  intro s c h
  unfold State.ctxEnable
  dsimp only
  repeat' first
    | with_reducible first
      | assumption | apply State.ctxStart_frame | apply State.setFlag_frame | apply State.ctxRej_frame
    | split | exact maskSub hF rfl

theorem State.ctxDisable_frame {F r0} (hF : F &&& 33 = 33) : ∀ {s c}, Within F r0 s → Within F r0 (State.ctxDisable s c) := by
  intro s c h
  unfold State.ctxDisable
  dsimp only
  repeat' first
    | with_reducible first
      | assumption | apply State.wf_frame | apply State.clrFlag_frame | apply State.modCtx_frame
    | split | exact maskSub hF rfl

theorem execCtxEnable_frame {F r0} (hF : F &&& 37 = 37) : ∀ {s port ctx}, Within F r0 s → WithinR F r0 (execCtxEnable port ctx s) := by
  intro s port ctx h
  unfold execCtxEnable
  repeat' first
    | with_reducible first
      | assumption | apply State.access_frame | apply State.ctxEnable_frame | apply WithinR.next | intro _
    | split | exact maskSub hF rfl

theorem execCtxDisable_frame {F r0} (hF : F &&& 37 = 37) : ∀ {s port ctx}, Within F r0 s → WithinR F r0 (execCtxDisable port ctx s) := by
  intro s port ctx h
  unfold execCtxDisable
  repeat' first
    | with_reducible first
      | assumption | apply State.access_frame | apply State.ctxDisable_frame | apply WithinR.next | intro _
    | split | exact maskSub hF rfl

theorem execCtxDrainComplete_frame {F r0} (hF : F &&& 1 = 1) : ∀ {s ctx}, Within F r0 s → WithinR F r0 (execCtxDrainComplete ctx s) := by
  intro s ctx h
  unfold execCtxDrainComplete
  dsimp only
  repeat' first
    | with_reducible first | assumption | apply State.wf_frame | apply WithinR.next
    | split

theorem State.ctxCfgWrite_frame {F r0} (hF : F &&& 33 = 33) : ∀ {s c w}, Within F r0 s → Within F r0 (State.ctxCfgWrite s c w) := by
  intro s c w h
  unfold State.ctxCfgWrite
  dsimp only
  repeat' first
    | with_reducible first
      | assumption | apply State.plainWrite_frame | apply State.wf_frame | apply State.ctxRej_frame
      | apply State.ctxEnable_frame | apply State.ctxDisable_frame
    | split | exact maskSub hF rfl

theorem State.ctxConfig_frame {F r0} (hF : F &&& 33 = 33) : ∀ {s c off w}, Within F r0 s → Within F r0 (State.ctxConfig s c off w) := by
  intro s c off w h
  unfold State.ctxConfig
  repeat' first
    | with_reducible first
      | assumption | apply State.ctxCfgWrite_frame | apply State.plainWrite_frame | apply State.ctxRej_frame
    | split | exact maskSub hF rfl

theorem execCtxConfigWrite_frame {F r0} (hF : F &&& 37 = 37) : ∀ {s port ctx off val}, Within F r0 s → WithinR F r0 (execCtxConfigWrite port ctx off val s) := by
  intro s port ctx off val h
  unfold execCtxConfigWrite
  repeat' first
    | with_reducible first
      | assumption | apply State.access_frame | apply State.ctxConfig_frame | apply WithinR.next | intro _
    | split | exact maskSub hF rfl

theorem State.slotCfgWrite_frame {F r0} (hF : F &&& 1 = 1) : ∀ {s sl w}, Within F r0 s → Within F r0 (State.slotCfgWrite s sl w) := by
  intro s sl w h
  unfold State.slotCfgWrite
  dsimp only
  repeat' first
    | with_reducible first
      | assumption | apply State.plainWrite_frame | apply State.ctxRej_frame | apply State.setFlag_frame
    | split

theorem execSlotCfgWrite_frame {F r0} (hF : F &&& 5 = 5) : ∀ {s port slot val}, Within F r0 s → WithinR F r0 (execSlotCfgWrite port slot val s) := by
  intro s port slot val h
  unfold execSlotCfgWrite
  repeat' first
    | with_reducible first
      | assumption | apply State.access_frame | apply State.slotCfgWrite_frame | apply WithinR.next | intro _
    | split | exact maskSub hF rfl

/-! ## SkLink -/

theorem State.modConn_frame {F r0} (hF : F &&& 131072 = 131072) : ∀ {s n f}, Within F r0 s → Within F r0 (State.modConn s n f) := by
  intro s n f h
  unfold State.modConn
  repeat' with_reducible first | assumption | apply State.modSk_frame

theorem State.modBundle_frame {F r0} (hF : F &&& 131072 = 131072) : ∀ {s n i f}, Within F r0 s → Within F r0 (State.modBundle s n i f) := by
  intro s n i f h
  unfold State.modBundle
  repeat' with_reducible first | assumption | apply State.modConn_frame

theorem State.modDir_frame {F r0} (hF : F &&& 131072 = 131072) : ∀ {s n d f}, Within F r0 s → Within F r0 (State.modDir s n d f) := by
  intro s n d f h
  unfold State.modDir
  repeat' with_reducible first | assumption | apply State.modConn_frame

theorem State.modSide_frame {F r0} (hF : F &&& 131072 = 131072) : ∀ {s n x f}, Within F r0 s → Within F r0 (State.modSide s n x f) := by
  intro s n x f h
  unfold State.modSide
  repeat' with_reducible first | assumption | apply State.modConn_frame

theorem State.setConnState_frame {F r0} (hF : F &&& 1 = 1) : ∀ {s n v}, Within F r0 s → Within F r0 (State.setConnState s n v) := by
  intro s n v h
  unfold State.setConnState
  repeat' with_reducible first | assumption | apply State.wf_frame

theorem State.setMap_frame {F r0} (hF : F &&& 1 = 1) : ∀ {s n i m width}, Within F r0 s → Within F r0 (State.setMap s n i m width) := by
  intro s n i m width h
  unfold State.setMap
  dsimp only
  repeat' with_reducible first | assumption | apply State.wf_frame

theorem State.showConn_frame {F r0} (hF : F &&& 1 = 1) : ∀ {s n}, Within F r0 s → Within F r0 (State.showConn s n) := by
  intro s n h
  unfold State.showConn
  dsimp only
  repeat' with_reducible first | assumption | apply State.wf_frame

theorem State.skLog_frame {F r0} (hF : F &&& 1 = 1) : ∀ {s n cause die ev}, Within F r0 s → Within F r0 (State.skLog s n cause die ev) := by
  intro s n cause die ev h
  unfold State.skLog
  dsimp only
  repeat' first
    | with_reducible first
      | assumption | apply State.setReg_frame | apply State.wf_frame | apply State.bump_frame

theorem State.takeCfg_frame {F r0} (hF : F &&& 131072 = 131072) : ∀ {s n now}, Within F r0 s → Within F r0 (State.takeCfg s n now) := by
  intro s n now h
  unfold State.takeCfg
  dsimp only
  repeat' first
    | with_reducible first | assumption | apply State.modConn_frame
    | split

theorem State.sbHeard_frame {F r0} (hF : F &&& 131073 = 131073) : ∀ {s n}, Within F r0 s → Within F r0 (State.sbHeard s n) := by
  intro s n h
  unfold State.sbHeard
  repeat' first
    | with_reducible first | assumption | apply State.clrFlag_frame | apply State.modConn_frame
    | exact maskSub hF rfl

theorem State.sbMsg_frame {F r0} {k : State → State} (hk : ∀ r y0, Within F r y0 → Within F r (k y0)) (hF : F &&& 131073 = 131073) : ∀ {s n}, Within F r0 s → Within F r0 (State.sbMsg s n k) := by
  intro s n h
  unfold State.sbMsg
  repeat' first
    | with_reducible first | assumption | apply State.sbHeard_frame | apply hk | intro _
    | split

theorem State.sbSend_frame {F r0} (hF : F &&& 131200 = 131200) : ∀ {s n side typ payload}, Within F r0 s → Within F r0 (State.sbSend s n side typ payload) := by
  intro s n side typ payload h
  unfold State.sbSend
  dsimp only
  repeat' first
    | with_reducible first | assumption | apply State.emit_frame | apply State.modSide_frame
    | exact maskSub hF rfl

theorem State.sbAgain_frame {F r0} (hF : F &&& 128 = 128) : ∀ {s n side seq}, Within F r0 s → Within F r0 (State.sbAgain s n side seq) := by
  intro s n side seq h
  unfold State.sbAgain
  repeat' first
    | with_reducible first | assumption | apply State.emit_frame
    | split

theorem State.sbTell_frame {F r0} (hF : F &&& 131200 = 131200) : ∀ {s n side rep}, Within F r0 s → Within F r0 (State.sbTell s n side rep) := by
  intro s n side rep h
  unfold State.sbTell
  repeat' first
    | with_reducible first | assumption | apply State.modSide_frame | apply State.sbSend_frame
    | exact maskSub hF rfl

theorem State.sendTest_frame {F r0} (hF : F &&& 131200 = 131200) : ∀ {s n dirs bundles}, Within F r0 s → Within F r0 (State.sendTest s n dirs bundles) := by
  intro s n dirs bundles h
  unfold State.sendTest
  dsimp only
  repeat' with_reducible first | assumption | apply State.sbSend_frame

theorem State.sendTestAll_frame {F r0} (hF : F &&& 131200 = 131200) : ∀ {s n}, Within F r0 s → Within F r0 (State.sendTestAll s n) := by
  intro s n h
  unfold State.sendTestAll
  repeat' first
    | with_reducible first | assumption | apply State.sendTest_frame
    | split

theorem State.sendMaps_frame {F r0} (hF : F &&& 131200 = 131200) : ∀ {s n side num l own}, Within F r0 s → Within F r0 (State.sendMaps s n side num l own) := by
  intro s n side num l own h
  unfold State.sendMaps
  dsimp only
  repeat' with_reducible first | assumption | apply State.sbSend_frame | apply Within.foldl | intro _

theorem State.sendConfirm_frame {F r0} (hF : F &&& 131200 = 131200) : ∀ {s n side num crc}, Within F r0 s → Within F r0 (State.sendConfirm s n side num crc) := by
  intro s n side num crc h
  unfold State.sendConfirm
  repeat' with_reducible first | assumption | apply State.sbSend_frame

theorem State.sendLoad_frame {F r0} (hF : F &&& 131200 = 131200) : ∀ {s d}, Within F r0 s → Within F r0 (State.sendLoad s d) := by
  intro s d h
  unfold State.sendLoad
  repeat' with_reducible first | assumption | apply State.sbSend_frame

theorem State.offerCommit_frame {F r0} (hF : F &&& 131200 = 131200) : ∀ {s d}, Within F r0 s → Within F r0 (State.offerCommit s d) := by
  intro s d h
  unfold State.offerCommit
  dsimp only
  repeat' first
    | with_reducible first | assumption | apply State.modSk_frame | apply State.sbSend_frame
    | split | exact maskSub hF rfl

theorem State.offerCommits_frame {F r0} (hF : F &&& 131200 = 131200) : ∀ {s n}, Within F r0 s → Within F r0 (State.offerCommits s n) := by
  intro s n h
  unfold State.offerCommits
  repeat' first
    | with_reducible first | assumption | apply State.offerCommit_frame
    | split

theorem State.skPut_frame {F r0} (hF : F &&& 131200 = 131200) : ∀ {s n d f}, Within F r0 s → Within F r0 (State.skPut s n d f) := by
  intro s n d f h
  unfold State.skPut
  repeat' first
    | with_reducible first | assumption | apply State.emit_frame | apply State.modDir_frame
    | split | exact maskSub hF rfl

theorem State.skSend_frame {F r0} (hF : F &&& 131200 = 131200) : ∀ {s n d o}, Within F r0 s → Within F r0 (State.skSend s n d o) := by
  intro s n d o h
  unfold State.skSend
  dsimp only
  repeat' first
    | with_reducible first | assumption | apply State.modDir_frame | apply State.skPut_frame
    | exact maskSub hF rfl

theorem State.skFlush_frame {F r0} (hF : F &&& 131200 = 131200) : ∀ {n d k s}, Within F r0 s → Within F r0 (State.skFlush n d k s) := by
  intro n d k
  induction k with
  | zero => exact fun h => h
  | succ k ih =>
    intro s h
    unfold State.skFlush
    split
    · split
      · exact ih (State.skSend_frame (maskSub hF rfl) (State.modDir_frame (maskSub hF rfl) h))
      · exact h
    · exact h

theorem State.skDrain_frame {F r0} (hF : F &&& 131200 = 131200) : ∀ {s n d}, Within F r0 s → Within F r0 (State.skDrain s n d) := by
  intro s n d h
  unfold State.skDrain
  repeat' with_reducible first | assumption | apply State.skFlush_frame

theorem State.skDeal_frame {F r0} (hF : F &&& 131200 = 131200) : ∀ {s n d kind low payload}, Within F r0 s → Within F r0 (State.skDeal s n d kind low payload) := by
  intro s n d kind low payload h
  unfold State.skDeal
  repeat' first
    | with_reducible first | assumption | apply State.skDrain_frame | apply State.modDir_frame
    | exact maskSub hF rfl

theorem State.skIdle_frame {F r0} (hF : F &&& 131200 = 131200) : ∀ {s n d}, Within F r0 s → Within F r0 (State.skIdle s n d) := by
  intro s n d h
  unfold State.skIdle
  repeat' first
    | with_reducible first | assumption | apply State.skDeal_frame
    | split

theorem State.skResend_frame {F r0} (hF : F &&& 131200 = 131200) : ∀ {s n d seq}, Within F r0 s → Within F r0 (State.skResend s n d seq) := by
  intro s n d seq h
  unfold State.skResend
  dsimp only
  repeat' with_reducible first | assumption | apply State.skPut_frame | apply Within.foldl | intro _

theorem State.skReissue_frame {F r0} (hF : F &&& 131200 = 131200) : ∀ {s n d}, Within F r0 s → Within F r0 (State.skReissue s n d) := by
  intro s n d h
  unfold State.skReissue
  dsimp only
  repeat' first
    | with_reducible first
      | assumption | apply State.skDeal_frame | apply State.modDir_frame | apply Within.foldl | intro _
    | split | exact maskSub hF rfl

theorem State.connQuarantine_frame {F r0} (hF : F &&& 131201 = 131201) : ∀ {s n cause die}, Within F r0 s → Within F r0 (State.connQuarantine s n cause die) := by
  intro s n cause die h
  unfold State.connQuarantine
  dsimp only
  repeat' first
    | with_reducible first
      | assumption | apply State.wf_frame | apply State.setConnState_frame | apply State.modConn_frame
      | apply State.skLog_frame | apply State.bump_frame | apply State.showConn_frame | apply State.skReissue_frame
    | split | exact maskSub hF rfl

theorem State.connDown_frame {F r0} (hF : F &&& 131073 = 131073) : ∀ {s n}, Within F r0 s → Within F r0 (State.connDown s n) := by
  intro s n h
  unfold State.connDown
  repeat' first
    | with_reducible first
      | assumption | apply State.showConn_frame | apply State.modConn_frame | apply State.setConnState_frame
    | exact maskSub hF rfl

/-! ## Calib -/

theorem State.hubWrite_frame {F r0} (hF : F &&& 131 = 131) : ∀ {s c a bs}, Within F r0 s → Within F r0 (State.hubWrite s c a bs).1 := by
  intro s c a bs h
  unfold State.hubWrite
  repeat' first
    | with_reducible first | assumption | apply State.engWrite_frame | (apply Within.fst; assumption)
    | split

theorem State.setUnsaved_frame {F r0} (hF : F &&& 1 = 1) : ∀ {s}, Within F r0 s → Within F r0 (State.setUnsaved s) := by
  intro s h
  unfold State.setUnsaved
  repeat' with_reducible first | assumption | apply State.wf_frame

theorem State.calReject_frame {F r0} (hF : F &&& 1 = 1) : ∀ {s r}, Within F r0 s → Within F r0 (State.calReject s r) := by
  intro s r h
  unfold State.calReject
  repeat' with_reducible first | assumption | apply State.wf_frame | apply State.bump_frame

theorem State.calNewest_frame {F r0} (hF : F &&& 8193 = 8193) : ∀ {s1 ver first ents}, Within F r0 s1 → Within F r0 (State.calNewest s1 ver first ents) := by
  intro s1 ver first ents h
  unfold State.calNewest
  dsimp only
  repeat' first
    | with_reducible first
      | assumption | apply State.modSh_frame | apply State.setUnsaved_frame | apply State.wf_frame
    | exact maskSub hF rfl

theorem State.calCopied_frame {F r0} (hF : F &&& 131 = 131) : ∀ {s ver first ents}, Within F r0 s → Within F r0 (State.calCopied s ver first ents).1 := by
  intro s ver first ents h
  unfold State.calCopied
  repeat' with_reducible first | assumption | apply State.hubWrite_frame | (apply Within.fst; assumption)

theorem State.calVersion_frame {F r0} (hF : F &&& 8323 = 8323) : ∀ {s ver first ents}, Within F r0 s → Within F r0 (State.calVersion s ver first ents) := by
  intro s ver first ents h
  unfold State.calVersion
  repeat' first
    | with_reducible first
      | assumption | apply State.calNewest_frame | apply State.calCopied_frame | (apply Within.fst; assumption)
    | exact maskSub hF rfl

theorem State.calStart_frame {F r0} (hF : F &&& 8323 = 8323) : ∀ {s start}, Within F r0 s → Within F r0 (State.calStart s start) := by
  intro s start h
  unfold State.calStart
  dsimp only
  repeat' first
    | with_reducible first | assumption | apply State.calVersion_frame | apply State.setFlag_frame
    | split | exact maskSub hF rfl

theorem State.calProposal_frame {F r0} (hF : F &&& 8323 = 8323) : ∀ {s p}, Within F r0 s → Within F r0 (State.calProposal s p) := by
  intro s p h
  unfold State.calProposal
  dsimp only
  repeat' first
    | with_reducible first
      | assumption | apply State.calCopied_frame | apply State.raiseIrq_frame | apply State.calNewest_frame
      | apply State.modSh_frame | apply State.calReject_frame | (apply Within.fst; assumption) | apply Within.foldl
      | apply Within.foldl_fst | intro _
    | split | exact maskSub hF rfl

/-! ## Sensor -/

theorem State.modSens_frame {F r0} (hF : F &&& 8192 = 8192) : ∀ {s n f}, Within F r0 s → Within F r0 (State.modSens s n f) := by
  intro s n f h
  unfold State.modSens
  repeat' with_reducible first | assumption | apply State.modSh_frame

theorem State.senErr_frame {F r0} (hF : F &&& 1 = 1) : ∀ {s n}, Within F r0 s → Within F r0 (State.senErr s n) := by
  intro s n h
  unfold State.senErr
  repeat' with_reducible first | assumption | apply State.bump_frame

theorem State.senLate_frame {F r0} (hF : F &&& 1 = 1) : ∀ {s n}, Within F r0 s → Within F r0 (State.senLate s n) := by
  intro s n h
  unfold State.senLate
  repeat' with_reducible first | assumption | apply State.bump_frame

theorem State.takeCounter_frame {F r0} (hF : F &&& 8193 = 8193) : ∀ {s n}, Within F r0 s → Within F r0 (State.takeCounter s n).2 := by
  intro s n h
  unfold State.takeCounter
  dsimp only
  repeat' first
    | with_reducible first | assumption | apply State.wf_frame | apply State.modSens_frame
    | exact maskSub hF rfl

theorem State.useSlot_frame {F r0} (hF : F &&& 8192 = 8192) : ∀ {s n x}, Within F r0 s → Within F r0 (State.useSlot s n x) := by
  intro s n x h
  unfold State.useSlot
  repeat' with_reducible first | assumption | apply State.modSens_frame

theorem State.freeSlot_frame {F r0} (hF : F &&& 8192 = 8192) : ∀ {s n x}, Within F r0 s → Within F r0 (State.freeSlot s n x) := by
  intro s n x h
  unfold State.freeSlot
  repeat' with_reducible first | assumption | apply State.modSens_frame

theorem State.freeSlotO_frame {F r0} (hF : F &&& 8192 = 8192) : ∀ {s n x}, Within F r0 s → Within F r0 (State.freeSlotO s n x) := by
  intro s n x h
  unfold State.freeSlotO
  repeat' first
    | with_reducible first | assumption | apply State.freeSlot_frame
    | split

theorem State.senWrite_frame {F r0} (hF : F &&& 131 = 131) : ∀ {s a bs}, Within F r0 s → Within F r0 (State.senWrite s a bs).1 := by
  intro s a bs h
  unfold State.senWrite
  repeat' first
    | with_reducible first | assumption | apply State.hubWrite_frame | (apply Within.fst; assumption)
    | split

theorem State.stamped_frame {F r0} (hF : F &&& 8 = 8) : ∀ {s}, Within F r0 s → Within F r0 (State.stamped s) := by
  intro s h
  unfold State.stamped
  repeat' with_reducible first | assumption | apply State.modTime_frame

theorem State.tadItem_frame {F r0} (hF : F &&& 8192 = 8192) : ∀ {s win item lin data}, Within F r0 s → Within F r0 (State.tadItem s win item lin data) := by
  intro s win item lin data h
  unfold State.tadItem
  dsimp only
  repeat' first
    | with_reducible first | assumption | apply State.modSh_frame
    | split

theorem State.tadEnrol_frame {F r0} (hF : F &&& 8192 = 8192) : ∀ {s kind src vc dt}, Within F r0 s → Within F r0 (State.tadEnrol s kind src vc dt) := by
  intro s kind src vc dt h
  unfold State.tadEnrol
  dsimp only
  repeat' first
    | with_reducible first | assumption | apply State.modSh_frame
    | split

theorem State.seeStream_frame {F r0} (hF : F &&& 8192 = 8192) : ∀ {s cam vc dt}, Within F r0 s → Within F r0 (State.seeStream s cam vc dt) := by
  intro s cam vc dt h
  unfold State.seeStream
  repeat' first
    | with_reducible first | assumption | apply State.tadEnrol_frame
    | split

theorem State.seeSource_frame {F r0} (hF : F &&& 8192 = 8192) : ∀ {s kind src}, Within F r0 s → Within F r0 (State.seeSource s kind src) := by
  intro s kind src h
  unfold State.seeSource
  repeat' first
    | with_reducible first | assumption | apply State.tadEnrol_frame
    | split

theorem State.camTrace_frame {F r0} (hF : F &&& 8913153 = 8913153) : ∀ {s n ev counter}, Within F r0 s → Within F r0 (State.camTrace s n ev counter) := by
  intro s n ev counter h
  unfold State.camTrace
  repeat' with_reducible first | assumption | apply State.traceEvent_frame

theorem State.camMoved_frame {F r0} (hF : F &&& 257 = 257) : ∀ {s n len}, Within F r0 s → Within F r0 (State.camMoved s n len) := by
  intro s n len h
  unfold State.camMoved
  repeat' first
    | with_reducible first | assumption | apply State.moved_frame
    | split

theorem State.dropFrame_frame {F r0} (hF : F &&& 8921345 = 8921345) : ∀ {s n}, Within F r0 s → Within F r0 (State.dropFrame s n) := by
  intro s n h
  unfold State.dropFrame
  repeat' first
    | with_reducible first
      | assumption | apply State.camTrace_frame | apply State.senErr_frame | apply State.modSens_frame
      | apply State.freeSlot_frame
    | split | exact maskSub hF rfl

theorem State.frameStart_frame {F r0} (hF : F &&& 8921353 = 8921353) : ∀ {s n}, Within F r0 s → Within F r0 (State.frameStart s n) := by
  intro s n h
  unfold State.frameStart
  dsimp only
  repeat' first
    | with_reducible first
      | assumption | apply State.dropFrame_frame | apply State.takeCounter_frame | apply State.camTrace_frame
      | apply State.stamped_frame | apply State.modSens_frame | apply State.useSlot_frame | apply State.senErr_frame
      | (apply Within.snd; assumption)
    | split | exact maskSub hF rfl

theorem State.pixelPacket_frame {F r0} (hF : F &&& 8579 = 8579) : ∀ {s n data fault}, Within F r0 s → Within F r0 (State.pixelPacket s n data fault) := by
  intro s n data fault h
  unfold State.pixelPacket
  dsimp only
  repeat' first
    | with_reducible first
      | assumption | apply State.senWrite_frame | apply State.camMoved_frame | apply State.modSens_frame
      | (apply Within.fst; assumption)
    | split | exact maskSub hF rfl

theorem State.enterFrame_frame {F r0} (hF : F &&& 8579 = 8579) : ∀ {s n win f}, Within F r0 s → Within F r0 (State.enterFrame s n win f) := by
  intro s n win f h
  unfold State.enterFrame
  dsimp only
  repeat' first
    | with_reducible first
      | assumption | apply State.senWrite_frame | apply State.camMoved_frame | apply State.senErr_frame
      | apply State.freeSlot_frame | apply State.freeSlotO_frame | apply State.modSens_frame | apply State.tadItem_frame
      | (apply Within.fst; assumption)
    | split | exact maskSub hF rfl

theorem State.frameEnd_frame {F r0} (hF : F &&& 8921475 = 8921475) : ∀ {s n}, Within F r0 s → Within F r0 (State.frameEnd s n) := by
  intro s n h
  unfold State.frameEnd
  dsimp only
  repeat' first
    | with_reducible first
      | assumption | apply State.dropFrame_frame | apply State.modSens_frame | apply State.freeSlot_frame
      | apply State.senLate_frame | apply State.enterFrame_frame | apply State.camTrace_frame
    | split | exact maskSub hF rfl

theorem State.ownStamp_frame {F r0} (hF : F &&& 8193 = 8193) : ∀ {s n ts}, Within F r0 s → Within F r0 (State.ownStamp s n ts).1 := by
  intro s n ts h
  unfold State.ownStamp
  dsimp only
  repeat' first
    | with_reducible first | assumption | apply State.wf_frame | apply State.modSens_frame
    | split | exact maskSub hF rfl

theorem State.lateDone_frame {F r0} (hF : F &&& 8193 = 8193) : ∀ {s n u stamp}, Within F r0 s → Within F r0 (State.lateDone s n u stamp) := by
  intro s n u stamp h
  unfold State.lateDone
  dsimp only
  repeat' first
    | with_reducible first
      | assumption | apply State.senLate_frame | apply State.modSens_frame | apply Within.foldl | intro _
    | exact maskSub hF rfl

theorem State.serRecord_frame {F r0} (hF : F &&& 8331 = 8331) : ∀ {s n counter stamp flags data item}, Within F r0 s → Within F r0 (State.serRecord s n counter stamp flags data item) := by
  intro s n counter stamp flags data item h
  unfold State.serRecord
  dsimp only
  repeat' first
    | with_reducible first
      | assumption | apply State.lateDone_frame | apply State.modSens_frame | apply State.stamped_frame
      | apply State.senLate_frame | apply State.senErr_frame | apply State.senWrite_frame | apply State.useSlot_frame
      | apply State.freeSlot_frame | apply State.tadItem_frame | (apply Within.fst; assumption)
    | split | exact maskSub hF rfl

theorem State.newRecord_frame {F r0} (hF : F &&& 8331 = 8331) : ∀ {s n stamp flags data item}, Within F r0 s → Within F r0 (State.newRecord s n stamp flags data item) := by
  intro s n stamp flags data item h
  unfold State.newRecord
  dsimp only
  repeat' first
    | with_reducible first
      | assumption | apply State.takeCounter_frame | apply State.serRecord_frame | (apply Within.snd; assumption)
    | exact maskSub hF rfl

theorem State.modSample_frame {F r0} (hF : F &&& 8192 = 8192) : ∀ {s n win f}, Within F r0 s → Within F r0 (State.modSample s n win f) := by
  intro s n win f h
  unfold State.modSample
  repeat' first
    | with_reducible first | assumption | apply State.modSens_frame
    | split

theorem State.openSweep_frame {F r0} (hF : F &&& 8921345 = 8921345) : ∀ {s n mac win stamp b seq u}, Within F r0 s → Within F r0 (State.openSweep s n mac win stamp b seq u) := by
  intro s n mac win stamp b seq u h
  unfold State.openSweep
  dsimp only
  repeat' first
    | with_reducible first
      | assumption | apply State.takeCounter_frame | apply State.traceEvent_frame | apply State.modSens_frame
      | apply State.useSlot_frame | apply State.senErr_frame | (apply Within.snd; assumption)
    | split | exact maskSub hF rfl

theorem State.dropSample_frame {F r0} (hF : F &&& 8193 = 8193) : ∀ {s n win slot}, Within F r0 s → Within F r0 (State.dropSample s n win slot) := by
  intro s n win slot h
  unfold State.dropSample
  repeat' first
    | with_reducible first
      | assumption | apply State.senErr_frame | apply State.freeSlot_frame | apply State.modSample_frame
    | exact maskSub hF rfl

theorem State.storePacket_frame {F r0} (hF : F &&& 8579 = 8579) : ∀ {s n win tpl sm slot stamp flags seq u data}, Within F r0 s → Within F r0 (State.storePacket s n win tpl sm slot stamp flags seq u data) := by
  intro s n win tpl sm slot stamp flags seq u data h
  unfold State.storePacket
  dsimp only
  repeat' first
    | with_reducible first
      | assumption | apply State.modSample_frame | apply State.senErr_frame | apply State.senWrite_frame
      | apply State.moved_frame | apply State.dropSample_frame | (apply Within.fst; assumption) | apply Within.foldl
      | apply Within.foldl_fst | intro _
    | split | exact maskSub hF rfl

theorem State.sweepPacket_frame {F r0} (hF : F &&& 8921483 = 8921483) : ∀ {s n tpl mac stamp flags seq data}, Within F r0 s → Within F r0 (State.sweepPacket s n tpl mac stamp flags seq data) := by
  intro s n tpl mac stamp flags seq data h
  unfold State.sweepPacket
  dsimp only
  repeat' first
    | with_reducible first
      | assumption | apply State.lateDone_frame | apply State.stamped_frame | apply State.senLate_frame
      | apply State.openSweep_frame | apply State.modSens_frame | apply State.storePacket_frame
    | split | exact maskSub hF rfl

theorem State.datagram_frame {F r0} (hF : F &&& 8921483 = 8921483) : ∀ {s t mac p}, Within F r0 s → Within F r0 (State.datagram s t mac p) := by
  intro s t mac p h
  unfold State.datagram
  dsimp only
  repeat' first
    | with_reducible first
      | assumption | apply State.senErr_frame | apply State.ownStamp_frame | apply State.sweepPacket_frame
      | apply State.newRecord_frame | (apply Within.fst; assumption)
    | split | exact maskSub hF rfl

theorem State.ethFrame_frame {F r0} (hF : F &&& 8921483 = 8921483) : ∀ {s rx}, Within F r0 s → Within F r0 (State.ethFrame s rx) := by
  intro s rx h
  unfold State.ethFrame
  dsimp only
  repeat' first
    | with_reducible first
      | assumption | apply State.bump_frame | apply State.seeSource_frame | apply State.newRecord_frame
      | apply State.datagram_frame | apply State.modSh_frame
    | split | exact maskSub hF rfl

theorem State.spiStart_frame {F r0} (hF : F &&& 8321 = 8321) : ∀ {s n}, Within F r0 s → Within F r0 (State.spiStart s n) := by
  intro s n h
  unfold State.spiStart
  dsimp only
  repeat' first
    | with_reducible first
      | assumption | apply State.takeCounter_frame | apply State.modSens_frame | apply State.emit_frame
      | (apply Within.snd; assumption)
    | exact maskSub hF rfl

theorem State.drdy_frame {F r0} (hF : F &&& 8321 = 8321) : ∀ {s line n}, Within F r0 s → Within F r0 (State.drdy s line n) := by
  intro s line n h
  unfold State.drdy
  dsimp only
  repeat' first
    | with_reducible first | assumption | apply State.senErr_frame | apply State.spiStart_frame
    | split | exact maskSub hF rfl

theorem State.spiDone_frame {F r0} (hF : F &&& 8331 = 8331) : ∀ {s n data}, Within F r0 s → Within F r0 (State.spiDone s n data) := by
  intro s n data h
  unfold State.spiDone
  dsimp only
  repeat' first
    | with_reducible first | assumption | apply State.serRecord_frame | apply State.modSens_frame
    | split | exact maskSub hF rfl

theorem State.uartRecord_frame {F r0} (hF : F &&& 8331 = 8331) : ∀ {s n data ago fault}, Within F r0 s → Within F r0 (State.uartRecord s n data ago fault) := by
  intro s n data ago fault h
  unfold State.uartRecord
  dsimp only
  repeat' first
    | with_reducible first
      | assumption | apply State.takeCounter_frame | apply State.senErr_frame | apply State.serRecord_frame
      | (apply Within.snd; assumption)
    | split | exact maskSub hF rfl

theorem State.ppsRecords_frame {F r0} (hF : F &&& 8331 = 8331) : ∀ {s}, Within F r0 s → Within F r0 (State.ppsRecords s) := by
  intro s h
  unfold State.ppsRecords
  dsimp only
  repeat' first
    | with_reducible first
      | assumption | apply State.seeSource_frame | apply State.newRecord_frame | apply Within.foldl | intro _
    | exact maskSub hF rfl

/-! ## Time -/

theorem State.modDieTime_frame {F r0} (hF : F &&& 8 = 8) : ∀ {s d f}, Within F r0 s → Within F r0 (State.modDieTime s d f) := by
  intro s d f h
  unfold State.modDieTime
  repeat' with_reducible first | assumption | apply State.modTime_frame

theorem State.modIslTime_frame {F r0} (hF : F &&& 8 = 8) : ∀ {s i f}, Within F r0 s → Within F r0 (State.modIslTime s i f) := by
  intro s i f h
  unfold State.modIslTime
  repeat' with_reducible first | assumption | apply State.modTime_frame

theorem State.ppsOutFall_frame {F r0} (hF : F &&& 8 = 8) : ∀ {s}, Within F r0 s → Within F r0 (State.ppsOutFall s) := by
  intro s h
  unfold State.ppsOutFall
  repeat' first
    | with_reducible first | assumption | apply State.modTime_frame
    | split

theorem State.refEdge_frame {F r0} (hF : F &&& 265 = 265) : ∀ {s}, Within F r0 s → Within F r0 (State.refEdge s) := by
  intro s h
  unfold State.refEdge
  repeat' first
    | with_reducible first
      | assumption | apply State.timeRecord_frame | apply State.ppsOutFall_frame | apply State.modTime_frame
    | exact maskSub hF rfl

theorem State.slowEdge_frame {F r0} (hF : F &&& 265 = 265) : ∀ {s}, Within F r0 s → Within F r0 (State.slowEdge s) := by
  intro s h
  unfold State.slowEdge
  repeat' first
    | with_reducible first | assumption | apply State.timeRecord_frame | apply State.modTime_frame
    | exact maskSub hF rfl

theorem State.loadCopy_frame {F r0} (hF : F &&& 8 = 8) : ∀ {s d}, Within F r0 s → Within F r0 (State.loadCopy s d) := by
  intro s d h
  unfold State.loadCopy
  repeat' with_reducible first | assumption | apply State.modDieTime_frame

theorem execDtimeSidebandCheck_frame {F r0} (hF : F &&& 131209 = 131209) : ∀ {s die}, Within F r0 s → WithinR F r0 (execDtimeSidebandCheck die s) := by
  intro s die h
  unfold execDtimeSidebandCheck
  dsimp only
  repeat' first
    | with_reducible first
      | assumption | apply State.wf_frame | apply State.bump_frame | apply State.sendLoad_frame
      | apply State.loadCopy_frame | apply WithinR.next
    | split | exact maskSub hF rfl

theorem execDtimeLoad_frame {F r0} (hF : F &&& 131209 = 131209) : ∀ {s die}, Within F r0 s → WithinR F r0 (execDtimeLoad die s) := by
  intro s die h
  unfold execDtimeLoad
  dsimp only
  repeat' first
    | with_reducible first
      | assumption | apply State.loadCopy_frame | apply State.sbMsg_frame | apply State.offerCommit_frame
      | apply State.modSk_frame | apply WithinR.next | apply id_frame | intro _
    | split | exact maskSub hF rfl

theorem execDtimeInc_frame {F r0} (hF : F &&& 131081 = 131081) : ∀ {s die incr}, Within F r0 s → WithinR F r0 (execDtimeInc die incr s) := by
  intro s die incr h
  unfold execDtimeInc
  repeat' first
    | with_reducible first
      | assumption | apply State.modDieTime_frame | apply State.sbMsg_frame | apply WithinR.next | apply id_frame
      | intro _
    | split | exact maskSub hF rfl

theorem execTimeMessageSend_frame {F r0} (hF : F &&& 8 = 8) : ∀ {s isl}, Within F r0 s → WithinR F r0 (execTimeMessageSend isl s) := by
  intro s isl h
  unfold execTimeMessageSend
  dsimp only
  repeat' first
    | with_reducible first | assumption | apply State.modIslTime_frame | apply WithinR.next
    | split

theorem execTimeMessage_frame {F r0} (hF : F &&& 8 = 8) : ∀ {s isl}, Within F r0 s → WithinR F r0 (execTimeMessage isl s) := by
  intro s isl h
  unfold execTimeMessage
  repeat' first
    | with_reducible first | assumption | apply State.modIslTime_frame | apply WithinR.next
    | split

theorem execHoldoverTimeout_frame {F r0} (hF : F &&& 8 = 8) : ∀ {s isl}, Within F r0 s → WithinR F r0 (execHoldoverTimeout isl s) := by
  intro s isl h
  unfold execHoldoverTimeout
  repeat' first
    | with_reducible first | assumption | apply State.modIslTime_frame | apply WithinR.next
    | split

theorem State.discipline_frame {F r0} (hF : F &&& 265 = 265) : ∀ {s ofs}, Within F r0 s → Within F r0 (State.discipline s ofs) := by
  intro s ofs h
  unfold State.discipline
  repeat' first
    | with_reducible first | assumption | apply State.timeRecord_frame | apply State.modTime_frame
    | split | exact maskSub hF rfl

theorem State.reselect_frame {F r0} (hF : F &&& 1 = 1) : ∀ {s}, Within F r0 s → Within F r0 (State.reselect s) := by
  intro s h
  unfold State.reselect
  dsimp only
  repeat' first
    | with_reducible first | assumption | apply State.wf_frame | apply State.bump_frame
    | split

theorem State.timeEvent_frame {F r0} (hF : F &&& 265 = 265) : ∀ {s src ofs}, Within F r0 s → Within F r0 (State.timeEvent s src ofs) := by
  intro s src ofs h
  unfold State.timeEvent
  repeat' first
    | with_reducible first | assumption | apply State.discipline_frame | apply State.setReg_frame
    | split | exact maskSub hF rfl

theorem execGptpMessage_frame {F r0} (hF : F &&& 265 = 265) : ∀ {s _mac chosen paired ofs}, Within F r0 s → WithinR F r0 (execGptpMessage _mac chosen paired ofs s) := by
  intro s _mac chosen paired ofs h
  unfold execGptpMessage
  dsimp only
  repeat' first
    | with_reducible first
      | assumption | apply State.bump_frame | apply State.modTime_frame | apply State.timeEvent_frame
      | apply State.reselect_frame | apply State.setFlag_frame | apply WithinR.next
    | split | exact maskSub hF rfl

theorem execGptpTimeout_frame {F r0} (hF : F &&& 1 = 1) : ∀ {s}, Within F r0 s → WithinR F r0 (execGptpTimeout s) := by
  intro s h
  unfold execGptpTimeout
  repeat' first
    | with_reducible first
      | assumption | apply State.reselect_frame | apply State.bump_frame | apply State.clrFlag_frame
      | apply WithinR.next
    | split

theorem State.ppsAccept_frame {F r0} (hF : F &&& 265 = 265) : ∀ {s}, Within F r0 s → Within F r0 (State.ppsAccept s) := by
  intro s h
  unfold State.ppsAccept
  dsimp only
  repeat' first
    | with_reducible first
      | assumption | apply State.modTime_frame | apply State.timeEvent_frame | apply State.reselect_frame
      | apply State.setFlag_frame
    | exact maskSub hF rfl

theorem State.ppsEdge_frame {F r0} (hF : F &&& 265 = 265) : ∀ {s falling widthUs}, Within F r0 s → Within F r0 (State.ppsEdge s falling widthUs).1 := by
  intro s falling widthUs h
  unfold State.ppsEdge
  dsimp only
  repeat' first
    | with_reducible first
      | assumption | apply State.bump_frame | apply State.ppsAccept_frame | apply State.modTime_frame
    | split | exact maskSub hF rfl

theorem execPpsLost_frame {F r0} (hF : F &&& 1 = 1) : ∀ {s}, Within F r0 s → WithinR F r0 (execPpsLost s) := by
  intro s h
  unfold execPpsLost
  repeat' first
    | with_reducible first
      | assumption | apply State.reselect_frame | apply State.bump_frame | apply State.clrFlag_frame
      | apply WithinR.next
    | split

theorem execPpsOutSecond_frame {F r0} (hF : F &&& 8 = 8) : ∀ {s}, Within F r0 s → WithinR F r0 (execPpsOutSecond s) := by
  intro s h
  unfold execPpsOutSecond
  dsimp only
  repeat' first
    | with_reducible first | assumption | apply State.modTime_frame | apply WithinR.next
    | split

theorem State.timeSetWrite_frame {F r0} (hF : F &&& 9 = 9) : ∀ {s w}, Within F r0 s → Within F r0 (State.timeSetWrite s w) := by
  intro s w h
  unfold State.timeSetWrite
  repeat' first
    | with_reducible first
      | assumption | apply State.setFlag_frame | apply State.modTime_frame | apply State.setReg_frame
    | split | exact maskSub hF rfl

theorem execIoTimeSetWrite_frame {F r0} (hF : F &&& 13 = 13) : ∀ {s port val}, Within F r0 s → WithinR F r0 (execIoTimeSetWrite port val s) := by
  intro s port val h
  unfold execIoTimeSetWrite
  repeat' first
    | with_reducible first
      | assumption | apply State.access_frame | apply State.timeSetWrite_frame | apply WithinR.next | intro _
    | exact maskSub hF rfl

theorem State.timeCfgWrite_frame {F r0} (hF : F &&& 1 = 1) : ∀ {s w}, Within F r0 s → Within F r0 (State.timeCfgWrite s w) := by
  intro s w h
  unfold State.timeCfgWrite
  dsimp only
  repeat' first
    | with_reducible first
      | assumption | apply State.plainWrite_frame | apply State.wf_frame | apply State.reselect_frame
    | split

theorem State.camPhyWrite_frame {F r0} (hF : F &&& 1 = 1) : ∀ {s w}, Within F r0 s → Within F r0 (State.camPhyWrite s w) := by
  intro s w h
  unfold State.camPhyWrite
  repeat' first
    | with_reducible first | assumption | apply State.setFlag_frame | apply State.plainWrite_frame
    | split

theorem execGpioInputChange_frame {F r0} (hF : F &&& 1 = 1) : ∀ {s line level stableUs}, Within F r0 s → WithinR F r0 (execGpioInputChange line level stableUs s) := by
  intro s line level stableUs h
  unfold execGpioInputChange
  repeat' first
    | with_reducible first | assumption | apply State.wf_frame | apply WithinR.next
    | split

/-! ## Align -/

theorem State.tadRecord_frame {F r0} (hF : F &&& 8320 = 8320) : ∀ {s item lin data}, Within F r0 s → Within F r0 (State.tadRecord s item lin data) := by
  intro s item lin data h
  unfold State.tadRecord
  dsimp only
  repeat' first
    | with_reducible first | assumption | apply State.modSh_frame | apply State.emit_frame
    | split | exact maskSub hF rfl

theorem State.tadFlush_frame {F r0} (hF : F &&& 8320 = 8320) : ∀ {s k}, Within F r0 s → Within F r0 (State.tadFlush s k) := by
  intro s k h
  unfold State.tadFlush
  dsimp only
  repeat' first
    | with_reducible first
      | assumption | apply State.modSh_frame | apply State.tadRecord_frame | apply Within.foldl | intro _
    | exact maskSub hF rfl

theorem State.writeHead_frame {F r0} (hF : F &&& 387 = 387) : ∀ {s n j}, Within F r0 s → Within F r0 (State.writeHead s n j).1 := by
  intro s n j h
  unfold State.writeHead
  dsimp only
  repeat' first
    | with_reducible first
      | assumption | apply State.senWrite_frame | apply State.moved_frame | apply State.senErr_frame
      | (apply Within.fst; assumption)
    | split | exact maskSub hF rfl

theorem State.writeHeads_frame {F r} (hF : F &&& 387 = 387) : ∀ {s n l}, Within F r s → Within F r (State.writeHeads s n l).1 := by
  intro s n l
  induction l generalizing s n with
  | nil => exact fun h => h
  | cons j l ih => exact fun h => ih (State.writeHead_frame (maskSub hF rfl) h)

theorem State.missOne_frame {F r0} (hF : F &&& 1 = 1) : ∀ {s n j}, Within F r0 s → Within F r0 (State.missOne s n j) := by
  intro s n j h
  unfold State.missOne
  repeat' first
    | with_reducible first | assumption | apply State.bump_frame
    | split

theorem State.sweepsEnd_frame {F r0} (hF : F &&& 8913153 = 8913153) : ∀ {s k n}, Within F r0 s → Within F r0 (State.sweepsEnd s k n) := by
  intro s k n h
  unfold State.sweepsEnd
  repeat' first
    | with_reducible first | assumption | apply State.traceEvent_frame | apply Within.foldl | intro _
    | split

theorem State.settle_frame {F r0} (hF : F &&& 8921345 = 8921345) : ∀ {s0 k named}, Within F r0 s0 → Within F r0 (State.settle s0 k named) := by
  intro s0 k named h
  unfold State.settle
  dsimp only
  repeat' first
    | with_reducible first
      | assumption | apply State.sweepsEnd_frame | apply State.modSens_frame | apply Within.foldl | intro _
    | exact maskSub hF rfl

theorem State.writeManifest_frame {F r0} (hF : F &&& 8323 = 8323) : ∀ {s k limit js}, Within F r0 s → Within F r0 (State.writeManifest s k limit js).1 := by
  intro s k limit js h
  unfold State.writeManifest
  dsimp only
  repeat' first
    | with_reducible first
      | assumption | apply State.bump_frame | apply State.hubWrite_frame | apply State.modSh_frame
      | (apply Within.fst; assumption)
    | split | exact maskSub hF rfl

theorem State.recordInstant_frame {F r0} (hF : F &&& 8320 = 8320) : ∀ {s k limit js}, Within F r0 s → Within F r0 (State.recordInstant s k limit js) := by
  intro s k limit js h
  unfold State.recordInstant
  dsimp only
  repeat' with_reducible first | assumption | apply State.tadRecord_frame | apply State.tadFlush_frame

theorem State.release_frame {F r0} (hF : F &&& 8921475 = 8921475) : ∀ {s limit js}, Within F r0 s → Within F r0 (State.release s limit js) := by
  intro s limit js h
  unfold State.release
  dsimp only
  repeat' first
    | with_reducible first
      | assumption | apply State.writeHeads_frame | apply State.missOne_frame | apply State.setReg_frame
      | apply State.settle_frame | apply State.recordInstant_frame | apply State.writeManifest_frame
      | (apply Within.fst; assumption) | apply Within.foldl | apply Within.foldl_fst | intro _
    | split | exact maskSub hF rfl

theorem State.evaluate_frame {F r0} (hF : F &&& 8921475 = 8921475) : ∀ {s}, Within F r0 s → Within F r0 (State.evaluate s) := by
  intro s h
  unfold State.evaluate
  dsimp only
  repeat' first
    | with_reducible first | assumption | apply State.release_frame
    | split

theorem State.limitRelease_frame {F r0} (hF : F &&& 8921475 = 8921475) : ∀ {s}, Within F r0 s → Within F r0 (State.limitRelease s) := by
  intro s h
  unfold State.limitRelease
  dsimp only
  repeat' first
    | with_reducible first | assumption | apply State.release_frame
    | split

theorem State.windowEnds_frame {F r0} (hF : F &&& 8921475 = 8921475) : ∀ {s}, Within F r0 s → Within F r0 (State.windowEnds s) := by
  intro s h
  unfold State.windowEnds
  dsimp only
  repeat' first
    | with_reducible first | assumption | apply State.limitRelease_frame | apply State.modSh_frame
    | split | exact maskSub hF rfl

theorem State.catchUpTo_frame {F r0} (hF : F &&& 8921475 = 8921475) : ∀ {f s}, Within F r0 s → Within F r0 (State.catchUpTo f s) := by
  intro f
  induction f with
  | zero => exact fun h => h
  | succ f ih =>
    intro s h
    unfold State.catchUpTo
    split
    · exact ih (State.limitRelease_frame (maskSub hF rfl) (State.evaluate_frame (maskSub hF rfl) (State.windowEnds_frame (maskSub hF rfl) h)))
    · exact h

theorem State.overdue_frame {F r0} (hF : F &&& 8921475 = 8921475) : ∀ {s}, Within F r0 s → Within F r0 (State.overdue s) := by
  intro s h
  unfold State.overdue
  repeat' with_reducible first | assumption | apply State.catchUpTo_frame

theorem execWindowEnd_frame {F r0} (hF : F &&& 8921475 = 8921475) : ∀ {s}, Within F r0 s → WithinR F r0 (execWindowEnd s) := by
  intro s h
  unfold execWindowEnd
  repeat' first
    | with_reducible first
      | assumption | apply State.evaluate_frame | apply State.windowEnds_frame | apply WithinR.next

theorem execWaitLimitExpiry_frame {F r0} (hF : F &&& 8921475 = 8921475) : ∀ {s}, Within F r0 s → WithinR F r0 (execWaitLimitExpiry s) := by
  intro s h
  unfold execWaitLimitExpiry
  repeat' with_reducible first | assumption | apply State.limitRelease_frame | apply WithinR.next

theorem State.ringWrites_frame {F r} (hF : F &&& 131 = 131) : ∀ {l s c tail t}, State.ringWrites s c tail l = some t → Within F r s → Within F r t := by
  intro l
  induction l with
  | nil => intro s c tail t h k; cases h; exact k
  | cons x l ih =>
    intro s c tail t h k
    obtain ⟨i, d⟩ := x
    simp only [State.ringWrites] at h
    split at h
    · exact ih h (Within.fst (by assumption) (State.hubWrite_frame (maskSub hF rfl) k))
    · cases h

theorem State.launch_frame {F r} (hF : F &&& 4718723 = 4718723) : ∀ {s l}, Within F r s → Within F r (State.launch s l) := by
  intro s l h
  unfold State.launch
  dsimp only
  split
  · split
    · exact State.doorbell_frame (maskSub hF rfl) (State.ringWrites_frame (maskSub hF rfl) (by assumption) h)
    · exact State.bump_frame (maskSub hF rfl) h
  · exact State.bump_frame (maskSub hF rfl) h

theorem execInstantLaunch_frame {F r0} (hF : F &&& 4726915 = 4726915) : ∀ {s}, Within F r0 s → WithinR F r0 (execInstantLaunch s) := by
  intro s h
  unfold execInstantLaunch
  repeat' first
    | with_reducible first | assumption | apply State.launch_frame | apply State.modSh_frame | apply WithinR.next
    | split | exact maskSub hF rfl

theorem State.tickRecord_frame {F r0} (hF : F &&& 4718723 = 4718723) : ∀ {s m j t}, Within F r0 s → Within F r0 (State.tickRecord s m j t) := by
  intro s m j t h
  unfold State.tickRecord
  dsimp only
  repeat' first
    | with_reducible first
      | assumption | apply State.hubWrite_frame | apply State.launch_frame | apply State.bump_frame
      | (apply Within.fst; assumption)
    | split | exact maskSub hF rfl

theorem execTriggerEdge_frame {F r0} (hF : F &&& 8192 = 8192) : ∀ {s out}, Within F r0 s → WithinR F r0 (execTriggerEdge out s) := by
  intro s out h
  unfold execTriggerEdge
  dsimp only
  repeat' first
    | with_reducible first | assumption | apply State.modSh_frame | apply WithinR.next
    | split

theorem execTriggerPulseEnd_frame {F r0} (hF : F &&& 8192 = 8192) : ∀ {s out}, Within F r0 s → WithinR F r0 (execTriggerPulseEnd out s) := by
  intro s out h
  unfold execTriggerPulseEnd
  repeat' first
    | with_reducible first | assumption | apply State.modSh_frame | apply WithinR.next
    | split

theorem State.shStart_frame {F r0} (hF : F &&& 8323 = 8323) : ∀ {s c start}, Within F r0 s → Within F r0 (State.shStart s c start) := by
  intro s c start h
  unfold State.shStart
  dsimp only
  repeat' first
    | with_reducible first
      | assumption | apply State.modSh_frame | apply State.wf_frame | apply State.calStart_frame
      | apply State.setFlag_frame | apply State.setReg_frame | apply Within.foldl | intro _
    | split | exact maskSub hF rfl

theorem State.shEnable_frame {F r0} (hF : F &&& 8323 = 8323) : ∀ {s}, Within F r0 s → Within F r0 (State.shEnable s) := by
  intro s h
  unfold State.shEnable
  repeat' first
    | with_reducible first | assumption | apply State.shStart_frame | apply State.setFlag_frame
    | split | exact maskSub hF rfl

theorem State.shDisable_frame {F r0} (hF : F &&& 8193 = 8193) : ∀ {s}, Within F r0 s → Within F r0 (State.shDisable s) := by
  intro s h
  unfold State.shDisable
  repeat' first
    | with_reducible first | assumption | apply State.clrFlag_frame | apply State.modSh_frame
    | exact maskSub hF rfl

theorem State.shCfgWrite_frame {F r0} (hF : F &&& 4726915 = 4726915) : ∀ {s w}, Within F r0 s → Within F r0 (State.shCfgWrite s w) := by
  intro s w h
  unfold State.shCfgWrite
  dsimp only
  repeat' first
    | with_reducible first
      | assumption | apply State.wf_frame | apply State.entryCheck_frame | apply State.shEnable_frame
      | apply State.shDisable_frame
    | split | exact maskSub hF rfl

theorem execShEnable_frame {F r0} (hF : F &&& 4726919 = 4726919) : ∀ {s port val}, Within F r0 s → WithinR F r0 (execShEnable port val s) := by
  intro s port val h
  unfold execShEnable
  repeat' first
    | with_reducible first
      | assumption | apply State.access_frame | apply State.shCfgWrite_frame | apply WithinR.next | intro _
    | exact maskSub hF rfl

theorem execShDisable_frame {F r0} (hF : F &&& 4726919 = 4726919) : ∀ {s port val}, Within F r0 s → WithinR F r0 (execShDisable port val s) := by
  intro s port val h
  unfold execShDisable
  repeat' first
    | with_reducible first
      | assumption | apply State.access_frame | apply State.shCfgWrite_frame | apply WithinR.next | intro _
    | exact maskSub hF rfl

theorem State.shFreeWrite_frame {F r0} (hF : F &&& 1 = 1) : ∀ {s w}, Within F r0 s → Within F r0 (State.shFreeWrite s w) := by
  intro s w h
  unfold State.shFreeWrite
  repeat' first
    | with_reducible first | assumption | apply State.setReg_frame
    | split

theorem execShFreeBeforeWrite_frame {F r0} (hF : F &&& 5 = 5) : ∀ {s port val}, Within F r0 s → WithinR F r0 (execShFreeBeforeWrite port val s) := by
  intro s port val h
  unfold execShFreeBeforeWrite
  repeat' first
    | with_reducible first
      | assumption | apply State.access_frame | apply State.shFreeWrite_frame | apply WithinR.next | intro _
    | exact maskSub hF rfl

theorem State.shLimWrite_frame {F r0} (hF : F &&& 1 = 1) : ∀ {s w}, Within F r0 s → Within F r0 (State.shLimWrite s w) := by
  intro s w h
  unfold State.shLimWrite
  dsimp only
  repeat' with_reducible first | assumption | apply State.wf_frame

theorem State.shSavedWrite_frame {F r0} (hF : F &&& 1 = 1) : ∀ {s w}, Within F r0 s → Within F r0 (State.shSavedWrite s w) := by
  intro s w h
  unfold State.shSavedWrite
  repeat' with_reducible first | assumption | apply State.setUnsaved_frame | apply State.plainWrite_frame

theorem State.shEvtWrite_frame {F r0} (hF : F &&& 1 = 1) : ∀ {s w}, Within F r0 s → Within F r0 (State.shEvtWrite s w) := by
  intro s w h
  unfold State.shEvtWrite
  dsimp only
  repeat' first
    | with_reducible first | assumption | apply State.plainWrite_frame | apply State.wf_frame
    | split

theorem State.shCalStatWrite_frame {F r0} (hF : F &&& 1 = 1) : ∀ {s w}, Within F r0 s → Within F r0 (State.shCalStatWrite s w) := by
  intro s w h
  unfold State.shCalStatWrite
  repeat' first
    | with_reducible first | assumption | apply State.wf_frame
    | split

theorem State.shCntWrite_frame {F r0} (hF : F &&& 1 = 1) : ∀ {s n w}, Within F r0 s → Within F r0 (State.shCntWrite s n w) := by
  intro s n w h
  unfold State.shCntWrite
  dsimp only
  repeat' first
    | with_reducible first | assumption | apply State.wf_frame
    | split

theorem State.ingest_frame {F r0} {k : State → State} (hk : ∀ r y0, Within F r y0 → Within F r (k y0)) (hF : F &&& 8921475 = 8921475) : ∀ {s}, Within F r0 s → Within F r0 (State.ingest s k) := by
  intro s h
  unfold State.ingest
  repeat' first
    | with_reducible first
      | assumption | apply State.evaluate_frame | apply State.overdue_frame | apply hk | intro _
    | split

theorem execCsi2FrameStart_frame {F r0} (hF : F &&& 8921483 = 8921483) : ∀ {s cam vc dt}, Within F r0 s → WithinR F r0 (execCsi2FrameStart cam vc dt s) := by
  intro s cam vc dt h
  unfold execCsi2FrameStart
  dsimp only
  repeat' first
    | with_reducible first
      | assumption | apply State.ingest_frame | apply State.seeStream_frame | apply State.frameStart_frame
      | apply WithinR.next | intro _
    | split | exact maskSub hF rfl

theorem execCsi2PixelPacket_frame {F r0} (hF : F &&& 8921475 = 8921475) : ∀ {s cam vc dt data fault}, Within F r0 s → WithinR F r0 (execCsi2PixelPacket cam vc dt data fault s) := by
  intro s cam vc dt data fault h
  unfold execCsi2PixelPacket
  repeat' first
    | with_reducible first
      | assumption | apply State.ingest_frame | apply State.pixelPacket_frame | apply WithinR.next | intro _
    | split | exact maskSub hF rfl

theorem execCsi2FrameEnd_frame {F r0} (hF : F &&& 8921475 = 8921475) : ∀ {s cam vc dt}, Within F r0 s → WithinR F r0 (execCsi2FrameEnd cam vc dt s) := by
  intro s cam vc dt h
  unfold execCsi2FrameEnd
  repeat' first
    | with_reducible first
      | assumption | apply State.ingest_frame | apply State.frameEnd_frame | apply WithinR.next | intro _
    | split

theorem execFrameEndTimeout_frame {F r0} (hF : F &&& 8921475 = 8921475) : ∀ {s sens}, Within F r0 s → WithinR F r0 (execFrameEndTimeout sens s) := by
  intro s sens h
  unfold execFrameEndTimeout
  repeat' first
    | with_reducible first
      | assumption | apply State.ingest_frame | apply State.dropFrame_frame | apply WithinR.next | intro _
    | split | exact maskSub hF rfl

theorem execHubEthFrame_frame {F r0} (hF : F &&& 8921483 = 8921483) : ∀ {s rx}, Within F r0 s → WithinR F r0 (execHubEthFrame rx s) := by
  intro s rx h
  unfold execHubEthFrame
  repeat' first
    | with_reducible first
      | assumption | apply State.evaluate_frame | apply State.ethFrame_frame | apply State.overdue_frame
      | apply WithinR.next
    | split | exact maskSub hF rfl

theorem execSpiTransferTimer_frame {F r0} (hF : F &&& 8921475 = 8921475) : ∀ {s sens}, Within F r0 s → WithinR F r0 (execSpiTransferTimer sens s) := by
  intro s sens h
  unfold execSpiTransferTimer
  dsimp only
  repeat' first
    | with_reducible first
      | assumption | apply State.ingest_frame | apply State.modSens_frame | apply State.spiStart_frame
      | apply WithinR.next | intro _
    | split | exact maskSub hF rfl

theorem execDrdyEdge_frame {F r0} (hF : F &&& 8921475 = 8921475) : ∀ {s line}, Within F r0 s → WithinR F r0 (execDrdyEdge line s) := by
  intro s line h
  unfold execDrdyEdge
  repeat' first
    | with_reducible first
      | assumption | apply State.ingest_frame | apply State.drdy_frame | apply Within.foldl | apply WithinR.next
      | intro _
    | exact maskSub hF rfl

theorem execSpiTransferComplete_frame {F r0} (hF : F &&& 8921483 = 8921483) : ∀ {s sens data}, Within F r0 s → WithinR F r0 (execSpiTransferComplete sens data s) := by
  intro s sens data h
  unfold execSpiTransferComplete
  repeat' first
    | with_reducible first
      | assumption | apply State.ingest_frame | apply State.spiDone_frame | apply WithinR.next | intro _
    | exact maskSub hF rfl

theorem execUartRecord_frame {F r0} (hF : F &&& 8921483 = 8921483) : ∀ {s uart data ago fault}, Within F r0 s → WithinR F r0 (execUartRecord uart data ago fault s) := by
  intro s uart data ago fault h
  unfold execUartRecord
  dsimp only
  repeat' first
    | with_reducible first
      | assumption | apply State.ingest_frame | apply State.seeSource_frame | apply State.uartRecord_frame
      | apply WithinR.next | intro _
    | split | exact maskSub hF rfl

theorem execPpsEdge_frame {F r0} (hF : F &&& 8921483 = 8921483) : ∀ {s falling widthUs}, Within F r0 s → WithinR F r0 (execPpsEdge falling widthUs s) := by
  intro s falling widthUs h
  unfold execPpsEdge
  repeat' first
    | with_reducible first
      | assumption | apply State.ppsEdge_frame | apply State.ingest_frame | apply State.ppsRecords_frame
      | (apply Within.fst; assumption) | apply WithinR.next | intro _
    | split | exact maskSub hF rfl

end Sys2Proof.Machine
end

