-- ==== Sys2Proof/Laws/FrameTile.lean ====
section
/-!
SUPPORT. Frames of tiles, the dispatcher of slices, thermal control: one lemma per operation.
-/
namespace Sys2Proof.Machine

/-! ## TileSeq -/

theorem State.setEntry_frame {F r0} (hF : F &&& 17 = 17) : ∀ {s t i}, Within F r0 s → Within F r0 (State.setEntry s t i) := by
  intro s t i h
  unfold State.setEntry
  repeat' first
    | with_reducible first | assumption | apply State.wf_frame | apply State.modTile_frame
    | exact maskSub hF rfl

theorem State.setUndrained_frame {F r0} (hF : F &&& 1 = 1) : ∀ {s t b}, Within F r0 s → Within F r0 (State.setUndrained s t b) := by
  intro s t b h
  unfold State.setUndrained
  repeat' with_reducible first | assumption | apply State.wf_frame

theorem State.gapClose_frame {F r0} (hF : F &&& 17 = 17) : ∀ {s t}, Within F r0 s → Within F r0 (State.gapClose s t) := by
  intro s t h
  unfold State.gapClose
  dsimp only
  repeat' first
    | with_reducible first
      | assumption | apply State.wf_frame | apply State.bump_frame | apply State.modTile_frame
    | split | exact maskSub hF rfl

theorem State.sramWrite_frame {F r0} (hF : F &&& 3 = 3) : ∀ {s t off bs}, Within F r0 s → Within F r0 (State.sramWrite s t off bs) := by
  intro s t off bs h
  unfold State.sramWrite
  repeat' with_reducible first | assumption | apply State.memWrite_frame

theorem State.sramSoft_frame {F r0} (hF : F &&& 1 = 1) : ∀ {s t rd wr}, Within F r0 s → Within F r0 (State.sramSoft s t rd wr) := by
  intro s t rd wr h
  unfold State.sramSoft
  dsimp only
  repeat' first
    | with_reducible first | assumption | apply State.bump_frame
    | split

theorem State.keepLines_frame {F r0} (hF : F &&& 2 = 2) : ∀ {s t lo hi}, Within F r0 s → Within F r0 (State.keepLines s t lo hi) := by
  intro s t lo hi h
  unfold State.keepLines
  repeat' with_reducible first | assumption | apply State.modMem_frame | apply Mem.wf_forget | intro _

theorem State.issue_frame {F r0} (hF : F &&& 17 = 17) : ∀ {s t e g flt}, Within F r0 s → Within F r0 (State.issue s t e g flt) := by
  intro s t e g flt h
  unfold State.issue
  dsimp only
  repeat' first
    | with_reducible first | assumption | apply State.setEntry_frame | apply State.modTile_frame
    | exact maskSub hF rfl

theorem State.runEntry_frame {F r} (hF : F &&& 8913201 = 8913201) : ∀ {s t mine plan}, (∀ e, PlanWithin F (plan e)) → Within F r s →
    Within F r (State.runEntry s t mine plan) := by
  intro s t mine plan hp h
  unfold State.runEntry
  split
  · exact h
  · split
    · exact h
    · split
      · exact State.tileFault_frame (maskSub hF rfl) h
      · rename_i hg
        split
        · exact h
        · split
          · exact State.tileFault_frame (maskSub hF rfl) (State.bump_frame (maskSub hF rfl) h)
          · exact State.issue_frame (maskSub hF rfl) (PlanWithin.eff hg (hp _) (State.sramSoft_frame (maskSub hF rfl) h))

theorem State.countArith_frame {F r0} (hF : F &&& 1 = 1) : ∀ {s a sat nan}, Within F r0 s → Within F r0 (State.countArith s a sat nan) := by
  intro s a sat nan h
  unfold State.countArith
  repeat' with_reducible first | assumption | apply State.bump_frame

theorem State.markDone_frame {F r0} (hF : F &&& 8913153 = 8913153) : ∀ {s t mark idx}, Within F r0 s → Within F r0 (State.markDone s t mark idx) := by
  intro s t mark idx h
  unfold State.markDone
  dsimp only
  repeat' first
    | with_reducible first | assumption | apply State.traceEvent_frame
    | split

theorem State.flipTile_frame {F r0} (hF : F &&& 2 = 2) : ∀ {s t l}, Within F r0 s → Within F r0 (State.flipTile s t l) := by
  intro s t l h
  unfold State.flipTile
  repeat' first
    | with_reducible first
      | assumption | apply State.modMem_frame | apply Within.foldl | apply Mem.wf_flip | intro _

theorem State.entryDone_frame {F r0} (hF : F &&& 8913201 = 8913201) : ∀ {s t idx}, Within F r0 s → Within F r0 (State.entryDone s t idx) := by
  intro s t idx h
  unfold State.entryDone
  dsimp only
  repeat' first
    | with_reducible first
      | assumption | apply State.modTile_frame | apply State.tileFault_frame | apply State.markDone_frame
    | split | exact maskSub hF rfl

theorem execEntryComplete_frame {F r0} (hF : F &&& 8913203 = 8913203) : ∀ {s t fin}, Within F r0 s → WithinR F r0 (execEntryComplete t fin s) := by
  intro s t fin h
  unfold execEntryComplete
  dsimp only
  repeat' first
    | with_reducible first
      | assumption | apply State.flipTile_frame | apply State.entryDone_frame | apply WithinR.next
    | split | exact maskSub hF rfl

theorem execTileFaultClear_frame {F r0} (hF : F &&& 1 = 1) : ∀ {s t}, Within F r0 s → WithinR F r0 (execTileFaultClear t s) := by
  intro s t h
  unfold execTileFaultClear
  repeat' first
    | with_reducible first | assumption | apply State.setTileState_frame | apply WithinR.next
    | split

theorem State.leaveTile_frame {F r0} (hF : F &&& 33 = 33) : ∀ {s t}, Within F r0 s → Within F r0 (State.leaveTile s t) := by
  intro s t h
  unfold State.leaveTile
  repeat' first
    | with_reducible first | assumption | apply State.setTileState_frame | apply State.modKernel_frame
    | exact maskSub hF rfl

theorem State.kernelDone_frame {F r0} (hF : F &&& 8913185 = 8913185) : ∀ {s c n}, Within F r0 s → Within F r0 (State.kernelDone s c n) := by
  intro s c n h
  unfold State.kernelDone
  repeat' first
    | with_reducible first | assumption | apply State.dropKernel_frame | apply State.finish_frame
    | split | exact maskSub hF rfl

theorem execSliceComplete_frame {F r0} (hF : F &&& 8913201 = 8913201) : ∀ {s t}, Within F r0 s → WithinR F r0 (execSliceComplete t s) := by
  intro s t h
  unfold execSliceComplete
  dsimp only
  repeat' first
    | with_reducible first
      | assumption | apply State.traceEvent_frame | apply State.gapClose_frame | apply State.leaveTile_frame
      | apply State.modKernel_frame | apply State.raiseDone_frame | apply State.modTile_frame
      | apply State.kernelDone_frame | apply WithinR.next
    | split | exact maskSub hF rfl

theorem execImageLoadComplete_frame {F r0} (hF : F &&& 8913201 = 8913201) : ∀ {s t}, Within F r0 s → WithinR F r0 (execImageLoadComplete t s) := by
  intro s t h
  unfold execImageLoadComplete
  dsimp only
  repeat' first
    | with_reducible first
      | assumption | apply State.tileFault_frame | apply State.modTile_frame | apply State.moved_frame
      | apply State.setTileState_frame | apply WithinR.next
    | split | exact maskSub hF rfl

theorem execLoop_frame {F r0} (hF : F &&& 8913169 = 8913169) : ∀ {s t}, Within F r0 s → WithinR F r0 (execLoop t s) := by
  intro s t h
  unfold execLoop
  dsimp only
  repeat' first
    | with_reducible first
      | assumption | apply State.markDone_frame | apply State.setEntry_frame | apply State.modTile_frame
      | apply WithinR.next
    | split | exact maskSub hF rfl

theorem State.preempt_frame {F r0} (hF : F &&& 49 = 49) : ∀ {s t off len}, Within F r0 s → Within F r0 (State.preempt s t off len) := by
  intro s t off len h
  unfold State.preempt
  dsimp only
  repeat' first
    | with_reducible first
      | assumption | apply State.modTile_frame | apply State.bump_frame | apply State.setTileState_frame
      | apply State.modHub_frame
    | exact maskSub hF rfl

theorem execLeap_frame {F r0} (hF : F &&& 8913203 = 8913203) : ∀ {s t}, Within F r0 s → WithinR F r0 (execLeap t s) := by
  intro s t h
  unfold execLeap
  dsimp only
  repeat' first
    | with_reducible first
      | assumption | apply State.tileFault_frame | apply State.gapClose_frame | apply State.keepLines_frame
      | apply State.setEntry_frame | apply State.preempt_frame | apply State.markDone_frame | apply WithinR.next
    | split | exact maskSub hF rfl

theorem execLeapOut_frame {F r0} (hF : F &&& 8913331 = 8913331) : ∀ {s t}, Within F r0 s → WithinR F r0 (execLeapOut t s) := by
  intro s t h
  unfold execLeapOut
  dsimp only
  repeat' first
    | with_reducible first
      | assumption | apply State.tileFault_frame | apply State.bump_frame | apply State.engWrite_frame
      | apply State.sramSoft_frame | apply State.traceEvent_frame | apply State.moved_frame
      | apply State.modKernel_frame | apply State.modTile_frame | apply State.leaveTile_frame
      | (apply Within.fst; assumption) | apply WithinR.next
    | split | exact maskSub hF rfl

theorem execLeapIn_frame {F r0} (hF : F &&& 8913203 = 8913203) : ∀ {s t}, Within F r0 s → WithinR F r0 (execLeapIn t s) := by
  intro s t h
  unfold execLeapIn
  dsimp only
  repeat' first
    | with_reducible first
      | assumption | apply State.tileFault_frame | apply State.setEntry_frame | apply State.modTile_frame
      | apply State.wrapAdd_frame | apply State.sramWrite_frame | apply State.modHub_frame
      | apply State.setTileState_frame | apply State.moved_frame | apply State.traceEvent_frame | apply WithinR.next
    | split | exact maskSub hF rfl

/-! ## TileArray -/

theorem State.countDma_frame {F r0} (hF : F &&& 1 = 1) : ∀ {s d sat nan}, Within F r0 s → Within F r0 (State.countDma s d sat nan) := by
  intro s d sat nan h
  unfold State.countDma
  repeat' with_reducible first | assumption | apply State.bump_frame

theorem State.loadData_frame {F r0} (hF : F &&& 3 = 3) : ∀ {s t m sf ovf sr}, Within F r0 s → Within F r0 (State.loadData s t m sf ovf sr) := by
  intro s t m sf ovf sr h
  unfold State.loadData
  dsimp only
  repeat' first
    | with_reducible first
      | assumption | apply State.sramWrite_frame | apply State.countDma_frame | apply Within.foldl | intro _
    | split | exact maskSub hF rfl

theorem State.loadEff_frame {F r0} (hF : F &&& 259 = 259) : ∀ {s t m sf ovf sr}, Within F r0 s → Within F r0 (State.loadEff t m sf ovf sr s).1 := by
  intro s t m sf ovf sr h
  unfold State.loadEff
  repeat' first
    | with_reducible first | assumption | apply State.moved_frame | apply State.loadData_frame
    | split | exact maskSub hF rfl

theorem execLoad_frame {F r0} (hF : F &&& 8913203 = 8913203) : ∀ {s t}, Within F r0 s → WithinR F r0 (execLoad t s) := by
  intro s t h
  unfold execLoad
  dsimp only
  repeat' first
    | with_reducible first
      | assumption | apply State.runEntry_frame | apply State.loadEff_frame | (apply Within.fst; assumption)
      | apply WithinR.next | apply PlanWithin.fault | apply PlanWithin.go | intro _
    | split | exact maskSub hF rfl

theorem State.storeEff_frame {F r0} (hF : F &&& 387 = 387) : ∀ {s t m sf ovf sr}, Within F r0 s → Within F r0 (State.storeEff t m sf ovf sr s).1 := by
  intro s t m sf ovf sr h
  unfold State.storeEff
  dsimp only
  repeat' first
    | with_reducible first
      | assumption | apply State.countDma_frame | apply State.putBytes_frame | apply State.moved_frame
      | apply Within.foldl | apply Within.foldl_fst | intro _
    | split | exact maskSub hF rfl

theorem execStore_frame {F r0} (hF : F &&& 8913331 = 8913331) : ∀ {s t}, Within F r0 s → WithinR F r0 (execStore t s) := by
  intro s t h
  unfold execStore
  dsimp only
  repeat' first
    | with_reducible first
      | assumption | apply State.runEntry_frame | apply State.storeEff_frame | (apply Within.fst; assumption)
      | apply WithinR.next | apply PlanWithin.fault | apply PlanWithin.go | intro _
    | split | exact maskSub hF rfl

theorem State.drain_frame {F r0} (hF : F &&& 19 = 19) : ∀ {s t f m n a}, Within F r0 s → Within F r0 (State.drain s t f m n a) := by
  intro s t f m n a h
  unfold State.drain
  dsimp only
  repeat' first
    | with_reducible first
      | assumption | apply State.sramWrite_frame | apply State.setUndrained_frame | apply State.modTile_frame
      | apply State.countArith_frame | apply Within.foldl | intro _
    | exact maskSub hF rfl

theorem State.arrayEff_frame {F r0} (hF : F &&& 19 = 19) : ∀ {s t f j}, Within F r0 s → Within F r0 (State.arrayEff t f j s).1 := by
  intro s t f j h
  unfold State.arrayEff
  dsimp only
  repeat' first
    | with_reducible first
      | assumption | apply State.drain_frame | apply State.setUndrained_frame | apply State.modTile_frame
    | split | exact maskSub hF rfl

theorem matmulPlan_frame {F} (hF : F &&& 19 = 19) : ∀ {s t e}, PlanWithin F (matmulPlan s t e) := by
  intro s t e
  unfold matmulPlan
  dsimp only
  repeat' first
    | with_reducible first
      | assumption | apply State.arrayEff_frame | (apply Within.fst; assumption) | apply PlanWithin.fault
      | apply PlanWithin.go | intro _
    | split | exact maskSub hF rfl

theorem execMatmul_frame {F r0} (hF : F &&& 8913203 = 8913203) : ∀ {s t}, Within F r0 s → WithinR F r0 (execMatmul t s) := by
  intro s t h
  unfold execMatmul
  repeat' first
    | with_reducible first
      | assumption | apply State.runEntry_frame | apply matmulPlan_frame | apply WithinR.next | intro _
    | exact maskSub hF rfl

theorem State.sigEff_frame {F r0} (hF : F &&& 403 = 403) : ∀ {s t e off addr}, Within F r0 s → Within F r0 (State.sigEff t e off addr s).1 := by
  intro s t e off addr h
  unfold State.sigEff
  dsimp only
  repeat' first
    | with_reducible first
      | assumption | apply State.modTile_frame | apply State.engWrite_frame | apply State.moved_frame
      | (apply Within.fst; assumption)
    | split | exact maskSub hF rfl

theorem execSig_frame {F r0} (hF : F &&& 8913331 = 8913331) : ∀ {s t}, Within F r0 s → WithinR F r0 (execSig t s) := by
  intro s t h
  unfold execSig
  dsimp only
  repeat' first
    | with_reducible first
      | assumption | apply State.runEntry_frame | apply State.sigEff_frame | (apply Within.fst; assumption)
      | apply WithinR.next | apply PlanWithin.fault | apply PlanWithin.go | intro _
    | split | exact maskSub hF rfl

/-! ## Conv -/

theorem conv0Plan_frame {F} (hF : F &&& 19 = 19) : ∀ {s t e f M N}, PlanWithin F (conv0Plan s t e f M N) := by
  intro s t e f M N
  unfold conv0Plan
  dsimp only
  repeat' first
    | with_reducible first
      | assumption | apply State.arrayEff_frame | (apply Within.fst; assumption) | apply PlanWithin.fault
      | apply PlanWithin.go | intro _
    | split | exact maskSub hF rfl

theorem convPlan_frame {F} {k : ConvForm → Nat → Nat → Plan} (hk : ∀ y0 y1 y2, PlanWithin F (k y0 y1 y2)) (hF : F &&& 0 = 0) : ∀ {s t e}, PlanWithin F (convPlan s t e k) := by
  intro s t e
  unfold convPlan
  repeat' first
    | with_reducible first | assumption | apply hk | apply PlanWithin.fault | apply PlanWithin.go | intro _
    | split | exact maskSub hF rfl

theorem execConvConvolution_frame {F r0} (hF : F &&& 8913203 = 8913203) : ∀ {s t}, Within F r0 s → WithinR F r0 (execConvConvolution t s) := by
  intro s t h
  unfold execConvConvolution
  repeat' first
    | with_reducible first
      | assumption | apply State.runEntry_frame | apply convPlan_frame | apply conv0Plan_frame | apply WithinR.next
      | intro _
    | exact maskSub hF rfl

theorem State.convPlane_frame {F r0} (hF : F &&& 3 = 3) : ∀ {s t off drn cs}, Within F r0 s → Within F r0 (State.convPlane s t off drn cs) := by
  intro s t off drn cs h
  unfold State.convPlane
  repeat' first
    | with_reducible first | assumption | apply State.countArith_frame | apply State.sramWrite_frame
    | exact maskSub hF rfl

theorem convVecPlan_frame {F} (hF : F &&& 3 = 3) : ∀ {s t e f ins inOk rdx val}, PlanWithin F (convVecPlan s t e f ins inOk rdx val) := by
  intro s t e f ins inOk rdx val
  unfold convVecPlan
  dsimp only
  repeat' first
    | with_reducible first
      | assumption | apply State.convPlane_frame | apply Within.foldl | apply PlanWithin.fault | apply PlanWithin.go
      | intro _
    | split | exact maskSub hF rfl

theorem poolPlan_frame {F} (hF : F &&& 3 = 3) : ∀ {s t e g}, PlanWithin F (poolPlan s t e g) := by
  intro s t e g
  unfold poolPlan
  dsimp only
  repeat' first
    | with_reducible first
      | assumption | apply convPlan_frame | apply convVecPlan_frame | apply PlanWithin.fault | apply PlanWithin.go
      | intro _
    | exact maskSub hF rfl

theorem execConvMaxPool_frame {F r0} (hF : F &&& 8913203 = 8913203) : ∀ {s t}, Within F r0 s → WithinR F r0 (execConvMaxPool t s) := by
  intro s t h
  unfold execConvMaxPool
  repeat' first
    | with_reducible first
      | assumption | apply State.runEntry_frame | apply poolPlan_frame | apply WithinR.next | intro _
    | exact maskSub hF rfl

theorem execConvAvgPool_frame {F r0} (hF : F &&& 8913203 = 8913203) : ∀ {s t}, Within F r0 s → WithinR F r0 (execConvAvgPool t s) := by
  intro s t h
  unfold execConvAvgPool
  repeat' first
    | with_reducible first
      | assumption | apply State.runEntry_frame | apply poolPlan_frame | apply WithinR.next | intro _
    | exact maskSub hF rfl

theorem execConvMinPool_frame {F r0} (hF : F &&& 8913203 = 8913203) : ∀ {s t}, Within F r0 s → WithinR F r0 (execConvMinPool t s) := by
  intro s t h
  unfold execConvMinPool
  repeat' first
    | with_reducible first
      | assumption | apply State.runEntry_frame | apply poolPlan_frame | apply WithinR.next | intro _
    | exact maskSub hF rfl

theorem execConvGridSample_frame {F r0} (hF : F &&& 8913203 = 8913203) : ∀ {s t}, Within F r0 s → WithinR F r0 (execConvGridSample t s) := by
  intro s t h
  unfold execConvGridSample
  dsimp only
  repeat' first
    | with_reducible first
      | assumption | apply State.runEntry_frame | apply convPlan_frame | apply convVecPlan_frame | apply WithinR.next
      | intro _
    | exact maskSub hF rfl

/-! ## Vect -/

theorem State.vOut_frame {F r0} (hF : F &&& 3 = 3) : ∀ {s t off df ovf vs}, Within F r0 s → Within F r0 (State.vOut s t off df ovf vs) := by
  intro s t off df ovf vs h
  unfold State.vOut
  dsimp only
  repeat' first
    | with_reducible first | assumption | apply State.countArith_frame | apply State.sramWrite_frame
    | exact maskSub hF rfl

theorem vectPlan_frame {F} {eff : VForm → State → State} (heff : ∀ r y0 y1, Within F r y1 → Within F r (eff y0 y1)) (hF : F &&& 0 = 0) : ∀ {s t e v extra}, PlanWithin F (vectPlan s t e v extra eff) := by
  intro s t e v extra
  unfold vectPlan
  repeat' first
    | with_reducible first | assumption | apply heff | apply PlanWithin.fault | apply PlanWithin.go | intro _
    | split | exact maskSub hF rfl

theorem elemwise_frame {F} (hF : F &&& 3 = 3) : ∀ {s t e v extra g}, PlanWithin F (elemwise s t e v extra g) := by
  intro s t e v extra g
  unfold elemwise
  dsimp only
  repeat' first
    | with_reducible first
      | assumption | apply vectPlan_frame | apply State.vOut_frame | apply PlanWithin.fault | apply PlanWithin.go
      | intro _
    | exact maskSub hF rfl

theorem execVectCopy_frame {F r0} (hF : F &&& 8913203 = 8913203) : ∀ {s t}, Within F r0 s → WithinR F r0 (execVectCopy t s) := by
  intro s t h
  unfold execVectCopy
  repeat' first
    | with_reducible first
      | assumption | apply State.runEntry_frame | apply elemwise_frame | apply WithinR.next | apply PlanWithin.fault
      | apply PlanWithin.go | intro _
    | split | exact maskSub hF rfl

theorem execVectAdd_frame {F r0} (hF : F &&& 8913203 = 8913203) : ∀ {s t}, Within F r0 s → WithinR F r0 (execVectAdd t s) := by
  intro s t h
  unfold execVectAdd
  repeat' first
    | with_reducible first
      | assumption | apply State.runEntry_frame | apply elemwise_frame | apply WithinR.next | intro _
    | exact maskSub hF rfl

theorem execVectSub_frame {F r0} (hF : F &&& 8913203 = 8913203) : ∀ {s t}, Within F r0 s → WithinR F r0 (execVectSub t s) := by
  intro s t h
  unfold execVectSub
  repeat' first
    | with_reducible first
      | assumption | apply State.runEntry_frame | apply elemwise_frame | apply WithinR.next | intro _
    | exact maskSub hF rfl

theorem execVectMul_frame {F r0} (hF : F &&& 8913203 = 8913203) : ∀ {s t}, Within F r0 s → WithinR F r0 (execVectMul t s) := by
  intro s t h
  unfold execVectMul
  repeat' first
    | with_reducible first
      | assumption | apply State.runEntry_frame | apply elemwise_frame | apply WithinR.next | intro _
    | exact maskSub hF rfl

theorem execVectFma_frame {F r0} (hF : F &&& 8913203 = 8913203) : ∀ {s t}, Within F r0 s → WithinR F r0 (execVectFma t s) := by
  intro s t h
  unfold execVectFma
  repeat' first
    | with_reducible first
      | assumption | apply State.runEntry_frame | apply elemwise_frame | apply WithinR.next | intro _
    | exact maskSub hF rfl

theorem execVectMax_frame {F r0} (hF : F &&& 8913203 = 8913203) : ∀ {s t}, Within F r0 s → WithinR F r0 (execVectMax t s) := by
  intro s t h
  unfold execVectMax
  repeat' first
    | with_reducible first
      | assumption | apply State.runEntry_frame | apply elemwise_frame | apply WithinR.next | intro _
    | exact maskSub hF rfl

theorem execVectMin_frame {F r0} (hF : F &&& 8913203 = 8913203) : ∀ {s t}, Within F r0 s → WithinR F r0 (execVectMin t s) := by
  intro s t h
  unfold execVectMin
  repeat' first
    | with_reducible first
      | assumption | apply State.runEntry_frame | apply elemwise_frame | apply WithinR.next | intro _
    | exact maskSub hF rfl

theorem execVectAbs_frame {F r0} (hF : F &&& 8913203 = 8913203) : ∀ {s t}, Within F r0 s → WithinR F r0 (execVectAbs t s) := by
  intro s t h
  unfold execVectAbs
  repeat' first
    | with_reducible first
      | assumption | apply State.runEntry_frame | apply elemwise_frame | apply WithinR.next | intro _
    | exact maskSub hF rfl

theorem execVectCmp_frame {F r0} (hF : F &&& 8913203 = 8913203) : ∀ {s t}, Within F r0 s → WithinR F r0 (execVectCmp t s) := by
  intro s t h
  unfold execVectCmp
  repeat' first
    | with_reducible first
      | assumption | apply State.runEntry_frame | apply elemwise_frame | apply WithinR.next | intro _
    | split | exact maskSub hF rfl

theorem execVectSelect_frame {F r0} (hF : F &&& 8913203 = 8913203) : ∀ {s t}, Within F r0 s → WithinR F r0 (execVectSelect t s) := by
  intro s t h
  unfold execVectSelect
  repeat' first
    | with_reducible first
      | assumption | apply State.runEntry_frame | apply elemwise_frame | apply WithinR.next | intro _
    | split | exact maskSub hF rfl

theorem execVectExp_frame {F r0} (hF : F &&& 8913203 = 8913203) : ∀ {s t}, Within F r0 s → WithinR F r0 (execVectExp t s) := by
  intro s t h
  unfold execVectExp
  repeat' first
    | with_reducible first
      | assumption | apply State.runEntry_frame | apply elemwise_frame | apply WithinR.next | intro _
    | exact maskSub hF rfl

theorem execVectRcp_frame {F r0} (hF : F &&& 8913203 = 8913203) : ∀ {s t}, Within F r0 s → WithinR F r0 (execVectRcp t s) := by
  intro s t h
  unfold execVectRcp
  repeat' first
    | with_reducible first
      | assumption | apply State.runEntry_frame | apply elemwise_frame | apply WithinR.next | intro _
    | exact maskSub hF rfl

theorem execVectRsqrt_frame {F r0} (hF : F &&& 8913203 = 8913203) : ∀ {s t}, Within F r0 s → WithinR F r0 (execVectRsqrt t s) := by
  intro s t h
  unfold execVectRsqrt
  repeat' first
    | with_reducible first
      | assumption | apply State.runEntry_frame | apply elemwise_frame | apply WithinR.next | intro _
    | exact maskSub hF rfl

theorem State.convertEff_frame {F r0} (hF : F &&& 3 = 3) : ∀ {s t f}, Within F r0 s → Within F r0 (State.convertEff t f s) := by
  intro s t f h
  unfold State.convertEff
  dsimp only
  repeat' first
    | with_reducible first
      | assumption | apply State.sramWrite_frame | apply State.countArith_frame | apply State.vOut_frame
    | split | exact maskSub hF rfl

theorem execVectConvert_frame {F r0} (hF : F &&& 8913203 = 8913203) : ∀ {s t}, Within F r0 s → WithinR F r0 (execVectConvert t s) := by
  intro s t h
  unfold execVectConvert
  repeat' first
    | with_reducible first
      | assumption | apply State.runEntry_frame | apply vectPlan_frame | apply State.convertEff_frame
      | apply WithinR.next | intro _
    | exact maskSub hF rfl

theorem execVectAct_frame {F r0} (hF : F &&& 8913203 = 8913203) : ∀ {s t}, Within F r0 s → WithinR F r0 (execVectAct t s) := by
  intro s t h
  unfold execVectAct
  repeat' first
    | with_reducible first
      | assumption | apply State.runEntry_frame | apply elemwise_frame | apply WithinR.next | intro _
    | split | exact maskSub hF rfl

theorem reducePlan_frame {F} (hF : F &&& 3 = 3) : ∀ {s t e r}, PlanWithin F (reducePlan s t e r) := by
  intro s t e r
  unfold reducePlan
  dsimp only
  repeat' first
    | with_reducible first
      | assumption | apply vectPlan_frame | apply State.vOut_frame | apply PlanWithin.fault | apply PlanWithin.go
      | intro _
    | exact maskSub hF rfl

theorem execVectRsum_frame {F r0} (hF : F &&& 8913203 = 8913203) : ∀ {s t}, Within F r0 s → WithinR F r0 (execVectRsum t s) := by
  intro s t h
  unfold execVectRsum
  repeat' first
    | with_reducible first
      | assumption | apply State.runEntry_frame | apply reducePlan_frame | apply Within.foldl | apply WithinR.next
      | intro _
    | split | exact maskSub hF rfl

theorem execVectRmax_frame {F r0} (hF : F &&& 8913203 = 8913203) : ∀ {s t}, Within F r0 s → WithinR F r0 (execVectRmax t s) := by
  intro s t h
  unfold execVectRmax
  repeat' first
    | with_reducible first
      | assumption | apply State.runEntry_frame | apply reducePlan_frame | apply WithinR.next | intro _
    | exact maskSub hF rfl

theorem execVectRmin_frame {F r0} (hF : F &&& 8913203 = 8913203) : ∀ {s t}, Within F r0 s → WithinR F r0 (execVectRmin t s) := by
  intro s t h
  unfold execVectRmin
  repeat' first
    | with_reducible first
      | assumption | apply State.runEntry_frame | apply reducePlan_frame | apply WithinR.next | intro _
    | exact maskSub hF rfl

theorem execVectSmxStep_frame {F r0} (hF : F &&& 8913203 = 8913203) : ∀ {s t}, Within F r0 s → WithinR F r0 (execVectSmxStep t s) := by
  intro s t h
  unfold execVectSmxStep
  dsimp only
  repeat' first
    | with_reducible first
      | assumption | apply State.runEntry_frame | apply vectPlan_frame | apply State.sramWrite_frame
      | apply WithinR.next | intro _
    | exact maskSub hF rfl

theorem execVectMeanvar_frame {F r0} (hF : F &&& 8913203 = 8913203) : ∀ {s t}, Within F r0 s → WithinR F r0 (execVectMeanvar t s) := by
  intro s t h
  unfold execVectMeanvar
  dsimp only
  repeat' first
    | with_reducible first
      | assumption | apply State.runEntry_frame | apply vectPlan_frame | apply State.sramWrite_frame
      | apply WithinR.next | intro _
    | exact maskSub hF rfl

theorem execVectNorm_frame {F r0} (hF : F &&& 8913203 = 8913203) : ∀ {s t}, Within F r0 s → WithinR F r0 (execVectNorm t s) := by
  intro s t h
  unfold execVectNorm
  dsimp only
  repeat' first
    | with_reducible first
      | assumption | apply State.runEntry_frame | apply vectPlan_frame | apply State.vOut_frame | apply WithinR.next
      | intro _
    | exact maskSub hF rfl

/-! ## Post -/

theorem postPlan_frame {F} {eff : PForm → State → State × Option (Nat × Nat)} (heff : ∀ r y0 y1, Within F r y1 → Within F r (eff y0 y1).1) (hF : F &&& 0 = 0) : ∀ {s t e unsup rd wr rdx wrx}, PlanWithin F (postPlan s t e unsup rd wr rdx wrx eff) := by
  intro s t e unsup rd wr rdx wrx
  unfold postPlan
  repeat' first
    | with_reducible first | assumption | apply heff | apply PlanWithin.fault | apply PlanWithin.go | intro _
    | split | exact maskSub hF rfl

theorem State.postPlane_frame {F r0} (hF : F &&& 3 = 3) : ∀ {s t f c cs}, Within F r0 s → Within F r0 (State.postPlane s t f c cs) := by
  intro s t f c cs h
  unfold State.postPlane
  repeat' first
    | with_reducible first | assumption | apply State.countArith_frame | apply State.sramWrite_frame
    | exact maskSub hF rfl

theorem State.postScaled_frame {F r0} (hF : F &&& 3 = 3) : ∀ {s t f}, Within F r0 s → Within F r0 (State.postScaled s t f) := by
  intro s t f h
  unfold State.postScaled
  dsimp only
  repeat' first
    | with_reducible first
      | assumption | apply State.sramWrite_frame | apply State.countArith_frame | apply Within.foldl | intro _
    | exact maskSub hF rfl

theorem State.postFloatEff_frame {F r0} (hF : F &&& 3 = 3) : ∀ {s t f}, Within F r0 s → Within F r0 (State.postFloatEff t f s).1 := by
  intro s t f h
  unfold State.postFloatEff
  repeat' first
    | with_reducible first
      | assumption | apply State.postScaled_frame | apply State.postPlane_frame | apply Within.foldl
      | apply Within.foldl_fst | intro _
    | split

theorem execPostFloat_frame {F r0} (hF : F &&& 8913203 = 8913203) : ∀ {s t}, Within F r0 s → WithinR F r0 (execPostFloat t s) := by
  intro s t h
  unfold execPostFloat
  repeat' first
    | with_reducible first
      | assumption | apply State.runEntry_frame | apply postPlan_frame | apply State.postFloatEff_frame
      | (apply Within.fst; assumption) | apply WithinR.next | intro _
    | split | exact maskSub hF rfl

theorem State.postIntEff_frame {F r0} (hF : F &&& 3 = 3) : ∀ {s t f}, Within F r0 s → Within F r0 (State.postIntEff t f s).1 := by
  intro s t f h
  unfold State.postIntEff
  repeat' first
    | with_reducible first
      | assumption | apply State.postPlane_frame | apply Within.foldl | apply Within.foldl_fst | intro _
    | split

theorem execPostInt_frame {F r0} (hF : F &&& 8913203 = 8913203) : ∀ {s t}, Within F r0 s → WithinR F r0 (execPostInt t s) := by
  intro s t h
  unfold execPostInt
  repeat' first
    | with_reducible first
      | assumption | apply State.runEntry_frame | apply postPlan_frame | apply State.postIntEff_frame
      | (apply Within.fst; assumption) | apply WithinR.next | intro _
    | exact maskSub hF rfl

theorem execPostArgmax_frame {F r0} (hF : F &&& 8913203 = 8913203) : ∀ {s t}, Within F r0 s → WithinR F r0 (execPostArgmax t s) := by
  intro s t h
  unfold execPostArgmax
  dsimp only
  repeat' first
    | with_reducible first
      | assumption | apply State.runEntry_frame | apply postPlan_frame | apply State.sramWrite_frame
      | apply WithinR.next | intro _
    | exact maskSub hF rfl

/-! ## Sched -/

theorem State.setBaskCount_frame {F r0} (hF : F &&& 1 = 1) : ∀ {s}, Within F r0 s → Within F r0 (State.setBaskCount s) := by
  intro s h
  unfold State.setBaskCount
  repeat' with_reducible first | assumption | apply State.wf_frame

theorem State.stopBask_frame {F r0} (hF : F &&& 3 = 3) : ∀ {s t}, Within F r0 s → Within F r0 (State.stopBask s t) := by
  intro s t h
  unfold State.stopBask
  repeat' first
    | with_reducible first
      | assumption | apply State.setBaskCount_frame | apply State.setTileState_frame | apply State.keepLines_frame
    | split | exact maskSub hF rfl

theorem State.withdraw_frame {F r0} (hF : F &&& 16 = 16) : ∀ {s t c n}, Within F r0 s → Within F r0 (State.withdraw s t c n) := by
  intro s t c n h
  unfold State.withdraw
  repeat' first
    | with_reducible first | assumption | apply State.modTile_frame
    | split

theorem State.unbask_frame {F r0} (hF : F &&& 4096 = 4096) : ∀ {s d}, Within F r0 s → Within F r0 (State.unbask s d) := by
  intro s d h
  unfold State.unbask
  repeat' with_reducible first | assumption | apply State.modTh_frame

theorem State.place_frame {F r0} (hF : F &&& 8917299 = 8917299) : ∀ {s d k t}, Within F r0 s → Within F r0 (State.place s d k t) := by
  intro s d k t h
  unfold State.place
  dsimp only
  repeat' first
    | with_reducible first
      | assumption | apply State.ungate_frame | apply State.stopBask_frame | apply State.unbask_frame
      | apply State.modKernel_frame | apply State.withdraw_frame | apply State.modDie_frame
      | apply State.keepLines_frame | apply State.modTile_frame | apply State.setUndrained_frame | apply State.wf_frame
      | apply State.setTileState_frame | apply State.setEntry_frame | apply State.traceEvent_frame
      | apply State.noteUsed_frame | apply State.waitEnd_frame | apply State.tileFault_frame
    | split | exact maskSub hF rfl

theorem State.setUnitState_frame {F r0} (hF : F &&& 1 = 1) : ∀ {s e v}, Within F r0 s → Within F r0 (State.setUnitState s e v) := by
  intro s e v h
  unfold State.setUnitState
  repeat' first
    | with_reducible first | assumption | apply State.setTileState_frame | apply State.wf_frame
    | split

theorem State.startTest_frame {F r0} (hF : F &&& 526339 = 526339) : ∀ {s e}, Within F r0 s → Within F r0 (State.startTest s e) := by
  intro s e h
  unfold State.startTest
  dsimp only
  repeat' first
    | with_reducible first
      | assumption | apply State.ungate_frame | apply State.modTest_frame | apply State.keepLines_frame
      | apply State.setUnitState_frame
    | split | exact maskSub hF rfl

theorem execPreemptRequest_frame {F r0} (hF : F &&& 16 = 16) : ∀ {s die}, Within F r0 s → WithinR F r0 (execPreemptRequest die s) := by
  intro s die h
  unfold execPreemptRequest
  repeat' first
    | with_reducible first | assumption | apply State.modTile_frame | apply WithinR.next
    | split

theorem execLateLeapTimeout_frame {F r0} (hF : F &&& 17 = 17) : ∀ {s tile}, Within F r0 s → WithinR F r0 (execLateLeapTimeout tile s) := by
  intro s tile h
  unfold execLateLeapTimeout
  repeat' first
    | with_reducible first | assumption | apply State.bump_frame | apply State.modTile_frame | apply WithinR.next
    | split | exact maskSub hF rfl

theorem State.modDma_frame {F r0} (hF : F &&& 32 = 32) : ∀ {s e f}, Within F r0 s → Within F r0 (State.modDma s e f) := by
  intro s e f h
  unfold State.modDma
  repeat' with_reducible first | assumption | apply State.modHub_frame

theorem execCompletionRetire_frame {F r0} (hF : F &&& 32 = 32) : ∀ {s die}, Within F r0 s → WithinR F r0 (execCompletionRetire die s) := by
  intro s die h
  unfold execCompletionRetire
  dsimp only
  repeat' first
    | with_reducible first
      | assumption | apply State.catchUp_frame | apply State.merge_frame | apply State.modDie_frame | apply WithinR.next
    | split

/-! ## Thermal -/

theorem execDieSensorSample_frame {F r0} (hF : F &&& 4096 = 4096) : ∀ {s sensor val}, Within F r0 s → WithinR F r0 (execDieSensorSample sensor val s) := by
  intro s sensor val h
  unfold execDieSensorSample
  repeat' first
    | with_reducible first | assumption | apply State.modTh_frame | apply WithinR.next
    | split

theorem State.sensorTick_frame {F r0} (hF : F &&& 4097 = 4097) : ∀ {s i}, Within F r0 s → Within F r0 (State.sensorTick s i) := by
  intro s i h
  unfold State.sensorTick
  dsimp only
  repeat' first
    | with_reducible first | assumption | apply State.modTh_frame | apply State.wf_frame | apply State.bump_frame
    | split | exact maskSub hF rfl

theorem State.pairTick_frame {F r0} (hF : F &&& 1 = 1) : ∀ {s p}, Within F r0 s → Within F r0 (State.pairTick s p) := by
  intro s p h
  unfold State.pairTick
  dsimp only
  repeat' first
    | with_reducible first
      | assumption | apply State.wf_frame | apply State.bump_frame | apply State.setFlag_frame
      | apply State.clrFlag_frame
    | split

theorem State.coolFail_frame {F r0} (hF : F &&& 1 = 1) : ∀ {s f}, Within F r0 s → Within F r0 (State.coolFail s f) := by
  intro s f h
  unfold State.coolFail
  repeat' first
    | with_reducible first | assumption | apply State.bump_frame | apply State.wf_frame
    | split

theorem execCoolantSample_frame {F r0} (hF : F &&& 4097 = 4097) : ∀ {s input val}, Within F r0 s → WithinR F r0 (execCoolantSample input val s) := by
  intro s input val h
  unfold execCoolantSample
  dsimp only
  repeat' first
    | with_reducible first
      | assumption | apply State.modTh_frame | apply State.wf_frame | apply State.coolFail_frame | apply WithinR.next
    | split | exact maskSub hF rfl

theorem State.flowUpdate_frame {F r0} (hF : F &&& 1 = 1) : ∀ {s}, Within F r0 s → Within F r0 (State.flowUpdate s) := by
  intro s h
  unfold State.flowUpdate
  repeat' first
    | with_reducible first | assumption | apply State.coolFail_frame | apply State.wf_frame
    | split

theorem execFlowPulse_frame {F r0} (hF : F &&& 4097 = 4097) : ∀ {s widthUs}, Within F r0 s → WithinR F r0 (execFlowPulse widthUs s) := by
  intro s widthUs h
  unfold execFlowPulse
  dsimp only
  repeat' first
    | with_reducible first
      | assumption | apply State.flowUpdate_frame | apply State.modTh_frame | apply WithinR.next
    | split | exact maskSub hF rfl

theorem execCoolantInputTimeout_frame {F r0} (hF : F &&& 1 = 1) : ∀ {s input}, Within F r0 s → WithinR F r0 (execCoolantInputTimeout input s) := by
  intro s input h
  unfold execCoolantInputTimeout
  repeat' first
    | with_reducible first | assumption | apply State.coolFail_frame | apply WithinR.next
    | split

theorem State.coolStatus_frame {F r0} (hF : F &&& 1 = 1) : ∀ {s}, Within F r0 s → Within F r0 (State.coolStatus s) := by
  intro s h
  unfold State.coolStatus
  dsimp only
  repeat' first
    | with_reducible first | assumption | apply State.wf_frame
    | split

theorem State.rEstTick_frame {F r0} (hF : F &&& 4097 = 4097) : ∀ {s power}, Within F r0 s → Within F r0 (State.rEstTick s power) := by
  intro s power h
  unfold State.rEstTick
  dsimp only
  repeat' first
    | with_reducible first | assumption | apply State.wf_frame | apply State.modTh_frame
    | split | exact maskSub hF rfl

theorem State.setLimits_frame {F r0} (hF : F &&& 524289 = 524289) : ∀ {s}, Within F r0 s → Within F r0 (State.setLimits s) := by
  intro s h
  unfold State.setLimits
  dsimp only
  repeat' first
    | with_reducible first | assumption | apply State.slowerAsked_frame | apply State.wf_frame
    | split | exact maskSub hF rfl

theorem State.setLevel_frame {F r0} (hF : F &&& 524289 = 524289) : ∀ {s l}, Within F r0 s → Within F r0 (State.setLevel s l) := by
  intro s l h
  unfold State.setLevel
  repeat' first
    | with_reducible first | assumption | apply State.setLimits_frame | apply State.wf_frame
    | exact maskSub hF rfl

theorem State.baskOff_frame {F r0} (hF : F &&& 4099 = 4099) : ∀ {s}, Within F r0 s → Within F r0 (State.baskOff s) := by
  intro s h
  unfold State.baskOff
  repeat' first
    | with_reducible first
      | assumption | apply State.modTh_frame | apply State.stopBask_frame | apply Within.foldl | intro _
    | exact maskSub hF rfl

theorem State.levelTick_frame {F r0} (hF : F &&& 528387 = 528387) : ∀ {s}, Within F r0 s → Within F r0 (State.levelTick s) := by
  intro s h
  unfold State.levelTick
  dsimp only
  repeat' first
    | with_reducible first
      | assumption | apply State.modTh_frame | apply State.setLevel_frame | apply State.baskOff_frame
      | apply State.raiseIrq_frame | apply State.bump_frame
    | split | exact maskSub hF rfl

theorem execThrottleLevelFall_frame {F r0} (hF : F &&& 528385 = 528385) : ∀ {s}, Within F r0 s → WithinR F r0 (execThrottleLevelFall s) := by
  intro s h
  unfold execThrottleLevelFall
  repeat' first
    | with_reducible first
      | assumption | apply State.setLevel_frame | apply State.modTh_frame | apply WithinR.next
    | split | exact maskSub hF rfl

theorem State.clampOn_frame {F r0} (hF : F &&& 528643 = 528643) : ∀ {s cause}, Within F r0 s → Within F r0 (State.clampOn s cause) := by
  intro s cause h
  unfold State.clampOn
  dsimp only
  repeat' first
    | with_reducible first
      | assumption | apply State.setFlag_frame | apply State.fireTrigger_frame | apply State.baskOff_frame
      | apply State.setLimits_frame | apply State.raiseIrq_frame | apply State.bump_frame | apply State.modTh_frame
    | split | exact maskSub hF rfl

theorem execClampPulse_frame {F r0} (hF : F &&& 4722947 = 4722947) : ∀ {s}, Within F r0 s → WithinR F r0 (execClampPulse s) := by
  intro s h
  unfold execClampPulse
  repeat' first
    | with_reducible first
      | assumption | apply State.entryCheck_frame | apply State.clampOn_frame | apply WithinR.next
    | split | exact maskSub hF rfl

theorem State.clampFreed_frame {F r0} (hF : F &&& 4096 = 4096) : ∀ {s}, Within F r0 s → Within F r0 (State.clampFreed s) := by
  intro s h
  unfold State.clampFreed
  repeat' first
    | with_reducible first | assumption | apply State.modTh_frame
    | split

theorem State.clampTick_frame {F r0} (hF : F &&& 4096 = 4096) : ∀ {s}, Within F r0 s → Within F r0 (State.clampTick s) := by
  intro s h
  unfold State.clampTick
  dsimp only
  repeat' first
    | with_reducible first | assumption | apply State.clampFreed_frame | apply State.modTh_frame
    | split

theorem State.clampClr_frame {F r0} (hF : F &&& 4096 = 4096) : ∀ {s}, Within F r0 s → Within F r0 (State.clampClr s) := by
  intro s h
  unfold State.clampClr
  repeat' first
    | with_reducible first | assumption | apply State.clampFreed_frame | apply State.modTh_frame
    | split

theorem execClampClr_frame {F r0} (hF : F &&& 4101 = 4101) : ∀ {s port}, Within F r0 s → WithinR F r0 (execClampClr port s) := by
  intro s port h
  unfold execClampClr
  repeat' first
    | with_reducible first
      | assumption | apply State.access_frame | apply State.clampClr_frame | apply WithinR.next | intro _
    | exact maskSub hF rfl

theorem execClampRelease_frame {F r0} (hF : F &&& 528385 = 528385) : ∀ {s}, Within F r0 s → WithinR F r0 (execClampRelease s) := by
  intro s h
  unfold execClampRelease
  dsimp only
  repeat' first
    | with_reducible first
      | assumption | apply State.clrFlag_frame | apply State.setLevel_frame | apply State.modTh_frame
      | apply State.raiseIrq_frame | apply State.bump_frame | apply WithinR.next
    | split | exact maskSub hF rfl

theorem State.haltRequests_frame {F r0} (hF : F &&& 16 = 16) : ∀ {s}, Within F r0 s → Within F r0 (State.haltRequests s) := by
  intro s h
  unfold State.haltRequests
  repeat' first
    | with_reducible first | assumption | apply State.modTiles_frame
    | split

theorem State.haltOn_frame {F r0} (hF : F &&& 528659 = 528659) : ∀ {s}, Within F r0 s → Within F r0 (State.haltOn s) := by
  intro s h
  unfold State.haltOn
  dsimp only
  repeat' first
    | with_reducible first
      | assumption | apply State.haltRequests_frame | apply State.fireTrigger_frame | apply State.baskOff_frame
      | apply State.setLimits_frame | apply State.setFlag_frame | apply State.bump_frame | apply State.modTh_frame
    | split | exact maskSub hF rfl

theorem State.haltTick_frame {F r0} (hF : F &&& 528659 = 528659) : ∀ {s}, Within F r0 s → Within F r0 (State.haltTick s) := by
  intro s h
  unfold State.haltTick
  dsimp only
  repeat' first
    | with_reducible first | assumption | apply State.haltOn_frame | apply State.modTh_frame
    | split | exact maskSub hF rfl

theorem execHaltEnd_frame {F r0} (hF : F &&& 524305 = 524305) : ∀ {s}, Within F r0 s → WithinR F r0 (execHaltEnd s) := by
  intro s h
  unfold execHaltEnd
  dsimp only
  repeat' first
    | with_reducible first
      | assumption | apply State.setLimits_frame | apply State.clrFlag_frame | apply State.modTiles_frame
      | apply WithinR.next
    | split | exact maskSub hF rfl

theorem State.baskCount_frame {F r0} (hF : F &&& 4096 = 4096) : ∀ {s}, Within F r0 s → Within F r0 (State.baskCount s) := by
  intro s h
  unfold State.baskCount
  repeat' with_reducible first | assumption | apply State.modTh_frame

theorem State.baskDie_frame {F r0} (hF : F &&& 4099 = 4099) : ∀ {s d}, Within F r0 s → Within F r0 (State.baskDie s d) := by
  intro s d h
  unfold State.baskDie
  dsimp only
  repeat' first
    | with_reducible first
      | assumption | apply State.modTh_frame | apply State.stopBask_frame | apply Within.foldl | intro _
    | split | exact maskSub hF rfl

theorem State.baskTick_frame {F r0} (hF : F &&& 4099 = 4099) : ∀ {s}, Within F r0 s → Within F r0 (State.baskTick s) := by
  intro s h
  unfold State.baskTick
  dsimp only
  repeat' first
    | with_reducible first
      | assumption | apply State.modTh_frame | apply State.baskDie_frame | apply State.baskCount_frame
      | apply State.baskOff_frame | apply Within.foldl | intro _
    | split | exact maskSub hF rfl

theorem execThermalTick_frame {F r0} (hF : F &&& 8322879 = 8322879) : ∀ {s power compute}, Within F r0 s → WithinR F r0 (execThermalTick power compute s) := by
  intro s power compute h
  unfold execThermalTick
  dsimp only
  repeat' first
    | with_reducible first
      | assumption | apply State.pairTick_frame | apply State.sensorTick_frame | apply State.coolStatus_frame
      | apply State.flowUpdate_frame | apply State.wf_frame | apply State.rEstTick_frame | apply State.modTh_frame
      | apply State.clampTick_frame | apply State.clampOn_frame | apply State.baskTick_frame
      | apply State.haltTick_frame | apply State.levelTick_frame | apply State.mainRailsOff_frame
      | apply State.setFlag_frame | apply State.entryCheck_frame | apply Within.foldl | apply WithinR.next | intro _
    | split | exact maskSub hF rfl

theorem State.thermalExit_frame {F r0} (hF : F &&& 4097 = 4097) : ∀ {s}, Within F r0 s → Within F r0 (State.thermalExit s) := by
  intro s h
  unfold State.thermalExit
  dsimp only
  repeat' first
    | with_reducible first | assumption | apply State.wf_frame | apply State.modTh_frame
    | exact maskSub hF rfl

theorem State.halfCycle_frame {F r0} (hF : F &&& 1 = 1) : ∀ {s v}, Within F r0 s → Within F r0 (State.halfCycle s v) := by
  intro s v h
  unfold State.halfCycle
  repeat' first
    | with_reducible first | assumption | apply State.wf_frame | apply State.bump_frame
    | split

theorem State.reversal_frame {F r0} (hF : F &&& 1 = 1) : ∀ {s v}, Within F r0 s → Within F r0 (State.reversal s v) := by
  intro s v h
  unfold State.reversal
  repeat' with_reducible first | assumption | apply State.wf_frame | apply State.halfCycle_frame

theorem State.wearStep_frame {F r0} (hF : F &&& 4097 = 4097) : ∀ {s v}, Within F r0 s → Within F r0 (State.wearStep s v) := by
  intro s v h
  unfold State.wearStep
  dsimp only
  repeat' first
    | with_reducible first
      | assumption | apply State.modTh_frame | apply State.halfCycle_frame | apply State.reversal_frame
    | split | exact maskSub hF rfl

theorem execWearSample_frame {F r0} (hF : F &&& 4097 = 4097) : ∀ {s}, Within F r0 s → WithinR F r0 (execWearSample s) := by
  intro s h
  unfold execWearSample
  dsimp only
  repeat' first
    | with_reducible first
      | assumption | apply State.wrapAdd_frame | apply State.wearStep_frame | apply WithinR.next
    | split | exact maskSub hF rfl

theorem State.wearClose_frame {F r0} (hF : F &&& 4097 = 4097) : ∀ {s}, Within F r0 s → Within F r0 (State.wearClose s) := by
  intro s h
  unfold State.wearClose
  repeat' first
    | with_reducible first | assumption | apply State.modTh_frame | apply State.halfCycle_frame
    | split | exact maskSub hF rfl

theorem State.wearLock_frame {F r0} (hF : F &&& 1 = 1) : ∀ {s}, Within F r0 s → Within F r0 (State.wearLock s) := by
  intro s h
  unfold State.wearLock
  repeat' with_reducible first | assumption | apply State.setFlag_frame

theorem execWearLock_frame {F r0} (hF : F &&& 5 = 5) : ∀ {s port}, Within F r0 s → WithinR F r0 (execWearLock port s) := by
  intro s port h
  unfold execWearLock
  repeat' first
    | with_reducible first
      | assumption | apply State.access_frame | apply State.wearLock_frame | apply WithinR.next | intro _
    | exact maskSub hF rfl

theorem State.thRej_frame {F r0} (hF : F &&& 1 = 1) : ∀ {s}, Within F r0 s → Within F r0 (State.thRej s) := by
  intro s h
  unfold State.thRej
  repeat' with_reducible first | assumption | apply State.setFlag_frame

theorem State.thCfgWrite_frame {F r0} (hF : F &&& 1 = 1) : ∀ {s w}, Within F r0 s → Within F r0 (State.thCfgWrite s w) := by
  intro s w h
  unfold State.thCfgWrite
  dsimp only
  repeat' first
    | with_reducible first
      | assumption | apply State.wf_frame | apply State.thRej_frame | apply State.wearLock_frame
    | split

theorem State.thFlowWrite_frame {F r0} (hF : F &&& 1 = 1) : ∀ {s w}, Within F r0 s → Within F r0 (State.thFlowWrite s w) := by
  intro s w h
  unfold State.thFlowWrite
  repeat' first
    | with_reducible first | assumption | apply State.setReg_frame | apply State.thRej_frame
    | split

theorem State.thRjcWrite_frame {F r0} (hF : F &&& 1 = 1) : ∀ {s w}, Within F r0 s → Within F r0 (State.thRjcWrite s w) := by
  intro s w h
  unfold State.thRjcWrite
  repeat' first
    | with_reducible first | assumption | apply State.setReg_frame | apply State.thRej_frame
    | split

theorem State.thHeadWrite_frame {F r0} (hF : F &&& 1 = 1) : ∀ {s w}, Within F r0 s → Within F r0 (State.thHeadWrite s w) := by
  intro s w h
  unfold State.thHeadWrite
  repeat' first
    | with_reducible first | assumption | apply State.setReg_frame | apply State.thRej_frame
    | split

theorem State.thClampWrite_frame {F r0} (hF : F &&& 4097 = 4097) : ∀ {s w}, Within F r0 s → Within F r0 (State.thClampWrite s w) := by
  intro s w h
  unfold State.thClampWrite
  dsimp only
  repeat' first
    | with_reducible first
      | assumption | apply State.wf_frame | apply State.clampFreed_frame | apply State.clampClr_frame
    | split | exact maskSub hF rfl

theorem State.baskTrim_frame {F r0} (hF : F &&& 4099 = 4099) : ∀ {s}, Within F r0 s → Within F r0 (State.baskTrim s) := by
  intro s h
  unfold State.baskTrim
  repeat' first
    | with_reducible first
      | assumption | apply State.baskCount_frame | apply State.stopBask_frame | apply Within.foldl | intro _
    | split | exact maskSub hF rfl

theorem State.thBaskWrite_frame {F r0} (hF : F &&& 4099 = 4099) : ∀ {s w}, Within F r0 s → Within F r0 (State.thBaskWrite s w) := by
  intro s w h
  unfold State.thBaskWrite
  dsimp only
  repeat' first
    | with_reducible first | assumption | apply State.wf_frame | apply State.baskTrim_frame
    | exact maskSub hF rfl

theorem State.wearWrite_frame {F r0} (hF : F &&& 1 = 1) : ∀ {s a w mask}, Within F r0 s → Within F r0 (State.wearWrite s a w mask) := by
  intro s a w mask h
  unfold State.wearWrite
  repeat' first
    | with_reducible first | assumption | apply State.setReg_frame
    | split

end Sys2Proof.Machine
end

