-- ==== Sys2Proof/Laws/FrameMemory.lean ====
section
/-!
SUPPORT. Frames of cache, controllers, bandwidth regulation, journal and flash: one lemma per operation.
-/
namespace Sys2Proof.Machine

/-! ## Journal -/

theorem State.flashProgram_frame {F r0} (hF : F &&& 2097152 = 2097152) : ∀ {s a bs}, Within F r0 s → Within F r0 (State.flashProgram s a bs) := by
  intro s a bs h
  unfold State.flashProgram
  repeat' with_reducible first | assumption | apply State.modFlash_frame

theorem State.flashErase_frame {F r0} (hF : F &&& 2097152 = 2097152) : ∀ {s a n}, Within F r0 s → Within F r0 (State.flashErase s a n) := by
  intro s a n h
  unfold State.flashErase
  repeat' with_reducible first | assumption | apply State.modFlash_frame

theorem State.setJnEngine_frame {F r0} (hF : F &&& 1 = 1) : ∀ {s v}, Within F r0 s → Within F r0 (State.setJnEngine s v) := by
  intro s v h
  unfold State.setJnEngine
  repeat' with_reducible first | assumption | apply State.wf_frame

theorem State.jnRej_frame {F r0} (hF : F &&& 1 = 1) : ∀ {s}, Within F r0 s → Within F r0 (State.jnRej s) := by
  intro s h
  unfold State.jnRej
  repeat' with_reducible first | assumption | apply State.setFlag_frame

theorem State.setFill_frame {F r0} (hF : F &&& 2097153 = 2097153) : ∀ {s off}, Within F r0 s → Within F r0 (State.setFill s off) := by
  intro s off h
  unfold State.setFill
  repeat' first
    | with_reducible first | assumption | apply State.wf_frame | apply State.modFlash_frame
    | exact maskSub hF rfl

theorem State.putRec_frame {F r0} (hF : F &&& 2097152 = 2097152) : ∀ {s k off r}, Within F r0 s → Within F r0 (State.putRec s k off r) := by
  intro s k off r h
  unfold State.putRec
  dsimp only
  repeat' with_reducible first | assumption | apply State.flashProgram_frame

theorem State.putRecs_frame {F r} (hF : F &&& 2097152 = 2097152) : ∀ {s k off l}, Within F r s → Within F r (State.putRecs s k off l).1 := by
  intro s k off l
  induction l generalizing s off with
  | nil => exact fun h => h
  | cons x t ih => exact fun h => ih (State.putRec_frame (maskSub hF rfl) h)

theorem State.newArea_frame {F r0} (hF : F &&& 2097153 = 2097153) : ∀ {s k gen seq l}, Within F r0 s → Within F r0 (State.newArea s k gen seq l) := by
  intro s k gen seq l h
  unfold State.newArea
  dsimp only
  repeat' first
    | with_reducible first
      | assumption | apply State.flashErase_frame | apply State.wf_frame | apply State.putRecs_frame
      | apply State.setFill_frame | (apply Within.fst; assumption)
    | exact maskSub hF rfl

theorem State.showErases_frame {F r0} (hF : F &&& 1 = 1) : ∀ {s}, Within F r0 s → Within F r0 (State.showErases s) := by
  intro s h
  unfold State.showErases
  repeat' first
    | with_reducible first | assumption | apply State.wf_frame | apply Within.foldl | intro _
    | split

theorem State.jnReplay_frame {F r0} (hF : F &&& 2097153 = 2097153) : ∀ {s}, Within F r0 s → Within F r0 (State.jnReplay s) := by
  intro s h
  unfold State.jnReplay
  dsimp only
  repeat' first
    | with_reducible first
      | assumption | apply State.setJnEngine_frame | apply State.showErases_frame | apply State.newArea_frame
      | apply State.clrFlag_frame | apply State.setFlag_frame | apply State.wf_frame | apply State.bump_frame
      | apply State.setFill_frame
    | split | exact maskSub hF rfl

theorem State.appendStat_frame {F r0} (hF : F &&& 1 = 1) : ∀ {s result err seq}, Within F r0 s → Within F r0 (State.appendStat s result err seq) := by
  intro s result err seq h
  unfold State.appendStat
  repeat' with_reducible first | assumption | apply State.setReg_frame

theorem State.appendRefuse_frame {F r0} (hF : F &&& 1 = 1) : ∀ {s err}, Within F r0 s → Within F r0 (State.appendRefuse s err) := by
  intro s err h
  unfold State.appendRefuse
  repeat' with_reducible first | assumption | apply State.appendStat_frame

theorem State.appendBody_frame {F r0} (hF : F &&& 2097153 = 2097153) : ∀ {s r again}, Within F r0 s → Within F r0 (State.appendBody s r again) := by
  intro s r again h
  unfold State.appendBody
  dsimp only
  repeat' first
    | with_reducible first
      | assumption | apply State.setJnEngine_frame | apply State.modFlash_frame | apply State.flashProgram_frame
      | apply State.appendRefuse_frame
    | split | exact maskSub hF rfl

theorem State.appendDone_frame {F r0} (hF : F &&& 2097153 = 2097153) : ∀ {s x}, Within F r0 s → Within F r0 (State.appendDone s x) := by
  intro s x h
  unfold State.appendDone
  dsimp only
  repeat' first
    | with_reducible first
      | assumption | apply State.flashProgram_frame | apply State.setFill_frame | apply State.modFlash_frame
      | apply State.bump_frame | apply State.wf_frame | apply State.appendStat_frame | apply State.setJnEngine_frame
    | exact maskSub hF rfl

theorem State.hubAppend_frame {F r0} (hF : F &&& 2097153 = 2097153) : ∀ {s type key data}, Within F r0 s → Within F r0 (State.hubAppend s type key data) := by
  intro s type key data h
  unfold State.hubAppend
  dsimp only
  repeat' first
    | with_reducible first
      | assumption | apply State.appendDone_frame | apply State.wf_frame | apply State.setFill_frame
      | apply State.putRec_frame
    | split | exact maskSub hF rfl

theorem State.jnAppendWrite_frame {F r0} (hF : F &&& 2097153 = 2097153) : ∀ {s w}, Within F r0 s → Within F r0 (State.jnAppendWrite s w) := by
  intro s w h
  unfold State.jnAppendWrite
  dsimp only
  repeat' first
    | with_reducible first
      | assumption | apply State.plainWrite_frame | apply State.appendRefuse_frame | apply State.jnRej_frame
      | apply State.appendBody_frame | apply State.appendStat_frame
    | split | exact maskSub hF rfl

theorem execJnAppend_frame {F r0} (hF : F &&& 2097157 = 2097157) : ∀ {s port typ key len}, Within F r0 s → WithinR F r0 (execJnAppend port typ key len s) := by
  intro s port typ key len h
  unfold execJnAppend
  repeat' first
    | with_reducible first
      | assumption | apply State.access_frame | apply State.jnAppendWrite_frame | apply WithinR.next | intro _
    | exact maskSub hF rfl

theorem execAppendCommit_frame {F r0} (hF : F &&& 2097153 = 2097153) : ∀ {s ok}, Within F r0 s → WithinR F r0 (execAppendCommit ok s) := by
  intro s ok h
  unfold execAppendCommit
  dsimp only
  repeat' first
    | with_reducible first
      | assumption | apply State.appendDone_frame | apply State.setFill_frame | apply State.bump_frame
      | apply State.setJnEngine_frame | apply State.modFlash_frame | apply State.appendRefuse_frame
      | apply State.appendBody_frame | apply WithinR.next
    | split | exact maskSub hF rfl

theorem execCompactionStart_frame {F r0} (hF : F &&& 2097153 = 2097153) : ∀ {s}, Within F r0 s → WithinR F r0 (execCompactionStart s) := by
  intro s h
  unfold execCompactionStart
  repeat' first
    | with_reducible first
      | assumption | apply State.setJnEngine_frame | apply State.setFlag_frame | apply State.flashErase_frame
      | apply WithinR.next
    | split | exact maskSub hF rfl

theorem execCompactionComplete_frame {F r0} (hF : F &&& 2097153 = 2097153) : ∀ {s}, Within F r0 s → WithinR F r0 (execCompactionComplete s) := by
  intro s h
  unfold execCompactionComplete
  dsimp only
  repeat' first
    | with_reducible first
      | assumption | apply State.newArea_frame | apply State.bump_frame | apply State.setJnEngine_frame
      | apply State.clrFlag_frame | apply State.flashErase_frame | apply WithinR.next
    | split | exact maskSub hF rfl

theorem State.jnOffline_frame {F r0} (hF : F &&& 2097153 = 2097153) : ∀ {s}, Within F r0 s → Within F r0 (State.jnOffline s) := by
  intro s h
  unfold State.jnOffline
  dsimp only
  repeat' first
    | with_reducible first
      | assumption | apply State.appendDone_frame | apply State.setJnEngine_frame | apply State.setFlag_frame
      | apply State.clrFlag_frame
    | split | exact maskSub hF rfl

theorem State.jnOnline_frame {F r0} (hF : F &&& 2097153 = 2097153) : ∀ {s}, Within F r0 s → Within F r0 (State.jnOnline s) := by
  intro s h
  unfold State.jnOnline
  repeat' first
    | with_reducible first | assumption | apply State.jnReplay_frame | apply State.clrFlag_frame
    | split | exact maskSub hF rfl

theorem execJnOffline_frame {F r0} (hF : F &&& 2097157 = 2097157) : ∀ {s port}, Within F r0 s → WithinR F r0 (execJnOffline port s) := by
  intro s port h
  unfold execJnOffline
  repeat' first
    | with_reducible first
      | assumption | apply State.access_frame | apply State.jnOffline_frame | apply WithinR.next | intro _
    | exact maskSub hF rfl

theorem execJnOnline_frame {F r0} (hF : F &&& 2097157 = 2097157) : ∀ {s port}, Within F r0 s → WithinR F r0 (execJnOnline port s) := by
  intro s port h
  unfold execJnOnline
  repeat' first
    | with_reducible first
      | assumption | apply State.access_frame | apply State.jnOnline_frame | apply WithinR.next | intro _
    | exact maskSub hF rfl

theorem State.jnFuseWrite_frame {F r} (hF : F &&& 65 = 65) : ∀ {s w}, Within F r s → Within F r (State.jnFuseWrite s w) := by
  intro s w h
  unfold State.jnFuseWrite
  dsimp only
  split
  · exact h
  split
  · split
    · exact State.jnRej_frame (maskSub hF rfl) h
    · exact State.modFuses_frame (maskSub hF rfl)
        ⟨rfl, rfl, rfl, rfl, rfl, rfl, rfl, rfl, by dsimp only; omega, fun _ h => h⟩ h
  split
  · split
    · exact State.jnRej_frame (maskSub hF rfl) h
    · exact State.modFuses_frame (maskSub hF rfl)
        ⟨rfl, rfl, rfl, rfl, rfl, rfl, rfl, rfl, Nat.le_refl _, fun k h => getD_setAt_true h⟩ h
  · exact h

theorem execFuseAdvanceSvn_frame {F r0} (hF : F &&& 69 = 69) : ∀ {s port arg}, Within F r0 s → WithinR F r0 (execFuseAdvanceSvn port arg s) := by
  intro s port arg h
  unfold execFuseAdvanceSvn
  repeat' first
    | with_reducible first
      | assumption | apply State.access_frame | apply State.jnFuseWrite_frame | apply WithinR.next | intro _
    | exact maskSub hF rfl

theorem execFuseRevokeKey_frame {F r0} (hF : F &&& 69 = 69) : ∀ {s port arg}, Within F r0 s → WithinR F r0 (execFuseRevokeKey port arg s) := by
  intro s port arg h
  unfold execFuseRevokeKey
  repeat' first
    | with_reducible first
      | assumption | apply State.access_frame | apply State.jnFuseWrite_frame | apply WithinR.next | intro _
    | exact maskSub hF rfl

theorem State.jnWrite_frame {F r0} (hF : F &&& 2097217 = 2097217) : ∀ {s off w}, Within F r0 s → Within F r0 (State.jnWrite s off w) := by
  intro s off w h
  unfold State.jnWrite
  repeat' first
    | with_reducible first
      | assumption | apply State.plainWrite_frame | apply State.jnAppendWrite_frame | apply State.jnFuseWrite_frame
      | apply State.jnOffline_frame | apply State.jnOnline_frame | apply State.setReg_frame
    | split | exact maskSub hF rfl

theorem State.xsResult_frame {F r0} (hF : F &&& 1 = 1) : ∀ {s v}, Within F r0 s → Within F r0 (State.xsResult s v) := by
  intro s v h
  unfold State.xsResult
  repeat' with_reducible first | assumption | apply State.wf_frame

theorem State.xspiWrite_frame {F r0} (hF : F &&& 2097283 = 2097283) : ∀ {s w}, Within F r0 s → Within F r0 (State.xspiWrite s w) := by
  intro s w h
  unfold State.xspiWrite
  dsimp only
  repeat' first
    | with_reducible first
      | assumption | apply State.plainWrite_frame | apply State.xsResult_frame | apply State.putBytes_frame
      | apply State.flashProgram_frame | apply State.flashErase_frame
    | split | exact maskSub hF rfl

theorem execXspiRead_frame {F r0} (hF : F &&& 2097287 = 2097287) : ∀ {s port addr len}, Within F r0 s → WithinR F r0 (execXspiRead port addr len s) := by
  intro s port addr len h
  unfold execXspiRead
  repeat' first
    | with_reducible first
      | assumption | apply State.access_frame | apply State.xspiWrite_frame | apply WithinR.next | intro _
    | exact maskSub hF rfl

theorem execXspiProgram_frame {F r0} (hF : F &&& 2097287 = 2097287) : ∀ {s port addr len}, Within F r0 s → WithinR F r0 (execXspiProgram port addr len s) := by
  intro s port addr len h
  unfold execXspiProgram
  repeat' first
    | with_reducible first
      | assumption | apply State.access_frame | apply State.xspiWrite_frame | apply WithinR.next | intro _
    | exact maskSub hF rfl

theorem execXspiErase_frame {F r0} (hF : F &&& 2097287 = 2097287) : ∀ {s port addr}, Within F r0 s → WithinR F r0 (execXspiErase port addr s) := by
  intro s port addr h
  unfold execXspiErase
  repeat' first
    | with_reducible first
      | assumption | apply State.access_frame | apply State.xspiWrite_frame | apply WithinR.next | intro _
    | exact maskSub hF rfl

theorem execXspiCommandComplete_frame {F r0} (hF : F &&& 1 = 1) : ∀ {s}, Within F r0 s → WithinR F r0 (execXspiCommandComplete s) := by
  intro s h
  unfold execXspiCommandComplete
  repeat' first
    | with_reducible first | assumption | apply State.xsResult_frame | apply WithinR.next
    | split

/-! ## MemSys -/

theorem State.modSlice_frame {F r0} (hF : F &&& 32768 = 32768) : ∀ {s c f}, Within F r0 s → Within F r0 (State.modSlice s c f) := by
  intro s c f h
  unfold State.modSlice
  repeat' with_reducible first | assumption | apply State.modMs_frame

theorem State.modMc_frame {F r0} (hF : F &&& 32768 = 32768) : ∀ {s c f}, Within F r0 s → Within F r0 (State.modMc s c f) := by
  intro s c f h
  unfold State.modMc
  repeat' with_reducible first | assumption | apply State.modMs_frame

theorem State.setMcState_frame {F r0} (hF : F &&& 1 = 1) : ∀ {s c v}, Within F r0 s → Within F r0 (State.setMcState s c v) := by
  intro s c v h
  unfold State.setMcState
  repeat' with_reducible first | assumption | apply State.wf_frame

theorem State.writeMasked_frame {F r} (hF : F &&& 2 = 2) : ∀ {s line mask data}, Within F r s → Within F r (State.writeMasked s line mask data) := by
  intro s line mask data h
  refine { h with keeps := h.keeps.trans ⟨rfl, rfl, .refl _, fun h => ?_, id⟩, mem := fun e => absurd e (maskBit 1 hF) }
  refine Mem.wf_foldl (fun m i hm => Mem.wf_clean _ _ hm) _ (Mem.wf_foldl (fun m i hm => ?_) _ h)
  split
  · exact Mem.wf_setByte _ _ hm
  · exact hm

theorem State.mcCounts_frame {F r0} (hF : F &&& 1 = 1) : ∀ {s c}, Within F r0 s → Within F r0 (State.mcCounts s c) := by
  intro s c h
  unfold State.mcCounts
  repeat' with_reducible first | assumption | apply State.wf_frame

theorem State.drainCheck_frame {F r0} (hF : F &&& 1 = 1) : ∀ {s c}, Within F r0 s → Within F r0 (State.drainCheck s c) := by
  intro s c h
  unfold State.drainCheck
  dsimp only
  repeat' first
    | with_reducible first | assumption | apply State.wf_frame
    | split

theorem State.acceptWrite_frame {F r0} (hF : F &&& 32769 = 32769) : ∀ {s c line mask cls}, Within F r0 s → Within F r0 (State.acceptWrite s c line mask cls) := by
  intro s c line mask cls h
  unfold State.acceptWrite
  dsimp only
  repeat' first
    | with_reducible first
      | assumption | apply State.drainCheck_frame | apply State.mcCounts_frame | apply State.modMc_frame
    | split | exact maskSub hF rfl

theorem State.acceptRead_frame {F r0} (hF : F &&& 32769 = 32769) : ∀ {s c line mask urg cls}, Within F r0 s → Within F r0 (State.acceptRead s c line mask urg cls) := by
  intro s c line mask urg cls h
  unfold State.acceptRead
  dsimp only
  repeat' first
    | with_reducible first | assumption | apply State.mcCounts_frame | apply State.modMc_frame
    | split | exact maskSub hF rfl

theorem State.returns_frame {F r0} (hF : F &&& 32768 = 32768) : ∀ {s c r}, Within F r0 s → Within F r0 (State.returns s c r) := by
  intro s c r h
  unfold State.returns
  repeat' with_reducible first | assumption | apply State.modMc_frame

theorem State.modLine_frame {F r0} (hF : F &&& 32768 = 32768) : ∀ {s c line f}, Within F r0 s → Within F r0 (State.modLine s c line f) := by
  intro s c line f h
  unfold State.modLine
  repeat' first
    | with_reducible first | assumption | apply State.modSlice_frame
    | split

theorem State.poisonCached_frame {F r0} (hF : F &&& 32770 = 32770) : ∀ {s c line mask}, Within F r0 s → Within F r0 (State.poisonCached s c line mask) := by
  intro s c line mask h
  unfold State.poisonCached
  repeat' first
    | with_reducible first
      | assumption | apply State.modLine_frame | apply State.modMem_frame | apply Within.foldl | apply Mem.wf_poison
      | apply Mem.wf_saved | apply Mem.wf_cacheOnly | apply ascending_foldl_setIns | apply ascending_foldl_setDel
      | intro _
    | split | exact maskSub hF rfl

theorem State.sendMerged_frame {F r0} (hF : F &&& 32771 = 32771) : ∀ {s c ue w}, Within F r0 s → Within F r0 (State.sendMerged s c ue w) := by
  intro s c ue w h
  unfold State.sendMerged
  repeat' first
    | with_reducible first
      | assumption | apply State.bump_frame | apply State.modMem_frame | apply State.writeMasked_frame
      | apply State.acceptWrite_frame | apply Within.foldl | apply Mem.wf_poison | apply Mem.wf_saved
      | apply Mem.wf_cacheOnly | apply ascending_foldl_setIns | apply ascending_foldl_setDel | intro _
    | split | exact maskSub hF rfl

theorem State.mergeBack_frame {F r0} (hF : F &&& 32771 = 32771) : ∀ {s c fetch ue}, Within F r0 s → Within F r0 (State.mergeBack s c fetch ue) := by
  intro s c fetch ue h
  unfold State.mergeBack
  repeat' first
    | with_reducible first
      | assumption | apply State.sendMerged_frame | apply State.modSlice_frame | apply Within.foldl | intro _
    | exact maskSub hF rfl

theorem State.fillBack_frame {F r0} (hF : F &&& 32771 = 32771) : ∀ {s c line mask ue poison data fetch}, Within F r0 s → Within F r0 (State.fillBack s c line mask ue poison data fetch) := by
  intro s c line mask ue poison data fetch h
  unfold State.fillBack
  repeat' first
    | with_reducible first
      | assumption | apply State.returns_frame | apply State.mergeBack_frame | apply State.modLine_frame
      | apply State.poisonCached_frame
    | exact maskSub hF rfl

theorem State.sleepCheck_frame {F r0} (hF : F &&& 32769 = 32769) : ∀ {s c}, Within F r0 s → Within F r0 (State.sleepCheck s c) := by
  intro s c h
  unfold State.sleepCheck
  repeat' first
    | with_reducible first
      | assumption | apply State.setMcState_frame | apply State.wf_frame | apply State.modMc_frame
    | split | exact maskSub hF rfl

theorem State.dropRead_frame {F r0} (hF : F &&& 32769 = 32769) : ∀ {s c seq}, Within F r0 s → Within F r0 (State.dropRead s c seq) := by
  intro s c seq h
  unfold State.dropRead
  dsimp only
  repeat' first
    | with_reducible first
      | assumption | apply State.modMc_frame | apply State.sleepCheck_frame | apply State.mcCounts_frame
    | split | exact maskSub hF rfl

theorem execReadForward_frame {F r0} (hF : F &&& 32771 = 32771) : ∀ {s pc}, Within F r0 s → WithinR F r0 (execReadForward pc s) := by
  intro s pc h
  unfold execReadForward
  repeat' first
    | with_reducible first
      | assumption | apply State.bump_frame | apply State.dropRead_frame | apply State.fillBack_frame
      | apply WithinR.next
    | split | exact maskSub hF rfl

theorem State.issueCmd_frame {F r0} (hF : F &&& 32769 = 32769) : ∀ {s c x2}, Within F r0 s → Within F r0 (State.issueCmd s c x2) := by
  intro s c x2 h
  unfold State.issueCmd
  dsimp only
  repeat' first
    | with_reducible first
      | assumption | apply State.modMc_frame | apply State.sleepCheck_frame | apply State.drainCheck_frame
      | apply State.mcCounts_frame
    | split | exact maskSub hF rfl

theorem execMcCommandIssue_frame {F r0} (hF : F &&& 32769 = 32769) : ∀ {s pc met refresh}, Within F r0 s → WithinR F r0 (execMcCommandIssue pc met refresh s) := by
  intro s pc met refresh h
  unfold execMcCommandIssue
  repeat' first
    | with_reducible first | assumption | apply State.issueCmd_frame | apply WithinR.next
    | split

theorem execStackReadData_frame {F r0} (hF : F &&& 32771 = 32771) : ∀ {s pc seq codes}, Within F r0 s → WithinR F r0 (execStackReadData pc seq codes s) := by
  intro s pc seq codes h
  unfold execStackReadData
  dsimp only
  repeat' first
    | with_reducible first
      | assumption | apply State.bump_frame | apply State.dropRead_frame | apply State.fillBack_frame
      | apply WithinR.next
    | split | exact maskSub hF rfl

theorem State.loseStack_frame {F r} (hF : F &&& 2 = 2) : ∀ {s c}, Within F r s → Within F r (State.loseStack s c) := by
  intro s c h
  unfold State.loseStack
  refine State.modMem_frame (maskSub hF rfl) (fun m h => ?_) h
  rw [Mem.wf_iff] at h ⊢
  obtain ⟨h1, h2, h3, h4, h5, h6, h7, h8, h9⟩ := h
  exact ⟨h1, h2, h3, h4, h5, h6, h7, ascending_setIns _ h8, ascending_foldl_setIns _ (ascending_filter _ h9)⟩

theorem State.fence_frame {F r0} (hF : F &&& 32771 = 32771) : ∀ {s c}, Within F r0 s → Within F r0 (State.fence s c) := by
  intro s c h
  unfold State.fence
  dsimp only
  repeat' first
    | with_reducible first
      | assumption | apply State.bump_frame | apply State.loseStack_frame | apply State.setMcState_frame
      | apply State.wf_frame | apply State.mcCounts_frame | apply State.modMc_frame | apply State.fillBack_frame
      | apply Within.foldl | intro _
    | exact maskSub hF rfl

theorem execParityError_frame {F r0} (hF : F &&& 32771 = 32771) : ∀ {s pc r}, Within F r0 s → WithinR F r0 (execParityError pc r s) := by
  intro s pc r h
  unfold execParityError
  dsimp only
  repeat' first
    | with_reducible first
      | assumption | apply State.bump_frame | apply State.fence_frame | apply State.modMc_frame | apply WithinR.next
    | split | exact maskSub hF rfl

theorem State.mcCfgErr_frame {F r0} (hF : F &&& 1 = 1) : ∀ {s c}, Within F r0 s → Within F r0 (State.mcCfgErr s c) := by
  intro s c h
  unfold State.mcCfgErr
  repeat' with_reducible first | assumption | apply State.setFlag_frame

theorem State.mcReinit_frame {F r0} (hF : F &&& 1 = 1) : ∀ {s c}, Within F r0 s → Within F r0 (State.mcReinit s c) := by
  intro s c h
  unfold State.mcReinit
  repeat' first
    | with_reducible first | assumption | apply State.setMcState_frame | apply State.mcCfgErr_frame
    | split

theorem State.mcCfgWrite_frame {F r0} (hF : F &&& 1 = 1) : ∀ {s c w}, Within F r0 s → Within F r0 (State.mcCfgWrite s c w) := by
  intro s c w h
  unfold State.mcCfgWrite
  dsimp only
  repeat' first
    | with_reducible first
      | assumption | apply State.mcCfgErr_frame | apply State.drainCheck_frame | apply State.plainWrite_frame
      | apply State.mcReinit_frame
    | split

theorem execMcReinit_frame {F r0} (hF : F &&& 5 = 5) : ∀ {s port pc}, Within F r0 s → WithinR F r0 (execMcReinit port pc s) := by
  intro s port pc h
  unfold execMcReinit
  repeat' first
    | with_reducible first
      | assumption | apply State.access_frame | apply State.mcCfgWrite_frame | apply WithinR.next | intro _
    | split | exact maskSub hF rfl

theorem State.loadBand_frame {F r0} (hF : F &&& 32769 = 32769) : ∀ {s c b}, Within F r0 s → Within F r0 (State.loadBand s c b) := by
  intro s c b h
  unfold State.loadBand
  repeat' first
    | with_reducible first | assumption | apply State.modMc_frame | apply State.wf_frame
    | split | exact maskSub hF rfl

theorem execReinitComplete_frame {F r0} (hF : F &&& 32769 = 32769) : ∀ {s pc ok}, Within F r0 s → WithinR F r0 (execReinitComplete pc ok s) := by
  intro s pc ok h
  unfold execReinitComplete
  dsimp only
  repeat' first
    | with_reducible first
      | assumption | apply State.modMc_frame | apply State.setFlag_frame | apply State.setMcState_frame
      | apply State.loadBand_frame | apply WithinR.next
    | split | exact maskSub hF rfl

theorem execScrubComplete_frame {F r0} (hF : F &&& 32771 = 32771) : ∀ {s pc}, Within F r0 s → WithinR F r0 (execScrubComplete pc s) := by
  intro s pc h
  unfold execScrubComplete
  repeat' first
    | with_reducible first
      | assumption | apply State.sleepCheck_frame | apply State.modMc_frame | apply State.setMcState_frame
      | apply State.loseStack_frame | apply WithinR.next
    | split | exact maskSub hF rfl

theorem State.mcShadowWrite_frame {F r0} (hF : F &&& 1 = 1) : ∀ {s c a w}, Within F r0 s → Within F r0 (State.mcShadowWrite s c a w) := by
  intro s c a w h
  unfold State.mcShadowWrite
  repeat' first
    | with_reducible first | assumption | apply State.mcCfgErr_frame | apply State.plainWrite_frame
    | split

theorem State.mcDlyWrite_frame {F r0} (hF : F &&& 1 = 1) : ∀ {s c w}, Within F r0 s → Within F r0 (State.mcDlyWrite s c w) := by
  intro s c w h
  unfold State.mcDlyWrite
  dsimp only
  repeat' first
    | with_reducible first
      | assumption | apply State.mcCfgErr_frame | apply State.plainWrite_frame | apply State.setFlag_frame
    | split

theorem execDelayCommit_frame {F r0} (hF : F &&& 5 = 5) : ∀ {s port pc val}, Within F r0 s → WithinR F r0 (execDelayCommit port pc val s) := by
  intro s port pc val h
  unfold execDelayCommit
  repeat' first
    | with_reducible first
      | assumption | apply State.access_frame | apply State.mcDlyWrite_frame | apply WithinR.next | intro _
    | split | exact maskSub hF rfl

theorem State.switchDelay_frame {F r0} (hF : F &&& 32769 = 32769) : ∀ {s c}, Within F r0 s → Within F r0 (State.switchDelay s c) := by
  intro s c h
  unfold State.switchDelay
  repeat' first
    | with_reducible first
      | assumption | apply State.modMc_frame | apply State.loadBand_frame | apply State.clrFlag_frame
    | exact maskSub hF rfl

theorem execDelayCommitApply_frame {F r0} (hF : F &&& 32769 = 32769) : ∀ {s pc}, Within F r0 s → WithinR F r0 (execDelayCommitApply pc s) := by
  intro s pc h
  unfold execDelayCommitApply
  dsimp only
  repeat' first
    | with_reducible first
      | assumption | apply State.switchDelay_frame | apply State.modMc_frame | apply WithinR.next
    | split | exact maskSub hF rfl

theorem State.mcTemp_frame {F r0} (hF : F &&& 32769 = 32769) : ∀ {s c t}, Within F r0 s → Within F r0 (State.mcTemp s c t) := by
  intro s c t h
  unfold State.mcTemp
  dsimp only
  repeat' first
    | with_reducible first
      | assumption | apply State.wf_frame | apply State.raiseIrq_frame | apply State.modMc_frame
    | split | exact maskSub hF rfl

theorem execStackTemperatureRead_frame {F r0} (hF : F &&& 36865 = 36865) : ∀ {s stack own}, Within F r0 s → WithinR F r0 (execStackTemperatureRead stack own s) := by
  intro s stack own h
  unfold execStackTemperatureRead
  dsimp only
  repeat' first
    | with_reducible first
      | assumption | apply State.modTh_frame | apply State.mcTemp_frame | apply Within.foldl | apply WithinR.next
      | intro _
    | split | exact maskSub hF rfl

theorem execBandStaleTimeout_frame {F r0} (hF : F &&& 32769 = 32769) : ∀ {s pc}, Within F r0 s → WithinR F r0 (execBandStaleTimeout pc s) := by
  intro s pc h
  unfold execBandStaleTimeout
  dsimp only
  repeat' first
    | with_reducible first
      | assumption | apply State.modMc_frame | apply State.setFlag_frame | apply WithinR.next
    | split | exact maskSub hF rfl

theorem execRefreshDue_frame {F r0} (hF : F &&& 32768 = 32768) : ∀ {s pc}, Within F r0 s → WithinR F r0 (execRefreshDue pc s) := by
  intro s pc h
  unfold execRefreshDue
  dsimp only
  repeat' first
    | with_reducible first | assumption | apply State.modMc_frame | apply WithinR.next
    | split

theorem State.forgetOnly_frame {F r} (hF : F &&& 2 = 2) : ∀ {s line}, Within F r s → Within F r (State.forgetOnly s line) := by
  intro s line h
  exact State.modMem_frame (maskSub hF rfl) (fun m h => Mem.wf_cacheOnly (Mem.wf_saved h (ascending_foldl_setDel _))) h

theorem State.onlyCached_frame {F r} (hF : F &&& 2 = 2) : ∀ {s line mask b}, Within F r s → Within F r (State.onlyCached s line mask b) := by
  intro s line mask b h
  refine State.modMem_frame (maskSub hF rfl) (fun m h => ?_) h
  split
  · exact Mem.wf_inCache _ h
  · exact Mem.wf_cacheOnly h

theorem State.cleanLine_frame {F r0} (hF : F &&& 32771 = 32771) : ∀ {s c l}, Within F r0 s → Within F r0 (State.cleanLine s c l) := by
  intro s c l h
  unfold State.cleanLine
  dsimp only
  repeat' first
    | with_reducible first
      | assumption | apply State.modLine_frame | apply State.bump_frame | apply State.onlyCached_frame
    | split | exact maskSub hF rfl

theorem State.setOcc_frame {F r0} (hF : F &&& 1 = 1) : ∀ {s cls n}, Within F r0 s → Within F r0 (State.setOcc s cls n) := by
  intro s cls n h
  unfold State.setOcc
  dsimp only
  repeat' first
    | with_reducible first | assumption | apply State.wf_frame
    | split

theorem State.occAdd_frame {F r0} (hF : F &&& 1 = 1) : ∀ {s cls}, Within F r0 s → Within F r0 (State.occAdd s cls) := by
  intro s cls h
  unfold State.occAdd
  repeat' with_reducible first | assumption | apply State.setOcc_frame

theorem State.occSub_frame {F r0} (hF : F &&& 1 = 1) : ∀ {s cls}, Within F r0 s → Within F r0 (State.occSub s cls) := by
  intro s cls h
  unfold State.occSub
  repeat' with_reducible first | assumption | apply State.setOcc_frame

theorem State.dropLine_frame {F r0} (hF : F &&& 32771 = 32771) : ∀ {s c line}, Within F r0 s → Within F r0 (State.dropLine s c line) := by
  intro s c line h
  unfold State.dropLine
  dsimp only
  repeat' first
    | with_reducible first
      | assumption | apply State.modSlice_frame | apply State.modMem_frame | apply State.forgetOnly_frame
      | apply State.occSub_frame | apply Within.foldl | apply Mem.wf_poison | apply Mem.wf_saved
      | apply Mem.wf_cacheOnly | apply ascending_foldl_setIns | apply ascending_foldl_setDel | intro _
    | split | exact maskSub hF rfl

theorem State.scMaintWrite_frame {F r0} (hF : F &&& 32769 = 32769) : ∀ {s cmd}, Within F r0 s → Within F r0 (State.scMaintWrite s cmd) := by
  intro s cmd h
  unfold State.scMaintWrite
  repeat' first
    | with_reducible first | assumption | apply State.modMs_frame | apply State.setFlag_frame
    | split | exact maskSub hF rfl

theorem execCleanAll_frame {F r0} (hF : F &&& 32773 = 32773) : ∀ {s port}, Within F r0 s → WithinR F r0 (execCleanAll port s) := by
  intro s port h
  unfold execCleanAll
  repeat' first
    | with_reducible first
      | assumption | apply State.access_frame | apply State.scMaintWrite_frame | apply WithinR.next | intro _
    | exact maskSub hF rfl

theorem execCleanInvAll_frame {F r0} (hF : F &&& 32773 = 32773) : ∀ {s port}, Within F r0 s → WithinR F r0 (execCleanInvAll port s) := by
  intro s port h
  unfold execCleanInvAll
  repeat' first
    | with_reducible first
      | assumption | apply State.access_frame | apply State.scMaintWrite_frame | apply WithinR.next | intro _
    | exact maskSub hF rfl

theorem State.writeBack_frame {F r0} (hF : F &&& 32771 = 32771) : ∀ {s c l}, Within F r0 s → Within F r0 (State.writeBack s c l) := by
  intro s c l h
  unfold State.writeBack
  repeat' first
    | with_reducible first | assumption | apply State.cleanLine_frame | apply State.acceptWrite_frame
    | split | exact maskSub hF rfl

theorem State.cleanSlice_frame {F r0} (hF : F &&& 32771 = 32771) : ∀ {s inv c}, Within F r0 s → Within F r0 (State.cleanSlice s inv c) := by
  intro s inv c h
  unfold State.cleanSlice
  dsimp only
  repeat' first
    | with_reducible first
      | assumption | apply State.cleanLine_frame | apply State.dropLine_frame | apply Within.foldl | intro _
    | split

theorem State.sweepSet_frame {F r0} (hF : F &&& 32771 = 32771) : ∀ {s c}, Within F r0 s → Within F r0 (State.sweepSet s c) := by
  intro s c h
  unfold State.sweepSet
  dsimp only
  repeat' first
    | with_reducible first
      | assumption | apply State.writeBack_frame | apply State.modSlice_frame | apply State.dropLine_frame
      | apply Within.foldl | intro _
    | split | exact maskSub hF rfl

theorem State.sweepEdge_frame {F r0} (hF : F &&& 32771 = 32771) : ∀ {s}, Within F r0 s → Within F r0 (State.sweepEdge s) := by
  intro s h
  unfold State.sweepEdge
  repeat' first
    | with_reducible first | assumption | apply State.sweepSet_frame | apply Within.foldl | intro _
    | split

theorem execMaintenanceComplete_frame {F r0} (hF : F &&& 32769 = 32769) : ∀ {s}, Within F r0 s → WithinR F r0 (execMaintenanceComplete s) := by
  intro s h
  unfold execMaintenanceComplete
  repeat' first
    | with_reducible first
      | assumption | apply State.modMs_frame | apply State.clrFlag_frame | apply WithinR.next
    | split | exact maskSub hF rfl

theorem State.mcSleep_frame {F r0} (hF : F &&& 32769 = 32769) : ∀ {s c}, Within F r0 s → Within F r0 (State.mcSleep s c) := by
  intro s c h
  unfold State.mcSleep
  repeat' first
    | with_reducible first | assumption | apply State.sleepCheck_frame | apply State.modMc_frame
    | split | exact maskSub hF rfl

theorem State.mcWake_frame {F r0} (hF : F &&& 32769 = 32769) : ∀ {s c}, Within F r0 s → Within F r0 (State.mcWake s c) := by
  intro s c h
  unfold State.mcWake
  repeat' first
    | with_reducible first
      | assumption | apply State.modMc_frame | apply State.setMcState_frame | apply State.switchDelay_frame
    | split | exact maskSub hF rfl

/-! ## Qos -/

theorem State.modPort_frame {F r0} (hF : F &&& 32768 = 32768) : ∀ {s p f}, Within F r0 s → Within F r0 (State.modPort s p f) := by
  intro s p f h
  unfold State.modPort
  repeat' with_reducible first | assumption | apply State.modMs_frame

theorem State.accrue_frame {F r0} (hF : F &&& 32768 = 32768) : ∀ {s p}, Within F r0 s → Within F r0 (State.accrue s p) := by
  intro s p h
  unfold State.accrue
  dsimp only
  repeat' with_reducible first | assumption | apply State.modPort_frame

theorem State.countHolds_frame {F r0} (hF : F &&& 32769 = 32769) : ∀ {s p causes}, Within F r0 s → Within F r0 (State.countHolds s p causes) := by
  intro s p causes h
  unfold State.countHolds
  repeat' first
    | with_reducible first
      | assumption | apply State.modPort_frame | apply State.bump_frame | apply Within.foldl | intro _
    | split | exact maskSub hF rfl

theorem State.grant_frame {F r0} (hF : F &&& 32769 = 32769) : ∀ {s stage r}, Within F r0 s → Within F r0 (State.grant s stage r) := by
  intro s stage r h
  unfold State.grant
  dsimp only
  repeat' first
    | with_reducible first | assumption | apply State.modPort_frame | apply State.wrapAdd_frame
    | split | exact maskSub hF rfl

theorem State.evict_frame {F r0} (hF : F &&& 32771 = 32771) : ∀ {s pc l}, Within F r0 s → Within F r0 (State.evict s pc l) := by
  intro s pc l h
  unfold State.evict
  repeat' with_reducible first | assumption | apply State.dropLine_frame | apply State.writeBack_frame

theorem State.fetchSectors_frame {F r0} (hF : F &&& 32771 = 32771) : ∀ {s pc r m}, Within F r0 s → Within F r0 (State.fetchSectors s pc r m) := by
  intro s pc r m h
  unfold State.fetchSectors
  dsimp only
  repeat' first
    | with_reducible first | assumption | apply State.fillBack_frame | apply State.acceptRead_frame
    | split | exact maskSub hF rfl

theorem State.placeLine_frame {F r0} (hF : F &&& 32769 = 32769) : ∀ {s pc way r}, Within F r0 s → Within F r0 (State.placeLine s pc way r) := by
  intro s pc way r h
  unfold State.placeLine
  dsimp only
  repeat' first
    | with_reducible first | assumption | apply State.occAdd_frame | apply State.modSlice_frame
    | exact maskSub hF rfl

theorem State.useLine_frame {F r0} (hF : F &&& 32769 = 32769) : ∀ {s pc r}, Within F r0 s → Within F r0 (State.useLine s pc r) := by
  intro s pc r h
  unfold State.useLine
  dsimp only
  repeat' first
    | with_reducible first
      | assumption | apply State.modSlice_frame | apply State.modLine_frame | apply State.occAdd_frame
      | apply State.occSub_frame
    | split | exact maskSub hF rfl

theorem State.writeLine_frame {F r0} (hF : F &&& 32770 = 32770) : ∀ {s pc r data wait}, Within F r0 s → Within F r0 (State.writeLine s pc r data wait) := by
  intro s pc r data wait h
  unfold State.writeLine
  dsimp only
  repeat' first
    | with_reducible first
      | assumption | apply State.modLine_frame | apply State.writeMasked_frame | apply State.onlyCached_frame
    | split | exact maskSub hF rfl

theorem State.serveLine_frame {F r0} (hF : F &&& 32771 = 32771) : ∀ {s pc r}, Within F r0 s → Within F r0 (State.serveLine s pc r) := by
  intro s pc r h
  unfold State.serveLine
  dsimp only
  repeat' first
    | with_reducible first
      | assumption | apply State.useLine_frame | apply State.writeLine_frame | apply State.fetchSectors_frame
      | apply State.returns_frame
    | split | exact maskSub hF rfl

theorem State.passOn_frame {F r0} (hF : F &&& 32771 = 32771) : ∀ {s pc r}, Within F r0 s → Within F r0 (State.passOn s pc r) := by
  intro s pc r h
  unfold State.passOn
  repeat' first
    | with_reducible first
      | assumption | apply State.fetchSectors_frame | apply State.bump_frame | apply State.writeMasked_frame
      | apply State.acceptWrite_frame | apply State.modSlice_frame
    | split | exact maskSub hF rfl

theorem State.slcError_frame {F r0} (hF : F &&& 32771 = 32771) : ∀ {s pc line ce ue}, Within F r0 s → Within F r0 (State.slcError s pc line ce ue) := by
  intro s pc line ce ue h
  unfold State.slcError
  dsimp only
  repeat' first
    | with_reducible first | assumption | apply State.bump_frame | apply State.poisonCached_frame
    | split | exact maskSub hF rfl

theorem State.lookup_frame {F r0} (hF : F &&& 32771 = 32771) : ∀ {s pc r ecc}, Within F r0 s → Within F r0 (State.lookup s pc r ecc) := by
  intro s pc r ecc h
  unfold State.lookup
  dsimp only
  repeat' first
    | with_reducible first
      | assumption | apply State.slcError_frame | apply State.serveLine_frame | apply State.wrapAdd_frame
      | apply State.passOn_frame | apply State.placeLine_frame | apply State.evict_frame
    | split | exact maskSub hF rfl

theorem State.slot_frame {F r0} (hF : F &&& 32768 = 32768) : ∀ {s pc}, Within F r0 s → Within F r0 (State.slot s pc) := by
  intro s pc h
  unfold State.slot
  dsimp only
  repeat' first
    | with_reducible first | assumption | apply State.modMs_frame | apply State.modSlice_frame
    | split

theorem State.present_frame {F r0} (hF : F &&& 32768 = 32768) : ∀ {s pc r}, Within F r0 s → Within F r0 (State.present s pc r) := by
  intro s pc r h
  unfold State.present
  repeat' first
    | with_reducible first | assumption | apply State.modPort_frame
    | split

theorem State.shareGap_frame {F r0} (hF : F &&& 32768 = 32768) : ∀ {s pc}, Within F r0 s → Within F r0 (State.shareGap s pc) := by
  intro s pc h
  unfold State.shareGap
  repeat' first
    | with_reducible first | assumption | apply State.modSlice_frame
    | split

theorem State.endCycle_frame {F r0} (hF : F &&& 32768 = 32768) : ∀ {s}, Within F r0 s → Within F r0 (State.endCycle s) := by
  intro s h
  unfold State.endCycle
  repeat' with_reducible first | assumption | apply State.modMs_frame

theorem State.heldSince_frame {F r0} (hF : F &&& 32768 = 32768) : ∀ {s old}, Within F r0 s → Within F r0 (State.heldSince s old) := by
  intro s old h
  unfold State.heldSince
  repeat' first
    | with_reducible first | assumption | apply State.endCycle_frame
    | split

theorem State.atSlice_frame {F r0} (hF : F &&& 32768 = 32768) : ∀ {s pc heads}, Within F r0 s → Within F r0 (State.atSlice s pc heads).1 := by
  intro s pc heads h
  unfold State.atSlice
  dsimp only
  repeat' first
    | with_reducible first
      | assumption | apply State.present_frame | apply State.slot_frame | apply State.shareGap_frame
      | apply State.accrue_frame | apply Within.foldl | apply Within.foldl_fst | intro _

theorem execCacheLookup_frame {F r0} (hF : F &&& 32771 = 32771) : ∀ {s pc heads ecc}, Within F r0 s → WithinR F r0 (execCacheLookup pc heads ecc s) := by
  intro s pc heads ecc h
  unfold execCacheLookup
  dsimp only
  repeat' first
    | with_reducible first
      | assumption | apply State.atSlice_frame | apply State.countHolds_frame | apply State.modSlice_frame
      | apply State.heldSince_frame | apply State.lookup_frame | apply State.grant_frame
      | (apply Within.fst; assumption) | apply Within.foldl | apply Within.foldl_fst | apply WithinR.next | intro _
    | split | exact maskSub hF rfl

theorem State.evalUrg_frame {F r0} (hF : F &&& 1 = 1) : ∀ {s p}, Within F r0 s → Within F r0 (State.evalUrg s p) := by
  intro s p h
  unfold State.evalUrg
  dsimp only
  repeat' first
    | with_reducible first | assumption | apply State.wf_frame | apply State.bump_frame
    | split

theorem execUrgencyChange_frame {F r0} (hF : F &&& 32769 = 32769) : ∀ {s master level}, Within F r0 s → WithinR F r0 (execUrgencyChange master level s) := by
  intro s master level h
  unfold execUrgencyChange
  repeat' first
    | with_reducible first
      | assumption | apply State.endCycle_frame | apply State.evalUrg_frame | apply State.modPort_frame
      | apply WithinR.next
    | split | exact maskSub hF rfl

theorem State.shedOne_frame {F r0} (hF : F &&& 32771 = 32771) : ∀ {s pc set c}, Within F r0 s → Within F r0 (State.shedOne s pc set c) := by
  intro s pc set c h
  unfold State.shedOne
  repeat' first
    | with_reducible first | assumption | apply State.bump_frame | apply State.evict_frame
    | split | exact maskSub hF rfl

theorem execOccupancyShed_frame {F r0} (hF : F &&& 32771 = 32771) : ∀ {s pc}, Within F r0 s → WithinR F r0 (execOccupancyShed pc s) := by
  intro s pc h
  unfold execOccupancyShed
  dsimp only
  repeat' first
    | with_reducible first
      | assumption | apply State.slot_frame | apply State.heldSince_frame | apply State.modSlice_frame
      | apply State.shedOne_frame | apply Within.foldl | apply WithinR.next | intro _
    | split | exact maskSub hF rfl

theorem State.qosErr_frame {F r0} (hF : F &&& 1 = 1) : ∀ {s}, Within F r0 s → Within F r0 (State.qosErr s) := by
  intro s h
  unfold State.qosErr
  repeat' with_reducible first | assumption | apply State.setFlag_frame

theorem State.qosCfgWrite_frame {F r0} (hF : F &&& 32769 = 32769) : ∀ {s w}, Within F r0 s → Within F r0 (State.qosCfgWrite s w) := by
  intro s w h
  unfold State.qosCfgWrite
  repeat' first
    | with_reducible first
      | assumption | apply State.qosErr_frame | apply State.endCycle_frame | apply State.plainWrite_frame
    | split | exact maskSub hF rfl

theorem State.qosClsWrite_frame {F r0} (hF : F &&& 32769 = 32769) : ∀ {s c w}, Within F r0 s → Within F r0 (State.qosClsWrite s c w) := by
  intro s c w h
  unfold State.qosClsWrite
  dsimp only
  repeat' first
    | with_reducible first
      | assumption | apply State.qosErr_frame | apply State.endCycle_frame | apply State.setOcc_frame
      | apply State.plainWrite_frame
    | split | exact maskSub hF rfl

theorem State.capBuckets_frame {F r0} (hF : F &&& 32768 = 32768) : ∀ {s p}, Within F r0 s → Within F r0 (State.capBuckets s p) := by
  intro s p h
  unfold State.capBuckets
  repeat' with_reducible first | assumption | apply State.modPort_frame

theorem State.qosBktWrite_frame {F r0} (hF : F &&& 32769 = 32769) : ∀ {s p w}, Within F r0 s → Within F r0 (State.qosBktWrite s p w) := by
  intro s p w h
  unfold State.qosBktWrite
  dsimp only
  repeat' first
    | with_reducible first
      | assumption | apply State.qosErr_frame | apply State.endCycle_frame | apply State.capBuckets_frame
      | apply State.wf_frame | apply State.plainWrite_frame | apply State.accrue_frame
    | split | exact maskSub hF rfl

theorem State.qosUrgWrite_frame {F r0} (hF : F &&& 32769 = 32769) : ∀ {s p w}, Within F r0 s → Within F r0 (State.qosUrgWrite s p w) := by
  intro s p w h
  unfold State.qosUrgWrite
  repeat' first
    | with_reducible first
      | assumption | apply State.endCycle_frame | apply State.evalUrg_frame | apply State.plainWrite_frame
      | apply State.qosErr_frame
    | split | exact maskSub hF rfl

theorem State.qosSchedWrite_frame {F r0} (hF : F &&& 1 = 1) : ∀ {s c w}, Within F r0 s → Within F r0 (State.qosSchedWrite s c w) := by
  intro s c w h
  unfold State.qosSchedWrite
  repeat' first
    | with_reducible first | assumption | apply State.plainWrite_frame
    | split

theorem State.qosPortWrite_frame {F r0} (hF : F &&& 32769 = 32769) : ∀ {s p k w}, Within F r0 s → Within F r0 (State.qosPortWrite s p k w) := by
  intro s p k w h
  unfold State.qosPortWrite
  repeat' first
    | with_reducible first
      | assumption | apply State.qosBktWrite_frame | apply State.endCycle_frame | apply State.capBuckets_frame
      | apply State.plainWrite_frame | apply State.accrue_frame | apply State.qosUrgWrite_frame
    | split | exact maskSub hF rfl

theorem State.qosCntWrite_frame {F r0} (hF : F &&& 1 = 1) : ∀ {s p k w}, Within F r0 s → Within F r0 (State.qosCntWrite s p k w) := by
  intro s p k w h
  unfold State.qosCntWrite
  repeat' first
    | with_reducible first | assumption | apply State.setReg_frame
    | split

theorem State.qosWrite_frame {F r0} (hF : F &&& 32769 = 32769) : ∀ {s off w}, Within F r0 s → Within F r0 (State.qosWrite s off w) := by
  intro s off w h
  unfold State.qosWrite
  repeat' first
    | with_reducible first
      | assumption | apply State.qosCfgWrite_frame | apply State.qosSchedWrite_frame | apply State.qosClsWrite_frame
      | apply State.wf_frame | apply State.qosPortWrite_frame | apply State.qosCntWrite_frame
      | apply State.plainWrite_frame
    | split | exact maskSub hF rfl

theorem execQosConfigWrite_frame {F r0} (hF : F &&& 32773 = 32773) : ∀ {s port off val}, Within F r0 s → WithinR F r0 (execQosConfigWrite port off val s) := by
  intro s port off val h
  unfold execQosConfigWrite
  repeat' first
    | with_reducible first
      | assumption | apply State.access_frame | apply State.qosWrite_frame | apply WithinR.next | intro _
    | split | exact maskSub hF rfl

end Sys2Proof.Machine
end

