-- ==== Sys2Proof/Laws/FrameEngine.lean ====
section
/-!
SUPPORT. Frames of engines, jobs, plans and engine tests: one lemma per operation.
-/
namespace Sys2Proof.Machine

/-! ## Dma -/

theorem State.dmaAccept_frame {F r0} (hF : F &&& 8913185 = 8913185) : ∀ {s c d e share}, Within F r0 s → Within F r0 (State.dmaAccept s c d e share) := by
  intro s c d e share h
  unfold State.dmaAccept
  dsimp only
  repeat' first
    | with_reducible first
      | assumption | apply State.modDma_frame | apply State.traceEvent_frame | apply State.noteUsed_frame
      | apply State.waitEnd_frame
    | split | exact maskSub hF rfl

theorem State.dmaRelease_frame {F r0} (hF : F &&& 8913185 = 8913185) : ∀ {s c d st}, Within F r0 s → Within F r0 (State.dmaRelease s c d st) := by
  intro s c d st h
  unfold State.dmaRelease
  repeat' first
    | with_reducible first
      | assumption | apply State.raiseDone_frame | apply State.traceEvent_frame | apply State.modDma_frame
      | apply Within.foldl | intro _
    | split | exact maskSub hF rfl

theorem State.dmaRun_frame {F r0} {k : State → Desc → State × Nat × Nat} (hk : ∀ r y0 y1, Within F r y0 → Within F r (k y0 y1).1) (hF : F &&& 8913185 = 8913185) : ∀ {s c n die want}, Within F r0 s → Within F r0 (State.dmaRun s c n die want k) := by
  intro s c n die want h
  unfold State.dmaRun
  dsimp only
  repeat' first
    | with_reducible first
      | assumption | apply State.modDesc_frame | apply State.dmaAccept_frame | apply State.finish_frame
      | apply State.dmaRelease_frame | apply hk | apply Within.foldl | intro _
    | split | exact maskSub hF rfl

theorem State.dmaPlaced_frame {F r0} {k : State → Desc → State × Nat × Nat} (hk : ∀ r y0 y1, Within F r y0 → Within F r (k y0 y1).1) (hF : F &&& 8913185 = 8913185) : ∀ {s c n p want}, Within F r0 s → Within F r0 (State.dmaPlaced s c n p want k) := by
  intro s c n p want h
  unfold State.dmaPlaced
  repeat' first
    | with_reducible first
      | assumption | apply State.finish_frame | apply State.dmaRun_frame | apply hk | intro _
    | split

theorem State.dmaOp_frame {F r0} {k : State → Desc → State × Nat × Nat} (hk : ∀ r y0 y1, Within F r y0 → Within F r (k y0 y1).1) (hF : F &&& 8913185 = 8913185) : ∀ {s c n mine place want}, Within F r0 s → Within F r0 (State.dmaOp s c n mine place want k) := by
  intro s c n mine place want h
  unfold State.dmaOp
  repeat' first
    | with_reducible first
      | assumption | apply State.startDesc_frame | apply State.dmaPlaced_frame | apply State.dmaRun_frame | apply hk
      | intro _
    | split

theorem State.dmaSwitch_frame {F r0} (hF : F &&& 8913185 = 8913185) : ∀ {s e c n c' n'}, Within F r0 s → Within F r0 (State.dmaSwitch s e c n c' n') := by
  intro s e c n c' n' h
  unfold State.dmaSwitch
  dsimp only
  repeat' first
    | with_reducible first
      | assumption | apply State.traceEvent_frame | apply State.modDma_frame | apply State.noteUsed_frame
      | apply State.waitEnd_frame
    | split | exact maskSub hF rfl

theorem State.dmaHalt_frame {F r0} (hF : F &&& 8913185 = 8913185) : ∀ {s e c n}, Within F r0 s → Within F r0 (State.dmaHalt s e c n) := by
  intro s e c n h
  unfold State.dmaHalt
  repeat' first
    | with_reducible first | assumption | apply State.modDma_frame | apply State.traceEvent_frame
    | split | exact maskSub hF rfl

theorem execDmaYield_frame {F r0} (hF : F &&& 8913185 = 8913185) : ∀ {s eng}, Within F r0 s → WithinR F r0 (execDmaYield eng s) := by
  intro s eng h
  unfold execDmaYield
  repeat' first
    | with_reducible first
      | assumption | apply State.dmaHalt_frame | apply State.dmaSwitch_frame | apply WithinR.next
    | split

theorem State.countShares_frame {F r0} (hF : F &&& 257 = 257) : ∀ {s d n}, Within F r0 s → Within F r0 (State.countShares s d n) := by
  intro s d n h
  unfold State.countShares
  repeat' with_reducible first | assumption | apply State.moved_frame | apply Within.foldl | intro _

theorem State.countRows_frame {F r0} (hF : F &&& 257 = 257) : ∀ {s d rows rowBytes}, Within F r0 s → Within F r0 (State.countRows s d rows rowBytes) := by
  intro s d rows rowBytes h
  unfold State.countRows
  repeat' with_reducible first | assumption | apply State.moved_frame | apply Within.foldl | intro _

theorem State.copyRun_frame {F r0} (hF : F &&& 387 = 387) : ∀ {s c d}, Within F r0 s → Within F r0 (State.copyRun c s d).1 := by
  intro s c d h
  unfold State.copyRun
  dsimp only
  repeat' first
    | with_reducible first
      | assumption | apply State.windowEcc_frame | apply State.engWrite_frame | apply State.countShares_frame
      | (apply Within.fst; assumption)
    | split | exact maskSub hF rfl

theorem State.fillRun_frame {F r0} (hF : F &&& 387 = 387) : ∀ {s c d}, Within F r0 s → Within F r0 (State.fillRun c s d).1 := by
  intro s c d h
  unfold State.fillRun
  dsimp only
  repeat' first
    | with_reducible first
      | assumption | apply State.engWrite_frame | apply State.countShares_frame | (apply Within.fst; assumption)
    | split | exact maskSub hF rfl

theorem execCopy_frame {F r0} (hF : F &&& 8913315 = 8913315) : ∀ {s ctx num}, Within F r0 s → WithinR F r0 (execCopy ctx num s) := by
  intro s ctx num h
  unfold execCopy
  repeat' first
    | with_reducible first
      | assumption | apply State.dmaOp_frame | apply State.copyRun_frame | (apply Within.fst; assumption)
      | apply WithinR.next | intro _
    | exact maskSub hF rfl

theorem execCopyFill_frame {F r0} (hF : F &&& 8913315 = 8913315) : ∀ {s ctx num}, Within F r0 s → WithinR F r0 (execCopyFill ctx num s) := by
  intro s ctx num h
  unfold execCopyFill
  repeat' first
    | with_reducible first
      | assumption | apply State.dmaOp_frame | apply State.fillRun_frame | (apply Within.fst; assumption)
      | apply WithinR.next | intro _
    | exact maskSub hF rfl

/-! ## SetEng -/

theorem State.modSet_frame {F r0} (hF : F &&& 32 = 32) : ∀ {s e f}, Within F r0 s → Within F r0 (State.modSet s e f) := by
  intro s e f h
  unfold State.modSet
  repeat' with_reducible first | assumption | apply State.modHub_frame

theorem State.modSetOp_frame {F r0} (hF : F &&& 32 = 32) : ∀ {s c n f}, Within F r0 s → Within F r0 (State.modSetOp s c n f) := by
  intro s c n f h
  unfold State.modSetOp
  repeat' first
    | with_reducible first | assumption | apply State.modHub_frame
    | split

theorem State.dropSetOp_frame {F r0} (hF : F &&& 32 = 32) : ∀ {s c n}, Within F r0 s → Within F r0 (State.dropSetOp s c n) := by
  intro s c n h
  unfold State.dropSetOp
  repeat' with_reducible first | assumption | apply State.modHub_frame

theorem State.showSet_frame {F r0} (hF : F &&& 1 = 1) : ∀ {s e}, Within F r0 s → Within F r0 (State.showSet s e) := by
  intro s e h
  unfold State.showSet
  dsimp only
  repeat' first
    | with_reducible first | assumption | apply State.wf_frame
    | split

theorem State.tableFill_frame {F r0} (hF : F &&& 32 = 32) : ∀ {s c d e p}, Within F r0 s → Within F r0 (State.tableFill s c d e p) := by
  intro s c d e p h
  unfold State.tableFill
  dsimp only
  repeat' with_reducible first | assumption | apply State.modSet_frame

theorem State.setScratch_frame {F r0} (hF : F &&& 32 = 32) : ∀ {s e}, Within F r0 s → Within F r0 (State.setScratch s e) := by
  intro s e h
  unfold State.setScratch
  repeat' with_reducible first | assumption | apply State.modSet_frame

theorem State.sramError_frame {F r0} (hF : F &&& 33 = 33) : ∀ {s e}, Within F r0 s → Within F r0 (State.sramError s e) := by
  intro s e h
  unfold State.sramError
  repeat' first
    | with_reducible first | assumption | apply State.bump_frame | apply State.setScratch_frame
    | exact maskSub hF rfl

theorem State.setSoft_frame {F r0} (hF : F &&& 33 = 33) : ∀ {s d}, Within F r0 s → Within F r0 (State.setSoft s d) := by
  intro s d h
  unfold State.setSoft
  dsimp only
  repeat' first
    | with_reducible first
      | assumption | apply State.modSet_frame | apply State.bump_frame | apply Within.foldl | intro _
    | exact maskSub hF rfl

theorem State.setSpill_frame {F r0} (hF : F &&& 163 = 163) : ∀ {s e}, Within F r0 s → Within F r0 (State.setSpill s e) := by
  intro s e h
  unfold State.setSpill
  repeat' first
    | with_reducible first
      | assumption | apply State.modSetOp_frame | apply State.putBytes_frame | apply Within.foldl | intro _
    | split | exact maskSub hF rfl

theorem State.setFetch_frame {F r0} (hF : F &&& 33 = 33) : ∀ {s c d e p first}, Within F r0 s → Within F r0 (State.setFetch s c d e p first) := by
  intro s c d e p first h
  unfold State.setFetch
  dsimp only
  repeat' first
    | with_reducible first
      | assumption | apply State.bump_frame | apply State.setScratch_frame | apply State.tableFill_frame
    | split | exact maskSub hF rfl

theorem State.setLoad_frame {F r0} (hF : F &&& 163 = 163) : ∀ {s c d e p}, Within F r0 s → Within F r0 (State.setLoad s c d e p) := by
  intro s c d e p h
  unfold State.setLoad
  dsimp only
  repeat' first
    | with_reducible first | assumption | apply State.setSpill_frame | apply State.setFetch_frame
    | split | exact maskSub hF rfl

theorem State.setReload_frame {F r0} (hF : F &&& 163 = 163) : ∀ {s c d e p}, Within F r0 s → Within F r0 (State.setReload s c d e p) := by
  intro s c d e p h
  unfold State.setReload
  dsimp only
  repeat' first
    | with_reducible first | assumption | apply State.setFetch_frame | apply State.setSpill_frame
    | split | exact maskSub hF rfl

theorem State.setTake_frame {F r0} (hF : F &&& 8913315 = 8913315) : ∀ {s c d e}, Within F r0 s → Within F r0 (State.setTake s c d e) := by
  intro s c d e h
  unfold State.setTake
  dsimp only
  repeat' first
    | with_reducible first
      | assumption | apply State.setLoad_frame | apply State.modSet_frame | apply State.traceEvent_frame
      | apply State.showSet_frame | apply State.modSetOp_frame | apply State.modDesc_frame | apply State.noteUsed_frame
      | apply State.waitEnd_frame
    | split | exact maskSub hF rfl

theorem State.setPlace_frame {F r0} (hF : F &&& 8913315 = 8913315) : ∀ {s c d}, Within F r0 s → Within F r0 (State.setPlace s c d) := by
  intro s c d h
  unfold State.setPlace
  repeat' first
    | with_reducible first | assumption | apply State.setTake_frame | apply Within.foldl | intro _
    | split

theorem State.setLeave_frame {F r0} (hF : F &&& 8913185 = 8913185) : ∀ {s c d st e}, Within F r0 s → Within F r0 (State.setLeave s c d st e) := by
  intro s c d st e h
  unfold State.setLeave
  dsimp only
  repeat' first
    | with_reducible first
      | assumption | apply State.modSet_frame | apply State.showSet_frame | apply State.raiseDone_frame
      | apply State.traceEvent_frame
    | split | exact maskSub hF rfl

theorem State.setEnd_frame {F r0} (hF : F &&& 8913185 = 8913185) : ∀ {s c d st detail}, Within F r0 s → Within F r0 (State.setEnd s c d st detail) := by
  intro s c d st detail h
  unfold State.setEnd
  dsimp only
  repeat' first
    | with_reducible first
      | assumption | apply State.setLeave_frame | apply State.modSet_frame | apply State.finish_frame
      | apply State.dropSetOp_frame | apply Within.foldl | intro _
    | split | exact maskSub hF rfl

theorem State.setTurn_frame {F r0} (hF : F &&& 8913315 = 8913315) : ∀ {s c d e}, Within F r0 s → Within F r0 (State.setTurn s c d e) := by
  intro s c d e h
  unfold State.setTurn
  repeat' first
    | with_reducible first
      | assumption | apply State.setTake_frame | apply State.traceEvent_frame | apply State.modDesc_frame
      | apply State.setLeave_frame
    | split | exact maskSub hF rfl

theorem State.putAll_frame {F r0} (hF : F &&& 131 = 131) : ∀ {s ws}, Within F r0 s → Within F r0 (State.putAll s ws) := by
  intro s ws h
  unfold State.putAll
  repeat' with_reducible first | assumption | apply State.putBytes_frame | apply Within.foldl | intro _

theorem State.setOverflow_frame {F r0} (hF : F &&& 1 = 1) : ∀ {s c n ovf}, Within F r0 s → Within F r0 (State.setOverflow s c n ovf) := by
  intro s c n ovf h
  unfold State.setOverflow
  repeat' with_reducible first | assumption | apply State.bump_frame | apply Within.foldl | intro _

theorem State.setCompute_frame {F r0} (hF : F &&& 8913315 = 8913315) : ∀ {s c d}, Within F r0 s → Within F r0 (State.setCompute s c d) := by
  intro s c d h
  unfold State.setCompute
  dsimp only
  repeat' first
    | with_reducible first
      | assumption | apply State.setEnd_frame | apply State.sramError_frame | apply State.modSetOp_frame
      | apply State.putAll_frame | apply State.setSoft_frame | apply State.tableFill_frame
      | apply State.setOverflow_frame | apply Within.foldl | intro _
    | split | exact maskSub hF rfl

theorem State.setGo_frame {F r0} (hF : F &&& 8913315 = 8913315) : ∀ {s c n}, Within F r0 s → Within F r0 (State.setGo s c n) := by
  intro s c n h
  unfold State.setGo
  dsimp only
  repeat' first
    | with_reducible first
      | assumption | apply State.setEnd_frame | apply State.setPlace_frame | apply State.setTurn_frame
      | apply State.setCompute_frame | apply Within.foldl | intro _
    | split | exact maskSub hF rfl

theorem State.setBegin_frame {F r0} (hF : F &&& 8913315 = 8913315) : ∀ {s c d}, Within F r0 s → Within F r0 (State.setBegin s c d) := by
  intro s c d h
  unfold State.setBegin
  dsimp only
  repeat' first
    | with_reducible first
      | assumption | apply State.finish_frame | apply State.setGo_frame | apply State.modHub_frame
    | split | exact maskSub hF rfl

theorem State.setOpRow_frame {F r0} (hF : F &&& 8913315 = 8913315) : ∀ {s c n mine}, Within F r0 s → Within F r0 (State.setOpRow s c n mine) := by
  intro s c n mine h
  unfold State.setOpRow
  repeat' first
    | with_reducible first
      | assumption | apply State.startDesc_frame | apply State.setBegin_frame | apply State.setGo_frame | intro _
    | split | exact maskSub hF rfl

theorem execHashBuild_frame {F r0} (hF : F &&& 8913315 = 8913315) : ∀ {s ctx num}, Within F r0 s → WithinR F r0 (execHashBuild ctx num s) := by
  intro s ctx num h
  unfold execHashBuild
  repeat' with_reducible first | assumption | apply State.setOpRow_frame | apply WithinR.next

theorem execHashQuery_frame {F r0} (hF : F &&& 8913315 = 8913315) : ∀ {s ctx num}, Within F r0 s → WithinR F r0 (execHashQuery ctx num s) := by
  intro s ctx num h
  unfold execHashQuery
  repeat' with_reducible first | assumption | apply State.setOpRow_frame | apply WithinR.next

theorem execNeighbours_frame {F r0} (hF : F &&& 8913315 = 8913315) : ∀ {s ctx num}, Within F r0 s → WithinR F r0 (execNeighbours ctx num s) := by
  intro s ctx num h
  unfold execNeighbours
  repeat' with_reducible first | assumption | apply State.setOpRow_frame | apply WithinR.next

theorem execKnn_frame {F r0} (hF : F &&& 8913315 = 8913315) : ∀ {s ctx num}, Within F r0 s → WithinR F r0 (execKnn ctx num s) := by
  intro s ctx num h
  unfold execKnn
  repeat' with_reducible first | assumption | apply State.setOpRow_frame | apply WithinR.next

theorem execBall_frame {F r0} (hF : F &&& 8913315 = 8913315) : ∀ {s ctx num}, Within F r0 s → WithinR F r0 (execBall ctx num s) := by
  intro s ctx num h
  unfold execBall
  repeat' with_reducible first | assumption | apply State.setOpRow_frame | apply WithinR.next

theorem execSort_frame {F r0} (hF : F &&& 8913315 = 8913315) : ∀ {s ctx num}, Within F r0 s → WithinR F r0 (execSort ctx num s) := by
  intro s ctx num h
  unfold execSort
  repeat' with_reducible first | assumption | apply State.setOpRow_frame | apply WithinR.next

theorem execTopk_frame {F r0} (hF : F &&& 8913315 = 8913315) : ∀ {s ctx num}, Within F r0 s → WithinR F r0 (execTopk ctx num s) := by
  intro s ctx num h
  unfold execTopk
  repeat' with_reducible first | assumption | apply State.setOpRow_frame | apply WithinR.next

theorem execSegmentReduce_frame {F r0} (hF : F &&& 8913315 = 8913315) : ∀ {s ctx num}, Within F r0 s → WithinR F r0 (execSegmentReduce ctx num s) := by
  intro s ctx num h
  unfold execSegmentReduce
  repeat' with_reducible first | assumption | apply State.setOpRow_frame | apply WithinR.next

theorem execGatherRows_frame {F r0} (hF : F &&& 8913315 = 8913315) : ∀ {s ctx num}, Within F r0 s → WithinR F r0 (execGatherRows ctx num s) := by
  intro s ctx num h
  unfold execGatherRows
  repeat' with_reducible first | assumption | apply State.setOpRow_frame | apply WithinR.next

theorem execScatterGrid_frame {F r0} (hF : F &&& 8913315 = 8913315) : ∀ {s ctx num}, Within F r0 s → WithinR F r0 (execScatterGrid ctx num s) := by
  intro s ctx num h
  unfold execScatterGrid
  repeat' with_reducible first | assumption | apply State.setOpRow_frame | apply WithinR.next

theorem execTableBuildWaitEnd_frame {F r0} (hF : F &&& 8913315 = 8913315) : ∀ {s ctx num}, Within F r0 s → WithinR F r0 (execTableBuildWaitEnd ctx num s) := by
  intro s ctx num h
  unfold execTableBuildWaitEnd
  repeat' first
    | with_reducible first
      | assumption | apply State.setGo_frame | apply State.modSetOp_frame | apply WithinR.next
    | split | exact maskSub hF rfl

theorem State.setChunk_frame {F r0} (hF : F &&& 32 = 32) : ∀ {s e d}, Within F r0 s → Within F r0 (State.setChunk s e d) := by
  intro s e d h
  unfold State.setChunk
  repeat' with_reducible first | assumption | apply State.modSet_frame

theorem State.chunkEnd_frame {F r0} (hF : F &&& 8913185 = 8913185) : ∀ {s eng}, Within F r0 s → Within F r0 (State.chunkEnd s eng) := by
  intro s eng h
  unfold State.chunkEnd
  dsimp only
  repeat' first
    | with_reducible first
      | assumption | apply State.setChunk_frame | apply State.traceEvent_frame | apply State.showSet_frame
      | apply State.modSet_frame
    | split | exact maskSub hF rfl

theorem execSetOpChunkBoundary_frame {F r0} (hF : F &&& 8913185 = 8913185) : ∀ {s at'}, Within F r0 s → WithinR F r0 (execSetOpChunkBoundary at' s) := by
  intro s at' h
  unfold execSetOpChunkBoundary
  repeat' first
    | with_reducible first
      | assumption | apply State.chunkEnd_frame | apply State.modSet_frame | apply Within.foldl | apply WithinR.next
      | intro _
    | exact maskSub hF rfl

theorem execSetOpResume_frame {F r0} (hF : F &&& 8913315 = 8913315) : ∀ {s eng}, Within F r0 s → WithinR F r0 (execSetOpResume eng s) := by
  intro s eng h
  unfold execSetOpResume
  dsimp only
  repeat' first
    | with_reducible first
      | assumption | apply State.modSet_frame | apply State.traceEvent_frame | apply State.showSet_frame
      | apply State.setReload_frame | apply WithinR.next
    | split | exact maskSub hF rfl

theorem execSetOpComplete_frame {F r0} (hF : F &&& 8913315 = 8913315) : ∀ {s ctx num}, Within F r0 s → WithinR F r0 (execSetOpComplete ctx num s) := by
  intro s ctx num h
  unfold execSetOpComplete
  repeat' first
    | with_reducible first
      | assumption | apply State.setEnd_frame | apply State.sramError_frame | apply State.engWrite_frame
      | apply State.setSoft_frame | (apply Within.fst; assumption) | apply WithinR.next
    | split | exact maskSub hF rfl

theorem State.freeSets_frame {F r0} (hF : F &&& 33 = 33) : ∀ {s c nums}, Within F r0 s → Within F r0 (State.freeSets s c nums) := by
  intro s c nums h
  unfold State.freeSets
  dsimp only
  repeat' first
    | with_reducible first
      | assumption | apply State.modHub_frame | apply State.showSet_frame | apply Within.foldl | intro _
    | split | exact maskSub hF rfl

/-! ## Grant -/

theorem execSliceGrant_frame {F r0} (hF : F &&& 8919347 = 8919347) : ∀ {s die}, Within F r0 s → WithinR F r0 (execSliceGrant die s) := by
  intro s die h
  unfold execSliceGrant
  repeat' first
    | with_reducible first
      | assumption | apply State.startTest_frame | apply State.place_frame | apply State.setBaskCount_frame
      | apply State.setTileState_frame | apply State.ungate_frame | apply WithinR.next
    | split | exact maskSub hF rfl

/-! ## Kv -/

theorem State.countScores_frame {F r0} (hF : F &&& 1 = 1) : ∀ {s}, Within F r0 s → Within F r0 (State.countScores s) := by
  intro s h
  unfold State.countScores
  repeat' with_reducible first | assumption | apply State.wf_frame

theorem State.scoreRegister_frame {F r0} (hF : F &&& 1 = 1) : ∀ {s c seq}, Within F r0 s → Within F r0 (State.scoreRegister s c seq) := by
  intro s c seq h
  unfold State.scoreRegister
  dsimp only
  repeat' first
    | with_reducible first | assumption | apply State.countScores_frame | apply State.wf_frame
    | split

theorem State.scoreRelease_frame {F r0} (hF : F &&& 1 = 1) : ∀ {s seq}, Within F r0 s → Within F r0 (State.scoreRelease s seq) := by
  intro s seq h
  unfold State.scoreRelease
  repeat' first
    | with_reducible first | assumption | apply State.countScores_frame | apply State.setReg_frame
    | split

theorem kvFail_frame {F r0} (hF : F &&& 0 = 0) : ∀ {s d e}, Within F r0 s → Within F r0 (kvFail s d e).1 := by
  intro s d e h
  unfold kvFail
  repeat' first
    | with_reducible first | assumption
    | split

theorem State.kvCommit_frame {F r0} (hF : F &&& 33 = 33) : ∀ {s c d q k}, Within F r0 s → Within F r0 (State.kvCommit s c d q k) := by
  intro s c d q k h
  unfold State.kvCommit
  dsimp only
  repeat' first
    | with_reducible first
      | assumption | apply State.bump_frame | apply State.modJob_frame | apply State.scoreRelease_frame
    | split | exact maskSub hF rfl

theorem State.kvRun_frame {F r0} (hF : F &&& 419 = 419) : ∀ {s c d}, Within F r0 s → Within F r0 (State.kvRun c s d).1 := by
  intro s c d h
  unfold State.kvRun
  dsimp only
  repeat' first
    | with_reducible first
      | assumption | apply kvFail_frame | apply State.bump_frame | apply State.scoreRegister_frame
      | apply State.countRows_frame | apply State.kvCommit_frame | apply State.putAll_frame
      | (apply Within.fst; assumption)
    | split | exact maskSub hF rfl

theorem State.dmaAssign_frame {F r0} (hF : F &&& 32 = 32) : ∀ {s c d die want}, Within F r0 s → Within F r0 (State.dmaAssign s c d die want) := by
  intro s c d die want h
  unfold State.dmaAssign
  repeat' with_reducible first | assumption | apply State.modDesc_frame

theorem State.kvRow_frame {F r0} (hF : F &&& 8913315 = 8913315) : ∀ {s c n mine}, Within F r0 s → Within F r0 (State.kvRow s c n mine) := by
  intro s c n mine h
  unfold State.kvRow
  dsimp only
  repeat' first
    | with_reducible first
      | assumption | apply State.startDesc_frame | apply State.finish_frame | apply State.dmaAssign_frame
      | apply State.dmaRun_frame | apply State.kvRun_frame | apply State.dmaPlaced_frame
      | (apply Within.fst; assumption) | intro _
    | split | exact maskSub hF rfl

theorem execAppend_frame {F r0} (hF : F &&& 8913315 = 8913315) : ∀ {s ctx num}, Within F r0 s → WithinR F r0 (execAppend ctx num s) := by
  intro s ctx num h
  unfold execAppend
  repeat' with_reducible first | assumption | apply State.kvRow_frame | apply WithinR.next

theorem execAttendFetch_frame {F r0} (hF : F &&& 8913315 = 8913315) : ∀ {s ctx num}, Within F r0 s → WithinR F r0 (execAttendFetch ctx num s) := by
  intro s ctx num h
  unfold execAttendFetch
  repeat' with_reducible first | assumption | apply State.kvRow_frame | apply WithinR.next

theorem execEvictTruncate_frame {F r0} (hF : F &&& 8913315 = 8913315) : ∀ {s ctx num}, Within F r0 s → WithinR F r0 (execEvictTruncate ctx num s) := by
  intro s ctx num h
  unfold execEvictTruncate
  repeat' with_reducible first | assumption | apply State.kvRow_frame | apply WithinR.next

theorem execEvictLowestScored_frame {F r0} (hF : F &&& 8913315 = 8913315) : ∀ {s ctx num}, Within F r0 s → WithinR F r0 (execEvictLowestScored ctx num s) := by
  intro s ctx num h
  unfold execEvictLowestScored
  repeat' with_reducible first | assumption | apply State.kvRow_frame | apply WithinR.next

theorem execEvictOnePosition_frame {F r0} (hF : F &&& 8913315 = 8913315) : ∀ {s ctx num}, Within F r0 s → WithinR F r0 (execEvictOnePosition ctx num s) := by
  intro s ctx num h
  unfold execEvictOnePosition
  repeat' with_reducible first | assumption | apply State.kvRow_frame | apply WithinR.next

theorem execFree_frame {F r0} (hF : F &&& 8913315 = 8913315) : ∀ {s ctx num}, Within F r0 s → WithinR F r0 (execFree ctx num s) := by
  intro s ctx num h
  unfold execFree
  repeat' with_reducible first | assumption | apply State.kvRow_frame | apply WithinR.next

theorem State.kvRestoreOne_frame {F r0} (hF : F &&& 35 = 35) : ∀ {s c t}, Within F r0 s → Within F r0 (State.kvRestoreOne s c t).1 := by
  intro s c t h
  unfold State.kvRestoreOne
  dsimp only
  repeat' first
    | with_reducible first | assumption | apply State.modHub_frame | apply State.memWrite_frame
    | split | exact maskSub hF rfl

theorem State.kvRestore_frame {F r} (hF : F &&& 35 = 35) : ∀ {s c l}, Within F r s → Within F r (State.kvRestore s c l).1 := by
  intro s c l
  induction l generalizing s with
  | nil => exact fun h => h
  | cons t l ih => exact fun h => ih (State.kvRestoreOne_frame (maskSub hF rfl) h)

theorem State.kvJobEnd_frame {F r0} (hF : F &&& 3 = 3) : ∀ {s ts ok}, Within F r0 s → Within F r0 (State.kvJobEnd s ts ok) := by
  intro s ts ok h
  unfold State.kvJobEnd
  dsimp only
  repeat' first
    | with_reducible first
      | assumption | apply State.memWrite_frame | apply State.scoreRelease_frame | apply Within.foldl | intro _
    | split | exact maskSub hF rfl

/-! ## Coll -/

theorem State.modColl_frame {F r0} (hF : F &&& 32 = 32) : ∀ {s tag f}, Within F r0 s → Within F r0 (State.modColl s tag f) := by
  intro s tag f h
  unfold State.modColl
  repeat' first
    | with_reducible first | assumption | apply State.modHub_frame
    | split

theorem State.dropColl_frame {F r0} (hF : F &&& 32 = 32) : ∀ {s x}, Within F r0 s → Within F r0 (State.dropColl s x) := by
  intro s x h
  unfold State.dropColl
  repeat' with_reducible first | assumption | apply State.modHub_frame

theorem State.collEnd_frame {F r0} (hF : F &&& 8913185 = 8913185) : ∀ {s x st detail}, Within F r0 s → Within F r0 (State.collEnd s x st detail) := by
  intro s x st detail h
  unfold State.collEnd
  repeat' first
    | with_reducible first
      | assumption | apply State.finish_frame | apply State.dmaRelease_frame | apply State.dropColl_frame
      | apply Within.foldl | intro _
    | split | exact maskSub hF rfl

theorem State.collSpoil_frame {F r0} (hF : F &&& 8913313 = 8913313) : ∀ {s x heads}, Within F r0 s → Within F r0 (State.collSpoil s x heads) := by
  intro s x heads h
  unfold State.collSpoil
  dsimp only
  repeat' first
    | with_reducible first
      | assumption | apply State.emit_frame | apply State.modHub_frame | apply State.collEnd_frame | apply Within.foldl
      | intro _
    | exact maskSub hF rfl

theorem State.collCheck_frame {F r0} (hF : F &&& 8913313 = 8913313) : ∀ {s tag}, Within F r0 s → Within F r0 (State.collCheck s tag) := by
  intro s tag h
  unfold State.collCheck
  repeat' first
    | with_reducible first | assumption | apply State.collSpoil_frame | apply State.collEnd_frame
    | split | exact maskSub hF rfl

theorem State.noteLanded_frame {F r0} (hF : F &&& 8913313 = 8913313) : ∀ {s a n h}, Within F r0 s → Within F r0 (State.noteLanded s a n h) := by
  intro s a n h h
  unfold State.noteLanded
  repeat' first
    | with_reducible first | assumption | apply State.collCheck_frame | apply State.modHub_frame
    | split | exact maskSub hF rfl

theorem State.collLeave_frame {F r0} (hF : F &&& 32 = 32) : ∀ {s tag rank}, Within F r0 s → Within F r0 (State.collLeave s tag rank) := by
  intro s tag rank h
  unfold State.collLeave
  repeat' first
    | with_reducible first | assumption | apply State.modHub_frame
    | split

theorem State.collCheckAll_frame {F r0} (hF : F &&& 8913313 = 8913313) : ∀ {s}, Within F r0 s → Within F r0 (State.collCheckAll s) := by
  intro s h
  unfold State.collCheckAll
  repeat' with_reducible first | assumption | apply State.collCheck_frame | apply Within.foldl | intro _

theorem State.collUnspoil_frame {F r0} (hF : F &&& 32 = 32) : ∀ {s tag rank}, Within F r0 s → Within F r0 (State.collUnspoil s tag rank) := by
  intro s tag rank h
  unfold State.collUnspoil
  repeat' first
    | with_reducible first | assumption | apply State.modHub_frame
    | split

theorem State.collJoin_frame {F r0} (hF : F &&& 8913313 = 8913313) : ∀ {s c d l}, Within F r0 s → Within F r0 (State.collJoin s c d l) := by
  intro s c d l h
  unfold State.collJoin
  dsimp only
  repeat' first
    | with_reducible first
      | assumption | apply State.finish_frame | apply State.collSpoil_frame | apply State.collCheck_frame
      | apply State.modColl_frame | apply State.collUnspoil_frame | apply State.modHub_frame
    | split | exact maskSub hF rfl

theorem State.collSettle_frame {F r0} (hF : F &&& 8913185 = 8913185) : ∀ {s tag}, Within F r0 s → Within F r0 (State.collSettle s tag) := by
  intro s tag h
  unfold State.collSettle
  repeat' first
    | with_reducible first | assumption | apply State.collEnd_frame
    | split

theorem State.collPush_frame {F r0} (hF : F &&& 8913315 = 8913315) : ∀ {s c d x}, Within F r0 s → Within F r0 (State.collPush s c d x) := by
  intro s c d x h
  unfold State.collPush
  dsimp only
  repeat' first
    | with_reducible first
      | assumption | apply State.finish_frame | apply State.dmaRelease_frame | apply State.collLeave_frame
      | apply State.engWrite_frame | apply State.emit_frame | apply State.modColl_frame | apply State.countShares_frame
      | apply State.collSettle_frame | (apply Within.fst; assumption) | apply Within.foldl | apply Within.foldl_fst
      | intro _
    | split | exact maskSub hF rfl

theorem State.collGo_frame {F r0} (hF : F &&& 8913315 = 8913315) : ∀ {s c n}, Within F r0 s → Within F r0 (State.collGo s c n) := by
  intro s c n h
  unfold State.collGo
  dsimp only
  repeat' first
    | with_reducible first
      | assumption | apply State.collSettle_frame | apply State.collEnd_frame | apply State.dmaAssign_frame
      | apply State.dmaAccept_frame | apply State.collPush_frame | apply Within.foldl | intro _
    | split | exact maskSub hF rfl

theorem State.collBegin_frame {F r0} (hF : F &&& 8913315 = 8913315) : ∀ {s c d}, Within F r0 s → Within F r0 (State.collBegin s c d) := by
  intro s c d h
  unfold State.collBegin
  dsimp only
  repeat' first
    | with_reducible first
      | assumption | apply State.finish_frame | apply State.collGo_frame | apply State.collJoin_frame
    | split | exact maskSub hF rfl

theorem State.collRow_frame {F r0} (hF : F &&& 8913315 = 8913315) : ∀ {s c n mine}, Within F r0 s → Within F r0 (State.collRow s c n mine) := by
  intro s c n mine h
  unfold State.collRow
  repeat' first
    | with_reducible first
      | assumption | apply State.startDesc_frame | apply State.collBegin_frame | apply State.collGo_frame | intro _
    | split | exact maskSub hF rfl

theorem execAllGather_frame {F r0} (hF : F &&& 8913315 = 8913315) : ∀ {s ctx num}, Within F r0 s → WithinR F r0 (execAllGather ctx num s) := by
  intro s ctx num h
  unfold execAllGather
  repeat' with_reducible first | assumption | apply State.collRow_frame | apply WithinR.next

theorem execReduce_frame {F r0} (hF : F &&& 8913315 = 8913315) : ∀ {s ctx num}, Within F r0 s → WithinR F r0 (execReduce ctx num s) := by
  intro s ctx num h
  unfold execReduce
  repeat' with_reducible first | assumption | apply State.collRow_frame | apply WithinR.next

theorem State.collCombine_frame {F r0} (hF : F &&& 8913315 = 8913315) : ∀ {s c d x}, Within F r0 s → Within F r0 (State.collCombine s c d x) := by
  intro s c d x h
  unfold State.collCombine
  dsimp only
  repeat' first
    | with_reducible first
      | assumption | apply State.collEnd_frame | apply State.engWrite_frame | apply State.bump_frame
      | (apply Within.fst; assumption)
    | split | exact maskSub hF rfl

theorem execReduceCombine_frame {F r0} (hF : F &&& 8913315 = 8913315) : ∀ {s ctx num}, Within F r0 s → WithinR F r0 (execReduceCombine ctx num s) := by
  intro s ctx num h
  unfold execReduceCombine
  repeat' first
    | with_reducible first | assumption | apply State.collCombine_frame | apply WithinR.next
    | split

theorem State.freeColls_frame {F r0} (hF : F &&& 32 = 32) : ∀ {s c nums}, Within F r0 s → Within F r0 (State.freeColls s c nums) := by
  intro s c nums h
  unfold State.freeColls
  repeat' with_reducible first | assumption | apply State.modHub_frame

theorem State.collDeadline_frame {F r0} (hF : F &&& 8913185 = 8913185) : ∀ {s c nums}, Within F r0 s → Within F r0 (State.collDeadline s c nums) := by
  intro s c nums h
  unfold State.collDeadline
  repeat' with_reducible first | assumption | apply State.collEnd_frame | apply Within.foldl | intro _

/-! ## Fetch -/

theorem State.enterWindow_frame {F r0} (hF : F &&& 33 = 33) : ∀ {s c d}, Within F r0 s → Within F r0 (State.enterWindow s c d) := by
  intro s c d h
  unfold State.enterWindow
  repeat' first
    | with_reducible first | assumption | apply State.setInflight_frame | apply State.modCtx_frame
    | exact maskSub hF rfl

theorem State.fetchVerdict_frame {F r0} (hF : F &&& 8913185 = 8913185) : ∀ {s c d full}, Within F r0 s → Within F r0 (State.fetchVerdict s c d full) := by
  intro s c d full h
  unfold State.fetchVerdict
  dsimp only
  repeat' first
    | with_reducible first | assumption | apply State.finish_frame | apply State.modCtx_frame
    | split | exact maskSub hF rfl

theorem State.fetchRing_frame {F r0} (hF : F &&& 8913185 = 8913185) : ∀ {s c}, Within F r0 s → Within F r0 (State.fetchRing s c) := by
  intro s c h
  unfold State.fetchRing
  dsimp only
  repeat' first
    | with_reducible first
      | assumption | apply State.modCtx_frame | apply State.wf_frame | apply State.modDesc_frame
      | apply State.enterWindow_frame | apply State.modJobOf_frame | apply State.fetchVerdict_frame
    | split | exact maskSub hF rfl

theorem State.fetchReplay_frame {F r0} (hF : F &&& 8913185 = 8913185) : ∀ {s c j r}, Within F r0 s → Within F r0 (State.fetchReplay s c j r) := by
  intro s c j r h
  unfold State.fetchReplay
  dsimp only
  repeat' first
    | with_reducible first
      | assumption | apply State.modJob_frame | apply State.enterWindow_frame | apply State.fetchVerdict_frame
    | exact maskSub hF rfl

theorem State.fetchRest_frame {F r0} (hF : F &&& 33 = 33) : ∀ {s c r st att}, Within F r0 s → Within F r0 (State.fetchRest s c r st att) := by
  intro s c r st att h
  unfold State.fetchRest
  dsimp only
  repeat' first
    | with_reducible first | assumption | apply State.modCtx_frame | apply State.enterWindow_frame
    | exact maskSub hF rfl

theorem execDescriptorFetch_frame {F r0} (hF : F &&& 8913185 = 8913185) : ∀ {s ctx}, Within F r0 s → WithinR F r0 (execDescriptorFetch ctx s) := by
  intro s ctx h
  unfold execDescriptorFetch
  dsimp only
  repeat' first
    | with_reducible first
      | assumption | apply State.fetchRest_frame | apply State.fetchReplay_frame | apply State.fetchRing_frame
      | apply WithinR.next
    | split | exact maskSub hF rfl

/-! ## Launch -/

theorem execKernel_frame {F r0} (hF : F &&& 8913185 = 8913185) : ∀ {s ctx num}, Within F r0 s → WithinR F r0 (execKernel ctx num s) := by
  intro s ctx num h
  unfold execKernel
  repeat' first
    | with_reducible first
      | assumption | apply State.startDesc_frame | apply State.finish_frame | apply State.modHub_frame
      | apply WithinR.next | intro _
    | split | exact maskSub hF rfl

theorem execFence_frame {F r0} (hF : F &&& 8913185 = 8913185) : ∀ {s ctx num}, Within F r0 s → WithinR F r0 (execFence ctx num s) := by
  intro s ctx num h
  unfold execFence
  repeat' first
    | with_reducible first
      | assumption | apply State.startDesc_frame | apply State.finish_frame | apply WithinR.next | intro _

theorem State.openJob_frame {F r0} (hF : F &&& 8913185 = 8913185) : ∀ {s c d}, Within F r0 s → Within F r0 (State.openJob s c d) := by
  intro s c d h
  unfold State.openJob
  dsimp only
  repeat' first
    | with_reducible first
      | assumption | apply State.modHub_frame | apply State.modCtx_frame | apply State.modJob_frame
      | apply State.wf_frame | apply State.setFlag_frame | apply State.finish_frame
    | split | exact maskSub hF rfl

theorem execJobBegin_frame {F r0} (hF : F &&& 8913185 = 8913185) : ∀ {s ctx num}, Within F r0 s → WithinR F r0 (execJobBegin ctx num s) := by
  intro s ctx num h
  unfold execJobBegin
  repeat' first
    | with_reducible first
      | assumption | apply State.startDesc_frame | apply State.openJob_frame | apply State.finish_frame
      | apply WithinR.next | intro _
    | split

theorem execJobEnd_frame {F r0} (hF : F &&& 8913185 = 8913185) : ∀ {s ctx num}, Within F r0 s → WithinR F r0 (execJobEnd ctx num s) := by
  intro s ctx num h
  unfold execJobEnd
  repeat' first
    | with_reducible first
      | assumption | apply State.startDesc_frame | apply State.finish_frame | apply WithinR.next | intro _
    | split

theorem State.signalRun_frame {F r0} (hF : F &&& 8913315 = 8913315) : ∀ {s c d}, Within F r0 s → Within F r0 (State.signalRun s c d) := by
  intro s c d h
  unfold State.signalRun
  dsimp only
  repeat' first
    | with_reducible first
      | assumption | apply State.finishErr_frame | apply State.finish_frame | apply State.emit_frame
      | apply State.tick_frame | apply State.memWrite_frame
    | split | exact maskSub hF rfl

theorem State.signal_frame {F r0} (hF : F &&& 8913315 = 8913315) : ∀ {s c n op}, Within F r0 s → Within F r0 (State.signal s c n op) := by
  intro s c n op h
  unfold State.signal
  repeat' first
    | with_reducible first | assumption | apply State.startDesc_frame | apply State.signalRun_frame | intro _
    | exact maskSub hF rfl

theorem execSignalSet_frame {F r0} (hF : F &&& 8913315 = 8913315) : ∀ {s ctx num}, Within F r0 s → WithinR F r0 (execSignalSet ctx num s) := by
  intro s ctx num h
  unfold execSignalSet
  repeat' with_reducible first | assumption | apply State.signal_frame | apply WithinR.next

theorem execSignalAdd_frame {F r0} (hF : F &&& 8913315 = 8913315) : ∀ {s ctx num}, Within F r0 s → WithinR F r0 (execSignalAdd ctx num s) := by
  intro s ctx num h
  unfold execSignalAdd
  repeat' with_reducible first | assumption | apply State.signal_frame | apply WithinR.next

theorem execSignalMax_frame {F r0} (hF : F &&& 8913315 = 8913315) : ∀ {s ctx num}, Within F r0 s → WithinR F r0 (execSignalMax ctx num s) := by
  intro s ctx num h
  unfold execSignalMax
  repeat' with_reducible first | assumption | apply State.signal_frame | apply WithinR.next

theorem State.waitEval_frame {F r0} (hF : F &&& 8913185 = 8913185) : ∀ {s c d}, Within F r0 s → Within F r0 (State.waitEval s c d) := by
  intro s c d h
  unfold State.waitEval
  dsimp only
  repeat' first
    | with_reducible first | assumption | apply State.finish_frame | apply State.finishErr_frame
    | split

theorem execWait_frame {F r0} (hF : F &&& 8913185 = 8913185) : ∀ {s ctx num}, Within F r0 s → WithinR F r0 (execWait ctx num s) := by
  intro s ctx num h
  unfold execWait
  repeat' first
    | with_reducible first
      | assumption | apply State.startDesc_frame | apply State.waitEval_frame | apply WithinR.next | intro _

theorem execWaitReevaluate_frame {F r0} (hF : F &&& 8913185 = 8913185) : ∀ {s ctx num}, Within F r0 s → WithinR F r0 (execWaitReevaluate ctx num s) := by
  intro s ctx num h
  unfold execWaitReevaluate
  repeat' first
    | with_reducible first | assumption | apply State.waitEval_frame | apply WithinR.next
    | split

theorem execWaitTimeout_frame {F r0} (hF : F &&& 8913185 = 8913185) : ∀ {s ctx num}, Within F r0 s → WithinR F r0 (execWaitTimeout ctx num s) := by
  intro s ctx num h
  unfold execWaitTimeout
  repeat' first
    | with_reducible first | assumption | apply State.finish_frame | apply WithinR.next
    | split

theorem execTimestamp_frame {F r0} (hF : F &&& 8913315 = 8913315) : ∀ {s ctx num}, Within F r0 s → WithinR F r0 (execTimestamp ctx num s) := by
  intro s ctx num h
  unfold execTimestamp
  repeat' first
    | with_reducible first
      | assumption | apply State.startDesc_frame | apply State.engWrite_frame | apply State.finishErr_frame
      | apply State.finish_frame | (apply Within.fst; assumption) | apply WithinR.next | intro _
    | split | exact maskSub hF rfl

/-! ## Slots -/

theorem State.notify_frame {F r0} (hF : F &&& 32 = 32) : ∀ {s sl seq}, Within F r0 s → Within F r0 (State.notify s sl seq) := by
  intro s sl seq h
  unfold State.notify
  dsimp only
  repeat' first
    | with_reducible first | assumption | apply State.modHub_frame
    | split

theorem State.postSlot_frame {F r0} (hF : F &&& 8355 = 8355) : ∀ {s sl img tag poster}, Within F r0 s → Within F r0 (State.postSlot s sl img tag poster) := by
  intro s sl img tag poster h
  unfold State.postSlot
  dsimp only
  repeat' first
    | with_reducible first
      | assumption | apply State.notify_frame | apply State.modHub_frame | apply State.calProposal_frame
    | split | exact maskSub hF rfl

theorem State.resultPost_frame {F r0} (hF : F &&& 8921507 = 8921507) : ∀ {s c d}, Within F r0 s → Within F r0 (State.resultPost s c d) := by
  intro s c d h
  unfold State.resultPost
  dsimp only
  repeat' first
    | with_reducible first
      | assumption | apply State.finish_frame | apply State.finishErr_frame | apply State.postSlot_frame
    | split | exact maskSub hF rfl

theorem execResultPost_frame {F r0} (hF : F &&& 8921507 = 8921507) : ∀ {s ctx num}, Within F r0 s → WithinR F r0 (execResultPost ctx num s) := by
  intro s ctx num h
  unfold execResultPost
  repeat' first
    | with_reducible first
      | assumption | apply State.startDesc_frame | apply State.resultPost_frame | apply WithinR.next | intro _
    | exact maskSub hF rfl

/-! ## TestMech -/

theorem execTestDue_frame {F r0} (hF : F &&& 4720641 = 4720641) : ∀ {s eng}, Within F r0 s → WithinR F r0 (execTestDue eng s) := by
  intro s eng h
  unfold execTestDue
  dsimp only
  repeat' first
    | with_reducible first
      | assumption | apply State.entryCheck_frame | apply State.modTest_frame | apply State.idleExit_frame
      | apply WithinR.next
    | split | exact maskSub hF rfl

theorem State.testsOnExit_frame {F r0} (hF : F &&& 2049 = 2049) : ∀ {s mine}, Within F r0 s → Within F r0 (State.testsOnExit s mine) := by
  intro s mine h
  unfold State.testsOnExit
  repeat' first
    | with_reducible first
      | assumption | apply State.modTest_frame | apply State.setUntested_frame | apply Within.foldl | intro _
    | split | exact maskSub hF rfl

theorem State.tiePass_frame {F r0} (hF : F &&& 1 = 1) : ∀ {s e}, Within F r0 s → Within F r0 (State.tiePass s e) := by
  intro s e h
  unfold State.tiePass
  repeat' first
    | with_reducible first | assumption | apply State.wf_frame
    | split

theorem State.testPassed_frame {F r0} (hF : F &&& 2081 = 2081) : ∀ {s e}, Within F r0 s → Within F r0 (State.testPassed s e) := by
  intro s e h
  unfold State.testPassed
  dsimp only
  repeat' first
    | with_reducible first
      | assumption | apply State.modTest_frame | apply State.tiePass_frame | apply State.bump_frame
      | apply State.setTestFault_frame | apply State.setUntested_frame | apply State.setUnitState_frame
      | apply State.modHub_frame
    | exact maskSub hF rfl

theorem State.selfCheckCause_frame {F r0} (hF : F &&& 32 = 32) : ∀ {s e}, Within F r0 s → Within F r0 (State.selfCheckCause s e) := by
  intro s e h
  unfold State.selfCheckCause
  dsimp only
  repeat' first
    | with_reducible first | assumption | apply State.modHub_frame
    | split

theorem State.modRun_frame {F r0} (hF : F &&& 16384 = 16384) : ∀ {s f}, Within F r0 s → Within F r0 (State.modRun s f) := by
  intro s f h
  unfold State.modRun
  repeat' with_reducible first | assumption | apply State.modPlan_frame

theorem State.redeal_frame {F r0} (hF : F &&& 16384 = 16384) : ∀ {s e}, Within F r0 s → Within F r0 (State.redeal s e) := by
  intro s e h
  unfold State.redeal
  dsimp only
  repeat' first
    | with_reducible first | assumption | apply State.modRun_frame
    | split

theorem State.testFailed_frame {F r0} (hF : F &&& 18465 = 18465) : ∀ {s e got}, Within F r0 s → Within F r0 (State.testFailed s e got) := by
  intro s e got h
  unfold State.testFailed
  dsimp only
  repeat' first
    | with_reducible first
      | assumption | apply State.modTest_frame | apply State.bump_frame | apply State.setUnitState_frame
      | apply State.setTestFault_frame | apply State.wf_frame | apply State.redeal_frame
      | apply State.selfCheckCause_frame | apply State.raiseIrq_frame
    | exact maskSub hF rfl

theorem execTestSliceComplete_frame {F r0} (hF : F &&& 18465 = 18465) : ∀ {s eng got want}, Within F r0 s → WithinR F r0 (execTestSliceComplete eng got want s) := by
  intro s eng got want h
  unfold execTestSliceComplete
  dsimp only
  repeat' first
    | with_reducible first
      | assumption | apply State.testFailed_frame | apply State.testPassed_frame | apply State.modTest_frame
      | apply State.setUnitState_frame | apply WithinR.next
    | split | exact maskSub hF rfl

theorem execTestDeadline_frame {F r0} (hF : F &&& 2049 = 2049) : ∀ {s eng}, Within F r0 s → WithinR F r0 (execTestDeadline eng s) := by
  intro s eng h
  unfold execTestDeadline
  dsimp only
  repeat' first
    | with_reducible first
      | assumption | apply State.bump_frame | apply State.setUntested_frame | apply State.modTest_frame
      | apply WithinR.next
    | split | exact maskSub hF rfl

theorem State.retest_frame {F r0} (hF : F &&& 4720641 = 4720641) : ∀ {s e}, Within F r0 s → Within F r0 (State.retest s e) := by
  intro s e h
  unfold State.retest
  repeat' first
    | with_reducible first
      | assumption | apply State.entryCheck_frame | apply State.modTest_frame | apply State.setFlag_frame
    | split | exact maskSub hF rfl

theorem execRetest_frame {F r0} (hF : F &&& 4720645 = 4720645) : ∀ {s port eng}, Within F r0 s → WithinR F r0 (execRetest port eng s) := by
  intro s port eng h
  unfold execRetest
  repeat' first
    | with_reducible first
      | assumption | apply State.access_frame | apply State.retest_frame | apply WithinR.next | intro _
    | exact maskSub hF rfl

theorem State.testsOn_frame {F r0} (hF : F &&& 2049 = 2049) : ∀ {s}, Within F r0 s → Within F r0 (State.testsOn s) := by
  intro s h
  unfold State.testsOn
  dsimp only
  repeat' first
    | with_reducible first | assumption | apply State.modTests_frame | apply State.setFlag_frame
    | split | exact maskSub hF rfl

theorem State.testsOff_frame {F r0} (hF : F &&& 2049 = 2049) : ∀ {s}, Within F r0 s → Within F r0 (State.testsOff s) := by
  intro s h
  unfold State.testsOff
  dsimp only
  repeat' first
    | with_reducible first
      | assumption | apply State.setUntested_frame | apply State.setUnitState_frame | apply State.clrFlag_frame
      | apply State.modTests_frame | apply Within.foldl | intro _
    | split | exact maskSub hF rfl

theorem State.testCfgField_frame {F r0} (hF : F &&& 1 = 1) : ∀ {s f v ok}, Within F r0 s → Within F r0 (State.testCfgField s f v ok) := by
  intro s f v ok h
  unfold State.testCfgField
  repeat' first
    | with_reducible first | assumption | apply State.setFlag_frame | apply State.wf_frame
    | split

theorem State.testCfgWrite_frame {F r0} (hF : F &&& 4720641 = 4720641) : ∀ {s w}, Within F r0 s → Within F r0 (State.testCfgWrite s w) := by
  intro s w h
  unfold State.testCfgWrite
  dsimp only
  repeat' first
    | with_reducible first
      | assumption | apply State.clrFlag_frame | apply State.wf_frame | apply State.testCfgField_frame
      | apply State.entryCheck_frame | apply State.setFlag_frame | apply State.testsOn_frame
      | apply State.testsOff_frame
    | split | exact maskSub hF rfl

theorem execTestEnable_frame {F r0} (hF : F &&& 4720645 = 4720645) : ∀ {s port}, Within F r0 s → WithinR F r0 (execTestEnable port s) := by
  intro s port h
  unfold execTestEnable
  repeat' first
    | with_reducible first
      | assumption | apply State.access_frame | apply State.testCfgWrite_frame | apply WithinR.next | intro _
    | exact maskSub hF rfl

theorem execTestDisable_frame {F r0} (hF : F &&& 4720645 = 4720645) : ∀ {s port}, Within F r0 s → WithinR F r0 (execTestDisable port s) := by
  intro s port h
  unfold execTestDisable
  repeat' first
    | with_reducible first
      | assumption | apply State.access_frame | apply State.testCfgWrite_frame | apply WithinR.next | intro _
    | exact maskSub hF rfl

theorem State.testsDieReset_frame {F r0} (hF : F &&& 2049 = 2049) : ∀ {s d}, Within F r0 s → Within F r0 (State.testsDieReset s d) := by
  intro s d h
  unfold State.testsDieReset
  dsimp only
  repeat' first
    | with_reducible first
      | assumption | apply State.setUntested_frame | apply State.modTests_frame | apply Within.foldl | intro _
    | split | exact maskSub hF rfl

/-! ## PlanOps -/

theorem State.planErr_frame {F r0} (hF : F &&& 1 = 1) : ∀ {s}, Within F r0 s → Within F r0 (State.planErr s) := by
  intro s h
  unfold State.planErr
  repeat' with_reducible first | assumption | apply State.bump_frame

theorem State.planWrite_frame {F r0} (hF : F &&& 131 = 131) : ∀ {s a bs}, Within F r0 s → Within F r0 (State.planWrite s a bs) := by
  intro s a bs h
  unfold State.planWrite
  repeat' with_reducible first | assumption | apply State.engWrite_frame | (apply Within.fst; assumption)

theorem State.setOpenFlag_frame {F r0} (hF : F &&& 1 = 1) : ∀ {s}, Within F r0 s → Within F r0 (State.setOpenFlag s) := by
  intro s h
  unfold State.setOpenFlag
  repeat' with_reducible first | assumption | apply State.wf_frame

theorem State.stopChecks_frame {F r0} (hF : F &&& 8929537 = 8929537) : ∀ {s}, Within F r0 s → Within F r0 (State.stopChecks s) := by
  intro s h
  unfold State.stopChecks
  repeat' first
    | with_reducible first
      | assumption | apply State.modRun_frame | apply State.traceEvent_frame | apply State.setUnitState_frame
      | apply Within.foldl | intro _
    | split | exact maskSub hF rfl

theorem State.planAbandon_frame {F r0} (hF : F &&& 8929537 = 8929537) : ∀ {s}, Within F r0 s → Within F r0 (State.planAbandon s) := by
  intro s h
  unfold State.planAbandon
  repeat' first
    | with_reducible first
      | assumption | apply State.planErr_frame | apply State.setOpenFlag_frame | apply State.modPlan_frame
      | apply State.stopChecks_frame
    | split | exact maskSub hF rfl

theorem State.planCfgWrite_frame {F r0} (hF : F &&& 8929537 = 8929537) : ∀ {s w}, Within F r0 s → Within F r0 (State.planCfgWrite s w) := by
  intro s w h
  unfold State.planCfgWrite
  dsimp only
  repeat' first
    | with_reducible first
      | assumption | apply State.setFlag_frame | apply State.clrFlag_frame | apply State.planAbandon_frame
      | apply State.plainWrite_frame
    | split | exact maskSub hF rfl

theorem State.planRegWrite_frame {F r0} (hF : F &&& 1 = 1) : ∀ {s a w}, Within F r0 s → Within F r0 (State.planRegWrite s a w) := by
  intro s a w h
  unfold State.planRegWrite
  repeat' first
    | with_reducible first
      | assumption | apply State.setFlag_frame | apply State.setReg_frame | apply State.plainWrite_frame
    | split

theorem execPlanEnable_frame {F r0} (hF : F &&& 8929541 = 8929541) : ∀ {s port val}, Within F r0 s → WithinR F r0 (execPlanEnable port val s) := by
  intro s port val h
  unfold execPlanEnable
  repeat' first
    | with_reducible first
      | assumption | apply State.access_frame | apply State.planCfgWrite_frame | apply WithinR.next | intro _
    | exact maskSub hF rfl

theorem execPlanDisable_frame {F r0} (hF : F &&& 8929541 = 8929541) : ∀ {s port val}, Within F r0 s → WithinR F r0 (execPlanDisable port val s) := by
  intro s port val h
  unfold execPlanDisable
  repeat' first
    | with_reducible first
      | assumption | apply State.access_frame | apply State.planCfgWrite_frame | apply WithinR.next | intro _
    | exact maskSub hF rfl

theorem State.writeResult_frame {F r0} (hF : F &&& 131 = 131) : ∀ {s base idx epoch r}, Within F r0 s → Within F r0 (State.writeResult s base idx epoch r) := by
  intro s base idx epoch r h
  unfold State.writeResult
  repeat' with_reducible first | assumption | apply State.planWrite_frame

theorem State.sealPost_frame {F r0} (hF : F &&& 24995 = 24995) : ∀ {s x t path}, Within F r0 s → Within F r0 (State.sealPost s x t path) := by
  intro s x t path h
  unfold State.sealPost
  dsimp only
  repeat' first
    | with_reducible first
      | assumption | apply State.modPlan_frame | apply State.setUnitState_frame | apply State.postSlot_frame
      | apply State.fireTrigger_frame | apply State.planWrite_frame
    | split | exact maskSub hF rfl

theorem State.sealFallback_frame {F r0} (hF : F &&& 24995 = 24995) : ∀ {s x}, Within F r0 s → Within F r0 (State.sealFallback s x) := by
  intro s x h
  unfold State.sealFallback
  dsimp only
  repeat' first
    | with_reducible first | assumption | apply State.bump_frame | apply State.sealPost_frame
    | split | exact maskSub hF rfl

theorem State.sealBusy_frame {F r0} (hF : F &&& 8913153 = 8913153) : ∀ {s x}, Within F r0 s → Within F r0 (State.sealBusy s x) := by
  intro s x h
  unfold State.sealBusy
  repeat' first
    | with_reducible first | assumption | apply State.traceEvent_frame | apply State.setUnitState_frame
    | split | exact maskSub hF rfl

theorem State.sealEnd_frame {F r0} (hF : F &&& 8913153 = 8913153) : ∀ {s x}, Within F r0 s → Within F r0 (State.sealEnd s x) := by
  intro s x h
  unfold State.sealEnd
  repeat' first
    | with_reducible first | assumption | apply State.traceEvent_frame
    | split

theorem State.sealReissue_frame {F r0} (hF : F &&& 8937891 = 8937891) : ∀ {s x}, Within F r0 s → Within F r0 (State.sealReissue s x) := by
  intro s x h
  unfold State.sealReissue
  repeat' first
    | with_reducible first
      | assumption | apply State.sealBusy_frame | apply State.modPlan_frame | apply State.sealFallback_frame
    | split | exact maskSub hF rfl

theorem State.sealDecide_frame {F r0} (hF : F &&& 8937891 = 8937891) : ∀ {s x}, Within F r0 s → Within F r0 (State.sealDecide s x) := by
  intro s x h
  unfold State.sealDecide
  dsimp only
  repeat' first
    | with_reducible first
      | assumption | apply State.bump_frame | apply State.sealPost_frame | apply State.sealFallback_frame
      | apply State.sealReissue_frame
    | split | exact maskSub hF rfl

theorem State.sealLate_frame {F r0} (hF : F &&& 131 = 131) : ∀ {s p}, Within F r0 s → Within F r0 (State.sealLate s p) := by
  intro s p h
  unfold State.sealLate
  dsimp only
  repeat' first
    | with_reducible first
      | assumption | apply State.bump_frame | apply State.writeResult_frame | apply Within.foldl | intro _
    | split | exact maskSub hF rfl

theorem State.sealStart_frame {F r0} (hF : F &&& 8937891 = 8937891) : ∀ {s cause tag}, Within F r0 s → Within F r0 (State.sealStart s cause tag) := by
  intro s cause tag h
  unfold State.sealStart
  dsimp only
  repeat' first
    | with_reducible first
      | assumption | apply State.sealLate_frame | apply State.stopChecks_frame | apply State.setOpenFlag_frame
      | apply State.modPlan_frame | apply State.sealReissue_frame | apply State.sealBusy_frame
    | split | exact maskSub hF rfl

theorem execSealRecheckComplete_frame {F r0} (hF : F &&& 8937891 = 8937891) : ∀ {s}, Within F r0 s → WithinR F r0 (execSealRecheckComplete s) := by
  intro s h
  unfold execSealRecheckComplete
  repeat' first
    | with_reducible first
      | assumption | apply State.sealDecide_frame | apply State.sealEnd_frame | apply WithinR.next
    | split | exact maskSub hF rfl

theorem State.planJobEnd_frame {F r0} (hF : F &&& 8937891 = 8937891) : ∀ {s c user}, Within F r0 s → Within F r0 (State.planJobEnd s c user) := by
  intro s c user h
  unfold State.planJobEnd
  repeat' first
    | with_reducible first | assumption | apply State.sealStart_frame
    | split

theorem execPlanDeadline_frame {F r0} (hF : F &&& 8937891 = 8937891) : ∀ {s}, Within F r0 s → WithinR F r0 (execPlanDeadline s) := by
  intro s h
  unfold execPlanDeadline
  repeat' first
    | with_reducible first | assumption | apply State.sealStart_frame | apply WithinR.next
    | split

theorem State.planOpen_frame {F r0} (hF : F &&& 8937891 = 8937891) : ∀ {s j t}, Within F r0 s → Within F r0 (State.planOpen s j t) := by
  intro s j t h
  unfold State.planOpen
  dsimp only
  repeat' first
    | with_reducible first
      | assumption | apply State.sealStart_frame | apply State.planWrite_frame | apply State.setOpenFlag_frame
      | apply State.modPlan_frame
    | split | exact maskSub hF rfl

theorem State.releasesDue_frame {F r0} (hF : F &&& 8921475 = 8921475) : ∀ {s}, Within F r0 s → Within F r0 (State.releasesDue s) := by
  intro s h
  unfold State.releasesDue
  repeat' first
    | with_reducible first
      | assumption | apply State.limitRelease_frame | apply State.evaluate_frame | apply State.windowEnds_frame

theorem execTick_frame {F r0} (hF : F &&& 13132195 = 13132195) : ∀ {s m}, Within F r0 s → WithinR F r0 (execTick m s) := by
  intro s m h
  unfold execTick
  dsimp only
  repeat' first
    | with_reducible first
      | assumption | apply State.releasesDue_frame | apply State.modSh_frame | apply State.planOpen_frame
      | apply State.tickRecord_frame | apply WithinR.next
    | split | exact maskSub hF rfl

theorem State.readPlanHdr_frame {F r0} (hF : F &&& 16385 = 16385) : ∀ {s p}, Within F r0 s → Within F r0 (State.readPlanHdr s p) := by
  intro s p h
  unfold State.readPlanHdr
  repeat' first
    | with_reducible first | assumption | apply State.modRun_frame | apply State.planErr_frame
    | split | exact maskSub hF rfl

theorem State.planCount_frame {F r0} (hF : F &&& 16385 = 16385) : ∀ {s p v0}, Within F r0 s → Within F r0 (State.planCount s p v0) := by
  intro s p v0 h
  unfold State.planCount
  dsimp only
  repeat' first
    | with_reducible first
      | assumption | apply State.planErr_frame | apply State.modRun_frame | apply State.readPlanHdr_frame
    | split | exact maskSub hF rfl

theorem execPlanCountUpdate_frame {F r0} (hF : F &&& 16385 = 16385) : ∀ {s}, Within F r0 s → WithinR F r0 (execPlanCountUpdate s) := by
  intro s h
  unfold execPlanCountUpdate
  repeat' first
    | with_reducible first | assumption | apply State.planCount_frame | apply WithinR.next
    | split

theorem State.startCheck_frame {F r0} (hF : F &&& 8929537 = 8929537) : ∀ {s p e c ep}, Within F r0 s → Within F r0 (State.startCheck s p e c ep) := by
  intro s p e c ep h
  unfold State.startCheck
  dsimp only
  repeat' first
    | with_reducible first
      | assumption | apply State.traceEvent_frame | apply State.setUnitState_frame | apply State.modRun_frame
      | apply State.wf_frame
    | split | exact maskSub hF rfl

theorem execPathCheck_frame {F r0} (hF : F &&& 8929537 = 8929537) : ∀ {s pc}, Within F r0 s → WithinR F r0 (execPathCheck pc s) := by
  intro s pc h
  unfold execPathCheck
  dsimp only
  repeat' first
    | with_reducible first | assumption | apply State.startCheck_frame | apply WithinR.next
    | split

theorem State.countCheck_frame {F r0} (hF : F &&& 1 = 1) : ∀ {s pc outcome}, Within F r0 s → Within F r0 (State.countCheck s pc outcome) := by
  intro s pc outcome h
  unfold State.countCheck
  dsimp only
  repeat' first
    | with_reducible first | assumption | apply State.bump_frame
    | split

theorem execCheckResult_frame {F r0} (hF : F &&& 8929667 = 8929667) : ∀ {s pc}, Within F r0 s → WithinR F r0 (execCheckResult pc s) := by
  intro s pc h
  unfold execCheckResult
  dsimp only
  repeat' first
    | with_reducible first
      | assumption | apply State.countCheck_frame | apply State.writeResult_frame | apply State.modRun_frame
      | apply State.traceEvent_frame | apply State.setUnitState_frame | apply State.wf_frame | apply WithinR.next
    | split | exact maskSub hF rfl

theorem State.epochSwitch_frame {F r0} (hF : F &&& 16385 = 16385) : ∀ {s c n e}, Within F r0 s → Within F r0 (State.epochSwitch s c n e) := by
  intro s c n e h
  unfold State.epochSwitch
  dsimp only
  repeat' first
    | with_reducible first | assumption | apply State.wf_frame | apply State.modPlan_frame
    | exact maskSub hF rfl

theorem State.epochPublish_frame {F r0} (hF : F &&& 8929569 = 8929569) : ∀ {s c d}, Within F r0 s → Within F r0 (State.epochPublish s c d) := by
  intro s c d h
  unfold State.epochPublish
  dsimp only
  repeat' first
    | with_reducible first
      | assumption | apply State.finish_frame | apply State.finishErr_frame | apply State.epochSwitch_frame
    | split | exact maskSub hF rfl

theorem execEpochPublish_frame {F r0} (hF : F &&& 8929569 = 8929569) : ∀ {s ctx num}, Within F r0 s → WithinR F r0 (execEpochPublish ctx num s) := by
  intro s ctx num h
  unfold execEpochPublish
  repeat' first
    | with_reducible first
      | assumption | apply State.startDesc_frame | apply State.epochPublish_frame | apply WithinR.next | intro _
    | exact maskSub hF rfl

theorem execEpochPublishComplete_frame {F r0} (hF : F &&& 8929569 = 8929569) : ∀ {s ctx num}, Within F r0 s → WithinR F r0 (execEpochPublishComplete ctx num s) := by
  intro s ctx num h
  unfold execEpochPublishComplete
  dsimp only
  repeat' first
    | with_reducible first
      | assumption | apply State.modPlan_frame | apply State.finish_frame | apply WithinR.next
    | split | exact maskSub hF rfl

/-! ## Jobs -/

theorem State.suspectUnits_frame {F r0} (hF : F &&& 2048 = 2048) : ∀ {s us}, Within F r0 s → Within F r0 (State.suspectUnits s us) := by
  intro s us h
  unfold State.suspectUnits
  repeat' with_reducible first | assumption | apply State.modTest_frame | apply Within.foldl | intro _

theorem State.jobEnd_frame {F r0} (hF : F &&& 2083 = 2083) : ∀ {s c j ok}, Within F r0 s → Within F r0 (State.jobEnd s c j ok) := by
  intro s c j ok h
  unfold State.jobEnd
  dsimp only
  repeat' first
    | with_reducible first
      | assumption | apply State.kvJobEnd_frame | apply State.suspectUnits_frame | apply State.modCtx_frame
      | apply State.wf_frame
    | split | exact maskSub hF rfl

theorem State.jobDissolve_frame {F r0} (hF : F &&& 32 = 32) : ∀ {s c b}, Within F r0 s → Within F r0 (State.jobDissolve s c b) := by
  intro s c b h
  unfold State.jobDissolve
  repeat' first
    | with_reducible first | assumption | apply State.modCtx_frame
    | split

theorem State.putRecord_frame {F r0} (hF : F &&& 131 = 131) : ∀ {s c d}, Within F r0 s → Within F r0 (State.putRecord s c d) := by
  intro s c d h
  unfold State.putRecord
  dsimp only
  repeat' first
    | with_reducible first | assumption | apply State.putBytes_frame
    | split

theorem State.leaveWindow_frame {F r0} (hF : F &&& 33 = 33) : ∀ {s c d}, Within F r0 s → Within F r0 (State.leaveWindow s c d) := by
  intro s c d h
  unfold State.leaveWindow
  dsimp only
  repeat' first
    | with_reducible first
      | assumption | apply State.modCtx_frame | apply State.setInflight_frame | apply State.bump_frame
    | split | exact maskSub hF rfl

theorem State.jobRecord_frame {F r0} (hF : F &&& 2083 = 2083) : ∀ {s c d}, Within F r0 s → Within F r0 (State.jobRecord s c d) := by
  intro s c d h
  unfold State.jobRecord
  repeat' first
    | with_reducible first
      | assumption | apply State.modJob_frame | apply State.jobDissolve_frame | apply State.jobEnd_frame
      | apply State.kvRestore_frame | (apply Within.fst; assumption)
    | split | exact maskSub hF rfl

theorem execCompletionRecord_frame {F r0} (hF : F &&& 8939939 = 8939939) : ∀ {s ctx num}, Within F r0 s → WithinR F r0 (execCompletionRecord ctx num s) := by
  intro s ctx num h
  unfold execCompletionRecord
  dsimp only
  repeat' first
    | with_reducible first
      | assumption | apply State.putRecord_frame | apply State.wrapAdd_frame | apply State.jobRecord_frame
      | apply State.leaveWindow_frame | apply State.planJobEnd_frame | apply State.raiseCtxIrq_frame
      | apply WithinR.next
    | split | exact maskSub hF rfl

theorem State.abortEngines_frame {F r0} (hF : F &&& 8913153 = 8913153) : ∀ {s c d}, Within F r0 s → Within F r0 (State.abortEngines s c d) := by
  intro s c d h
  unfold State.abortEngines
  dsimp only
  repeat' first
    | with_reducible first | assumption | apply State.traceEvent_frame | apply Within.foldl | intro _
    | split

theorem State.jobHalt_frame {F r0} (hF : F &&& 8913201 = 8913201) : ∀ {s c}, Within F r0 s → Within F r0 (State.jobHalt s c) := by
  intro s c h
  unfold State.jobHalt
  dsimp only
  repeat' first
    | with_reducible first
      | assumption | apply State.abortEngines_frame | apply State.freeColls_frame | apply State.freeSets_frame
      | apply State.freeDmas_frame | apply State.stopJobWork_frame | apply Within.foldl | intro _
    | exact maskSub hF rfl

theorem State.jobStat_frame {F r0} (hF : F &&& 1 = 1) : ∀ {s c j a}, Within F r0 s → Within F r0 (State.jobStat s c j a) := by
  intro s c j a h
  unfold State.jobStat
  dsimp only
  repeat' with_reducible first | assumption | apply State.wf_frame | apply State.bump_frame

theorem execJobAbort_frame {F r0} (hF : F &&& 8913201 = 8913201) : ∀ {s ctx}, Within F r0 s → WithinR F r0 (execJobAbort ctx s) := by
  intro s ctx h
  unfold execJobAbort
  dsimp only
  repeat' first
    | with_reducible first
      | assumption | apply State.modJob_frame | apply State.jobStat_frame | apply State.fireTrigger_frame
      | apply State.jobHalt_frame | apply WithinR.next
    | split | exact maskSub hF rfl

theorem State.cancelWindow_frame {F r0} (hF : F &&& 33 = 33) : ∀ {s c}, Within F r0 s → Within F r0 (State.cancelWindow s c) := by
  intro s c h
  unfold State.cancelWindow
  repeat' first
    | with_reducible first | assumption | apply State.setInflight_frame | apply State.modCtx_frame
    | exact maskSub hF rfl

theorem State.jobRestart_frame {F r0} (hF : F &&& 33 = 33) : ∀ {s c j}, Within F r0 s → Within F r0 (State.jobRestart s c j) := by
  intro s c j h
  unfold State.jobRestart
  dsimp only
  repeat' first
    | with_reducible first
      | assumption | apply State.bump_frame | apply State.cancelWindow_frame | apply State.modJob_frame
      | apply State.modCtx_frame
    | exact maskSub hF rfl

theorem State.jobStop_frame {F r0} (hF : F &&& 2083 = 2083) : ∀ {s c j st}, Within F r0 s → Within F r0 (State.jobStop s c j st) := by
  intro s c j st h
  unfold State.jobStop
  dsimp only
  repeat' first
    | with_reducible first | assumption | apply State.modCtx_frame | apply State.jobEnd_frame
    | split | exact maskSub hF rfl

theorem execJobQuiesced_frame {F r0} (hF : F &&& 2083 = 2083) : ∀ {s ctx}, Within F r0 s → WithinR F r0 (execJobQuiesced ctx s) := by
  intro s ctx h
  unfold execJobQuiesced
  dsimp only
  repeat' first
    | with_reducible first
      | assumption | apply State.kvRestore_frame | apply State.jobRestart_frame | apply State.jobStop_frame
      | (apply Within.fst; assumption) | apply WithinR.next
    | split | exact maskSub hF rfl

theorem execJobDeadline_frame {F r0} (hF : F &&& 8913185 = 8913185) : ∀ {s ctx}, Within F r0 s → WithinR F r0 (execJobDeadline ctx s) := by
  intro s ctx h
  unfold execJobDeadline
  dsimp only
  repeat' first
    | with_reducible first
      | assumption | apply State.modJob_frame | apply State.collDeadline_frame | apply WithinR.next
    | split | exact maskSub hF rfl

end Sys2Proof.Machine
end

