-- ==== Sys2Proof/Laws/FrameLink.lean ====
section
/-!
SUPPORT. Frames of islands and links: one lemma per operation.
-/
namespace Sys2Proof.Machine

/-! ## Image -/

theorem State.deliverTo_frame {F r0} (hF : F &&& 65536 = 65536) : ∀ {s base h mine}, Within F r0 s → Within F r0 (State.deliverTo s base h mine) := by
  intro s base h mine h
  unfold State.deliverTo
  dsimp only
  repeat' first
    | with_reducible first | assumption | apply State.modIsle_frame | apply Within.foldl | intro _
    | split

theorem State.askImage_frame {F r0} (hF : F &&& 65536 = 65536) : ∀ {s i}, Within F r0 s → Within F r0 (State.askImage s i) := by
  intro s i h
  unfold State.askImage
  dsimp only
  repeat' first
    | with_reducible first | assumption | apply State.deliverTo_frame
    | split

/-! ## Island -/

theorem State.islSilence_frame {F r0} (hF : F &&& 65664 = 65664) : ∀ {s i}, Within F r0 s → Within F r0 (State.islSilence s i) := by
  intro s i h
  unfold State.islSilence
  dsimp only
  repeat' first
    | with_reducible first
      | assumption | apply State.modIsle_frame | apply State.emit_frame | apply Within.foldl | intro _
    | exact maskSub hF rfl

theorem State.siReset_frame {F r0} (hF : F &&& 1 = 1) : ∀ {s i}, Within F r0 s → Within F r0 (State.siReset s i) := by
  intro s i h
  unfold State.siReset
  repeat' with_reducible first | assumption | apply State.setReg_frame | apply Within.foldl | intro _

theorem State.islRestart_frame {F r0} (hF : F &&& 4784137 = 4784137) : ∀ {s i}, Within F r0 s → Within F r0 (State.islRestart s i) := by
  intro s i h
  unfold State.islRestart
  dsimp only
  repeat' first
    | with_reducible first
      | assumption | apply State.entryCheck_frame | apply State.modIslTime_frame | apply State.modIsle_frame
      | apply State.siReset_frame
    | exact maskSub hF rfl

theorem execIslandPowerUp_frame {F r0} (hF : F &&& 4784137 = 4784137) : ∀ {s up}, Within F r0 s → WithinR F r0 (execIslandPowerUp up s) := by
  intro s up h
  unfold execIslandPowerUp
  dsimp only
  repeat' first
    | with_reducible first
      | assumption | apply State.entryCheck_frame | apply State.modIslTime_frame | apply State.modIsle_frame
      | apply State.siReset_frame | apply WithinR.next
    | split | exact maskSub hF rfl

theorem execIslandSupplyLoss_frame {F r0} (hF : F &&& 65664 = 65664) : ∀ {s isl}, Within F r0 s → WithinR F r0 (execIslandSupplyLoss isl s) := by
  intro s isl h
  unfold execIslandSupplyLoss
  repeat' first
    | with_reducible first
      | assumption | apply State.modIsle_frame | apply State.islSilence_frame | apply WithinR.next
    | split | exact maskSub hF rfl

theorem State.islTrip_frame {F r0} (hF : F &&& 65921 = 65921) : ∀ {s i code heal}, Within F r0 s → Within F r0 (State.islTrip s i code heal) := by
  intro s i code heal h
  unfold State.islTrip
  dsimp only
  repeat' first
    | with_reducible first
      | assumption | apply State.modIsle_frame | apply State.islSilence_frame | apply State.fireTrigger_frame
    | split | exact maskSub hF rfl

theorem execIslandTrip_frame {F r0} (hF : F &&& 65921 = 65921) : ∀ {s isl code heal}, Within F r0 s → WithinR F r0 (execIslandTrip isl code heal s) := by
  intro s isl code heal h
  unfold execIslandTrip
  repeat' first
    | with_reducible first | assumption | apply State.islTrip_frame | apply WithinR.next
    | split

theorem execIslandSelfRestart_frame {F r0} (hF : F &&& 4784137 = 4784137) : ∀ {s isl}, Within F r0 s → WithinR F r0 (execIslandSelfRestart isl s) := by
  intro s isl h
  unfold execIslandSelfRestart
  dsimp only
  repeat' first
    | with_reducible first | assumption | apply State.islRestart_frame | apply WithinR.next
    | split

theorem State.siRej_frame {F r0} (hF : F &&& 1 = 1) : ∀ {s i}, Within F r0 s → Within F r0 (State.siRej s i) := by
  intro s i h
  unfold State.siRej
  repeat' with_reducible first | assumption | apply State.setFlag_frame

theorem State.siRestart_frame {F r0} (hF : F &&& 4784137 = 4784137) : ∀ {s i}, Within F r0 s → Within F r0 (State.siRestart s i) := by
  intro s i h
  unfold State.siRestart
  dsimp only
  repeat' first
    | with_reducible first | assumption | apply State.siRej_frame | apply State.islRestart_frame
    | split | exact maskSub hF rfl

theorem execSiRestart_frame {F r0} (hF : F &&& 4784141 = 4784141) : ∀ {s port isl}, Within F r0 s → WithinR F r0 (execSiRestart port isl s) := by
  intro s port isl h
  unfold execSiRestart
  repeat' first
    | with_reducible first
      | assumption | apply State.access_frame | apply State.siRestart_frame | apply WithinR.next | intro _
    | split | exact maskSub hF rfl

theorem State.islRelease_frame {F r} (hF : F &&& 65536 = 65536) : ∀ {s}, Within F r s → Within F r (State.islRelease s) := by
  intro s h
  exact { h with keeps := h.keeps.of_eq rfl rfl rfl rfl rfl, isl := fun e => absurd e (maskBit 16 hF) }

theorem execIslandImageVerify_frame {F r0} (hF : F &&& 65536 = 65536) : ∀ {s isl ok xl}, Within F r0 s → WithinR F r0 (execIslandImageVerify isl ok xl s) := by
  intro s isl ok xl h
  unfold execIslandImageVerify
  dsimp only
  repeat' first
    | with_reducible first
      | assumption | apply State.askImage_frame | apply State.modIsle_frame | apply WithinR.next
    | split

theorem execIslandImageWaitTimeout_frame {F r0} (hF : F &&& 65536 = 65536) : ∀ {s isl}, Within F r0 s → WithinR F r0 (execIslandImageWaitTimeout isl s) := by
  intro s isl h
  unfold execIslandImageWaitTimeout
  dsimp only
  repeat' first
    | with_reducible first | assumption | apply State.modIsle_frame | apply WithinR.next
    | split

theorem State.coreLost_frame {F r0} (hF : F &&& 8454144 = 8454144) : ∀ {s isl core}, Within F r0 s → Within F r0 (State.coreLost s isl core) := by
  intro s isl core h
  unfold State.coreLost
  repeat' first
    | with_reducible first | assumption | apply State.tick_frame | apply State.modIsle_frame
    | exact maskSub hF rfl

theorem execCoreDisagree_frame {F r0} (hF : F &&& 8454529 = 8454529) : ∀ {s isl core}, Within F r0 s → WithinR F r0 (execCoreDisagree isl core s) := by
  intro s isl core h
  unfold execCoreDisagree
  dsimp only
  repeat' first
    | with_reducible first
      | assumption | apply State.islTrip_frame | apply State.modIsle_frame | apply State.coreLost_frame
      | apply WithinR.next
    | split | exact maskSub hF rfl

theorem execCheckpoint_frame {F r0} (hF : F &&& 65536 = 65536) : ∀ {s isl}, Within F r0 s → WithinR F r0 (execCheckpoint isl s) := by
  intro s isl h
  unfold execCheckpoint
  dsimp only
  repeat' first
    | with_reducible first | assumption | apply State.modIsle_frame | apply WithinR.next
    | split

theorem execMoultReq_frame {F r0} (hF : F &&& 65536 = 65536) : ∀ {s isl paired}, Within F r0 s → WithinR F r0 (execMoultReq isl paired s) := by
  intro s isl paired h
  unfold execMoultReq
  dsimp only
  repeat' first
    | with_reducible first | assumption | apply State.modIsle_frame | apply WithinR.next
    | split

theorem execMoultComplete_frame {F r0} (hF : F &&& 8454144 = 8454144) : ∀ {s isl}, Within F r0 s → WithinR F r0 (execMoultComplete isl s) := by
  intro s isl h
  unfold execMoultComplete
  dsimp only
  repeat' first
    | with_reducible first
      | assumption | apply State.modIsle_frame | apply State.coreLost_frame | apply WithinR.next
    | split | exact maskSub hF rfl

theorem State.islDebug_frame {F r0} (hF : F &&& 65536 = 65536) : ∀ {s isl core cmd}, Within F r0 s → Within F r0 (State.islDebug s isl core cmd) := by
  intro s isl core cmd h
  unfold State.islDebug
  dsimp only
  repeat' first
    | with_reducible first | assumption | apply State.modIsle_frame
    | split

theorem execIslandDebugCommand_frame {F r0} (hF : F &&& 65536 = 65536) : ∀ {s isl core cmd}, Within F r0 s → WithinR F r0 (execIslandDebugCommand isl core cmd s) := by
  intro s isl core cmd h
  unfold execIslandDebugCommand
  repeat' with_reducible first | assumption | apply State.islDebug_frame | apply WithinR.next

theorem State.islTries_frame {F r0} (hF : F &&& 4 = 4) : ∀ {s i a n}, Within F r0 s → Within F r0 (State.islTries s i a n) := by
  intro s i a n h
  unfold State.islTries
  repeat' first
    | with_reducible first | assumption | apply State.modBus_frame
    | split

theorem State.readView_frame {F r0} (hF : F &&& 65540 = 65540) : ∀ {s i}, Within F r0 s → Within F r0 (State.readView s i) := by
  intro s i h
  unfold State.readView
  dsimp only
  repeat' first
    | with_reducible first | assumption | apply State.modIsle_frame | apply State.islTries_frame
    | split | exact maskSub hF rfl

theorem State.onNotice_frame {F r0} {k : State → State} (hk : ∀ r y0, Within F r y0 → Within F r (k y0)) (hF : F &&& 65572 = 65572) : ∀ {s i sl}, Within F r0 s → Within F r0 (State.onNotice s i sl k) := by
  intro s i sl h
  unfold State.onNotice
  dsimp only
  repeat' first
    | with_reducible first
      | assumption | apply State.modHub_frame | apply State.readView_frame | apply hk | intro _
    | split | exact maskSub hF rfl

theorem execWorldNotice_frame {F r0} (hF : F &&& 65572 = 65572) : ∀ {s isl}, Within F r0 s → WithinR F r0 (execWorldNotice isl s) := by
  intro s isl h
  unfold execWorldNotice
  dsimp only
  repeat' first
    | with_reducible first
      | assumption | apply State.onNotice_frame | apply State.modIsle_frame | apply WithinR.next | intro _
    | exact maskSub hF rfl

theorem execWorldReadComplete_frame {F r0} (hF : F &&& 65540 = 65540) : ∀ {s isl}, Within F r0 s → WithinR F r0 (execWorldReadComplete isl s) := by
  intro s isl h
  unfold execWorldReadComplete
  dsimp only
  repeat' first
    | with_reducible first
      | assumption | apply State.modIsle_frame | apply State.islTries_frame | apply WithinR.next
    | split | exact maskSub hF rfl

theorem execStatusMailboxRefresh_frame {F r0} (hF : F &&& 1 = 1) : ∀ {s isl}, Within F r0 s → WithinR F r0 (execStatusMailboxRefresh isl s) := by
  intro s isl h
  unfold execStatusMailboxRefresh
  dsimp only
  repeat' first
    | with_reducible first | assumption | apply State.setReg_frame | apply WithinR.next
    | split

theorem State.siClear_frame {F r0} (hF : F &&& 65537 = 65537) : ∀ {s i off}, Within F r0 s → Within F r0 (State.siClear s i off) := by
  intro s i off h
  unfold State.siClear
  dsimp only
  repeat' first
    | with_reducible first | assumption | apply State.setReg_frame | apply State.modIsle_frame
    | split | exact maskSub hF rfl

theorem State.siConfig_frame {F r0} (hF : F &&& 1 = 1) : ∀ {s i off w0}, Within F r0 s → Within F r0 (State.siConfig s i off w0) := by
  intro s i off w0 h
  unfold State.siConfig
  dsimp only
  repeat' first
    | with_reducible first
      | assumption | apply State.clrFlag_frame | apply State.plainWrite_frame | apply State.siRej_frame
      | apply Within.foldl | intro _
    | split

theorem State.siWrite_frame {F r0} (hF : F &&& 4784137 = 4784137) : ∀ {s i off w}, Within F r0 s → Within F r0 (State.siWrite s i off w) := by
  intro s i off w h
  unfold State.siWrite
  repeat' first
    | with_reducible first
      | assumption | apply State.siRej_frame | apply State.siRestart_frame | apply State.siClear_frame
      | apply State.siConfig_frame
    | split | exact maskSub hF rfl

theorem execSiConfigWrite_frame {F r0} (hF : F &&& 4784141 = 4784141) : ∀ {s port isl off val}, Within F r0 s → WithinR F r0 (execSiConfigWrite port isl off val s) := by
  intro s port isl off val h
  unfold execSiConfigWrite
  repeat' first
    | with_reducible first
      | assumption | apply State.access_frame | apply State.siWrite_frame | apply WithinR.next | intro _
    | split | exact maskSub hF rfl

theorem execSpiStatusRead_frame {F r0} (hF : F &&& 128 = 128) : ∀ {s isl cmd}, Within F r0 s → WithinR F r0 (execSpiStatusRead isl cmd s) := by
  intro s isl cmd h
  unfold execSpiStatusRead
  dsimp only
  repeat' first
    | with_reducible first | assumption | apply State.emit_frame | apply WithinR.next
    | split

theorem execPmVeto_frame {F r0} (hF : F &&& 4784129 = 4784129) : ∀ {s isl on}, Within F r0 s → WithinR F r0 (execPmVeto isl on s) := by
  intro s isl on h
  unfold execPmVeto
  repeat' first
    | with_reducible first
      | assumption | apply State.entryCheck_frame | apply State.modIsle_frame | apply WithinR.next
    | split | exact maskSub hF rfl

theorem execCanReceive_frame {F r0} (hF : F &&& 65536 = 65536) : ∀ {s isl ctl pass room data}, Within F r0 s → WithinR F r0 (execCanReceive isl ctl pass room data s) := by
  intro s isl ctl pass room data h
  unfold execCanReceive
  repeat' first
    | with_reducible first | assumption | apply State.modIsle_frame | apply WithinR.next
    | split

theorem State.modTx_frame {F r0} (hF : F &&& 65536 = 65536) : ∀ {s i c f}, Within F r0 s → Within F r0 (State.modTx s i c f) := by
  intro s i c f h
  unfold State.modTx
  repeat' with_reducible first | assumption | apply State.modIsle_frame

theorem execCanBusOff_frame {F r0} (hF : F &&& 65536 = 65536) : ∀ {s isl ctl}, Within F r0 s → WithinR F r0 (execCanBusOff isl ctl s) := by
  intro s isl ctl h
  unfold execCanBusOff
  repeat' first
    | with_reducible first
      | assumption | apply State.modIsle_frame | apply State.modTx_frame | apply WithinR.next
    | split

theorem execCanBusOffRecovery_frame {F r0} (hF : F &&& 65536 = 65536) : ∀ {s isl ctl}, Within F r0 s → WithinR F r0 (execCanBusOffRecovery isl ctl s) := by
  intro s isl ctl h
  unfold execCanBusOffRecovery
  repeat' first
    | with_reducible first | assumption | apply State.modTx_frame | apply WithinR.next
    | split

theorem execIslandEthReceive_frame {F r0} (hF : F &&& 65536 = 65536) : ∀ {s isl}, Within F r0 s → WithinR F r0 (execIslandEthReceive isl s) := by
  intro s isl h
  unfold execIslandEthReceive
  repeat' first
    | with_reducible first | assumption | apply State.modIsle_frame | apply WithinR.next
    | split

theorem State.islHubLost_frame {F r0} (hF : F &&& 65577 = 65577) : ∀ {s i}, Within F r0 s → Within F r0 (State.islHubLost s i) := by
  intro s i h
  unfold State.islHubLost
  dsimp only
  repeat' first
    | with_reducible first
      | assumption | apply State.modHub_frame | apply State.setFlag_frame | apply State.modIsle_frame
      | apply State.modIslTime_frame
    | exact maskSub hF rfl

theorem State.islHubBack_frame {F r0} (hF : F &&& 1 = 1) : ∀ {s i}, Within F r0 s → Within F r0 (State.islHubBack s i) := by
  intro s i h
  unfold State.islHubBack
  repeat' with_reducible first | assumption | apply State.clrFlag_frame

theorem State.islandsStart_frame {F r0} (hF : F &&& 65536 = 65536) : ∀ {s}, Within F r0 s → Within F r0 (State.islandsStart s) := by
  intro s h
  unfold State.islandsStart
  repeat' with_reducible first | assumption | apply State.modIsle_frame

/-! ## DieLoss -/

theorem State.endAbsent_frame {F r0} (hF : F &&& 8913185 = 8913185) : ∀ {s c x d eng}, Within F r0 s → Within F r0 (State.endAbsent s c x d eng) := by
  intro s c x d eng h
  unfold State.endAbsent
  dsimp only
  repeat' first
    | with_reducible first
      | assumption | apply State.traceEvent_frame | apply State.freeSets_frame | apply State.freeDmas_frame
      | apply State.finish_frame | apply State.collEnd_frame | apply Within.foldl | intro _
    | split | exact maskSub hF rfl

theorem State.kernelAbsent_frame {F r0} (hF : F &&& 8913201 = 8913201) : ∀ {s k eng}, Within F r0 s → Within F r0 (State.kernelAbsent s k eng) := by
  intro s k eng h
  unfold State.kernelAbsent
  repeat' first
    | with_reducible first | assumption | apply State.stopKernel_frame | apply State.finish_frame
    | exact maskSub hF rfl

theorem State.kernelLoss_frame {F r0} (hF : F &&& 8913201 = 8913201) : ∀ {s k}, Within F r0 s → Within F r0 (State.kernelLoss s k) := by
  intro s k h
  unfold State.kernelLoss
  repeat' first
    | with_reducible first | assumption | apply State.stopKernel_frame | apply State.finish_frame
    | split | exact maskSub hF rfl

theorem State.kernelLossAll_frame {F r0} (hF : F &&& 8913201 = 8913201) : ∀ {s}, Within F r0 s → Within F r0 (State.kernelLossAll s) := by
  intro s h
  unfold State.kernelLossAll
  repeat' with_reducible first | assumption | apply State.kernelLoss_frame | apply Within.foldl | intro _

theorem State.dropTiles_frame {F r0} (hF : F &&& 17 = 17) : ∀ {s d}, Within F r0 s → Within F r0 (State.dropTiles s d) := by
  intro s d h
  unfold State.dropTiles
  repeat' first
    | with_reducible first
      | assumption | apply State.setBaskCount_frame | apply State.setTileState_frame | apply State.modTile_frame
      | apply Within.foldl | intro _
    | split | exact maskSub hF rfl

theorem State.testsDieLost_frame {F r0} (hF : F &&& 2049 = 2049) : ∀ {s d}, Within F r0 s → Within F r0 (State.testsDieLost s d) := by
  intro s d h
  unfold State.testsDieLost
  dsimp only
  repeat' first
    | with_reducible first
      | assumption | apply State.setUntested_frame | apply State.modTests_frame | apply Within.foldl | intro _
    | split | exact maskSub hF rfl

theorem State.computeDieLost_frame {F r0} (hF : F &&& 8915377 = 8915377) : ∀ {s d}, Within F r0 s → Within F r0 (State.computeDieLost s d) := by
  intro s d h
  unfold State.computeDieLost
  dsimp only
  repeat' first
    | with_reducible first
      | assumption | apply State.dropTiles_frame | apply State.testsDieLost_frame | apply State.traceDieLost_frame
      | apply State.kernelLossAll_frame | apply State.kernelAbsent_frame | apply State.collCheckAll_frame
      | apply State.endAbsent_frame | apply Within.foldl | intro _
    | exact maskSub hF rfl

theorem State.skSweep_frame {F r0} (hF : F &&& 131072 = 131072) : ∀ {s d}, Within F r0 s → Within F r0 (State.skSweep s d) := by
  intro s d h
  unfold State.skSweep
  repeat' with_reducible first | assumption | apply State.modConn_frame | apply Within.foldl | intro _

theorem State.tellQuarantine_frame {F r0} (hF : F &&& 131200 = 131200) : ∀ {s n cause}, Within F r0 s → Within F r0 (State.tellQuarantine s n cause) := by
  intro s n cause h
  unfold State.tellQuarantine
  repeat' first
    | with_reducible first | assumption | apply State.sbSend_frame | apply Within.foldl | intro _
    | split

theorem State.dieQuarantine_frame {F r0} (hF : F &&& 9111993 = 9111993) : ∀ {s d j total}, Within F r0 s → Within F r0 (State.dieQuarantine s d j total) := by
  intro s d j total h
  unfold State.dieQuarantine
  dsimp only
  repeat' first
    | with_reducible first
      | assumption | apply State.modSk_frame | apply State.setDieState_frame | apply State.skSweep_frame
      | apply State.fireTrigger_frame | apply State.computeDieLost_frame | apply State.islHubLost_frame
    | split | exact maskSub hF rfl

theorem State.quarantine_frame {F r0} (hF : F &&& 9111993 = 9111993) : ∀ {s n cause}, Within F r0 s → Within F r0 (State.quarantine s n cause) := by
  intro s n cause h
  unfold State.quarantine
  dsimp only
  repeat' first
    | with_reducible first
      | assumption | apply State.connQuarantine_frame | apply State.tellQuarantine_frame
      | apply State.dieQuarantine_frame | apply Within.foldl | intro _
    | split | exact maskSub hF rfl

theorem State.dieRetainUp_frame {F r0} (hF : F &&& 2049 = 2049) : ∀ {s n}, Within F r0 s → Within F r0 (State.dieRetainUp s n) := by
  intro s n h
  unfold State.dieRetainUp
  repeat' first
    | with_reducible first | assumption | apply State.testsOnExit_frame | apply State.setDiePower_frame
    | split | exact maskSub hF rfl

theorem State.computeDieBack_frame {F r0} (hF : F &&& 2099 = 2099) : ∀ {s d}, Within F r0 s → Within F r0 (State.computeDieBack s d) := by
  intro s d h
  unfold State.computeDieBack
  dsimp only
  repeat' first
    | with_reducible first
      | assumption | apply State.testsDieReset_frame | apply State.dropTiles_frame | apply State.setUnitState_frame
      | apply State.modSet_frame | apply State.modDma_frame | apply State.modDie_frame | apply State.modMem_frame
      | apply Within.foldl | apply Mem.wf_forget | intro _
    | split | exact maskSub hF rfl

theorem State.diePresentNow_frame {F r0} (hF : F &&& 2099 = 2099) : ∀ {s d}, Within F r0 s → Within F r0 (State.diePresentNow s d) := by
  intro s d h
  unfold State.diePresentNow
  dsimp only
  repeat' first
    | with_reducible first
      | assumption | apply State.setDieState_frame | apply State.computeDieBack_frame | apply State.islHubBack_frame
    | split | exact maskSub hF rfl

theorem State.dieRejoined_frame {F r0} (hF : F &&& 133171 = 133171) : ∀ {s d}, Within F r0 s → Within F r0 (State.dieRejoined s d) := by
  intro s d h
  unfold State.dieRejoined
  repeat' first
    | with_reducible first
      | assumption | apply State.skLog_frame | apply State.modSk_frame | apply State.diePresentNow_frame
    | exact maskSub hF rfl

theorem State.commitsDue_frame {F r0} (hF : F &&& 133171 = 133171) : ∀ {s}, Within F r0 s → Within F r0 (State.commitsDue s) := by
  intro s h
  unfold State.commitsDue
  repeat' first
    | with_reducible first | assumption | apply State.dieRejoined_frame | apply Within.foldl | intro _
    | split

theorem State.islandEdges_frame {F r0} (hF : F &&& 8 = 8) : ∀ {s}, Within F r0 s → Within F r0 (State.islandEdges s) := by
  intro s h
  unfold State.islandEdges
  repeat' with_reducible first | assumption | apply State.modTime_frame

theorem State.clockTick_frame {F r0} (hF : F &&& 231739 = 231739) : ∀ {s}, Within F r0 s → Within F r0 (State.clockTick s) := by
  intro s h
  unfold State.clockTick
  repeat' first
    | with_reducible first
      | assumption | apply State.islRelease_frame | apply State.islandEdges_frame | apply State.slowEdge_frame
      | apply State.sweepEdge_frame | apply State.commitsDue_frame | apply State.refEdge_frame
    | split | exact maskSub hF rfl

/-! ## Skink -/

theorem State.nakFor_frame {F r0} (hF : F &&& 131201 = 131201) : ∀ {s n d i}, Within F r0 s → Within F r0 (State.nakFor s n d i) := by
  intro s n d i h
  unfold State.nakFor
  dsimp only
  repeat' first
    | with_reducible first
      | assumption | apply State.bump_frame | apply State.modDir_frame | apply State.skDeal_frame
    | exact maskSub hF rfl

theorem State.retrainBundle_frame {F r0} (hF : F &&& 9111993 = 9111993) : ∀ {s n i}, Within F r0 s → Within F r0 (State.retrainBundle s n i) := by
  intro s n i h
  unfold State.retrainBundle
  dsimp only
  repeat' first
    | with_reducible first
      | assumption | apply State.showConn_frame | apply State.bump_frame | apply State.modBundle_frame
      | apply State.quarantine_frame | apply State.sendTest_frame
    | split | exact maskSub hF rfl

theorem State.crcFailed_frame {F r0} (hF : F &&& 9111993 = 9111993) : ∀ {s n d i}, Within F r0 s → Within F r0 (State.crcFailed s n d i) := by
  intro s n d i h
  unfold State.crcFailed
  dsimp only
  repeat' first
    | with_reducible first
      | assumption | apply State.nakFor_frame | apply State.bump_frame | apply State.modBundle_frame
      | apply State.retrainBundle_frame
    | split | exact maskSub hF rfl

theorem State.skDealt_frame {F r0} (hF : F &&& 131072 = 131072) : ∀ {s n d i f}, Within F r0 s → Within F r0 (State.skDealt s n d i f) := by
  intro s n d i f h
  unfold State.skDealt
  repeat' with_reducible first | assumption | apply State.modDir_frame

theorem State.skTrack_frame {F r0} (hF : F &&& 131072 = 131072) : ∀ {s n d f}, Within F r0 s → Within F r0 (State.skTrack s n d f) := by
  intro s n d f h
  unfold State.skTrack
  dsimp only
  repeat' first
    | with_reducible first | assumption | apply State.modDir_frame
    | split

theorem State.goodFrame_frame {F r0} (hF : F &&& 131201 = 131201) : ∀ {s n d i f}, Within F r0 s → Within F r0 (State.goodFrame s n d i f) := by
  intro s n d i f h
  unfold State.goodFrame
  dsimp only
  repeat' first
    | with_reducible first
      | assumption | apply State.skDrain_frame | apply State.modDir_frame | apply State.skTrack_frame
      | apply State.skIdle_frame | apply State.nakFor_frame
    | split | exact maskSub hF rfl

theorem execSkinkFrame_frame {F r0} (hF : F &&& 9111993 = 9111993) : ∀ {s conn dir bundle frame}, Within F r0 s → WithinR F r0 (execSkinkFrame conn dir bundle frame s) := by
  intro s conn dir bundle frame h
  unfold execSkinkFrame
  dsimp only
  repeat' first
    | with_reducible first
      | assumption | apply State.skDealt_frame | apply State.takeCfg_frame | apply State.goodFrame_frame
      | apply State.crcFailed_frame | apply WithinR.next
    | split | exact maskSub hF rfl

theorem execNak_frame {F r0} (hF : F &&& 9111993 = 9111993) : ∀ {s conn dir seq}, Within F r0 s → WithinR F r0 (execNak conn dir seq s) := by
  intro s conn dir seq h
  unfold execNak
  dsimp only
  repeat' first
    | with_reducible first
      | assumption | apply State.modDir_frame | apply State.quarantine_frame | apply State.skResend_frame
      | apply WithinR.next
    | split | exact maskSub hF rfl

theorem execSbStateSend_frame {F r0} (hF : F &&& 131200 = 131200) : ∀ {s conn side rep}, Within F r0 s → WithinR F r0 (execSbStateSend conn side rep s) := by
  intro s conn side rep h
  unfold execSbStateSend
  dsimp only
  repeat' first
    | with_reducible first | assumption | apply State.sbTell_frame | apply WithinR.next
    | split

theorem State.rejoinStart_frame {F r0} (hF : F &&& 131201 = 131201) : ∀ {s d}, Within F r0 s → Within F r0 (State.rejoinStart s d) := by
  intro s d h
  unfold State.rejoinStart
  dsimp only
  repeat' first
    | with_reducible first
      | assumption | apply State.sendTestAll_frame | apply State.modConn_frame | apply State.setDieState_frame
      | apply State.modSk_frame | apply Within.foldl | intro _
    | split | exact maskSub hF rfl

theorem State.autoRejoin_frame {F r0} (hF : F &&& 131201 = 131201) : ∀ {s d}, Within F r0 s → Within F r0 (State.autoRejoin s d) := by
  intro s d h
  unfold State.autoRejoin
  repeat' first
    | with_reducible first | assumption | apply State.rejoinStart_frame
    | split

theorem execSbState_frame {F r0} (hF : F &&& 9111993 = 9111993) : ∀ {s conn side rep}, Within F r0 s → WithinR F r0 (execSbState conn side rep s) := by
  intro s conn side rep h
  unfold execSbState
  dsimp only
  repeat' first
    | with_reducible first
      | assumption | apply State.sbMsg_frame | apply State.modSk_frame | apply State.quarantine_frame
      | apply State.autoRejoin_frame | apply WithinR.next | intro _
    | split | exact maskSub hF rfl

theorem execQuarantineMessage_frame {F r0} (hF : F &&& 9111993 = 9111993) : ∀ {s conn lost cause}, Within F r0 s → WithinR F r0 (execQuarantineMessage conn lost cause s) := by
  intro s conn lost cause h
  unfold execQuarantineMessage
  repeat' first
    | with_reducible first
      | assumption | apply State.sbMsg_frame | apply State.quarantine_frame | apply WithinR.next | intro _
    | split | exact maskSub hF rfl

theorem execSidebandLost_frame {F r0} (hF : F &&& 1 = 1) : ∀ {s conn}, Within F r0 s → WithinR F r0 (execSidebandLost conn s) := by
  intro s conn h
  unfold execSidebandLost
  repeat' first
    | with_reducible first | assumption | apply State.setFlag_frame | apply WithinR.next
    | split

theorem State.testStart_frame {F r0} (hF : F &&& 131073 = 131073) : ∀ {s n start l whole}, Within F r0 s → Within F r0 (State.testStart s n start l whole) := by
  intro s n start l whole h
  unfold State.testStart
  dsimp only
  repeat' first
    | with_reducible first
      | assumption | apply State.modConn_frame | apply State.takeCfg_frame | apply State.showConn_frame
      | apply State.setConnState_frame
    | split | exact maskSub hF rfl

theorem execTestStart_frame {F r0} (hF : F &&& 131073 = 131073) : ∀ {s conn dirs bundles slot}, Within F r0 s → WithinR F r0 (execTestStart conn dirs bundles slot s) := by
  intro s conn dirs bundles slot h
  unfold execTestStart
  dsimp only
  repeat' first
    | with_reducible first
      | assumption | apply State.sbMsg_frame | apply State.testStart_frame | apply WithinR.next | apply id_frame
      | intro _
    | split

theorem State.sendExchange_frame {F r0} (hF : F &&& 131200 = 131200) : ∀ {s n e}, Within F r0 s → Within F r0 (State.sendExchange s n e) := by
  intro s n e h
  unfold State.sendExchange
  repeat' with_reducible first | assumption | apply State.sendMaps_frame

theorem execLaneTestComplete_frame {F r0} (hF : F &&& 131201 = 131201) : ∀ {s conn runs}, Within F r0 s → WithinR F r0 (execLaneTestComplete conn runs s) := by
  intro s conn runs h
  unfold execLaneTestComplete
  dsimp only
  repeat' first
    | with_reducible first
      | assumption | apply State.modBundle_frame | apply State.modConn_frame | apply State.sendExchange_frame
      | apply State.setConnState_frame | apply Within.foldl | apply WithinR.next | intro _
    | split | exact maskSub hF rfl

theorem State.fallbackFailed_frame {F r0} (hF : F &&& 9111993 = 9111993) : ∀ {s n}, Within F r0 s → Within F r0 (State.fallbackFailed s n) := by
  intro s n h
  unfold State.fallbackFailed
  dsimp only
  repeat' first
    | with_reducible first
      | assumption | apply State.quarantine_frame | apply State.wf_frame | apply State.setConnState_frame
      | apply State.showConn_frame | apply State.modConn_frame | apply State.connQuarantine_frame
      | apply State.skLog_frame | apply State.setDieState_frame | apply State.offerCommits_frame | apply Within.foldl
      | intro _
    | split | exact maskSub hF rfl

theorem State.applyMaps_frame {F r0} (hF : F &&& 131073 = 131073) : ∀ {s n e}, Within F r0 s → Within F r0 (State.applyMaps s n e) := by
  intro s n e h
  unfold State.applyMaps
  dsimp only
  repeat' first
    | with_reducible first
      | assumption | apply State.modBundle_frame | apply State.setMap_frame | apply Within.foldl | intro _
    | exact maskSub hF rfl

theorem State.logOut_frame {F r0} (hF : F &&& 1 = 1) : ∀ {s n e}, Within F r0 s → Within F r0 (State.logOut s n e) := by
  intro s n e h
  unfold State.logOut
  repeat' first
    | with_reducible first | assumption | apply State.skLog_frame | apply Within.foldl | intro _
    | split

theorem State.sendLoads_frame {F r0} (hF : F &&& 131200 = 131200) : ∀ {s n}, Within F r0 s → Within F r0 (State.sendLoads s n) := by
  intro s n h
  unfold State.sendLoads
  repeat' first
    | with_reducible first | assumption | apply State.sendLoad_frame
    | split

theorem State.exchangeDone_frame {F r0} (hF : F &&& 9111993 = 9111993) : ∀ {s n e}, Within F r0 s → Within F r0 (State.exchangeDone s n e) := by
  intro s n e h
  unfold State.exchangeDone
  dsimp only
  repeat' first
    | with_reducible first
      | assumption | apply State.showConn_frame | apply State.modConn_frame | apply State.applyMaps_frame
      | apply State.fallbackFailed_frame | apply State.logOut_frame | apply State.wf_frame
      | apply State.setConnState_frame | apply State.skLog_frame | apply State.quarantine_frame
      | apply State.offerCommits_frame | apply State.sendLoads_frame | apply State.dieRetainUp_frame
      | apply State.skDrain_frame
    | split | exact maskSub hF rfl

theorem State.exchangeFailed_frame {F r0} (hF : F &&& 9111993 = 9111993) : ∀ {s n e}, Within F r0 s → Within F r0 (State.exchangeFailed s n e) := by
  intro s n e h
  unfold State.exchangeFailed
  dsimp only
  repeat' first
    | with_reducible first
      | assumption | apply State.fallbackFailed_frame | apply State.modConn_frame | apply State.setFlag_frame
      | apply State.sendConfirm_frame | apply State.sendExchange_frame
    | split | exact maskSub hF rfl

theorem State.confirmDue_frame {F r0} (hF : F &&& 131200 = 131200) : ∀ {s n side e t}, Within F r0 t → Within F r0 (State.confirmDue s n side e t) := by
  intro s n side e t h
  unfold State.confirmDue
  split
  · exact State.sendConfirm_frame (maskSub hF rfl) h
  · exact h

theorem execMapSummary_frame {F r0} (hF : F &&& 131201 = 131201) : ∀ {s conn side xch bad}, Within F r0 s → WithinR F r0 (execMapSummary conn side xch bad s) := by
  intro s conn side xch bad h
  unfold execMapSummary
  repeat' first
    | with_reducible first
      | assumption | apply State.sbMsg_frame | apply State.confirmDue_frame | apply State.modSide_frame
      | apply Within.foldl | apply WithinR.next | intro _
    | split | exact maskSub hF rfl

theorem execLaneMap_frame {F r0} (hF : F &&& 131201 = 131201) : ∀ {s conn side xch bundle good}, Within F r0 s → WithinR F r0 (execLaneMap conn side xch bundle good s) := by
  intro s conn side xch bundle good h
  unfold execLaneMap
  dsimp only
  repeat' first
    | with_reducible first
      | assumption | apply State.sbMsg_frame | apply State.confirmDue_frame | apply State.modSide_frame
      | apply WithinR.next | intro _
    | split | exact maskSub hF rfl

theorem execConfirm_frame {F r0} (hF : F &&& 9111993 = 9111993) : ∀ {s conn side xch crc}, Within F r0 s → WithinR F r0 (execConfirm conn side xch crc s) := by
  intro s conn side xch crc h
  unfold execConfirm
  dsimp only
  repeat' first
    | with_reducible first
      | assumption | apply State.sbMsg_frame | apply State.modSide_frame | apply State.exchangeDone_frame
      | apply State.exchangeFailed_frame | apply WithinR.next | intro _
    | split | exact maskSub hF rfl

theorem execNack_frame {F r0} (hF : F &&& 9111993 = 9111993) : ∀ {s conn side seq typ}, Within F r0 s → WithinR F r0 (execNack conn side seq typ s) := by
  intro s conn side seq typ h
  unfold execNack
  dsimp only
  repeat' first
    | with_reducible first
      | assumption | apply State.sbMsg_frame | apply State.modSide_frame | apply State.exchangeFailed_frame
      | apply State.modConn_frame | apply State.sbAgain_frame | apply WithinR.next | intro _
    | split | exact maskSub hF rfl

theorem execForwardedClockLoss_frame {F r0} (hF : F &&& 9111993 = 9111993) : ∀ {s conn}, Within F r0 s → WithinR F r0 (execForwardedClockLoss conn s) := by
  intro s conn h
  unfold execForwardedClockLoss
  repeat' first
    | with_reducible first | assumption | apply State.quarantine_frame | apply WithinR.next
    | split

theorem execRspTimeout_frame {F r0} (hF : F &&& 9111993 = 9111993) : ∀ {s conn us}, Within F r0 s → WithinR F r0 (execRspTimeout conn us s) := by
  intro s conn us h
  unfold execRspTimeout
  dsimp only
  repeat' first
    | with_reducible first
      | assumption | apply State.takeCfg_frame | apply State.quarantine_frame | apply WithinR.next
    | split | exact maskSub hF rfl

theorem execQuarantineSweepComplete_frame {F r0} (hF : F &&& 131073 = 131073) : ∀ {s die done discarded}, Within F r0 s → WithinR F r0 (execQuarantineSweepComplete die done discarded s) := by
  intro s die done discarded h
  unfold execQuarantineSweepComplete
  dsimp only
  repeat' first
    | with_reducible first
      | assumption | apply State.wf_frame | apply State.setDieState_frame | apply State.modSk_frame | apply WithinR.next
    | split | exact maskSub hF rfl

theorem execRejoinReq_frame {F r0} (hF : F &&& 131201 = 131201) : ∀ {s die count}, Within F r0 s → WithinR F r0 (execRejoinReq die count s) := by
  intro s die count h
  unfold execRejoinReq
  repeat' first
    | with_reducible first
      | assumption | apply State.sbMsg_frame | apply State.autoRejoin_frame | apply State.modSk_frame
      | apply WithinR.next | intro _
    | split | exact maskSub hF rfl

theorem execRejoinCommit_frame {F r0} (hF : F &&& 133171 = 133171) : ∀ {s die cycle}, Within F r0 s → WithinR F r0 (execRejoinCommit die cycle s) := by
  intro s die cycle h
  unfold execRejoinCommit
  repeat' first
    | with_reducible first
      | assumption | apply State.sbMsg_frame | apply State.commitsDue_frame | apply State.modSk_frame
      | apply WithinR.next | intro _
    | split | exact maskSub hF rfl

theorem State.skDieCtrl_frame {F r0} (hF : F &&& 9111993 = 9111993) : ∀ {s w}, Within F r0 s → Within F r0 (State.skDieCtrl s w) := by
  intro s w h
  unfold State.skDieCtrl
  dsimp only
  repeat' first
    | with_reducible first
      | assumption | apply State.wf_frame | apply State.quarantine_frame | apply State.rejoinStart_frame
      | apply Within.foldl | intro _
    | split | exact maskSub hF rfl

theorem execQuar_frame {F r0} (hF : F &&& 9111997 = 9111997) : ∀ {s port mask}, Within F r0 s → WithinR F r0 (execQuar port mask s) := by
  intro s port mask h
  unfold execQuar
  repeat' first
    | with_reducible first
      | assumption | apply State.access_frame | apply State.skDieCtrl_frame | apply WithinR.next | intro _
    | exact maskSub hF rfl

theorem execRejoin_frame {F r0} (hF : F &&& 9111997 = 9111997) : ∀ {s port mask}, Within F r0 s → WithinR F r0 (execRejoin port mask s) := by
  intro s port mask h
  unfold execRejoin
  repeat' first
    | with_reducible first
      | assumption | apply State.access_frame | apply State.skDieCtrl_frame | apply WithinR.next | intro _
    | exact maskSub hF rfl

theorem State.skWrite_frame {F r0} (hF : F &&& 9111993 = 9111993) : ∀ {s n off w}, Within F r0 s → Within F r0 (State.skWrite s n off w) := by
  intro s n off w h
  unfold State.skWrite
  dsimp only
  repeat' first
    | with_reducible first
      | assumption | apply State.skDieCtrl_frame | apply State.plainWrite_frame | apply State.setReg_frame
    | split | exact maskSub hF rfl

/-! ## ChGraph -/

theorem State.modLink_frame {F r0} (hF : F &&& 262144 = 262144) : ∀ {s k f}, Within F r0 s → Within F r0 (State.modLink s k f) := by
  intro s k f h
  unfold State.modLink
  repeat' with_reducible first | assumption | apply State.modCh_frame

theorem State.setDl_frame {F r0} (hF : F &&& 1 = 1) : ∀ {s k v}, Within F r0 s → Within F r0 (State.setDl s k v) := by
  intro s k v h
  unfold State.setDl
  repeat' with_reducible first | assumption | apply State.wf_frame

theorem State.setRoutes_frame {F r0} (hF : F &&& 1 = 1) : ∀ {s m}, Within F r0 s → Within F r0 (State.setRoutes s m) := by
  intro s m h
  unfold State.setRoutes
  dsimp only
  repeat' first
    | with_reducible first | assumption | apply State.setReg_frame | apply Within.foldl | intro _
    | split

/-! ## Chorus -/

theorem State.setChState_frame {F r0} (hF : F &&& 1 = 1) : ∀ {s v}, Within F r0 s → Within F r0 (State.setChState s v) := by
  intro s v h
  unfold State.setChState
  repeat' with_reducible first | assumption | apply State.wf_frame

theorem State.sendFrame_frame {F r0} (hF : F &&& 262272 = 262272) : ∀ {s ks b}, Within F r0 s → Within F r0 (State.sendFrame s ks b) := by
  intro s ks b h
  unfold State.sendFrame
  dsimp only
  repeat' first
    | with_reducible first
      | assumption | apply State.modCh_frame | apply State.emit_frame | apply Within.foldl | intro _
    | exact maskSub hF rfl

theorem State.flood_frame {F r0} (hF : F &&& 262272 = 262272) : ∀ {s b}, Within F r0 s → Within F r0 (State.flood s b) := by
  intro s b h
  unfold State.flood
  repeat' with_reducible first | assumption | apply State.sendFrame_frame

theorem State.forward_frame {F r0} (hF : F &&& 262272 = 262272) : ∀ {s k f}, Within F r0 s → Within F r0 (State.forward s k f) := by
  intro s k f h
  unfold State.forward
  repeat' first
    | with_reducible first
      | assumption | apply State.modCh_frame | apply State.emit_frame | apply Within.foldl | intro _
    | exact maskSub hF rfl

theorem State.floodedIn_frame {F r0} {act : State → State} (hact : ∀ r y0, Within F r y0 → Within F r (act y0)) (hF : F &&& 262273 = 262273) : ∀ {s k ok f}, Within F r0 s → Within F r0 (State.floodedIn s k ok f act) := by
  intro s k ok f h
  unfold State.floodedIn
  repeat' first
    | with_reducible first
      | assumption | apply State.bump_frame | apply State.forward_frame | apply hact | intro _
    | split | exact maskSub hF rfl

theorem State.barrierEval_frame {F r0} (hF : F &&& 262147 = 262147) : ∀ {s}, Within F r0 s → Within F r0 (State.barrierEval s) := by
  intro s h
  unfold State.barrierEval
  dsimp only
  repeat' first
    | with_reducible first
      | assumption | apply State.wf_frame | apply State.memWrite_frame | apply State.modCh_frame
    | split | exact maskSub hF rfl

theorem execBarrierArrival_frame {F r0} (hF : F &&& 262275 = 262275) : ∀ {s}, Within F r0 s → WithinR F r0 (execBarrierArrival s) := by
  intro s h
  unfold execBarrierArrival
  dsimp only
  repeat' first
    | with_reducible first
      | assumption | apply State.modCh_frame | apply State.barrierEval_frame | apply State.flood_frame
      | apply WithinR.next
    | split | exact maskSub hF rfl

theorem execArrive_frame {F r0} (hF : F &&& 262275 = 262275) : ∀ {s link origin seq ok num}, Within F r0 s → WithinR F r0 (execArrive link origin seq ok num s) := by
  intro s link origin seq ok num h
  unfold execArrive
  repeat' first
    | with_reducible first
      | assumption | apply State.floodedIn_frame | apply State.barrierEval_frame | apply State.modCh_frame
      | apply WithinR.next | intro _
    | exact maskSub hF rfl

theorem execBarrierLate_frame {F r0} (hF : F &&& 262145 = 262145) : ∀ {s num}, Within F r0 s → WithinR F r0 (execBarrierLate num s) := by
  intro s num h
  unfold execBarrierLate
  repeat' first
    | with_reducible first
      | assumption | apply State.raiseIrq_frame | apply State.bump_frame | apply State.modCh_frame | apply WithinR.next
    | split | exact maskSub hF rfl

theorem State.writeView_frame {F r0} (hF : F &&& 3 = 3) : ∀ {s}, Within F r0 s → Within F r0 (State.writeView s) := by
  intro s h
  unfold State.writeView
  dsimp only
  repeat' first
    | with_reducible first | assumption | apply State.memWrite_frame
    | split

theorem State.renotice_frame {F r0} (hF : F &&& 32 = 32) : ∀ {s}, Within F r0 s → Within F r0 (State.renotice s) := by
  intro s h
  unfold State.renotice
  dsimp only
  repeat' first
    | with_reducible first | assumption | apply State.notify_frame
    | split

theorem State.lostRequests_frame {F r0} (hF : F &&& 8913201 = 8913201) : ∀ {s}, Within F r0 s → Within F r0 (State.lostRequests s) := by
  intro s h
  unfold State.lostRequests
  repeat' first
    | with_reducible first | assumption | apply State.tileFault_frame | apply Within.foldl | intro _
    | split

theorem State.masterChange_frame {F r0} (hF : F &&& 8 = 8) : ∀ {s old new}, Within F r0 s → Within F r0 (State.masterChange s old new) := by
  intro s old new h
  unfold State.masterChange
  repeat' first
    | with_reducible first | assumption | apply State.modTime_frame
    | split

theorem State.viewCommit_frame {F r0} (hF : F &&& 9175483 = 9175483) : ∀ {s num m}, Within F r0 s → Within F r0 (State.viewCommit s num m) := by
  intro s num m h
  unfold State.viewCommit
  dsimp only
  repeat' first
    | with_reducible first
      | assumption | apply State.wf_frame | apply State.setChState_frame | apply State.modCh_frame
      | apply State.clrFlag_frame | apply State.lostRequests_frame | apply State.collCheckAll_frame
      | apply State.setRoutes_frame | apply State.barrierEval_frame | apply State.masterChange_frame
      | apply State.raiseIrq_frame | apply State.bump_frame | apply State.renotice_frame | apply State.writeView_frame
      | apply State.reselect_frame
    | split | exact maskSub hF rfl

theorem State.exile_frame {F r0} (hF : F &&& 9175473 = 9175473) : ∀ {s}, Within F r0 s → Within F r0 (State.exile s) := by
  intro s h
  unfold State.exile
  dsimp only
  repeat' first
    | with_reducible first
      | assumption | apply State.clrFlag_frame | apply State.wf_frame | apply State.setChState_frame
      | apply State.modCh_frame | apply State.reselect_frame | apply State.lostRequests_frame
      | apply State.collCheckAll_frame | apply State.setRoutes_frame
    | exact maskSub hF rfl

theorem State.agreeCheck_frame {F r0} (hF : F &&& 9175483 = 9175483) : ∀ {s}, Within F r0 s → Within F r0 (State.agreeCheck s) := by
  intro s h
  unfold State.agreeCheck
  repeat' first
    | with_reducible first | assumption | apply State.exile_frame | apply State.viewCommit_frame
    | split | exact maskSub hF rfl

theorem State.propose_frame {F r0} (hF : F &&& 9175483 = 9175483) : ∀ {s num set since}, Within F r0 s → Within F r0 (State.propose s num set since) := by
  intro s num set since h
  unfold State.propose
  dsimp only
  repeat' first
    | with_reducible first
      | assumption | apply State.setFlag_frame | apply State.modCh_frame | apply State.agreeCheck_frame
      | apply State.flood_frame
    | exact maskSub hF rfl

theorem State.narrow_frame {F r0} (hF : F &&& 9175483 = 9175483) : ∀ {s a m}, Within F r0 s → Within F r0 (State.narrow s a m) := by
  intro s a m h
  unfold State.narrow
  dsimp only
  repeat' first
    | with_reducible first | assumption | apply State.agreeCheck_frame | apply State.propose_frame
    | split

theorem State.suspect_frame {F r0} (hF : F &&& 9175483 = 9175483) : ∀ {s}, Within F r0 s → Within F r0 (State.suspect s) := by
  intro s h
  unfold State.suspect
  dsimp only
  repeat' first
    | with_reducible first | assumption | apply State.propose_frame | apply State.narrow_frame
    | split

theorem State.viewIn_frame {F r0} (hF : F &&& 9175483 = 9175483) : ∀ {s origin num set}, Within F r0 s → Within F r0 (State.viewIn s origin num set) := by
  intro s origin num set h
  unfold State.viewIn
  dsimp only
  repeat' first
    | with_reducible first
      | assumption | apply State.modCh_frame | apply State.exile_frame | apply State.propose_frame
      | apply State.narrow_frame
    | split | exact maskSub hF rfl

theorem execView_frame {F r0} (hF : F &&& 9175483 = 9175483) : ∀ {s link origin seq ok num set}, Within F r0 s → WithinR F r0 (execView link origin seq ok num set s) := by
  intro s link origin seq ok num set h
  unfold execView
  repeat' first
    | with_reducible first
      | assumption | apply State.floodedIn_frame | apply State.viewIn_frame | apply WithinR.next | intro _
    | exact maskSub hF rfl

theorem execViewReflood_frame {F r0} (hF : F &&& 262272 = 262272) : ∀ {s}, Within F r0 s → WithinR F r0 (execViewReflood s) := by
  intro s h
  unfold execViewReflood
  repeat' first
    | with_reducible first | assumption | apply State.flood_frame | apply State.modCh_frame | apply WithinR.next
    | split | exact maskSub hF rfl

theorem execAgreementRestart_frame {F r0} (hF : F &&& 9175483 = 9175483) : ∀ {s}, Within F r0 s → WithinR F r0 (execAgreementRestart s) := by
  intro s h
  unfold execAgreementRestart
  repeat' first
    | with_reducible first | assumption | apply State.propose_frame | apply State.bump_frame | apply WithinR.next
    | split | exact maskSub hF rfl

theorem State.flitPut_frame {F r0} (hF : F &&& 262272 = 262272) : ∀ {s k o}, Within F r0 s → Within F r0 (State.flitPut s k o) := by
  intro s k o h
  unfold State.flitPut
  dsimp only
  repeat' first
    | with_reducible first | assumption | apply State.emit_frame | apply State.modLink_frame
    | exact maskSub hF rfl

theorem State.flitFlush_frame {F r0} (hF : F &&& 262272 = 262272) : ∀ {k n s}, Within F r0 s → Within F r0 (State.flitFlush k n s) := by
  intro k n
  induction n with
  | zero => exact fun h => h
  | succ n ih =>
    intro s h
    unfold State.flitFlush
    split
    · split
      · exact ih (State.flitPut_frame (maskSub hF rfl) (State.modLink_frame (maskSub hF rfl) h))
      · exact h
    · exact h

theorem State.flitDrain_frame {F r0} (hF : F &&& 262272 = 262272) : ∀ {s k}, Within F r0 s → Within F r0 (State.flitDrain s k) := by
  intro s k h
  unfold State.flitDrain
  repeat' with_reducible first | assumption | apply State.flitFlush_frame

theorem State.flitSend_frame {F r0} (hF : F &&& 262272 = 262272) : ∀ {s k kind src dst payload}, Within F r0 s → Within F r0 (State.flitSend s k kind src dst payload) := by
  intro s k kind src dst payload h
  unfold State.flitSend
  repeat' first
    | with_reducible first | assumption | apply State.flitDrain_frame | apply State.modLink_frame
    | split | exact maskSub hF rfl

theorem State.flitResend_frame {F r0} (hF : F &&& 128 = 128) : ∀ {s k seq}, Within F r0 s → Within F r0 (State.flitResend s k seq) := by
  intro s k seq h
  unfold State.flitResend
  dsimp only
  repeat' first
    | with_reducible first | assumption | apply State.emit_frame | apply Within.foldl | intro _
    | split

theorem State.flitRoute_frame {F r0} (hF : F &&& 262272 = 262272) : ∀ {s b}, Within F r0 s → Within F r0 (State.flitRoute s b) := by
  intro s b h
  unfold State.flitRoute
  repeat' first
    | with_reducible first | assumption | apply State.flitSend_frame
    | split

theorem State.flitTake_frame {F r0} (hF : F &&& 262272 = 262272) : ∀ {s k b}, Within F r0 s → Within F r0 (State.flitTake s k b) := by
  intro s k b h
  unfold State.flitTake
  dsimp only
  repeat' first
    | with_reducible first
      | assumption | apply State.flitDrain_frame | apply State.modLink_frame | apply State.flitResend_frame
      | apply State.flitSend_frame | apply State.flitRoute_frame
    | split | exact maskSub hF rfl

theorem State.flitNak_frame {F r0} (hF : F &&& 262272 = 262272) : ∀ {s k}, Within F r0 s → Within F r0 (State.flitNak s k) := by
  intro s k h
  unfold State.flitNak
  repeat' first
    | with_reducible first | assumption | apply State.flitSend_frame | apply State.modLink_frame
    | exact maskSub hF rfl

theorem State.outRoute_frame {F r0} (hF : F &&& 262272 = 262272) : ∀ {s o}, Within F r0 s → Within F r0 (State.outRoute s o) := by
  intro s o h
  unfold State.outRoute
  repeat' first
    | with_reducible first | assumption | apply State.flitSend_frame
    | split

theorem State.linkDown_frame {F r0} (hF : F &&& 9175483 = 9175483) : ∀ {s k}, Within F r0 s → Within F r0 (State.linkDown s k) := by
  intro s k h
  unfold State.linkDown
  dsimp only
  repeat' first
    | with_reducible first
      | assumption | apply State.modLink_frame | apply State.wf_frame | apply State.setDl_frame
      | apply State.lostRequests_frame | apply State.collCheckAll_frame | apply State.setRoutes_frame
      | apply State.suspect_frame | apply State.outRoute_frame | apply State.flitRoute_frame | apply Within.foldl
      | intro _
    | split | exact maskSub hF rfl

theorem State.falls_frame {F r0} (hF : F &&& 262144 = 262144) : ∀ {s k}, Within F r0 s → Within F r0 (State.falls s k) := by
  intro s k h
  unfold State.falls
  dsimp only
  repeat' first
    | with_reducible first | assumption | apply State.modCh_frame
    | split

theorem State.retrainLink_frame {F r0} (hF : F &&& 9175483 = 9175483) : ∀ {s k width}, Within F r0 s → Within F r0 (State.retrainLink s k width) := by
  intro s k width h
  unfold State.retrainLink
  repeat' first
    | with_reducible first
      | assumption | apply State.linkDown_frame | apply State.modLink_frame | apply State.setDl_frame
    | split | exact maskSub hF rfl

theorem execLaneLoss_frame {F r0} (hF : F &&& 9175483 = 9175483) : ∀ {s link bad}, Within F r0 s → WithinR F r0 (execLaneLoss link bad s) := by
  intro s link bad h
  unfold execLaneLoss
  repeat' first
    | with_reducible first | assumption | apply State.retrainLink_frame | apply WithinR.next
    | split

theorem execLinkRetrainComplete_frame {F r0} (hF : F &&& 9175483 = 9175483) : ∀ {s link ok}, Within F r0 s → WithinR F r0 (execLinkRetrainComplete link ok s) := by
  intro s link ok h
  unfold execLinkRetrainComplete
  repeat' first
    | with_reducible first
      | assumption | apply State.flitDrain_frame | apply State.wf_frame | apply State.setDl_frame
      | apply State.linkDown_frame | apply WithinR.next
    | split | exact maskSub hF rfl

theorem execDeviceLinkFlit_frame {F r0} (hF : F &&& 9175483 = 9175483) : ∀ {s link head fixed body crc}, Within F r0 s → WithinR F r0 (execDeviceLinkFlit link head fixed body crc s) := by
  intro s link head fixed body crc h
  unfold execDeviceLinkFlit
  dsimp only
  repeat' first
    | with_reducible first
      | assumption | apply State.bump_frame | apply State.modLink_frame | apply State.flitNak_frame
      | apply State.retrainLink_frame | apply State.flitTake_frame | apply WithinR.next
    | split | exact maskSub hF rfl

theorem execDlTrainingComplete_frame {F r0} (hF : F &&& 262273 = 262273) : ∀ {s link ok width rate nbr nbrPort}, Within F r0 s → WithinR F r0 (execDlTrainingComplete link ok width rate nbr nbrPort s) := by
  intro s link ok width rate nbr nbrPort h
  unfold execDlTrainingComplete
  dsimp only
  repeat' first
    | with_reducible first
      | assumption | apply State.wf_frame | apply State.setDl_frame | apply State.modLink_frame
      | apply State.modCh_frame | apply State.sendFrame_frame | apply Within.foldl | apply WithinR.next | intro _
    | split | exact maskSub hF rfl

theorem execPcieLinkChange_frame {F r0} (hF : F &&& 1029 = 1029) : ∀ {s up width rate}, Within F r0 s → WithinR F r0 (execPcieLinkChange up width rate s) := by
  intro s up width rate h
  unfold execPcieLinkChange
  dsimp only
  repeat' first
    | with_reducible first
      | assumption | apply State.wf_frame | apply State.setDl_frame | apply State.modReads_frame
      | apply State.answered_frame | apply Within.foldl | apply WithinR.next | intro _
    | split | exact maskSub hF rfl

theorem State.dlCfgWrite_frame {F r0} (hF : F &&& 1 = 1) : ∀ {s k w}, Within F r0 s → Within F r0 (State.dlCfgWrite s k w) := by
  intro s k w h
  unfold State.dlCfgWrite
  dsimp only
  repeat' first
    | with_reducible first
      | assumption | apply State.setFlag_frame | apply State.plainWrite_frame | apply State.setDl_frame
    | split

theorem execDlCfgWrite_frame {F r0} (hF : F &&& 5 = 5) : ∀ {s port link val}, Within F r0 s → WithinR F r0 (execDlCfgWrite port link val s) := by
  intro s port link val h
  unfold execDlCfgWrite
  repeat' first
    | with_reducible first
      | assumption | apply State.access_frame | apply State.dlCfgWrite_frame | apply WithinR.next | intro _
    | exact maskSub hF rfl

theorem State.dlWrite_frame {F r0} (hF : F &&& 1 = 1) : ∀ {s k off w}, Within F r0 s → Within F r0 (State.dlWrite s k off w) := by
  intro s k off w h
  unfold State.dlWrite
  repeat' first
    | with_reducible first
      | assumption | apply State.dlCfgWrite_frame | apply State.plainWrite_frame | apply State.setReg_frame
    | split

theorem State.chOff_frame {F r0} (hF : F &&& 9175473 = 9175473) : ∀ {s}, Within F r0 s → Within F r0 (State.chOff s) := by
  intro s h
  unfold State.chOff
  dsimp only
  repeat' first
    | with_reducible first
      | assumption | apply State.clrFlag_frame | apply State.setReg_frame | apply State.modCh_frame
      | apply State.reselect_frame | apply State.lostRequests_frame | apply State.collCheckAll_frame
      | apply State.setRoutes_frame
    | exact maskSub hF rfl

theorem State.chCfgWrite_frame {F r0} (hF : F &&& 13369777 = 13369777) : ∀ {s w}, Within F r0 s → Within F r0 (State.chCfgWrite s w) := by
  intro s w h
  unfold State.chCfgWrite
  dsimp only
  repeat' first
    | with_reducible first
      | assumption | apply State.plainWrite_frame | apply State.entryCheck_frame | apply State.modCh_frame
      | apply State.setChState_frame | apply State.setFlag_frame | apply State.chOff_frame
    | split | exact maskSub hF rfl

theorem execChEnable_frame {F r0} (hF : F &&& 13369781 = 13369781) : ∀ {s port}, Within F r0 s → WithinR F r0 (execChEnable port s) := by
  intro s port h
  unfold execChEnable
  repeat' first
    | with_reducible first
      | assumption | apply State.access_frame | apply State.chCfgWrite_frame | apply WithinR.next | intro _
    | exact maskSub hF rfl

theorem execChDisable_frame {F r0} (hF : F &&& 13369781 = 13369781) : ∀ {s port}, Within F r0 s → WithinR F r0 (execChDisable port s) := by
  intro s port h
  unfold execChDisable
  repeat' first
    | with_reducible first
      | assumption | apply State.access_frame | apply State.chCfgWrite_frame | apply WithinR.next | intro _
    | exact maskSub hF rfl

theorem State.chWrite_frame {F r0} (hF : F &&& 13369777 = 13369777) : ∀ {s off w}, Within F r0 s → Within F r0 (State.chWrite s off w) := by
  intro s off w h
  unfold State.chWrite
  dsimp only
  repeat' first
    | with_reducible first
      | assumption | apply State.chCfgWrite_frame | apply State.setFlag_frame | apply State.plainWrite_frame
      | apply State.setReg_frame
    | split | exact maskSub hF rfl

theorem execHelloSend_frame {F r0} (hF : F &&& 262272 = 262272) : ∀ {s}, Within F r0 s → WithinR F r0 (execHelloSend s) := by
  intro s h
  unfold execHelloSend
  dsimp only
  repeat' first
    | with_reducible first | assumption | apply State.flood_frame | apply State.modCh_frame | apply WithinR.next
    | split | exact maskSub hF rfl

theorem State.hear_frame {F r0} (hF : F &&& 262144 = 262144) : ∀ {s p}, Within F r0 s → Within F r0 (State.hear s p) := by
  intro s p h
  unfold State.hear
  dsimp only
  repeat' first
    | with_reducible first | assumption | apply State.modCh_frame
    | split

theorem State.twinHello_frame {F r0} (hF : F &&& 262144 = 262144) : ∀ {s k ok f}, Within F r0 s → Within F r0 (State.twinHello s k ok f) := by
  intro s k ok f h
  unfold State.twinHello
  repeat' first
    | with_reducible first | assumption | apply State.modCh_frame
    | split

theorem execHello_frame {F r0} (hF : F &&& 262273 = 262273) : ∀ {s link origin seq ok cfg adj}, Within F r0 s → WithinR F r0 (execHello link origin seq ok cfg adj s) := by
  intro s link origin seq ok cfg adj h
  unfold execHello
  dsimp only
  repeat' first
    | with_reducible first
      | assumption | apply State.floodedIn_frame | apply State.twinHello_frame | apply State.hear_frame
      | apply WithinR.next | intro _
    | split | exact maskSub hF rfl

theorem execDiscoveryEnd_frame {F r0} (hF : F &&& 9175483 = 9175483) : ∀ {s}, Within F r0 s → WithinR F r0 (execDiscoveryEnd s) := by
  intro s h
  unfold execDiscoveryEnd
  dsimp only
  repeat' first
    | with_reducible first
      | assumption | apply State.propose_frame | apply State.setChState_frame | apply State.wf_frame
      | apply WithinR.next
    | split | exact maskSub hF rfl

theorem execHeartbeatSend_frame {F r0} (hF : F &&& 262272 = 262272) : ∀ {s}, Within F r0 s → WithinR F r0 (execHeartbeatSend s) := by
  intro s h
  unfold execHeartbeatSend
  dsimp only
  repeat' first
    | with_reducible first | assumption | apply State.flood_frame | apply State.modCh_frame | apply WithinR.next
    | split | exact maskSub hF rfl

theorem State.followBeat_frame {F r0} (hF : F &&& 265 = 265) : ∀ {s k sent}, Within F r0 s → Within F r0 (State.followBeat s k sent) := by
  intro s k sent h
  unfold State.followBeat
  dsimp only
  repeat' first
    | with_reducible first | assumption | apply State.timeEvent_frame
    | split

theorem execHeartbeat_frame {F r0} (hF : F &&& 9175483 = 9175483) : ∀ {s link origin ok view members sent}, Within F r0 s → WithinR F r0 (execHeartbeat link origin ok view members sent s) := by
  intro s link origin ok view members sent h
  unfold execHeartbeat
  dsimp only
  repeat' first
    | with_reducible first
      | assumption | apply State.bump_frame | apply State.modCh_frame | apply State.modLink_frame
      | apply State.followBeat_frame | apply State.viewIn_frame | apply WithinR.next
    | split | exact maskSub hF rfl

theorem execHeartbeatMiss_frame {F r0} (hF : F &&& 9175483 = 9175483) : ∀ {s link}, Within F r0 s → WithinR F r0 (execHeartbeatMiss link s) := by
  intro s link h
  unfold execHeartbeatMiss
  dsimp only
  repeat' first
    | with_reducible first
      | assumption | apply State.modLink_frame | apply State.bump_frame | apply State.linkDown_frame
      | apply State.falls_frame | apply WithinR.next
    | split | exact maskSub hF rfl

theorem execProbe_frame {F r0} (hF : F &&& 262144 = 262144) : ∀ {s link trips}, Within F r0 s → WithinR F r0 (execProbe link trips s) := by
  intro s link trips h
  unfold execProbe
  repeat' first
    | with_reducible first | assumption | apply State.modLink_frame | apply WithinR.next
    | split

theorem State.reqLinkDown_frame {F r0} (hF : F &&& 8913205 = 8913205) : ∀ {s x1}, Within F r0 s → Within F r0 (State.reqLinkDown s x1) := by
  intro s x1 h
  unfold State.reqLinkDown
  repeat' first
    | with_reducible first
      | assumption | apply State.tileFault_frame | apply State.freeSets_frame | apply State.freeDmas_frame
      | apply State.finish_frame | apply State.traceEvent_frame | apply State.answered_frame | apply Within.foldl
      | intro _
    | split | exact maskSub hF rfl

theorem execPeerResponseTimeout_frame {F r0} (hF : F &&& 8913205 = 8913205) : ∀ {s req us}, Within F r0 s → WithinR F r0 (execPeerResponseTimeout req us s) := by
  intro s req us h
  unfold execPeerResponseTimeout
  repeat' first
    | with_reducible first
      | assumption | apply State.reqLinkDown_frame | apply State.bump_frame | apply WithinR.next
    | split | exact maskSub hF rfl

end Sys2Proof.Machine
end

