-- ==== Sys2Proof/Laws/FramePart.lean ====
section
/-!
SUPPORT. Frames of power, start, debug access, register accesses, island output: one lemma per operation.
-/
namespace Sys2Proof.Machine

/-! ## Power -/

theorem execIdleEntry_frame {F r0} (hF : F &&& 1 = 1) : ∀ {s us}, Within F r0 s → WithinR F r0 (execIdleEntry us s) := by
  intro s us h
  unfold execIdleEntry
  repeat' first
    | with_reducible first
      | assumption | apply State.setPowerState_frame | apply State.setDiePower_frame | apply Within.foldl
      | apply WithinR.next | intro _
    | split

theorem State.startEntry_frame {F r0} (hF : F &&& 524289 = 524289) : ∀ {s target forced}, Within F r0 s → Within F r0 (State.startEntry s target forced) := by
  intro s target forced h
  unfold State.startEntry
  repeat' first
    | with_reducible first
      | assumption | apply State.raiseIrq_frame | apply State.modPw_frame | apply State.setFlag_frame
      | apply State.setPowerState_frame
    | exact maskSub hF rfl

theorem State.stopLoose_frame {F r0} (hF : F &&& 8913201 = 8913201) : ∀ {s c}, Within F r0 s → Within F r0 (State.stopLoose s c) := by
  intro s c h
  unfold State.stopLoose
  dsimp only
  repeat' first
    | with_reducible first
      | assumption | apply State.stopKernel_frame | apply State.abortEngines_frame | apply State.setInflight_frame
      | apply State.modCtx_frame | apply State.freeColls_frame | apply State.freeSets_frame | apply State.freeDmas_frame
      | apply Within.foldl | intro _
    | exact maskSub hF rfl

theorem State.forceJob_frame {F r0} (hF : F &&& 8915251 = 8915251) : ∀ {s c}, Within F r0 s → Within F r0 (State.forceJob s c) := by
  intro s c h
  unfold State.forceJob
  dsimp only
  repeat' first
    | with_reducible first
      | assumption | apply State.jobHalt_frame | apply State.jobStat_frame | apply State.jobStop_frame
      | apply State.kvRestore_frame | (apply Within.fst; assumption)
    | split | exact maskSub hF rfl

theorem State.forceCtx_frame {F r0} (hF : F &&& 8915251 = 8915251) : ∀ {s c}, Within F r0 s → Within F r0 (State.forceCtx s c) := by
  intro s c h
  unfold State.forceCtx
  repeat' first
    | with_reducible first
      | assumption | apply State.stopLoose_frame | apply State.forceJob_frame | apply State.ctxDisable_frame
      | apply Within.foldl | intro _
    | split | exact maskSub hF rfl

theorem State.powerRequest_frame {F r0} (hF : F &&& 8915251 = 8915251) : ∀ {s target force busy}, Within F r0 s → Within F r0 (State.powerRequest s target force busy) := by
  intro s target force busy h
  unfold State.powerRequest
  dsimp only
  repeat' first
    | with_reducible first
      | assumption | apply State.pmRej_frame | apply State.idleExit_frame | apply State.powerEvent_frame
      | apply State.startEntry_frame | apply State.forceCtx_frame | apply Within.foldl | intro _
    | split | exact maskSub hF rfl

theorem execPowerRequestRetain_frame {F r0} (hF : F &&& 8915255 = 8915255) : ∀ {s port busy}, Within F r0 s → WithinR F r0 (execPowerRequestRetain port busy s) := by
  intro s port busy h
  unfold execPowerRequestRetain
  repeat' first
    | with_reducible first
      | assumption | apply State.access_frame | apply State.powerRequest_frame | apply WithinR.next | intro _
    | exact maskSub hF rfl

theorem execPowerRequestBrumation_frame {F r0} (hF : F &&& 8915255 = 8915255) : ∀ {s port busy}, Within F r0 s → WithinR F r0 (execPowerRequestBrumation port busy s) := by
  intro s port busy h
  unfold execPowerRequestBrumation
  repeat' first
    | with_reducible first
      | assumption | apply State.access_frame | apply State.powerRequest_frame | apply WithinR.next | intro _
    | exact maskSub hF rfl

theorem execPowerRequestOff_frame {F r0} (hF : F &&& 8915255 = 8915255) : ∀ {s port busy}, Within F r0 s → WithinR F r0 (execPowerRequestOff port busy s) := by
  intro s port busy h
  unfold execPowerRequestOff
  repeat' first
    | with_reducible first
      | assumption | apply State.access_frame | apply State.powerRequest_frame | apply WithinR.next | intro _
    | exact maskSub hF rfl

theorem execForcedOff_frame {F r0} (hF : F &&& 8915255 = 8915255) : ∀ {s port}, Within F r0 s → WithinR F r0 (execForcedOff port s) := by
  intro s port h
  unfold execForcedOff
  repeat' first
    | with_reducible first
      | assumption | apply State.access_frame | apply State.powerRequest_frame | apply WithinR.next | intro _
    | exact maskSub hF rfl

theorem State.shutdownRec_frame {F r0} (hF : F &&& 2097153 = 2097153) : ∀ {s result fails hbm us}, Within F r0 s → Within F r0 (State.shutdownRec s result fails hbm us) := by
  intro s result fails hbm us h
  unfold State.shutdownRec
  repeat' first
    | with_reducible first | assumption | apply State.hubAppend_frame
    | split

theorem State.bistStat_frame {F r0} (hF : F &&& 1 = 1) : ∀ {s kind fails hbm us}, Within F r0 s → Within F r0 (State.bistStat s kind fails hbm us) := by
  intro s kind fails hbm us h
  unfold State.bistStat
  dsimp only
  repeat' with_reducible first | assumption | apply State.wf_frame

theorem State.saveArea_frame {F r} (hF : F &&& 8388610 = 8388610) : ∀ {s}, Within F r s → Within F r (State.saveArea s) := by
  intro s h
  unfold State.saveArea
  dsimp only
  split
  · exact h
  · apply State.tick_frame (maskSub hF rfl)
    apply State.modMem_frame (maskSub hF rfl) ?_ h
    intro m h
    rw [Mem.wf_iff] at h ⊢
    obtain ⟨h1, h2, h3, h4, h5, h6, h7, h8, h9⟩ := h
    exact ⟨ascending_keys_filter _ h1, fun c hc => h2 c (List.mem_filter.mp hc).1, ascending_filter _ h3, h4, h5, h6, h7, h8, h9⟩

theorem State.bistFault_frame {F r0} (hF : F &&& 8407073 = 8407073) : ∀ {s e}, Within F r0 s → Within F r0 (State.bistFault s e) := by
  intro s e h
  unfold State.bistFault
  repeat' first
    | with_reducible first
      | assumption | apply State.tick_frame | apply State.wf_frame | apply State.testFailed_frame
    | split | exact maskSub hF rfl

theorem State.bistFail_frame {F r0} (hF : F &&& 12634403 = 12634403) : ∀ {s f}, Within F r0 s → Within F r0 (State.bistFail s f) := by
  intro s f h
  unfold State.bistFail
  dsimp only
  repeat' first
    | with_reducible first
      | assumption | apply State.bistFault_frame | apply State.modMem_frame | apply State.modHarts_frame
      | apply State.modTrace_frame | apply State.modHub_frame | apply State.modSlice_frame | apply Mem.wf_forget
      | intro _
    | split | exact maskSub hF rfl

theorem State.bistApply_frame {F r} (hF : F &&& 12634403 = 12634403) : ∀ {s fails hbm}, Within F r s → Within F r (State.bistApply s fails hbm) := by
  intro s fails hbm h
  refine State.modMem_frame (maskSub hF rfl) (fun m h => ?_) (Within.foldl (fun _ _ => State.bistFail_frame (maskSub hF rfl)) h)
  exact Mem.wf_foldl (fun _ _ hm => Mem.wf_putPoison _ _ hm) _ h

theorem State.setPhase_frame {F r0} (hF : F &&& 524288 = 524288) : ∀ {s n}, Within F r0 s → Within F r0 (State.setPhase s n) := by
  intro s n h
  unfold State.setPhase
  repeat' with_reducible first | assumption | apply State.modPw_frame

theorem State.allParked_frame {F r0} (hF : F &&& 2621441 = 2621441) : ∀ {s}, Within F r0 s → Within F r0 (State.allParked s) := by
  intro s h
  unfold State.allParked
  repeat' first
    | with_reducible first | assumption | apply State.setPhase_frame | apply State.shutdownRec_frame
    | split | exact maskSub hF rfl

theorem execHartWfi_frame {F r0} (hF : F &&& 6815745 = 6815745) : ∀ {s hart}, Within F r0 s → WithinR F r0 (execHartWfi hart s) := by
  intro s hart h
  unfold execHartWfi
  dsimp only
  repeat' first
    | with_reducible first
      | assumption | apply State.modHarts_frame | apply State.entryStep_frame | apply State.allParked_frame
      | apply WithinR.next | intro _
    | split | exact maskSub hF rfl

theorem execHartParkDeadline_frame {F r0} (hF : F &&& 6815745 = 6815745) : ∀ {s}, Within F r0 s → WithinR F r0 (execHartParkDeadline s) := by
  intro s h
  unfold execHartParkDeadline
  repeat' first
    | with_reducible first
      | assumption | apply State.entryStep_frame | apply State.allParked_frame | apply State.abortEntry_frame
      | apply WithinR.next | intro _
    | split | exact maskSub hF rfl

theorem execShutdownSelfTestComplete_frame {F r0} (hF : F &&& 15237123 = 15237123) : ∀ {s fails hbm us}, Within F r0 s → WithinR F r0 (execShutdownSelfTestComplete fails hbm us s) := by
  intro s fails hbm us h
  unfold execShutdownSelfTestComplete
  dsimp only
  repeat' first
    | with_reducible first
      | assumption | apply State.entryStep_frame | apply State.cleanSlice_frame | apply State.saveArea_frame
      | apply State.bistStat_frame | apply State.modPw_frame | apply State.setPhase_frame
      | apply State.shutdownRec_frame | apply Within.foldl | apply WithinR.next | intro _
    | split | exact maskSub hF rfl

theorem State.stopTests_frame {F r0} (hF : F &&& 2049 = 2049) : ∀ {s}, Within F r0 s → Within F r0 (State.stopTests s) := by
  intro s h
  unfold State.stopTests
  dsimp only
  repeat' first
    | with_reducible first
      | assumption | apply State.modTest_frame | apply State.setUnitState_frame | apply Within.foldl | intro _
    | split | exact maskSub hF rfl

theorem execPowerEntryCommit_frame {F r0} (hF : F &&& 4757507 = 4757507) : ∀ {s}, Within F r0 s → WithinR F r0 (execPowerEntryCommit s) := by
  intro s h
  unfold execPowerEntryCommit
  dsimp only
  repeat' first
    | with_reducible first
      | assumption | apply State.entryStep_frame | apply State.wearClose_frame | apply State.stopTests_frame
      | apply State.stopBask_frame | apply State.setPhase_frame | apply State.mcSleep_frame | apply Within.foldl
      | apply WithinR.next | intro _
    | split | exact maskSub hF rfl

theorem State.exitStart_frame {F r0} (hF : F &&& 688257 = 688257) : ∀ {s cause}, Within F r0 s → Within F r0 (State.exitStart s cause) := by
  intro s cause h
  unfold State.exitStart
  dsimp only
  repeat' first
    | with_reducible first
      | assumption | apply State.setReg_frame | apply State.modPw_frame | apply State.setFlag_frame
      | apply State.setPowerState_frame | apply State.mcWake_frame | apply State.setDiePower_frame
      | apply State.sendTestAll_frame | apply Within.foldl | intro _
    | split | exact maskSub hF rfl

theorem State.wake_frame {F r0} (hF : F &&& 4882561 = 4882561) : ∀ {s n}, Within F r0 s → Within F r0 (State.wake s n) := by
  intro s n h
  unfold State.wake
  repeat' first
    | with_reducible first
      | assumption | apply State.abortEntry_frame | apply State.modPw_frame | apply State.exitStart_frame
    | split | exact maskSub hF rfl

theorem execGpioWake_frame {F r0} (hF : F &&& 4882561 = 4882561) : ∀ {s line level}, Within F r0 s → WithinR F r0 (execGpioWake line level s) := by
  intro s line level h
  unfold execGpioWake
  repeat' first
    | with_reducible first | assumption | apply State.wake_frame | apply WithinR.next
    | split

theorem execWakeTimer_frame {F r0} (hF : F &&& 4882561 = 4882561) : ∀ {s}, Within F r0 s → WithinR F r0 (execWakeTimer s) := by
  intro s h
  unfold execWakeTimer
  repeat' first
    | with_reducible first | assumption | apply State.wake_frame | apply WithinR.next
    | split

theorem execIslandWakeRequest_frame {F r0} (hF : F &&& 4882561 = 4882561) : ∀ {s isl}, Within F r0 s → WithinR F r0 (execIslandWakeRequest isl s) := by
  intro s isl h
  unfold execIslandWakeRequest
  repeat' first
    | with_reducible first | assumption | apply State.wake_frame | apply WithinR.next
    | split

theorem State.tellDie_frame {F r0} (hF : F &&& 131200 = 131200) : ∀ {s rep d}, Within F r0 s → Within F r0 (State.tellDie s rep d) := by
  intro s rep d h
  unfold State.tellDie
  repeat' first
    | with_reducible first | assumption | apply State.sbTell_frame | apply Within.foldl | intro _
    | split

theorem State.tellOff_frame {F r0} (hF : F &&& 131200 = 131200) : ∀ {s rep}, Within F r0 s → Within F r0 (State.tellOff s rep) := by
  intro s rep h
  unfold State.tellOff
  repeat' first
    | with_reducible first
      | assumption | apply State.sbTell_frame | apply State.tellDie_frame | apply Within.foldl | intro _
    | split

theorem State.linksDown_frame {F r0} (hF : F &&& 9306555 = 9306555) : ∀ {s}, Within F r0 s → Within F r0 (State.linksDown s) := by
  intro s h
  unfold State.linksDown
  dsimp only
  repeat' first
    | with_reducible first
      | assumption | apply State.connDown_frame | apply State.tellOff_frame | apply State.linkDown_frame
      | apply State.traceDieLost_frame | apply Within.foldl | intro _
    | split | exact maskSub hF rfl

theorem execPowerEntryComplete_frame {F r0} (hF : F &&& 16711615 = 16711615) : ∀ {s}, Within F r0 s → WithinR F r0 (execPowerEntryComplete s) := by
  intro s h
  unfold execPowerEntryComplete
  dsimp only
  repeat' first
    | with_reducible first
      | assumption | apply State.modAon_frame | apply State.mainRailsOff_frame | apply State.tellOff_frame
      | apply State.chOff_frame | apply State.linksDown_frame | apply State.setDiePower_frame | apply State.modPw_frame
      | apply State.clrFlag_frame | apply State.setPowerState_frame | apply State.exitStart_frame | apply Within.foldl
      | apply WithinR.next | intro _
    | split | exact maskSub hF rfl

theorem execPowerExitComplete_frame {F r0} (hF : F &&& 13162787 = 13162787) : ∀ {s}, Within F r0 s → WithinR F r0 (execPowerExitComplete s) := by
  intro s h
  unfold execPowerExitComplete
  dsimp only
  repeat' first
    | with_reducible first
      | assumption | apply State.setDiePower_frame | apply State.bistApply_frame | apply State.testsOnExit_frame
      | apply State.thermalExit_frame | apply State.modPw_frame | apply State.raiseIrq_frame
      | apply State.backToRun_frame | apply Within.foldl | apply WithinR.next | intro _
    | split | exact maskSub hF rfl

theorem State.dieRetainOn_frame {F r0} (hF : F &&& 9044401 = 9044401) : ∀ {s d}, Within F r0 s → Within F r0 (State.dieRetainOn s d) := by
  intro s d h
  unfold State.dieRetainOn
  dsimp only
  repeat' first
    | with_reducible first
      | assumption | apply State.pmRej_frame | apply State.powerEvent_frame | apply State.setDiePower_frame
      | apply State.setFlag_frame | apply State.tellDie_frame | apply State.kernelLossAll_frame
      | apply State.traceDieLost_frame | apply State.connDown_frame | apply Within.foldl | intro _
    | split | exact maskSub hF rfl

theorem State.dieRetainOff_frame {F r0} (hF : F &&& 131201 = 131201) : ∀ {s d}, Within F r0 s → Within F r0 (State.dieRetainOff s d) := by
  intro s d h
  unfold State.dieRetainOff
  dsimp only
  repeat' first
    | with_reducible first
      | assumption | apply State.clrFlag_frame | apply State.sendTestAll_frame | apply State.setDiePower_frame
      | apply Within.foldl | intro _
    | split | exact maskSub hF rfl

theorem execDieRetainEntry_frame {F r0} (hF : F &&& 9044405 = 9044405) : ∀ {s port die}, Within F r0 s → WithinR F r0 (execDieRetainEntry port die s) := by
  intro s port die h
  unfold execDieRetainEntry
  repeat' first
    | with_reducible first
      | assumption | apply State.access_frame | apply State.dieRetainOn_frame | apply WithinR.next | intro _
    | split | exact maskSub hF rfl

theorem execDieRetainExit_frame {F r0} (hF : F &&& 131205 = 131205) : ∀ {s port die}, Within F r0 s → WithinR F r0 (execDieRetainExit port die s) := by
  intro s port die h
  unfold execDieRetainExit
  repeat' first
    | with_reducible first
      | assumption | apply State.access_frame | apply State.dieRetainOff_frame | apply WithinR.next | intro _
    | split | exact maskSub hF rfl

theorem State.pmClkWrite_frame {F r0} (hF : F &&& 524289 = 524289) : ∀ {s w}, Within F r0 s → Within F r0 (State.pmClkWrite s w) := by
  intro s w h
  unfold State.pmClkWrite
  repeat' first
    | with_reducible first
      | assumption | apply State.pmRej_frame | apply State.slowerAsked_frame | apply State.plainWrite_frame
    | split | exact maskSub hF rfl

theorem execPmClkWrite_frame {F r0} (hF : F &&& 524293 = 524293) : ∀ {s port val}, Within F r0 s → WithinR F r0 (execPmClkWrite port val s) := by
  intro s port val h
  unfold execPmClkWrite
  repeat' first
    | with_reducible first
      | assumption | apply State.access_frame | apply State.pmClkWrite_frame | apply WithinR.next | intro _
    | exact maskSub hF rfl

theorem execClockLevelSwitch_frame {F r0} (hF : F &&& 524289 = 524289) : ∀ {s hart mv}, Within F r0 s → WithinR F r0 (execClockLevelSwitch hart mv s) := by
  intro s hart mv h
  unfold execClockLevelSwitch
  dsimp only
  repeat' first
    | with_reducible first | assumption | apply State.wf_frame | apply State.setSlow_frame | apply WithinR.next
    | split | exact maskSub hF rfl

theorem execUnitClockGate_frame {F r0} (hF : F &&& 524288 = 524288) : ∀ {s eng cycles}, Within F r0 s → WithinR F r0 (execUnitClockGate eng cycles s) := by
  intro s eng cycles h
  unfold execUnitClockGate
  repeat' first
    | with_reducible first | assumption | apply State.modPw_frame | apply WithinR.next
    | split

theorem execPllLockLoss_frame {F r0} (hF : F &&& 16777151 = 16777151) : ∀ {s die}, Within F r0 s → WithinR F r0 (execPllLockLoss die s) := by
  intro s die h
  unfold execPllLockLoss
  repeat' first
    | with_reducible first
      | assumption | apply State.quarantine_frame | apply State.modAon_frame | apply State.mainRailsOff_frame
      | apply WithinR.next
    | split | exact maskSub hF rfl

theorem execVinMainLoss_frame {F r0} (hF : F &&& 8322879 = 8322879) : ∀ {s us}, Within F r0 s → WithinR F r0 (execVinMainLoss us s) := by
  intro s us h
  unfold execVinMainLoss
  repeat' first
    | with_reducible first | assumption | apply State.mainRailsOff_frame | apply WithinR.next
    | split

theorem execVinAonLoss_frame {F r0} (hF : F &&& 8322879 = 8322879) : ∀ {s}, Within F r0 s → WithinR F r0 (execVinAonLoss s) := by
  intro s h
  unfold execVinAonLoss
  repeat' first
    | with_reducible first
      | assumption | apply State.modAon_frame | apply State.clrFlag_frame | apply State.mainRailsOff_frame
      | apply WithinR.next
    | exact maskSub hF rfl

theorem State.bruCount_frame {F r0} (hF : F &&& 1 = 1) : ∀ {s k v out}, Within F r0 s → Within F r0 (State.bruCount s k v out) := by
  intro s k v out h
  unfold State.bruCount
  dsimp only
  repeat' first
    | with_reducible first | assumption | apply State.wf_frame
    | split

theorem State.bruJudge_frame {F r0} (hF : F &&& 1 = 1) : ∀ {s r v out failed}, Within F r0 s → Within F r0 (State.bruJudge s r v out failed).1 := by
  intro s r v out failed h
  unfold State.bruJudge
  dsimp only
  repeat' first
    | with_reducible first | assumption | apply State.bruCount_frame
    | split

theorem State.bruEnd_frame {F r0} (hF : F &&& 688257 = 688257) : ∀ {s r}, Within F r0 s → Within F r0 (State.bruEnd s r) := by
  intro s r h
  unfold State.bruEnd
  dsimp only
  repeat' first
    | with_reducible first
      | assumption | apply State.modPw_frame | apply State.exitStart_frame | apply Within.foldl | intro _
    | split | exact maskSub hF rfl

theorem bruGo_frame {F r0} (hF : F &&& 696449 = 696449) : ∀ {n r s}, Within F r0 s → Within F r0 (bruGo n r s) := by
  intro n
  induction n with
  | zero => exact fun h => State.bruEnd_frame (maskSub hF rfl) h
  | succ n ih =>
    intro r s h
    unfold bruGo
    dsimp only
    split
    · exact State.bruEnd_frame (maskSub hF rfl) h
    split
    · exact State.modSh_frame (maskSub hF rfl) (State.modPw_frame (maskSub hF rfl) h)
    split
    · exact ih h
    split <;> exact ih (State.bruJudge_frame (maskSub hF rfl) h)

theorem execBrumationRun_frame {F r0} (hF : F &&& 696449 = 696449) : ∀ {s vals}, Within F r0 s → WithinR F r0 (execBrumationRun vals s) := by
  intro s vals h
  unfold execBrumationRun
  dsimp only
  repeat' first
    | with_reducible first | assumption | apply bruGo_frame | apply State.modPw_frame | apply WithinR.next
    | split | exact maskSub hF rfl

theorem State.bruResume_frame {F r0} (hF : F &&& 696449 = 696449) : ∀ {s r v out failed}, Within F r0 s → Within F r0 (State.bruResume s r v out failed) := by
  intro s r v out failed h
  unfold State.bruResume
  dsimp only
  repeat' first
    | with_reducible first
      | assumption | apply State.bruJudge_frame | apply bruGo_frame | apply State.modPw_frame
      | (apply Within.fst; assumption)
    | exact maskSub hF rfl

theorem execBrumationCameraFrame_frame {F r0} (hF : F &&& 9085057 = 9085057) : ∀ {s bits width samples}, Within F r0 s → WithinR F r0 (execBrumationCameraFrame bits width samples s) := by
  intro s bits width samples h
  unfold execBrumationCameraFrame
  dsimp only
  repeat' first
    | with_reducible first
      | assumption | apply State.modPw_frame | apply State.tick_frame | apply State.bruResume_frame | apply WithinR.next
    | split | exact maskSub hF rfl

theorem execBrumationCameraTimeout_frame {F r0} (hF : F &&& 696449 = 696449) : ∀ {s}, Within F r0 s → WithinR F r0 (execBrumationCameraTimeout s) := by
  intro s h
  unfold execBrumationCameraTimeout
  repeat' first
    | with_reducible first | assumption | apply State.bruResume_frame | apply WithinR.next
    | split

theorem State.pmCtrlWrite_frame {F r0} (hF : F &&& 9046451 = 9046451) : ∀ {s w}, Within F r0 s → Within F r0 (State.pmCtrlWrite s w) := by
  intro s w h
  unfold State.pmCtrlWrite
  dsimp only
  repeat' first
    | with_reducible first
      | assumption | apply State.wf_frame | apply State.dieRetainOn_frame | apply State.dieRetainOff_frame
      | apply State.powerRequest_frame | apply Within.foldl | intro _
    | split | exact maskSub hF rfl

theorem State.pmRanged_frame {F r0} (hF : F &&& 1 = 1) : ∀ {s a f lo hi w}, Within F r0 s → Within F r0 (State.pmRanged s a f lo hi w) := by
  intro s a f lo hi w h
  unfold State.pmRanged
  repeat' first
    | with_reducible first | assumption | apply State.plainWrite_frame | apply State.pmRej_frame
    | split

theorem State.pmWrite_frame {F r0} (hF : F &&& 9046451 = 9046451) : ∀ {s off w}, Within F r0 s → Within F r0 (State.pmWrite s off w) := by
  intro s off w h
  unfold State.pmWrite
  dsimp only
  repeat' first
    | with_reducible first
      | assumption | apply State.pmCtrlWrite_frame | apply State.pmClkWrite_frame | apply State.plainWrite_frame
      | apply State.pmRanged_frame | apply State.setReg_frame
    | split | exact maskSub hF rfl

/-! ## Start -/

theorem State.loadLine_frame {F r0} (hF : F &&& 32769 = 32769) : ∀ {s line secs}, Within F r0 s → Within F r0 (State.loadLine s line secs) := by
  intro s line secs h
  unfold State.loadLine
  dsimp only
  repeat' first
    | with_reducible first
      | assumption | apply State.modLine_frame | apply State.occAdd_frame | apply State.modSlice_frame
    | split | exact maskSub hF rfl

theorem State.loadSegs_frame {F r0} (hF : F &&& 32771 = 32771) : ∀ {s base h}, Within F r0 s → Within F r0 (State.loadSegs s base h) := by
  intro s base h h
  unfold State.loadSegs
  repeat' first
    | with_reducible first
      | assumption | apply State.loadLine_frame | apply State.memWrite_frame | apply Within.foldl | intro _
    | exact maskSub hF rfl

theorem State.deliverIslands_frame {F r0} (hF : F &&& 65536 = 65536) : ∀ {s base h}, Within F r0 s → Within F r0 (State.deliverIslands s base h) := by
  intro s base h h
  unfold State.deliverIslands
  repeat' with_reducible first | assumption | apply State.deliverTo_frame

theorem State.startMaps_frame {F r0} (hF : F &&& 131073 = 131073) : ∀ {s n l}, Within F r0 s → Within F r0 (State.startMaps s n l) := by
  intro s n l h
  unfold State.startMaps
  dsimp only
  repeat' first
    | with_reducible first
      | assumption | apply State.showConn_frame | apply State.modBundle_frame | apply State.setMap_frame
      | apply Within.foldl | intro _
    | exact maskSub hF rfl

theorem State.startAbsent_frame {F r0} (hF : F &&& 2228225 = 2228225) : ∀ {s n d}, Within F r0 s → Within F r0 (State.startAbsent s n d) := by
  intro s n d h
  unfold State.startAbsent
  dsimp only
  repeat' first
    | with_reducible first
      | assumption | apply State.setDieState_frame | apply State.wf_frame | apply State.setConnState_frame
      | apply State.showConn_frame | apply State.modConn_frame | apply State.skLog_frame | apply State.hubAppend_frame
    | exact maskSub hF rfl

theorem State.dieStarts_frame {F r0} (hF : F &&& 133179 = 133179) : ∀ {s d}, Within F r0 s → Within F r0 (State.dieStarts s d) := by
  intro s d h
  unfold State.dieStarts
  repeat' first
    | with_reducible first
      | assumption | apply State.modSk_frame | apply State.loadCopy_frame | apply State.diePresentNow_frame
    | exact maskSub hF rfl

theorem State.startConn_frame {F r0} (hF : F &&& 2230459 = 2230459) : ∀ {s l n}, Within F r0 s → Within F r0 (State.startConn s l n) := by
  intro s l n h
  unfold State.startConn
  dsimp only
  repeat' first
    | with_reducible first
      | assumption | apply State.startMaps_frame | apply State.startAbsent_frame | apply State.dieStarts_frame
      | apply State.setConnState_frame | apply State.connQuarantine_frame
    | split | exact maskSub hF rfl

theorem State.startConns_frame {F r0} (hF : F &&& 2230459 = 2230459) : ∀ {s l}, Within F r0 s → Within F r0 (State.startConns s l) := by
  intro s l h
  unfold State.startConns
  repeat' first
    | with_reducible first
      | assumption | apply State.startConn_frame | apply State.modConn_frame | apply Within.foldl | intro _
    | exact maskSub hF rfl

theorem State.startMc_frame {F r0} (hF : F &&& 2129923 = 2129923) : ∀ {s recs c}, Within F r0 s → Within F r0 (State.startMc s recs c) := by
  intro s recs c h
  unfold State.startMc
  dsimp only
  repeat' first
    | with_reducible first
      | assumption | apply State.mcTemp_frame | apply State.modMc_frame | apply State.loadBand_frame
      | apply State.setMcState_frame | apply State.hubAppend_frame | apply State.loseStack_frame
    | split | exact maskSub hF rfl

theorem State.addDelay_frame {F r0} (hF : F &&& 2097153 = 2097153) : ∀ {s recs k}, Within F r0 s → Within F r0 (State.addDelay s recs k) := by
  intro s recs k h
  unfold State.addDelay
  dsimp only
  repeat' first
    | with_reducible first | assumption | apply State.hubAppend_frame
    | split

theorem State.startStacks_frame {F r0} (hF : F &&& 2129923 = 2129923) : ∀ {s recs}, Within F r0 s → Within F r0 (State.startStacks s recs) := by
  intro s recs h
  unfold State.startStacks
  dsimp only
  repeat' first
    | with_reducible first
      | assumption | apply State.cleanSlice_frame | apply State.startMc_frame | apply State.addDelay_frame
      | apply Within.foldl | intro _
    | exact maskSub hF rfl

theorem State.bootRec_frame {F r0} (hF : F &&& 2097153 = 2097153) : ∀ {s}, Within F r0 s → Within F r0 (State.bootRec s) := by
  intro s h
  unfold State.bootRec
  dsimp only
  repeat' with_reducible first | assumption | apply State.hubAppend_frame

theorem State.writeReplay_frame {F r0} (hF : F &&& 3 = 3) : ∀ {s recs a}, Within F r0 s → Within F r0 (State.writeReplay s recs a) := by
  intro s recs a h
  unfold State.writeReplay
  dsimp only
  repeat' first
    | with_reducible first
      | assumption | apply State.wf_frame | apply State.setReg_frame | apply State.memWrite_frame
    | exact maskSub hF rfl

theorem State.tadIslands_frame {F r0} (hF : F &&& 65664 = 65664) : ∀ {s}, Within F r0 s → Within F r0 (State.tadIslands s) := by
  intro s h
  unfold State.tadIslands
  repeat' first
    | with_reducible first
      | assumption | apply State.modIsle_frame | apply State.islSilence_frame | apply Within.foldl | intro _
    | split | exact maskSub hF rfl

theorem State.tadStartHub_frame {F r0} (hF : F &&& 73859 = 73859) : ∀ {s nvme}, Within F r0 s → Within F r0 (State.tadStartHub s nvme) := by
  intro s nvme h
  unfold State.tadStartHub
  repeat' first
    | with_reducible first
      | assumption | apply State.shStart_frame | apply State.modSh_frame | apply State.tadIslands_frame
    | exact maskSub hF rfl

theorem State.startRom_frame {F r0} (hF : F &&& 8322879 = 8322879) : ∀ {s}, Within F r0 s → Within F r0 (State.startRom s) := by
  intro s h
  unfold State.startRom
  dsimp only
  repeat' first
    | with_reducible first
      | assumption | apply State.mainRailsOff_frame | apply State.modFlash_frame | apply State.modAon_frame
      | apply State.wf_frame | apply State.jnReplay_frame
    | exact maskSub hF rfl

theorem State.startImage_frame {F r0} (hF : F &&& 2129923 = 2129923) : ∀ {s k key}, Within F r0 s → Within F r0 (State.startImage s k key) := by
  intro s k key h
  unfold State.startImage
  dsimp only
  repeat' first
    | with_reducible first
      | assumption | apply State.modFlash_frame | apply State.loadSegs_frame | apply State.wf_frame
    | exact maskSub hF rfl

theorem State.startTests_frame {F r0} (hF : F &&& 12634403 = 12634403) : ∀ {s quick b}, Within F r0 s → Within F r0 (State.startTests s quick b) := by
  intro s quick b h
  unfold State.startTests
  repeat' first
    | with_reducible first
      | assumption | apply State.setFlag_frame | apply State.bistApply_frame | apply State.bistStat_frame
    | split | exact maskSub hF rfl

theorem State.darkHbm_frame {F r} (hF : F &&& 8388610 = 8388610) : ∀ {s tested}, Within F r s → Within F r (State.darkHbm s tested) := by
  intro s tested h
  refine State.tick_frame (maskSub hF rfl) (State.modMem_frame (maskSub hF rfl) (fun m h => ?_) h)
  rw [Mem.wf_iff] at h ⊢
  exact h

theorem State.releaseHarts_frame {F r0} (hF : F &&& 4194304 = 4194304) : ∀ {s entry}, Within F r0 s → Within F r0 (State.releaseHarts s entry) := by
  intro s entry h
  unfold State.releaseHarts
  repeat' with_reducible first | assumption | apply State.modHarts_frame

theorem State.startPart_frame {F r0} (hF : F &&& 16777151 = 16777151) : ∀ {s b}, Within F r0 s → Within F r0 (State.startPart s b) := by
  intro s b h
  unfold State.startPart
  dsimp only
  repeat' first
    | with_reducible first
      | assumption | apply State.startRom_frame | apply State.darkHbm_frame | apply State.startImage_frame
      | apply State.startStacks_frame | apply State.startConns_frame | apply State.islandsStart_frame
      | apply State.startTests_frame | apply State.wf_frame | apply State.releaseHarts_frame
      | apply State.writeReplay_frame | apply State.bootRec_frame | apply State.deliverIslands_frame
      | apply State.tadStartHub_frame
    | split | exact maskSub hF rfl

theorem execResetNRise_frame {F r0} (hF : F &&& 16777151 = 16777151) : ∀ {s boot}, Within F r0 s → WithinR F r0 (execResetNRise boot s) := by
  intro s boot h
  unfold execResetNRise
  dsimp only
  repeat' first
    | with_reducible first
      | assumption | apply State.modAon_frame | apply State.startPart_frame | apply WithinR.next
    | split | exact maskSub hF rfl

theorem execVinMainInWindow_frame {F r0} (hF : F &&& 16777151 = 16777151) : ∀ {s boot}, Within F r0 s → WithinR F r0 (execVinMainInWindow boot s) := by
  intro s boot h
  unfold execVinMainInWindow
  repeat' first
    | with_reducible first | assumption | apply State.startPart_frame | apply WithinR.next
    | split

theorem execResetNAssert_frame {F r0} (hF : F &&& 8322879 = 8322879) : ∀ {s us}, Within F r0 s → WithinR F r0 (execResetNAssert us s) := by
  intro s us h
  unfold execResetNAssert
  repeat' first
    | with_reducible first
      | assumption | apply State.modAon_frame | apply State.mainRailsOff_frame | apply WithinR.next
    | split | exact maskSub hF rfl

theorem execTadpoleSessionHeader_frame {F r0} (hF : F &&& 8320 = 8320) : ∀ {s}, Within F r0 s → WithinR F r0 (execTadpoleSessionHeader s) := by
  intro s h
  unfold execTadpoleSessionHeader
  dsimp only
  repeat' first
    | with_reducible first | assumption | apply State.modSh_frame | apply State.emit_frame | apply WithinR.next
    | split | exact maskSub hF rfl

theorem execTadpoleTelemetry_frame {F r0} (hF : F &&& 8320 = 8320) : ∀ {s vin}, Within F r0 s → WithinR F r0 (execTadpoleTelemetry vin s) := by
  intro s vin h
  unfold execTadpoleTelemetry
  dsimp only
  repeat' first
    | with_reducible first | assumption | apply State.modSh_frame | apply State.emit_frame | apply WithinR.next
    | split | exact maskSub hF rfl

/-! ## Debug -/

theorem State.popRecord_frame {F r0} (hF : F &&& 256 = 256) : ∀ {s e}, Within F r0 s → Within F r0 (State.popRecord s e) := by
  intro s e h
  unfold State.popRecord
  dsimp only
  repeat' first
    | with_reducible first | assumption | apply State.modSrc_frame
    | split

theorem execTraceRecordArrival_frame {F r0} (hF : F &&& 257 = 257) : ∀ {s eng}, Within F r0 s → WithinR F r0 (execTraceRecordArrival eng s) := by
  intro s eng h
  unfold execTraceRecordArrival
  dsimp only
  repeat' first
    | with_reducible first
      | assumption | apply State.bufWrite_frame | apply State.popRecord_frame | apply State.fireTrigger_frame
      | apply WithinR.next
    | split | exact maskSub hF rfl

theorem execTraceFreeze_frame {F r0} (hF : F &&& 1 = 1) : ∀ {s}, Within F r0 s → WithinR F r0 (execTraceFreeze s) := by
  intro s h
  unfold execTraceFreeze
  repeat' first
    | with_reducible first | assumption | apply State.setTrState_frame | apply WithinR.next
    | split

theorem State.traceArm_frame {F r0} (hF : F &&& 257 = 257) : ∀ {s}, Within F r0 s → Within F r0 (State.traceArm s) := by
  intro s h
  unfold State.traceArm
  dsimp only
  repeat' first
    | with_reducible first
      | assumption | apply State.setTrState_frame | apply State.modTrace_frame | apply State.bufRecord_frame
      | apply State.wf_frame
    | exact maskSub hF rfl

theorem State.traceStop_frame {F r0} (hF : F &&& 1 = 1) : ∀ {s}, Within F r0 s → Within F r0 (State.traceStop s) := by
  intro s h
  unfold State.traceStop
  repeat' with_reducible first | assumption | apply State.setTrState_frame

theorem State.trCtrlWrite_frame {F r0} (hF : F &&& 257 = 257) : ∀ {s w}, Within F r0 s → Within F r0 (State.trCtrlWrite s w) := by
  intro s w h
  unfold State.trCtrlWrite
  dsimp only
  repeat' first
    | with_reducible first
      | assumption | apply State.fireTrigger_frame | apply State.traceStop_frame | apply State.traceArm_frame
    | split | exact maskSub hF rfl

theorem execTrTrig_frame {F r0} (hF : F &&& 261 = 261) : ∀ {s port}, Within F r0 s → WithinR F r0 (execTrTrig port s) := by
  intro s port h
  unfold execTrTrig
  repeat' first
    | with_reducible first
      | assumption | apply State.access_frame | apply State.fireTrigger_frame | apply WithinR.next | intro _
    | exact maskSub hF rfl

theorem execTrArm_frame {F r0} (hF : F &&& 261 = 261) : ∀ {s port}, Within F r0 s → WithinR F r0 (execTrArm port s) := by
  intro s port h
  unfold execTrArm
  repeat' first
    | with_reducible first
      | assumption | apply State.access_frame | apply State.traceArm_frame | apply WithinR.next | intro _
    | exact maskSub hF rfl

theorem execTrStop_frame {F r0} (hF : F &&& 5 = 5) : ∀ {s port}, Within F r0 s → WithinR F r0 (execTrStop port s) := by
  intro s port h
  unfold execTrStop
  repeat' first
    | with_reducible first
      | assumption | apply State.access_frame | apply State.traceStop_frame | apply WithinR.next | intro _
    | exact maskSub hF rfl

theorem State.trRej_frame {F r0} (hF : F &&& 1 = 1) : ∀ {s}, Within F r0 s → Within F r0 (State.trRej s) := by
  intro s h
  unfold State.trRej
  repeat' with_reducible first | assumption | apply State.setFlag_frame

theorem State.trErr_frame {F r0} (hF : F &&& 1 = 1) : ∀ {s}, Within F r0 s → Within F r0 (State.trErr s) := by
  intro s h
  unfold State.trErr
  repeat' with_reducible first | assumption | apply State.setFlag_frame

theorem State.poisonRecs_frame {F r0} (hF : F &&& 2 = 2) : ∀ {s a n}, Within F r0 s → Within F r0 (State.poisonRecs s a n) := by
  intro s a n h
  unfold State.poisonRecs
  repeat' first
    | with_reducible first | assumption | apply State.modMem_frame | apply Mem.wf_putPoison | intro _
    | split

theorem State.dumpRun_frame {F r0} (hF : F &&& 387 = 387) : ∀ {s}, Within F r0 s → Within F r0 (State.dumpRun s) := by
  intro s h
  unfold State.dumpRun
  dsimp only
  repeat' first
    | with_reducible first
      | assumption | apply State.wf_frame | apply State.trErr_frame | apply State.putBytes_frame
      | apply State.modTrace_frame | apply State.poisonRecs_frame
    | split | exact maskSub hF rfl

theorem State.trDumpWrite_frame {F r0} (hF : F &&& 387 = 387) : ∀ {s w}, Within F r0 s → Within F r0 (State.trDumpWrite s w) := by
  intro s w h
  unfold State.trDumpWrite
  dsimp only
  repeat' first
    | with_reducible first
      | assumption | apply State.wf_frame | apply State.dumpRun_frame | apply State.trRej_frame
    | split | exact maskSub hF rfl

theorem execTrDump_frame {F r0} (hF : F &&& 391 = 391) : ∀ {s port val}, Within F r0 s → WithinR F r0 (execTrDump port val s) := by
  intro s port val h
  unfold execTrDump
  repeat' first
    | with_reducible first
      | assumption | apply State.access_frame | apply State.trDumpWrite_frame | apply WithinR.next | intro _
    | exact maskSub hF rfl

theorem execTraceDumpComplete_frame {F r0} (hF : F &&& 257 = 257) : ∀ {s}, Within F r0 s → WithinR F r0 (execTraceDumpComplete s) := by
  intro s h
  unfold execTraceDumpComplete
  repeat' first
    | with_reducible first
      | assumption | apply State.wf_frame | apply State.setFlag_frame | apply State.modTrace_frame | apply WithinR.next
    | split | exact maskSub hF rfl

theorem State.streamDone_frame {F r0} (hF : F &&& 257 = 257) : ∀ {s}, Within F r0 s → Within F r0 (State.streamDone s) := by
  intro s h
  unfold State.streamDone
  repeat' first
    | with_reducible first | assumption | apply State.wf_frame | apply State.modTrace_frame
    | exact maskSub hF rfl

theorem State.streamFail_frame {F r0} (hF : F &&& 257 = 257) : ∀ {s}, Within F r0 s → Within F r0 (State.streamFail s) := by
  intro s h
  unfold State.streamFail
  repeat' first
    | with_reducible first | assumption | apply State.trErr_frame | apply State.modTrace_frame
    | exact maskSub hF rfl

theorem execTraceStreamWrite_frame {F r0} (hF : F &&& 387 = 387) : ∀ {s}, Within F r0 s → WithinR F r0 (execTraceStreamWrite s) := by
  intro s h
  unfold execTraceStreamWrite
  dsimp only
  repeat' first
    | with_reducible first
      | assumption | apply State.streamDone_frame | apply State.emit_frame | apply State.streamFail_frame
      | apply State.engWrite_frame | apply State.poisonRecs_frame | (apply Within.fst; assumption) | apply WithinR.next
    | split | exact maskSub hF rfl

theorem State.trCfgWrite_frame {F r0} (hF : F &&& 1 = 1) : ∀ {s w}, Within F r0 s → Within F r0 (State.trCfgWrite s w) := by
  intro s w h
  unfold State.trCfgWrite
  dsimp only
  repeat' first
    | with_reducible first
      | assumption | apply State.plainWrite_frame | apply State.trRej_frame | apply State.wf_frame
    | split

theorem State.trRdWrite_frame {F r0} (hF : F &&& 257 = 257) : ∀ {s w}, Within F r0 s → Within F r0 (State.trRdWrite s w) := by
  intro s w h
  unfold State.trRdWrite
  dsimp only
  repeat' first
    | with_reducible first | assumption | apply State.plainWrite_frame | apply State.modTrace_frame
    | split | exact maskSub hF rfl

theorem State.trStreamWrite_frame {F r0} (hF : F &&& 1 = 1) : ∀ {s w}, Within F r0 s → Within F r0 (State.trStreamWrite s w) := by
  intro s w h
  unfold State.trStreamWrite
  repeat' first
    | with_reducible first | assumption | apply State.plainWrite_frame | apply State.trRej_frame
    | split

theorem State.authChal_frame {F r0} (hF : F &&& 8389121 = 8389121) : ∀ {s level}, Within F r0 s → Within F r0 (State.authChal s level) := by
  intro s level h
  unfold State.authChal
  dsimp only
  repeat' first
    | with_reducible first
      | assumption | apply State.setReg_frame | apply State.tick_frame | apply State.modDebug_frame | apply Within.foldl
      | intro _
    | split | exact maskSub hF rfl

theorem State.authVerify_frame {F r0} (hF : F &&& 513 = 513) : ∀ {s}, Within F r0 s → Within F r0 (State.authVerify s) := by
  intro s h
  unfold State.authVerify
  repeat' first
    | with_reducible first | assumption | apply State.setFlag_frame | apply State.modDebug_frame
    | split | exact maskSub hF rfl

theorem State.authLock_frame {F r0} (hF : F &&& 1 = 1) : ∀ {s}, Within F r0 s → Within F r0 (State.authLock s) := by
  intro s h
  unfold State.authLock
  repeat' first
    | with_reducible first | assumption | apply State.bump_frame | apply State.wf_frame
    | split

theorem State.authCmd_frame {F r0} (hF : F &&& 8389121 = 8389121) : ∀ {s w}, Within F r0 s → Within F r0 (State.authCmd s w) := by
  intro s w h
  unfold State.authCmd
  repeat' first
    | with_reducible first
      | assumption | apply State.authChal_frame | apply State.authVerify_frame | apply State.authLock_frame
    | split | exact maskSub hF rfl

theorem execAuthChal_frame {F r0} (hF : F &&& 8389125 = 8389125) : ∀ {s port level}, Within F r0 s → WithinR F r0 (execAuthChal port level s) := by
  intro s port level h
  unfold execAuthChal
  repeat' first
    | with_reducible first
      | assumption | apply State.access_frame | apply State.authChal_frame | apply WithinR.next | intro _
    | exact maskSub hF rfl

theorem execAuthVerify_frame {F r0} (hF : F &&& 517 = 517) : ∀ {s port}, Within F r0 s → WithinR F r0 (execAuthVerify port s) := by
  intro s port h
  unfold execAuthVerify
  repeat' first
    | with_reducible first
      | assumption | apply State.access_frame | apply State.authVerify_frame | apply WithinR.next | intro _
    | exact maskSub hF rfl

theorem execAuthLock_frame {F r0} (hF : F &&& 5 = 5) : ∀ {s port}, Within F r0 s → WithinR F r0 (execAuthLock port s) := by
  intro s port h
  unfold execAuthLock
  repeat' first
    | with_reducible first
      | assumption | apply State.access_frame | apply State.authLock_frame | apply WithinR.next | intro _
    | exact maskSub hF rfl

theorem State.authFail_frame {F r0} (hF : F &&& 1 = 1) : ∀ {s}, Within F r0 s → Within F r0 (State.authFail s) := by
  intro s h
  unfold State.authFail
  dsimp only
  repeat' first
    | with_reducible first
      | assumption | apply State.bump_frame | apply State.wf_frame | apply State.setFlag_frame
    | split

theorem execAuthVerifyComplete_frame {F r0} (hF : F &&& 513 = 513) : ∀ {s}, Within F r0 s → WithinR F r0 (execAuthVerifyComplete s) := by
  intro s h
  unfold execAuthVerifyComplete
  dsimp only
  repeat' first
    | with_reducible first
      | assumption | apply State.wf_frame | apply State.modDebug_frame | apply State.bump_frame
      | apply State.authFail_frame | apply WithinR.next
    | split | exact maskSub hF rfl

theorem State.dmControl_frame {F r0} (hF : F &&& 4259840 = 4259840) : ∀ {s dm v}, Within F r0 s → Within F r0 (State.dmControl s dm v) := by
  intro s dm v h
  unfold State.dmControl
  dsimp only
  repeat' first
    | with_reducible first | assumption | apply State.modHarts_frame | apply State.islDebug_frame
    | split | exact maskSub hF rfl

theorem State.dmFetch_frame {F r0} (hF : F &&& 8389120 = 8389120) : ∀ {s dm n}, Within F r0 s → Within F r0 (State.dmFetch s dm n) := by
  intro s dm n h
  unfold State.dmFetch
  repeat' first
    | with_reducible first
      | assumption | apply State.tick_frame | apply State.modDebug_frame | apply Within.foldl | intro _
    | exact maskSub hF rfl

theorem State.dmCommand_frame {F r0} (hF : F &&& 8454656 = 8454656) : ∀ {s dm v}, Within F r0 s → Within F r0 (State.dmCommand s dm v) := by
  intro s dm v h
  unfold State.dmCommand
  dsimp only
  repeat' first
    | with_reducible first | assumption | apply State.dmFetch_frame | apply State.islDebug_frame
    | split | exact maskSub hF rfl

theorem State.dmWrite_frame {F r0} (hF : F &&& 12648960 = 12648960) : ∀ {s dm a v}, Within F r0 s → Within F r0 (State.dmWrite s dm a v) := by
  intro s dm a v h
  unfold State.dmWrite
  dsimp only
  repeat' first
    | with_reducible first
      | assumption | apply State.modDebug_frame | apply State.dmControl_frame | apply State.dmCommand_frame
    | split | exact maskSub hF rfl

theorem State.dmAccess_frame {F r0} (hF : F &&& 12648964 = 12648964) : ∀ {s p dm a x4}, Within F r0 s → Within F r0 (State.dmAccess s p dm a x4) := by
  intro s p dm a x4 h
  unfold State.dmAccess
  repeat' first
    | with_reducible first | assumption | apply State.answered_frame | apply State.dmWrite_frame
    | split | exact maskSub hF rfl

theorem execDebugModuleAccess_frame {F r0} (hF : F &&& 12648965 = 12648965) : ∀ {s port dm addr data}, Within F r0 s → WithinR F r0 (execDebugModuleAccess port dm addr data s) := by
  intro s port dm addr data h
  unfold execDebugModuleAccess
  dsimp only
  repeat' first
    | with_reducible first
      | assumption | apply State.dmAccess_frame | apply State.wakeFor_frame | apply State.dropStaged_frame
      | apply State.refuseAccess_frame | apply WithinR.next
    | split | exact maskSub hF rfl

theorem execJtagIdcode_frame {F r0} (hF : F &&& 516 = 516) : ∀ {s}, Within F r0 s → WithinR F r0 (execJtagIdcode s) := by
  intro s h
  unfold execJtagIdcode
  repeat' first
    | with_reducible first
      | assumption | apply State.answered_frame | apply State.modDebug_frame | apply WithinR.next
    | exact maskSub hF rfl

theorem execJtagBypass_frame {F r0} (hF : F &&& 512 = 512) : ∀ {s}, Within F r0 s → WithinR F r0 (execJtagBypass s) := by
  intro s h
  unfold execJtagBypass
  repeat' with_reducible first | assumption | apply State.modDebug_frame | apply WithinR.next

theorem execJtagSamplePreload_frame {F r0} (hF : F &&& 512 = 512) : ∀ {s pins preload}, Within F r0 s → WithinR F r0 (execJtagSamplePreload pins preload s) := by
  intro s pins preload h
  unfold execJtagSamplePreload
  repeat' first
    | with_reducible first | assumption | apply State.modDebug_frame | apply WithinR.next
    | split

theorem execJtagExtest_frame {F r0} (hF : F &&& 512 = 512) : ∀ {s}, Within F r0 s → WithinR F r0 (execJtagExtest s) := by
  intro s h
  unfold execJtagExtest
  repeat' first
    | with_reducible first | assumption | apply State.modDebug_frame | apply WithinR.next
    | split

theorem State.trWrite_frame {F r0} (hF : F &&& 12649347 = 12649347) : ∀ {s p off w}, Within F r0 s → Within F r0 (State.trWrite s p off w) := by
  intro s p off w h
  unfold State.trWrite
  dsimp only
  repeat' first
    | with_reducible first
      | assumption | apply State.trCfgWrite_frame | apply State.trCtrlWrite_frame | apply State.trRdWrite_frame
      | apply State.trStreamWrite_frame | apply State.trDumpWrite_frame | apply State.plainWrite_frame
      | apply State.trRej_frame | apply State.setReg_frame | apply State.authCmd_frame | apply State.modDebug_frame
      | apply State.dmWrite_frame
    | split | with_reducible apply Within.ite | exact maskSub hF rfl

/-! ## Access -/

theorem State.clrWrite_frame {F r0} (hF : F &&& 1 = 1) : ∀ {s a w}, Within F r0 s → Within F r0 (State.clrWrite s a w) := by
  intro s a w h
  unfold State.clrWrite
  repeat' first
    | with_reducible first | assumption | apply State.setReg_frame
    | split

theorem State.accClear_frame {F r0} (hF : F &&& 1 = 1) : ∀ {s c}, Within F r0 s → Within F r0 (State.accClear s c) := by
  intro s c h
  unfold State.accClear
  repeat' with_reducible first | assumption | apply State.setReg_frame | apply Within.foldl | intro _

theorem State.ctxWrite_frame {F r0} (hF : F &&& 33 = 33) : ∀ {s c off w}, Within F r0 s → Within F r0 (State.ctxWrite s c off w) := by
  intro s c off w h
  unfold State.ctxWrite
  dsimp only
  repeat' first
    | with_reducible first
      | assumption | apply State.plainWrite_frame | apply State.clrWrite_frame | apply State.accClear_frame
      | apply State.ctxConfig_frame
    | split | exact maskSub hF rfl

theorem State.testBaseWrite_frame {F r0} (hF : F &&& 1 = 1) : ∀ {s w}, Within F r0 s → Within F r0 (State.testBaseWrite s w) := by
  intro s w h
  unfold State.testBaseWrite
  repeat' first
    | with_reducible first | assumption | apply State.setFlag_frame | apply State.plainWrite_frame
    | split

theorem State.pmAllFalls_frame {F r0} (hF : F &&& 524288 = 524288) : ∀ {s}, Within F r0 s → Within F r0 (State.pmAllFalls s) := by
  intro s h
  unfold State.pmAllFalls
  repeat' with_reducible first | assumption | apply State.modPw_frame

theorem State.hubWindow_frame {F r0} (hF : F &&& 4720641 = 4720641) : ∀ {s off w}, Within F r0 s → Within F r0 (State.hubWindow s off w) := by
  intro s off w h
  unfold State.hubWindow
  dsimp only
  repeat' first
    | with_reducible first
      | assumption | apply State.slotCfgWrite_frame | apply State.wf_frame | apply State.pmAllFalls_frame
      | apply State.plainWrite_frame | apply State.testCfgWrite_frame | apply State.testBaseWrite_frame
      | apply State.retest_frame | apply State.clrWrite_frame
    | split | exact maskSub hF rfl

theorem State.dieWindow_frame {F r0} (hF : F &&& 1 = 1) : ∀ {s a off w}, Within F r0 s → Within F r0 (State.dieWindow s a off w) := by
  intro s a off w h
  unfold State.dieWindow
  repeat' first
    | with_reducible first | assumption | apply State.clrWrite_frame | apply State.plainWrite_frame
    | split

theorem State.pcWindow_frame {F r0} (hF : F &&& 8929537 = 8929537) : ∀ {s a off w}, Within F r0 s → Within F r0 (State.pcWindow s a off w) := by
  intro s a off w h
  unfold State.pcWindow
  repeat' first
    | with_reducible first
      | assumption | apply State.planCfgWrite_frame | apply State.planRegWrite_frame | apply State.clrWrite_frame
    | split | exact maskSub hF rfl

theorem State.mcWindow_frame {F r0} (hF : F &&& 1 = 1) : ∀ {s c off w}, Within F r0 s → Within F r0 (State.mcWindow s c off w) := by
  intro s c off w h
  unfold State.mcWindow
  dsimp only
  repeat' first
    | with_reducible first
      | assumption | apply State.mcCfgWrite_frame | apply State.mcDlyWrite_frame | apply State.mcShadowWrite_frame
      | apply State.clrWrite_frame | apply State.plainWrite_frame
    | split

theorem State.scWindow_frame {F r0} (hF : F &&& 32769 = 32769) : ∀ {s off w}, Within F r0 s → Within F r0 (State.scWindow s off w) := by
  intro s off w h
  unfold State.scWindow
  repeat' first
    | with_reducible first
      | assumption | apply State.scMaintWrite_frame | apply State.clrWrite_frame | apply State.plainWrite_frame
    | split | exact maskSub hF rfl

theorem State.shWindow_frame {F r0} (hF : F &&& 4726915 = 4726915) : ∀ {s off w}, Within F r0 s → Within F r0 (State.shWindow s off w) := by
  intro s off w h
  unfold State.shWindow
  repeat' first
    | with_reducible first
      | assumption | apply State.shCfgWrite_frame | apply State.shFreeWrite_frame | apply State.shEvtWrite_frame
      | apply State.shCalStatWrite_frame | apply State.shSavedWrite_frame | apply State.shLimWrite_frame
      | apply State.shCntWrite_frame | apply State.plainWrite_frame
    | split | exact maskSub hF rfl

theorem State.thWindow_frame {F r0} (hF : F &&& 4099 = 4099) : ∀ {s off w}, Within F r0 s → Within F r0 (State.thWindow s off w) := by
  intro s off w h
  unfold State.thWindow
  dsimp only
  repeat' first
    | with_reducible first
      | assumption | apply State.thCfgWrite_frame | apply State.thFlowWrite_frame | apply State.thRjcWrite_frame
      | apply State.thHeadWrite_frame | apply State.thClampWrite_frame | apply State.thBaskWrite_frame
      | apply State.clrWrite_frame | apply State.wearWrite_frame | apply State.plainWrite_frame | apply Within.foldl
      | intro _
    | split | exact maskSub hF rfl

theorem State.ioWindow_frame {F r0} (hF : F &&& 2097291 = 2097291) : ∀ {s off w}, Within F r0 s → Within F r0 (State.ioWindow s off w) := by
  intro s off w h
  unfold State.ioWindow
  dsimp only
  repeat' first
    | with_reducible first
      | assumption | apply State.timeCfgWrite_frame | apply State.clrWrite_frame | apply State.timeSetWrite_frame
      | apply State.camPhyWrite_frame | apply State.xspiWrite_frame | apply State.plainWrite_frame
    | split | exact maskSub hF rfl

theorem State.doorbellPage_frame {F r0} (hF : F &&& 4718593 = 4718593) : ∀ {s c off w}, Within F r0 s → Within F r0 (State.doorbellPage s c off w) := by
  intro s c off w h
  unfold State.doorbellPage
  repeat' first
    | with_reducible first | assumption | apply State.doorbell_frame | apply State.cqHeadWrite_frame
    | split | exact maskSub hF rfl

theorem State.regWrite_frame {F r} (hF : F &&& 15727611 = 15727611) : ∀ {s p a v}, Within F r s → Within F r (State.regWrite s p a v) := by
  intro s p a v h
  unfold State.regWrite
  dsimp only
  apply Within.ite
  · exact Within.ite (State.mcWindow_frame (maskSub hF rfl) h) (State.dieWindow_frame (maskSub hF rfl) h)
  apply Within.ite (State.pcWindow_frame (maskSub hF rfl) h)
  apply Within.ite (State.skWrite_frame (maskSub hF rfl) h)
  apply Within.ite (State.dlWrite_frame (maskSub hF rfl) h)
  apply Within.ite (State.hubWindow_frame (maskSub hF rfl) h)
  apply Within.ite (State.scWindow_frame (maskSub hF rfl) h)
  apply Within.ite (State.qosWrite_frame (maskSub hF rfl) h)
  apply Within.ite (State.shWindow_frame (maskSub hF rfl) h)
  apply Within.ite (State.chWrite_frame (maskSub hF rfl) h)
  apply Within.ite (State.pmWrite_frame (maskSub hF rfl) h)
  apply Within.ite (State.thWindow_frame (maskSub hF rfl) h)
  apply Within.ite (State.jnWrite_frame (maskSub hF rfl) h)
  apply Within.ite (State.trWrite_frame (maskSub hF rfl) h)
  apply Within.ite (State.ioWindow_frame (maskSub hF rfl) h)
  apply Within.ite h
  apply Within.ite (State.siWrite_frame (maskSub hF rfl) h)
  exact Within.ite (State.ctxWrite_frame (maskSub hF rfl) h) (State.doorbellPage_frame (maskSub hF rfl) h)

theorem State.unstage_frame {F r0} (hF : F &&& 4 = 4) : ∀ {s p}, Within F r0 s → Within F r0 (State.unstage s p) := by
  intro s p h
  unfold State.unstage
  repeat' with_reducible first | assumption | apply State.modBus_frame

theorem State.highWrite_frame {F r0} (hF : F &&& 15727615 = 15727615) : ∀ {s p a v}, Within F r0 s → Within F r0 (State.highWrite s p a v) := by
  intro s p a v h
  unfold State.highWrite
  dsimp only
  repeat' first
    | with_reducible first
      | assumption | apply State.regWrite_frame | apply State.unstage_frame | apply State.plainWrite_frame
    | split | exact maskSub hF rfl

theorem State.lowWrite_frame {F r0} (hF : F &&& 15727615 = 15727615) : ∀ {s p a v}, Within F r0 s → Within F r0 (State.lowWrite s p a v) := by
  intro s p a v h
  unfold State.lowWrite
  repeat' first
    | with_reducible first
      | assumption | apply State.regWrite_frame | apply State.modBus_frame | apply State.unstage_frame
    | split | exact maskSub hF rfl

theorem execRegisterWrite_frame {F r0} (hF : F &&& 15727615 = 15727615) : ∀ {s port addr data}, Within F r0 s → WithinR F r0 (execRegisterWrite port addr data s) := by
  intro s port addr data h
  unfold execRegisterWrite
  repeat' first
    | with_reducible first
      | assumption | apply State.answered_frame | apply State.access_frame | apply State.regWrite_frame
      | apply State.unstage_frame | apply State.highWrite_frame | apply WithinR.next | intro _
    | split | exact maskSub hF rfl

theorem execLowHalfWrite_frame {F r0} (hF : F &&& 15727615 = 15727615) : ∀ {s port addr half}, Within F r0 s → WithinR F r0 (execLowHalfWrite port addr half s) := by
  intro s port addr half h
  unfold execLowHalfWrite
  repeat' first
    | with_reducible first
      | assumption | apply State.answered_frame | apply State.access_frame | apply State.lowWrite_frame
      | apply WithinR.next | intro _
    | split | exact maskSub hF rfl

theorem execIllegalRegisterAccess_frame {F r0} (hF : F &&& 4 = 4) : ∀ {s port addr size}, Within F r0 s → WithinR F r0 (execIllegalRegisterAccess port addr size s) := by
  intro s port addr size h
  unfold execIllegalRegisterAccess
  repeat' first
    | with_reducible first | assumption | apply State.answered_frame | apply WithinR.next
    | split

theorem execCounterClr_frame {F r0} (hF : F &&& 15727615 = 15727615) : ∀ {s port addr}, Within F r0 s → WithinR F r0 (execCounterClr port addr s) := by
  intro s port addr h
  unfold execCounterClr
  repeat' first
    | with_reducible first
      | assumption | apply State.access_frame | apply State.regWrite_frame | apply WithinR.next | intro _
    | split | exact maskSub hF rfl

theorem State.regReadAt_frame {F r0} (hF : F &&& 4 = 4) : ∀ {s p a n}, Within F r0 s → Within F r0 (State.regReadAt s p a n) := by
  intro s p a n h
  unfold State.regReadAt
  dsimp only
  repeat' first
    | with_reducible first | assumption | apply State.answered_frame
    | split

theorem execGlobalCounterAccess_frame {F r0} (hF : F &&& 15727615 = 15727615) : ∀ {s port addr data}, Within F r0 s → WithinR F r0 (execGlobalCounterAccess port addr data s) := by
  intro s port addr data h
  unfold execGlobalCounterAccess
  dsimp only
  repeat' first
    | with_reducible first
      | assumption | apply State.access_frame | apply State.regWrite_frame | apply State.wakeFor_frame
      | apply State.dropStaged_frame | apply State.refuseAccess_frame | apply State.regReadAt_frame | apply WithinR.next
      | intro _
    | split | exact maskSub hF rfl

theorem State.portReg_frame {F r0} (hF : F &&& 15727615 = 15727615) : ∀ {s p a x3}, Within F r0 s → Within F r0 (State.portReg s p a x3) := by
  intro s p a x3 h
  unfold State.portReg
  dsimp only
  repeat' first
    | with_reducible first
      | assumption | apply State.wakeFor_frame | apply State.dropStaged_frame | apply State.refuseAccess_frame
      | apply State.regReadAt_frame | apply State.answered_frame | apply State.access_frame | apply State.regWrite_frame
      | apply State.unstage_frame | apply State.highWrite_frame | apply State.lowWrite_frame | intro _
    | split | exact maskSub hF rfl

theorem State.memDo_frame {F r0} {land : State → Addr → List Byte → State} (hland : ∀ r y0 y1 y2, Within F r y0 → Within F r (land y0 y1 y2)) (hF : F &&& 8388741 = 8388741) : ∀ {s p a x4}, Within F r0 s → Within F r0 (State.memDo s p a land x4) := by
  intro s p a x4 h
  unfold State.memDo
  dsimp only
  repeat' first
    | with_reducible first
      | assumption | apply State.answered_frame | apply State.windowEcc_frame | apply State.tick_frame
      | apply State.emit_frame | apply hland | intro _
    | split | exact maskSub hF rfl

theorem State.wakesDie_frame {F r0} (hF : F &&& 1 = 1) : ∀ {s a}, Within F r0 s → Within F r0 (State.wakesDie s a) := by
  intro s a h
  unfold State.wakesDie
  repeat' first
    | with_reducible first | assumption | apply State.idleExit_frame
    | split

theorem State.portAccess_frame {F r0} (hF : F &&& 15728639 = 15728639) : ∀ {s p a req}, Within F r0 s → Within F r0 (State.portAccess s p a req) := by
  intro s p a req h
  unfold State.portAccess
  dsimp only
  repeat' first
    | with_reducible first
      | assumption | apply State.wakesDie_frame | apply State.portReg_frame | apply State.answered_frame
      | apply State.modReads_frame | apply State.emit_frame | apply State.memDo_frame | apply State.putBytes_frame
      | intro _
    | split | exact maskSub hF rfl

theorem execCoreMemoryAccess_frame {F r0} (hF : F &&& 15728639 = 15728639) : ∀ {s hart addr req}, Within F r0 s → WithinR F r0 (execCoreMemoryAccess hart addr req s) := by
  intro s hart addr req h
  unfold execCoreMemoryAccess
  repeat' with_reducible first | assumption | apply State.portAccess_frame | apply WithinR.next

theorem execDebugSystemBusAccess_frame {F r0} (hF : F &&& 15728639 = 15728639) : ∀ {s addr req}, Within F r0 s → WithinR F r0 (execDebugSystemBusAccess addr req s) := by
  intro s addr req h
  unfold execDebugSystemBusAccess
  repeat' first
    | with_reducible first
      | assumption | apply State.answered_frame | apply State.portAccess_frame | apply WithinR.next
    | split | exact maskSub hF rfl

theorem State.inboundLand_frame {F r0} (hF : F &&& 13107619 = 13107619) : ∀ {s coll ep a bs}, Within F r0 s → Within F r0 (State.inboundLand s coll ep a bs) := by
  intro s coll ep a bs h
  unfold State.inboundLand
  dsimp only
  repeat' first
    | with_reducible first
      | assumption | apply State.inboundWrite_frame | apply State.modMem_frame | apply State.noteLanded_frame
      | apply Mem.wf_putPoison | intro _
    | split | exact maskSub hF rfl

theorem State.inboundMem_frame {F r0} (hF : F &&& 13107623 = 13107623) : ∀ {s p coll ep a req}, Within F r0 s → Within F r0 (State.inboundMem s p coll ep a req) := by
  intro s p coll ep a req h
  unfold State.inboundMem
  dsimp only
  repeat' first
    | with_reducible first
      | assumption | apply State.idleExit_frame | apply State.answered_frame | apply State.bump_frame
      | apply State.memDo_frame | apply State.inboundLand_frame | intro _
    | split | exact maskSub hF rfl

theorem execPcieInboundRequest_frame {F r0} (hF : F &&& 15727615 = 15727615) : ∀ {s addr req ep}, Within F r0 s → WithinR F r0 (execPcieInboundRequest addr req ep s) := by
  intro s addr req ep h
  unfold execPcieInboundRequest
  repeat' first
    | with_reducible first
      | assumption | apply State.portReg_frame | apply State.idleExit_frame | apply State.inboundMem_frame
      | apply State.answered_frame | apply WithinR.next
    | split | exact maskSub hF rfl

theorem execPeerInboundRequest_frame {F r0} (hF : F &&& 13107623 = 13107623) : ∀ {s src addr req mark}, Within F r0 s → WithinR F r0 (execPeerInboundRequest src addr req mark s) := by
  intro s src addr req mark h
  unfold execPeerInboundRequest
  repeat' first
    | with_reducible first
      | assumption | apply State.inboundForeign_frame | apply State.answered_frame | apply State.idleExit_frame
      | apply State.inboundMem_frame | apply WithinR.next
    | split | exact maskSub hF rfl

theorem execTailMirrorWrite_frame {F r0} (hF : F &&& 13107623 = 13107623) : ∀ {s port ctx val}, Within F r0 s → WithinR F r0 (execTailMirrorWrite port ctx val s) := by
  intro s port ctx val h
  unfold execTailMirrorWrite
  repeat' first
    | with_reducible first
      | assumption | apply State.inboundForeign_frame | apply State.inboundMem_frame | apply WithinR.next
    | split | exact maskSub hF rfl

theorem execPcieCompletion_frame {F r0} (hF : F &&& 1028 = 1028) : ∀ {s hart data ep}, Within F r0 s → WithinR F r0 (execPcieCompletion hart data ep s) := by
  intro s hart data ep h
  unfold execPcieCompletion
  repeat' first
    | with_reducible first
      | assumption | apply State.answered_frame | apply State.modReads_frame | apply WithinR.next
    | split | exact maskSub hF rfl

theorem execPcieCompletionTimeout_frame {F r0} (hF : F &&& 8914229 = 8914229) : ∀ {s req}, Within F r0 s → WithinR F r0 (execPcieCompletionTimeout req s) := by
  intro s req h
  unfold execPcieCompletionTimeout
  repeat' first
    | with_reducible first
      | assumption | apply State.reqLinkDown_frame | apply State.modReads_frame | apply WithinR.next
    | split | exact maskSub hF rfl

/-! ## IslOut -/

theorem State.manifestTries_frame {F r0} (hF : F &&& 4 = 4) : ∀ {s i r}, Within F r0 s → Within F r0 (State.manifestTries s i r) := by
  intro s i r h
  unfold State.manifestTries
  dsimp only
  repeat' first
    | with_reducible first | assumption | apply State.islTries_frame
    | split

theorem State.islSend_frame {F r0} (hF : F &&& 65536 = 65536) : ∀ {s i d}, Within F r0 s → Within F r0 (State.islSend s i d) := by
  intro s i d h
  unfold State.islSend
  repeat' with_reducible first | assumption | apply State.modIsle_frame

theorem State.sendEft_frame {F r0} (hF : F &&& 65536 = 65536) : ∀ {s i reason}, Within F r0 s → Within F r0 (State.sendEft s i reason) := by
  intro s i reason h
  unfold State.sendEft
  repeat' with_reducible first | assumption | apply State.modIsle_frame | apply State.islSend_frame

theorem State.fallback_frame {F r0} (hF : F &&& 65536 = 65536) : ∀ {s i reason}, Within F r0 s → Within F r0 (State.fallback s i reason) := by
  intro s i reason h
  unfold State.fallback
  repeat' first
    | with_reducible first
      | assumption | apply State.sendEft_frame | apply State.modIsle_frame | apply State.islSend_frame
    | split

theorem State.withhold_frame {F r0} (hF : F &&& 65536 = 65536) : ∀ {s i reason}, Within F r0 s → Within F r0 (State.withhold s i reason) := by
  intro s i reason h
  unfold State.withhold
  dsimp only
  repeat' first
    | with_reducible first | assumption | apply State.modIsle_frame | apply State.fallback_frame
    | split

theorem State.sendPassed_frame {F r0} (hF : F &&& 65536 = 65536) : ∀ {s i t}, Within F r0 s → Within F r0 (State.sendPassed s i t) := by
  intro s i t h
  unfold State.sendPassed
  repeat' first
    | with_reducible first | assumption | apply State.sendEft_frame | apply State.islSend_frame
    | split

theorem State.tryReady_frame {F r0} (hF : F &&& 65536 = 65536) : ∀ {s i}, Within F r0 s → Within F r0 (State.tryReady s i) := by
  intro s i h
  unfold State.tryReady
  dsimp only
  repeat' first
    | with_reducible first | assumption | apply State.sendPassed_frame | apply State.modIsle_frame
    | split

theorem execTrajectoryNotice_frame {F r0} (hF : F &&& 65572 = 65572) : ∀ {s isl}, Within F r0 s → WithinR F r0 (execTrajectoryNotice isl s) := by
  intro s isl h
  unfold execTrajectoryNotice
  dsimp only
  repeat' first
    | with_reducible first
      | assumption | apply State.onNotice_frame | apply State.modIsle_frame | apply WithinR.next | intro _
    | split | exact maskSub hF rfl

theorem State.judged_frame {F r0} (hF : F &&& 65536 = 65536) : ∀ {s i r v}, Within F r0 s → Within F r0 (State.judged s i r v) := by
  intro s i r v h
  unfold State.judged
  dsimp only
  repeat' first
    | with_reducible first | assumption | apply State.modIsle_frame
    | split

theorem State.answer_frame {F r0} (hF : F &&& 65536 = 65536) : ∀ {s i reason}, Within F r0 s → Within F r0 (State.answer s i reason) := by
  intro s i reason h
  unfold State.answer
  repeat' first
    | with_reducible first
      | assumption | apply State.sendPassed_frame | apply State.sendEft_frame | apply State.withhold_frame
    | split

theorem execTrajectoryReadComplete_frame {F r0} (hF : F &&& 65540 = 65540) : ∀ {s isl}, Within F r0 s → WithinR F r0 (execTrajectoryReadComplete isl s) := by
  intro s isl h
  unfold execTrajectoryReadComplete
  dsimp only
  repeat' first
    | with_reducible first
      | assumption | apply State.modIsle_frame | apply State.withhold_frame | apply State.sendPassed_frame
      | apply State.judged_frame | apply State.manifestTries_frame | apply State.answer_frame
      | apply State.tryReady_frame | apply WithinR.next
    | split | exact maskSub hF rfl

theorem execEftRun_frame {F r0} (hF : F &&& 65536 = 65536) : ∀ {s isl}, Within F r0 s → WithinR F r0 (execEftRun isl s) := by
  intro s isl h
  unfold execEftRun
  dsimp only
  repeat' first
    | with_reducible first | assumption | apply State.modIsle_frame | apply WithinR.next
    | split

theorem execEftClear_frame {F r0} (hF : F &&& 65536 = 65536) : ∀ {s isl}, Within F r0 s → WithinR F r0 (execEftClear isl s) := by
  intro s isl h
  unfold execEftClear
  dsimp only
  repeat' first
    | with_reducible first | assumption | apply State.modIsle_frame | apply WithinR.next
    | split

theorem State.txStart_frame {F r0} (hF : F &&& 65664 = 65664) : ∀ {s i c msg}, Within F r0 s → Within F r0 (State.txStart s i c msg) := by
  intro s i c msg h
  unfold State.txStart
  dsimp only
  repeat' first
    | with_reducible first | assumption | apply State.modTx_frame | apply State.emit_frame
    | split | exact maskSub hF rfl

theorem State.txPut_frame {F r0} (hF : F &&& 65664 = 65664) : ∀ {s i m c}, Within F r0 s → Within F r0 (State.txPut s i m c) := by
  intro s i m c h
  unfold State.txPut
  repeat' first
    | with_reducible first | assumption | apply State.txStart_frame | apply State.modTx_frame
    | split | exact maskSub hF rfl

theorem State.islTrace_frame {F r0} (hF : F &&& 8913153 = 8913153) : ∀ {s i kind reason}, Within F r0 s → Within F r0 (State.islTrace s i kind reason) := by
  intro s i kind reason h
  unfold State.islTrace
  repeat' first
    | with_reducible first | assumption | apply State.traceEvent_frame
    | split

theorem State.islEmit_frame {F r0} (hF : F &&& 8978817 = 8978817) : ∀ {s i kind reason b due}, Within F r0 s → Within F r0 (State.islEmit s i kind reason b due) := by
  intro s i kind reason b due h
  unfold State.islEmit
  dsimp only
  repeat' first
    | with_reducible first
      | assumption | apply State.modIsle_frame | apply State.islTrace_frame | apply State.txPut_frame
      | apply State.tick_frame | apply Within.foldl | intro _
    | split | exact maskSub hF rfl

theorem State.transmit_frame {F r0} (hF : F &&& 8978817 = 8978817) : ∀ {s i d}, Within F r0 s → Within F r0 (State.transmit s i d) := by
  intro s i d h
  unfold State.transmit
  dsimp only
  repeat' first
    | with_reducible first | assumption | apply State.modIsle_frame | apply State.islEmit_frame
    | split | exact maskSub hF rfl

theorem State.refreshDue_frame {F r0} (hF : F &&& 65536 = 65536) : ∀ {s i d}, Within F r0 s → Within F r0 (State.refreshDue s i d) := by
  intro s i d h
  unfold State.refreshDue
  repeat' first
    | with_reducible first
      | assumption | apply State.withhold_frame | apply State.sendEft_frame | apply State.islSend_frame
    | split

theorem execMessageTransmit_frame {F r0} (hF : F &&& 8978817 = 8978817) : ∀ {s isl}, Within F r0 s → WithinR F r0 (execMessageTransmit isl s) := by
  intro s isl h
  unfold execMessageTransmit
  dsimp only
  repeat' first
    | with_reducible first
      | assumption | apply State.refreshDue_frame | apply State.transmit_frame | apply State.modIsle_frame
      | apply WithinR.next
    | split | exact maskSub hF rfl

theorem State.txNext_frame {F r0} (hF : F &&& 65664 = 65664) : ∀ {s i c m}, Within F r0 s → Within F r0 (State.txNext s i c m) := by
  intro s i c m h
  unfold State.txNext
  repeat' first
    | with_reducible first
      | assumption | apply State.refreshDue_frame | apply State.modIsle_frame | apply State.txStart_frame
    | split | exact maskSub hF rfl

theorem execMessageTransmitComplete_frame {F r0} (hF : F &&& 65921 = 65921) : ∀ {s isl ctl same}, Within F r0 s → WithinR F r0 (execMessageTransmitComplete isl ctl same s) := by
  intro s isl ctl same h
  unfold execMessageTransmitComplete
  dsimp only
  repeat' first
    | with_reducible first
      | assumption | apply State.islTrip_frame | apply State.txNext_frame | apply State.modTx_frame | apply WithinR.next
    | split | exact maskSub hF rfl

theorem execNotReadyMessage_frame {F r0} (hF : F &&& 8978817 = 8978817) : ∀ {s isl}, Within F r0 s → WithinR F r0 (execNotReadyMessage isl s) := by
  intro s isl h
  unfold execNotReadyMessage
  dsimp only
  repeat' first
    | with_reducible first
      | assumption | apply State.tryReady_frame | apply State.islEmit_frame | apply WithinR.next
    | split | exact maskSub hF rfl

theorem execOutputTimeout_frame {F r0} (hF : F &&& 65536 = 65536) : ∀ {s isl}, Within F r0 s → WithinR F r0 (execOutputTimeout isl s) := by
  intro s isl h
  unfold execOutputTimeout
  dsimp only
  repeat' first
    | with_reducible first
      | assumption | apply State.fallback_frame | apply State.modIsle_frame | apply WithinR.next
    | split

theorem execCrosslinkHeartbeatSend_frame {F r0} (hF : F &&& 65664 = 65664) : ∀ {s isl}, Within F r0 s → WithinR F r0 (execCrosslinkHeartbeatSend isl s) := by
  intro s isl h
  unfold execCrosslinkHeartbeatSend
  dsimp only
  repeat' first
    | with_reducible first | assumption | apply State.emit_frame | apply State.modIsle_frame | apply WithinR.next
    | split | exact maskSub hF rfl

theorem State.takeActive_frame {F r0} (hF : F &&& 8454144 = 8454144) : ∀ {s i}, Within F r0 s → Within F r0 (State.takeActive s i) := by
  intro s i h
  unfold State.takeActive
  dsimp only
  repeat' first
    | with_reducible first
      | assumption | apply State.modIsle_frame | apply State.fallback_frame | apply State.tick_frame
      | apply State.sendPassed_frame
    | split | exact maskSub hF rfl

theorem State.wordStandby_frame {F r0} (hF : F &&& 8454144 = 8454144) : ∀ {s i hub st}, Within F r0 s → Within F r0 (State.wordStandby s i hub st) := by
  intro s i hub st h
  unfold State.wordStandby
  dsimp only
  repeat' first
    | with_reducible first | assumption | apply State.modIsle_frame | apply State.takeActive_frame
    | split | exact maskSub hF rfl

theorem State.wordActive_frame {F r0} (hF : F &&& 65536 = 65536) : ∀ {s i act}, Within F r0 s → Within F r0 (State.wordActive s i act) := by
  intro s i act h
  unfold State.wordActive
  dsimp only
  repeat' first
    | with_reducible first | assumption | apply State.modIsle_frame
    | split

theorem execCrosslinkWord_frame {F r0} (hF : F &&& 8454144 = 8454144) : ∀ {s isl word}, Within F r0 s → WithinR F r0 (execCrosslinkWord isl word s) := by
  intro s isl word h
  unfold execCrosslinkWord
  dsimp only
  repeat' first
    | with_reducible first
      | assumption | apply State.modIsle_frame | apply State.wordActive_frame | apply State.wordStandby_frame
      | apply WithinR.next
    | split | exact maskSub hF rfl

theorem execCrosslinkSilence_frame {F r0} (hF : F &&& 8454144 = 8454144) : ∀ {s isl}, Within F r0 s → WithinR F r0 (execCrosslinkSilence isl s) := by
  intro s isl h
  unfold execCrosslinkSilence
  dsimp only
  repeat' first
    | with_reducible first
      | assumption | apply State.modIsle_frame | apply State.takeActive_frame | apply WithinR.next
    | split | exact maskSub hF rfl

end Sys2Proof.Machine
end

