-- ==== Sys2Proof/Laws/TraceRegs.lean ====
section
/-!
SUPPORT. Tracing writes registers of the TR_ window only, the end of IDLE writes PM_STATUS only, and the answer to a
port writes no register.
-/
namespace Sys2Proof.Machine

/-- Registers outside the TR_ window are as before. -/
def TraceOnly (s t : State) : Prop := ∀ a, a / 0x10000 ≠ 0x140138 → t.reg a = s.reg a

theorem TraceOnly.refl (s : State) : TraceOnly s s := fun _ _ => rfl

theorem TraceOnly.trans {s t u : State} (h : TraceOnly s t) (k : TraceOnly t u) : TraceOnly s u :=
  fun a ha => (k a ha).trans (h a ha)

/-- An update that writes no register. -/
theorem TraceOnly.of_regs {r s t : State} (h : TraceOnly r s) (e : t.regs = s.regs) : TraceOnly r t := fun a ha => by
  rw [← h a ha]; simp only [State.reg, e]

theorem TraceOnly.wf {r s : State} {b : Addr} {f : Fld} {v : Nat} (h : TraceOnly r s) (hb : b / 0x10000 = 0x140138) :
    TraceOnly r (s.wf b f v) := fun a ha => by
  rw [State.wf, State.reg_setReg_other _ _ (by intro e; subst e; exact ha hb)]; exact h a ha

theorem TraceOnly.bump {r s : State} {b : Addr} {f : Fld} {n : Nat} (h : TraceOnly r s) (hb : b / 0x10000 = 0x140138) :
    TraceOnly r (s.bump b f n) := TraceOnly.wf h hb

theorem TraceOnly.ite {r a b : State} {c : Prop} [Decidable c] (ha : TraceOnly r a) (hb : TraceOnly r b) :
    TraceOnly r (if c then a else b) := by
  split <;> assumption

theorem State.bufRecord_regs {r s : State} {x : Nat} (h : TraceOnly r s) : TraceOnly r (s.bufRecord x) := by
  unfold State.bufRecord
  dsimp only
  refine TraceOnly.ite h (TraceOnly.ite (TraceOnly.bump h (by decide)) (TraceOnly.ite (h.of_regs rfl)
    (TraceOnly.ite (h.of_regs rfl) (TraceOnly.ite ?_ (TraceOnly.ite ?_ (h.of_regs rfl))))))
  · exact TraceOnly.ite (TraceOnly.bump (h.of_regs rfl) (by decide)) (h.of_regs rfl)
  · exact TraceOnly.of_regs (TraceOnly.bump h (by decide)) rfl

theorem State.timeRecord_regs {r s : State} (h : TraceOnly r s) : TraceOnly r s.timeRecord := by
  unfold State.timeRecord
  dsimp only
  exact TraceOnly.ite (State.bufRecord_regs (h.of_regs rfl)) h

theorem State.bufWrite_regs {r s : State} {x : Nat} (h : TraceOnly r s) : TraceOnly r (s.bufWrite x) := by
  unfold State.bufWrite
  dsimp only
  have three : ∀ u, TraceOnly r u → TraceOnly r (if bits x 11 8 = evGAP then (u.timeRecord.bufRecord x).bufRecord (recTime s.dtime)
      else u.timeRecord.bufRecord x) := fun u hu =>
    have k := State.bufRecord_regs (State.timeRecord_regs hu)
    TraceOnly.ite (State.bufRecord_regs k) k
  exact three _ (TraceOnly.ite (State.bufRecord_regs (State.bufRecord_regs (h.of_regs rfl))) h)

theorem State.takeTrigger_regs {r s : State} {on : Nat} (h : TraceOnly r s) : TraceOnly r (s.takeTrigger on) := by
  unfold State.takeTrigger
  dsimp only
  exact .wf (.of_regs (.wf ((State.timeRecord_regs h).of_regs rfl) (by decide)) rfl) (by decide)

theorem State.fireTrigger_regs {r s : State} {src : Nat} (h : TraceOnly r s) : TraceOnly r (s.fireTrigger src) := by
  unfold State.fireTrigger
  dsimp only
  have lost : TraceOnly r (s.bump rTR_DROP_CNT2 fTR_DROP_CNT2_TRIG_LOST 1) := TraceOnly.bump h (by decide)
  refine TraceOnly.ite h (TraceOnly.ite lost (TraceOnly.ite (State.takeTrigger_regs h) (TraceOnly.ite h ?_)))
  split
  · exact TraceOnly.ite (h.of_regs rfl) lost
  · exact lost

theorem State.traceEnter_regs {r s : State} {e : Nat} {l : List Nat} (h : TraceOnly r s) : TraceOnly r (s.traceEnter e l) := by
  unfold State.traceEnter
  dsimp only
  exact TraceOnly.ite (h.of_regs rfl) (TraceOnly.bump (h.of_regs rfl) (by decide))

theorem engReg_window {b e : Nat} (hb : b < 0x20) (he : e < 204) : (0x1401382000 + b + e * 0x20) / 0x10000 = 0x140138 := by
  omega

theorem State.liveBegin_regs {r s : State} {e : Nat} {c : TraceCmd} (h : TraceOnly r s) : TraceOnly r (s.liveBegin e c) := by
  unfold State.liveBegin
  split
  · exact h
  · rename_i he
    have he : e < 204 := Nat.lt_of_not_le he
    have w0 : rTR_ENG_CMD e / 0x10000 = 0x140138 := engReg_window (b := 0) (by decide) he
    have w1 : rTR_ENG_ACT e / 0x10000 = 0x140138 := engReg_window (b := 8) (by decide) he
    have w2 : rTR_ENG_BYTES e / 0x10000 = 0x140138 := engReg_window (b := 16) (by decide) he
    have w3 : rTR_ENG_HOLD e / 0x10000 = 0x140138 := engReg_window (b := 24) (by decide) he
    dsimp only
    refine .wf (.wf (.wf (.wf (.wf (.wf (.wf (.wf (.wf (.wf ?_ w0) w0) w0) w0) w1) w1) w2) w2) w3) w3
    exact h.of_regs rfl

theorem State.liveEnd_regs {r s : State} {e : Nat} (h : TraceOnly r s) : TraceOnly r (s.liveEnd e) := by
  unfold State.liveEnd
  split
  · exact h
  · rename_i he
    have he : e < 204 := Nat.lt_of_not_le he
    have w0 : rTR_ENG_CMD e / 0x10000 = 0x140138 := engReg_window (b := 0) (by decide) he
    have w1 : rTR_ENG_ACT e / 0x10000 = 0x140138 := engReg_window (b := 8) (by decide) he
    have w2 : rTR_ENG_BYTES e / 0x10000 = 0x140138 := engReg_window (b := 16) (by decide) he
    have w3 : rTR_ENG_HOLD e / 0x10000 = 0x140138 := engReg_window (b := 24) (by decide) he
    have h0 : TraceOnly r (s.modSrc e (fun x => { x with began := none })) := h.of_regs rfl
    dsimp only
    exact .of_regs (.wf (.wf (.wf (.wf h0 w0) w1) w2) w3) (State.tick_regs _)

theorem State.traceEvent_regs {r s : State} {e ev : Nat} {c : TraceCmd} (h : TraceOnly r s) : TraceOnly r (s.traceEvent e ev c) := by
  have k : TraceOnly r (if ev = evBEGIN ∨ ev = evLEAP_IN then s.liveBegin e c
      else if decide (ev = evEND ∨ ev = evLEAP_OUT ∨ ev = evABORT) = true then s.liveEnd e else s) :=
    TraceOnly.ite (State.liveBegin_regs h) (TraceOnly.ite (State.liveEnd_regs h) h)
  unfold State.traceEvent
  dsimp only
  exact TraceOnly.ite (State.traceEnter_regs k) k

/-- A trace event leaves every register outside the TR_ window alone. -/
theorem State.reg_traceEvent {s : State} {e ev : Nat} {c : TraceCmd} {a : Addr} (ha : a / 0x10000 ≠ 0x140138) :
    (s.traceEvent e ev c).reg a = s.reg a := State.traceEvent_regs (TraceOnly.refl s) a ha

theorem State.reg_fireTrigger {s : State} {src : Nat} {a : Addr} (ha : a / 0x10000 ≠ 0x140138) :
    (s.fireTrigger src).reg a = s.reg a := State.fireTrigger_regs (TraceOnly.refl s) a ha

/-! ## Ports -/

theorem State.reg_idleExit {s : State} {a : Addr} (ha : a ≠ rPM_STATUS) : (s.idleExit).reg a = s.reg a := by
  have fold : ∀ (l : List Nat) (x : State),
      (l.foldl (fun x d => if x.diePower d = 1 then x.setDiePower d 0 else x) x).reg a = x.reg a := by
    intro l
    induction l with
    | nil => intro x; rfl
    | cons d l ih =>
      intro x
      rw [List.foldl_cons, ih]
      split
      · exact State.reg_setReg_other _ _ ha
      · rfl
  unfold State.idleExit
  split
  · exact (State.reg_setReg_other _ _ ha).trans (fold _ _)
  · rfl

theorem State.reg_answered (s : State) (p : Port) (x : Answer) (a : Addr) : (s.answered p x).reg a = s.reg a := rfl

theorem State.reg_dropStaged (s : State) (p : Port) (b a : Addr) : (s.dropStaged p b).reg a = s.reg a := rfl

/-- An accepted register write: what the write does to the state the port finds, answered. -/
theorem State.access_ok {s : State} {p : Port} {a : Addr} {k : State → State}
    (h : ((s.dropStaged p a).wakeFor p a).portRefusal p .wr a = none) :
    s.access p a k = (k ((s.dropStaged p a).wakeFor p a)).answered p .done := by
  unfold State.access
  dsimp only
  rw [h]

end Sys2Proof.Machine
end

