-- ==== Sys2Proof/Tests/Slice0.lean ====
section
/-!
SUPPORT. Tests: for each statement a state and operands that meet its hypotheses, the refusals of
WellFormed, and single steps whose results stand in the spec.
-/
namespace Sys2Proof.Tests
open Sys2Proof Sys2Proof.Machine
set_option maxRecDepth 100000
set_option Elab.async false

theorem limits_end (s : State) (x : Seal) : (s.sealEnd x).limits = s.limits := by
  unfold State.sealEnd
  split
  · simp only [State.limits, State.rf]
    repeat rw [State.reg_traceEvent (by decide)]
    have band : ∀ b ∈ List.range 8, rPC_BAND b / 0x10000 ≠ 0x140138 := by decide
    rw [List.map_congr_left (fun b hb => by rw [State.reg_traceEvent (band b hb)])]
  · rfl
theorem find_congr {p q : Nat → Bool} : ∀ {l : List Nat}, (∀ x ∈ l, p x = q x) → l.find? p = l.find? q
  | [], _ => rfl
  | a :: l, h => by
    rw [List.find?_cons, List.find?_cons, h a List.mem_cons_self, find_congr (fun x hx => h x (List.mem_cons_of_mem a hx))]
theorem checker_end (s : State) (x : Seal) (h : ∀ q ∈ x.plan.elig, q < 256) : (s.sealEnd x).sealChecker x = s.sealChecker x := by
  unfold State.sealEnd
  split
  · refine find_congr (fun q hq => ?_)
    have low : ∀ k < 4, rHUB_TEST_FAIL k / 0x10000 ≠ 0x140138 := by decide
    unfold State.testFault
    rw [State.reg_traceEvent (low (q / 64) (Nat.div_lt_of_lt_mul (h q hq)))]
  · rfl
/-- A re-check over given limits. -/
def passesOn (l : Limits) (k : Option Nat) (s : State) (x : Seal) (hdr freeze raw start : Nat) : Bool :=
  match x.epoch, k with
  | some e, some _ => (s.rollout l e (relOf hdr e.rec') freeze start (candPlan raw) 0 (startPose hdr) { outcome := 1 }).outcome == 1
  | _, _ => false
theorem sealPasses_end (s : State) (x : Seal) (hdr freeze raw start : Nat) (h : ∀ q ∈ x.plan.elig, q < 256) :
    (s.sealEnd x).sealPasses x hdr freeze raw start
      = passesOn s.limits (s.sealChecker x) (s.sealEnd x) x hdr freeze raw start := by
  unfold State.sealPasses passesOn State.checkCand
  rw [checker_end s x h, limits_end]
  dsimp only
  split
  · split <;> simp_all
  · simp_all

/-! ## States of the witnesses -/

abbrev R : State := State.reset
def U : State := State.reset.setReg rSK_DIE_STATE 0
def hart : Port := .hart 0
/-- A list of register fields written. -/
def sets (s : State) (l : List (Addr × Fld × Nat)) : State := l.foldl (fun x y => x.wf y.1 y.2.1 y.2.2) s
def onIsl (s : State) (i : Nat) (f : Island → Island) : State := s.modIsle i f
def islAt (i st : Nat) (f : Island → Island) : State := U.modIsle i (fun x => f { x with power := true, state := st })
def timeIsl (s : State) (n : Nat) : State := s.modTime (fun t => { t with isl := t.isl.map (fun x => { x with now := n * 2 ^ 32 }) })
/-- A record of a slot with its sequence, kind, payload and flags, and the CRC of what it covers. -/
def slotRecord (seq kind len pay inst : Nat) : Nat :=
  seq + kind * 2 ^ 136 + len * 2 ^ 144 + crc32c (leBytes len pay) * 2 ^ 160 + inst * 2 ^ 320 + pay * 2 ^ 1024 + seq * 2 ^ 8128
def withSlot (s : State) (sl r : Nat) : State := s.modHub (fun h => { h with slots := { h.slots with cur := setAt h.slots.cur sl r } })
def notice (s : State) (i sl : Nat) : State := s.modHub (fun h => { h with notices := [(i, sl, 0)] })
def anyRegion (s : State) (i : Nat) : State :=
  sets s [(rSI_RGN_BASE i 0, fSI_RGN_BASE_VALID, 1), (rSI_RGN_LIM i 0, fSI_RGN_LIM_LIMIT, 0x1000)]
def wr (s : State) (a : Addr) (f : Fld) (n : Nat) : State := s.wf a f n
def K0 : Kernel := { ctx := 3, num := 0, cls := 0, image := 0x10000, save := 0x20000, saveBytes := 512, args := 0x30000, first := 0, count := 2, dieMask := 15, maxTiles := 0, resume := [], next := 0, held := 0, done := 0, fetched := 0 }
def rgn (s : State) (c : Nat) : State := sets s [(rHUB_CTX_RGN_BASE c 0, fHUB_CTX_RGN_BASE_VALID, 1), (rHUB_CTX_RGN_BASE c 0, fHUB_CTX_RGN_BASE_RD, 1), (rHUB_CTX_RGN_BASE c 0, fHUB_CTX_RGN_BASE_WR, 1), (rHUB_CTX_RGN_LIM c 0, fHUB_CTX_RGN_LIM_LIMIT, 0x3FFFFFFF)]
def withKernel (s : State) (k : Kernel) : State := s.modHub (fun h => { h with kernels := h.kernels ++ [k] })
def withDesc (s : State) (c : Nat) (d : Desc) : State := s.modCtx c (fun x => { x with window := x.window ++ [d] })
def onTile (s : State) (t c st : Nat) (f : Tile → Tile) : State := (sets s [(rTILE_STATUS t, fTILE_STATUS_CTX, c), (rTILE_STATUS t, fTILE_STATUS_STATE, st)]).modTile t f
def imgOf (ops : List Nat) : Image := { addr := 0x10000, ctx := 3, tag := 0, hdr := 0, ops := ops, wins := [], tabs := [] }
def I0 : InFlight := { idx := 0, unit := .port, opc := 0, mark := false, rd := [], wr := [], mrd := [], mwr := [], fault := none }
/-- A running slice of `K0` on tile 5 with a program. -/
def runs5 (ops : List Nat) (f : Tile → Tile) : State :=
  onTile (withDesc (withKernel (rgn U 3) { K0 with held := 1, next := 1 }) 3 { num := 0, raw := 1 }) 5 3 tsRUN (fun x => f { x with image := some (imgOf ops) })
def put (s : State) (a : Nat) (bs : List Byte) : State := s.memWrite a bs
def hdrOf (ops : List Nat) : Nat := 1 + ops.length * 2 ^ 16 + 2 * 2 ^ 32 + 64 * 2 ^ 64 + 0x1000 * 2 ^ 96 + 0x1000 * 2 ^ 128 + 0x2000 * 2 ^ 160 + 512 * 2 ^ 192
def putImage (s : State) (ops : List Nat) : State := put (put s 0x10000 (leBytes 64 (hdrOf ops))) 0x10040 (ops.flatMap (leBytes 32))
/-- A LEAP entry of a live range of 64 bytes at 64. -/
def eLEAP : Nat := 7 + 64 * 2 ^ 32 + 64 * 2 ^ 64
/-- LOOP to entry 0, twice, counter 3, argument 2 stepped by 5. -/
def eLOOP : Nat := 6 + 3 * 2 ^ 8 + 2 * 2 ^ 32 + 2 * 2 ^ 64 + 2 ^ 72 + 5 * 2 ^ 128
def fields (l : List (Nat × Nat)) : Nat := l.foldl (fun a p => a + p.2 * 2 ^ p.1) 0
def sram (s : State) (o : Nat) (bs : List Byte) : State := s.memWrite (sramBase 5 + o) bs
def ctxRings (s : State) (c : Nat) : State := sets (rgn s c) [(rHUB_CTX_SQ c, fHUB_CTX_SQ_LOG2, 6), (rHUB_CTX_SQ c, fHUB_CTX_SQ_BASE, 0x100), (rHUB_CTX_CQ c, fHUB_CTX_CQ_LOG2, 6), (rHUB_CTX_CQ c, fHUB_CTX_CQ_BASE, 0x200)]
def ctxOn (s : State) (c : Nat) : State := sets (ctxRings s c) [(rHUB_CTX_CFG c, fHUB_CTX_CFG_ENABLE, 1), (rHUB_CTX_STATUS c, fHUB_CTX_STATUS_STATE, 1)]
def J0 : Job := { tag := 1, started := true, begun := true, beginNum := 0, mask := 0, deadline := 0, budget := 1, attempt := 0, manifest := 0, dies := 15, endSeen := false, replay := [], pos := 0, causes := [], abort := none, touched := [], used := [] }
def withJob (s : State) (c : Nat) (j : Job) : State := s.modCtx c (fun x => { x with job := some j })
def shTime (s : State) (ns : Nat) : State := s.modTime (fun t => { t with master := ns * 2 ^ 32 })

/-! ### acc -/

def wAcc0 : State := U
def wAcc1 : State := U.wf rCH_STATUS fCH_STATUS_STATE 2
def wAcc2 : State := (sets wAcc1 [(rDL_CFG 0, fDL_CFG_MODE, 3), (rCH_INRGN_BASE 0, fCH_INRGN_BASE_VALID, 1), (rCH_INRGN_BASE 0, fCH_INRGN_BASE_WR, 1), (rCH_INRGN_LIM 0, fCH_INRGN_LIM_LIMIT, 0x1000), (rCH_INRGN_LIM 0, fCH_INRGN_LIM_PCIE, 1), (rCH_INRGN_LIM 0, fCH_INRGN_LIM_SRC_MASK, 4), (rCH_STATUS, fCH_STATUS_MEMBERS, 5)])
def wAcc8 : State := wAcc2.wf (rCH_INRGN_BASE 0) fCH_INRGN_BASE_RD 1
def wAcc3 : State := sets wAcc2 [(rHUB_CTX_TAIL_MIRROR 3, fHUB_CTX_TAIL_MIRROR_EN, 1), (rHUB_CTX_TAIL_MIRROR 3, fHUB_CTX_TAIL_MIRROR_ADDR, 0x20), (rHUB_CTX_SQ 3, fHUB_CTX_SQ_LOG2, 2)]
def wAcc4 : State := U.wf rTR_AUTH_STAT fTR_AUTH_STAT_LEVEL 2
def wAcc5 : State := { U with pcieReads := [{ hart := 3, addr := 0x100, len := 4, at' := 0 }] }
def wAcc6 : State := { U with pcieReads := [{ hart := 3, addr := 0x100, len := 4, at' := 0 }], time := { U.time with master := 2 ^ 92 } }
/-- Every channel is FENCED, and what it held is lost. -/
def wAcc7 : State := ((List.range 64).foldl (fun x c => x.setMcState c mcFENCED) U).modMem (fun m => { m with lost := List.range 64 })

def wv1000 : FieldDef := { hi := 63, lo := 63, acc := Sys2Proof.Machine.Acc.rw, rst := 0 }
def wv1001 : RegDef :=
  { base := 85919535104, wstride := 65536, wcount := 1, stride := 16, count := 64, fields := [{ hi := 63, lo := 63, acc := Sys2Proof.Machine.Acc.rw, rst := 0 }, { hi := 62, lo := 62, acc := Sys2Proof.Machine.Acc.rw, rst := 0 }, { hi := 61, lo := 61, acc := Sys2Proof.Machine.Acc.rw, rst := 0 }, { hi := 60, lo := 60, acc := Sys2Proof.Machine.Acc.rw, rst := 0 }, { hi := 59, lo := 56, acc := Sys2Proof.Machine.Acc.rw, rst := 0 }, { hi := 43, lo := 6, acc := Sys2Proof.Machine.Acc.rw, rst := 0 }] }
/-- Hypotheses of the clauses 1.1, 1.2, 1.3, 2.1, 2.3.1, 2.3.2; 2.2 of
`Obligations.RegisterWritesCommitHalvesAndTypes`. -/
theorem witness_RegisterWritesCommitHalvesAndTypes :
    ((regRange (rCH_INRGN_BASE 0) = true ∧ legalAccess (rCH_INRGN_BASE 0) 2 = false ∧ rCH_INRGN_BASE 0 % 8 = 0 ∧
         rCH_INRGN_BASE 0 < 103079215104 ∧ wAcc0.accepts hart (rCH_INRGN_BASE 0) ∧ 64 % 8 = 0 ∧ ((wAcc0.dropStaged
         hart 64).wakeFor hart 64).portRefusal hart Want.wr 64 = some (Answer.accessFault, none) ∧ 2 < 64)
      ∧ (wAcc0.accepts hart (rCH_INRGN_BASE 2) ∧ wAcc0.chState = csOFF ∧ (wv1000 ∈ (regAt (rCH_INRGN_BASE 2)).elim [] fun
         x => x.1.fields) ∧ regAt (rCH_INRGN_BASE 0) = some (wv1001, 0, 0) ∧ wv1000 ∈ wv1001.fields)
      ∧ (∀ (i : Nat), hart ≠ Port.island i)) ∧
    ((0 < 64 ∧ wAcc1.accepts hart (rCH_INRGN_BASE 0) ∧ wAcc1.chState ≠ csOFF)) :=
  by refine ⟨⟨?_, ?_, fun _ h => by cases h⟩, ?_⟩ <;> decide +kernel

/-- Hypotheses of the clauses 1, 2, 3, 4 of `Obligations.GlobalCountersServeTable`. -/
theorem witness_GlobalCountersServeTable :
    ((85899346432 % 8 = 0 ∧ globalCounter 85899346432 = true ∧ 85899346432 < 85911928832 ∧ wAcc0.accepts hart
         85899346432 ∧ 0 < 64 ∧ wAcc0.accepts hart (rHUB_CTX_CNT 0) ∧ wAcc0.hubServes = true ∧ (∀ (d : Nat), blockDie
         85899346432 = some d → wAcc0.diePresent d = true ∧ wAcc0.dieRetained d = false))
      ∧ (((wAcc0.dropStaged hart 85899346432).wakeFor hart 85899346432).portRefusal hart Want.rd 85899346432 = none)
      ∧ (Port.debug = Port.debug ∧ wAcc0.dbgLevel = 0 ∨ (∃ d, Port.debug = Port.peer d) ∨ ∃ h, Port.debug = Port.user h ∧
         wAcc0.counterServed (Port.user h) = false)) :=
  by refine ⟨?_, ?_, Or.inl (by decide +kernel)⟩ <;> decide +kernel

/-- Hypotheses of the clauses 1.1, 3, 4, 5, 6; 1.2; 2 of `Obligations.CoreAndDebugMemoryAccess`. -/
theorem witness_CoreAndDebugMemoryAccess :
    ((wAcc0.hubServes = true ∧ wAcc0.storable 64 [1, 2].length ∧ wAcc0.inHbm 64 8 ∧ wAcc0.mem.poisoned 64 8 = false ∧
         (8 = 4 ∨ 8 = 8) ∧ 64 % 8 = 0 ∧ wAcc0.storable 64 8 ∧ regRange 51539607576 = false)
      ∧ ((∃ l ∈ unitsOf 64 51539607576 (reqLength (MemReq.read 8)), wAcc0.lineErr l ≠ none) ∧ wAcc0.dbgLevel < 2 ∧
         regRange 64 = false)) ∧
    ((wAcc4.hubServes = true ∧ wAcc4.storable 64 [1, 2].length ∧ 2 ≤ wAcc4.dbgLevel)) ∧
    ((wAcc7.hubServes = true ∧ wAcc7.inHbm 64 [1, 2].length ∧ 64 % 128 + [1, 2].length ≤ 128 ∧ wAcc7.mem.lost ≠ [] ∧
         wAcc7.mcDead (pcOf 64) = true ∧ wAcc7.lineHeld (64 / 128) = false)) :=
  by refine ⟨⟨?_, ?_⟩, ?_, ?_⟩ <;> decide +kernel

/-- Hypotheses of the clauses 1.1, 1.2, 1.4, 1.5; 2.1.1, 2.1.2, 2.1.3; 2.2.1, 2.2.2; 1.3.1, 1.3.2 of
`Obligations.InboundRequestsAndPcieReadsAreChecked`. -/
theorem witness_InboundRequestsAndPcieReadsAreChecked :
    ((wAcc3.inboundFrom Port.pcie = true ∧ wAcc3.storable 2048 [1, 2].length ∧ wAcc3.mirrorsAt 2048 [1, 2].length = []
         ∧ (∀ l ∈ unitsOf 64 2048 [1, 2].length, wAcc3.inboundOk Port.pcie Want.wr l = true) ∧ wAcc3.inboundFrom
         (Port.peer 2) = true ∧ (∀ l ∈ unitsOf 64 2048 [1, 2].length, wAcc3.inboundOk (Port.peer 2) Want.wr l = true)
         ∧ (∀ (h : CollHead), none = some h → wAcc3.coll h.tag = none) ∧ 2048 < wAcc3.hbmBytes)
      ∧ ((∃ l ∈ unitsOf 64 2048 (reqLength (MemReq.read 8)), wAcc3.inboundOk (Port.peer 2) (reqWant (MemReq.read 8)) l =
         false) ∧ 3 < 64 ∧ wAcc3.flag (rHUB_CTX_TAIL_MIRROR 3) fHUB_CTX_TAIL_MIRROR_EN = true ∧ wAcc3.mirrorAddr 3 <
         wAcc3.hbmBytes ∧ wAcc3.alive (wAcc3.mirrorAddr 3) 8 ∧ wAcc3.inboundOk Port.pcie Want.wr (wAcc3.mirrorAddr 3 /
         64) = true ∧ wAcc3.mirrorsAt (wAcc3.mirrorAddr 3) 8 = [3] ∧ 1 < 2 ^ 32)
      ∧ (sub32 1 (wAcc3.sqHead 3) ≤ wAcc3.sqSize 3 ∧ sub32 1 (wAcc3.sqTail 3) ≤ wAcc3.sqSize 3)) ∧
    ((List.find? (fun r => r.hart == 3) wAcc5.pcieReads = some ({ hart := 3, addr := 256, len := 4, at' := 0 } :
         PcieRead) ∧ wAcc5.dtime ≤ ({ hart := 3, addr := 256, len := 4, at' := 0 } : PcieRead).at' + 10000000)) ∧
    ((List.find? (fun r => r.hart == 3) wAcc6.pcieReads = some ({ hart := 3, addr := 256, len := 4, at' := 0 } :
         PcieRead) ∧ ({ hart := 3, addr := 256, len := 4, at' := 0 } : PcieRead).at' + 10000000 < wAcc6.dtime)) ∧
    ((wAcc8.inHbm 256 8 ∧ wAcc8.mem.poisoned 256 8 = false ∧ wAcc8.inboundFrom Port.pcie = true ∧ (∀ l ∈ unitsOf 64
         256 8, wAcc8.inboundOk Port.pcie Want.rd l = true) ∧ wAcc8.inboundFrom (Port.peer 2) = true ∧ (∀ l ∈ unitsOf
         64 256 8, wAcc8.inboundOk (Port.peer 2) Want.rd l = true))) :=
  by refine ⟨⟨?_, ?_, ?_⟩, ?_, ?_, ?_⟩ <;> decide +kernel

/-! ### time -/

def wTim0 : State := { U with time := { U.time with master := 2 ^ 92, isl := U.time.isl.map (fun x => { x with inbox := [5, 6], now := 2 ^ 60 }) } }
def wTim1 : State := { U with time := { U.time with isl := U.time.isl.map (fun x => { x with inbox := [5, 6], synced := true }) } }
def wTim2 : State := { sets U [(rIO_TIME_STAT, fIO_TIME_STAT_AS_VALID, 1), (rIO_TIME_STAT, fIO_TIME_STAT_PPS_VALID, 1)] with time := { U.time with master := 2 ^ 92, sync := some 0, pps := some 0, stamped := true, outRun := 4, outAt := 2 ^ 60 - 1000000000 } }
def wTim3 : State := { U with time := { U.time with master := 1000000010 * 2 ^ 32, pps := some 5, stamped := true } }
def wTim4 : State := { wTim2 with time := { wTim2.time with outAt := 0 } }

/-- Hypotheses of the clauses 1.1, 1.2, 1.3, 1.4, 1.5, 2.1, 2.2, 2.3 of `Obligations.TimeCopiesAndIslandTimeFollow`.
-/
theorem witness_TimeCopiesAndIslandTimeFollow :
    ((0 < 4 ∧ 20 < wTim0.copyDiff 0 ∧ wTim0.copyDiff 5 ≤ 20 ∧ 0 < wTim0.time.dies.length ∧ 0 ≠ wTim0.time.incr ∧ 0 <
         wTim0.time.isl.length ∧ (∀ (x : Nat), (wTim0.islT 0).lastSend = some x → x + 1000000 ≤ wTim0.dtime) ∧
         wTim0.diePresent (4 + 0) = true)
      ∧ (wTim0.hubServes = true ∧ (wTim0.islT 0).inbox = [5, 6] ∧ 5000000 ≤ (wTim0.islT 0).silent)) :=
  by refine ⟨?_, ?_⟩ <;> decide +kernel

/-- Hypotheses of the clauses 1.1, 1.2, 1.3, 1.4, 2.3, 2.4, 3.1, 3.2, 3.3.3; 2.1, 3.3.1; 2.2; 3.3.2 of
`Obligations.TimeInputsPinsAndPulsesAct`. -/
theorem witness_TimeInputsPinsAndPulsesAct :
    ((wTim2.hubServes = true ∧ (¬(wTim2.time.stamped = true ∧ 1000000 < Int.natAbs 0)) ∧ (true && false) = false ∧
         wTim2.time.sync = some 0 ∧ 0 + 3000000000 ≤ wTim2.dtime ∧ wTim2.flag rIO_TIME_STAT fIO_TIME_STAT_AS_VALID =
         true ∧ wTim2.time.pps = some 0 ∧ 0 + 1500000000 ≤ wTim2.dtime)
      ∧ (wTim2.flag rIO_TIME_STAT fIO_TIME_STAT_PPS_VALID = true ∧ wTim2.accepts hart rIO_TIME_SET ∧ wTim2.time.stamped =
         true ∧ 0 < 32 ∧ wTim2.rf rIO_GPIO_FILT fIO_GPIO_FILT_FILT_US ≤ 1 ∧ wTim2.sh.on = false ∧ true ≠ wTim2.flag
         rIO_TIME_CFG fIO_TIME_CFG_PPS_EDGE ∧ false = wTim2.flag rIO_TIME_CFG fIO_TIME_CFG_PPS_EDGE)
      ∧ (0 < wTim2.rf rIO_TIME_CFG fIO_TIME_CFG_PPS_MIN_US ∧ wTim2.rf rIO_TIME_CFG fIO_TIME_CFG_PPS_MIN_US ≤ 63 ∧
         wTim2.ppsInWindow wTim2.dtime = false ∧ wTim2.ppsRegular wTim2.dtime = true ∧ 4 ≤ wTim2.time.outRun)) ∧
    ((wTim3.hubServes = true ∧ wTim3.time.stamped = true ∧ wTim3.dtime - wTim3.dtime / 1000000000 * 1000000000 ≤ 20 ∧
         wTim3.sh.on = false ∧ false = wTim3.flag rIO_TIME_CFG fIO_TIME_CFG_PPS_EDGE ∧ wTim3.rf rIO_TIME_CFG
         fIO_TIME_CFG_PPS_MIN_US ≤ 63 ∧ wTim3.time.pps = some 5 ∧ 1 ≤ 1)
      ∧ (5 + 1 * 1000000000 ≤ wTim3.dtime + wTim3.rf rIO_TIME_CFG fIO_TIME_CFG_PPS_WIN_US * 1000 ∧ wTim3.dtime ≤ 5 + 1 *
         1000000000 + wTim3.rf rIO_TIME_CFG fIO_TIME_CFG_PPS_WIN_US * 1000)) ∧
    ((U.hubServes = true ∧ U.accepts hart rIO_TIME_SET ∧ U.time.stamped = false)) ∧
    ((wTim4.hubServes = true ∧ wTim4.sh.on = false ∧ false = wTim4.flag rIO_TIME_CFG fIO_TIME_CFG_PPS_EDGE ∧ wTim4.rf
         rIO_TIME_CFG fIO_TIME_CFG_PPS_MIN_US ≤ 63 ∧ wTim4.ppsInWindow wTim4.dtime = false ∧ (¬(wTim4.ppsRegular
         wTim4.dtime = true ∧ 4 ≤ wTim4.time.outRun)))) :=
  by refine ⟨⟨?_, ?_, ?_⟩, ⟨?_, ?_⟩, ?_, ?_⟩ <;> decide +kernel

/-! ### sched -/

def wSch0 : State := withKernel (rgn U 3) K0
def wSch1 : State := withKernel (rgn U 3) { K0 with resume := [4] }
def wSch2 : State := sets (wr (withKernel (rgn (withKernel (rgn U 3) { K0 with held := 1, next := 1 }) 4) { K0 with ctx := 4, cls := 14, dieMask := 1 }) (rQOS_CLS_SCHED 14) fQOS_CLS_SCHED_PREEMPT 1) ((List.range 32).flatMap (fun t => [(rTILE_STATUS t, fTILE_STATUS_CTX, 3), (rTILE_STATUS t, fTILE_STATUS_STATE, tsRUN)]))
def wSch3a : State := onTile U 127 3 tsRUN (fun x => { x with req := some { since := 0, late := false, ctx := 4, num := 0 } })
def wSch3 : State := { wSch3a with time := { wSch3a.time with dies := wSch3a.time.dies.map (fun x => { x with copy := 2 ^ 92 }) } }
def wSch4 : State := U.modDie 3 (fun x => { x with flags := [0, 31, 43] })
def wSch5 : State := ((withDesc (withDesc U 3 { num := 0, raw := 5, phase := .started }) 4 { num := 0, raw := 5, phase := .started, units := [175] }).modDma 31 (fun x => { x with cur := some (3, 0) })).wf (rHUB_CTX_CFG 4) fHUB_CTX_CFG_CLASS 14
def wSch6 : State := onTile U 127 3 tsFAULT id

def wv7000 : Kernel :=
  { ctx := 3, num := 0, cls := 0, image := 65536, save := 131072, saveBytes := 512, args := 196608, first := 0, count := 2, dieMask := 15, maxTiles := 0, resume := [], next := 1, held := 1, done := 0, fetched := 0 }
def wv7001 : Kernel :=
  { ctx := 4, num := 0, cls := 14, image := 65536, save := 131072, saveBytes := 512, args := 196608, first := 0, count := 2, dieMask := 1, maxTiles := 0, resume := [], next := 0, held := 0, done := 0, fetched := 0 }
def wv7002 : Kernel :=
  { ctx := 3, num := 0, cls := 0, image := 65536, save := 131072, saveBytes := 512, args := 196608, first := 0, count := 2, dieMask := 15, maxTiles := 0, resume := [4], next := 0, held := 0, done := 0, fetched := 0 }
def wv7003 : Desc :=
  { num := 0, raw := 5, poison := false, phase := Sys2Proof.Machine.Phase.started, status := 0, detail := 0, inJob := none, slot := 0, start := 0, order := 0, waited := false, attempt := 0, units := [] }
def wv7004 : Desc :=
  { num := 0, raw := 5, poison := false, phase := Sys2Proof.Machine.Phase.started, status := 0, detail := 0, inJob := none, slot := 0, start := 0, order := 0, waited := false, attempt := 0, units := [175] }
/-- Hypotheses of the clauses 1.2, 2.1; 1.1; 2.2; 2.3; 2.4; 2.5 of `Obligations.SlicesAreGrantedPreemptedAndRetired`.
-/
theorem witness_SlicesAreGrantedPreemptedAndRetired :
    ((3 < 4 ∧ wSch2.dieUsable 3 = true ∧ wSch2.urgentTest 3 = none ∧ wSch2.tiles.length = 128 ∧ wv7000.ctx < 64 ∧
         wv7000 ∈ wSch2.hub.kernels ∧ wSch2.grantable 3 wv7000 = true ∧ (∀ j ∈ wSch2.hub.kernels, wSch2.grantable 3 j
         = true → wSch2.tilesFor 3 j ≠ [] → j ≠ wv7000 → wSch2.kernelBefore 3 wv7000 j = true ∧ wSch2.kernelBefore 3 j
         wv7000 = false))
      ∧ (96 ∈ wSch2.tilesFor 3 wv7000 ∧ (∀ u ∈ wSch2.tilesFor 3 wv7000, u ≠ 96 → wSch2.tileRank wv7000 96 <
         wSch2.tileRank wv7000 u) ∧ wv7000.resume = [] ∧ wv7000.next < 2 ^ fTILE_STATUS_SLICE.width ∧ 0 < 4 ∧ wv7001 ∈
         wSch2.hub.kernels ∧ wSch2.mayRequest 0 wv7001 = true ∧ (∀ j ∈ wSch2.hub.kernels, wSch2.mayRequest 0 j = true
         → j ≠ wv7001 → wSch2.kernelBefore 0 wv7001 j = true ∧ wSch2.kernelBefore 0 j wv7001 = false))
      ∧ (31 ∈ wSch2.victims 0 wv7001 ∧ (∀ u ∈ wSch2.victims 0 wv7001, wSch2.slicePrio 31 ≤ wSch2.slicePrio u ∧
         (wSch2.slicePrio u = wSch2.slicePrio 31 → u ≤ 31)))) ∧
    ((0 < 4 ∧ wSch1.dieUsable 0 = true ∧ wSch1.urgentTest 0 = none ∧ wSch1.tiles.length = 128 ∧ wv7002.ctx < 64 ∧
         wv7002 ∈ wSch1.hub.kernels ∧ wSch1.grantable 0 wv7002 = true ∧ (∀ j ∈ wSch1.hub.kernels, wSch1.grantable 0 j
         = true → wSch1.tilesFor 0 j ≠ [] → j ≠ wv7002 → wSch1.kernelBefore 0 wv7002 j = true ∧ wSch1.kernelBefore 0 j
         wv7002 = false))
      ∧ (0 ∈ wSch1.tilesFor 0 wv7002 ∧ (∀ u ∈ wSch1.tilesFor 0 wv7002, u ≠ 0 → wSch1.tileRank wv7002 0 < wSch1.tileRank
         wv7002 u) ∧ wv7002.resume = [4] ∧ 4 < 2 ^ fTILE_STATUS_SLICE.width)) ∧
    ((127 < 128 ∧ 127 < wSch3.tiles.length ∧ (wSch3.tile 127).req = some
         ({ since := 0, late := false, ctx := 4, num := 0 } : PreReq) ∧
         ({ since := 0, late := false, ctx := 4, num := 0 } : PreReq).late = false ∧ (wSch3.tile 127).sampled = none ∧
         wSch3.rf (rCD_SCHED_CFG (127 / 32)) fCD_SCHED_CFG_LEAP_WAIT_NS ≤ wSch3.dieTime (127 / 32) -
         ({ since := 0, late := false, ctx := 4, num := 0 } : PreReq).since)) ∧
    ((3 < wSch4.hub.dies.length ∧ (wSch4.die 3).flags ≠ [] ∧ (∀ x ∈ (wSch4.die 3).flags, x < 44) ∧ (wSch4.die 3).tptr
         < 32 ∧ 32 ≤ (wSch4.die 3).eptr ∧ (wSch4.die 3).eptr < 44)) ∧
    ((31 < wSch5.hub.dmas.length ∧ (wSch5.dma 31).cur = some (3, 0) ∧ wSch5.halted = false ∧ wSch5.dmaWaiting 31 =
         [(4, 0)] ∧ wSch5.desc 3 0 = some wv7003 ∧ wSch5.desc 4 0 = some wv7004 ∧ wSch5.descPrio 3 0 < wSch5.descPrio
         4 0)) ∧
    ((127 < 128 ∧ wSch6.tileState 127 = tsFAULT ∧ wSch6.testFault 127 = false ∧ wSch6.kernelTiles (wSch6.tileCtx 127)
         (wSch6.tile 127).knum = [])) :=
  by refine ⟨⟨?_, ?_, ?_⟩, ⟨?_, ?_⟩, ?_, ?_, ⟨?_, ?_⟩⟩ <;> decide +kernel

/-! ### tile -/

def wTil0 : State := putImage ((runs5 [] id).setTileState 5 tsLOADING) [eLEAP]
def wTil1 : State := (runs5 [] id).setTileState 5 tsLOADING
def wTil2 : State := runs5 [eLEAP] (fun x => { x with flight := [I0] })
def wTil3 : State := runs5 [eLEAP] (fun x => { x with flight := [{ I0 with fault := some (stMALFORMED, 0) }] })
def wTil4 : State := runs5 [eLEAP] (fun x => { x with entry := 1 })
def wTil5 : State := wTil4.modHub (fun h => { h with kernels := h.kernels.map (fun k => { k with done := 1 }) })
def wTil6 : State := runs5 [eLEAP] (fun x => { x with flight := [I0, { I0 with idx := 1 }] })
def kRun : Kernel := { K0 with held := 1, next := 1 }
def wLoo0 : State := runs5 [eLOOP, eLEAP] id
def wLoo1 : State := runs5 [eLOOP, eLEAP] (fun x => { x with loops := [0, 0, 0, 1] })
def wLoo2 : State := runs5 [eLEAP] id
def wLoo3 : State := runs5 [eLEAP] (fun x => { x with req := some { since := 0, late := false, ctx := 3, num := 0 } })
def wLoo4 : State := (runs5 [eLEAP] (fun x => { x with leapOff := 64, leapLen := 64, entry := 1 })).setTileState 5 tsLEAP_SAVE
def wLoo5 : State := put (put ((runs5 [eLEAP] id).setTileState 5 tsLEAP_RESTORE) 0x20000 (savedHead { entry := 1 })) 0x20100 (leBytes 64 99)

def wv8000 : Kernel :=
  { ctx := 3, num := 0, cls := 0, image := 65536, save := 131072, saveBytes := 512, args := 196608, first := 0, count := 2, dieMask := 15, maxTiles := 0, resume := [], next := 1, held := 1, done := 0, fetched := 0 }
def wv8001 : InFlight :=
  { idx := 0, unit := Sys2Proof.Machine.TUnit.port, opc := 0, mark := false, rd := [], wr := [], mrd := [], mwr := [], fault := none }
def wv8002 : InFlight :=
  { idx := 1, unit := Sys2Proof.Machine.TUnit.port, opc := 0, mark := false, rd := [], wr := [], mrd := [], mwr := [], fault := none }
def wv8003 : Image :=
  { addr := 65536, ctx := 3, tag := 0, hdr := 0, ops := [1180591620992289210375], wins := [], tabs := [] }
def wv8004 : Image :=
  { addr := 65536, ctx := 3, tag := 0, hdr := 3213876100490601965492477465839593854661786195031389678665729, ops := [1180591620992289210375], wins := [], tabs := [] }
def wv8005 : InFlight :=
  { idx := 0, unit := Sys2Proof.Machine.TUnit.port, opc := 0, mark := false, rd := [], wr := [], mrd := [], mwr := [], fault := some (7, 0) }
def wv8006 : Kernel :=
  { ctx := 3, num := 0, cls := 0, image := 65536, save := 131072, saveBytes := 512, args := 196608, first := 0, count := 2, dieMask := 15, maxTiles := 0, resume := [], next := 1, held := 1, done := 1, fetched := 0 }
def wv8007 : Desc :=
  { num := 0, raw := 1, poison := false, phase := Sys2Proof.Machine.Phase.waiting, status := 0, detail := 0, inJob := none, slot := 0, start := 0, order := 0, waited := false, attempt := 0, units := [] }
/-- Hypotheses of the clauses 3, 5, 8; 1; 2; 4; 6; 7 of `Obligations.TileSlicesLoadAndEnd`. -/
theorem witness_TileSlicesLoadAndEnd :
    ((5 < 128 ∧ wTil6.tiles.length = 128 ∧ wTil6.kernel (wTil6.tileCtx 5) (wTil6.tile 5).knum = some wv8000 ∧
         wTil6.tileState 5 = tsRUN ∧ List.find? (fun f => f.idx == 0) (wTil6.tile 5).flight = some wv8001 ∧
         (wTil6.tile 5).mayEnd wv8001 = true ∧ wv8001.fault = none ∧ List.find? (fun f => f.idx == 1) (wTil6.tile
         5).flight = some wv8002)
      ∧ ((wTil6.tile 5).mayEnd wv8002 = false ∧ (wTil6.tile 5).image = some wv8003 ∧ ((wTil6.tile 5).entry <
         wv8003.ops.length ∨ (wTil6.tile 5).flight ≠ []))) ∧
    ((5 < 128 ∧ wTil0.tiles.length = 128 ∧ wTil0.kernel (wTil0.tileCtx 5) (wTil0.tile 5).knum = some wv8000 ∧
         wTil0.tileState 5 = tsLOADING ∧ wTil0.loadImage (wTil0.tileCtx 5) wv8000.image (wTil0.kernelTag
         (wTil0.tileCtx 5) wv8000.num) = Loaded.ok wv8004)) ∧
    ((5 < 128 ∧ wTil1.tiles.length = 128 ∧ wTil1.kernel (wTil1.tileCtx 5) (wTil1.tile 5).knum = some wv8000 ∧
         wTil1.tileState 5 = tsLOADING ∧ wTil1.loadImage (wTil1.tileCtx 5) wv8000.image (wTil1.kernelTag
         (wTil1.tileCtx 5) wv8000.num) = Loaded.bad 7 0)) ∧
    ((5 < 128 ∧ wTil3.tiles.length = 128 ∧ wTil3.kernel (wTil3.tileCtx 5) (wTil3.tile 5).knum = some wv8000 ∧
         wTil3.tileState 5 = tsRUN ∧ List.find? (fun f => f.idx == 0) (wTil3.tile 5).flight = some wv8005 ∧
         (wTil3.tile 5).mayEnd wv8005 = true ∧ wv8005.fault = some (7, 0))) ∧
    ((5 < 128 ∧ wTil4.tiles.length = 128 ∧ wTil4.kernel (wTil4.tileCtx 5) (wTil4.tile 5).knum = some wv8000 ∧ 5 / 32 <
         wTil4.hub.dies.length ∧ (wTil4.tile 5).image = some wv8003 ∧ wTil4.tileState 5 = tsRUN ∧ wv8003.ops.length ≤
         (wTil4.tile 5).entry ∧ (wTil4.tile 5).flight = [])
      ∧ (wv8000.done + 1 < wv8000.count)) ∧
    ((5 < 128 ∧ wTil5.tiles.length = 128 ∧ wTil5.kernel (wTil5.tileCtx 5) (wTil5.tile 5).knum = some wv8006 ∧
         (wTil5.tile 5).image = some wv8003 ∧ wTil5.tileState 5 = tsRUN ∧ wv8003.ops.length ≤ (wTil5.tile 5).entry ∧
         (wTil5.tile 5).flight = [] ∧ wv8006.count ≤ wv8006.done + 1)
      ∧ (wTil5.desc (wTil5.tileCtx 5) (wTil5.tile 5).knum = some wv8007)) :=
  by refine ⟨⟨?_, ?_⟩, ?_, ?_, ?_, ⟨⟨?_, ?_⟩, ⟨?_, ?_⟩⟩⟩ <;> decide +kernel

def wv9000 : Kernel :=
  { ctx := 3, num := 0, cls := 0, image := 65536, save := 131072, saveBytes := 512, args := 196608, first := 0, count := 2, dieMask := 15, maxTiles := 0, resume := [], next := 1, held := 1, done := 0, fetched := 0 }
def wv9001 : Image :=
  { addr := 65536, ctx := 3, tag := 0, hdr := 0, ops := [1180591620992289210375], wins := [], tabs := [] }
def wv9002 : List Byte := (List.replicate 144 0x00#8 ++ [0x01#8, 0x00#8, 0x00#8, 0x00#8, 0xff#8, 0xff#8, 0xff#8,
  0xff#8] ++ List.replicate 104 0x00#8)
def wv9003 : List Byte := ([0x63#8] ++ List.replicate 63 0x00#8)
/-- Hypotheses of the clauses 1.1; 1.2; 2.1.1; 2.1.2; 2.2; 2.3 of `Obligations.LoopsReturnAndLeapsSave`. -/
theorem witness_LoopsReturnAndLeapsSave :
    ((5 < 128 ∧ 5 < wLoo0.tiles.length ∧ wLoo0.nextEntry 5 = some 1701411834604692322076133008184495309574 ∧ opcOf
         1701411834604692322076133008184495309574 = 6 ∧ (wLoo0.tile 5).unitReady
         1701411834604692322076133008184495309574 = true ∧ (wLoo0.tile 5).loops.length = 4 ∧ (wLoo0.tile
         5).args.length = 16 ∧ (wLoo0.tile 5).loops.getD (loopCtr 1701411834604692322076133008184495309574) 0 + 1 <
         loopCount 1701411834604692322076133008184495309574)) ∧
    ((5 < 128 ∧ 5 < wLoo1.tiles.length ∧ wLoo1.nextEntry 5 = some 1701411834604692322076133008184495309574 ∧ opcOf
         1701411834604692322076133008184495309574 = 6 ∧ (wLoo1.tile 5).unitReady
         1701411834604692322076133008184495309574 = true ∧ (wLoo1.tile 5).loops.length = 4 ∧ (wLoo1.tile
         5).args.length = 16 ∧ loopCount 1701411834604692322076133008184495309574 ≤ (wLoo1.tile 5).loops.getD (loopCtr
         1701411834604692322076133008184495309574) 0 + 1)) ∧
    ((5 < 128 ∧ wLoo2.tiles.length = 128 ∧ wLoo2.nextEntry 5 = some 1180591620992289210375 ∧ opcOf
         1180591620992289210375 = 7 ∧ (wLoo2.tile 5).flight = [] ∧ wLoo2.undrained 5 = false ∧ liveOk (liveRange
         (wLoo2.tile 5) 1180591620992289210375) = true ∧ (wLoo2.tile 5).req = none)
      ∧ (wLoo2.halted = false)) ∧
    ((5 < 128 ∧ wLoo3.tiles.length = 128 ∧ wLoo3.nextEntry 5 = some 1180591620992289210375 ∧ opcOf
         1180591620992289210375 = 7 ∧ (wLoo3.tile 5).flight = [] ∧ wLoo3.undrained 5 = false ∧ liveOk (liveRange
         (wLoo3.tile 5) 1180591620992289210375) = true ∧ ((wLoo3.tile 5).req.isSome = true ∨ wLoo3.halted = true))) ∧
    ((5 < 128 ∧ wLoo4.tiles.length = 128 ∧ wLoo4.tileState 5 = tsLEAP_SAVE ∧ wLoo4.kernel (wLoo4.tileCtx 5)
         (wLoo4.tile 5).knum = some wv9000 ∧ wLoo4.sramBad 5
         [{ lo := (wLoo4.tile 5).leapOff, hi := (wLoo4.tile 5).leapOff + (wLoo4.tile 5).leapLen }] [] = false ∧
         wLoo4.storable (wv9000.save + wLoo4.tileSlice 5 * wv9000.saveBytes) (savedHead (wLoo4.tile 5) ++
         wLoo4.sramRead 5 (wLoo4.tile 5).leapOff (wLoo4.tile 5).leapLen).length ∧ wLoo4.engineErr (wLoo4.tileCtx 5)
         Want.wr (wv9000.save + wLoo4.tileSlice 5 * wv9000.saveBytes) (savedHead (wLoo4.tile 5) ++ wLoo4.sramRead 5
         (wLoo4.tile 5).leapOff (wLoo4.tile 5).leapLen).length = none)) ∧
    ((5 < 128 ∧ wLoo5.tiles.length = 128 ∧ wLoo5.tileState 5 = tsLEAP_RESTORE ∧ wLoo5.kernel (wLoo5.tileCtx 5)
         (wLoo5.tile 5).knum = some wv9000 ∧ (wLoo5.tile 5).image = some wv9001 ∧ wLoo5.engRead (wLoo5.tileCtx 5)
         (wv9000.save + wLoo5.tileSlice 5 * wv9000.saveBytes) 256 = Got.ok wv9002 ∧ restoreOk wv9001 (leNat wv9002) =
         true ∧ liveOk (liveRange (restoreHead (wLoo5.tile 5) (leNat wv9002)) (wv9001.ops.getD (bytesOf (leNat wv9002)
         144 2 - 1) 0)) = true)
      ∧ (wLoo5.section (wLoo5.tileCtx 5) (wv9000.save + wLoo5.tileSlice 5 * wv9000.saveBytes + 256) (liveRange
         (restoreHead (wLoo5.tile 5) (leNat wv9002)) (wv9001.ops.getD (bytesOf (leNat wv9002) 144 2 - 1) 0)).2 =
         Got.ok wv9003)) :=
  by refine ⟨?_, ?_, ⟨?_, ?_⟩, ?_, ⟨?_, ⟨?_, ?_⟩⟩⟩ <;> decide +kernel

/-! ### tens -/

def eLOAD (lay mf sf : Nat) : Nat := fields [(16, lay), (32, mf), (36, sf), (64, 0x40000), (96, 0x100), (128, 1), (144, 1), (160, 4)]
def eSTORE (lay mf sf : Nat) : Nat := eLOAD lay mf sf + 1
def wTen0 : State := put (runs5 [eLOAD 3 0 0] id) 0x40000 [1, 2, 3, 4]
def wTen1 : State := put (runs5 [eLOAD 0 0 13] id) 0x40000 [1, 2, 3, 0xFF]
def wTen2 : State := sram (runs5 [eSTORE 3 0 0] id) 0x100 [1, 2, 3, 4]
def wTen3 : State := sram (runs5 [eSTORE 0 13 0] id) 0x100 [1, 2, 3, 0xFF]
def eMM (fl : List (Nat × Nat)) : Nat := 2 + fields ([(96, 0x200), (192, 2), (224, 1), (240, 1)] ++ fl)
def eMMd : Nat := eMM [(51, 1), (128, 0x400), (40, 13)]
def eSIG (fl : List (Nat × Nat)) : Nat := 8 + fields ([(32, 3), (64, 0x100)] ++ fl)
def wMat0 : State := sram (sram (runs5 [eMM []] id) 0 [5]) 0x200 [0xFF]
def wMat1 : State := sram (sram (runs5 [eMMd] id) 0 [5]) 0x200 [0xFF]
def wMat2 : State := sram (runs5 [eSIG [(16, 1)]] id) 0x100 [1, 2, 3]
def wMat3 : State := sram (runs5 [eSIG [(17, 1), (96, 0x40000)]] id) 0x100 [1, 2, 3]

def wv10000 : MemForm :=
  { layout := 3, fmt := Sys2Proof.Machine.Fmt.int8, base := 262144, c := 1, h := 1, w := 4, rp := 0, pp := 0 }
/-- Hypotheses of the clauses 1; 2 of `Obligations.LoadAndStoreMoveTensors`. -/
theorem witness_LoadAndStoreMoveTensors :
    ((memForm (wTen0.tile 5) 5846028850409092590641233769401728216880954671104 = some (wv10000, Fmt.int8) ∧ lsCheck
         wv10000 Fmt.int8 (sramForm (wTen0.tile 5) 5846028850409092590641233769401728216880954671104 wv10000 Fmt.int8)
         = none ∧ opcOf 5846028850409092590641233769401728216880954671104 = 0 ∧ wTen0.mayIssue 5
         5846028850409092590641233769401728216880954671104 [] [(sramForm (wTen0.tile 5)
         5846028850409092590641233769401728216880954671104 wv10000 Fmt.int8).span] [] (sramForm (wTen0.tile 5)
         5846028850409092590641233769401728216880954671104 wv10000 Fmt.int8).bytes [wv10000.span] [] ∧ wTen0.rangesErr
         (wTen0.tileCtx 5) Want.rd wv10000.ranges = none ∧ wTen0.rangesPoison wv10000.ranges = false)) ∧
    ((memForm (wTen2.tile 5) 5846028850409092590641233769401728216880954671105 = some (wv10000, Fmt.int8) ∧ lsCheck
         wv10000 Fmt.int8 (sramForm (wTen2.tile 5) 5846028850409092590641233769401728216880954671105 wv10000 Fmt.int8)
         = none ∧ opcOf 5846028850409092590641233769401728216880954671105 = 1 ∧ wTen2.mayIssue 5
         5846028850409092590641233769401728216880954671105 [(sramForm (wTen2.tile 5)
         5846028850409092590641233769401728216880954671105 wv10000 Fmt.int8).span] [] (sramForm (wTen2.tile 5)
         5846028850409092590641233769401728216880954671105 wv10000 Fmt.int8).bytes [] [] [wv10000.span] ∧
         wTen2.rangesErr (wTen2.tileCtx 5) Want.wr wv10000.ranges = none ∧ (∀ r ∈ wv10000.ranges, r.1 + r.2 ≤
         wTen2.hbmBytes ∧ r.1 + r.2 ≤ 51539607552 ∧ wTen2.alive r.1 r.2))) :=
  by refine ⟨?_, ?_⟩ <;> decide +kernel

/-- Hypotheses of the clauses 1.1; 1.2; 2.1; 2.2 of `Obligations.MatmulAccumulatesAndSigSigns`. -/
theorem witness_MatmulAccumulatesAndSigSigns :
    ((opcOf (eMM []) = 2 ∧ arrayFmts (eMM []) = some (Fmt.int8, Fmt.int8, Fmt.int8, Fmt.int8) ∧ shapeMN (ef (eMM []) 6
         1 0) = some (64, 64) ∧ 1 ≤ bits (eMM []) 215 192)
      ∧ (1 ≤ bits (eMM []) 232 224 ∧ bits (eMM []) 232 224 ≤ 64 ∧ 1 ≤ bits (eMM []) 248 240 ∧ bits (eMM []) 248 240 ≤ 64)
      ∧ (UnusedZero (eMM []) (arrayForm (wMat0.tile 5) (eMM []) 64 Fmt.int8 Fmt.int8) ∧ (wMat0.tile 5).sramOp (ef (eMM
         []) 1 3 0) (bits (eMM []) 84 64) % 64 = 0 ∧ (wMat0.tile 5).sramOp (ef (eMM []) 1 7 4) (bits (eMM []) 116 96)
         % 64 = 0 ∧ (planarSpan ((wMat0.tile 5).sramOp (ef (eMM []) 1 3 0) (bits (eMM []) 84 64)) (planePitch (bits
         (eMM []) 95 85) (packedBytes Fmt.int8.bits 64)) (bits (eMM []) 215 192) Fmt.int8 (bits (eMM []) 232 224)
         64).lineEnd.hi ≤ sramBytes)
      ∧ ((planarSpan ((wMat0.tile 5).sramOp (ef (eMM []) 1 7 4) (bits (eMM []) 116 96)) (planePitch (bits (eMM []) 127
         117) (packedBytes Fmt.int8.bits 64)) (bits (eMM []) 215 192) Fmt.int8 (bits (eMM []) 248 240) 64).lineEnd.hi
         ≤ sramBytes ∧ ((arrayForm (wMat0.tile 5) (eMM []) 64 Fmt.int8 Fmt.int8).drain = true → (arrayForm (wMat0.tile
         5) (eMM []) 64 Fmt.int8 Fmt.int8).coff % 64 = 0 ∧ ((arrayForm (wMat0.tile 5) (eMM []) 64 Fmt.int8
         Fmt.int8).cSpan (bits (eMM []) 232 224) (bits (eMM []) 248 240)).hi ≤ sramBytes) ∧ ((arrayForm (wMat0.tile 5)
         (eMM []) 64 Fmt.int8 Fmt.int8).startEn = true → (arrayForm (wMat0.tile 5) (eMM []) 64 Fmt.int8 Fmt.int8).soff
         % 64 = 0 ∧ ((arrayForm (wMat0.tile 5) (eMM []) 64 Fmt.int8 Fmt.int8).sSpan (bits (eMM []) 232 224) (bits (eMM
         []) 248 240)).hi ≤ sramBytes) ∧ ArrayLegal (wMat0.tile 5) (wMat0.undrained 5) (ef (eMM []) 6 1 0) (bits (eMM
         []) 232 224) (bits (eMM []) 248 240) (bits (eMM []) 215 192) Fmt.int8 Fmt.int8 (arrayForm (wMat0.tile 5) (eMM
         []) 64 Fmt.int8 Fmt.int8))
      ∧ ((wMat0.mayIssue 5 (eMM []) ([(planarSpan ((wMat0.tile 5).sramOp (ef (eMM []) 1 3 0) (bits (eMM []) 84 64))
         (planePitch (bits (eMM []) 95 85) (packedBytes Fmt.int8.bits 64)) (bits (eMM []) 215 192) Fmt.int8 (bits (eMM
         []) 232 224) 64).lineEnd, (planarSpan ((wMat0.tile 5).sramOp (ef (eMM []) 1 7 4) (bits (eMM []) 116 96))
         (planePitch (bits (eMM []) 127 117) (packedBytes Fmt.int8.bits 64)) (bits (eMM []) 215 192) Fmt.int8 (bits
         (eMM []) 248 240) 64).lineEnd] ++ if (arrayForm (wMat0.tile 5) (eMM []) 64 Fmt.int8 Fmt.int8).startEn = true
         then [(arrayForm (wMat0.tile 5) (eMM []) 64 Fmt.int8 Fmt.int8).sSpan (bits (eMM []) 232 224) (bits (eMM [])
         248 240)] else []) (if (arrayForm (wMat0.tile 5) (eMM []) 64 Fmt.int8 Fmt.int8).drain = true then [(arrayForm
         (wMat0.tile 5) (eMM []) 64 Fmt.int8 Fmt.int8).cSpan (bits (eMM []) 232 224) (bits (eMM []) 248 240)] else [])
         (planarRanges ((wMat0.tile 5).sramOp (ef (eMM []) 1 3 0) (bits (eMM []) 84 64)) (planePitch (bits (eMM []) 95
         85) (packedBytes Fmt.int8.bits 64)) (bits (eMM []) 215 192) Fmt.int8 (bits (eMM []) 232 224) 64 ++
         planarRanges ((wMat0.tile 5).sramOp (ef (eMM []) 1 7 4) (bits (eMM []) 116 96)) (planePitch (bits (eMM [])
         127 117) (packedBytes Fmt.int8.bits 64)) (bits (eMM []) 215 192) Fmt.int8 (bits (eMM []) 248 240) 64 ++
         (arrayForm (wMat0.tile 5) (eMM []) 64 Fmt.int8 Fmt.int8).sBytes (bits (eMM []) 232 224) (bits (eMM []) 248
         240)) ((arrayForm (wMat0.tile 5) (eMM []) 64 Fmt.int8 Fmt.int8).cBytes (bits (eMM []) 232 224) (bits (eMM [])
         248 240)) [] []) ∧ (arrayForm (wMat0.tile 5) (eMM []) 64 Fmt.int8 Fmt.int8).drain = false)) ∧
    ((opcOf eMMd = 2 ∧ arrayFmts eMMd = some (Fmt.int8, Fmt.int8, Fmt.fp32, Fmt.int8) ∧ shapeMN (ef eMMd 6 1 0) = some
         (64, 64) ∧ 1 ≤ bits eMMd 215 192)
      ∧ (1 ≤ bits eMMd 232 224 ∧ bits eMMd 232 224 ≤ 64 ∧ 1 ≤ bits eMMd 248 240 ∧ bits eMMd 248 240 ≤ 64)
      ∧ (UnusedZero eMMd (arrayForm (wMat1.tile 5) eMMd 64 Fmt.fp32 Fmt.int8) ∧ (wMat1.tile 5).sramOp (ef eMMd 1 3 0)
         (bits eMMd 84 64) % 64 = 0 ∧ (wMat1.tile 5).sramOp (ef eMMd 1 7 4) (bits eMMd 116 96) % 64 = 0 ∧ (planarSpan
         ((wMat1.tile 5).sramOp (ef eMMd 1 3 0) (bits eMMd 84 64)) (planePitch (bits eMMd 95 85) (packedBytes
         Fmt.int8.bits 64)) (bits eMMd 215 192) Fmt.int8 (bits eMMd 232 224) 64).lineEnd.hi ≤ sramBytes)
      ∧ ((planarSpan ((wMat1.tile 5).sramOp (ef eMMd 1 7 4) (bits eMMd 116 96)) (planePitch (bits eMMd 127 117)
         (packedBytes Fmt.int8.bits 64)) (bits eMMd 215 192) Fmt.int8 (bits eMMd 248 240) 64).lineEnd.hi ≤ sramBytes ∧
         ((arrayForm (wMat1.tile 5) eMMd 64 Fmt.fp32 Fmt.int8).drain = true → (arrayForm (wMat1.tile 5) eMMd 64
         Fmt.fp32 Fmt.int8).coff % 64 = 0 ∧ ((arrayForm (wMat1.tile 5) eMMd 64 Fmt.fp32 Fmt.int8).cSpan (bits eMMd 232
         224) (bits eMMd 248 240)).hi ≤ sramBytes) ∧ ((arrayForm (wMat1.tile 5) eMMd 64 Fmt.fp32 Fmt.int8).startEn =
         true → (arrayForm (wMat1.tile 5) eMMd 64 Fmt.fp32 Fmt.int8).soff % 64 = 0 ∧ ((arrayForm (wMat1.tile 5) eMMd
         64 Fmt.fp32 Fmt.int8).sSpan (bits eMMd 232 224) (bits eMMd 248 240)).hi ≤ sramBytes) ∧ ArrayLegal (wMat1.tile
         5) (wMat1.undrained 5) (ef eMMd 6 1 0) (bits eMMd 232 224) (bits eMMd 248 240) (bits eMMd 215 192) Fmt.int8
         Fmt.int8 (arrayForm (wMat1.tile 5) eMMd 64 Fmt.fp32 Fmt.int8))
      ∧ ((wMat1.mayIssue 5 eMMd ([(planarSpan ((wMat1.tile 5).sramOp (ef eMMd 1 3 0) (bits eMMd 84 64)) (planePitch (bits
         eMMd 95 85) (packedBytes Fmt.int8.bits 64)) (bits eMMd 215 192) Fmt.int8 (bits eMMd 232 224) 64).lineEnd,
         (planarSpan ((wMat1.tile 5).sramOp (ef eMMd 1 7 4) (bits eMMd 116 96)) (planePitch (bits eMMd 127 117)
         (packedBytes Fmt.int8.bits 64)) (bits eMMd 215 192) Fmt.int8 (bits eMMd 248 240) 64).lineEnd] ++ if
         (arrayForm (wMat1.tile 5) eMMd 64 Fmt.fp32 Fmt.int8).startEn = true then [(arrayForm (wMat1.tile 5) eMMd 64
         Fmt.fp32 Fmt.int8).sSpan (bits eMMd 232 224) (bits eMMd 248 240)] else []) (if (arrayForm (wMat1.tile 5) eMMd
         64 Fmt.fp32 Fmt.int8).drain = true then [(arrayForm (wMat1.tile 5) eMMd 64 Fmt.fp32 Fmt.int8).cSpan (bits
         eMMd 232 224) (bits eMMd 248 240)] else []) (planarRanges ((wMat1.tile 5).sramOp (ef eMMd 1 3 0) (bits eMMd
         84 64)) (planePitch (bits eMMd 95 85) (packedBytes Fmt.int8.bits 64)) (bits eMMd 215 192) Fmt.int8 (bits eMMd
         232 224) 64 ++ planarRanges ((wMat1.tile 5).sramOp (ef eMMd 1 7 4) (bits eMMd 116 96)) (planePitch (bits eMMd
         127 117) (packedBytes Fmt.int8.bits 64)) (bits eMMd 215 192) Fmt.int8 (bits eMMd 248 240) 64 ++ (arrayForm
         (wMat1.tile 5) eMMd 64 Fmt.fp32 Fmt.int8).sBytes (bits eMMd 232 224) (bits eMMd 248 240)) ((arrayForm
         (wMat1.tile 5) eMMd 64 Fmt.fp32 Fmt.int8).cBytes (bits eMMd 232 224) (bits eMMd 248 240)) [] []) ∧ (arrayForm
         (wMat1.tile 5) eMMd 64 Fmt.fp32 Fmt.int8).drain = true)) ∧
    ((opcOf (eSIG [(16, 1)]) = 8 ∧ bits (eSIG [(16, 1)]) 53 32 ≤ sramBytes ∧ (0 < bits (eSIG [(16, 1)]) 53 32 →
         (wMat2.tile 5).sramOp (ef (eSIG [(16, 1)]) 1 3 0) (bits (eSIG [(16, 1)]) 84 64) + bits (eSIG [(16, 1)]) 53 32
         ≤ sramBytes) ∧ (eSIG [(16, 1)]).testBit 17 = false)
      ∧ ((wMat2.mayIssue 5 (eSIG [(16, 1)]) (if bits (eSIG [(16, 1)]) 53 32 = 0 then [] else
         [{ lo := (wMat2.tile 5).sramOp (ef (eSIG [(16, 1)]) 1 3 0) (bits (eSIG [(16, 1)]) 84 64), hi := (wMat2.tile 5).sramOp (ef (eSIG [(16, 1)]) 1 3 0) (bits (eSIG [(16, 1)]) 84 64) + bits (eSIG [(16, 1)]) 53 32 }])
         [] (if bits (eSIG [(16, 1)]) 53 32 = 0 then [] else
         [{ lo := (wMat2.tile 5).sramOp (ef (eSIG [(16, 1)]) 1 3 0) (bits (eSIG [(16, 1)]) 84 64), hi := (wMat2.tile 5).sramOp (ef (eSIG [(16, 1)]) 1 3 0) (bits (eSIG [(16, 1)]) 84 64) + bits (eSIG [(16, 1)]) 53 32 }])
         [] [] []))) ∧
    ((opcOf (eSIG [(17, 1), (96, 262144)]) = 8 ∧ bits (eSIG [(17, 1), (96, 262144)]) 53 32 ≤ sramBytes ∧ (0 < bits
         (eSIG [(17, 1), (96, 262144)]) 53 32 → (wMat3.tile 5).sramOp (ef (eSIG [(17, 1), (96, 262144)]) 1 3 0) (bits
         (eSIG [(17, 1), (96, 262144)]) 84 64) + bits (eSIG [(17, 1), (96, 262144)]) 53 32 ≤ sramBytes) ∧ (eSIG [(17,
         1), (96, 262144)]).testBit 17 = true)
      ∧ ((wMat3.mayIssue 5 (eSIG [(17, 1), (96, 262144)]) (if bits (eSIG [(17, 1), (96, 262144)]) 53 32 = 0 then [] else
         [{ lo := (wMat3.tile 5).sramOp (ef (eSIG [(17, 1), (96, 262144)]) 1 3 0) (bits (eSIG [(17, 1), (96, 262144)]) 84 64), hi := (wMat3.tile 5).sramOp (ef (eSIG [(17, 1), (96, 262144)]) 1 3 0) (bits (eSIG [(17, 1), (96, 262144)]) 84 64) + bits (eSIG [(17, 1), (96, 262144)]) 53 32 }])
         [] (if bits (eSIG [(17, 1), (96, 262144)]) 53 32 = 0 then [] else
         [{ lo := (wMat3.tile 5).sramOp (ef (eSIG [(17, 1), (96, 262144)]) 1 3 0) (bits (eSIG [(17, 1), (96, 262144)]) 84 64), hi := (wMat3.tile 5).sramOp (ef (eSIG [(17, 1), (96, 262144)]) 1 3 0) (bits (eSIG [(17, 1), (96, 262144)]) 84 64) + bits (eSIG [(17, 1), (96, 262144)]) 53 32 }])
         [] []
         [{ lo := (wMat3.tile 5).memOp (ef (eSIG [(17, 1), (96, 262144)]) 1 7 4) (s32Of (eSIG [(17, 1), (96, 262144)]) 12), hi := (wMat3.tile 5).memOp (ef (eSIG [(17, 1), (96, 262144)]) 1 7 4) (s32Of (eSIG [(17, 1), (96, 262144)]) 12) + 16 }])
         ∧ wMat3.storable ((wMat3.tile 5).memOp (ef (eSIG [(17, 1), (96, 262144)]) 1 7 4) (s32Of (eSIG [(17, 1), (96,
         262144)]) 12)) 16 ∧ wMat3.engineErr (wMat3.tileCtx 5) Want.wr ((wMat3.tile 5).memOp (ef (eSIG [(17, 1), (96,
         262144)]) 1 7 4) (s32Of (eSIG [(17, 1), (96, 262144)]) 12)) 16 = none)) :=
  by refine ⟨⟨?_, ?_, ?_, ?_, ?_⟩, ⟨?_, ?_, ?_, ?_, ?_⟩, ⟨?_, ?_⟩, ⟨?_, ?_⟩⟩ <;> decide +kernel

/-! ### conv -/

def win0 : Nat := fields [(0, 2), (16, 2), (32, 1), (48, 1), (64, 1), (80, 2), (96, 2)]
def winG : Nat := fields [(0, 2), (16, 2), (32, 1), (48, 1), (64, 1)]
def eCONV (mode : Nat) (fl : List (Nat × Nat)) : Nat := 3 + fields ([(28, mode), (224, 1), (240, 1)] ++ fl)
def withWin (w : Nat) (s : State) : State := s.modTile 5 (fun x => { x with image := x.image.map (fun m => { m with wins := [w] }) })
def eC0 : Nat := eCONV 0 [(96, 0x200)]
def eC0d : Nat := eCONV 0 [(96, 0x200), (51, 1), (128, 0x400), (40, 13)]
def eC1 : Nat := eCONV 1 [(128, 0x400), (40, 13)]
def eC2 : Nat := eCONV 2 [(128, 0x400), (40, 13)]
def eC3 : Nat := eCONV 3 [(128, 0x400), (40, 13)]
def eC4 : Nat := eCONV 4 [(128, 0x400), (40, 13), (96, 0x200), (32, 0)]
def wCon0 : State := withWin win0 (sram (sram (runs5 [eC0] id) 0 [1, 2, 3, 4]) 0x200 [2])
def wCon0d : State := withWin win0 (sram (sram (runs5 [eC0d] id) 0 [1, 2, 3, 4]) 0x200 [2])
def wCon1 : State := withWin win0 (sram (runs5 [eC1] id) 0 [1, 2, 3, 4])
def wCon2 : State := withWin win0 (sram (runs5 [eC2] id) 0 [1, 2, 3, 4])
def wCon3 : State := withWin win0 (sram (runs5 [eC3] id) 0 [1, 2, 3, 4])
def wCon4 : State := withWin winG (sram (sram (runs5 [eC4] id) 0 [1, 2, 3, 4]) 0x200 (leBytes 4 0x3F000000))
def cfw (s : State) (e : Nat) (drn : Fmt) (w : Nat) : ConvForm := convForm (s.tile 5) e .int8 .int8 drn .int8 w 64

def wv12000 : Image :=
  { addr := 65536, ctx := 3, tag := 0, hdr := 0, ops := [1766874024725051480223092167758005535458198098839248802034935199405441027], wins := [win0], tabs := [] }
def wv12001 : Image :=
  { addr := 65536, ctx := 3, tag := 0, hdr := 0, ops := [1766874024725051480223092167758353984601884575006627994292111729470996483], wins := [win0], tabs := [] }
def wv12002 : Image :=
  { addr := 65536, ctx := 3, tag := 0, hdr := 0, ops := [1766874024725051480223092167758353984601884575006627994292111729739431939], wins := [win0], tabs := [] }
def wv12003 : Image :=
  { addr := 65536, ctx := 3, tag := 0, hdr := 0, ops := [1766874024725051480223092167758353984601884575006627994292111730007867395], wins := [win0], tabs := [] }
def wv12004 : Image :=
  { addr := 65536, ctx := 3, tag := 0, hdr := 0, ops := [1766874024725051480223092167758353984601925139825835297632959624778874883], wins := [winG], tabs := [] }
/-- Hypotheses of the clauses 1; 2.1.1; 2.1.2; 2.1.3; 2.2 of `Obligations.ConvModesWriteTheirPlanes`. -/
theorem witness_ConvModesWriteTheirPlanes :
    ((opcOf eC0 = 3 ∧ arrayFmts eC0 = some (Fmt.int8, Fmt.int8, Fmt.int8, Fmt.int8) ∧ shapeMN (ef eC0 6 1 0) = some
         (64, 64) ∧ (wCon0.tile 5).image = some wv12000)
      ∧ (wv12000.wins[bits eC0 27 24]? = some win0 ∧ 1 ≤ wIH win0 ∧ 1 ≤ wIW win0 ∧ (cfw wCon0 eC0 .int8 win0).p0 + (cfw
         wCon0 eC0 .int8 win0).npos ≤ wOH win0 * wOW win0)
      ∧ (bits eC0 30 28 = 0 ∧ (1 = if Fmt.int8 ∈ exactFmts ∧ Fmt.int8 ∈ exactFmts then wCI win0 else 32 * ceilDiv (wCI
         win0) 32) ∧ 4 = wKH win0 * wKW win0 * 1 ∧ 1 ≤ wCI win0)
      ∧ (1 ≤ wKH win0 ∧ 1 ≤ wKW win0 ∧ 1 ≤ (cfw wCon0 eC0 .int8 win0).npos ∧ (cfw wCon0 eC0 .int8 win0).npos ≤ 64)
      ∧ (1 ≤ (cfw wCon0 eC0 .int8 win0).nco ∧ (cfw wCon0 eC0 .int8 win0).nco ≤ 64 ∧ 4 ≤ 16777215 ∧ UnusedZero eC0
         (arrayForm (wCon0.tile 5) eC0 64 Fmt.int8 Fmt.int8))
      ∧ ((cfw wCon0 eC0 .int8 win0).xoff % 64 = 0 ∧ (cfw wCon0 eC0 .int8 win0).woff % 64 = 0 ∧ ((arrayForm (wCon0.tile 5)
         eC0 64 Fmt.int8 Fmt.int8).drain = true → (arrayForm (wCon0.tile 5) eC0 64 Fmt.int8 Fmt.int8).coff % 64 = 0) ∧
         ((arrayForm (wCon0.tile 5) eC0 64 Fmt.int8 Fmt.int8).startEn = true → (arrayForm (wCon0.tile 5) eC0 64
         Fmt.int8 Fmt.int8).soff % 64 = 0))
      ∧ ((∀ sp ∈ ([planarSpan (cfw wCon0 eC0 .int8 win0).xoff (cfw wCon0 eC0 .int8 win0).xp (wCI win0) Fmt.int8 (wIH win0
         * wIW win0) (wIH win0 * wIW win0), (planarSpan (cfw wCon0 eC0 .int8 win0).woff (cfw wCon0 eC0 .int8 win0).wp
         4 Fmt.int8 (cfw wCon0 eC0 .int8 win0).nco (cfw wCon0 eC0 .int8 win0).nco).lineEnd] ++ if (arrayForm
         (wCon0.tile 5) eC0 64 Fmt.int8 Fmt.int8).startEn = true then [(arrayForm (wCon0.tile 5) eC0 64 Fmt.int8
         Fmt.int8).sSpan (cfw wCon0 eC0 .int8 win0).npos (cfw wCon0 eC0 .int8 win0).nco] else []) ++ if (arrayForm
         (wCon0.tile 5) eC0 64 Fmt.int8 Fmt.int8).drain = true then [(arrayForm (wCon0.tile 5) eC0 64 Fmt.int8
         Fmt.int8).cSpan (cfw wCon0 eC0 .int8 win0).npos (cfw wCon0 eC0 .int8 win0).nco] else [], sp.hi ≤ sramBytes) ∧
         (∀ c ∈ if (arrayForm (wCon0.tile 5) eC0 64 Fmt.int8 Fmt.int8).drain = true then [(arrayForm (wCon0.tile 5)
         eC0 64 Fmt.int8 Fmt.int8).cSpan (cfw wCon0 eC0 .int8 win0).npos (cfw wCon0 eC0 .int8 win0).nco] else [], ∀ sp
         ∈ [planarSpan (cfw wCon0 eC0 .int8 win0).xoff (cfw wCon0 eC0 .int8 win0).xp (wCI win0) Fmt.int8 (wIH win0 *
         wIW win0) (wIH win0 * wIW win0), (planarSpan (cfw wCon0 eC0 .int8 win0).woff (cfw wCon0 eC0 .int8 win0).wp 4
         Fmt.int8 (cfw wCon0 eC0 .int8 win0).nco (cfw wCon0 eC0 .int8 win0).nco).lineEnd] ++ if (arrayForm (wCon0.tile
         5) eC0 64 Fmt.int8 Fmt.int8).startEn = true then [(arrayForm (wCon0.tile 5) eC0 64 Fmt.int8 Fmt.int8).sSpan
         (cfw wCon0 eC0 .int8 win0).npos (cfw wCon0 eC0 .int8 win0).nco] else [], overlap c sp = false) ∧ wFILL win0 <
         2 ^ Fmt.int8.bits ∧ ArrayLegal (wCon0.tile 5) (wCon0.undrained 5) (ef eC0 6 1 0) (cfw wCon0 eC0 .int8
         win0).npos (cfw wCon0 eC0 .int8 win0).nco 4 Fmt.int8 Fmt.int8 (arrayForm (wCon0.tile 5) eC0 64 Fmt.int8
         Fmt.int8))
      ∧ ((wCon0.mayIssue 5 eC0 ([planarSpan (cfw wCon0 eC0 .int8 win0).xoff (cfw wCon0 eC0 .int8 win0).xp (wCI win0)
         Fmt.int8 (wIH win0 * wIW win0) (wIH win0 * wIW win0), (planarSpan (cfw wCon0 eC0 .int8 win0).woff (cfw wCon0
         eC0 .int8 win0).wp 4 Fmt.int8 (cfw wCon0 eC0 .int8 win0).nco (cfw wCon0 eC0 .int8 win0).nco).lineEnd] ++ if
         (arrayForm (wCon0.tile 5) eC0 64 Fmt.int8 Fmt.int8).startEn = true then [(arrayForm (wCon0.tile 5) eC0 64
         Fmt.int8 Fmt.int8).sSpan (cfw wCon0 eC0 .int8 win0).npos (cfw wCon0 eC0 .int8 win0).nco] else []) (if
         (arrayForm (wCon0.tile 5) eC0 64 Fmt.int8 Fmt.int8).drain = true then [(arrayForm (wCon0.tile 5) eC0 64
         Fmt.int8 Fmt.int8).cSpan (cfw wCon0 eC0 .int8 win0).npos (cfw wCon0 eC0 .int8 win0).nco] else []) ((cfw wCon0
         eC0 .int8 win0).elems (wCI win0) (cfw wCon0 eC0 .int8 win0).taps ++ (cfw wCon0 eC0 .int8 win0).weights 1 4 ++
         (arrayForm (wCon0.tile 5) eC0 64 Fmt.int8 Fmt.int8).sBytes (cfw wCon0 eC0 .int8 win0).npos (cfw wCon0 eC0
         .int8 win0).nco) ((arrayForm (wCon0.tile 5) eC0 64 Fmt.int8 Fmt.int8).cBytes (cfw wCon0 eC0 .int8 win0).npos
         (cfw wCon0 eC0 .int8 win0).nco) [] []))) ∧
    ((opcOf eC1 = 3 ∧ arrayFmts eC1 = some (Fmt.int8, Fmt.int8, Fmt.fp32, Fmt.int8) ∧ shapeMN (ef eC1 6 1 0) = some
         (64, 64) ∧ (wCon1.tile 5).image = some wv12001)
      ∧ (wv12001.wins[bits eC1 27 24]? = some win0 ∧ 1 ≤ wIH win0 ∧ 1 ≤ wIW win0 ∧ (cfw wCon1 eC1 .fp32 win0).p0 + (cfw
         wCon1 eC1 .fp32 win0).npos ≤ wOH win0 * wOW win0)
      ∧ (64 = (convOut (wCon1.tile 5) eC1 (cfw wCon1 eC1 .fp32 win0)).2 ∧ packedBytes Fmt.fp32.bits (cfw wCon1 eC1 .fp32
         win0).npos ≤ 64 ∧ 1 ≤ wKH win0 ∧ 1 ≤ wKW win0)
      ∧ (ef eC1 1 7 4 = 0 ∧ bits eC1 127 96 = 0 ∧ ConvDirect eC1 (cfw wCon1 eC1 .fp32 win0) (convOut (wCon1.tile 5) eC1
         (cfw wCon1 eC1 .fp32 win0)).1 64 [planarSpan (cfw wCon1 eC1 .fp32 win0).xoff (cfw wCon1 eC1 .fp32 win0).xp
         (cfw wCon1 eC1 .fp32 win0).nco Fmt.int8 (wIH win0 * wIW win0) (wIH win0 * wIW win0)] ∧ wCon1.mayIssue 5 eC1
         [planarSpan (cfw wCon1 eC1 .fp32 win0).xoff (cfw wCon1 eC1 .fp32 win0).xp (cfw wCon1 eC1 .fp32 win0).nco
         Fmt.int8 (wIH win0 * wIW win0) (wIH win0 * wIW win0)] [(planarSpan (convOut (wCon1.tile 5) eC1 (cfw wCon1 eC1
         .fp32 win0)).1 64 (cfw wCon1 eC1 .fp32 win0).nco Fmt.fp32 (cfw wCon1 eC1 .fp32 win0).npos (cfw wCon1 eC1
         .fp32 win0).npos).lineEnd] ((cfw wCon1 eC1 .fp32 win0).elems (cfw wCon1 eC1 .fp32 win0).nco (cfw wCon1 eC1
         .fp32 win0).taps) (planeRanges (convOut (wCon1.tile 5) eC1 (cfw wCon1 eC1 .fp32 win0)).1 64 (cfw wCon1 eC1
         .fp32 win0).nco (packedBytes Fmt.fp32.bits (cfw wCon1 eC1 .fp32 win0).npos)) [] [])
      ∧ (bits eC1 30 28 = 1)) ∧
    ((opcOf eC2 = 3 ∧ arrayFmts eC2 = some (Fmt.int8, Fmt.int8, Fmt.fp32, Fmt.int8) ∧ shapeMN (ef eC2 6 1 0) = some
         (64, 64) ∧ (wCon2.tile 5).image = some wv12002)
      ∧ (wv12002.wins[bits eC2 27 24]? = some win0 ∧ 1 ≤ wIH win0 ∧ 1 ≤ wIW win0 ∧ (cfw wCon2 eC2 .fp32 win0).p0 + (cfw
         wCon2 eC2 .fp32 win0).npos ≤ wOH win0 * wOW win0)
      ∧ (64 = (convOut (wCon2.tile 5) eC2 (cfw wCon2 eC2 .fp32 win0)).2 ∧ packedBytes Fmt.fp32.bits (cfw wCon2 eC2 .fp32
         win0).npos ≤ 64 ∧ 1 ≤ wKH win0 ∧ 1 ≤ wKW win0)
      ∧ (ef eC2 1 7 4 = 0 ∧ bits eC2 127 96 = 0 ∧ ConvDirect eC2 (cfw wCon2 eC2 .fp32 win0) (convOut (wCon2.tile 5) eC2
         (cfw wCon2 eC2 .fp32 win0)).1 64 [planarSpan (cfw wCon2 eC2 .fp32 win0).xoff (cfw wCon2 eC2 .fp32 win0).xp
         (cfw wCon2 eC2 .fp32 win0).nco Fmt.int8 (wIH win0 * wIW win0) (wIH win0 * wIW win0)] ∧ wCon2.mayIssue 5 eC2
         [planarSpan (cfw wCon2 eC2 .fp32 win0).xoff (cfw wCon2 eC2 .fp32 win0).xp (cfw wCon2 eC2 .fp32 win0).nco
         Fmt.int8 (wIH win0 * wIW win0) (wIH win0 * wIW win0)] [(planarSpan (convOut (wCon2.tile 5) eC2 (cfw wCon2 eC2
         .fp32 win0)).1 64 (cfw wCon2 eC2 .fp32 win0).nco Fmt.fp32 (cfw wCon2 eC2 .fp32 win0).npos (cfw wCon2 eC2
         .fp32 win0).npos).lineEnd] ((cfw wCon2 eC2 .fp32 win0).elems (cfw wCon2 eC2 .fp32 win0).nco (cfw wCon2 eC2
         .fp32 win0).taps) (planeRanges (convOut (wCon2.tile 5) eC2 (cfw wCon2 eC2 .fp32 win0)).1 64 (cfw wCon2 eC2
         .fp32 win0).nco (packedBytes Fmt.fp32.bits (cfw wCon2 eC2 .fp32 win0).npos)) [] [])
      ∧ (bits eC2 30 28 = 2)) ∧
    ((opcOf eC3 = 3 ∧ arrayFmts eC3 = some (Fmt.int8, Fmt.int8, Fmt.fp32, Fmt.int8) ∧ shapeMN (ef eC3 6 1 0) = some
         (64, 64) ∧ (wCon3.tile 5).image = some wv12003)
      ∧ (wv12003.wins[bits eC3 27 24]? = some win0 ∧ 1 ≤ wIH win0 ∧ 1 ≤ wIW win0 ∧ (cfw wCon3 eC3 .fp32 win0).p0 + (cfw
         wCon3 eC3 .fp32 win0).npos ≤ wOH win0 * wOW win0)
      ∧ (64 = (convOut (wCon3.tile 5) eC3 (cfw wCon3 eC3 .fp32 win0)).2 ∧ packedBytes Fmt.fp32.bits (cfw wCon3 eC3 .fp32
         win0).npos ≤ 64 ∧ 1 ≤ wKH win0 ∧ 1 ≤ wKW win0)
      ∧ (ef eC3 1 7 4 = 0 ∧ bits eC3 127 96 = 0 ∧ ConvDirect eC3 (cfw wCon3 eC3 .fp32 win0) (convOut (wCon3.tile 5) eC3
         (cfw wCon3 eC3 .fp32 win0)).1 64 [planarSpan (cfw wCon3 eC3 .fp32 win0).xoff (cfw wCon3 eC3 .fp32 win0).xp
         (cfw wCon3 eC3 .fp32 win0).nco Fmt.int8 (wIH win0 * wIW win0) (wIH win0 * wIW win0)] ∧ wCon3.mayIssue 5 eC3
         [planarSpan (cfw wCon3 eC3 .fp32 win0).xoff (cfw wCon3 eC3 .fp32 win0).xp (cfw wCon3 eC3 .fp32 win0).nco
         Fmt.int8 (wIH win0 * wIW win0) (wIH win0 * wIW win0)] [(planarSpan (convOut (wCon3.tile 5) eC3 (cfw wCon3 eC3
         .fp32 win0)).1 64 (cfw wCon3 eC3 .fp32 win0).nco Fmt.fp32 (cfw wCon3 eC3 .fp32 win0).npos (cfw wCon3 eC3
         .fp32 win0).npos).lineEnd] ((cfw wCon3 eC3 .fp32 win0).elems (cfw wCon3 eC3 .fp32 win0).nco (cfw wCon3 eC3
         .fp32 win0).taps) (planeRanges (convOut (wCon3.tile 5) eC3 (cfw wCon3 eC3 .fp32 win0)).1 64 (cfw wCon3 eC3
         .fp32 win0).nco (packedBytes Fmt.fp32.bits (cfw wCon3 eC3 .fp32 win0).npos)) [] [])
      ∧ (bits eC3 30 28 = 3)) ∧
    ((opcOf eC4 = 3 ∧ arrayFmts eC4 = some (Fmt.int8, Fmt.int8, Fmt.fp32, Fmt.int8) ∧ shapeMN (ef eC4 6 1 0) = some
         (64, 64) ∧ (wCon4.tile 5).image = some wv12004)
      ∧ (wv12004.wins[bits eC4 27 24]? = some winG ∧ 1 ≤ wIH winG ∧ 1 ≤ wIW winG ∧ (cfw wCon4 eC4 .fp32 winG).p0 + (cfw
         wCon4 eC4 .fp32 winG).npos ≤ wOH winG * wOW winG)
      ∧ (64 = (convOut (wCon4.tile 5) eC4 (cfw wCon4 eC4 .fp32 winG)).2 ∧ packedBytes Fmt.fp32.bits (cfw wCon4 eC4 .fp32
         winG).npos ≤ 64 ∧ bits eC4 30 28 = 4 ∧ (cfw wCon4 eC4 .fp32 winG).woff % 64 = 0)
      ∧ (-16777216 ≤ wORGY winG ∧ wORGY winG ≤ 16777216 ∧ -16777216 ≤ wORGX winG ∧ wORGX winG ≤ 16777216)
      ∧ (ConvDirect eC4 (cfw wCon4 eC4 .fp32 winG) (convOut (wCon4.tile 5) eC4 (cfw wCon4 eC4 .fp32 winG)).1 64
         [planarSpan (cfw wCon4 eC4 .fp32 winG).xoff (cfw wCon4 eC4 .fp32 winG).xp (cfw wCon4 eC4 .fp32 winG).nco
         Fmt.int8 (wIH winG * wIW winG) (wIH winG * wIW winG), planarSpan (cfw wCon4 eC4 .fp32 winG).woff (cfw wCon4
         eC4 .fp32 winG).wp 2 (gridFmt winG) (cfw wCon4 eC4 .fp32 winG).npos (cfw wCon4 eC4 .fp32 winG).npos] ∧
         wCon4.mayIssue 5 eC4 [planarSpan (cfw wCon4 eC4 .fp32 winG).xoff (cfw wCon4 eC4 .fp32 winG).xp (cfw wCon4 eC4
         .fp32 winG).nco Fmt.int8 (wIH winG * wIW winG) (wIH winG * wIW winG), planarSpan (cfw wCon4 eC4 .fp32
         winG).woff (cfw wCon4 eC4 .fp32 winG).wp 2 (gridFmt winG) (cfw wCon4 eC4 .fp32 winG).npos (cfw wCon4 eC4
         .fp32 winG).npos] [(planarSpan (convOut (wCon4.tile 5) eC4 (cfw wCon4 eC4 .fp32 winG)).1 64 (cfw wCon4 eC4
         .fp32 winG).nco Fmt.fp32 (cfw wCon4 eC4 .fp32 winG).npos (cfw wCon4 eC4 .fp32 winG).npos).lineEnd] ((cfw
         wCon4 eC4 .fp32 winG).elems (cfw wCon4 eC4 .fp32 winG).nco (wCon4.gridTaps 5 (cfw wCon4 eC4 .fp32 winG)) ++
         planeRanges (cfw wCon4 eC4 .fp32 winG).woff (cfw wCon4 eC4 .fp32 winG).wp 2 (packedBytes (gridFmt winG).bits
         (cfw wCon4 eC4 .fp32 winG).npos)) (planeRanges (convOut (wCon4.tile 5) eC4 (cfw wCon4 eC4 .fp32 winG)).1 64
         (cfw wCon4 eC4 .fp32 winG).nco (packedBytes Fmt.fp32.bits (cfw wCon4 eC4 .fp32 winG).npos)) [] [])) :=
  by refine ⟨⟨?_, ?_, ?_, ?_, ⟨?_, ?_, ?_, ?_⟩⟩, ⟨?_, ?_, ?_, ?_, ?_⟩, ⟨?_, ?_, ?_, ?_, ?_⟩, ⟨?_, ?_, ?_, ?_, ?_⟩,
      ⟨?_, ?_, ?_, ?_, ?_⟩⟩ <;> decide +kernel

/-! ### vect -/

/-- A VECT entry on 4 elements: x at 0, y at 0x100, z at 0x200, d at 0x400. -/
def eV (vop xf yf zf df : Nat) (fl : List (Nat × Nat)) : Nat :=
  4 + fields ([(24, vop), (32, xf), (36, yf), (44, zf), (40, df), (96, 0x100), (128, 0x400), (224, 0x200), (160, 4)] ++ fl)
def wVec (e : Nat) : State := sram (sram (sram (runs5 [e] (fun x => x)) 0 [1, 2, 0xFF, 4]) 0x100 [3, 2, 1, 5]) 0x200 [0, 1, 0, 1]
def wVecF (e : Nat) : State := sram (sram (runs5 [e] (fun x => x)) 0 (leBytes 16 0x40800000C000000000000000BF800000)) 0x100 (leBytes 16 0x3F8000003F8000003F8000003F800000)
def withTab (s : State) : State := s.modTile 5 (fun x => { x with image := x.image.map (fun m => { m with tabs := [fields [(32, 0x3F800000)]] }) })
def vf (e : Nat) (v : VSpec) : VForm := (vForm {} e v).getD { xf := .int8, yf := .int8, zf := .int8, df := .int8, yimm := false, ovf := false, xo := 0, yo := 0, dof := 0, zo := 0, n := 0, imm := 0, glen := 0 }
def eVg (vop xf yf zf df : Nat) (fl : List (Nat × Nat)) : Nat := 4 + fields ([(24, vop), (32, xf), (36, yf), (44, zf), (40, df), (96, 0x100), (128, 0x400), (160, 4)] ++ fl)
def eV_copy : Nat := eV 0x0 0 0 0 0 []
def wVec_copy : State := wVec eV_copy
def eV_add : Nat := eV 0x1 0 0 0 0 []
def wVec_add : State := wVec eV_add
def eV_sub : Nat := eV 0x2 0 0 0 0 []
def wVec_sub : State := wVec eV_sub
def eV_mul : Nat := eV 0x3 0 0 0 0 []
def wVec_mul : State := wVec eV_mul
def eV_fma : Nat := eV 0x4 0 0 0 13 []
def wVec_fma : State := wVec eV_fma
def eV_max : Nat := eV 0x5 0 0 0 0 []
def wVec_max : State := wVec eV_max
def eV_min : Nat := eV 0x6 0 0 0 0 []
def wVec_min : State := wVec eV_min
def eV_abs : Nat := eV 0x7 0 0 0 0 []
def wVec_abs : State := wVec eV_abs
def eV_exp : Nat := eV 0xA 0 0 0 13 []
def wVec_exp : State := wVec eV_exp
def eV_rcp : Nat := eV 0xB 0 0 0 13 []
def wVec_rcp : State := wVec eV_rcp
def eV_rsqrt : Nat := eV 0xC 0 0 0 13 []
def wVec_rsqrt : State := wVec eV_rsqrt
def eV_cmp : Nat := eV 0x8 0 0 0 1 [(192, 2)]
def wVec_cmp : State := wVec eV_cmp
def eV_select : Nat := eV 0x9 0 0 1 0 []
def wVec_select : State := wVec eV_select
def eV_act : Nat := eV 0xE 0 0 0 13 []
def wVec_act : State := withTab (wVec eV_act)
def eV_conv : Nat := eV 0xD 0 0 0 13 []
def wVec_conv : State := wVec eV_conv
def eV_convs : Nat := eV 0xD 0 0 0 6 []
def wVec_convs : State := wVec eV_convs
def eV_rsum : Nat := eVg 0x10 0 0 0 14 [(224, 2)]
def wVec_rsum : State := wVec eV_rsum
def eV_rmax : Nat := eVg 0x11 0 0 0 14 [(224, 2)]
def wVec_rmax : State := wVec eV_rmax
def eV_rmin : Nat := eVg 0x12 0 0 0 14 [(224, 2)]
def wVec_rmin : State := wVec eV_rmin
def eV_smx : Nat := eVg 0x13 0 13 0 13 [(224, 2)]
def wVec_smx : State := wVecF eV_smx
def eV_meanvar : Nat := eVg 0x14 0 0 0 13 [(224, 2), (192, 0x3F800000)]
def wVec_meanvar : State := wVec eV_meanvar
def eV_norm : Nat := eVg 0x15 0 13 0 13 [(224, 2)]
def wVec_norm : State := wVecF eV_norm

def wv13000 : Nat := 13803492693581127574875357731451823660322356079861785510837750077587460
def wv13001 : VForm :=
  { xf := Sys2Proof.Machine.Fmt.int8, yf := Sys2Proof.Machine.Fmt.int8, zf := Sys2Proof.Machine.Fmt.int8, df := Sys2Proof.Machine.Fmt.int8, yimm := false, ovf := false, xo := 0, yo := 256, dof := 1024, zo := 512, n := 4, imm := 0, glen := 1 }
def wv13002 : Nat := 13803492693581127574875357731451823660322356079861785510837750094364676
def wv13003 : Nat := 13803492693581127574875357731451823660322356079861785510837750111141892
def wv13004 : Nat := 13803492693581127574875357731451823660322356079861785510837750127919108
def wv13005 : Nat := 13803492693581127574875357731451823660322356079861785510852043795857412
def wv13006 : VForm :=
  { xf := Sys2Proof.Machine.Fmt.int8, yf := Sys2Proof.Machine.Fmt.int8, zf := Sys2Proof.Machine.Fmt.int8, df := Sys2Proof.Machine.Fmt.fp32, yimm := false, ovf := false, xo := 0, yo := 256, dof := 1024, zo := 512, n := 4, imm := 0, glen := 1 }
def wv13007 : Nat := 13803492693581127574875357731451823660322356079861785510837750161473540
def wv13008 : Nat := 13803492693581127574875357731451823660322356079861785510837750178250756
def wv13009 : Nat := 13803492693581127574875357731451823660322356079861785510837750195027972
def wv13010 : Nat := 13803492693581127574875357731451823660322356079861785510852043896520708
def wv13011 : Nat := 13803492693581127574875357731451823660322356079861785510852043913297924
def wv13012 : Nat := 13803492693581127574875357731451823660322356079861785510852043930075140
/-- Hypotheses of the clauses 1; 2; 3; 4; 5; 6; 7; 8; 9; 10; 11 of `Obligations.VectElementwiseValues`. -/
theorem witness_VectElementwiseValues :
    ((wVec_copy.mayVect 5 wv13000 wv13001 0 v1)) ∧
    ((wVec_add.mayVect 5 wv13002 wv13001 1 v2)) ∧
    ((wVec_sub.mayVect 5 wv13003 wv13001 2 v2)) ∧
    ((wVec_mul.mayVect 5 wv13004 wv13001 3 v2)) ∧
    ((wVec_fma.mayVect 5 wv13005 wv13006 4 { y := true, z := true })) ∧
    ((wVec_max.mayVect 5 wv13007 wv13001 5 v2)) ∧
    ((wVec_min.mayVect 5 wv13008 wv13001 6 v2)) ∧
    ((wVec_abs.mayVect 5 wv13009 wv13001 7 v1)) ∧
    ((wVec_exp.mayVect 5 wv13010 wv13006 10 { })) ∧
    ((wVec_rcp.mayVect 5 wv13011 wv13006 11 { })) ∧
    ((wVec_rsqrt.mayVect 5 wv13012 wv13006 12 { })) :=
  by refine ⟨?_, ?_, ?_, ?_, ⟨?_, ?_, ?_, ?_, ⟨?_, ?_, ?_⟩⟩⟩ <;> decide +kernel

def wv14000 : Nat := 13803492693593681778346131092979495239168771412693990221727777792458756
def wv14001 : VForm :=
  { xf := Sys2Proof.Machine.Fmt.int8, yf := Sys2Proof.Machine.Fmt.int8, zf := Sys2Proof.Machine.Fmt.int8, df := Sys2Proof.Machine.Fmt.uint8, yimm := false, ovf := false, xo := 0, yo := 256, dof := 1024, zo := 512, n := 4, imm := 2, glen := 1 }
def wv14002 : Nat := 13803492693581127574875357731451823660322356079861785510855342414626820
def wv14003 : VForm :=
  { xf := Sys2Proof.Machine.Fmt.int8, yf := Sys2Proof.Machine.Fmt.int8, zf := Sys2Proof.Machine.Fmt.uint8, df := Sys2Proof.Machine.Fmt.int8, yimm := false, ovf := false, xo := 0, yo := 256, dof := 1024, zo := 512, n := 4, imm := 0, glen := 1 }
def wv14004 : Nat := 13803492693581127574875357731451823660322356079861785510852043963629572
def wv14005 : VForm :=
  { xf := Sys2Proof.Machine.Fmt.int8, yf := Sys2Proof.Machine.Fmt.int8, zf := Sys2Proof.Machine.Fmt.int8, df := Sys2Proof.Machine.Fmt.fp32, yimm := false, ovf := false, xo := 0, yo := 256, dof := 1024, zo := 512, n := 4, imm := 0, glen := 1 }
def wv14006 : Nat := 13803492693581127574875357731451823660322356079861785510852043946852356
def wv14007 : Nat := 13803492693581127574875357731451823660322356079861785510844347365457924
def wv14008 : VForm :=
  { xf := Sys2Proof.Machine.Fmt.int8, yf := Sys2Proof.Machine.Fmt.int8, zf := Sys2Proof.Machine.Fmt.int8, df := Sys2Proof.Machine.Fmt.mxint8, yimm := false, ovf := false, xo := 0, yo := 256, dof := 1024, zo := 512, n := 4, imm := 0, glen := 1 }
def wv14009 : Nat := 53919893334301279595180037071812016767412424366093545490302281711620
def wv14010 : VForm :=
  { xf := Sys2Proof.Machine.Fmt.int8, yf := Sys2Proof.Machine.Fmt.int8, zf := Sys2Proof.Machine.Fmt.int8, df := Sys2Proof.Machine.Fmt.int32, yimm := false, ovf := false, xo := 0, yo := 256, dof := 1024, zo := 2, n := 4, imm := 0, glen := 2 }
def wv14011 : Nat := 53919893334301279595180037071812016767412424366093545490302298488836
def wv14012 : Nat := 53919893334301279595180037071812016767412424366093545490302315266052
def wv14013 : Nat := 53919893334301279595180037071812016767412424366093545490096173613060
def wv14014 : VForm :=
  { xf := Sys2Proof.Machine.Fmt.int8, yf := Sys2Proof.Machine.Fmt.fp32, zf := Sys2Proof.Machine.Fmt.int8, df := Sys2Proof.Machine.Fmt.fp32, yimm := false, ovf := false, xo := 0, yo := 256, dof := 1024, zo := 2, n := 4, imm := 0, glen := 2 }
def wv14015 : Nat := 60607223855254660950497831829725089219662262924028414053851584266244
def wv14016 : VForm :=
  { xf := Sys2Proof.Machine.Fmt.int8, yf := Sys2Proof.Machine.Fmt.int8, zf := Sys2Proof.Machine.Fmt.int8, df := Sys2Proof.Machine.Fmt.fp32, yimm := false, ovf := false, xo := 0, yo := 256, dof := 1024, zo := 2, n := 4, imm := 1065353216, glen := 2 }
def wv14017 : Nat := 53919893334301279595180037071812016767412424366093545490096207167492
/-- Hypotheses of the clauses 1; 2; 3; 4; 5; 6; 7; 8; 9; 10; 11 of `Obligations.VectSelectingAndGroupValues`. -/
theorem witness_VectSelectingAndGroupValues :
    ((wVec_cmp.mayVect 5 wv14000 wv14001 8 { y := true, noImm := true, int := true } ∧ wv14001.imm % 8 ≤ 5 ∧
         wv14001.df = Fmt.uint8)) ∧
    ((wVec_select.mayVect 5 wv14002 wv14003 9 { y := true, z := true, int := true } ∧ (wv14003.zf = Fmt.int8 ∨
         wv14003.zf = Fmt.uint8))) ∧
    ((wVec_act.mayVect 5 wv14004 wv14005 14 { noImm := true } ∧ wVec_act.actTab 5 (wv14005.imm % 8) = some
         4575657221408423936)) ∧
    ((wVec_conv.mayVect 5 wv14006 wv14005 13 { conv := true } ∧ wv14005.df.scaled = false)) ∧
    ((wVec_convs.mayVect 5 wv14007 wv14008 13 { conv := true } ∧ wv14008.df.scaled = true)) ∧
    ((wVec_rsum.mayVect 5 wv14009 wv14010 16 vRed)) ∧
    ((wVec_rmax.mayVect 5 wv14011 wv14010 17 vRed)) ∧
    ((wVec_rmin.mayVect 5 wv14012 wv14010 18 vRed)) ∧
    ((wVec_smx.mayVect 5 wv14013 wv14014 19 { group := true, pairY := true, pairD := true, noImm := true })) ∧
    ((wVec_meanvar.mayVect 5 wv14015 wv14016 20 { group := true, pairD := true })) ∧
    ((wVec_norm.mayVect 5 wv14017 wv14014 21 { group := true, pairY := true, noImm := true })) :=
  by refine ⟨?_, ?_, ?_, ?_, ⟨?_, ?_, ?_, ?_, ⟨?_, ?_, ?_⟩⟩⟩ <;> decide +kernel

/-! ### post -/

/-- A POST entry of 1 channel and 2 positions: x at 0, d at 0x100, table at 0x200, I at 0x300. -/
def eP (mode xf df : Nat) (fl : List (Nat × Nat)) : Nat :=
  5 + fields ([(24, mode), (32, xf), (36, df), (48, 1), (192, 2), (96, 0x100), (128, 0x200), (160, 0x300)] ++ fl)
def wPos (e : Nat) (x tab : List Byte) : State := sram (sram (runs5 [e] (fun x => x)) 0 x) 0x200 tab
def eP0 : Nat := eP 0 0 13 []
def eP1 : Nat := eP 0 0 6 []
def eP2 : Nat := eP 1 14 0 []
def eP3 : Nat := eP 2 0 0 [(48, 3)]
def wPos0 : State := wPos eP0 [1, 0xFE] (leBytes 8 0x3F80000040000000)
def wPos1 : State := wPos eP1 [1, 0xFE] (leBytes 8 0x3F80000040000000)
def wPos2 : State := wPos eP2 (leBytes 8 0x00000007FFFFFFF0) (leBytes 16 0x10000000300000001)
def wPos3 : State := wPos eP3 [1, 0xFE] []

def wv15000 : PForm :=
  { mode := 0, xf := Sys2Proof.Machine.Fmt.int8, df := Sys2Proof.Machine.Fmt.fp32, c := 1, p := 2, zp := 0, ovf := false, act := false, tab := 0, xo := 0, xp := 64, dof := 256, dp := 64, ta := 512, io := 768, ip := 64 }
def wv15001 : PForm :=
  { mode := 0, xf := Sys2Proof.Machine.Fmt.int8, df := Sys2Proof.Machine.Fmt.mxint8, c := 1, p := 2, zp := 0, ovf := false, act := false, tab := 0, xo := 0, xp := 64, dof := 256, dp := 64, ta := 512, io := 768, ip := 64 }
def wv15002 : PForm :=
  { mode := 1, xf := Sys2Proof.Machine.Fmt.int32, df := Sys2Proof.Machine.Fmt.int8, c := 1, p := 2, zp := 0, ovf := false, act := false, tab := 0, xo := 0, xp := 64, dof := 256, dp := 64, ta := 512, io := 768, ip := 64 }
def wv15003 : PForm :=
  { mode := 2, xf := Sys2Proof.Machine.Fmt.int8, df := Sys2Proof.Machine.Fmt.int8, c := 4, p := 2, zp := 0, ovf := false, act := false, tab := 0, xo := 0, xp := 64, dof := 256, dp := 64, ta := 512, io := 768, ip := 64 }
/-- Hypotheses of the clauses 1; 2; 3; 4 of `Obligations.PostModesWriteTheirPlanes`. -/
theorem witness_PostModesWriteTheirPlanes :
    ((opcOf 12554204593206619172029591910648187255209539696065167491077 = 5 ∧ pForm (wPos0.tile 5)
         12554204593206619172029591910648187255209539696065167491077 = some wv15000 ∧ PostLegal wv15000 ∧ ef
         12554204593206619172029591910648187255209539696065167491077 3 1 0 = 0 ∧ (wv15000.act = true → (wPos0.actTab 5
         wv15000.tab).isSome = true) ∧ wv15000.df.scaled = false ∧ (∀ sp ∈ [wv15000.xSpan, spanOf wv15000.ta (8 *
         wv15000.c), wv15000.dSpan wv15000.c], sp.hi ≤ sramBytes) ∧ packedBytes wv15000.df.bits wv15000.p ≤
         wv15000.dp)
      ∧ (wPos0.mayIssue 5 12554204593206619172029591910648187255209539696065167491077 [wv15000.xSpan, spanOf wv15000.ta
         (8 * wv15000.c)] [wv15000.dSpan wv15000.c] (spanOf wv15000.ta (8 * wv15000.c) :: wv15000.xBytes)
         (wv15000.dBytes wv15000.c) [] [])) ∧
    ((opcOf 12554204593206619172029591910648187255209539695584131153925 = 5 ∧ pForm (wPos1.tile 5)
         12554204593206619172029591910648187255209539695584131153925 = some wv15001 ∧ PostLegal wv15001 ∧ ef
         12554204593206619172029591910648187255209539695584131153925 3 1 0 = 0 ∧ (wv15001.act = true → (wPos1.actTab 5
         wv15001.tab).isSome = true) ∧ wv15001.df.scaled = true ∧ (∀ sp ∈ [wv15001.xSpan, spanOf wv15001.ta (8 *
         wv15001.c), wv15001.dSpan wv15001.c, planesSpan wv15001.io wv15001.ip (ceilDiv wv15001.c 32) wv15001.p],
         sp.hi ≤ sramBytes) ∧ wPos1.mayIssue 5 12554204593206619172029591910648187255209539695584131153925
         [wv15001.xSpan, spanOf wv15001.ta (8 * wv15001.c)] [wv15001.dSpan wv15001.c, planesSpan wv15001.io wv15001.ip
         (ceilDiv wv15001.c 32) wv15001.p] (spanOf wv15001.ta (8 * wv15001.c) :: wv15001.xBytes) (wv15001.dBytes
         wv15001.c ++ planeRanges wv15001.io wv15001.ip (ceilDiv wv15001.c 32) wv15001.p) [] [])) ∧
    ((opcOf 12554204593206619172029591910648187255209539695231960612869 = 5 ∧ pForm (wPos2.tile 5)
         12554204593206619172029591910648187255209539695231960612869 = some wv15002 ∧ PostLegal wv15002 ∧ ef
         12554204593206619172029591910648187255209539695231960612869 3 1 0 = 1 ∧ wv15002.xf = Fmt.int32 ∧ wv15002.df ∈
         [Fmt.int8, Fmt.uint8, Fmt.int4, Fmt.int32] ∧ wv15002.act = false ∧ (∀ sp ∈ [wv15002.xSpan, spanOf wv15002.ta
         (16 * wv15002.c), wv15002.dSpan wv15002.c], sp.hi ≤ sramBytes))
      ∧ (packedBytes wv15002.df.bits wv15002.p ≤ wv15002.dp ∧ wPos2.mayIssue 5
         12554204593206619172029591910648187255209539695231960612869 [wv15002.xSpan, spanOf wv15002.ta (16 *
         wv15002.c)] [wv15002.dSpan wv15002.c] (spanOf wv15002.ta (16 * wv15002.c) :: wv15002.xBytes) (wv15002.dBytes
         wv15002.c) [] [] ∧ (∀ c < wv15002.c, wPos2.postShift 5 wv15002 c ≤ 63))) ∧
    ((opcOf 12554204593206619172029591910648187255209540539596777979909 = 5 ∧ pForm (wPos3.tile 5)
         12554204593206619172029591910648187255209540539596777979909 = some wv15003 ∧ PostLegal wv15003 ∧ ef
         12554204593206619172029591910648187255209540539596777979909 3 1 0 = 2 ∧ wv15003.df = wv15003.xf ∧ wv15003.act
         = false ∧ (∀ sp ∈ [wv15003.xSpan, wv15003.dSpan 1, spanOf wv15003.io (2 * wv15003.p)], sp.hi ≤ sramBytes) ∧
         wPos3.mayIssue 5 12554204593206619172029591910648187255209540539596777979909 [wv15003.xSpan] [wv15003.dSpan
         1, spanOf wv15003.io (2 * wv15003.p)] wv15003.xBytes (spanOf wv15003.io (2 * wv15003.p) :: wv15003.dBytes 1)
         [] [])) :=
  by refine ⟨⟨?_, ?_⟩, ?_, ⟨?_, ?_⟩, ?_⟩ <;> decide +kernel

/-! ### setop -/

/-- A SET_OP: parameters at 0x40000, result header at 0x41000, table at 0x48000. -/
def dSet (sop key tab n : Nat) : Desc := { num := 0, raw := fields [(0, 4), (128, sop), (148, key), (160, n), (192, tab), (256, 0x40000), (320, 0x41000)], phase := .started, units := [128] }
def setSt (d : Desc) (ran : Option (List Nat)) (ws : List Nat) : State :=
  put ((withDesc (rgn U 3) 3 d).modHub (fun h => { h with setOps := [{ ctx := 3, num := 0, waiting := false, ran := ran, by' := [0] }], sets := setAt h.sets 0 { cur := some (3, 0) } })) 0x40000 (packNats 8 ws)
/-- An empty table of one partition of 128 buckets. -/
def putTable (s : State) (key : Nat) : State :=
  put s 0x48000 (leBytes 16 (fields [(0, 1), (16, 7), (32, key), (40, 1)]))
def pset (c : Nat → Nat → Instr) (n : Nat) : (Nat → Nat → Instr) × Nat := (c, n)
def wSet1 : State := put (putTable (setSt (dSet 1 0 0x48000 1) none [0x42000, 0x43000, 5, 0, 0, 0, 0, 0]) 0) 0x42000 (leBytes 8 77)
def wSet2 : State := put (putTable (setSt (dSet 2 0 0x48000 1) none [0x42000, 0x43000, 0, 0, 0, 0, 0, 0]) 0) 0x42000 (leBytes 8 77)
def wSet3 : State := put (putTable (setSt (dSet 3 1 0x48000 1) none [0x42000, 0x44000, 0x43000, 0x45000, fields [(0, 1), (16, 1), (20, 1), (24, 1), (32, 16)], 0, 0, 0]) 1) 0x42000 (leBytes 8 77)
def wSet4 : State := put (putTable (setSt (dSet 4 1 0x48000 1) none [0x42000, 0x44000, 0x46000, 0x43000, 0x45000, 1, 0, 0x3F80000000000000]) 1) 0x46008 [9]
def wSet5 : State := put (putTable (setSt (dSet 5 1 0x48000 1) none [0x42000, 0x44000, 0x46000, 0x43000, 0x45000, 1, 0, 0x3F80000000000000]) 1) 0x46008 [9]
def wSet6 : State := put (setSt (dSet 6 0 0 2) none [0x42000, 0x43000, 0x44000, 64, 0, 0, 0, 0]) 0x42000 (packNats 8 [9, 4])
def wSet7 : State := put (setSt (dSet 7 0 0 2) none [0x42000, 0x43000, 0x44000, fields [(0, 64), (16, 1)], 0, 0, 0, 0]) 0x42000 (packNats 8 [9, 4])
def wSet8 : State := put (setSt (dSet 8 0 0 2) none [0x42000, 0x46000, 0x43000, 0x44000, 0x45000, fields [(0, 1), (36, 13), (40, 4)], 0, 0]) 0x46000 [3, 4]
def wSet9 : State := put (setSt (dSet 9 0 0 1) none [0x46000, 0x42000, 0x43000, 4, 4, 2, 0, 0]) 0x42000 (leBytes 4 1)
def wSetA : State := put (setSt (dSet 10 0 0 1) none [0x42000, 0x46000, 0x43000, 0x44000, fields [(0, 1), (20, 13)], fields [(0, 1), (16, 1), (32, 1)], 0, 0]) 0x46000 [3]
def wSetR : State := setSt (dSet 6 0 0 2) (some [2, 0, 0, 0, 0, 0, 0]) []
/-- A SET_OP whose KEYFMT is illegal. -/
def illSet (sop : Nat) : State := withDesc (rgn U 3) 3 { dSet sop 3 0 2 with phase := .waiting, units := [] }
def outOf (s : State) (d : Desc) : SetOut := match Sys2Proof.Machine.setCompute 3 s d with
  | .ok o => o
  | .error _ => {}
def wSus0 : State := (withDesc (rgn U 3) 3 { dSet 1 0 0x48000 1 with units := [] }).modHub (fun h => { h with setOps := [{ ctx := 3, num := 0, waiting := true, ran := none }] })
def wSus1 : State := (setSt (dSet 6 0 0 2) none []).wf rTH_STATUS fTH_STATUS_HALT 1
def wSus2 : State := (setSt (dSet 6 0 0 2) none []).modHub (fun h => { h with sets := setAt h.sets 0 { susp := [{ op := (3, 0), part := 2, pos := 1 }] } })
/-- An operation that nothing of higher priority waits behind. -/
def wSus3 : State := setSt (dSet 6 0 0 2) none []

def wv16000 : Desc :=
  { num := 0, raw := 568685188443583100367204780491608571726791836953339074645913942528339764254126182968779209916293316612, poison := false, phase := Sys2Proof.Machine.Phase.started, status := 0, detail := 0, inJob := none, slot := 0, start := 0, order := 0, waited := false, attempt := 0, units := [128] }
def wv16001 : SetOut :=
  { writes := [(294928, [0x01#8, 0x00#8, 0x00#8, 0x00#8, 0x00#8, 0x00#8, 0x00#8, 0x00#8]), (294976, (List.replicate 64 0x00#8)), (274432, [0xff#8, 0xff#8, 0xff#8, 0xff#8])], count := 1, dropped := 1, miss := 0, outside := 0, nans := 0, sats := 0, entries := 0, ovf := ([1] ++ List.replicate 15 0) }
def wv16002 : Desc :=
  { num := 0, raw := 568685188443583100367204780491608571726791836953339074645913942868622131175064646432153817348061528068, poison := false, phase := Sys2Proof.Machine.Phase.started, status := 0, detail := 0, inJob := none, slot := 0, start := 0, order := 0, waited := false, attempt := 0, units := [128] }
def wv16003 : SetOut :=
  { writes := [(274432, [0xff#8, 0xff#8, 0xff#8, 0xff#8])], count := 1, dropped := 0, miss := 1, outside := 0, nans := 0, sats := 0, entries := 0, ovf := [] }
def wv16004 : Desc :=
  { num := 0, raw := 568685188443583100367204780491608571726791836953339074646270755132080988066267681387890798563925426180, poison := false, phase := Sys2Proof.Machine.Phase.started, status := 0, detail := 0, inJob := none, slot := 0, start := 0, order := 0, waited := false, attempt := 0, units := [128] }
def wv16005 : SetOut :=
  { writes := [(274432, []), (282624, [0x00#8, 0x00#8, 0x00#8, 0x00#8, 0x00#8, 0x00#8, 0x00#8, 0x00#8])], count := 0, dropped := 0, miss := 0, outside := 0, nans := 0, sats := 0, entries := 0, ovf := [] }
def wv16006 : Desc :=
  { num := 0, raw := 568685188443583100367204780491608571726791836953339074646270755472363354987206144851265405995693637636, poison := false, phase := Sys2Proof.Machine.Phase.started, status := 0, detail := 0, inJob := none, slot := 0, start := 0, order := 0, waited := false, attempt := 0, units := [128] }
def wv16007 : SetOut :=
  { writes := [(274432, [0x00#8, 0x00#8, 0x00#8, 0x00#8]), (282624, [0x00#8, 0x00#8, 0x00#8, 0x00#8])], count := 1, dropped := 0, miss := 0, outside := 0, nans := 0, sats := 0, entries := 0, ovf := [] }
def wv16008 : Desc :=
  { num := 0, raw := 568685188443583100367204780491608571726791836953339074646270755812645721908144608314640013427461849092, poison := false, phase := Sys2Proof.Machine.Phase.started, status := 0, detail := 0, inJob := none, slot := 0, start := 0, order := 0, waited := false, attempt := 0, units := [128] }
def wv16009 : Desc :=
  { num := 0, raw := 568685188443583100367204780491608571724940644326352719309991241230277497744397755153097489384799731716, poison := false, phase := Sys2Proof.Machine.Phase.started, status := 0, detail := 0, inJob := none, slot := 0, start := 0, order := 0, waited := false, attempt := 0, units := [128] }
def wv16010 : SetOut :=
  { writes := [(274432, ([0x04#8] ++ List.replicate 7 0x00#8 ++ [0x09#8] ++ List.replicate 7 0x00#8)), (278528, [0x01#8, 0x00#8, 0x00#8, 0x00#8, 0x00#8, 0x00#8, 0x00#8, 0x00#8])], count := 2, dropped := 0, miss := 0, outside := 0, nans := 0, sats := 0, entries := 0, ovf := [] }
def wv16011 : Desc :=
  { num := 0, raw := 568685188443583100367204780491608571724940644326352719309991241570559864665336218616472096816567943172, poison := false, phase := Sys2Proof.Machine.Phase.started, status := 0, detail := 0, inJob := none, slot := 0, start := 0, order := 0, waited := false, attempt := 0, units := [128] }
def wv16012 : SetOut :=
  { writes := [(274432, [0x04#8, 0x00#8, 0x00#8, 0x00#8, 0x00#8, 0x00#8, 0x00#8, 0x00#8]), (278528, [0x01#8, 0x00#8, 0x00#8, 0x00#8])], count := 1, dropped := 0, miss := 0, outside := 0, nans := 0, sats := 0, entries := 0, ovf := [] }
def wv16013 : Desc :=
  { num := 0, raw := 568685188443583100367204780491608571724940644326352719309991241910842231586274682079846704248336154628, poison := false, phase := Sys2Proof.Machine.Phase.started, status := 0, detail := 0, inJob := none, slot := 0, start := 0, order := 0, waited := false, attempt := 0, units := [128] }
def wv16014 : SetOut :=
  { writes := [(274432, [0x00#8, 0x00#8, 0x00#8, 0x00#8, 0x00#8, 0x00#8, 0x00#8, 0x00#8]), (278528, [0x00#8, 0x00#8, 0xe0#8, 0x40#8]), (282624, [0x02#8, 0x00#8, 0x00#8, 0x00#8])], count := 1, dropped := 0, miss := 0, outside := 0, nans := 0, sats := 0, entries := 0, ovf := [] }
def wv16015 : Desc :=
  { num := 0, raw := 568685188443583100367204780491608571724940644326352717848489604920221680303528312826938292024171823108, poison := false, phase := Sys2Proof.Machine.Phase.started, status := 0, detail := 0, inJob := none, slot := 0, start := 0, order := 0, waited := false, attempt := 0, units := [128] }
def wv16016 : SetOut :=
  { writes := [(274432, [0x00#8, 0x00#8, 0x00#8, 0x00#8])], count := 1, dropped := 0, miss := 0, outside := 0, nans := 0, sats := 0, entries := 0, ovf := [] }
def wv16017 : Desc :=
  { num := 0, raw := 568685188443583100367204780491608571724940644326352717848489605260504047224466776290312899455940034564, poison := false, phase := Sys2Proof.Machine.Phase.started, status := 0, detail := 0, inJob := none, slot := 0, start := 0, order := 0, waited := false, attempt := 0, units := [128] }
def wv16018 : SetOut :=
  { writes := [(274432, [0x00#8, 0x00#8, 0x40#8, 0x40#8]), (278528, [0x01#8, 0x00#8, 0x00#8, 0x00#8])], count := 1, dropped := 0, miss := 0, outside := 0, nans := 0, sats := 0, entries := 0, ovf := [] }
def wv16019 : SetOp :=
  { ctx := 3, num := 0, waiting := false, ran := some [2, 0, 0, 0, 0, 0, 0], by' := [0], spilled := [] }
def wv16020 : Desc :=
  { num := 0, raw := 568685188443583100367204780491608571724940644326352719311061675298395133050499152313311573578245734404, poison := false, phase := Sys2Proof.Machine.Phase.waiting, status := 0, detail := 0, inJob := none, slot := 0, start := 0, order := 0, waited := false, attempt := 0, units := [] }
def wv16021 : Desc :=
  { num := 0, raw := 568685188443583100367204780491608571724940644326352719311061675638677499971437615776686181010013945860, poison := false, phase := Sys2Proof.Machine.Phase.waiting, status := 0, detail := 0, inJob := none, slot := 0, start := 0, order := 0, waited := false, attempt := 0, units := [] }
def wv16022 : Desc :=
  { num := 0, raw := 568685188443583100367204780491608571724940644326352719311061675978959866892376079240060788441782157316, poison := false, phase := Sys2Proof.Machine.Phase.waiting, status := 0, detail := 0, inJob := none, slot := 0, start := 0, order := 0, waited := false, attempt := 0, units := [] }
def wv16023 : Desc :=
  { num := 0, raw := 568685188443583100367204780491608571724940644326352719311061676319242233813314542703435395873550368772, poison := false, phase := Sys2Proof.Machine.Phase.waiting, status := 0, detail := 0, inJob := none, slot := 0, start := 0, order := 0, waited := false, attempt := 0, units := [] }
def wv16024 : Desc :=
  { num := 0, raw := 568685188443583100367204780491608571724940644326352719311061676659524600734253006166810003305318580228, poison := false, phase := Sys2Proof.Machine.Phase.waiting, status := 0, detail := 0, inJob := none, slot := 0, start := 0, order := 0, waited := false, attempt := 0, units := [] }
def wv16025 : Desc :=
  { num := 0, raw := 568685188443583100367204780491608571724940644326352719311061676999806967655191469630184610737086791684, poison := false, phase := Sys2Proof.Machine.Phase.waiting, status := 0, detail := 0, inJob := none, slot := 0, start := 0, order := 0, waited := false, attempt := 0, units := [] }
def wv16026 : Desc :=
  { num := 0, raw := 568685188443583100367204780491608571724940644326352719311061677340089334576129933093559218168855003140, poison := false, phase := Sys2Proof.Machine.Phase.waiting, status := 0, detail := 0, inJob := none, slot := 0, start := 0, order := 0, waited := false, attempt := 0, units := [] }
def wv16027 : Desc :=
  { num := 0, raw := 568685188443583100367204780491608571724940644326352719311061677680371701497068396556933825600623214596, poison := false, phase := Sys2Proof.Machine.Phase.waiting, status := 0, detail := 0, inJob := none, slot := 0, start := 0, order := 0, waited := false, attempt := 0, units := [] }
def wv16028 : Desc :=
  { num := 0, raw := 568685188443583100367204780491608571724940644326352719311061678020654068418006860020308433032391426052, poison := false, phase := Sys2Proof.Machine.Phase.waiting, status := 0, detail := 0, inJob := none, slot := 0, start := 0, order := 0, waited := false, attempt := 0, units := [] }
def wv16029 : Desc :=
  { num := 0, raw := 568685188443583100367204780491608571724940644326352719311061678360936435338945323483683040464159637508, poison := false, phase := Sys2Proof.Machine.Phase.waiting, status := 0, detail := 0, inJob := none, slot := 0, start := 0, order := 0, waited := false, attempt := 0, units := [] }
/-- Hypotheses of the clauses 1.2.1; 1.2.2; 1.2.3; 1.2.4; 1.2.5; 1.2.6; 1.2.7; 1.2.8; 1.2.9; 1.2.10; 2; 1.1.1; 1.1.2;
1.1.3; 1.1.4; 1.1.5; 1.1.6; 1.1.7; 1.1.8; 1.1.9; 1.1.10 of `Obligations.SetOpsComputeAndWriteHeaders`. -/
theorem witness_SetOpsComputeAndWriteHeaders :
    ((wv16000.op = 4 ∧ wSet1.setMayRun 3 0 wv16000 wv16001 ∧ sopOf wv16000 = 1)) ∧
    ((wv16002.op = 4 ∧ wSet2.setMayRun 3 0 wv16002 wv16003 ∧ sopOf wv16002 = 2)) ∧
    ((wv16004.op = 4 ∧ wSet3.setMayRun 3 0 wv16004 wv16005 ∧ sopOf wv16004 = 3)) ∧
    ((wv16006.op = 4 ∧ wSet4.setMayRun 3 0 wv16006 wv16007 ∧ sopOf wv16006 = 4)) ∧
    ((wv16008.op = 4 ∧ wSet5.setMayRun 3 0 wv16008 wv16007 ∧ sopOf wv16008 = 5)) ∧
    ((wv16009.op = 4 ∧ wSet6.setMayRun 3 0 wv16009 wv16010 ∧ sopOf wv16009 = 6)) ∧
    ((wv16011.op = 4 ∧ wSet7.setMayRun 3 0 wv16011 wv16012 ∧ sopOf wv16011 = 7)) ∧
    ((wv16013.op = 4 ∧ wSet8.setMayRun 3 0 wv16013 wv16014 ∧ sopOf wv16013 = 8)) ∧
    ((wv16015.op = 4 ∧ wSet9.setMayRun 3 0 wv16015 wv16016 ∧ sopOf wv16015 = 9)) ∧
    ((wv16017.op = 4 ∧ wSetA.setMayRun 3 0 wv16017 wv16018 ∧ sopOf wv16017 = 10)) ∧
    ((wSetR.desc 3 0 = some wv16009 ∧ wSetR.setOp 3 0 = some wv16019 ∧ wv16019.ran = some [2, 0, 0, 0, 0, 0, 0] ∧
         wSetR.setHeld 3 wv16009 = true ∧ wSetR.jobLive 3 wv16009 = true ∧ wSetR.engineErr 3 Want.wr (setResult
         wv16009) (packNats 8 [2, 0, 0, 0, 0, 0, 0] ++ leBytes 8 0).length = none ∧ wSetR.storable (setResult wv16009)
         (packNats 8 [2, 0, 0, 0, 0, 0, 0] ++ leBytes 8 0).length)) ∧
    ((wv16020.op = 4 ∧ (illSet 1).ready 3 0 wv16020 ∧ setDescErr wv16020 = some 7 ∧ sopOf wv16020 = 1)) ∧
    ((wv16021.op = 4 ∧ (illSet 2).ready 3 0 wv16021 ∧ setDescErr wv16021 = some 7 ∧ sopOf wv16021 = 2)) ∧
    ((wv16022.op = 4 ∧ (illSet 3).ready 3 0 wv16022 ∧ setDescErr wv16022 = some 7 ∧ sopOf wv16022 = 3)) ∧
    ((wv16023.op = 4 ∧ (illSet 4).ready 3 0 wv16023 ∧ setDescErr wv16023 = some 7 ∧ sopOf wv16023 = 4)) ∧
    ((wv16024.op = 4 ∧ (illSet 5).ready 3 0 wv16024 ∧ setDescErr wv16024 = some 7 ∧ sopOf wv16024 = 5)) ∧
    ((wv16025.op = 4 ∧ (illSet 6).ready 3 0 wv16025 ∧ setDescErr wv16025 = some 7 ∧ sopOf wv16025 = 6)) ∧
    ((wv16026.op = 4 ∧ (illSet 7).ready 3 0 wv16026 ∧ setDescErr wv16026 = some 7 ∧ sopOf wv16026 = 7)) ∧
    ((wv16027.op = 4 ∧ (illSet 8).ready 3 0 wv16027 ∧ setDescErr wv16027 = some 7 ∧ sopOf wv16027 = 8)) ∧
    ((wv16028.op = 4 ∧ (illSet 9).ready 3 0 wv16028 ∧ setDescErr wv16028 = some 7 ∧ sopOf wv16028 = 9)) ∧
    ((wv16029.op = 4 ∧ (illSet 10).ready 3 0 wv16029 ∧ setDescErr wv16029 = some 7 ∧ sopOf wv16029 = 10)) :=
  by refine ⟨?_, ?_, ?_, ?_, ⟨?_, ?_, ?_, ?_, ⟨?_, ?_, ?_, ?_, ⟨?_, ?_, ?_, ?_, ⟨?_, ?_, ?_, ?_, ?_⟩⟩⟩⟩⟩ <;> decide +kernel

def wv17000 : Desc :=
  { num := 0, raw := 568685188443583100367204780491608571726791836953339074645913942528339764254126182968779209916293316612, poison := false, phase := Sys2Proof.Machine.Phase.started, status := 0, detail := 0, inJob := none, slot := 0, start := 0, order := 0, waited := false, attempt := 0, units := [] }
def wv17001 : SetOp := { ctx := 3, num := 0, waiting := true, ran := none, by' := [], spilled := [] }
def wv17002 : Desc :=
  { num := 0, raw := 568685188443583100367204780491608571724940644326352719309991241230277497744397755153097489384799731716, poison := false, phase := Sys2Proof.Machine.Phase.started, status := 0, detail := 0, inJob := none, slot := 0, start := 0, order := 0, waited := false, attempt := 0, units := [128] }
/-- Hypotheses of the clauses 1; 2; 4; 3 of `Obligations.SetEnginesSuspendAndResume`. -/
theorem witness_SetEnginesSuspendAndResume :
    ((wSus0.desc 3 0 = some wv17000 ∧ wSus0.setOp 3 0 = some wv17001 ∧ wv17001.waiting = true ∧ wSus0.buildOn
         (setTable wv17000) 3 0 = false ∧ wSus0.jobLive 3 wv17000 = true)) ∧
    ((wSus1.desc 3 0 = some wv17002 ∧ 0 < wSus1.hub.sets.length ∧ (wSus1.setEngine 0).cur = some (3, 0) ∧
         (wSus1.setEngine 0).susp.length < suspCap ∧ (wSus1.halted = true ∨ ∃ p ∈ wSus1.setWaiting 0, wSus1.descPrio 3
         0 < wSus1.descPrio p.1 p.2))) ∧
    ((wSus2.desc 3 0 = some wv17002 ∧ 0 < wSus2.hub.sets.length ∧ (wSus2.setEngine 0).susp =
         [({ op := (3, 0), part := 2, pos := 1 } : SetSusp)] ∧ ({ op := (3, 0), part := 2, pos := 1 } : SetSusp).op =
         (3, 0) ∧ wSus2.setIdle 0 = true ∧ wSus2.setFit (wSus2.jobDies 3 wv17002) (wSus2.effClass 3 wv17002.raw) 0 =
         true ∧ wSus2.jobLive 3 wv17002 = true)) ∧
    ((wSus3.desc 3 0 = some wv17002 ∧ 0 < wSus3.hub.sets.length ∧ (wSus3.setEngine 0).cur = some (3, 0) ∧ wSus3.halted
         = false ∧ (∀ p ∈ wSus3.setWaiting 0, wSus3.descPrio p.1 p.2 ≤ wSus3.descPrio 3 0))) :=
  by refine ⟨?_, ?_, ?_, ?_⟩ <;> decide +kernel

/-! ### kv -/

def dmaSt (d : Desc) : State := (withDesc (rgn U 3) 3 d).modDma 0 (fun x => { x with cur := some (3, 0) })
def dCopy (dst n : Nat) (fl : List (Nat × Nat)) : Desc := { num := 0, raw := fields ([(0, 2), (128, 0x40000), (192, dst), (256, n)] ++ fl), phase := .started, units := [144] }
def dCp0 : Desc := dCopy 0x41000 4 []
def dCp1 : Desc := { dCopy 0x41000 4 [] with raw := fields [(0, 2), (128, 0xF00000000), (192, 0x41000), (256, 4)] }
def dCp2 : Desc := dCopy 0x41000 4 [(296, 1), (384, 0x0807060504030201)]
def wCop0 : State := put (dmaSt dCp0) 0x40000 [1, 2, 3, 4]
def wCop1 : State := dmaSt dCp1
def wCop2 : State := dmaSt dCp2
def dKv (kop first count em : Nat) (a0 : Nat) : Desc := { num := 0, raw := fields [(0, 5), (128, kop), (160, first), (192, count), (226, em), (256, 0x50000), (320, a0)], phase := .started, units := [144] }
/-- A latent sequence of two rows at 0x50000, and a scored one of two slots. -/
def rawSeq : Nat := fields [(0, 1), (24, 1), (48, 16), (80, 64), (160, 1), (192, 2), (224, 2), (256, 0x60000), (320, 0x80000), (384, 1)]
def rawScore : Nat := rawSeq + fields [(16, 1), (112, 1), (128, 2), (448, 0x70000)]
def kvSt (d : Desc) : State := put (dmaSt d) 0x50000 (leBytes 64 rawSeq)
def kvScore (d : Desc) : State := put (put ((dmaSt d).wf (rHUB_CTX_CFG 3) fHUB_CTX_CFG_SCORE_MODE 1) 0x50000 (leBytes 64 rawScore)) 0x70000 (leBytes 24 (fields [(32, 0x3F800000), (64, 1), (96, 0x40000000), (128, 0xFFFFFFFF)]))
def seqD (raw : Nat) : Seq := { at' := 0x50000, raw := raw }
def pk (c : Nat → Nat → Instr) (a b : Nat) : (Nat → Nat → Instr) × Nat × Nat := (c, a, b)
def doneOf (s : State) (q : Seq) (d : Desc) : KvDone := match kvEffect s 3 q d with
  | .ok o => o
  | .error _ => {}
def dKv1 : Desc := dKv 1 0 1 0 0x42000
def dKv2 : Desc := dKv 2 0 1 0 0x42000
def dKv3 : Desc := dKv 3 1 0 0 0
def dKv4 : Desc := dKv 3 0 1 1 0
def dKv5 : Desc := dKv 3 1 0 2 0
def dKv6 : Desc := dKv 4 0 0 0 0
def wKvB : State := dmaSt dKv1
def wKvL1 : State := kvSt dKv1
def wKvL2 : State := kvSt dKv2
def wKvL3 : State := kvSt dKv3
def wKvL6 : State := kvSt dKv6
def wKvL4 : State := kvSt dKv4
def wKvL5 : State := kvSt dKv5
def wKvB2 : State := dmaSt dKv2
def wKvB3 : State := dmaSt dKv3
def wKvB4 : State := dmaSt dKv4
def wKvB5 : State := dmaSt dKv5
def wKvB6 : State := dmaSt dKv6
def wKvS1 : State := kvScore dKv1
def wKvS2 : State := kvScore dKv2
def wKvS3 : State := kvScore dKv3
def wKvS4 : State := kvScore dKv4
def wKvS5 : State := kvScore dKv5
def wKvS6 : State := kvScore dKv6
def dCo (cop rank n fmt : Nat) (fl : List (Nat × Nat)) : Desc := { num := 0, raw := fields ([(0, 3), (128, cop), (136, fmt), (144, 1), (152, rank), (160, 7), (192, n), (256, 0x40000), (320, 0x41000), (384, 0x42000)] ++ fl), phase := .started, units := [144] }
def dCoI1 : Desc := { dCo 1 0 0 0 [] with phase := .waiting, units := [] }
def dCoI2 : Desc := { dCo 2 0 0 0xD [(448, 0x43000)] with phase := .waiting, units := [] }
def dCoG : Desc := dCo 1 0 4 0 []
def dCoR : Desc := dCo 2 0 4 0xD [(448, 0x43000)]
def mCo : CollMember := { rank := 0, ctx := 3, num := 0, pushed := false }
def coG : Coll := { tag := 7, list := [(0, 4)], cop := 1, red := 0, fmt := 0, elems := 4, dst := 0x42000, recv := 0, joined := [mCo] }
def coR : Coll := { tag := 7, list := [(0, 4)], cop := 2, red := 0, fmt := 0xD, elems := 4, dst := 0x42000, recv := 0x43000, joined := [mCo] }
def wCo0 : State := withDesc (rgn U 3) 3 dCoI1
def wCo1 : State := withDesc (rgn U 3) 3 dCoI2
def wCo2 : State := put ((dmaSt dCoG).modHub (fun h => { h with colls := [coG] })) 0x41000 [1, 2, 3, 4]
def wCo3 : State := put ((dmaSt dCoR).modHub (fun h => { h with colls := [coR] })) 0x41000 [1, 2, 3, 4]
def wCo4 : State := put ((dmaSt dCoR).modHub (fun h => { h with colls := [{ coR with joined := [{ mCo with pushed := true }] }] })) 0x43000 [0, 0, 0x80, 0x3F]

def wv18000 : Desc :=
  { num := 0, raw := 463168356949266452909849969384638284256636767594161445391816960729647255912450, poison := false, phase := Sys2Proof.Machine.Phase.started, status := 0, detail := 0, inJob := none, slot := 0, start := 0, order := 0, waited := false, attempt := 0, units := [144] }
def wv18001 : Desc :=
  { num := 0, raw := 463168356949266452909849969406560719613619517244724151739688115431040220135426, poison := false, phase := Sys2Proof.Machine.Phase.started, status := 0, detail := 0, inJob := none, slot := 0, start := 0, order := 0, waited := false, attempt := 0, units := [144] }
def wv18002 : AccErr := { status := 2, addr := 64424509440, engine := 255, row := none }
def wv18003 : Desc :=
  { num := 0, raw := 22791605672260552861670290600381970627086305601848261301495632114641677517287008702237249845350130823571796828332560871403287268556802, poison := false, phase := Sys2Proof.Machine.Phase.started, status := 0, detail := 0, inJob := none, slot := 0, start := 0, order := 0, waited := false, attempt := 0, units := [144] }
/-- Hypotheses of the clauses 1; 2; 3 of `Obligations.CopyAndFillMoveBytes`. -/
theorem witness_CopyAndFillMoveBytes :
    ((wCop0.dmaServes 3 0 wv18000 ∧ wv18000.op = 2 ∧ copyFills wv18000 = false ∧ wCop0.engRead 3 (wv18000.at 16 8)
         (copyBytes wv18000) = Got.ok [1#8, 2#8, 3#8, 4#8] ∧ wCop0.engineErr 3 Want.wr (wv18000.at 24 8) [1#8, 2#8,
         3#8, 4#8].length = none ∧ wCop0.storable (wv18000.at 24 8) [1#8, 2#8, 3#8, 4#8].length)) ∧
    ((wCop1.dmaServes 3 0 wv18001 ∧ wv18001.op = 2 ∧ copyFills wv18001 = false ∧ wCop1.engRead 3 (wv18001.at 16 8)
         (copyBytes wv18001) = Got.err wv18002)) ∧
    ((wCop2.dmaServes 3 0 wv18003 ∧ wv18003.op = 2 ∧ copyFills wv18003 = true ∧ wCop2.engineErr 3 Want.wr (wv18003.at
         24 8) (copyBytes wv18003) = none ∧ wCop2.storable (wv18003.at 24 8) (copyBytes wv18003))) :=
  by refine ⟨?_, ?_, ?_⟩ <;> decide +kernel

def wv19000 : Machine.Seq :=
  { at' := 327680, raw := 39402006196395599084650129002248938057522185033183527058932207388299115090797024534981779058592213933833106338349057 }
def wv19001 : KvDone :=
  { writes := [(524416, (List.replicate 64 0x00#8)), (327704, [0x03#8, 0x00#8, 0x00#8, 0x00#8, 0x03#8, 0x00#8, 0x00#8, 0x00#8]), (327756, [0x01#8, 0x00#8, 0x00#8, 0x00#8])], rows := 1, evict := 0, change := true, placed := [(524416, 0)], snap := none, free := false }
def wv19002 : KvDone :=
  { writes := [(270336, (List.replicate 64 0x00#8))], rows := 0, evict := 0, change := false, placed := [], snap := none, free := false }
def wv19003 : KvDone :=
  { writes := [(327704, [0x01#8, 0x00#8, 0x00#8, 0x00#8, 0x01#8, 0x00#8, 0x00#8, 0x00#8]), (327756, [0x01#8, 0x00#8, 0x00#8, 0x00#8])], rows := 0, evict := 0, change := true, placed := [], snap := none, free := false }
def wv19004 : KvDone :=
  { writes := [(327683, [0x02#8]), (327756, [0x01#8, 0x00#8, 0x00#8, 0x00#8])], rows := 0, evict := 0, change := true, placed := [], snap := none, free := true }
def wv19005 : Machine.Seq :=
  { at' := 327680, raw := 333438718448058252253283434918244052539400766148157537039192249376701667884124583053944185196155554025836033219835615713333177144796434726913 }
def wv19006 : KvDone :=
  { writes := [(524416, (List.replicate 64 0x00#8)), (458752, ([0xff#8, 0xff#8, 0xff#8, 0xff#8, 0x00#8, 0x00#8, 0x80#8, 0x3f#8, 0x01#8] ++ List.replicate 6 0x00#8 ++ [0x40#8, 0x02#8] ++ List.replicate 7 0x00#8)), (327704, [0x03#8, 0x00#8, 0x00#8, 0x00#8, 0x02#8, 0x00#8, 0x00#8, 0x00#8]), (327756, [0x01#8, 0x00#8, 0x00#8, 0x00#8]), (327760, [0x01#8, 0x00#8, 0x00#8, 0x00#8, 0x00#8, 0x00#8, 0x00#8, 0x00#8])], rows := 1, evict := 1, change := true, placed := [(524416, 0)], snap := none, free := false }
def wv19007 : KvDone :=
  { writes := [(458752, (List.replicate 6 0x00#8 ++ [0x80#8, 0x3f#8, 0xff#8, 0xff#8, 0xff#8, 0xff#8, 0x00#8, 0x00#8, 0x00#8, 0x40#8, 0xff#8, 0xff#8, 0xff#8, 0xff#8, 0x00#8, 0x00#8, 0x00#8, 0x00#8])), (327704, [0x01#8, 0x00#8, 0x00#8, 0x00#8, 0x01#8, 0x00#8, 0x00#8, 0x00#8]), (327756, [0x01#8, 0x00#8, 0x00#8, 0x00#8])], rows := 0, evict := 0, change := true, placed := [], snap := none, free := false }
def wv19008 : KvDone :=
  { writes := [(458752, ([0xff#8, 0xff#8, 0xff#8, 0xff#8, 0x00#8, 0x00#8, 0x80#8, 0x3f#8, 0x01#8] ++ List.replicate 6 0x00#8 ++ [0x40#8, 0xff#8, 0xff#8, 0xff#8, 0xff#8, 0x00#8, 0x00#8, 0x00#8, 0x00#8])), (327704, [0x02#8, 0x00#8, 0x00#8, 0x00#8, 0x01#8, 0x00#8, 0x00#8, 0x00#8]), (327756, [0x01#8, 0x00#8, 0x00#8, 0x00#8]), (327760, [0x01#8, 0x00#8, 0x00#8, 0x00#8, 0x00#8, 0x00#8, 0x00#8, 0x00#8])], rows := 0, evict := 1, change := true, placed := [], snap := none, free := false }
def wv19009 : KvDone :=
  { writes := [(458752, (List.replicate 6 0x00#8 ++ [0x80#8, 0x3f#8, 0xff#8, 0xff#8, 0xff#8, 0xff#8, 0x00#8, 0x00#8, 0x00#8, 0x40#8, 0xff#8, 0xff#8, 0xff#8, 0xff#8, 0x00#8, 0x00#8, 0x00#8, 0x00#8])), (327704, [0x02#8, 0x00#8, 0x00#8, 0x00#8, 0x01#8, 0x00#8, 0x00#8, 0x00#8]), (327756, [0x01#8, 0x00#8, 0x00#8, 0x00#8])], rows := 0, evict := 0, change := true, placed := [], snap := none, free := false }
/-- Hypotheses of the clauses 1.1; 2.1; 2.2; 2.3; 2.4; 4.1; 4.2; 4.3; 4.4; 4.5; 4.6; 3.1; 3.2; 1.2; 1.3; 1.4; 1.5; 1.6
of `Obligations.KvOpsChangeTheSequence`. -/
theorem witness_KvOpsChangeTheSequence :
    ((wKvB.dmaServes 3 0 dKv1 ∧ dKv1.op = 5 ∧ wKvB.kvBusy 3 dKv1 = false ∧ kvOpen wKvB 3 dKv1 = Except.error
         { status := 7, addr := 0 } ∧ kvKop dKv1 = 1)) ∧
    ((wKvL1.dmaServes 3 0 dKv1 ∧ dKv1.op = 5 ∧ wKvL1.kvBusy 3 dKv1 = false ∧ kvOpen wKvL1 3 dKv1 = Except.ok wv19000 ∧
         wv19000.score = false ∧ kvEffect wKvL1 3 wv19000 dKv1 = Except.ok wv19001 ∧ wKvL1.writesErr 3 wv19001.writes
         = none ∧ wKvL1.hbmWrites wv19001.writes)
      ∧ (kvKop dKv1 = 1)) ∧
    ((wKvL2.dmaServes 3 0 dKv2 ∧ dKv2.op = 5 ∧ wKvL2.kvBusy 3 dKv2 = false ∧ kvOpen wKvL2 3 dKv2 = Except.ok wv19000 ∧
         wv19000.score = false ∧ kvEffect wKvL2 3 wv19000 dKv2 = Except.ok wv19002 ∧ wKvL2.writesErr 3 wv19002.writes
         = none ∧ wKvL2.hbmWrites wv19002.writes)
      ∧ (kvKop dKv2 = 2)) ∧
    ((wKvL3.dmaServes 3 0 dKv3 ∧ dKv3.op = 5 ∧ wKvL3.kvBusy 3 dKv3 = false ∧ kvOpen wKvL3 3 dKv3 = Except.ok wv19000 ∧
         wv19000.score = false ∧ kvEffect wKvL3 3 wv19000 dKv3 = Except.ok wv19003 ∧ wKvL3.writesErr 3 wv19003.writes
         = none ∧ wKvL3.hbmWrites wv19003.writes)
      ∧ (kvKop dKv3 = 3 ∧ kvEmode dKv3 = 0)) ∧
    ((wKvL6.dmaServes 3 0 dKv6 ∧ dKv6.op = 5 ∧ wKvL6.kvBusy 3 dKv6 = false ∧ kvOpen wKvL6 3 dKv6 = Except.ok wv19000 ∧
         wv19000.score = false ∧ kvEffect wKvL6 3 wv19000 dKv6 = Except.ok wv19004 ∧ wKvL6.writesErr 3 wv19004.writes
         = none ∧ wKvL6.hbmWrites wv19004.writes)
      ∧ (kvKop dKv6 = 4)) ∧
    ((wKvS1.dmaServes 3 0 dKv1 ∧ dKv1.op = 5 ∧ wKvS1.kvBusy 3 dKv1 = false ∧ kvOpen wKvS1 3 dKv1 = Except.ok wv19005 ∧
         wv19005.score = true ∧ wKvS1.scoreGrant 3 wv19005 = Grant.yes ∧ kvEffect wKvS1 3 wv19005 dKv1 = Except.ok
         wv19006 ∧ (wKvS1.scoreRegister 3 wv19005.at').writesErr 3 wv19006.writes = none)
      ∧ (wKvS1.hbmWrites wv19006.writes ∧ kvKop dKv1 = 1)) ∧
    ((wKvS2.dmaServes 3 0 dKv2 ∧ dKv2.op = 5 ∧ wKvS2.kvBusy 3 dKv2 = false ∧ kvOpen wKvS2 3 dKv2 = Except.ok wv19005 ∧
         wv19005.score = true ∧ wKvS2.scoreGrant 3 wv19005 = Grant.yes ∧ kvEffect wKvS2 3 wv19005 dKv2 = Except.ok
         wv19002 ∧ (wKvS2.scoreRegister 3 wv19005.at').writesErr 3 wv19002.writes = none)
      ∧ (wKvS2.hbmWrites wv19002.writes ∧ kvKop dKv2 = 2)) ∧
    ((wKvS3.dmaServes 3 0 dKv3 ∧ dKv3.op = 5 ∧ wKvS3.kvBusy 3 dKv3 = false ∧ kvOpen wKvS3 3 dKv3 = Except.ok wv19005 ∧
         wv19005.score = true ∧ wKvS3.scoreGrant 3 wv19005 = Grant.yes ∧ kvEffect wKvS3 3 wv19005 dKv3 = Except.ok
         wv19007 ∧ (wKvS3.scoreRegister 3 wv19005.at').writesErr 3 wv19007.writes = none)
      ∧ (wKvS3.hbmWrites wv19007.writes ∧ kvKop dKv3 = 3 ∧ kvEmode dKv3 = 0)) ∧
    ((wKvS4.dmaServes 3 0 dKv4 ∧ dKv4.op = 5 ∧ wKvS4.kvBusy 3 dKv4 = false ∧ kvOpen wKvS4 3 dKv4 = Except.ok wv19005 ∧
         wv19005.score = true ∧ wKvS4.scoreGrant 3 wv19005 = Grant.yes ∧ kvEffect wKvS4 3 wv19005 dKv4 = Except.ok
         wv19008 ∧ (wKvS4.scoreRegister 3 wv19005.at').writesErr 3 wv19008.writes = none)
      ∧ (wKvS4.hbmWrites wv19008.writes ∧ kvKop dKv4 = 3 ∧ kvEmode dKv4 = 1)) ∧
    ((wKvS5.dmaServes 3 0 dKv5 ∧ dKv5.op = 5 ∧ wKvS5.kvBusy 3 dKv5 = false ∧ kvOpen wKvS5 3 dKv5 = Except.ok wv19005 ∧
         wv19005.score = true ∧ wKvS5.scoreGrant 3 wv19005 = Grant.yes ∧ kvEffect wKvS5 3 wv19005 dKv5 = Except.ok
         wv19009 ∧ (wKvS5.scoreRegister 3 wv19005.at').writesErr 3 wv19009.writes = none)
      ∧ (wKvS5.hbmWrites wv19009.writes ∧ kvKop dKv5 = 3 ∧ kvEmode dKv5 = 2)) ∧
    ((wKvS6.dmaServes 3 0 dKv6 ∧ dKv6.op = 5 ∧ wKvS6.kvBusy 3 dKv6 = false ∧ kvOpen wKvS6 3 dKv6 = Except.ok wv19005 ∧
         wv19005.score = true ∧ wKvS6.scoreGrant 3 wv19005 = Grant.yes ∧ kvEffect wKvS6 3 wv19005 dKv6 = Except.ok
         wv19004 ∧ (wKvS6.scoreRegister 3 wv19005.at').writesErr 3 wv19004.writes = none)
      ∧ (wKvS6.hbmWrites wv19004.writes ∧ kvKop dKv6 = 4)) ∧
    ((wKvL4.dmaServes 3 0 dKv4 ∧ dKv4.op = 5 ∧ wKvL4.kvBusy 3 dKv4 = false ∧ kvOpen wKvL4 3 dKv4 = Except.ok wv19000 ∧
         wv19000.score = false ∧ kvKop dKv4 = 3 ∧ kvEmode dKv4 = 1)) ∧
    ((wKvL5.dmaServes 3 0 dKv5 ∧ dKv5.op = 5 ∧ wKvL5.kvBusy 3 dKv5 = false ∧ kvOpen wKvL5 3 dKv5 = Except.ok wv19000 ∧
         wv19000.score = false ∧ kvKop dKv5 = 3 ∧ kvEmode dKv5 = 2)) ∧
    ((wKvB2.dmaServes 3 0 dKv2 ∧ dKv2.op = 5 ∧ wKvB2.kvBusy 3 dKv2 = false ∧ kvOpen wKvB2 3 dKv2 = Except.error
         { status := 7, addr := 0 } ∧ kvKop dKv2 = 2)) ∧
    ((wKvB3.dmaServes 3 0 dKv3 ∧ dKv3.op = 5 ∧ wKvB3.kvBusy 3 dKv3 = false ∧ kvOpen wKvB3 3 dKv3 = Except.error
         { status := 7, addr := 0 } ∧ kvKop dKv3 = 3 ∧ kvEmode dKv3 = 0)) ∧
    ((wKvB4.dmaServes 3 0 dKv4 ∧ dKv4.op = 5 ∧ wKvB4.kvBusy 3 dKv4 = false ∧ kvOpen wKvB4 3 dKv4 = Except.error
         { status := 7, addr := 0 } ∧ kvKop dKv4 = 3 ∧ kvEmode dKv4 = 1)) ∧
    ((wKvB5.dmaServes 3 0 dKv5 ∧ dKv5.op = 5 ∧ wKvB5.kvBusy 3 dKv5 = false ∧ kvOpen wKvB5 3 dKv5 = Except.error
         { status := 7, addr := 0 } ∧ kvKop dKv5 = 3 ∧ kvEmode dKv5 = 2)) ∧
    ((wKvB6.dmaServes 3 0 dKv6 ∧ dKv6.op = 5 ∧ wKvB6.kvBusy 3 dKv6 = false ∧ kvOpen wKvB6 3 dKv6 = Except.error
         { status := 7, addr := 0 } ∧ kvKop dKv6 = 4)) :=
  by refine ⟨?_, ⟨?_, ?_⟩, ⟨?_, ?_⟩, ⟨?_, ?_⟩, ⟨⟨?_, ?_⟩, ⟨?_, ?_⟩, ⟨?_, ?_⟩, ⟨?_, ?_⟩, ⟨⟨?_, ?_⟩, ⟨?_, ?_⟩, ⟨?_, ?_⟩,
      ?_, ⟨?_, ?_, ?_, ?_, ⟨?_, ?_⟩⟩⟩⟩⟩ <;> decide +kernel

def wv20000 : Desc :=
  { num := 0, raw := 10651780747108497932899351772956007081977241175912155562151410490056524167436991654775865867061839691809012783254710779907, poison := false, phase := Sys2Proof.Machine.Phase.waiting, status := 0, detail := 0, inJob := none, slot := 0, start := 0, order := 0, waited := false, attempt := 0, units := [] }
def wv20001 : Desc :=
  { num := 0, raw := 199467804785891990197883811993429358304637857669098077001147159517453356677687429384309786596916555611547045676316824304038848717755063992323, poison := false, phase := Sys2Proof.Machine.Phase.waiting, status := 0, detail := 0, inJob := none, slot := 0, start := 0, order := 0, waited := false, attempt := 0, units := [] }
def wv20002 : Desc :=
  { num := 0, raw := 10651780747108497932899351772956007081977241175912155562151410515164931108983714710119023559892505356218434561110848831491, poison := false, phase := Sys2Proof.Machine.Phase.started, status := 0, detail := 0, inJob := none, slot := 0, start := 0, order := 0, waited := false, attempt := 0, units := [144] }
def wv20003 : Coll :=
  { tag := 7, list := [(0, 4)], cop := 1, red := 0, fmt := 0, elems := 4, dst := 270336, recv := 0, joined := [{ rank := 0, ctx := 3, num := 0, pushed := false }] }
def wv20004 : Desc :=
  { num := 0, raw := 199467804785891990197883811993429358304637857669098077001147159517453356677687429409418193538463278666890203369147489968448270495611202043907, poison := false, phase := Sys2Proof.Machine.Phase.started, status := 0, detail := 0, inJob := none, slot := 0, start := 0, order := 0, waited := false, attempt := 0, units := [144] }
def wv20005 : Coll :=
  { tag := 7, list := [(0, 4)], cop := 2, red := 0, fmt := 13, elems := 4, dst := 270336, recv := 274432, joined := [{ rank := 0, ctx := 3, num := 0, pushed := false }] }
def wv20006 : List Byte := ([0x01#8, 0x02#8, 0x03#8, 0x04#8] ++ List.replicate 12 0x00#8)
def wv20007 : Coll :=
  { tag := 7, list := [(0, 4)], cop := 2, red := 0, fmt := 13, elems := 4, dst := 270336, recv := 274432, joined := [{ rank := 0, ctx := 3, num := 0, pushed := true }] }
def wv20008 : List Byte := ([0x00#8, 0x00#8, 0x80#8, 0x3f#8] ++ List.replicate 12 0x00#8)
/-- Hypotheses of the clauses 1.1; 1.2; 2.1; 2.2; 3 of `Obligations.CollectivesWriteAndCombine`. -/
theorem witness_CollectivesWriteAndCombine :
    ((wCo0.ready 3 0 wv20000 ∧ wv20000.op = 3 ∧ collDescOk wv20000 = false ∧ collCop wv20000 ≠ 2)) ∧
    ((wCo1.ready 3 0 wv20001 ∧ wv20001.op = 3 ∧ collDescOk wv20001 = false ∧ collCop wv20001 = 2)) ∧
    ((wCo2.dmaServes 3 0 wv20002 ∧ wv20002.op = 3 ∧ wCo2.coll (collTag wv20002) = some wv20003 ∧ List.find? (fun m =>
         m.ctx == 3 && m.num == 0) wv20003.joined = some ({ rank := 0, ctx := 3, num := 0, pushed := false } :
         CollMember) ∧ ({ rank := 0, ctx := 3, num := 0, pushed := false } : CollMember).pushed = false ∧ collPlace
         wCo2 3 wv20002 wv20003 = Placed.die 0 ∧ wCo2.engRead 3 (collSrc wv20002) wv20003.len = Got.ok [1#8, 2#8, 3#8,
         4#8] ∧ wCo2.engineErr 3 Want.wr (wv20003.slot (collRank wv20002)) [1#8, 2#8, 3#8, 4#8].length = none)
      ∧ (wCo2.storable (wv20003.slot (collRank wv20002)) [1#8, 2#8, 3#8, 4#8].length ∧ collCop wv20002 = 1)) ∧
    ((wCo3.dmaServes 3 0 wv20004 ∧ wv20004.op = 3 ∧ wCo3.coll (collTag wv20004) = some wv20005 ∧ List.find? (fun m =>
         m.ctx == 3 && m.num == 0) wv20005.joined = some ({ rank := 0, ctx := 3, num := 0, pushed := false } :
         CollMember) ∧ ({ rank := 0, ctx := 3, num := 0, pushed := false } : CollMember).pushed = false ∧ collPlace
         wCo3 3 wv20004 wv20005 = Placed.die 0 ∧ wCo3.engRead 3 (collSrc wv20004) wv20005.len = Got.ok wv20006 ∧
         wCo3.engineErr 3 Want.wr (wv20005.slot (collRank wv20004)) wv20006.length = none)
      ∧ (wCo3.storable (wv20005.slot (collRank wv20004)) wv20006.length ∧ collCop wv20004 = 2 ∧ wv20005.cop = 2)) ∧
    ((wCo4.desc 3 0 = some wv20004 ∧ wCo4.coll (collTag wv20004) = some wv20007 ∧ wv20007.cop = 2 ∧ wCo4.collLeads
         wv20007 3 0 = true ∧ wCo4.collAll wv20007 = true ∧ wCo4.jobLive 3 wv20004 = true ∧ fmtOfCode wv20007.fmt =
         some Fmt.fp32 ∧ wCo4.engRead 3 wv20007.recv (wv20007.off wv20007.list.length) = Got.ok wv20008)
      ∧ (wCo4.engineErr 3 Want.wr wv20007.dst (packElems Fmt.fp32.bits (List.map (fun i => (convertVal Fmt.fp32 false
         (combine Fmt.fp32 (wv20007.red == 1) (List.map (fun r => collElem wv20008 wv20007 Fmt.fp32 r i) (List.range
         wv20007.list.length)))).bits) (List.range wv20007.elems))).length = none ∧ wCo4.storable wv20007.dst
         (packElems Fmt.fp32.bits (List.map (fun i => (convertVal Fmt.fp32 false (combine Fmt.fp32 (wv20007.red == 1)
         (List.map (fun r => collElem wv20008 wv20007 Fmt.fp32 r i) (List.range wv20007.list.length)))).bits)
         (List.range wv20007.elems))).length)) :=
  by refine ⟨?_, ?_, ⟨?_, ?_⟩, ⟨?_, ?_⟩, ⟨?_, ?_⟩⟩ <;> decide +kernel

/-! ### ctx -/

def wCx0 : State := ctxRings U 63
def wCx1 : State := U
def wCx2 : State := wr U (rHUB_CTX_STATUS 63) fHUB_CTX_STATUS_STATE 2
def wCx3 : State := withJob (ctxOn U 63) 63 J0
def wSl0 : State := sets wCx3 [(rHUB_SLOT_CFG 63, fHUB_SLOT_CFG_KIND, 1), (rHUB_SLOT_CFG 63, fHUB_SLOT_CFG_OWNER, 63)]
def wSl1 : State := sets U [(rHUB_SLOT_CFG 63, fHUB_SLOT_CFG_KIND, 2), (rPC_PLAN_CFG, fPC_PLAN_CFG_ENABLE, 1), (rPC_PLAN_CFG, fPC_PLAN_CFG_SLOT, 63)]
def wDb0 : State := ctxOn U 63
def dTS : Nat := fields [(0, 11), (128, 0x40000)]
def wFe0 : State := put (wr (ctxOn U 63) (rDB_SQ_TAIL 63) fDB_SQ_TAIL_COUNT 1) 0x100000 (leBytes 64 dTS)
def wFe1 : State := wr (ctxOn U 63) (rDB_SQ_TAIL 63) fDB_SQ_TAIL_COUNT 1
def wFe2 : State := (wr (ctxOn U 63) (rDB_SQ_TAIL 63) fDB_SQ_TAIL_COUNT 1).modMem (fun m => { m with poison := [0x100000 / 32] })
def dFin : Desc := { num := 0, raw := fields [(0, 11), (13, 1)], phase := .finished }
def wFe3 : State := withDesc (wr (ctxOn U 63) (rHUB_CTX_CFG 63) fHUB_CTX_CFG_IRQ_EN 1) 63 dFin
def wFe4 : State := wr wFe3 (rHUB_CTX_PTRS 63) fHUB_CTX_PTRS_CQ_TAIL 64
def wFe5 : State := wr wFe4 (rHUB_CTX_STATUS 63) fHUB_CTX_STATUS_STATE 2
def wFe6 : State := put (wr (ctxOn U 63) (rDB_SQ_TAIL 63) fDB_SQ_TAIL_COUNT 1) 0x100000 (leBytes 64 (fields [(0, 6)]))

/-- Hypotheses of the clauses 1.2, 1.4, 2.1, 2.2, 2.3, 2.4, 2.5.1; 1.3, 1.5; 1.1; 2.5.2 of
`Obligations.ContextsAreConfiguredEnabledAndDrained`. -/
theorem witness_ContextsAreConfiguredEnabledAndDrained :
    ((0 < 64 ∧ 0 < wSl0.hub.ctxs.length ∧ wSl0.accepts hart (rHUB_CTX_CFG 0) ∧ wSl0.ctxState 0 = 0 ∧ (wSl0.ringsOk 0
         && wSl0.classOk 0) = false ∧ 63 < 64 ∧ 63 < wSl0.hub.ctxs.length ∧ wSl0.accepts hart (rHUB_CTX_CFG 63))
      ∧ (wSl0.ctxState 63 = 1 ∧ 5112 % 8 = 0 ∧ wSl0.accepts hart (ctxBase 0 + 5112) ∧ ctxGuarded 5112 = true ∧
         wSl0.accepts hart (ctxBase 63 + 5112) ∧ wSl0.ctxState 63 ≠ 0 ∧ wSl0.accepts hart (ctxBase 63) ∧
         fHUB_CTX_CFG_ENABLE.get 1 = 1)
      ∧ (wSl0.accepts hart (rHUB_SLOT_CFG 0) ∧ (fHUB_SLOT_CFG_KIND.get 0 = wSl0.rf (rHUB_SLOT_CFG 0) fHUB_SLOT_CFG_KIND ∧
         fHUB_SLOT_CFG_OWNER.get 0 = wSl0.rf (rHUB_SLOT_CFG 0) fHUB_SLOT_CFG_OWNER ∨ wSl0.rf (rHUB_SLOT_CFG 0)
         fHUB_SLOT_CFG_KIND = 1 ∧ wSl0.ctxState (wSl0.rf (rHUB_SLOT_CFG 0) fHUB_SLOT_CFG_OWNER) = 0 ∨ wSl0.rf
         (rHUB_SLOT_CFG 0) fHUB_SLOT_CFG_KIND = 2 ∧ wSl0.planUsesSlot 0 = false ∨ wSl0.rf (rHUB_SLOT_CFG 0)
         fHUB_SLOT_CFG_KIND = 0) ∧ wSl0.accepts hart (rHUB_SLOT_CFG 63) ∧ (fHUB_SLOT_CFG_KIND.get 0 ≠ wSl0.rf
         (rHUB_SLOT_CFG 63) fHUB_SLOT_CFG_KIND ∨ fHUB_SLOT_CFG_OWNER.get 0 ≠ wSl0.rf (rHUB_SLOT_CFG 63)
         fHUB_SLOT_CFG_OWNER) ∧ wSl0.rf (rHUB_SLOT_CFG 63) fHUB_SLOT_CFG_KIND = 1 ∧ wSl0.ctxState (wSl0.rf
         (rHUB_SLOT_CFG 63) fHUB_SLOT_CFG_OWNER) ≠ 0)) ∧
    ((63 < 64 ∧ 63 < wCx2.hub.ctxs.length ∧ wCx2.accepts hart (rHUB_CTX_CFG 63) ∧ wCx2.ctxState 63 = 2 ∧ (wCx2.ctx
         63).window = [] ∧ (wCx2.ctx 63).job = none ∧ (wCx2.ctx 63).rest = [])) ∧
    ((63 < 64 ∧ 63 < wCx0.hub.ctxs.length ∧ wCx0.accepts hart (rHUB_CTX_CFG 63) ∧ wCx0.ctxState 63 = 0 ∧ wCx0.ringsOk
         63 = true ∧ wCx0.classOk 63 = true)) ∧
    ((63 < 64 ∧ wSl1.accepts hart (rHUB_SLOT_CFG 63) ∧ (fHUB_SLOT_CFG_KIND.get 0 ≠ wSl1.rf (rHUB_SLOT_CFG 63)
         fHUB_SLOT_CFG_KIND ∨ fHUB_SLOT_CFG_OWNER.get 0 ≠ wSl1.rf (rHUB_SLOT_CFG 63) fHUB_SLOT_CFG_OWNER) ∧ wSl1.rf
         (rHUB_SLOT_CFG 63) fHUB_SLOT_CFG_KIND = 2 ∧ wSl1.planUsesSlot 63 = true)) :=
  by refine ⟨⟨?_, ?_, ?_⟩, ?_, ?_, ?_⟩ <;> decide +kernel

/-- Hypotheses of the clauses 1, 2, 3, 4 of `Obligations.DoorbellsAndHeadsStayInRange`. -/
theorem witness_DoorbellsAndHeadsStayInRange :
    ((0 < 64 ∧ 0 < 2 ^ 32 ∧ wDb0.accepts hart (rDB_SQ_TAIL 0) ∧ sub32 0 (wDb0.sqHead 0) ≤ wDb0.sqSize 0 ∧ sub32 0
         (wDb0.sqTail 0) ≤ wDb0.sqSize 0 ∧ 2 < 2 ^ 32 ∧ (¬(sub32 2 (wDb0.sqHead 0) ≤ wDb0.sqSize 0 ∧ sub32 2
         (wDb0.sqTail 0) ≤ wDb0.sqSize 0)) ∧ wDb0.accepts hart (rDB_CQ_HEAD 0))
      ∧ (sub32 0 (wDb0.cqHead 0) ≤ sub32 (wDb0.cqTail 0) (wDb0.cqHead 0) ∧ sub32 (wDb0.cqTail 0) (wDb0.cqHead 0) < sub32
         2 (wDb0.cqHead 0))) :=
  by refine ⟨?_, ?_⟩ <;> decide +kernel

def wv23000 : List Byte := ([0x0b#8] ++ List.replicate 17 0x00#8 ++ [0x04#8] ++ List.replicate 45 0x00#8)
def wv23001 : List Byte := (List.replicate 64 0x00#8)
/-- Hypotheses of the clauses 1.1; 1.2; 1.3; 2; 3.1; 3.2 of `Obligations.DescriptorsAreFetchedAndRecorded`. -/
theorem witness_DescriptorsAreFetchedAndRecorded :
    ((63 < 64 ∧ 63 < wFe0.hub.ctxs.length ∧ wFe0.ctxState 63 = 1 ∧ wFe0.powerState < 2 ∧ (wFe0.ctx 63).window.length <
         32 ∧ (wFe0.ctx 63).rest = [] ∧ (wFe0.ctx 63).replayNext = none ∧ (wFe0.ctx 63).ended = none)
      ∧ ((wFe0.ctx 63).openFor = none ∧ wFe0.sqHead 63 ≠ wFe0.sqTail 63 ∧ (∀ y ∈ (wFe0.ctx 63).window, y.num ≠ (wFe0.ctx
         63).count) ∧ ({ num := 0, raw := leNat (leBytes 64 dTS), slot := 1048576 } : Desc).num = (wFe0.ctx 63).count
         ∧ wFe0.engRead 63 (wFe0.sqBase 63 + ({ num := 0, raw := leNat (leBytes 64 dTS), slot := 1048576 } : Desc).num
         % wFe0.sqSize 63 * 64) 64 = Got.ok wv23000 ∧ ({ num := 0, raw := leNat (leBytes 64 dTS), slot := 1048576 } :
         Desc) =
         { num := ({ num := 0, raw := leNat (leBytes 64 dTS), slot := 1048576 } : Desc).num, raw := leNat wv23000, slot := wFe0.sqBase 63 + ({ num := 0, raw := leNat (leBytes 64 dTS), slot := 1048576 } : Desc).num % wFe0.sqSize 63 * 64 }
         ∧ wFe0.fetchOk 63 ({ num := 0, raw := leNat (leBytes 64 dTS), slot := 1048576 } : Desc) = true)) ∧
    ((63 < 64 ∧ 63 < wFe1.hub.ctxs.length ∧ wFe1.ctxState 63 = 1 ∧ wFe1.powerState < 2 ∧ (wFe1.ctx 63).window.length <
         32 ∧ (wFe1.ctx 63).rest = [] ∧ (wFe1.ctx 63).replayNext = none ∧ (wFe1.ctx 63).ended = none)
      ∧ ((wFe1.ctx 63).openFor = none ∧ wFe1.sqHead 63 ≠ wFe1.sqTail 63 ∧ (∀ y ∈ (wFe1.ctx 63).window, y.num ≠ (wFe1.ctx
         63).count) ∧ ({ num := 0, raw := 0, slot := 1048576 } : Desc).num = (wFe1.ctx 63).count ∧ wFe1.engRead 63
         (wFe1.sqBase 63 + ({ num := 0, raw := 0, slot := 1048576 } : Desc).num % wFe1.sqSize 63 * 64) 64 = Got.ok
         wv23001 ∧ ({ num := 0, raw := 0, slot := 1048576 } : Desc) =
         { num := ({ num := 0, raw := 0, slot := 1048576 } : Desc).num, raw := leNat wv23001, slot := wFe1.sqBase 63 + ({ num := 0, raw := 0, slot := 1048576 } : Desc).num % wFe1.sqSize 63 * 64 }
         ∧ wFe1.fetchOk 63 ({ num := 0, raw := 0, slot := 1048576 } : Desc) = false)) ∧
    ((63 < 64 ∧ 63 < wFe2.hub.ctxs.length ∧ wFe2.ctxState 63 = 1 ∧ wFe2.powerState < 2 ∧ (wFe2.ctx 63).window.length <
         32 ∧ (wFe2.ctx 63).rest = [] ∧ (wFe2.ctx 63).replayNext = none ∧ (wFe2.ctx 63).ended = none)
      ∧ ((wFe2.ctx 63).openFor = none ∧ wFe2.sqHead 63 ≠ wFe2.sqTail 63 ∧ (∀ y ∈ (wFe2.ctx 63).window, y.num ≠ (wFe2.ctx
         63).count) ∧ ({ num := 0, raw := leNat (leBytes 64 dTS), slot := 1048576 } : Desc).num = (wFe2.ctx 63).count
         ∧ wFe2.engRead 63 (wFe2.sqBase 63 + ({ num := 0, raw := leNat (leBytes 64 dTS), slot := 1048576 } : Desc).num
         % wFe2.sqSize 63 * 64) 64 = Got.err { status := 3, addr := 1048576 })) ∧
    ((63 < 64 ∧ 63 < wFe3.hub.ctxs.length ∧ wFe3.desc 63 0 = some dFin ∧ dFin.phase = Phase.finished ∧ wFe3.recordDue
         63 dFin = true ∧ wFe3.cqFull 63 = false ∧ wFe3.storable (wFe3.cqBase 63 + wFe3.cqTail 63 % wFe3.cqSize 63 *
         32) 32)) ∧
    ((63 < 64 ∧ 63 < wFe4.hub.ctxs.length ∧ wFe4.desc 63 0 = some dFin ∧ dFin.phase = Phase.finished ∧ wFe4.recordDue
         63 dFin = true ∧ wFe4.cqFull 63 = true ∧ wFe4.ctxState 63 ≠ 2)) ∧
    ((63 < 64 ∧ 63 < wFe5.hub.ctxs.length ∧ wFe5.desc 63 0 = some dFin ∧ dFin.phase = Phase.finished ∧ wFe5.recordDue
         63 dFin = true ∧ wFe5.cqFull 63 = true ∧ wFe5.ctxState 63 = 2)) :=
  by refine ⟨⟨?_, ?_⟩, ⟨?_, ?_⟩, ⟨?_, ?_⟩, ?_, ⟨?_, ?_⟩⟩ <;> decide +kernel

/-! ### desc -/

def dOf (op : Nat) (fl : List (Nat × Nat)) : Desc := { num := 0, raw := fields ([(0, op)] ++ fl) }
def waitSt (d : Desc) : State := withDesc (ctxOn U 3) 3 d
/-- A class above MAX_CLASS. -/
def refd (op : Nat) (fl : List (Nat × Nat)) : Desc := dOf op ([(12, 1), (8, 15)] ++ fl)
def hrow (c : Nat → Nat → Instr) (n : Nat) (f : Desc → Bool) : (Nat → Nat → Instr) × Nat × (Desc → Bool) := (c, n, f)
def dsRef : List Desc := [refd 1 [], refd 8 [], refd 6 [], refd 7 [], refd 9 [], refd 9 [(256, 1)], refd 9 [(256, 2)], refd 10 [], refd 11 [], refd 12 []]
def wRef : State := sets (dsRef.zipIdx.foldl (fun s d => withDesc s d.2 d.1) U) ((List.range 10).map (fun c => (rHUB_CTX_CFG c, fHUB_CTX_CFG_MAX_CLASS, 3)))
def wDs0 : State := waitSt (dOf 1 [(128, 0x10000), (272, 1)])
def wDs1 : State := withDesc (ctxOn R 3) 3 (dOf 1 [])
def wDs2 : State := waitSt (dOf 8 [])
def wDs3 : State := withJob (waitSt (dOf 6 [])) 3 { J0 with started := false, begun := false }
def wDs4 : State := waitSt (dOf 6 [])
def wDs5 : State := waitSt (dOf 7 [])
def wDs6 : State := waitSt (dOf 11 [(128, 0x40000)])
def slot5 (s : State) : State := sets s [(rHUB_SLOT_CFG 5, fHUB_SLOT_CFG_KIND, 1), (rHUB_SLOT_CFG 5, fHUB_SLOT_CFG_OWNER, 3)]
def wDs7 : State := slot5 (waitSt (dOf 12 [(128, 5), (192, 0x40000)]))
def wDs8 : State := put wDs7 0x40012 [0xFF, 0xFF]
def wDs9 : State := waitSt (dOf 12 [(128, 5), (192, 0x40000)])
def dSg (k : Nat) : Desc := dOf 9 [(128, 0x40000), (192, 5), (256, k)]
def wSg0 : State := put (waitSt (dSg 0)) 0x40000 [3]
def wSg1 : State := put (waitSt (dSg 1)) 0x40000 [3]
def wSg2 : State := put (waitSt (dSg 2)) 0x40000 [9]
def wSg3 : State := (waitSt (dSg 2)).modMem (fun m => { m with poison := [0x40000 / 32] })
def wSg4 : State := (waitSt (dSg 0)).modMem (fun m => { m with poison := [0x40000 / 32] })
def wSg5 : State := (waitSt (dSg 1)).modMem (fun m => { m with poison := [0x40000 / 32] })
def pp (c : Nat → Nat → Instr) (n : Nat) : (Nat → Nat → Instr) × Nat := (c, n)
def dWt (st : Phase) (us : Nat) : Desc := { dOf 10 [(128, 0x40000), (192, 5), (288, us)] with phase := st }
def wWt0 : State := put (waitSt (dWt .waiting 1)) 0x40000 [5]
def wWt1 : State := waitSt (dWt .waiting 1)
def wWt2 : State := put (waitSt (dWt .started 1)) 0x40000 [5]
def wWt3 : State := { waitSt (dWt .started 1) with time := { U.time with master := 2 ^ 60 } }
def wWt4 : State := waitSt (dWt .started 0)

def wv24000 : Desc :=
  { num := 0, raw := 497323236409786642155382248178206348777389643819507458678994875116544364828299572019210, poison := false, phase := Sys2Proof.Machine.Phase.started, status := 0, detail := 0, inJob := none, slot := 0, start := 0, order := 0, waited := false, attempt := 0, units := [] }
def wv24001 : List Byte := [0x00#8, 0x00#8, 0x00#8, 0x00#8, 0x00#8, 0x00#8, 0x00#8, 0x00#8]
def wv24002 : Desc :=
  { num := 0, raw := 7937, poison := false, phase := Sys2Proof.Machine.Phase.waiting, status := 0, detail := 0, inJob := none, slot := 0, start := 0, order := 0, waited := false, attempt := 0, units := [] }
def wv24003 : Desc :=
  { num := 0, raw := 7588550360256754183279148073529370729094202460245950628031427943815243225588826113, poison := false, phase := Sys2Proof.Machine.Phase.waiting, status := 0, detail := 0, inJob := none, slot := 0, start := 0, order := 0, waited := false, attempt := 0, units := [] }
def wv24004 : Desc :=
  { num := 0, raw := 1, poison := false, phase := Sys2Proof.Machine.Phase.waiting, status := 0, detail := 0, inJob := none, slot := 0, start := 0, order := 0, waited := false, attempt := 0, units := [] }
def wv24005 : Desc :=
  { num := 0, raw := 8, poison := false, phase := Sys2Proof.Machine.Phase.waiting, status := 0, detail := 0, inJob := none, slot := 0, start := 0, order := 0, waited := false, attempt := 0, units := [] }
def wv24006 : Desc :=
  { num := 0, raw := 6, poison := false, phase := Sys2Proof.Machine.Phase.waiting, status := 0, detail := 0, inJob := none, slot := 0, start := 0, order := 0, waited := false, attempt := 0, units := [] }
def wv24007 : Job :=
  { tag := 1, started := false, begun := false, beginNum := 0, mask := 0, deadline := 0, budget := 1, attempt := 0, manifest := 0, dies := 15, endSeen := false, replay := [], pos := 0, causes := [], abort := none, touched := [], used := [] }
def wv24008 : Desc :=
  { num := 0, raw := 7, poison := false, phase := Sys2Proof.Machine.Phase.waiting, status := 0, detail := 0, inJob := none, slot := 0, start := 0, order := 0, waited := false, attempt := 0, units := [] }
def wv24009 : Desc :=
  { num := 0, raw := 89202980794122492566142873090593446023921675, poison := false, phase := Sys2Proof.Machine.Phase.waiting, status := 0, detail := 0, inJob := none, slot := 0, start := 0, order := 0, waited := false, attempt := 0, units := [] }
def wv24010 : Desc :=
  { num := 0, raw := 1645504557321206042154970883969185109675053182506617022189666316, poison := false, phase := Sys2Proof.Machine.Phase.waiting, status := 0, detail := 0, inJob := none, slot := 0, start := 0, order := 0, waited := false, attempt := 0, units := [] }
def wv24011 : List Byte := (List.replicate 1024 0x00#8)
def wv24012 : List Byte := (List.replicate 18 0x00#8 ++ [0xff#8, 0xff#8] ++ List.replicate 1004 0x00#8)
def wv24013 : Desc :=
  { num := 0, raw := 31385508676933493022159741238530898223384867815766196486153, poison := false, phase := Sys2Proof.Machine.Phase.waiting, status := 0, detail := 0, inJob := none, slot := 0, start := 0, order := 0, waited := false, attempt := 0, units := [] }
def wv24014 : Desc :=
  { num := 0, raw := 115792089237316195454956493685621400875429725904171462262842451823679326126089, poison := false, phase := Sys2Proof.Machine.Phase.waiting, status := 0, detail := 0, inJob := none, slot := 0, start := 0, order := 0, waited := false, attempt := 0, units := [] }
def wv24015 : Desc :=
  { num := 0, raw := 231584178474632390878527478694309308728699710569812026302300035831592455766025, poison := false, phase := Sys2Proof.Machine.Phase.waiting, status := 0, detail := 0, inJob := none, slot := 0, start := 0, order := 0, waited := false, attempt := 0, units := [] }
def wv24016 : Desc :=
  { num := 0, raw := 497323236409786642155382248178206348777389643819507458678994875116544364828299572019210, poison := false, phase := Sys2Proof.Machine.Phase.waiting, status := 0, detail := 0, inJob := none, slot := 0, start := 0, order := 0, waited := false, attempt := 0, units := [] }
def wv24017 : List Byte := [0x05#8, 0x00#8, 0x00#8, 0x00#8, 0x00#8, 0x00#8, 0x00#8, 0x00#8]
def wv24018 : Desc :=
  { num := 0, raw := 31385508676933493022159741238530898223384867815766196486154, poison := false, phase := Sys2Proof.Machine.Phase.started, status := 0, detail := 0, inJob := none, slot := 0, start := 0, order := 0, waited := false, attempt := 0, units := [] }
/-- Hypotheses of the clauses 1.1; 2.3.2, 2.4.1; 1.2.1; 1.2.2; 1.2.3; 1.2.4; 1.2.5; 1.2.6; 1.2.7; 1.2.8.1; 1.2.8.2;
1.2.9; 2.1.1.1; 2.1.1.2; 2.1.1.3; 2.1.2.3; 2.2; 2.3.1; 2.4.2; 2.1.2.1; 2.1.2.2 of
`Obligations.DescriptorsStartAndUseSemaphores`. -/
theorem witness_DescriptorsStartAndUseSemaphores :
    ((wRef.desc 0 0 = some (refd 1 []) ∧ ((refd 1 []).op = (hrow Instr.kernel 1 fun x => true).2.1) ∧ ((hrow
         Instr.kernel 1 fun x => true).2.2 (refd 1 []) = true) ∧ wRef.startable 0 (refd 1 []) = true ∧ (wRef.depFailed
         0 (refd 1 []) || wRef.classRefused 0 (refd 1 [])) = true)
      ∧ ((hrow Instr.kernel 1 fun x => true) ∈ hubRows)) ∧
    ((wRef.desc 1 0 = some (refd 8 []) ∧ ((refd 8 []).op = (hrow Instr.fence 8 fun x => true).2.1) ∧ ((hrow
         Instr.fence 8 fun x => true).2.2 (refd 8 []) = true) ∧ wRef.startable 1 (refd 8 []) = true ∧ (wRef.depFailed
         1 (refd 8 []) || wRef.classRefused 1 (refd 8 [])) = true)
      ∧ ((hrow Instr.fence 8 fun x => true) ∈ hubRows)) ∧
    ((wRef.desc 2 0 = some (refd 6 []) ∧ ((refd 6 []).op = (hrow Instr.jobBegin 6 fun x => true).2.1) ∧ ((hrow
         Instr.jobBegin 6 fun x => true).2.2 (refd 6 []) = true) ∧ wRef.startable 2 (refd 6 []) = true ∧
         (wRef.depFailed 2 (refd 6 []) || wRef.classRefused 2 (refd 6 [])) = true)
      ∧ ((hrow Instr.jobBegin 6 fun x => true) ∈ hubRows)) ∧
    ((wRef.desc 3 0 = some (refd 7 []) ∧ ((refd 7 []).op = (hrow Instr.jobEnd 7 fun x => true).2.1) ∧ ((hrow
         Instr.jobEnd 7 fun x => true).2.2 (refd 7 []) = true) ∧ wRef.startable 3 (refd 7 []) = true ∧ (wRef.depFailed
         3 (refd 7 []) || wRef.classRefused 3 (refd 7 [])) = true)
      ∧ ((hrow Instr.jobEnd 7 fun x => true) ∈ hubRows)) ∧
    ((wRef.desc 4 0 = some (refd 9 []) ∧ ((refd 9 []).op = (hrow Instr.signalSet 9 fun d => d.at 32 1 == 0).2.1) ∧
         ((hrow Instr.signalSet 9 fun d => d.at 32 1 == 0).2.2 (refd 9 []) = true) ∧ wRef.startable 4 (refd 9 []) =
         true ∧ (wRef.depFailed 4 (refd 9 []) || wRef.classRefused 4 (refd 9 [])) = true)
      ∧ ((hrow Instr.signalSet 9 fun d => d.at 32 1 == 0) ∈ hubRows)) ∧
    ((wRef.desc 5 0 = some (refd 9 [(256, 1)]) ∧ ((refd 9 [(256, 1)]).op = (hrow Instr.signalAdd 9 fun d => d.at 32 1
         == 1).2.1) ∧ ((hrow Instr.signalAdd 9 fun d => d.at 32 1 == 1).2.2 (refd 9 [(256, 1)]) = true) ∧
         wRef.startable 5 (refd 9 [(256, 1)]) = true ∧ (wRef.depFailed 5 (refd 9 [(256, 1)]) || wRef.classRefused 5
         (refd 9 [(256, 1)])) = true)
      ∧ ((hrow Instr.signalAdd 9 fun d => d.at 32 1 == 1) ∈ hubRows)) ∧
    ((wRef.desc 6 0 = some (refd 9 [(256, 2)]) ∧ ((refd 9 [(256, 2)]).op = (hrow Instr.signalMax 9 fun d => d.at 32 1
         == 2).2.1) ∧ ((hrow Instr.signalMax 9 fun d => d.at 32 1 == 2).2.2 (refd 9 [(256, 2)]) = true) ∧
         wRef.startable 6 (refd 9 [(256, 2)]) = true ∧ (wRef.depFailed 6 (refd 9 [(256, 2)]) || wRef.classRefused 6
         (refd 9 [(256, 2)])) = true)
      ∧ ((hrow Instr.signalMax 9 fun d => d.at 32 1 == 2) ∈ hubRows)) ∧
    ((wRef.desc 7 0 = some (refd 10 []) ∧ ((refd 10 []).op = (hrow Instr.wait 10 fun x => true).2.1) ∧ ((hrow
         Instr.wait 10 fun x => true).2.2 (refd 10 []) = true) ∧ wRef.startable 7 (refd 10 []) = true ∧
         (wRef.depFailed 7 (refd 10 []) || wRef.classRefused 7 (refd 10 [])) = true)
      ∧ ((hrow Instr.wait 10 fun x => true) ∈ hubRows)) ∧
    ((wRef.desc 8 0 = some (refd 11 []) ∧ ((refd 11 []).op = (hrow Instr.timestamp 11 fun x => true).2.1) ∧ ((hrow
         Instr.timestamp 11 fun x => true).2.2 (refd 11 []) = true) ∧ wRef.startable 8 (refd 11 []) = true ∧
         (wRef.depFailed 8 (refd 11 []) || wRef.classRefused 8 (refd 11 [])) = true)
      ∧ ((hrow Instr.timestamp 11 fun x => true) ∈ hubRows)) ∧
    ((wRef.desc 9 0 = some (refd 12 []) ∧ ((refd 12 []).op = (hrow Instr.resultPost 12 fun d => d.at 17 1 == 0).2.1) ∧
         ((hrow Instr.resultPost 12 fun d => d.at 17 1 == 0).2.2 (refd 12 []) = true) ∧ wRef.startable 9 (refd 12 [])
         = true ∧ (wRef.depFailed 9 (refd 12 []) || wRef.classRefused 9 (refd 12 [])) = true)
      ∧ ((hrow Instr.resultPost 12 fun d => d.at 17 1 == 0) ∈ hubRows)) ∧
    ((wWt3.desc 3 0 = some wv24000 ∧ wv24000.op = 10 ∧ wv24000.phase = Phase.started ∧ wWt3.jobLive 3 wv24000 = true ∧
         wWt3.inHbm (wv24000.at 16 8) 8 ∧ wWt3.engRead 3 (wv24000.at 16 8) 8 = Got.ok wv24001 ∧ waitHolds (wv24000.at
         32 1) (leNat wv24001) (wv24000.at 24 8) = false ∧ wv24000.at 36 4 ≠ 0)
      ∧ (wv24000.start + wv24000.at 36 4 * 1000 ≤ wWt3.dtime)) ∧
    ((wDs0.ready 3 0 wv24003 ∧ wv24003.op = 1 ∧ wDs0.kernelDies 3 wv24003 = none)) ∧
    ((wDs1.ready 3 0 wv24004 ∧ wv24004.op = 1 ∧ wDs1.kernelDies 3 wv24004 = some (9, 0))) ∧
    ((wDs2.ready 3 0 wv24005 ∧ wv24005.op = 8)) ∧
    ((wDs3.ready 3 0 wv24006 ∧ wv24006.op = 6 ∧ (wDs3.ctx 3).job = some wv24007 ∧ wv24007.beginNum = 0 ∧
         wv24007.started = false)) ∧
    ((wDs4.ready 3 0 wv24006 ∧ wv24006.op = 6 ∧ (∀ (j : Job), (wDs4.ctx 3).job = some j → j.beginNum ≠ 0 ∨ j.started =
         true))) ∧
    ((wDs5.ready 3 0 wv24008 ∧ wv24008.op = 7)) ∧
    ((wDs6.ready 3 0 wv24009 ∧ wv24009.op = 11 ∧ wDs6.engineErr 3 Want.wr (wv24009.at 16 8) 8 = none ∧ wDs6.storable
         (wv24009.at 16 8) 8)) ∧
    ((wDs7.ready 3 0 wv24010 ∧ wv24010.op = 12 ∧ wv24010.at 17 1 = 0 ∧ 5 = wv24010.at 16 1 % 64 ∧ 5 <
         wDs7.hub.slots.cur.length ∧ wDs7.sh.on = false ∧ wDs7.rf (rHUB_SLOT_CFG 5) fHUB_SLOT_CFG_KIND = 1 ∧ wDs7.rf
         (rHUB_SLOT_CFG 5) fHUB_SLOT_CFG_OWNER = 3)
      ∧ (wDs7.engRead 3 (wv24010.at 24 8) 1024 = Got.ok wv24011 ∧ bytesOf (leNat wv24011) 18 2 ≤ 888)) ∧
    ((wDs8.ready 3 0 wv24010 ∧ wv24010.op = 12 ∧ wv24010.at 17 1 = 0 ∧ 5 = wv24010.at 16 1 % 64 ∧ 5 <
         wDs8.hub.slots.cur.length ∧ wDs8.sh.on = false ∧ wDs8.rf (rHUB_SLOT_CFG 5) fHUB_SLOT_CFG_KIND = 1 ∧ wDs8.rf
         (rHUB_SLOT_CFG 5) fHUB_SLOT_CFG_OWNER = 3)
      ∧ (wDs8.engRead 3 (wv24010.at 24 8) 1024 = Got.ok wv24012 ∧ 888 < bytesOf (leNat wv24012) 18 2)) ∧
    ((wDs9.ready 3 0 wv24010 ∧ wv24010.op = 12 ∧ wv24010.at 17 1 = 0 ∧ (wDs9.rf (rHUB_SLOT_CFG (wv24010.at 16 1 % 64))
         fHUB_SLOT_CFG_KIND ≠ 1 ∨ wDs9.rf (rHUB_SLOT_CFG (wv24010.at 16 1 % 64)) fHUB_SLOT_CFG_OWNER ≠ 3))) ∧
    ((wSg0.ready 3 0 wv24013 ∧ wv24013.op = 9 ∧ wSg0.engineErr 3 Want.both (wv24013.at 16 8) 8 = none ∧ wSg0.storable
         (wv24013.at 16 8) 8 ∧ wSg0.mem.poisoned (wv24013.at 16 8) 8 = false ∧ wv24013.at 32 1 = 0)) ∧
    ((wSg1.ready 3 0 wv24014 ∧ wv24014.op = 9 ∧ wSg1.engineErr 3 Want.both (wv24014.at 16 8) 8 = none ∧ wSg1.storable
         (wv24014.at 16 8) 8 ∧ wSg1.mem.poisoned (wv24014.at 16 8) 8 = false ∧ wv24014.at 32 1 = 1)) ∧
    ((wSg2.ready 3 0 wv24015 ∧ wv24015.op = 9 ∧ wSg2.engineErr 3 Want.both (wv24015.at 16 8) 8 = none ∧ wSg2.storable
         (wv24015.at 16 8) 8 ∧ wSg2.mem.poisoned (wv24015.at 16 8) 8 = false ∧ wv24015.at 32 1 = 2)) ∧
    ((wSg3.ready 3 0 wv24015 ∧ wv24015.op = 9 ∧ wSg3.engineErr 3 Want.both (wv24015.at 16 8) 8 = none ∧
         wSg3.mem.poisoned (wv24015.at 16 8) 8 = true ∧ wv24015.at 32 1 = 2)) ∧
    ((wWt0.ready 3 0 wv24016 ∧ wv24016.op = 10 ∧ wWt0.inHbm (wv24016.at 16 8) 8 ∧ wWt0.engRead 3 (wv24016.at 16 8) 8 =
         Got.ok wv24017)) ∧
    ((wWt2.desc 3 0 = some wv24000 ∧ wv24000.op = 10 ∧ wv24000.phase = Phase.started ∧ wWt2.jobLive 3 wv24000 = true ∧
         wWt2.inHbm (wv24000.at 16 8) 8 ∧ wWt2.engRead 3 (wv24000.at 16 8) 8 = Got.ok wv24017 ∧ waitHolds (wv24000.at
         32 1) (leNat wv24017) (wv24000.at 24 8) = true)) ∧
    ((wWt4.desc 3 0 = some wv24018 ∧ wv24018.op = 10 ∧ wv24018.phase = Phase.started ∧ wWt4.jobLive 3 wv24018 = true ∧
         wv24018.at 36 4 = 0)) ∧
    ((wSg4.ready 3 0 wv24013 ∧ wv24013.op = 9 ∧ wSg4.engineErr 3 Want.both (wv24013.at 16 8) 8 = none ∧
         wSg4.mem.poisoned (wv24013.at 16 8) 8 = true ∧ wv24013.at 32 1 = 0)) ∧
    ((wSg5.ready 3 0 wv24014 ∧ wv24014.op = 9 ∧ wSg5.engineErr 3 Want.both (wv24014.at 16 8) 8 = none ∧
         wSg5.mem.poisoned (wv24014.at 16 8) 8 = true ∧ wv24014.at 32 1 = 1)) :=
  by refine ⟨⟨?_, by simp [hubRows, hrow]⟩, ⟨?_, by simp [hubRows, hrow]⟩, ⟨?_, by simp [hubRows, hrow]⟩, ⟨?_,
      by simp [hubRows, hrow]⟩, ⟨⟨?_, by simp [hubRows, hrow]⟩, ⟨?_, by simp [hubRows, hrow]⟩, ⟨?_,
      by simp [hubRows, hrow]⟩, ⟨?_, by simp [hubRows, hrow]⟩, ⟨⟨?_, by simp [hubRows, hrow]⟩, ⟨?_,
      by simp [hubRows, hrow]⟩, ⟨?_, ?_⟩, ?_, ⟨?_, ?_, ?_, ?_, ⟨?_, ?_, ⟨?_, ?_⟩, ⟨?_, ?_⟩, ⟨?_, ?_, ?_, ?_, ⟨?_, ?_,
      ?_, ?_, ⟨?_, ?_⟩⟩⟩⟩⟩⟩⟩⟩ <;> decide +kernel

/-! ### job -/

def jIn (n op : Nat) : Desc := { num := n, raw := op, inJob := some 0, phase := .started }
def cA (st : Nat) (rs : Bool) : Cause := { status := st, engine := 5, restart := rs, selfCheck := false, deadline := false, num := some 9 }
def wJb0 : State := withKernel (withDesc (withJob (ctxOn U 3) 3 { J0 with causes := [cA stDATA_POISON true] }) 3 (jIn 1 1)) { K0 with num := 1 }
def jAb (rs : Bool) (b : Nat) : Job := { J0 with abort := some (cA stDATA_POISON rs), budget := b, replay := [{ num := 1, raw := 1 }], pos := 1 }
def wJb1 : State := withDesc (withJob (ctxOn U 3) 3 (jAb true 1)) 3 (jIn 1 1)
def wJb2 : State := withDesc (withJob (ctxOn U 3) 3 (jAb true 0)) 3 (jIn 1 1)
def wJb3 : State := { withJob (ctxOn U 3) 3 { J0 with deadline := 1 } with time := { U.time with master := 2 ^ 60 } }
def wJb4 : State := withJob (ctxOn U 3) 3 { J0 with deadline := 1 }
def wJb5 : State := { withJob (ctxOn U 3) 3 { jAb true 0 with deadline := 1 } with time := { U.time with master := 2 ^ 60 } }

def wv25000 : Job :=
  { tag := 1, started := true, begun := true, beginNum := 0, mask := 0, deadline := 0, budget := 1, attempt := 0, manifest := 0, dies := 15, endSeen := false, replay := [], pos := 0, causes := [{ status := 3, engine := 5, restart := true, selfCheck := false, deadline := false, num := some 9 }], abort := none, touched := [], used := [] }
def wv25001 : Cause :=
  { status := 3, engine := 5, restart := true, selfCheck := false, deadline := false, num := some 9 }
def wv25002 : Job :=
  { tag := 1, started := true, begun := true, beginNum := 0, mask := 0, deadline := 1, budget := 0, attempt := 0, manifest := 0, dies := 15, endSeen := false, replay := [{ num := 1, raw := 1, poison := false, slot := 0, once := false }], pos := 1, causes := [], abort := some { status := 3, engine := 5, restart := true, selfCheck := false, deadline := false, num := some 9 }, touched := [], used := [] }
def wv25003 : Job :=
  { tag := 1, started := true, begun := true, beginNum := 0, mask := 0, deadline := 0, budget := 1, attempt := 0, manifest := 0, dies := 15, endSeen := false, replay := [{ num := 1, raw := 1, poison := false, slot := 0, once := false }], pos := 1, causes := [], abort := some { status := 3, engine := 5, restart := true, selfCheck := false, deadline := false, num := some 9 }, touched := [], used := [] }
/-- Hypotheses of the clauses 1, 4; 2.2, 3; 2.1 of `Obligations.JobsAbortRestartAndEnd`. -/
theorem witness_JobsAbortRestartAndEnd :
    (((wJb0.ctx 3).job = some wv25000 ∧ decisive wv25000.causes = some wv25001 ∧ wv25000.begun = true ∧ wv25000.abort
         = none ∧ (wv25000.begun = false ∨ wJb0.pastDeadline wv25000 = false))) ∧
    (((wJb5.ctx 3).job = some wv25002 ∧ wv25002.abort = some wv25001 ∧ (∀ (n : Nat), wv25001.num = some n → wJb5.desc
         3 n = none) ∧ (wv25001.restart && (wJb5.kvRestore 3 wv25002.touched).2 && decide (wv25002.attempt <
         wv25002.budget) && !(wv25001.deadline || wJb5.pastDeadline wv25002)) = false ∧ wv25002.begun = true ∧
         wJb5.pastDeadline wv25002 = true ∧ ((wv25002.causes.any fun x => x.deadline) = false))) ∧
    (((wJb1.ctx 3).job = some wv25003 ∧ wv25003.abort = some wv25001 ∧ (∀ (n : Nat), wv25001.num = some n → wJb1.desc
         3 n = none) ∧ wv25001.restart = true ∧ (wJb1.kvRestore 3 wv25003.touched).2 = true ∧ wv25003.attempt <
         wv25003.budget ∧ wv25001.deadline = false ∧ wJb1.pastDeadline wv25003 = false)) :=
  by refine ⟨?_, ?_, ?_⟩ <;> decide +kernel

/-! ### sens -/

/-- A header that R200 takes: one sensor, no templates, a 10 ms period, region spans in context 3. -/
def shHdr (l : List (Nat × Nat)) : Nat :=
  fields ([(0, 1), (16, 1), (56, 1), (64, 10000), (96, 1000), (192, 0x60000), (256, 1), (264, 3), (272, 2), (320, 0x70000), (448, 0x80000),
    (512, 0x61000), (576, 0x61000), (704, 1), (720, 1), (736, 1)] ++ l)
def camE : Nat := fields [(0, 1), (8, 2), (24, 0x2A), (128, 10000), (256, 0x90000), (320, 1024), (352, 4)]
def spiE : Nat := fields [(0, 3), (8, 1), (128, 1000), (256, 0x90000), (320, 128), (352, 4), (384, 0x62000)]
def C1 : ShCfg := { hdr := shHdr [], sens := [camE], param := [0], tone := [0], fact := [0], launch := [6] }
/-- The hub runs configuration `c` with one fresh sensor, changed by `f`, in context 3, which may write everything. -/
def shOn (c : ShCfg) (f : Sens → Sens) : State :=
  (rgn U 3).modSh (fun h => { h with on := true, cfg := c, sens := [f {}] })
def shBlock (h e : Nat) : State := put (put (put (rgn U 3) 0x50000 (leBytes 512 h)) 0x50200 (leBytes 64 e)) 0x60000 (leBytes 64 6)
def wEn0 : State := shBlock (shHdr []) camE
def wEn1 : State := wr (shBlock (shHdr []) camE) (rHUB_CTX_RGN_LIM 3 0) fHUB_CTX_RGN_LIM_LIMIT 0x10
def shW : Word := fSH_CFG_BLOCK.set (0 : Word) (0x50000 / 64)
def wEn2 : State := (shOn C1 id)
/-- The first `k` instants are released, at a time of window `k`. -/
def calmAt (k : Nat) (s : State) (ns : Nat) : State := (wr (shTime s ns) rSH_INSTANT fSH_INSTANT_NEXT k).modSh (fun h => { h with ended := k })
def CT : ShCfg := { C1 with hdr := shHdr [(32, 1), (40, 3), (128*8, 0x8000), (132*8, 10), (192*8+32*15, 100)] }
def wTr0 : State := shTime (shOn CT id) 21000000
def wTr1 : State := (shTime (shOn CT id) 21000000).modSh (fun h => { h with pulses := setAt h.pulses 15 (some 20000000) })
def line4 : List Byte := [1, 2, 3, 4]
def F0 : Frame := { counter := 7, stamp := 12000000, flags := 0, slot := 2, lines := [line4], bad := false }
def wCa0 : State := calmAt 1 (shOn C1 id) 12000000
def wCa1 : State := wr (calmAt 1 (shOn C1 (fun x => { x with busy := [0, 1, 2, 3] })) 12000000) rSH_CFG fSH_CFG_GUARD 1
def wCa2 : State := calmAt 1 (shOn C1 (fun x => { x with frame := some F0, busy := [2] })) 12000100
def feC : ShCfg := { C1 with sens := [camE + 2 ^ 40 + fields [(64, 8), (80, 8)]] }
def wCa3 : State := calmAt 1 (shOn feC (fun x => { x with frame := some F0, busy := [2] })) 12000100
def wCa4 : State := (wr wCa2 rSH_INSTANT fSH_INSTANT_NEXT 2)
def wCa5 : State := calmAt 1 (shOn C1 (fun x => { x with frame := some { F0 with bad := true }, busy := [2] })) 12000100
def wCa6 : State := calmAt 3 wCa2 32000000
def tplE : Nat := fields [(0, 15), (16, 4660), (48, 1), (64, 9000), (208, 96)]
def CE (k : Nat) (tpls : List Nat) (par : Nat) : ShCfg :=
  { C1 with hdr := shHdr [(24, tpls.length)], sens := [fields [(0, k), (8, 1), (128, 1000), (256, 0x90000), (320, 128), (352, 4)]], tpl := tpls, param := [par] }
def rx0 : EthRx := { mac := 3, len := 64, fcs := true, sums := true, udp := true, src := 0, sport := 1, dport := 4660, data := [1, 2, 3], room := true }
def wSe0 : State := calmAt 1 (shOn (CE 4 [tplE] 0) id) 12000000
def wSe1 : State := wr (calmAt 1 (shOn (CE 2 [tplE] 0) id) 12000000) rSH_INSTANT fSH_INSTANT_NEXT 2
def spiP : Nat := fields [(0, 2), (8, 4), (24, 1), (32, 0x8081), (96, 31)]
def wSe2 : State := calmAt 1 (shOn (CE 3 [] spiP) id) 12000000
def wSe3 : State := calmAt 1 (shOn (CE 3 [] spiP) (fun x => { x with xfer := some (5, 11000000), counter := 6 })) 12000000
def drdyOf (c : ShCfg) : ShCfg := { c with sens := c.sens.map (fun e => e + 2 ^ 33) }
def wSe4 : State := calmAt 1 (shOn (drdyOf (CE 3 [] spiP)) id) 12000000
def wSe5 : State := calmAt 1 (shOn (drdyOf (CE 3 [] spiP)) (fun x => { x with xfer := some (5, 11000000), counter := 6 })) 12000000
def wSe6 : State := calmAt 1 (shOn (CE 5 [] 0) id) 12000000
def waits (c : ShCfg) : ShCfg := { c with sens := c.sens.map (fun e => e + 2 ^ 32) }
def wIn0 : State := shTime (shOn (waits C1) id) 10000000
def wIn1 : State := shTime (shOn C1 id) 10000000
def wIn2 : State := shTime (shOn C1 id) 9999999
def wIn3 : State := (shTime (shOn (waits C1) id) 11000001).modSh (fun h => { h with ended := 1 })
def wIn4 : State := (wr (shTime (shOn C1 id) 70000000) rSH_CFG fSH_CFG_GUARD 1 |> (wr · rSH_INSTANT fSH_INSTANT_NEXT 5)).modSh (fun h => { h with ended := 6 })
def wIn5 : State := (ctxOn U 63).modSh (fun h => { h with launches := [{ ctx := 63, descs := [11], user := 5, man := 0x60000 }] })
def wIn6 : State := U.modSh (fun h => { h with launches := [{ ctx := 63, descs := [11], user := 5, man := 0x60000 }] })

def wv26000 : ShCfg :=
  { hdr := 361479302451077116021558636646255635548851065746252915199107768145254136553638053117659698972544869970930791670679050924304113666771785418205327284989028318231971583661894569283290497919368616746426860678151208785349246977, sens := [36695980043091868968785126994288860481154054692194590637350419506479631523358184772159996030946647572742657], tpl := [], launch := [6], ticks := [[], [], [], []], param := [0], tone := [0], fact := [0] }
/-- Hypotheses of the clauses 2, 3, 4, 5; 1.1, 1.2 of `Obligations.SensorHubIsEnabledFreedAndTriggered`. -/
theorem witness_SensorHubIsEnabledFreedAndTriggered :
    ((wTr1.accepts hart rSH_CFG ∧ wTr1.sh.on = true ∧ wTr1.accepts hart rSH_FREE_BEFORE ∧ wTr1.sh.cfg.trig = true ∧ 15
         < 16 ∧ 15 < wTr1.sh.edges.length ∧ 15 < wTr1.sh.pulses.length ∧ (wTr1.sh.cfg.at 128 2).testBit 15 = true)
      ∧ (wTr1.sh.epoch + wTr1.sh.cfg.trigDelay 15 ≤ wTr1.dtime ∧ 6 = (wTr1.dtime - (wTr1.sh.epoch + wTr1.sh.cfg.trigDelay
         15)) * wTr1.sh.cfg.trigDiv / wTr1.sh.cfg.period ∧ wTr1.sh.pulses[15]? = some (some 20000000) ∧ 20000000 +
         wTr1.sh.cfg.trigWidth ≤ wTr1.dtime)
      ∧ (∀ (e : Nat), wTr1.sh.edges[15]? = some (some e) → e < wTr1.sh.epoch + wTr1.sh.cfg.trigDelay 15 + 6 *
         wTr1.sh.cfg.period / wTr1.sh.cfg.trigDiv)) ∧
    ((wEn0.accepts hart rSH_CFG ∧ wEn0.sh.on = false ∧ (((wEn0.metBy hart rSH_CFG).wf rSH_CFG fSH_CFG_GUARD
         (fSH_CFG_GUARD.get shW)).wf rSH_CFG fSH_CFG_BLOCK (fSH_CFG_BLOCK.get shW)).readShCfg = Except.ok (wv26000,
         [0]) ∧ (((wEn0.metBy hart rSH_CFG).wf rSH_CFG fSH_CFG_GUARD (fSH_CFG_GUARD.get 0)).wf rSH_CFG fSH_CFG_BLOCK
         (fSH_CFG_BLOCK.get 0)).readShCfg = Except.error EnErr.block)) :=
  by refine ⟨⟨?_, ?_, fun e h => by rw [show wTr1.sh.edges[15]? = some none by decide +kernel] at h; cases h⟩, ?_⟩ <;> decide +kernel

def wv27000 : Frame :=
  { counter := 7, stamp := 12000000, flags := 0, slot := 2, lines := [[0x01#8, 0x02#8, 0x03#8, 0x04#8]], bad := false }
/-- Hypotheses of the clauses 1.3, 1.5, 3; 1.4, 1.7; 1.6, 2; 1.1; 1.2 of `Obligations.CameraFramesBecomeSamples`. -/
theorem witness_CameraFramesBecomeSamples :
    ((wCa2.shCalm ∧ 0 < wCa2.sh.sens.length ∧ 0 < 64 ∧ wCa2.streamOf 2 0 42 = some 0 ∧ (wCa2.sens 0).frame = some
         wv27000 ∧ senFeMode (wCa2.senE 0) = 0 ∧ 64 + wv27000.bytes.length + [1, 2].length ≤ senBytes (wCa2.senE 0) ∧
         wCa2.shWrites (wCa2.slotAddr 0 wv27000.slot + 64 + wv27000.bytes.length) [1, 2].length)
      ∧ (wv27000.bad = false ∧ wCa2.linesOk 0 wv27000 = true ∧ ↑wCa2.dtime ≤ wv27000.stamp + 2 * ↑(senFrame (wCa2.senE
         0)) ∧ wCa2.winOf wv27000.stamp = some 1 ∧ wCa2.released 1 = false ∧ (wCa2.shWrites (wCa2.slotAddr 0
         wv27000.slot) (wCa2.lineageOf 0 wv27000.flags wv27000.counter wv27000.stamp wv27000.bytes 1 0 ++ leBytes 32 0
         ++ if senFeMode (wCa2.senE 0) = 0 then [] else wCa2.frameOut 0 wv27000).length) ∧ ↑wCa2.dtime < wv27000.stamp
         + 2 * ↑(senFrame (wCa2.senE 0)))) ∧
    ((wCa3.shCalm ∧ 0 < wCa3.sh.sens.length ∧ 0 < 64 ∧ wCa3.streamOf 2 0 42 = some 0 ∧ (wCa3.sens 0).frame = some
         wv27000 ∧ senFeMode (wCa3.senE 0) ≠ 0 ∧ (wv27000.bad = true ∨ wCa3.linesOk 0 wv27000 = false ∨ wv27000.stamp
         + 2 * ↑(senFrame (wCa3.senE 0)) < ↑wCa3.dtime))) ∧
    ((wCa6.shCalm ∧ 0 < wCa6.sh.sens.length ∧ 0 < 64 ∧ wCa6.streamOf 2 0 42 = some 0 ∧ (wCa6.sens 0).frame = some
         wv27000 ∧ wv27000.bad = false ∧ wCa6.linesOk 0 wv27000 = true ∧ ↑wCa6.dtime ≤ wv27000.stamp + 2 * ↑(senFrame
         (wCa6.senE 0)))
      ∧ (wCa6.winOf wv27000.stamp = some 1 ∧ wCa6.released 1 = true ∧ wv27000.stamp + 2 * ↑(senFrame (wCa6.senE 0)) ≤
         ↑wCa6.dtime)) ∧
    ((wCa0.shCalm ∧ 0 < wCa0.sh.sens.length ∧ 0 < 64 ∧ wCa0.streamOf 2 0 42 = some 0 ∧ (wCa0.sens 0).frame = none ∧
         wCa0.sh.cfg.trig = false ∧ wCa0.findSlot 0 = some 0)) ∧
    ((wCa1.shCalm ∧ 0 < wCa1.sh.sens.length ∧ 0 < 64 ∧ wCa1.streamOf 2 0 42 = some 0 ∧ wCa1.findSlot 0 = none ∧
         (wCa1.sens 0).frame = none)) :=
  by refine ⟨⟨?_, ?_⟩, ?_, ⟨?_, ?_⟩, ?_, ?_⟩ <;> decide +kernel

def wv28000 : Nat := 39492109375708945011719260381376412119585826795902861581613269007
/-- Hypotheses of the clauses 1.1, 1.2.1, 1.2.2, 1.3.1, 1.3.2; 3.2, 4; 5.1, 5.2; 1.3.3; 2; 3.1 of
`Obligations.SensorInputsBecomeRecords`. -/
theorem witness_SensorInputsBecomeRecords :
    ((wSe0.shCalm ∧ 0 < wSe0.sh.sens.length ∧ 0 < 64 ∧ wSe0.sh.cfg.nsens ≤ 64 ∧ wSe0.sh.tad.on = false ∧
         ({ rx0 with len := 63 }).mac < 4 ∧ wSe0.rail Rail.hub = RailMode.on ∧ (({ rx0 with len := 63 }).fcs &&
         ({ rx0 with len := 63 }).sums && between 64 ({ rx0 with len := 63 }).len 9022) = false)
      ∧ (({ rx0 with udp := false }).mac < 4 ∧ (({ rx0 with udp := false }).fcs && ({ rx0 with udp := false }).sums &&
         between 64 ({ rx0 with udp := false }).len 9022) = true ∧ (({ rx0 with udp := false }).udp = false ∨
         wSe0.sh.cfg.matchTpl ({ rx0 with udp := false }) = none) ∧ ({ rx0 with udp := false }).room = true ∧
         ({ rx0 with dport := 1, room := false }).mac < 4 ∧ (({ rx0 with dport := 1, room := false }).fcs &&
         ({ rx0 with dport := 1, room := false }).sums && between 64 ({ rx0 with dport := 1, room := false }).len
         9022) = true ∧ (({ rx0 with dport := 1, room := false }).udp = false ∨ wSe0.sh.cfg.matchTpl
         ({ rx0 with dport := 1, room := false }) = none) ∧ ({ rx0 with dport := 1, room := false }).room = false)
      ∧ (({ rx0 with data := [] }).mac < 4 ∧ (({ rx0 with data := [] }).fcs && ({ rx0 with data := [] }).sums && between
         64 ({ rx0 with data := [] }).len 9022) = true ∧ ({ rx0 with data := [] }).udp = true ∧ wSe0.sh.cfg.matchTpl
         ({ rx0 with data := [] }) = some wv28000 ∧ tplSensor wv28000 = 0 ∧ tplDrops wv28000
         ({ rx0 with data := [] }).data = true ∧ rx0.mac < 4 ∧ (rx0.fcs && rx0.sums && between 64 rx0.len 9022) =
         true)
      ∧ (rx0.udp = true ∧ wSe0.sh.cfg.matchTpl rx0 = some wv28000 ∧ tplDrops wv28000 rx0.data = false ∧ tplTimeFmt
         wv28000 = 0 ∧ senKind (wSe0.senE 0) ≠ kSWEEP ∧ wSe0.seriesGoes 0 1 0 (↑wSe0.dtime + senAdj (wSe0.senE 0)))) ∧
    ((wSe5.shCalm ∧ 0 < wSe5.sh.sens.length ∧ 0 < 64 ∧ wSe5.sh.cfg.nsens ≤ 64 ∧ wSe5.sh.tad.on = false ∧ 0 <
         wSe5.sh.cfg.nsens ∧ senKind (wSe5.senE 0) = kSPI ∧ senDrdy (wSe5.senE 0) = true)
      ∧ (bytesOf (wSe5.sh.cfg.param[0]?.getD 0) 12 1 = 31 ∧ (wSe5.sens 0).xfer.isSome = true ∧ (wSe5.sens 0).xfer = some
         (5, 11000000) ∧ wSe5.seriesGoes 0 1 0 11000000)) ∧
    ((wSe6.shCalm ∧ 0 < wSe6.sh.sens.length ∧ 0 < 64 ∧ wSe6.sh.cfg.nsens ≤ 64 ∧ wSe6.sh.tad.on = false ∧ wSe6.sourceOf
         kUART 1 = some 0 ∧ uartFramed (wSe6.sh.cfg.param[0]?.getD 0) [65, 66, 10] = true ∧ (true || decide (96 < [65,
         66, 10].length)) = true)
      ∧ ([65, 66, 10].length ≤ 96 ∧ wSe6.seriesGoes 0 1 0 (↑wSe6.dtime - ↑1000 + senAdj (wSe6.senE 0)))) ∧
    ((wSe1.shCalm ∧ 0 < wSe1.sh.sens.length ∧ 0 < 64 ∧ wSe1.sh.cfg.nsens ≤ 64 ∧ wSe1.sh.tad.on = false ∧ rx0.mac < 4 ∧
         wSe1.rail Rail.hub = RailMode.on ∧ (rx0.fcs && rx0.sums && between 64 rx0.len 9022) = true)
      ∧ (rx0.udp = true ∧ wSe1.sh.cfg.matchTpl rx0 = some wv28000 ∧ tplSensor wv28000 = 0 ∧ tplDrops wv28000 rx0.data =
         false ∧ tplTimeFmt wv28000 = 0 ∧ senKind (wSe1.senE 0) = kSWEEP ∧ wSe1.winOf (↑wSe1.dtime + senAdj (wSe1.senE
         0)) = some 1 ∧ wSe1.released 1 = true)) ∧
    ((wSe2.shCalm ∧ 0 < wSe2.sh.sens.length ∧ 0 < 64 ∧ wSe2.sh.cfg.nsens ≤ 64 ∧ wSe2.sh.tad.on = false ∧ senKind
         (wSe2.senE 0) = kSPI ∧ senDrdy (wSe2.senE 0) = false ∧ wSe2.sh.since + ((wSe2.sens 0).xferNo + 1) * senFrame
         (wSe2.senE 0) ≤ wSe2.dtime)
      ∧ ((wSe2.sens 0).xfer = none)) ∧
    ((wSe4.shCalm ∧ 0 < wSe4.sh.sens.length ∧ 0 < 64 ∧ wSe4.sh.cfg.nsens ≤ 64 ∧ wSe4.sh.tad.on = false ∧ 0 <
         wSe4.sh.cfg.nsens ∧ senKind (wSe4.senE 0) = kSPI ∧ senDrdy (wSe4.senE 0) = true)
      ∧ (bytesOf (wSe4.sh.cfg.param[0]?.getD 0) 12 1 = 31 ∧ (wSe4.sens 0).xfer = none)) :=
  by refine ⟨⟨?_, ?_, ?_, ?_⟩, ⟨?_, ?_⟩, ⟨?_, ?_⟩, ⟨?_, ?_⟩, ⟨⟨?_, ?_⟩, ⟨?_, ?_⟩⟩⟩ <;> decide +kernel

/-- Hypotheses of the clauses 1.1, 4; 1.2; 2; 3.2; 3.1; 5.1; 5.2 of `Obligations.InstantsAreReleasedAndLaunched`. -/
theorem witness_InstantsAreReleasedAndLaunched :
    ((wIn0.shCalm ∧ wIn0.sh.ended = wIn0.nextInstant ∧ 0 = wIn0.sh.ended ∧ wIn0.sh.windowEnd 0 ≤ wIn0.dtime ∧ 0 + 1 <
         2 ^ 64 ∧ (((wIn0.windowEnds.judgeAll 0).any fun x => x.waits) = true) ∧ wIn0.sh.on = true ∧ wIn0.dtime ≤
         wIn0.sh.windowEnd wIn0.nextInstant + wIn0.sh.cfg.waitNs)) ∧
    ((wIn1.shCalm ∧ wIn1.sh.ended = wIn1.nextInstant ∧ 0 = wIn1.sh.ended ∧ wIn1.sh.windowEnd 0 ≤ wIn1.dtime ∧ 0 + 1 <
         2 ^ 64 ∧ (((wIn1.windowEnds.judgeAll 0).any fun x => x.waits) = false))) ∧
    ((wIn2.shCalm ∧ wIn2.dtime < wIn2.sh.windowEnd wIn2.sh.ended)) ∧
    ((wIn3.sh.on = true ∧ 0 = wIn3.nextInstant ∧ 0 < wIn3.sh.ended ∧ wIn3.sh.windowEnd 0 + wIn3.sh.cfg.waitNs <
         wIn3.dtime ∧ 0 + 1 < 2 ^ 64 ∧ wIn3.sh.tad.on = false ∧ wIn3.sh.cfg.nsens ≤ 64 ∧ wIn3.manHeld 0 = false)
      ∧ ((((wIn3.judgeAll 0).all fun j => j.head.isNone) = true) ∧ (wIn3.engineErr wIn3.sh.cfg.ctx Want.wr
         (wIn3.sh.cfg.manBase + 0 % 2 ^ wIn3.sh.cfg.manLog2 * wIn3.sh.cfg.manBytes) (wIn3.manHeader 0 ((wIn3.judgeAll
         0).any fun x => x.waits) ++ leBytes 4 (crc32c (wIn3.manHeader 0 ((wIn3.judgeAll 0).any fun x => x.waits) ++
         List.flatMap (fun x => x.entry) (wIn3.judgeAll 0))) ++ List.flatMap (fun x => x.entry) (wIn3.judgeAll
         0)).length = none) ∧ (wIn3.storable (wIn3.sh.cfg.manBase + 0 % 2 ^ wIn3.sh.cfg.manLog2 *
         wIn3.sh.cfg.manBytes) (wIn3.manHeader 0 ((wIn3.judgeAll 0).any fun x => x.waits) ++ leBytes 4 (crc32c
         (wIn3.manHeader 0 ((wIn3.judgeAll 0).any fun x => x.waits) ++ List.flatMap (fun x => x.entry) (wIn3.judgeAll
         0))) ++ List.flatMap (fun x => x.entry) (wIn3.judgeAll 0)).length))) ∧
    ((wIn4.sh.on = true ∧ 5 = wIn4.nextInstant ∧ 5 < wIn4.sh.ended ∧ wIn4.sh.windowEnd 5 + wIn4.sh.cfg.waitNs <
         wIn4.dtime ∧ 5 + 1 < 2 ^ 64 ∧ wIn4.sh.tad.on = false ∧ wIn4.sh.cfg.nsens ≤ 64 ∧ wIn4.manHeld 5 = true)) ∧
    ((wIn5.sh.launches = [({ ctx := 63, descs := [11], user := 5, man := 393216 } : ShLaunch)] ∧
         ({ ctx := 63, descs := [11], user := 5, man := 393216 } : ShLaunch).ctx = 63 ∧ 63 < 64 ∧
         ({ ctx := 63, descs := [11], user := 5, man := 393216 } : ShLaunch).descs = [11] ∧ wIn5.ctxState 63 = 1 ∧
         sub32 (wIn5.sqTail 63) (wIn5.sqHead 63) + 1 ≤ wIn5.sqSize 63 ∧ wIn5.sqSize 63 ≤ 65536 ∧ wIn5.pw.phase = 0)
      ∧ (wIn5.engineErr 63 Want.wr (wIn5.sqBase 63 + wIn5.sqTail 63 % wIn5.sqSize 63 * 64) 64 = none ∧ wIn5.storable
         (wIn5.sqBase 63 + wIn5.sqTail 63 % wIn5.sqSize 63 * 64) 64)) ∧
    ((wIn6.sh.launches = [({ ctx := 63, descs := [11], user := 5, man := 393216 } : ShLaunch)] ∧
         ({ ctx := 63, descs := [11], user := 5, man := 393216 } : ShLaunch).ctx = 63 ∧ 63 < 64 ∧ (wIn6.ctxState 63 ≠
         1 ∨ wIn6.sqSize 63 < sub32 (wIn6.sqTail 63) (wIn6.sqHead 63) +
         ({ ctx := 63, descs := [11], user := 5, man := 393216 } : ShLaunch).descs.length))) :=
  by refine ⟨?_, ?_, ?_, ⟨?_, ?_⟩, ⟨?_, ⟨?_, ?_⟩, ?_⟩⟩ <;> decide +kernel

/-! ### plan -/

def f1 : Nat := 0x3F800000
/-- A one-step candidate `c` of plan 7 with a jerk. -/
def candRaw (c jerk : Nat) : Nat := fields [(0, 7), (64, c), (80, 1), (512, 1), (576, jerk)]
/-- Epoch 9 of context 3: an 8 by 8 grid of 1 m cells about the origin, a static plane at 0x91000, threshold 200. -/
def E9 : Epoch := { ctx := 3, rec' := fields [(0, 9), (192, 5), (320, 0x91000), (384, 0x92000), (512, 1000), (552, 200), (768, 0x93000)]
                    grid := fields [(0, 8), (16, 8), (64, f1), (96, 0xC0800000), (128, 0xC0800000)] }
def planRegs : State := sets (rgn U 3) [(rPC_PLAN_CFG, fPC_PLAN_CFG_CTX, 3), (rPC_PLAN_CFG, fPC_PLAN_CFG_EPOCH_CTX, 3), (rPC_PLAN_CFG, fPC_PLAN_CFG_SLOT, 63),
  (rPC_PLAN_CFG, fPC_PLAN_CFG_DEADLINE_US, 100), (rPC_PLAN_CFG, fPC_PLAN_CFG_TICK, 3), (rHUB_SLOT_CFG 63, fHUB_SLOT_CFG_KIND, 2),
  (rPC_LIM_K, fPC_LIM_K_KMAX, f1), (rPC_LIM_K, fPC_LIM_K_KRATE_MAX, f1), (rPC_LIM_SR, fPC_LIM_SR_ALAT_MAX, f1), (rPC_LIM_SR, fPC_LIM_SR_SR_MAX, f1),
  (rPC_LIM_A, fPC_LIM_A_A_MIN, 0xBF800000), (rPC_LIM_A, fPC_LIM_A_A_MAX, f1), (rPC_LIM_WJ, fPC_LIM_WJ_J_MAX, f1), (rPC_LIM_WJ, fPC_LIM_WJ_WHEELBASE, 0x40000000),
  (rPC_LIM_V, fPC_LIM_V_V_MIN, 0xBF800000), (rPC_LIM_V, fPC_LIM_V_V_MAX, f1), (rPC_LIM_SIZE, fPC_LIM_SIZE_LENGTH, 0x40000000),
  (rPC_LIM_SIZE, fPC_LIM_SIZE_WIDTH, 0x40000000), (rPC_LIM_REAR, fPC_LIM_REAR_REAR, f1), (rPC_PLAN_BASE, fPC_PLAN_BASE_PLAN_BASE, 0x4000)]
def planOn : State := wr planRegs rPC_PLAN_CFG fPC_PLAN_CFG_ENABLE 1
/-- The hub on, with launcher 3 of a 1 ms period (recording at 0x94000). -/
def CTk : ShCfg := { C1 with hdr := shHdr [(8*352, 1000), (8*352+64, 3), (8*352+72, 1), (8*352+192, 0x94000)], ticks := [[], [], [], [6]] }
def tkOn (s : State) : State := s.modSh (fun h => { h with on := true, cfg := CTk, sens := [{}] })
def cfgW : Word := (planOn.reg rPC_PLAN_CFG)
def P0 : PlanRun := { j := 7, base := 0x120000, freeze := 1000000, deadline := 1100000, elig := [176, 183] }
def withPlan (s : State) (p : PlanRun) : State := s.modPlan (fun x => { x with plan := some p, newest := some E9 })
def wPl0 : State := shTime (tkOn planOn) 1000000
def P1 : PlanRun := { P0 with count := 2, hdr := some 7, cands := [{ idx := 0, owner := some 176, outcome := some 1 }, { idx := 1, owner := some 183, outcome := none }]
                              verified := [{ idx := 0, raw := candRaw 0 0, key := 0, epoch := 9 }] }
def wPl1 : State := shTime (withPlan planOn P1) 1100000
/-- Epoch 9 with its grid far off: every cell is outside it. -/
def E8 : Epoch := { E9 with grid := fields [(0, 8), (16, 8), (64, f1), (96, 0x44000000), (128, 0x44000000)] }
def X0 (v : List Verified) (re : Bool) : Seal := { plan := { P1 with verified := v }, epoch := some E8, start := 21000000, cause := 2, tag := 0, reissue := re }
def vOk : Verified := { idx := 0, raw := candRaw 0 0, key := 0, epoch := 9 }
def vBad : Verified := { idx := 1, raw := candRaw 1 0x40000000, key := 0, epoch := 9 }
def T0 (jerk : Nat) : Traj := { plan := 6, freeze := 20000000, hdr := 6, cand := 0, raw := candRaw 0 jerk, epoch := 8, key := 0 }
def withSeal (x : Seal) (t : Option Traj) : State := (shTime (wr planOn rPC_PLAN_AGE fPC_PLAN_AGE_AGE_LIMIT_US 2000) 22000000).modPlan (fun q => { q with seals := [x], newest := some E9, prev := t })
def vNext : Verified := { vOk with idx := 2, key := f1 }
def wPl2 : State := tkOn planRegs
def wPl3 : State := withPlan planOn P0
def wPl4 : State := shTime (wPl0.modSh (fun h => { h with tickNext := [0, 0, 0, 1] })) 999999
def wSealA : State := withSeal (X0 [vOk] false) none
def wSealB : State := withSeal (X0 [vBad, vNext] false) none
def wSealC : State := withSeal (X0 [vBad] false) (some (T0 0))
def wSealD : State := withSeal (X0 [vBad] true) (some (T0 0))
def wSealE : State := withSeal (X0 [vBad] true) (some (T0 0x40000000))
def wCk0 : State := put (withPlan planOn { P0 with hdr := none }) 0x120000 (leBytes 64 7 ++ leBytes 8 300)
def P2 : PlanRun := { P0 with count := 1, hdr := some 7, cands := [{ idx := 0, owner := some 183, outcome := none }] }
def wCk1 : State := put (withPlan planOn P2) 0x120100 (leBytes 448 (candRaw 0 0))
def wCk2 : State := withPlan planOn { P2 with checks := [{ cand := 0, eng := 183, epoch := 9, raw := candRaw 0 0, res := { outcome := 1, step := 1 } }] }
def dEp : Nat := fields [(0, 12), (136, 1), (192, 0x95000)]
def wEp0 : State := withDesc (ctxOn U 3) 3 { num := 0, raw := dEp }
def wEp1 : State := put (put ((withDesc (ctxOn planOn 3) 3 { num := 0, raw := dEp })) 0x95000 (leBytes 128 E9.rec')) 0x93000 (leBytes 64 (5 + E9.grid * 2 ^ 128))
def wEp2 : State := (withDesc (ctxOn planOn 3) 3 { num := 0, raw := dEp, phase := .started }).modPlan (fun p => { p with newest := some E9, pubs := [(3, 0, some 8)] })
def wEp4 : State := (withDesc (ctxOn planOn 3) 3 { num := 0, raw := dEp, phase := .finished }).modPlan (fun p => { p with newest := some E9, pubs := [(3, 0, some 8)] })
def wEp3 : State := (withDesc (ctxOn planOn 3) 3 { num := 0, raw := dEp, phase := .started }).modPlan (fun p =>
  { p with newest := some E9, pubs := [(3, 0, some 8)], seals := [{ plan := P1, epoch := some { E9 with rec' := 8 }, start := 0, cause := 2, tag := 0, reissue := false }] })

def wv30000 : PlanRun :=
  { j := 7, base := 1179648, freeze := 1000000, deadline := 1100000, elig := [176, 183], lost := [], count := 2, capped := false, hdr := some 7, bad := false, cands := [{ idx := 0, owner := some 176, outcome := some 1 }, { idx := 1, owner := some 183, outcome := none }], checks := [], verified := [{ idx := 0, raw := 13407807929942597099574024998205846127479365820592393377723561443721764030073546976801874298166903427690031858186486050853753882813155495766048278180790279, key := 0, epoch := 9 }] }
def wv30001 : PlanRun :=
  { j := 7, base := 1179648, freeze := 1000000, deadline := 1100000, elig := [176, 183], lost := [], count := 0, capped := false, hdr := none, bad := false, cands := [], checks := [], verified := [] }
def wv30002 : Seal :=
  { plan := { j := 7, base := 1179648, freeze := 1000000, deadline := 1100000, elig := [176, 183], lost := [], count := 2, capped := false, hdr := some 7, bad := false, cands := [{ idx := 0, owner := some 176, outcome := some 1 }, { idx := 1, owner := some 183, outcome := none }], checks := [], verified := [{ idx := 0, raw := 13407807929942597099574024998205846127479365820592393377723561443721764030073546976801874298166903427690031858186486050853753882813155495766048278180790279, key := 0, epoch := 9 }] }, epoch := some { rec' := 934789773591364458360422337757134338550834153538168429926156900719944539632044165019447229153747484790820095556060586136795009450128385619167480189434587412756345937193252402007031542929340099092593629702358266227444306063587246266646537, ctx := 3, grid := 388211372506408591380880361171376969059194634248 }, start := 21000000, cause := 2, tag := 0, reissue := false }
def wv30003 : Verified :=
  { idx := 0, raw := 13407807929942597099574024998205846127479365820592393377723561443721764030073546976801874298166903427690031858186486050853753882813155495766048278180790279, key := 0, epoch := 9 }
def wv30004 : Seal :=
  { plan := { j := 7, base := 1179648, freeze := 1000000, deadline := 1100000, elig := [176, 183], lost := [], count := 2, capped := false, hdr := some 7, bad := false, cands := [{ idx := 0, owner := some 176, outcome := some 1 }, { idx := 1, owner := some 183, outcome := none }], checks := [], verified := [{ idx := 1, raw := 265568996408383549344794103289642121594739155963089986597927915227681145751018514747304812576336406864518211719925124805840193096516385477891246040237047558785071149630488961406205959, key := 0, epoch := 9 }, { idx := 2, raw := 13407807929942597099574024998205846127479365820592393377723561443721764030073546976801874298166903427690031858186486050853753882813155495766048278180790279, key := 1065353216, epoch := 9 }] }, epoch := some { rec' := 934789773591364458360422337757134338550834153538168429926156900719944539632044165019447229153747484790820095556060586136795009450128385619167480189434587412756345937193252402007031542929340099092593629702358266227444306063587246266646537, ctx := 3, grid := 388211372506408591380880361171376969059194634248 }, start := 21000000, cause := 2, tag := 0, reissue := false }
def wv30005 : Verified :=
  { idx := 1, raw := 265568996408383549344794103289642121594739155963089986597927915227681145751018514747304812576336406864518211719925124805840193096516385477891246040237047558785071149630488961406205959, key := 0, epoch := 9 }
def wv30006 : Verified :=
  { idx := 2, raw := 13407807929942597099574024998205846127479365820592393377723561443721764030073546976801874298166903427690031858186486050853753882813155495766048278180790279, key := 1065353216, epoch := 9 }
def wv30007 : Seal :=
  { plan := { j := 7, base := 1179648, freeze := 1000000, deadline := 1100000, elig := [176, 183], lost := [], count := 2, capped := false, hdr := some 7, bad := false, cands := [{ idx := 0, owner := some 176, outcome := some 1 }, { idx := 1, owner := some 183, outcome := none }], checks := [], verified := [{ idx := 1, raw := 265568996408383549344794103289642121594739155963089986597927915227681145751018514747304812576336406864518211719925124805840193096516385477891246040237047558785071149630488961406205959, key := 0, epoch := 9 }] }, epoch := some { rec' := 934789773591364458360422337757134338550834153538168429926156900719944539632044165019447229153747484790820095556060586136795009450128385619167480189434587412756345937193252402007031542929340099092593629702358266227444306063587246266646537, ctx := 3, grid := 388211372506408591380880361171376969059194634248 }, start := 21000000, cause := 2, tag := 0, reissue := false }
def wv30008 : Seal :=
  { plan := { j := 7, base := 1179648, freeze := 1000000, deadline := 1100000, elig := [176, 183], lost := [], count := 2, capped := false, hdr := some 7, bad := false, cands := [{ idx := 0, owner := some 176, outcome := some 1 }, { idx := 1, owner := some 183, outcome := none }], checks := [], verified := [{ idx := 1, raw := 265568996408383549344794103289642121594739155963089986597927915227681145751018514747304812576336406864518211719925124805840193096516385477891246040237047558785071149630488961406205959, key := 0, epoch := 9 }] }, epoch := some { rec' := 934789773591364458360422337757134338550834153538168429926156900719944539632044165019447229153747484790820095556060586136795009450128385619167480189434587412756345937193252402007031542929340099092593629702358266227444306063587246266646537, ctx := 3, grid := 388211372506408591380880361171376969059194634248 }, start := 21000000, cause := 2, tag := 0, reissue := true }
def wv30009 : Traj :=
  { plan := 6, freeze := 20000000, hdr := 6, cand := 0, raw := 13407807929942597099574024998205846127479365820592393377723561443721764030073546976801874298166903427690031858186486050853753882813155495766048278180790279, epoch := 8, key := 0 }
def wv30010 : Traj :=
  { plan := 6, freeze := 20000000, hdr := 6, cand := 0, raw := 265568996408383549344794103289642121594739155963089986597927915227681145751018514747304812576336406864518211719925124805840193096516385477891246040237047558785071131183744887696654343, epoch := 8, key := 0 }
/-- Hypotheses of the clauses 2, 3, 4.1; 5.1; 5.2; 4.2; 6.1.1; 6.1.2.1; 6.1.2.2; 6.2.1; 6.2.2; 1 of
`Obligations.PlansAreOpenedAndSealed`. -/
theorem witness_PlansAreOpenedAndSealed :
    ((wPl0.accepts hart rPC_PLAN_CFG ∧ wPl0.flag rPC_PLAN_CFG fPC_PLAN_CFG_ENABLE = true ∧ wPl0.shCalm ∧ wPl0.dtime <
         wPl0.sh.windowEnd wPl0.sh.ended ∧ wPl0 = wPl0.releasesDue ∧ wPl0.sh.on = true ∧ 3 < 4 ∧ wPl0.sh.tickNext[3]?
         = some 0)
      ∧ (tickPeriod (tickRaw wPl0.sh.cfg.hdr 3) ≠ 0 ∧ wPl0.sh.tickTime 3 0 ≤ wPl0.dtime)) ∧
    ((wPl1.plan.plan = some wv30000 ∧ wv30000.deadline ≤ wPl1.dtime)) ∧
    ((wPl3.plan.plan = some wv30001 ∧ wPl3.dtime < wv30001.deadline)) ∧
    ((wPl4 = wPl4.releasesDue ∧ wPl4.sh.on = true ∧ 3 < 4 ∧ wPl4.sh.tickNext[3]? = some 1 ∧ tickPeriod (tickRaw
         wPl4.sh.cfg.hdr 3) ≠ 0 ∧ wPl4.dtime < wPl4.sh.tickTime 3 1)) ∧
    ((wSealA.plan.seals = [wv30002] ∧ wv30002.reissue = false ∧ bestOf wv30002.plan.verified = some wv30003)
      ∧ ((wSealA.sealEnd wv30002).sealPasses wv30002 (wv30002.plan.hdr.getD 0) wv30002.plan.freeze wv30003.raw 0 = true)) ∧
    ((wSealB.plan.seals = [wv30004] ∧ wv30004.reissue = false ∧ bestOf wv30004.plan.verified = some wv30005 ∧ bestOf
         (List.filter (fun z => z.idx != wv30005.idx && z.epoch == wv30004.epochNum) wv30004.plan.verified) = some
         wv30006)
      ∧ ((wSealB.sealEnd wv30004).sealPasses wv30004 (wv30004.plan.hdr.getD 0) wv30004.plan.freeze wv30005.raw 0 = false)) ∧
    ((wSealC.plan.seals = [wv30007] ∧ wv30007.reissue = false ∧ bestOf wv30007.plan.verified = some wv30005 ∧ bestOf
         (List.filter (fun z => z.idx != wv30005.idx && z.epoch == wv30007.epochNum) wv30007.plan.verified) = none ∧
         wSealC.canReissue wv30007 = true)
      ∧ ((wSealC.sealEnd wv30007).sealPasses wv30007 (wv30007.plan.hdr.getD 0) wv30007.plan.freeze wv30005.raw 0 = false)) ∧
    ((wSealD.plan.seals = [wv30008] ∧ wv30008.reissue = true ∧ wSealD.plan.prev = some wv30009)
      ∧ ((wSealD.sealEnd wv30008).sealPasses wv30008 wv30009.hdr wv30009.freeze wv30009.raw (reissueStep wv30008.start
         wv30009.freeze) = true)) ∧
    ((wSealE.plan.seals = [wv30008] ∧ wv30008.reissue = true ∧ wSealE.plan.prev = some wv30010)
      ∧ ((wSealE.sealEnd wv30008).sealPasses wv30008 wv30010.hdr wv30010.freeze wv30010.raw (reissueStep wv30008.start
         wv30010.freeze) = false)) ∧
    ((planRegs.accepts hart rPC_PLAN_CFG ∧ planRegs.flag rPC_PLAN_CFG fPC_PLAN_CFG_ENABLE = false ∧ planRegs =
         (planRegs.metBy hart rPC_PLAN_CFG).plainWrite rPC_PLAN_CFG (fPC_PLAN_CFG_ENABLE.set (fPC_PLAN_CFG_ENABLE.set
         cfgW 1) 0))) :=
  by refine ⟨⟨?_, ?_⟩, ?_, ?_, ?_, ⟨⟨?_, by rw [sealPasses_end _ _ _ _ _ _ (by decide)]; decide +kernel⟩, ⟨?_,
      by rw [sealPasses_end _ _ _ _ _ _ (by decide)]; decide +kernel⟩, ⟨?_,
      by rw [sealPasses_end _ _ _ _ _ _ (by decide)]; decide +kernel⟩, ⟨?_,
      by rw [sealPasses_end _ _ _ _ _ _ (by decide)]; decide +kernel⟩, ⟨⟨?_,
      by rw [sealPasses_end _ _ _ _ _ _ (by decide)]; decide +kernel⟩, ?_⟩⟩⟩ <;> decide +kernel

def wv31000 : PlanRun :=
  { j := 7, base := 1179648, freeze := 1000000, deadline := 1100000, elig := [176, 183], lost := [], count := 1, capped := false, hdr := some 7, bad := false, cands := [{ idx := 0, owner := some 183, outcome := none }], checks := [], verified := [] }
def wv31001 : List Byte := [0x00#8, 0x00#8, 0x00#8, 0x00#8, 0x00#8, 0x00#8, 0x00#8, 0x00#8]
def wv31002 : Epoch :=
  { rec' := 934789773591364458360422337757134338550834153538168429926156900719944539632044165019447229153747484790820095556060586136795009450128385619167480189434587412756345937193252402007031542929340099092593629702358266227444306063587246266646537, ctx := 3, grid := 1098980723639465497623128800133749525982705352712 }
def wv31003 : PlanRun :=
  { j := 7, base := 1179648, freeze := 1000000, deadline := 1100000, elig := [176, 183], lost := [], count := 0, capped := false, hdr := none, bad := false, cands := [], checks := [], verified := [] }
def wv31004 : List Byte := [0x2c#8, 0x01#8, 0x00#8, 0x00#8, 0x00#8, 0x00#8, 0x00#8, 0x00#8]
def wv31005 : PlanRun :=
  { j := 7, base := 1179648, freeze := 1000000, deadline := 1100000, elig := [176, 183], lost := [], count := 1, capped := false, hdr := some 7, bad := false, cands := [{ idx := 0, owner := some 183, outcome := none }], checks := [{ cand := 0, eng := 183, epoch := 9, raw := 13407807929942597099574024998205846127479365820592393377723561443721764030073546976801874298166903427690031858186486050853753882813155495766048278180790279, res := { outcome := 1, limit := 0, step := 1, occ := 0, peak := 0, key := 0 } }], verified := [] }
def wv31006 : Check :=
  { cand := 0, eng := 183, epoch := 9, raw := 13407807929942597099574024998205846127479365820592393377723561443721764030073546976801874298166903427690031858186486050853753882813155495766048278180790279, res := { outcome := 1, limit := 0, step := 1, occ := 0, peak := 0, key := 0 } }
def wv31007 : Desc :=
  { num := 0, raw := 3830940297513432816892124740427263404659578561077680652020613132, poison := false, phase := Sys2Proof.Machine.Phase.waiting, status := 0, detail := 0, inJob := none, slot := 0, start := 0, order := 0, waited := false, attempt := 0, units := [] }
def wv31008 : List Byte := ([0x09#8] ++ List.replicate 23 0x00#8 ++ [0x05#8] ++ List.replicate 16 0x00#8 ++ [0x10#8,
  0x09#8] ++ List.replicate 6 0x00#8 ++ [0x20#8, 0x09#8] ++ List.replicate 13 0x00#8 ++ [0xe8#8, 0x03#8, 0x00#8,
  0x00#8, 0x00#8, 0xc8#8] ++ List.replicate 27 0x00#8 ++ [0x30#8, 0x09#8] ++ List.replicate 29 0x00#8)
/-- Hypotheses of the clauses 1.2, 2; 1.1; 3; 4.1; 4.2; 5.2; 5.3; 5.1 of
`Obligations.CandidatesAreCheckedAgainstEpochs`. -/
theorem witness_CandidatesAreCheckedAgainstEpochs :
    ((wCk1.plan.plan = some wv31000 ∧ wCk1.engRead wCk1.planCtx (wv31000.base + offCount) 8 = Got.ok wv31001 ∧ min
         (leNat wv31001 % 2 ^ 32) 256 ≤ wv31000.count ∧ leNat wv31001 % 2 ^ 32 ≤ 256 ∧ wCk1.plan.newest = some wv31002
         ∧ 7 < 8 ∧ wv31000.bad = false ∧ wv31000.hdr.isSome = true)
      ∧ (wCk1.testFault (pcEngine 7) = false ∧ wCk1.unitState (pcEngine 7) = 0 ∧ wv31000.nextFor (pcEngine 7) = some 0)) ∧
    ((wCk0.plan.plan = some wv31003 ∧ wCk0.engRead wCk0.planCtx (wv31003.base + offCount) 8 = Got.ok wv31004 ∧
         wv31003.count < min (leNat wv31004 % 2 ^ 32) 256)) ∧
    ((7 < 8 ∧ wCk2.plan.plan = some wv31005 ∧ List.find? (fun k => k.eng == pcEngine 7) wv31005.checks = some wv31006
         ∧ wCk2.engineErr wCk2.planCtx Want.wr (wv31005.base + offResults + 32 * wv31006.cand) (resultBytes
         wv31006.cand wv31006.epoch wv31006.res).length = none ∧ wCk2.storable (wv31005.base + offResults + 32 *
         wv31006.cand) (resultBytes wv31006.cand wv31006.epoch wv31006.res).length)) ∧
    ((wEp0.ready 3 0 wv31007 ∧ wv31007.op = 12 ∧ wv31007.at 17 1 = 1 ∧ (3 ≠ wEp0.rf rPC_PLAN_CFG
         fPC_PLAN_CFG_EPOCH_CTX ∨ wEp0.flag rPC_PLAN_CFG fPC_PLAN_CFG_ENABLE = false))) ∧
    ((wEp1.ready 3 0 wv31007 ∧ wv31007.op = 12 ∧ wv31007.at 17 1 = 1 ∧ 3 = wEp1.rf rPC_PLAN_CFG fPC_PLAN_CFG_EPOCH_CTX
         ∧ wEp1.flag rPC_PLAN_CFG fPC_PLAN_CFG_ENABLE = true ∧ wv31007.at 16 1 = 0 ∧ wv31007.at 32 32 = 0 ∧ wv31007.at
         24 8 % 64 = 0)
      ∧ (wEp1.engRead 3 (wv31007.at 24 8) 128 = Got.ok wv31008 ∧ epochOk (leNat wv31008) = true ∧ wEp1.epochGrid (leNat
         wv31008) = some 1098980723639465497623128800133749525982705352712 ∧ wEp1.newestNum < bytesOf (leNat wv31008)
         0 8 ∧ wEp1.epochErr
         { rec' := leNat wv31008, ctx := 3, grid := 1098980723639465497623128800133749525982705352712 } = none)) ∧
    (((wEp2.desc 3 0).isSome = true ∧ List.find? (fun p => p.1 == 3 && p.2.1 == 0) wEp2.plan.pubs = some (3, 0, some
         8) ∧ (∀ (e : Nat), some 8 = some e → wEp2.epochUsed e = false) ∧ wEp2.publishing 3 0 = true)) ∧
    (((wEp3.desc 3 0).isSome = true ∧ List.find? (fun p => p.1 == 3 && p.2.1 == 0) wEp3.plan.pubs = some (3, 0, some
         8) ∧ wEp3.epochUsed 8 = true)) ∧
    (((wEp4.desc 3 0).isSome = true ∧ List.find? (fun p => p.1 == 3 && p.2.1 == 0) wEp4.plan.pubs = some (3, 0, some
         8) ∧ (∀ (e : Nat), some 8 = some e → wEp4.epochUsed e = false) ∧ wEp4.publishing 3 0 = false)) :=
  by refine ⟨⟨?_, ?_⟩, ?_, ?_, ?_, ⟨⟨?_, ?_⟩, ?_, ?_, ?_⟩⟩ <;> decide +kernel

/-! ### mem -/

def rd0 : RdEntry := { line := 126, mask := 3, urg := 0, cls := 5, cyc := 0, seq := 8, issued := false, copied := 3, data := 77 }
def wrE : WrEntry := { line := 254, mask := 3, cls := 5, seq := 9, read := false }
def onMc (s : State) (f : Mc → Mc) : State := s.modMc 63 f
def edges (s : State) (n : Nat) : State := s.modTime (fun t => { t with edges := n })
/-- Controller 63 ONLINE. -/
def MC : State := U.setMcState 63 mcONLINE
def wMc0 : State := onMc (edges MC 4) (fun m => { m with rq := [rd0], seq := 9 })
def wMc1 : State := onMc (edges MC 4) (fun m => { m with rq := [{ rd0 with copied := 1, urg := 3 }], wq := [wrE], refDue := 1, seq := 10 })
def wMc2 : State := onMc (edges MC 4) (fun m => { m with wq := [wrE], seq := 10 })
def wMc3 : State := onMc (edges MC 4) (fun m => { m with rq := [{ rd0 with copied := 1, issued := true }], seq := 10 })
def wMc4 : State := U.setMcState 63 mcFENCED
def wMc5 : State := U.setMcState 63 mcREINIT
def wMc6 : State := U.setMcState 63 mcSCRUB
def wMc7 : State := onMc MC (fun m => { m with replay := [(1, 2)] })
def wMc8 : State := onMc (edges MC 4) (fun m => { m with rq := [{ rd0 with copied := 1, urg := 3 }], rows := [(bankOf 126, rowOf 126)], seq := 10 })
def wMc9 : State := onMc (edges MC 4) (fun m => { m with rq := [{ rd0 with copied := 1, urg := 3 }], rows := [(bankOf 126, rowOf 126 + 1)], seq := 10 })
def wMcA : State := wMc5.modFuses (fun f => { f with delays := List.replicate 320 (2 ^ 400) })
def wMcB : State := onMc (edges MC 4) (fun m => { m with wq := [wrE], rows := [(bankOf 254, rowOf 254)], seq := 10 })
def wDl0 : State := onMc (wr MC (rMC_DLY_CTRL 63) fMC_DLY_CTRL_PENDING 1) (fun m => { m with refDue := 1 })
def wDl1 : State := shTime (wr MC (rMC_STATUS 63) fMC_STATUS_BAND_SEEN 3) 100000000
def wDl2 : State := onMc wDl1 (fun m => { m with bandAt := some 0 })
def wDl3 : State := onMc wDl1 (fun m => { m with bandAt := some 1 })
def wDl4 : State := { MC with time := { MC.time with edges := 1000 } }
def ln0 : CLine := { set := setOf 126, way := 3, line := 126, present := 1, dirty := 1, bad := 0, cls := 5, used := 0 }
def rq0 (m : Nat) (w : Option Nat) : SliceReq := { port := 71, ctx := 5, num := 0, line := 126, mask := m, write := w }
def wSl2 : State := MC.modSlice 63 (fun x => { x with lines := [ln0] })
def wSl3 : State := wr (wSl2.modSlice 63 (fun x => { x with shed := setOf 126 })) rQOS_OCC_STAT fQOS_OCC_STAT_HELD 32
def wSl4 : State := wr MC rQOS_OCC_STAT fQOS_OCC_STAT_HELD 32
def wSl5 : State := wr U rQOS_CFG fQOS_CFG_GUAR_MAX 2000
def wSl6 : State := (wr wSl2 rSC_MAINT fSC_MAINT_BUSY 1).modMs (fun m => { m with maint := 1 })
def wSl7 : State := (wr wSl2 rSC_MAINT fSC_MAINT_BUSY 1).modMs (fun m => { m with maint := 2 })
def wSl8 : State := wSl3.modMc 63 (fun m => { m with wq := List.replicate 48 wrE })
def wSl9 : State := wSl6.modMs (fun m => { m with slices := m.slices.map (fun x => { x with swept := 512 }) })

def wv32000 : RdEntry :=
  { line := 126, mask := 3, urg := 3, cls := 5, cyc := 0, seq := 8, issued := false, copied := 1, data := 77, poison := 0 }
def wv32001 : Nat :=
  4715937080217196260308302737491030148727133827595599505645368824693598100926800464256900321024587016786147731149015660151493514340309939978648415151063040
def wv32002 : RdEntry :=
  { line := 126, mask := 3, urg := 0, cls := 5, cyc := 0, seq := 8, issued := false, copied := 3, data := 77, poison := 0 }
def wv32003 : RdEntry :=
  { line := 126, mask := 3, urg := 0, cls := 5, cyc := 0, seq := 8, issued := true, copied := 1, data := 77, poison := 0 }
/-- Hypotheses of the clauses 2.2, 2.4.2, 2.6, 2.7, 4.2, 7; 5.1, 5.3; 1; 3; 4.1; 6; 2.1; 2.4.1; 2.3; 5.2; 2.5 of
`Obligations.ControllersReadWriteAndFence`. -/
theorem witness_ControllersReadWriteAndFence :
    ((63 < 64 ∧ 63 < wMc1.ms.mcs.length ∧ 63 < wMc1.ms.slices.length ∧ wMc1.mcState 63 = mcONLINE ∧ (wMc1.mc
         63).replay = [] ∧ (wMc1.mc 63).refDue ≠ 0 ∧ wMc1.flag (rMC_DLY_CTRL 63) fMC_DLY_CTRL_PENDING = false ∧
         ((wMc1.mc 63).refDue = 0 ∨ wMc1.flag (rMC_DLY_CTRL 63) fMC_DLY_CTRL_PENDING = false))
      ∧ (List.find? (fun e => !e.issued && e.copied != e.mask && [8].contains e.seq && e.urg == 3) (wMc1.mc 63).rq = some
         wv32000 ∧ (wMc1.mc 63).open wv32000.line = false ∧ 0 < 3 ∧ 3 ≤ 3 ∧ wMc1.accepts hart (rMC_CFG 63) ∧ wMc1.rf
         (rMC_CFG 63) fMC_CFG_HWM ≠ 0 ∧ wMc1.rf (rMC_CFG 63) fMC_CFG_HWM ≤ 48 ∧ wMc1.rf (rMC_CFG 63) fMC_CFG_LWM <
         wMc1.rf (rMC_CFG 63) fMC_CFG_HWM)
      ∧ (wMc1.rf (rMC_CFG 63) fMC_CFG_READ_AGE_MAX ≠ 0 ∧ wMc1.rf (rMC_CFG 63) fMC_CFG_IDLE_DRAIN ≠ 0 ∧ wMc1.mcState 63 ≠
         mcFENCED ∧ wMc1.mcState 63 ≠ mcSCRUB)) ∧
    ((63 < 64 ∧ 63 < wMc5.ms.mcs.length ∧ 63 < wMc5.ms.slices.length ∧ wMc5.mcState 63 = mcREINIT ∧ wMc5.startDelay
         wMc5.jnRecs 63 (wMc5.rf (rMC_STATUS 63) fMC_STATUS_BAND_SEEN) = some wv32001)) ∧
    ((63 < 64 ∧ 63 < wMc0.ms.mcs.length ∧ 63 < wMc0.ms.slices.length ∧ List.find? (fun e => e.copied == e.mask &&
         decide (e.cyc + 8 ≤ wMc0.fabCycle)) (wMc0.mc 63).rq = some wv32002)) ∧
    ((63 < 64 ∧ 63 < wMc3.ms.mcs.length ∧ 63 < wMc3.ms.slices.length ∧ List.find? (fun e => e.seq == 8 && e.issued)
         (wMc3.mc 63).rq = some wv32003 ∧ 2 = without wv32003.mask wv32003.copied ∧ 0 = Nat.land 2 wv32003.poison)) ∧
    ((63 < 64 ∧ 63 < wMc4.ms.mcs.length ∧ 63 < wMc4.ms.slices.length ∧ wMc4.accepts hart (rMC_CFG 63) ∧ wMc4.rf
         (rMC_CFG 63) fMC_CFG_HWM ≠ 0 ∧ wMc4.rf (rMC_CFG 63) fMC_CFG_HWM ≤ 48 ∧ wMc4.rf (rMC_CFG 63) fMC_CFG_LWM <
         wMc4.rf (rMC_CFG 63) fMC_CFG_HWM ∧ wMc4.rf (rMC_CFG 63) fMC_CFG_READ_AGE_MAX ≠ 0)
      ∧ (wMc4.rf (rMC_CFG 63) fMC_CFG_IDLE_DRAIN ≠ 0 ∧ wMc4.mcState 63 = mcFENCED)) ∧
    ((63 < 64 ∧ 63 < wMc6.ms.mcs.length ∧ 63 < wMc6.ms.slices.length ∧ wMc6.mcState 63 = mcSCRUB)) ∧
    ((63 < 64 ∧ 63 < wMc7.ms.mcs.length ∧ 63 < wMc7.ms.slices.length ∧ wMc7.mcState 63 = mcONLINE ∧ (wMc7.mc
         63).replay ≠ [])) ∧
    ((63 < 64 ∧ 63 < wMc8.ms.mcs.length ∧ 63 < wMc8.ms.slices.length ∧ wMc8.mcState 63 = mcONLINE ∧ (wMc8.mc
         63).replay = [] ∧ ((wMc8.mc 63).refDue = 0 ∨ wMc8.flag (rMC_DLY_CTRL 63) fMC_DLY_CTRL_PENDING = false) ∧
         List.find? (fun e => !e.issued && e.copied != e.mask && [8].contains e.seq && e.urg == 3) (wMc8.mc 63).rq =
         some wv32000 ∧ (wMc8.mc 63).open wv32000.line = true)) ∧
    ((63 < 64 ∧ 63 < wDl0.ms.mcs.length ∧ 63 < wDl0.ms.slices.length ∧ wDl0.mcState 63 = mcONLINE ∧ (wDl0.mc
         63).replay = [] ∧ (wDl0.mc 63).refDue ≠ 0 ∧ wDl0.flag (rMC_DLY_CTRL 63) fMC_DLY_CTRL_PENDING = true)) ∧
    ((63 < 64 ∧ 63 < wMcA.ms.mcs.length ∧ 63 < wMcA.ms.slices.length ∧ wMcA.mcState 63 = mcREINIT ∧ wMcA.startDelay
         wMcA.jnRecs 63 (wMcA.rf (rMC_STATUS 63) fMC_STATUS_BAND_SEEN) = none)) ∧
    ((63 < 64 ∧ 63 < wMcB.ms.mcs.length ∧ 63 < wMcB.ms.slices.length ∧ wMcB.mcState 63 = mcONLINE ∧ wMcB.chooseCmd 63
         [9] true = some (McCmd.write 9))) :=
  by refine ⟨⟨?_, ?_, ?_⟩, ?_, ?_, ?_, ⟨⟨?_, ?_⟩, ?_, ?_, ?_, ⟨?_, ?_, ?_⟩⟩⟩ <;> decide +kernel

/-- Hypotheses of the clauses 1.1, 3, 4.1; 1.2, 2; 6; 4.2; 5 of `Obligations.DelaysBandsAndRefreshFollowTemperature`.
-/
theorem witness_DelaysBandsAndRefreshFollowTemperature :
    ((63 < 64 ∧ 63 < wDl2.ms.mcs.length ∧ wDl2.accepts hart (rMC_DLY_CTRL 63) ∧ wDl2.flag (rMC_DLY_CTRL 63)
         fMC_DLY_CTRL_PENDING = false ∧ 0 < 2 ∧ 0 < 32 ∧ wDl2.rf (rMC_STATUS 63) fMC_STATUS_BAND_LOADED ≠ wDl2.rf
         (rMC_STATUS 63) fMC_STATUS_BAND_SEEN ∧ (wDl2.mc 63).bandAt = some 0)
      ∧ (0 + 100000000 ≤ wDl2.dtime)) ∧
    ((63 < 64 ∧ 63 < wDl0.ms.mcs.length ∧ wDl0.accepts hart (rMC_DLY_CTRL 63) ∧ wDl0.flag (rMC_DLY_CTRL 63)
         fMC_DLY_CTRL_PENDING = true ∧ wDl0.mcState 63 = mcONLINE ∧ (wDl0.mc 63).refDue ≠ 0 ∧ (wDl0.mc 63).replay =
         [])) ∧
    ((63 < 64 ∧ 63 < U.ms.mcs.length ∧ U.mcState 63 ≠ mcONLINE)) ∧
    ((63 < 64 ∧ 63 < wDl3.ms.mcs.length ∧ wDl3.rf (rMC_STATUS 63) fMC_STATUS_BAND_LOADED ≠ wDl3.rf (rMC_STATUS 63)
         fMC_STATUS_BAND_SEEN ∧ (wDl3.mc 63).bandAt = some 1 ∧ wDl3.dtime < 1 + 100000000)) ∧
    ((63 < 64 ∧ 63 < wDl4.ms.mcs.length ∧ wDl4.mcState 63 = mcONLINE ∧ (wDl4.mc 63).refAt + refInterval (wDl4.rf
         (rMC_STATUS 63) fMC_STATUS_REF_RATE) ≤ wDl4.fabNs)) :=
  by refine ⟨⟨?_, ?_⟩, ?_, ?_, ?_, ?_⟩ <;> decide +kernel

def wv34000 : SliceReq := { port := 71, ctx := 5, num := 0, line := 126, mask := 1, write := none }
def wv34001 : Slice :=
  { lines := [{ set := 0, way := 3, line := 126, present := 1, dirty := 1, bad := 0, pend := 0, cls := 5, used := 0 }], off := false, merging := [], clock := 0, slot := 1, swept := 0, shed := 0, last1 := 71, last2 := 71, ptr := 15, came := false, deficit := (List.replicate 16 0), lastC := (List.replicate 16 71) }
def wv34002 : CLine :=
  { set := 0, way := 3, line := 126, present := 1, dirty := 1, bad := 0, pend := 0, cls := 5, used := 0 }
def wv34003 : SliceReq := { port := 71, ctx := 5, num := 0, line := 126, mask := 4294967296, write := none }
def wv34004 : SliceReq := { port := 71, ctx := 5, num := 0, line := 126, mask := 1, write := some 5 }
def wv34005 : CLine :=
  { set := 0, way := 3, line := 126, present := 1, dirty := 0, bad := 0, pend := 0, cls := 5, used := 0 }
/-- Hypotheses of the clauses 1.1, 1.2, 1.3, 2, 4.1, 5.2, 6.1, 6.2, 7.1, 7.2.1, 7.2.2; 3; 5.1; 8.2; 4.2; 8.1 of
`Obligations.SlicesServeAndRegulate`. -/
theorem witness_SlicesServeAndRegulate :
    ((63 < 64 ∧ 63 < wSl3.ms.slices.length ∧ 63 < wSl3.ms.mcs.length ∧ ({} : SlcErr).ue = 0 ∧ ({} : SlcErr).backUe = 0
         ∧ (wSl3.atSlice 63 [rq0 1 none]).1.arbitrate 63 (wSl3.atSlice 63 [rq0 1 none]).2 = some (2, wv34000, wv34001)
         ∧ (wSl3.slice 63).find wv34000.line = some wv34002 ∧ wv34000.write = none)
      ∧ (without (needed wv34000) wv34002.present = 0 ∧ (wSl3.atSlice 63 [rq0 (2 ^ 32) none]).1.arbitrate 63
         (wSl3.atSlice 63 [rq0 (2 ^ 32) none]).2 = some (2, wv34003, wv34001) ∧ (wSl3.slice 63).find wv34003.line =
         some wv34002 ∧ wv34003.write = none ∧ without (needed wv34003) wv34002.present ≠ 0 ∧ wSl3.mcState 63 =
         mcONLINE ∧ (wSl3.mc 63).closing = false ∧ (wSl3.mc 63).rq.length < 32)
      ∧ ((wSl3.mc 63).wq.length + (wSl3.slice 63).merging.length ≤ 48 ∧ (wSl3.atSlice 63 [rq0 1 (some 5)]).1.arbitrate 63
         (wSl3.atSlice 63 [rq0 1 (some 5)]).2 = some (2, wv34004, wv34001) ∧ (wSl3.slice 63).find wv34004.line = some
         wv34002 ∧ wv34004.write = some 5 ∧ without (needed wv34004) wv34002.present = 0 ∧ wSl3.mcDead 63 = false ∧ 60
         ≤ 60 ∧ 60 ≤ 63)
      ∧ (60 < wSl3.ms.ports.length ∧ 5 < 16 ∧ wSl3.rf rQOS_OCC_STAT fQOS_OCC_STAT_HELD = 2 ^ 5 ∧ (wSl3.slice 63).shedLine
         (wSl3.slice 63).shed 5 = some wv34002 ∧ wv34002.pend = 0 ∧ (wv34002.dirty = 0 ∨ wSl3.mcRoom 63 1 = true) ∧ 0
         < 72 ∧ wSl3.accepts hart (qosBase + (1024 + 32 * 0)))
      ∧ (wSl3.rf rQOS_CFG fQOS_CFG_GUAR_SUM - wSl3.rf (rQOS_PORT_BKT 0) fQOS_PORT_BKT_MIN_RATE +
         fQOS_PORT_BKT_MIN_RATE.get 0 ≤ wSl3.rf rQOS_CFG fQOS_CFG_GUAR_MAX ∧ wSl3.accepts hart rSC_MAINT ∧ wSl3.flag
         rSC_MAINT fSC_MAINT_BUSY = false ∧ (wSl3.slice 63).swept < 512 ∧ (∀ l ∈ (wSl3.slice 63).lines, l.set =
         (wSl3.slice 63).swept → l.pend = 0) ∧ wSl3.mcRoom 63 (List.filter (fun l => l.set == (wSl3.slice 63).swept &&
         l.dirty != 0) (wSl3.slice 63).lines).length = true ∧ wv34005 ∈ ((wSl3.sweepSet 63).slice 63).lines ∧
         wv34005.set = (wSl3.slice 63).swept)) ∧
    ((63 < 64 ∧ 63 < wSl4.ms.slices.length ∧ 63 < wSl4.ms.mcs.length ∧ wSl4.rf rQOS_OCC_STAT fQOS_OCC_STAT_HELD ≠ 0)
      ∧ (∀ (c : Nat) (l : CLine), wSl4.clsHeld c = true → l ∈ (wSl4.slice 63).lines → l.set = (wSl4.slice 63).shed →
         l.cls ≠ c)) ∧
    ((63 < 64 ∧ 63 < wSl5.ms.slices.length ∧ 63 < wSl5.ms.mcs.length ∧ 0 < 72 ∧ wSl5.accepts hart (qosBase + (1024 +
         32 * 0)) ∧ wSl5.rf rQOS_CFG fQOS_CFG_GUAR_SUM < wSl5.rf rQOS_CFG fQOS_CFG_GUAR_SUM - wSl5.rf (rQOS_PORT_BKT
         0) fQOS_PORT_BKT_MIN_RATE + fQOS_PORT_BKT_MIN_RATE.get (fQOS_PORT_BKT_MIN_RATE.set 0 4095) ∧ wSl5.rf rQOS_CFG
         fQOS_CFG_GUAR_MAX < wSl5.rf rQOS_CFG fQOS_CFG_GUAR_SUM - wSl5.rf (rQOS_PORT_BKT 0) fQOS_PORT_BKT_MIN_RATE +
         fQOS_PORT_BKT_MIN_RATE.get (fQOS_PORT_BKT_MIN_RATE.set 0 4095))) ∧
    ((63 < 64 ∧ 63 < wSl6.ms.slices.length ∧ 63 < wSl6.ms.mcs.length ∧ wSl6.flag rSC_MAINT fSC_MAINT_BUSY = true ∧
         ((wSl6.ms.slices.all fun x => decide (512 ≤ x.swept)) = false))) ∧
    ((63 < 64 ∧ 63 < wSl8.ms.slices.length ∧ 63 < wSl8.ms.mcs.length ∧ 5 < 16 ∧ wSl8.rf rQOS_OCC_STAT
         fQOS_OCC_STAT_HELD = 2 ^ 5 ∧ (wSl8.slice 63).shedLine (wSl8.slice 63).shed 5 = some wv34002 ∧ wv34002.pend =
         0 ∧ wv34002.dirty ≠ 0)
      ∧ (wSl8.mcRoom 63 1 = false)) ∧
    ((63 < 64 ∧ 63 < wSl9.ms.slices.length ∧ 63 < wSl9.ms.mcs.length ∧ wSl9.flag rSC_MAINT fSC_MAINT_BUSY = true ∧
         ((wSl9.ms.slices.all fun x => decide (512 ≤ x.swept)) = true))) :=
  by refine ⟨⟨?_, ?_, ?_, ?_, ?_⟩, ⟨?_,
      fun c l _ h => by rw [show (wSl4.slice 63).lines = [] by decide +kernel] at h; cases h⟩, ?_, ?_, ⟨⟨?_, ?_⟩, ?_⟩⟩ <;> decide +kernel

/-! ### therm -/

def wTh0 : State := shTime U 1000000000
def wTh1 : State := (wr wTh0 rTH_CFG fTH_CFG_OUT_EN 1).modTh (fun t => { t with cool := setAt t.cool 2 { hist := [250, 250, 250, 250], lastOk := 999999999 }, lastPulse := 1000000000 })
def wTh2 : State := (wr (wr wTh0 rTH_CFG fTH_CFG_WEAR_LOCK 1) rTH_WEAR_LAST fTH_WEAR_LAST_LAST 400).modTh (fun t => { t with tl := some 600, wearExt := some 680 })
def wTi0 : State := wTh0.modTh (fun t => { t with sens := setAt t.sens 67 { samples := [2401], bad := 9 } })
def wTi1 : State := wr wTh0 rPM_STATUS fPM_STATUS_STATE 3
def coolOk (s : State) : State := sets s [(rTH_COOL, fTH_COOL_FLOW, 20000), (rTH_COOL, fTH_COOL_INLET_A, 250)]
def wTi2 : State := (wr (coolOk (shTime U 2000000000)) rTH_STATUS fTH_STATUS_LEVEL 2).modTh (fun t => { t with rEst := 0 })
def wTi3 : State := (wr (coolOk (shTime U 5000000000)) rTH_STATUS fTH_STATUS_CLAMP 1).modTh (fun t => { t with clampOk := some 0, freed := some 0, clr := true, lastPulse := 5000000000, power := [] })
def wTi4 : State := (wr (shTime U 2000000000) rTH_STATUS fTH_STATUS_HALT 1).modTh (fun t => { t with haltOk := some 0, lastPulse := 2000000000 })
def ktOn : State := sets U [(rHUB_TEST_CFG, fHUB_TEST_CFG_ENABLE, 1), (rHUB_TEST_BASE, fHUB_TEST_BASE_ADDR, 0x1000)]
def kt (s : State) (f : TestUnit → TestUnit) : State := s.modTest 183 f
def wKt0 : State := ktOn
def wKt1 : State := shTime (kt ktOn (fun u => { u with lp := some 5 })) 5
def wKt2 : State := withJob (kt ktOn (fun u => { u with running := true, next := 9 })) 63 { J0 with used := [183] }
def wKt3 : State := kt ktOn (fun u => { u with running := true, next := 8 })
def wKt4 : State := shTime (kt ktOn (fun u => { u with lp := some 5 })) 500000000
def wKt5 : State := ktOn.setTestFault 183 true
def wKt6 : State := sets U [(rHUB_TEST_BASE, fHUB_TEST_BASE_ADDR, 0x1000)]

/-- Hypotheses of the clauses 1.1, 1.2, 3.1, 3.2, 4, 5, 6, 7.1, 7.2, 8, 10; 2.1, 2.2, 2.3, 2.4, 2.5; 9 of
`Obligations.ThermalInputsAreMeasured`. -/
theorem witness_ThermalInputsAreMeasured :
    ((wTh1.thermalRuns = true ∧ 0 < wTh1.th.sens.length ∧ wTh1.sensorHeard 0 = true ∧ 60 < wTh1.th.sens.length ∧
         wTh1.sensorHeard 60 = false ∧ wTh1.coolFitted 0 = true ∧ 250 = medianInt (List.take 5 (250 ::
         (wTh1.th.cool.getD 0 { }).hist)) ∧ -450 ≤ 250)
      ∧ (250 ≤ 1100 ∧ (wTh1.dtime < (if -450 ≤ 250 ∧ 250 ≤ 1100 then wTh1.dtime else (wTh1.th.cool.getD 0 { }).lastOk) +
         100000000) ∧ 2000 = medianInt (List.take 5 (2000 :: (wTh1.th.cool.getD 0 { }).hist)) ∧ (0 = if -450 ≤ 2000 ∧
         2000 ≤ 1100 then wTh1.dtime else (wTh1.th.cool.getD 0 { }).lastOk) ∧ (¬(-450 ≤ 2000 ∧ 2000 ≤ 1100 ∧
         wTh1.dtime < 0 + 100000000)) ∧ wTh1.coolFitted 60 = false ∧ 0 < 50 ∧ 50 ≤ 50)
      ∧ (wTh1.rf rTH_CLAMP_CFG fTH_CLAMP_CFG_FLOW_TMO_MS ≠ 0 ∧ 1 = (List.filter (fun p => decide (wTh1.dtime < p +
         500000000)) wTh1.th.pulses).length + 1 ∧ (0 = 3 ∨ wTh1.coolFitted 0 = true) ∧ (if 0 = 3 then wTh1.flowStopped
         = true else (wTh1.th.cool.getD 0 { }).lastOk + 100000000 ≤ wTh1.dtime) ∧ (2 = 3 ∨ wTh1.coolFitted 2 = true) ∧
         (¬if 2 = 3 then wTh1.flowStopped = true else (wTh1.th.cool.getD 2 { }).lastOk + 100000000 ≤ wTh1.dtime) ∧
         wTh1.flag rTH_CFG fTH_CFG_WEAR_LOCK = false ∧ wTh1.accepts hart rTH_CFG)) ∧
    ((wTi1.thermalRuns = false)) ∧
    ((wTh2.flag rTH_CFG fTH_CFG_WEAR_LOCK = true ∧ wTh2.thermalRuns = true ∧ wTh2.th.tl = some 600 ∧ wTh2.th.wearExt =
         some 680 ∧ wTh2.wearLast < 680 ∧ 600 ≤ 680 ∧ 80 ≤ 680 - 600)) :=
  by refine ⟨⟨?_, ?_, ?_⟩, ?_, ?_⟩ <;> decide +kernel

/-- Hypotheses of the clauses 1, 4, 5, 7, 9, 11; 6, 8; 2; 3; 10 of `Obligations.ThermalLevelsClampAndHalt`. -/
theorem witness_ThermalLevelsClampAndHalt :
    ((wTi0.thermalRuns = true ∧ (wTi0.clamped = true ∨ wTi0.level ≤ wTi0.levelDue) ∧ wTi0.flowStopped = true ∧
         wTi0.accepts hart rTH_CLAMP_CFG ∧ (wTi0.clamped = false ∨ wTi0.clampQuiet = false) ∧ wTi0.th.haltOk = none)) ∧
    ((wTi3.flowStopped = false ∧ wTi3.clamped = true ∧ wTi3.clampQuiet = true ∧ wTi3.rateMet = false)) ∧
    ((wTi1.thermalRuns = false)) ∧
    ((wTi2.clamped = false ∧ 0 < wTi2.level ∧ wTi2.levelDue < wTi2.level ∧ wTi2.th.heldAt + 2000000000 ≤ wTi2.dtime)) ∧
    ((wTi4.th.haltOk = some 0 ∧ wTi4.halted = true ∧ 0 + 2000000000 ≤ wTi4.dtime)) :=
  by refine ⟨?_, ?_, ?_, ?_, ?_⟩ <;> decide +kernel

/-- Hypotheses of the clauses 1, 3, 4, 7.2, 9; 2; 5; 6; 7.1; 8.1; 8.2 of `Obligations.KnownAnswerTestsRun`. -/
theorem witness_KnownAnswerTestsRun :
    ((0 < 184 ∧ 0 < wKt2.tests.length ∧ wKt2.flag rHUB_TEST_CFG fHUB_TEST_CFG_ENABLE = true ∧ wKt2.unitThere 0 = true
         ∧ (wKt2.unitTest 0).due = false ∧ wKt2.testFault 0 = false ∧ (∀ (lp : Nat), (wKt2.unitTest 0).lp = some lp →
         lp + wKt2.halfPeriod ≤ wKt2.dtime) ∧ 183 < 184)
      ∧ (183 < wKt2.tests.length ∧ (wKt2.unitTest 183).running = true ∧ 0 ≠ 1 ∧ testSlices 183 ≤ (wKt2.unitTest 183).next
         + 1 ∧ wKt2.accepts hart rHUB_TEST_RETEST ∧ (wKt2.testFault 183 = false ∨ (wKt2.unitTest 183).dead = true) ∧
         wKt2.accepts hart rHUB_TEST_CFG)) ∧
    ((183 < 184 ∧ 183 < wKt1.tests.length ∧ (wKt1.unitTest 183).lp = some 5 ∧ wKt1.dtime < 5 + wKt1.halfPeriod)) ∧
    ((183 < 184 ∧ 183 < wKt3.tests.length ∧ (wKt3.unitTest 183).running = true ∧ (wKt3.unitTest 183).next + 1 <
         testSlices 183)) ∧
    ((183 < 184 ∧ 183 < wKt4.tests.length ∧ (wKt4.unitTest 183).lp = some 5 ∧ wKt4.flag rHUB_TEST_CFG
         fHUB_TEST_CFG_ENABLE = true ∧ (wKt4.unitTest 183).missed = false ∧ wKt4.testFault 183 = false ∧ 5 + 2 *
         wKt4.halfPeriod ≤ wKt4.dtime)) ∧
    ((183 < 184 ∧ 183 < wKt5.tests.length ∧ wKt5.accepts hart rHUB_TEST_RETEST ∧ wKt5.testFault 183 = true ∧
         (wKt5.unitTest 183).dead = false)) ∧
    ((0 < 184 ∧ 0 < wKt6.tests.length ∧ wKt6.accepts hart rHUB_TEST_CFG ∧ wKt6.flag rHUB_TEST_CFG fHUB_TEST_CFG_ENABLE
         = false ∧ wKt6.rf rHUB_TEST_BASE fHUB_TEST_BASE_ADDR ≠ 0)) ∧
    ((0 < 184 ∧ 0 < U.tests.length ∧ U.accepts hart rHUB_TEST_CFG ∧ U.flag rHUB_TEST_CFG fHUB_TEST_CFG_ENABLE = false
         ∧ U.rf rHUB_TEST_BASE fHUB_TEST_BASE_ADDR = 0)) :=
  by refine ⟨⟨?_, ?_⟩, ?_, ?_, ?_, ⟨?_, ?_, ?_⟩⟩ <;> decide +kernel

/-! ### skink -/

/-- A frame of 320 bits with its CRC: SEQ, kind, payload. -/
def frOf (seq kind pay : Nat) : Nat :=
  let e := seq * 2 ^ 36 + kind * 2 ^ 20
  (crc16 304 (e * 2 ^ 256 + pay) * 2 ^ 48 + e) * 2 ^ 256 + pay
/-- Connection `n` UP with all its bundles in service. -/
def skUp (s : State) (n : Nat) : State :=
  (s.setConnState n skUP).modConn n (fun c => { c with bundles := c.bundles.mapIdx (fun i _ => { live := skHas n i }) })
def wSk0 : State := skUp U 3
def wSk1 : State := wSk0.modConn 3 (fun c => { c with bundles := setAt c.bundles 47 {} })
def wSk2 : State := wSk0.modDir 3 1 (fun x => { x with nakSeq := some 0, nakRun := 63 })
def wLt0 : State := U.modConn 9 (fun c => { c with test := some { start := 0, bundles := [0, 24], whole := true } })
def wLt1 : State := (shTime wLt0 70000000)
def wLt2 : State := wr U (rSK_CONN_STATUS 9) fSK_CONN_STATUS_SB_LOST 1
def wLt3 : State := wr wLt0 (rSK_CONN_STATUS 9) fSK_CONN_STATUS_SB_LOST 1
def X1 (k : Nat) : SkXch := { num := k, bundles := [0, 24], whole := true, fallback := false }
def inX (k : Nat) (a b : SkSide) : State := (U.setConnState 9 skAGREE).modConn 9 (fun c => { c with xch := some (X1 k), sides := [a, b], bundles := c.bundles.map (fun x => { x with rx := skAllGood 9, tx := skAllGood 9 - 2, clock := true }) })
def wXc0 : State := inX 1 {} { sum := some (2 ^ 24) }
def done9 (cf : Bool) : SkSide := { sum := some 0, conf := cf, nacked := some 7 }
def wXc1 : State := inX 1 (done9 false) (done9 false)
def wXc2 : State := inX 1 (done9 true) (done9 false)
def wXc3 : State := inX 3 (done9 false) (done9 false)
def sk5 : Nat := 9
def wQu0 : State := skUp U 9
def wQu1 : State := ((shTime U 1000000).setDieState 5 3).modSk (fun k => { k with reports := setAt k.reports 5 (some .run) })
def sweepAt (t : Nat) : State := ((shTime U t).setDieState 5 1).modSk (fun k => { k with sweeps := setAt k.sweeps 5 (some { bound := 1000, entry := 15, total := 1, hold := true }) })
def wQu2 : State := (skUp U 9).setDieState 5 2
def wQu3 : State := sweepAt 1000
def wQu4 : State := sweepAt 999
/-- Die 5 REJOINING with its connections UP, tested, agreed, and its copy loaded. -/
def wQu5 : State :=
  ((skUp (skUp (skUp (U.setDieState 5 2) (skHubConn 5)) ((skRings 5).getD 0 0)) ((skRings 5).getD 1 0))).modSk (fun k => { k with loaded := setAt k.loaded 5 true })

/-- Hypotheses of the clauses 1.1, 1.2, 1.3, 2, 3, 5.1, 5.2; 4 of `Obligations.LinkFramesAreDeliveredInOrder`. -/
theorem witness_LinkFramesAreDeliveredInOrder :
    ((3 < 10 ∧ 3 < wSk2.sk.conns.length ∧ 1 < 2 ∧ 23 < skBundles 3 ∧ 1 < (wSk2.skConn 3).dirs.length ∧ 24 * 1 + 23 <
         (wSk2.skConn 3).bundles.length ∧ wSk2.connState 3 = skUP ∧ frOf 0 1 5 = frGot
         { sent := frOf 0 1 5, flips := 0 })
      ∧ (((wSk2.skConn 3).bundle (24 * 1 + 23)).live = true ∧ frGood (frOf 0 1 5) = true ∧ seqDist ((wSk2.skConn 3).dir
         1).next (frSeq (frOf 0 1 5)) = 0 ∧ frOf 5 1 5 = frGot { sent := frOf 5 1 5, flips := 0 } ∧ frGood (frOf 5 1
         5) = true ∧ 0 < seqDist ((wSk2.skConn 3).dir 1).next (frSeq (frOf 5 1 5)) ∧ seqDist ((wSk2.skConn 3).dir
         1).next (frSeq (frOf 5 1 5)) < 2048 ∧ frOf 4000 1 5 = frGot { sent := frOf 4000 1 5, flips := 0 })
      ∧ (frGood (frOf 4000 1 5) = true ∧ 2048 ≤ seqDist ((wSk2.skConn 3).dir 1).next (frSeq (frOf 4000 1 5)) ∧ frGood
         (frOf 0 1 5) = true ∧ ((wSk2.skConn 3).dir 1).held.length < 2048 ∧ seqDist ((wSk2.skConn 3).dir 1).acked
         (frSeq (frOf 0 1 5)) < 2048 ∧ frOf 0 1 5 - 1 = frGot { sent := frOf 0 1 5, flips := 1 } ∧ frGood (frOf 0 1 5
         - 1) = false ∧ seqDist ((wSk2.skConn 3).dir 1).acked 1 < 2048)
      ∧ ((1 = if ((wSk2.skConn 3).dir 1).nakSeq = some (1 % 4096) then ((wSk2.skConn 3).dir 1).nakRun + 1 else 1) ∧ 1 <
         64 ∧ seqDist ((wSk2.skConn 3).dir 1).acked 0 < 2048 ∧ (64 = if ((wSk2.skConn 3).dir 1).nakSeq = some (0 %
         4096) then ((wSk2.skConn 3).dir 1).nakRun + 1 else 1) ∧ 64 ≤ 64)) ∧
    ((3 < 10 ∧ 3 < wSk1.sk.conns.length ∧ 1 < 2 ∧ 23 < skBundles 3 ∧ 1 < (wSk1.skConn 3).dirs.length ∧ 24 * 1 + 23 <
         (wSk1.skConn 3).bundles.length ∧ wSk1.connState 3 = skUP ∧ frOf 0 1 5 = frGot
         { sent := frOf 0 1 5, flips := 0 })
      ∧ (((wSk1.skConn 3).bundle (24 * 1 + 23)).live = false)) :=
  by refine ⟨⟨?_, ?_, ?_, ?_⟩, ⟨?_, ?_⟩⟩ <;> decide +kernel

/-- Hypotheses of the clauses 1.1, 3, 5.1, 5.2, 5.3, 6, 7; 1.2, 2.1, 2.3; 2.2; 4 of
`Obligations.LanesAreTestedAndAgreed`. -/
theorem witness_LanesAreTestedAndAgreed :
    ((9 < 10 ∧ 9 < wXc2.sk.conns.length ∧ 0 < 2 ∧ (wXc2.skConn 9).sides.length = 2 ∧ [0] = List.filter (fun i =>
         Nat.testBit 1 (i / 24) && Nat.testBit 1 (i % 24)) (skAll 9) ∧ wXc2.sbLost 9 = false ∧ wXc2.connState 9 ≠ skUP
         ∧ [0] ≠ [])
      ∧ (wXc2.connClocked 9 = true ∧ (wXc2.connState 9 ≠ skQUAR ∨ wXc2.mayRetest 9 = true) ∧ wXc2.inXch 9 1 = some (X1 1)
         ∧ (wXc2.skConn 9).xch = some (X1 1) ∧ (X1 1).fallback = false ∧ ((wXc2.skConn 9).side 0).complete (X1
         1).bundles = true ∧ ((wXc2.skConn 9).side (1 - 0)).conf = false ∧ 1 < 2)
      ∧ (((wXc2.skConn 9).side 1).complete (X1 1).bundles = true ∧ ((wXc2.skConn 9).side (1 - 1)).conf = true ∧ 0 ≠
         wXc2.confirmOf 9 (1 - 0) (X1 1) ∧ ((wXc2.skConn 9).side (1 - 0)).nacked ≠ some 9 ∧ ((wXc2.skConn 9).side (1 -
         0)).nacked = some 7 ∧ 4 ≤ 4 ∧ 4 ≤ 6)) ∧
    ((9 < 10 ∧ 9 < wLt3.sk.conns.length ∧ 0 < 2 ∧ (wLt3.skConn 9).sides.length = 2 ∧ [] = List.filter (fun i =>
         Nat.testBit 1 (i / 24) && Nat.testBit 0 (i % 24)) (skAll 9) ∧ wLt3.sbLost 9 = true ∧ (wLt3.skConn 9).test =
         some ({ start := 0, bundles := [0, 24], whole := true } : SkTest) ∧ wLt3.dtime <
         ({ start := 0, bundles := [0, 24], whole := true } : SkTest).start + wLt3.testNs 9)) ∧
    ((9 < 10 ∧ 9 < wLt1.sk.conns.length ∧ 0 < 2 ∧ (wLt1.skConn 9).sides.length = 2 ∧ (wLt1.skConn 9).test = some
         ({ start := 0, bundles := [0, 24], whole := true } : SkTest) ∧ wLt1.sbLost 9 = false ∧
         ({ start := 0, bundles := [0, 24], whole := true } : SkTest).start + wLt1.testNs 9 ≤ wLt1.dtime)) ∧
    ((9 < 10 ∧ 9 < wXc0.sk.conns.length ∧ 1 < 2 ∧ (wXc0.skConn 9).sides.length = 2 ∧ wXc0.inXch 9 1 = some (X1 1) ∧
         ((wXc0.skConn 9).side 1).sum = some (2 ^ 24) ∧ (2 ^ 24).testBit 24 = true ∧ (X1 1).bundles.contains 24 =
         true)) :=
  by refine ⟨⟨?_, ?_, ?_⟩, ?_, ?_, ?_⟩ <;> decide +kernel

def wv40000 : SkSweep := { bound := 1000, entry := 15, total := 1, hold := true, swept := 0, lost := 0 }
/-- Hypotheses of the clauses 1, 2, 3, 5, 6.1, 6.2, 6.3, 8, 9, 10.1, 10.2, 11.1; 4, 11.2; 7.1; 7.2 of
`Obligations.DiesAreQuarantinedAndRejoin`. -/
theorem witness_DiesAreQuarantinedAndRejoin :
    ((9 < 10 ∧ 9 < wQu5.sk.conns.length ∧ 0 < 2 ∧ (wQu5.skConn 9).sides.length = 2 ∧ wQu5.sk.reports.length = 6 ∧
         wQu5.sk.sweeps.length = 6 ∧ wQu5.sk.claims.length = 6 ∧ wQu5.sk.commits.length = 6)
      ∧ ((((wQu5.skConn 9).side 0).last ≠ some DieReport.run ∨ ((wQu5.skConn 9).side 0).sentAt + 100000 ≤ wQu5.dtime) ∧
         skSideDie 9 0 = some 5 ∧ 1 ≤ 5 ∧ 5 ≤ 6 ∧ wQu5.connState 9 = skUP ∧ wQu5.dtime < (wQu5.skConn 9).heard +
         1000000 ∧ ((wQu5.takeCfg 9 false).skConn 9).rsp < 101 ∧ 9 ≤ ((wQu5.takeCfg 9 false).skConn 9).rsp)
      ∧ (5 < 6 ∧ wQu5.rejoinReady 3 = false ∧ wQu5.rejoinReady 5 = true ∧ 0 ≤ wQu5.fabCycle ∧ wQu5.fabCycle < 5 ∧
         wQu5.accepts hart rSK_DIE_CTRL ∧ 3 < 6 ∧ wQu5.diePresent 3 = true)
      ∧ (wQu5.connState (skHubConn 3) ≠ skQUAR)) ∧
    ((9 < 10 ∧ 9 < wQu1.sk.conns.length ∧ 0 < 2 ∧ (wQu1.skConn 9).sides.length = 2 ∧ wQu1.sk.reports.length = 6 ∧
         wQu1.sk.sweeps.length = 6 ∧ wQu1.sk.claims.length = 6 ∧ wQu1.sk.commits.length = 6)
      ∧ ((wQu1.skConn 9).heard + 1000000 ≤ wQu1.dtime ∧ wQu1.accepts hart rSK_DIE_CTRL ∧ 5 < 6 ∧ (wQu1.dieState 5 = 3 ∨
         wQu1.dieState 5 = 4) ∧ wQu1.sbLost (skHubConn 5) = false)) ∧
    ((9 < 10 ∧ 9 < wQu3.sk.conns.length ∧ 0 < 2 ∧ (wQu3.skConn 9).sides.length = 2 ∧ wQu3.sk.reports.length = 6 ∧
         wQu3.sk.sweeps.length = 6 ∧ wQu3.sk.claims.length = 6 ∧ wQu3.sk.commits.length = 6)
      ∧ (5 < 6 ∧ wQu3.sk.sweeps[5]? = some (some wv40000) ∧ wQu3.dieState 5 = 1 ∧ wv40000.entry < 16 ∧ wv40000.bound ≤
         wQu3.dtime)) ∧
    ((9 < 10 ∧ 9 < wQu4.sk.conns.length ∧ 0 < 2 ∧ (wQu4.skConn 9).sides.length = 2 ∧ wQu4.sk.reports.length = 6 ∧
         wQu4.sk.sweeps.length = 6 ∧ wQu4.sk.claims.length = 6 ∧ wQu4.sk.commits.length = 6)
      ∧ (5 < 6 ∧ wQu4.sk.sweeps[5]? = some (some wv40000) ∧ wQu4.dieState 5 = 1 ∧ wv40000.entry < 16 ∧ wQu4.dtime <
         wv40000.bound)) :=
  by refine ⟨⟨?_, ?_, ?_, ?_⟩, ⟨?_, ?_⟩, ⟨?_, ?_⟩, ⟨?_, ?_⟩⟩ <;> decide +kernel

/-! ### chor -/

/-- Port `k` a device link in state `st` to part `nbr`. -/
def dl (s : State) (k st nbr : Nat) : State := sets s [(rDL_CFG k, fDL_CFG_MODE, 1), (rDL_STATUS k, fDL_STATUS_STATE, st), (rDL_STATUS k, fDL_STATUS_NBR_ID, nbr), (rDL_STATUS k, fDL_STATUS_WIDTH, 3)]
def wCh0 : State := dl U 3 2 7
def wCh1 : State := wr (wr wCh0 rCH_STATUS fCH_STATUS_STATE 2) rCH_VIEW fCH_VIEW_VIEW 1 |> (wr · rCH_STATUS fCH_STATUS_MEMBERS 1)
def wCh2 : State := withDesc (ctxOn U 63) 63 { num := 0, raw := 9, phase := .started, units := [144] }
def wCh3 : State := (dl U 3 3 7).modLink 3 (fun l => { l with width := 1 })
def wCh4 : State := dl U 3 1 7
def wCh5 : State := U.wf (rDL_CFG 0) fDL_CFG_MODE 2
def wCh6 : State := shTime wCh0 50000
def wCh7 : State := shTime (wCh0.modLink 3 (fun l => { l with misses := 2 })) 50000
/-- A flit of a kind with its destination and its sequence number. -/
def flitOf (kind dst seq : Nat) : List Byte := leBytes 1 kind ++ leBytes 1 (16 * dst) ++ leBytes 1 0 ++ leBytes 2 seq ++ leBytes 3 0 ++ List.replicate 236 0
def chst (s : State) (st : Nat) : State := wr s rCH_STATUS fCH_STATUS_STATE st
def cfg0 : ChCfg := { expect := 0x8001, primary := 0, secondary := 0, priEn := false, secEn := false, elig := false, budget := 20000 }
def setCfg (s : State) : State := sets s [(rCH_CFG, fCH_CFG_EXPECT, 0x8001), (rCH_BAR_CFG, fCH_BAR_CFG_FRAME_BUDGET_US, 20000), (rCH_CFG, fCH_CFG_DISC_MS, 1)]
def wMe0 : State := chst (dl (setCfg U) 3 2 15) 1
def wMe1 : State := (shTime wMe0 1000000).modCh (fun c => { c with dup := true })
def wMe2 : State := (shTime wMe0 1000000).modCh (fun c => { c with parts := [{ id := 15, cfg := cfg0, adj := [{ port := 3, nbr := 0, nbrPort := 3 }] }] })
def wMe3 : State := (shTime (chst (setCfg U) 1) 1000000)
/-- RUN in view 1 with part 15. -/
def wMe4 : State := sets (chst wMe2 2) [(rCH_VIEW, fCH_VIEW_VIEW, 1), (rCH_STATUS, fCH_STATUS_MEMBERS, 0x8001)]
def wMe5 : State := wMe4.modCh (fun c => { c with agree := some { num := 2, set := 0x8001, since := 0, flooded := 0 } })
def wMe6 : State := put (sets (wMe4.modCh (fun c => { c with arrivals := [(15, 4)] })) [(rCH_ARRIVE_ADDR, fCH_ARRIVE_ADDR_EN, 1), (rCH_ARRIVE_ADDR, fCH_ARRIVE_ADDR_ADDR, 0x2000), (rCH_RELEASE_ADDR, fCH_RELEASE_ADDR_EN, 1), (rCH_RELEASE_ADDR, fCH_RELEASE_ADDR_ADDR, 0x2001)]) 0x10000 (leBytes 8 4)
def wMe7 : State := shTime (wMe4.modCh (fun c => { c with mine := [(4, 1000000)] })) 21000000
def wMe8 : State := wMe7.modCh (fun c => { c with late := [4] })
def wMe9 : State := shTime wMe5 799999
def wMeA : State := shTime wMe7 20999999

def wv41000 : Desc :=
  { num := 0, raw := 9, poison := false, phase := Sys2Proof.Machine.Phase.started, status := 0, detail := 0, inJob := none, slot := 0, start := 0, order := 0, waited := false, attempt := 0, units := [144] }
/-- Hypotheses of the clauses 1.1, 1.2, 3.1, 3.2, 3.3, 6.1, 6.2, 7, 8.1, 8.2, 8.3, 10.1, 10.2, 11.1, 12; 2.1, 2.2;
4.1, 4.2; 5.1, 5.2; 11.2; 9; 11.3 of `Obligations.DeviceLinksTrainCarryAndFail`. -/
theorem witness_DeviceLinksTrainCarryAndFail :
    ((3 < 4 ∧ wCh1.ch.links.length = 4 ∧ wCh1.linkOn 3 = true ∧ 1 % 256 ≠ 0 ∧ lanesLeft 1 ≠ 0 ∧ 17 % 256 ≠ 0 ∧
         lanesLeft 17 = 0 ∧ flitOf 1 0 0 = List.take 8 (flitOf 1 0 0) ++ List.drop 8 (flitOf 1 0 0))
      ∧ (wCh1.linkUp 3 = true ∧ flDist (wCh1.devLink 3).next (flSeq (flitOf 1 0 0)) = 0 ∧ flitOf 1 0 5 = List.take 8
         (flitOf 1 0 5) ++ List.drop 8 (flitOf 1 0 0) ∧ 0 < flDist (wCh1.devLink 3).next (flSeq (flitOf 1 0 5)) ∧
         crc32c (flitOf 1 0 0) ≠ crc32c (flitOf 1 0 5) ∧ 0 < 4 ∧ wCh1.accepts hart (rDL_CFG 0) ∧ wCh1.dlState 0 =
         dlDOWN)
      ∧ ((fDL_CFG_MODE.get 0 < 2 ∨ 0 = 0) ∧ wCh1.accepts hart (rDL_CFG 3) ∧ (wCh1.dlState 3 ≠ dlDOWN ∨ 2 ≤
         fDL_CFG_MODE.get 0 ∧ 3 ≠ 0) ∧ (∀ (a : Nat), wCh1.ch.beatAt = some a → a + 50000 ≤ wCh1.dtime) ∧ wCh1.chState
         = csRUN ∧ wCh1.listens 7 = false ∧ (¬(wCh1.chState = csRUN ∧ wCh1.listens 0 = false)) ∧ 0 ≤ wCh1.chView)
      ∧ (wCh1.followsChorus = false ∧ (List.replicate 16 5).length = 16 ∧ (wCh1.devLink 3).probed = false ∧ (([] : List
         Nat).length ≠ 16 ∨ (wCh1.devLink 3).probed = true) ∧ wCh1.rf rCH_RSP_CFG fCH_RSP_CFG_RSP_TIMEOUT_US < 5000 ∧
         (0 ≤ wCh1.rf rCH_RSP_CFG fCH_RSP_CFG_RSP_TIMEOUT_US ∨ wCh1.reqOpen (PeerReq.hart 0) = false))) ∧
    ((3 < 4 ∧ wCh3.ch.links.length = 4 ∧ wCh3.isDev 3 = true ∧ wCh3.dlState 3 = dlRETRAIN ∧ (wCh3.devLink 3).width <
         4)) ∧
    ((3 < 4 ∧ wCh4.ch.links.length = 4 ∧ wCh4.isDev 3 = true ∧ wCh4.dlState 3 = dlTRAINING)) ∧
    ((3 < 4 ∧ wCh5.ch.links.length = 4 ∧ 2 ≤ wCh5.rf (rDL_CFG 0) fDL_CFG_MODE)) ∧
    ((3 < 4 ∧ wCh2.ch.links.length = 4 ∧ wCh2.rf rCH_RSP_CFG fCH_RSP_CFG_RSP_TIMEOUT_US < 5000 ∧ wCh2.desc 63 0 = some
         wv41000 ∧ wv41000.phase = Phase.started ∧ wv41000.units.contains 144 = true)) ∧
    ((3 < 4 ∧ wCh6.ch.links.length = 4 ∧ wCh6.linkOn 3 = true ∧ (wCh6.devLink 3).timer + 50000 ≤ wCh6.dtime)) ∧
    ((3 < 4 ∧ wTil2.ch.links.length = 4 ∧ wTil2.rf rCH_RSP_CFG fCH_RSP_CFG_RSP_TIMEOUT_US < 5000 ∧ 5 < 128 ∧
         slicePresent (wTil2.tileState 5) = true ∧ (wTil2.desc (wTil2.tileCtx 5) (wTil2.tile 5).knum).isSome = true)) :=
  by refine ⟨⟨?_, ?_, ?_, ?_⟩, ?_, ?_, ?_, ⟨?_, ?_, ?_⟩⟩ <;> decide +kernel

/-- Hypotheses of the clauses 1.2, 1.3, 3.1, 6.1, 6.2, 9, 10.1, 11; 2, 3.2, 4, 5.1; 6.3, 7.1, 7.2; 1.1; 5.2; 5.3; 8;
7.3; 10.2 of `Obligations.MembersDiscoverAgreeAndMeet`. -/
theorem witness_MembersDiscoverAgreeAndMeet :
    ((3 < 4 ∧ wMe8.selfId < 16 ∧ wMe8.accepts hart rCH_CFG ∧ wMe8.chState ≠ csOFF ∧ wMe8.linkUp 3 = true ∧
         wMe8.chState = csRUN ∧ wMe8.listens 0 = true ∧ wMe8.ch.seen.contains (0, 1) = false)
      ∧ (wMe8.ch.agree = none ∧ 1 ≤ wMe8.chView ∧ wMe8.chView < 2 ∧ Nat.testBit 32768 wMe8.selfId = false ∧
         wMe8.ch.arrivedAt 1 = some 1000000 ∧ wMe8.barDone < 1 ∧ wMe8.ch.late.contains 1 = false ∧ 1000000 + wMe8.rf
         rCH_BAR_CFG fCH_BAR_CFG_FRAME_BUDGET_US * 1000 ≤ wMe8.dtime)
      ∧ (wMe8.ch.late.contains 4 = true)) ∧
    ((3 < 4 ∧ wMe1.selfId < 16 ∧ wMe1.chState = csDISCOVER ∧ (∀ (a : Nat), wMe1.ch.helloAt = some a → a + 100000 ≤
         wMe1.dtime) ∧ wMe1.linkUp 3 = true ∧ wMe1.ch.seen.contains (0, 1) = false ∧ wMe1.ch.hellos.contains
         { origin := wMe1.selfId, seq := 1, body := ChBody.hello cfg0 [] } = false ∧ wMe1.ch.agree = none)
      ∧ (wMe1.ch.learned + wMe1.rf rCH_CFG fCH_CFG_DISC_MS * 1000000 ≤ wMe1.dtime ∧ wMe1.discoveryFault ≠ cfNONE)) ∧
    ((3 < 4 ∧ wMe5.selfId < 16 ∧ wMe5.linkUp 3 = true ∧ wMe5.chState = csRUN ∧ wMe5.listens 15 = true ∧
         wMe5.ch.seen.contains (15, 1) = false ∧ wMe5.ch.agree = some
         ({ num := 2, set := 32769, since := 0, flooded := 0 } : ChAgree) ∧
         ({ num := 2, set := 32769, since := 0, flooded := 0 } : ChAgree).num = 2)
      ∧ (({ num := 2, set := 32769, since := 0, flooded := 0 } : ChAgree).set = 32769 ∧ 32769 < 2 ^ 16 ∧ 2 < 2 ^ 64 ∧
         Nat.testBit 32769 wMe5.selfId = true ∧ (∀ d ∈ membersOf 32769, d ≠ wMe5.selfId → d ≠ 15 → mapGet
         wMe5.ch.views d = some (2, 32769)) ∧ ({ num := 2, set := 32769, since := 0, flooded := 0 } : ChAgree).flooded
         + 10000 ≤ wMe5.dtime ∧ ({ num := 2, set := 32769, since := 0, flooded := 0 } : ChAgree).since + 800000 ≤
         wMe5.dtime ∧ (wMe5.reachMask wMe5.chMembers).testBit wMe5.selfId = true)
      ∧ ((∃ d ∈ membersOf (wMe5.reachMask wMe5.chMembers), d ≠ wMe5.selfId ∧ mapGet wMe5.ch.views d ≠ some
         (({ num := 2, set := 32769, since := 0, flooded := 0 } : ChAgree).num + 1, wMe5.reachMask wMe5.chMembers)))) ∧
    ((3 < 4 ∧ U.selfId < 16 ∧ U.accepts hart rCH_CFG ∧ U.chState = csOFF)) ∧
    ((3 < 4 ∧ wMe2.selfId < 16 ∧ wMe2.chState = csDISCOVER ∧ wMe2.ch.agree = none ∧ wMe2.ch.learned + wMe2.rf rCH_CFG
         fCH_CFG_DISC_MS * 1000000 ≤ wMe2.dtime ∧ wMe2.discoveryFault = cfNONE ∧ wMe2.ch.views = [] ∧ wMe2.discovered
         ≠ 2 ^ wMe2.selfId)) ∧
    ((3 < 4 ∧ wMe3.selfId < 16 ∧ wMe3.chState = csDISCOVER ∧ wMe3.ch.agree = none ∧ wMe3.ch.learned + wMe3.rf rCH_CFG
         fCH_CFG_DISC_MS * 1000000 ≤ wMe3.dtime ∧ wMe3.discoveryFault = cfNONE ∧ wMe3.discovered = 2 ^ wMe3.selfId)) ∧
    ((3 < 4 ∧ wMe6.selfId < 16 ∧ 4 = wMe6.memNat (wMe6.rf rCH_ARRIVE_ADDR fCH_ARRIVE_ADDR_ADDR * 8) 8 ∧ wMe6.chState =
         csRUN ∧ wMe6.flag rCH_ARRIVE_ADDR fCH_ARRIVE_ADDR_EN = true ∧ wMe6.mem.poisoned (wMe6.rf rCH_ARRIVE_ADDR
         fCH_ARRIVE_ADDR_ADDR * 8) 8 = false ∧ wMe6.ch.arrived wMe6.selfId < 4)) ∧
    ((3 < 4 ∧ wMe9.selfId < 16 ∧ wMe9.ch.agree = some ({ num := 2, set := 32769, since := 0, flooded := 0 } : ChAgree)
         ∧ wMe9.dtime < ({ num := 2, set := 32769, since := 0, flooded := 0 } : ChAgree).since + 800000)) ∧
    ((3 < 4 ∧ wMeA.selfId < 16 ∧ wMeA.ch.arrivedAt 1 = some 1000000 ∧ wMeA.chState = csRUN ∧ wMeA.barDone < 1 ∧
         wMeA.ch.late.contains 1 = false ∧ wMeA.dtime < 1000000 + wMeA.rf rCH_BAR_CFG fCH_BAR_CFG_FRAME_BUDGET_US *
         1000)) :=
  by refine ⟨⟨?_, ?_, ?_⟩, ⟨?_, ?_⟩, ⟨?_, ?_, ?_⟩, ?_, ⟨?_, ?_, ?_, ?_, ?_⟩⟩ <;> decide +kernel

/-! ### isl1 -/

def wIsl0 : State := islAt 1 4 (fun x => { x with held := true, tripAt := 5 })
def wIsl1 : State := timeIsl (islAt 1 4 (fun x => { x with lastTrip := 3 })) 100000000
def wIsl2 : State := timeIsl (islAt 1 3 (fun x => { x with restartAt := some 1 })) 9999999999
def wIsl3 : State := timeIsl (islAt 1 1 id) 2000000000
def wIsl4 : State := timeIsl (islAt 1 0 id) 1999999999
def isx (m : Nat) (f : Island → Island) : State := timeIsl (islAt 1 3 (fun x => f { x with mode := m })) 20000000000
def wCore0 : State := isx 0 id
def wCore1 : State := isx 0 (fun x => { x with fences := [(2, 11000000000), (2, 12000000000)], retired := [1], moult := some 1 })
def wCore2 : State := isx 0 (fun x => { x with fenced := [0], moult := some 1 })
def wCore3 : State := isx 1 (fun x => { x with fenced := [2], moult := some 1 })
def wCore4 : State := sets (isx 2 id) [(rTR_AUTH_STAT, fTR_AUTH_STAT_LEVEL, 3)]
def wCore6 : State := isx 0 (fun x => { x with fences := [(2, 11000000000), (2, 12000000000)], fenced := [0] })
def wCore7 : State := isx 0 (fun x => { x with fences := [(2, 11000000000), (2, 12000000000)], checkAt := 19999999999 })
def wCore8 : State := sets (isx 0 (fun x => { x with cores := [1, 2, 3], dbg := { halted := [0, 1, 2] } })) [(rTR_AUTH_STAT, fTR_AUTH_STAT_LEVEL, 3)]
def wCore5 : State := sets (isx 0 id) [(rTR_AUTH_STAT, fTR_AUTH_STAT_LEVEL, 3)]

/-- Hypotheses of the clauses 1, 2, 3, 4.2, 5.2, 6.1, 6.3, 7.2; 4.1, 7.1, 8.1; 5.1, 6.2; 8.2 of
`Obligations.IslandsTripRestartAndBoot`. -/
theorem witness_IslandsTripRestartAndBoot :
    ((0 < 2 ∧ wIsl0.isl.length = 2 ∧ wIsl0.time.isl.length = 2 ∧ (wIsl0.isle 0).power = false ∧ 1 < 2 ∧ (wIsl0.isle
         1).power = true ∧ (wIsl0.isle 1).state = isFAULT ∧ ((wIsl0.isle 1).held = true ∨ (wIsl0.isle 1).healable =
         false ∨ wIsl0.islTime 1 < (wIsl0.isle 1).tripAt + 100000000))
      ∧ (wIsl0.accepts hart (rSI_CTRL 1) ∧ wIsl0.islHub 1 = true ∧ (wIsl0.isle 1).held = true ∧ wIsl0.accepts hart
         (rSI_CTRL 0) ∧ wIsl0.islHub 0 = true ∧ (wIsl0.isle 0).held = false ∧ (wIsl0.isle 0).state ≠ isFAULT ∧
         (wIsl0.isle 1).txs.length = 5)
      ∧ ((wIsl0.isle 1).state ≠ isBOOT ∧ (wIsl0.isle 1).rom = false)) ∧
    ((1 < 2 ∧ wIsl3.isl.length = 2 ∧ wIsl3.time.isl.length = 2 ∧ (wIsl3.isle 1).power = true ∧ (wIsl3.isle 1).state ≠
         isFAULT ∧ 1 ≤ 1 ∧ 1 ≤ 8 ∧ (wIsl3.isle 1).txs.length = 5)
      ∧ (((wIsl3.isle 1).state = isBOOT ∨ (wIsl3.isle 1).rom = true) ∧ ((wIsl3.isle 1).state = isRESET ∨ (wIsl3.isle
         1).state = isBOOT) ∧ (wIsl3.isle 1).bornAt + 2000000000 ≤ wIsl3.islTime 1)) ∧
    ((1 < 2 ∧ wIsl1.isl.length = 2 ∧ wIsl1.time.isl.length = 2 ∧ (wIsl1.isle 1).power = true ∧ (wIsl1.isle 1).state =
         isFAULT ∧ (wIsl1.isle 1).held = false ∧ (wIsl1.isle 1).healable = true ∧ (wIsl1.isle 1).tripAt + 100000000 ≤
         wIsl1.islTime 1)
      ∧ (wIsl1.accepts hart (rSI_CTRL 1) ∧ wIsl1.islHub 1 = true)) ∧
    ((1 < 2 ∧ wIsl4.isl.length = 2 ∧ wIsl4.time.isl.length = 2 ∧ (wIsl4.isle 1).power = true ∧ ((wIsl4.isle 1).state =
         isRESET ∨ (wIsl4.isle 1).state = isBOOT) ∧ wIsl4.islTime 1 < (wIsl4.isle 1).bornAt + 2000000000)) :=
  by refine ⟨⟨?_, ?_, ?_⟩, ⟨?_, ?_⟩, ⟨?_, ?_⟩, ?_⟩ <;> decide +kernel

/-- Hypotheses of the clauses 1.1, 1.2, 3, 4.2, 6, 7.2, 8; 1.4, 2, 4.1, 5.1; 1.3, 5.2; 1.5, 7.1 of
`Obligations.IslandCoresVoteAndChangeMode`. -/
theorem witness_IslandCoresVoteAndChangeMode :
    ((1 < 2 ∧ wCore7.isl.length = 2 ∧ (wCore7.isle 1).running = true ∧ 0 ≤ 2 ∧ 0 ∉ (wCore7.isle 1).retired ∧
         (wCore7.isle 1).mode = imVOTED ∧ (wCore7.isle 1).paired = false ∧ (wCore7.isle 1).fenced = [])
      ∧ ((List.filter (fun p => p.1 == 0) (List.filter (fun p => decide (wCore7.islTime 1 < p.2 + tenSec)) (wCore7.isle
         1).fences)).length < 2 ∧ 2 ≤ 2 ∧ 2 ∉ (wCore7.isle 1).retired ∧ 2 ≤ (List.filter (fun p => p.1 == 2)
         (List.filter (fun p => decide (wCore7.islTime 1 < p.2 + tenSec)) (wCore7.isle 1).fences)).length ∧
         wCore7.islTime 1 < (wCore7.isle 1).checkAt + 100000 ∧ (1 = if true = true then imPAIRED else imVOTED) ∧
         (wCore7.isle 1).mode ≠ imSPLIT ∧ (wCore7.isle 1).mode ≠ 1)
      ∧ ((wCore7.isle 1).retired = [] ∧ (wCore7.isle 1).moult = none ∧ (wCore7.rf rTR_AUTH_STAT fTR_AUTH_STAT_LEVEL ≠ 3 ∨
         wCore7.rf (rSI_CFG 1) fSI_CFG_LOCK ≠ 0 ∧ (wCore7.isle 1).mode ≠ imSPLIT))) ∧
    ((1 < 2 ∧ wCore1.isl.length = 2 ∧ (wCore1.isle 1).running = true ∧ 0 ≤ 2 ∧ 0 ∉ (wCore1.isle 1).retired ∧
         (wCore1.isle 1).paired = true ∧ (wCore1.isle 1).mode ≠ imSPLIT ∧ (¬(0 = 2 ∧ (wCore1.isle 1).retired = [])))
      ∧ ((wCore1.isle 1).checkAt + 100000 ≤ wCore1.islTime 1 ∧ (1 = if true = true then imPAIRED else imVOTED) ∧
         (wCore1.isle 1).mode ≠ 1 ∧ (wCore1.isle 1).retired ≠ [] ∧ (wCore1.isle 1).moult = some 1 ∧ ((wCore1.isle
         1).fenced = [] ∨ 1 = imPAIRED ∧ (wCore1.isle 1).fenced = [2]))) ∧
    ((1 < 2 ∧ wCore2.isl.length = 2 ∧ (wCore2.isle 1).running = true ∧ 1 ≤ 2 ∧ 1 ∉ (wCore2.isle 1).retired ∧
         (wCore2.isle 1).mode = imVOTED ∧ (wCore2.isle 1).paired = false ∧ (∃ c ∈ (wCore2.isle 1).fenced, c ≠ 1))
      ∧ ((wCore2.isle 1).moult = some 1 ∧ (wCore2.isle 1).fenced ≠ [] ∧ (1 ≠ imPAIRED ∨ (wCore2.isle 1).fenced ≠ [2]))) ∧
    ((1 < 2 ∧ wCore4.isl.length = 2 ∧ (wCore4.isle 1).running = true ∧ 0 ≤ 2 ∧ 0 ∉ (wCore4.isle 1).retired ∧
         (wCore4.isle 1).mode = imSPLIT ∧ wCore4.rf rTR_AUTH_STAT fTR_AUTH_STAT_LEVEL = 3 ∧ wCore4.islHub 1 = true)
      ∧ ((wCore4.rf (rSI_CFG 1) fSI_CFG_LOCK = 0 ∨ (wCore4.isle 1).mode = imSPLIT))) :=
  by refine ⟨⟨?_, ?_, ?_⟩, ⟨?_, ?_⟩, ⟨?_, ?_⟩, ⟨?_, ?_⟩⟩ <;> decide +kernel

/-! ### isl2 -/

def wRead0 : State := notice (islAt 1 2 id) 1 (R.rf (rSI_CFG 1) fSI_CFG_WORLD_SLOT)
def viewBytes : List Byte := let b := leBytes 20 7 ++ leBytes 1 5 ++ leBytes 1 0 ++ leBytes 1 2 ++ leBytes 37 0; b ++ leBytes 4 (crc32c b)
def wRead1 : State := (sets (anyRegion (notice (islAt 1 3 id) 1 (R.rf (rSI_CFG 1) fSI_CFG_WORLD_SLOT)) 1) [(rSI_VIEW 1, fSI_VIEW_EN, 1), (rSI_VIEW 1, fSI_VIEW_ADDR, 2)]).memWrite 128 viewBytes
def worldPay : Nat := 2 + 2 * 2 ^ 16
def worldRec : Nat := slotRecord 9 0x10 64 worldPay 77 + 4096 * 2 ^ 192 + 4 * 2 ^ 256 + crc32c [1, 2, 3, 4] * 2 ^ 288
def wRead2 : State := (anyRegion (islAt 1 3 (fun x => { x with reading := some worldRec })) 1).memWrite 4096 [1, 2, 3, 4]
def wRead3 : State := (anyRegion (islAt 1 3 (fun x => { x with reading := some worldRec })) 1).memWrite 4096 [1, 2, 3, 5]
def wRead4 : State := islAt 1 3 (fun x => { x with reading := some 0, role := 1, lastTrip := 8, counter := 5, sentAny := true })
def wRead5 : State := sets wRead4 [(rSI_CFG 1, fSI_CFG_LOCK, 1)]
def wRead6 : State := R.modIsle 1 (fun x => { x with power := true, state := 3 })

def wv45000 : Nat :=
  532166174222887967545689844788309921213381544563281949540659318396740176293777116778943435324392590748152750131214702985462795759322914380067319586403825985925189473011871034275704235141557087338603954645159952318512497863362124364088935904943028363663922671772550874167746126088530024552010919509592412643837371396212661142058452941505882802547264553334595435322993212805292924085935482521399254670212007170597663526051183249601286271094016341470525754123509547753116462873239605925536637770255923691005715516513237972903545142704985593821701725083373916097457835860005051673441766512526385117916286832467922402922551917912947176792920657031811740798186119438545464879295628769722628511600792409208733424765619895005704165327344802376715879884048712803503543067462907544491616135761771491777643466165683227400077285767157293171373858813915758451559586822922440956220402395417353100763065530637757629603733504217031555891288540004736062357892447746686282448486792062520542573653929688299693856362491537917127020984903312004183938415640306598089044157252930398843495022285658856006028288123117420480430710875900518246806048755173311612476294852033988524087643715436750840306864176587480067370695568565540790127819913027827104347873183205964225030975421454699268544494001716548136872069352636114888345117807333582327673641361403979888068440426729473947209942440383193651513327128439154296463926793022485948870888565136275880224023641731393730294321821107535717015126647712908534613453537111528368086775381635283934880587451121225504777032206567185126752371549963231606325875548361113416396725936655883529120122535979710986568740586072780490550593903271417378493381862932551285664838237691092807163486366683465381869236665932061666930331019404291989913237403420118479154471797707671751745355338717183733440152722225769031649799717197113887241283776418116355818239457271557623706840179446471908742540056670012406705557511245370054027217707211951051418780201139704845680534897837971326078587021374889710183506265437377886815860029750844847128236007061397634096266859031529426530809916045416711407182538104663569251798847828968883366295051933772701429239352592828462196832011703848310337009054203052956363781078841887782127260412423630278031560964290548448864813413407634720878183643875642412333681211749856987281879690206489745837912516430067818682748608329160874055955593511885134206715739966746609391662441755192937348971515574590896899962570658545673
/-- Hypotheses of the clauses 1.2, 3, 4, 6.2, 6.4, 7, 8.1.1, 8.1.2, 8.1.3, 8.2, 9.1, 9.2; 1.1, 2.1, 6.3; 5, 6.1;
2.2.2; 2.2.1 of `Obligations.IslandsReadAnswerAndReceive`. -/
theorem witness_IslandsReadAnswerAndReceive :
    ((1 < 2 ∧ wRead0.isl.length = 2 ∧ 0 = wRead0.rf (rSI_CFG 1) fSI_CFG_WORLD_SLOT ∧ takeNotice 1 0 wRead0.hub.notices
         = some [] ∧ (wRead0.isle 1).power = true ∧ (wRead0.isle 1).rom = false ∧ isNOTREADY ≤ (wRead0.isle 1).state ∧
         (wRead0.isle 1).state ≤ isREADY)
      ∧ (wRead0.islHub 1 = true ∧ (wRead0.isle 1).reading = none ∧ 16 % 8 = 0 ∧ 16 < 65536 ∧ wRead0.accepts hart
         (rSI_STATUS 1 + 16) ∧ wRead0.flag (rSI_CFG 1) fSI_CFG_LOCK = false ∧ 776 % 8 = 0 ∧ 776 < 65536)
      ∧ (wRead0.accepts hart (rSI_STATUS 1 + 776) ∧ BitVec.toNat (1 : BitVec 64) % 2 = 1 ∧ (wRead0.isle 1).running = true
         ∧ 0 ≤ 3 ∧ (wRead0.isle 1).txs.length = 5 ∧ (wRead0.islTx 1 0).busOff = false)) ∧
    ((1 < 2 ∧ wRead5.isl.length = 2 ∧ 0 = wRead5.rf (rSI_CFG 1) fSI_CFG_WORLD_SLOT ∧ takeNotice 1 0 wRead5.hub.notices
         = none ∧ (wRead5.isle 1).reading = some 0 ∧ (recKind 0 ≠ 16 ∨ recSeq 0 ≠ bytesOf 0 1016 8 ∨ recLen 0 ≠ 64 ∨
         crc32c (leBytes 64 (recPay 0 0 64)) ≠ bytesOf 0 20 4 ∨ 262144 < recPay 0 0 2 * recPay 0 2 2 ∨ bytesOf 0 32 4
         ≠ recPay 0 0 2 * recPay 0 2 2 ∨ wRead5.islRead 1 (bytesOf 0 24 8) (recPay 0 0 2 * recPay 0 2 2) = none) ∧ 16
         % 8 = 0 ∧ 16 < 65536)
      ∧ (wRead5.accepts hart (rSI_STATUS 1 + 16) ∧ wRead5.islHub 1 = true ∧ wRead5.flag (rSI_CFG 1) fSI_CFG_LOCK = true ∧
         fSI_TIMING_OUT_PERIOD_MS.get 0 ≠ wRead5.rf (rSI_TIMING 1) fSI_TIMING_OUT_PERIOD_MS)) ∧
    ((1 < 2 ∧ wRead6.isl.length = 2 ∧ ((wRead6.isle 1).power = false ∨ wRead6.islHub 1 = false) ∧ 0 % 8 = 0 ∧ 0 <
         65536 ∧ wRead6.accepts hart (rSI_STATUS 1 + 0) ∧ wRead6.islHub 1 = false ∧ 0 ≠ 544)) ∧
    ((1 < 2 ∧ wRead2.isl.length = 2 ∧ (wRead2.isle 1).reading = some wv45000 ∧ recKind wv45000 = 16 ∧ recSeq wv45000 =
         bytesOf wv45000 1016 8 ∧ recLen wv45000 = 64 ∧ crc32c (leBytes 64 (recPay wv45000 0 64)) = bytesOf wv45000 20
         4 ∧ recPay wv45000 48 16 = 0)
      ∧ (recPay wv45000 0 2 * recPay wv45000 2 2 ≤ 262144 ∧ bytesOf wv45000 32 4 = recPay wv45000 0 2 * recPay wv45000 2
         2 ∧ wRead2.islRead 1 (bytesOf wv45000 24 8) (recPay wv45000 0 2 * recPay wv45000 2 2) = some [1#8, 2#8, 3#8,
         4#8] ∧ crc32c [1#8, 2#8, 3#8, 4#8] = bytesOf wv45000 36 4 ∧ (∀ w ∈ (wRead2.isle 1).worlds, w.inst < recInst
         wv45000))) ∧
    ((1 < 2 ∧ wRead3.isl.length = 2 ∧ (wRead3.isle 1).reading = some wv45000 ∧ recKind wv45000 = 16 ∧ recSeq wv45000 =
         bytesOf wv45000 1016 8 ∧ recLen wv45000 = 64 ∧ crc32c (leBytes 64 (recPay wv45000 0 64)) = bytesOf wv45000 20
         4 ∧ recPay wv45000 48 16 = 0)
      ∧ (recPay wv45000 0 2 * recPay wv45000 2 2 ≤ 262144 ∧ bytesOf wv45000 32 4 = recPay wv45000 0 2 * recPay wv45000 2
         2 ∧ wRead3.islRead 1 (bytesOf wv45000 24 8) (recPay wv45000 0 2 * recPay wv45000 2 2) = some [1#8, 2#8, 3#8,
         5#8] ∧ crc32c [1#8, 2#8, 3#8, 5#8] ≠ bytesOf wv45000 36 4)) :=
  by refine ⟨⟨?_, ?_, ?_⟩, ⟨?_, ?_⟩, ?_, ⟨?_, ?_⟩, ⟨?_, ?_⟩⟩ <;> decide +kernel

/-! ### isl3 -/

def wJud0 : State := withSlot (notice (islAt 1 3 (fun x => { x with lastSeq := some 8 })) 1 (R.rf (rSI_CFG 1) fSI_CFG_TRAJ_SLOT)) (R.rf (rSI_CFG 1) fSI_CFG_TRAJ_SLOT) (slotRecord 9 1 64 0 7)
def wJud1 : State := wJud0.modIsle 1 (fun x => { x with judging := some (9, false) })
/-- A record that passes order 2: one whole trajectory of `n` primitives of kind `k`. -/
def trajRec (k n man mancrc inst : Nat) (prims : Nat) : Nat :=
  slotRecord 9 k (64 + 12 * n) (n * 2 ^ 88 + prims * 2 ^ 512) inst + 2 ^ 128 + man * 2 ^ 640 + mancrc * 2 ^ 704 + 2 ^ (116 * 8 + 7)
def manBytes (inst sens : Nat) : List Byte := leBytes 8 inst ++ leBytes 8 0 ++ leBytes 20 0 ++ leBytes 1 sens ++ leBytes 27 0
def manEntry (sen st : Nat) : List Byte := leBytes 1 sen ++ leBytes 51 0 ++ leBytes 1 st ++ leBytes 11 0
def manOf (inst st : Nat) : List Byte := manBytes inst 1 ++ manEntry 0 st
def manCrc (inst st : Nat) : Nat := let m := manOf inst st; crc32c (m.take 60 ++ m.drop 64)
def wWorld : IslWorld := { seq := 1, inst := 7, ref := 0, cal := 0, epoch := 0, nx := 1, ny := 1, cell := 0x3F800000, x0 := 0, y0 := 0, gx := 0, gy := 0, gyaw := 0, digest := 0 }
def jst (st : Nat) (f : Island → Island) : State :=
  (anyRegion (islAt 1 3 (fun x => f { x with worlds := [wWorld] })) 1).memWrite 4096 (manOf 7 st)
def rPass : Nat := trajRec 1 0 4096 (manCrc 7 0) 7 0
def rSlow : Nat := trajRec 1 1 4096 (manCrc 7 0) 7 (5 + 0x7F000000 * 2 ^ 32)
def wJud2 : State := jst 0 (fun x => { x with judging := some (rPass, false) })
def wJud3 : State := jst 0 (fun x => { x with judging := some (rSlow, false), disRun := R.rf (rSI_CFG 1) fSI_CFG_N_DIS })
def wJud4 : State := jst 0 (fun x => { x with judging := some (0, false) })
def wJud5 : State := (jst 0 (fun x => { x with judging := some (0, false), state := 2, lastMsg := some 5, kept := none }))
def rKind3 : Nat := trajRec 3 0 4096 (manCrc 7 0) 7 0
def wJud6 : State := jst 0 (fun x => { x with judging := some (rKind3, false) })
def wJud7 : State := jst 0 (fun x => { x with judging := some (rSlow, false) })
def wJud8 : State := sets (jst 1 (fun x => { x with judging := some (trajRec 1 0 4096 (manCrc 7 1) 7 0, false) })) [(rSI_CRIT 1, fSI_CRIT_CRIT, 1)]
def wTraj : IslTraj := { rec' := rPass, start := 0, world := wWorld, sent := false }
def wEft (b : Bool) : Eft := { base := wTraj, ox := 0, oy := 0, oyaw := 0, v := 0, a := 0, k := 0, prims := [], start := 5, bad := false, sent := b }
def wEft0 : State := timeIsl (jst 0 (fun x => { x with base := some wTraj, latched := true, eft := some (wEft false), passes := 255 })) 10000000
def wEft1 : State := timeIsl (jst 0 (fun x => { x with base := none, latched := true, eft := some { wEft false with start := 10000001 }, passes := 255 })) 10000000
def wEft2 : State := timeIsl (jst 0 (fun x => { x with base := some wTraj, latched := true, eft := some (wEft true), passes := 0 })) 10000000
def wJud9 : State := islAt 1 3 (fun x => { x with judging := some (rPass, false) })
def rBadMan : Nat := trajRec 1 0 4096 1 7 0
def wJudA : State := jst 0 (fun x => { x with judging := some (rBadMan, false) })
def wJudB : State := timeIsl wJud2 5000000000
def rCrit : Nat := trajRec 1 0 4096 (manCrc 7 1) 7 0

def wv46000 : IslTraj :=
  { rec' := rPass, start := 0, world := { seq := 1, inst := 7, ref := 0, cal := 0, epoch := 0, nx := 1, ny := 1, cell := 1065353216, x0 := 0, y0 := 0, gx := 0, gy := 0, gyaw := 0, digest := 0 }, sent := false }
def wv46001 : Eft :=
  { base := { rec' := rPass, start := 0, world := { seq := 1, inst := 7, ref := 0, cal := 0, epoch := 0, nx := 1, ny := 1, cell := 1065353216, x0 := 0, y0 := 0, gx := 0, gy := 0, gyaw := 0, digest := 0 }, sent := false }, ox := 0, oy := 0, oyaw := 0, v := 0, a := 0, k := 0, prims := [], start := 5, bad := false, sent := false }
def wv46002 : Nat := rKind3
def wv46003 : Nat := 497323236409786642155382248146820840100456150797347717440463976893159497012533375533063
def wv46004 : Eft :=
  { base := { rec' := rPass, start := 0, world := { seq := 1, inst := 7, ref := 0, cal := 0, epoch := 0, nx := 1, ny := 1, cell := 1065353216, x0 := 0, y0 := 0, gx := 0, gy := 0, gyaw := 0, digest := 0 }, sent := false }, ox := 0, oy := 0, oyaw := 0, v := 0, a := 0, k := 0, prims := [], start := 10000001, bad := false, sent := false }
def wv46005 : Nat := rPass
def wv46006 : Nat := rSlow
def wv46007 : Eft :=
  { base := { rec' := rPass, start := 0, world := { seq := 1, inst := 7, ref := 0, cal := 0, epoch := 0, nx := 1, ny := 1, cell := 1065353216, x0 := 0, y0 := 0, gx := 0, gy := 0, gyaw := 0, digest := 0 }, sent := false }, ox := 0, oy := 0, oyaw := 0, v := 0, a := 0, k := 0, prims := [], start := 5, bad := false, sent := true }
def wv46008 : Nat := rBadMan
def wv46009 : Nat := rCrit
def wv46010 : Nat :=
  2269007733883335972287082669296112915239349672942191252221331572442536403137824056312817862695551072066953619064625508194663368599769448406663254670871573830845597595897613333042429214224697474969734118646040666212492460407071511621691958506619961829825617984245532035762997952519
/-- Hypotheses of the clauses 1.2, 3.1, 3.7, 5; 2, 4.2, 6.1; 3.3.4, 3.6; 4.1, 6.2; 1.1; 3.4; 3.5; 3.8; 4.3; 3.2;
3.3.1; 3.3.2; 3.3.3 of `Obligations.IslandsJudgeTrajectories`. -/
theorem witness_IslandsJudgeTrajectories :
    ((1 < 2 ∧ wJud1.isl.length = 2 ∧ (wJud1.isle 1).power = true ∧ 0 = wJud1.rf (rSI_CFG 1) fSI_CFG_TRAJ_SLOT ∧
         takeNotice 1 0 wJud1.hub.notices = some [] ∧ (wJud1.isle 1).rom = false ∧ isNOTREADY ≤ (wJud1.isle 1).state ∧
         (wJud1.isle 1).state ≤ isREADY)
      ∧ (wJud1.islHub 1 = true ∧ (wJud1.isle 1).judging = some (9, false) ∧ recSeq (wJud1.slotRec 0) ≤ recSeq (9,
         false).1 ∧ recordOk 9 = false ∧ 1 ≤ (wJud1.verdict 1 9).reason ∧ (wJud1.verdict 1 9).reason ≤ 4 ∧ (wJud1.isle
         1).state = isREADY ∧ (wJud1.isle 1).latched = false)
      ∧ ((wJud1.isle 1).disRun < wJud1.rf (rSI_CFG 1) fSI_CFG_N_DIS ∧ wJud1.islTime 1 < (wJud1.isle 1).eftAt + wJud1.rf
         (rSI_TIMING 1) fSI_TIMING_EFT_PERIOD_MS * 1000000)) ∧
    ((1 < 2 ∧ wEft0.isl.length = 2 ∧ (wEft0.isle 1).power = true ∧ (wEft0.isle 1).judging = none ∧ (wEft0.isle
         1).running = true ∧ (wEft0.isle 1).rom = false ∧ (wEft0.isle 1).eftAt + wEft0.rf (rSI_TIMING 1)
         fSI_TIMING_EFT_PERIOD_MS * 1000000 ≤ wEft0.islTime 1 ∧ (wEft0.isle 1).base = some wv46000)
      ∧ ((∀ (e : Eft), (wEft0.isle 1).eft = some e → e.sent = false ∨ recSeq e.base.rec' ≠ recSeq wv46000.rec') ∧
         (wEft0.isle 1).eft = some wv46001 ∧ (wEft0.isle 1).latched = true ∧ wv46001.endTime ≤ wEft0.islTime 1 ∧
         wEft0.rf (rSI_CFG 1) fSI_CFG_RECOVER_N ≤ (wEft0.isle 1).passes)) ∧
    ((1 < 2 ∧ wJud6.isl.length = 2 ∧ (wJud6.isle 1).power = true ∧ (wJud6.isle 1).judging = some (wv46002, false) ∧
         recordOk wv46002 = true ∧ wJud6.readManifest 1 wv46002 = some wv46003 ∧ (manifestOk wv46002 wv46003 &&
         (wJud6.isle 1).lineageOk wv46002) = true ∧ wJud6.critical 1 wv46003 = false)
      ∧ (wJud6.trajOld 1 wv46002 = false ∧ recKind wv46002 = 3 ∧ (wJud6.verdict 1 wv46002).reason = 5 ∧ (wJud6.isle
         1).state = isREADY)) ∧
    ((1 < 2 ∧ wEft1.isl.length = 2 ∧ (wEft1.isle 1).power = true ∧ (wEft1.isle 1).running = true ∧ (wEft1.isle 1).rom
         = false ∧ (wEft1.isle 1).eftAt + wEft1.rf (rSI_TIMING 1) fSI_TIMING_EFT_PERIOD_MS * 1000000 ≤ wEft1.islTime 1
         ∧ (wEft1.isle 1).base = none ∧ (wEft1.isle 1).eft = some wv46004)
      ∧ ((wEft1.isle 1).latched = true ∧ (wEft1.islTime 1 < wv46004.endTime ∨ (wEft1.isle 1).passes < wEft1.rf (rSI_CFG
         1) fSI_CFG_RECOVER_N))) ∧
    ((1 < 2 ∧ wJud0.isl.length = 2 ∧ (wJud0.isle 1).power = true ∧ 0 = wJud0.rf (rSI_CFG 1) fSI_CFG_TRAJ_SLOT ∧
         takeNotice 1 0 wJud0.hub.notices = some [] ∧ (wJud0.isle 1).rom = false ∧ isNOTREADY ≤ (wJud0.isle 1).state ∧
         (wJud0.isle 1).state ≤ isREADY)
      ∧ (wJud0.islHub 1 = true ∧ (wJud0.isle 1).judging = none ∧ (∀ (n : Nat), (wJud0.isle 1).lastSeq = some n → n <
         recSeq (wJud0.slotRec 0)))) ∧
    ((1 < 2 ∧ wJud2.isl.length = 2 ∧ (wJud2.isle 1).power = true ∧ (wJud2.isle 1).judging = some (wv46005, false) ∧
         (wJud2.verdict 1 wv46005).reason = 0 ∧ (wJud2.isle 1).state = isREADY)) ∧
    ((1 < 2 ∧ wJud3.isl.length = 2 ∧ (wJud3.isle 1).power = true ∧ (wJud3.isle 1).judging = some (wv46006, false) ∧
         ((wJud3.verdict 1 wv46006).reason = 6 ∨ (wJud3.verdict 1 wv46006).reason = 7) ∧ (wJud3.isle 1).state =
         isREADY ∧ (wJud3.isle 1).latched = false)) ∧
    ((1 < 2 ∧ wJud5.isl.length = 2 ∧ (wJud5.isle 1).power = true ∧ (wJud5.isle 1).judging = some (0, false) ∧
         (wJud5.verdict 1 0).reason ≠ 0 ∧ (wJud5.verdict 1 0).reason ≠ 5 ∧ (wJud5.isle 1).state ≠ isREADY)) ∧
    ((1 < 2 ∧ wEft2.isl.length = 2 ∧ (wEft2.isle 1).power = true ∧ (wEft2.isle 1).running = true ∧ (wEft2.isle 1).rom
         = false ∧ (wEft2.isle 1).eftAt + wEft2.rf (rSI_TIMING 1) fSI_TIMING_EFT_PERIOD_MS * 1000000 ≤ wEft2.islTime 1
         ∧ (wEft2.isle 1).base = some wv46000 ∧ (wEft2.isle 1).eft = some wv46007)
      ∧ (wv46007.sent = true ∧ recSeq wv46007.base.rec' = recSeq wv46000.rec')) ∧
    ((1 < 2 ∧ wJud9.isl.length = 2 ∧ (wJud9.isle 1).power = true ∧ (wJud9.isle 1).judging = some (wv46005, false) ∧
         recordOk wv46005 = true ∧ wJud9.readManifest 1 wv46005 = none)) ∧
    ((1 < 2 ∧ wJudA.isl.length = 2 ∧ (wJudA.isle 1).power = true ∧ (wJudA.isle 1).judging = some (wv46008, false) ∧
         recordOk wv46008 = true ∧ wJudA.readManifest 1 wv46008 = some wv46003 ∧ (manifestOk wv46008 wv46003 &&
         (wJudA.isle 1).lineageOk wv46008) = false)) ∧
    ((1 < 2 ∧ wJud8.isl.length = 2 ∧ (wJud8.isle 1).power = true ∧ (wJud8.isle 1).judging = some (wv46009, false) ∧
         recordOk wv46009 = true ∧ wJud8.readManifest 1 wv46009 = some wv46010 ∧ (manifestOk wv46009 wv46010 &&
         (wJud8.isle 1).lineageOk wv46009) = true ∧ wJud8.critical 1 wv46010 = true)) ∧
    ((1 < 2 ∧ wJudB.isl.length = 2 ∧ (wJudB.isle 1).power = true ∧ (wJudB.isle 1).judging = some (wv46005, false) ∧
         recordOk wv46005 = true ∧ wJudB.readManifest 1 wv46005 = some wv46003 ∧ (manifestOk wv46005 wv46003 &&
         (wJudB.isle 1).lineageOk wv46005) = true ∧ wJudB.critical 1 wv46003 = false)
      ∧ (wJudB.trajOld 1 wv46005 = true)) :=
  by refine ⟨⟨?_, ?_, ?_⟩, ⟨?_, ?_⟩, ⟨?_, ?_⟩, ⟨?_, ?_⟩, ⟨⟨?_, ?_⟩, ?_, ?_, ?_, ⟨⟨?_, ?_⟩, ?_, ?_, ?_, ⟨?_, ?_⟩⟩⟩⟩ <;> decide +kernel

/-! ### isl4 -/

def wTraj4 : IslTraj := { rec' := slotRecord 9 1 64 0 7, start := 0, world := wWorld, sent := false }
def wEft4 (b : Bool) : Eft := { base := wTraj4, ox := 0, oy := 0, oyaw := 0, v := 0, a := 0, k := 0, prims := [], start := 5, bad := false, sent := b }
def txs1 : List IslTx := { xl := true } :: { xl := true, tx := some 5 } :: List.replicate 3 { xl := true }
def outAt (st : Nat) (f : Island → Island) : State :=
  timeIsl (sets (islAt 1 st (fun x => f { x with txs := txs1, counter := 2 ^ 64 - 1 })) [(rSI_CFG 1, fSI_CFG_CAN_TX_MASK, 3), (rSI_CFG 1, fSI_CFG_ETH_TX_EN, 1)]) 100000000
def due1 : IslDue := { kind := 1, reason := 0, traj := some wTraj4, world := some wWorld }
def due3 : IslDue := { kind := 3, reason := 5 }
def wOut0 : State := outAt 3 (fun x => { x with due := some due1 })
def wOut1 : State := outAt 3 (fun x => { x with due := some due3, eft := some (wEft4 false), lastMsg := some 90000000, heardAt := 90000000 })
def wOut2 : State := outAt 3 (fun x => { x with due := some due3, chorus := false })
def wOut3 : State := outAt 3 (fun x => { x with due := some due3, chorus := true, role := 2, txs := { tx := some 3, waiting := some { msg := 4, ages := some (7, 9), due := due3 } } :: txs1.drop 1, dbg := { halted := [0] } })
def wOut4 : State := outAt 2 id
def wOutB : State := outAt 3 (fun x => { x with txs := { tx := some 3, waiting := some { msg := 4, ages := some (7, 9), due := due1 } } :: txs1.drop 1, xlinkLost := true, active := true })
def wOutD : State := sets (outAt 3 (fun x => { x with due := some due3, chorus := true, role := 2 })) [(rSI_VIEW 1, fSI_VIEW_EN, 1)]
def wOutE : State := timeIsl (sets (outAt 2 (fun x => { x with kept := some wTraj4, limOk := true })) [(rSI_CFG 1, fSI_CFG_LOCK, 1)]) 60000000
def wOutC : State := outAt 3 (fun x => { x with hubZero := 1, heardAt := 99999999 })
def wOut5 : State := outAt 2 (fun x => { x with lastMsg := some 99999999 })
def lim (s : State) : State :=
  sets s [(rSI_LIM_K 1, fSI_LIM_K_KMAX, 0x3F800000), (rSI_LIM_K 1, fSI_LIM_K_KRATE_MAX, 0x3F800000), (rSI_LIM_SR 1, fSI_LIM_SR_ALAT_MAX, 0x40000000),
    (rSI_LIM_SR 1, fSI_LIM_SR_SR_MAX, 0x3F800000), (rSI_LIM_A 1, fSI_LIM_A_A_MIN, 0xC1000000), (rSI_LIM_A 1, fSI_LIM_A_A_MAX, 0x40000000),
    (rSI_LIM_WJ 1, fSI_LIM_WJ_J_MAX, 0x41000000), (rSI_LIM_WJ 1, fSI_LIM_WJ_WHEELBASE, 0x40400000), (rSI_LIM_V 1, fSI_LIM_V_V_MIN, 0),
    (rSI_LIM_V 1, fSI_LIM_V_V_MAX, 0x41F00000), (rSI_EFT 1, fSI_EFT_EFT_DECEL, 0xC0400000), (rSI_EFT 1, fSI_EFT_EFT_DECEL_MAX, 0xC0C00000)]
def wOut6 : State := timeIsl (sets (lim (outAt 2 (fun x => { x with kept := some wTraj4 }))) [(rSI_CFG 1, fSI_CFG_LOCK, 1)]) 60000000
def wOut7 : State := wOut0.setReg rSK_DIE_STATE (BitVec.ofNat 64 0x300000)
def wOutA : State := timeIsl wOut0 50000000
def wOut8 : State := outAt 3 (fun x => { x with active := true, bothOn := 1 })
def wOut9 : State := outAt 3 (fun x => { x with xlinkLost := false, heardAt := 99390001 })
def wd (v : Nat) : Nat := v % 2048 * 32 + crc5 (v % 2048)

def wv47000 : IslDue := { kind := 3, reason := 5, traj := none, world := none, start := 0 }
def wv47001 : Eft :=
  { base := { rec' := 532166174222887967545689844788309921213381544563281949540659318396740176293777116778943435324392590748152750131214702985462795759322914380067319586403825985925189473011871034275704235141557087338603954645159952318512497863362124364088935904943028363663922671772550874167746126088530024552010919509592412643837371396212661142058452941505882802547264553334595435322993212805292924085935482521399254670212007170597663526051183249601286271094016341470525754123509547753116462873239605925536637770255923691005715516513237972903545142704985593821701725083373916097457835860005051673441766512526385117916286832467922402922551917912947176792920657031811740798186119438545464879295628769722628511600792409208733424765619895005704165327344802376715879884048712803503543067462907544491616135761771491777643466165683227400077285767157293171373858813915758451559586822922440956220402395417353100763065530637757629603733504217031555891288540004736062357892447746686282448486792062520542573653929688299693856362491537917127020984903312004183938415640306598089044157252930398843495022285658856006028288123117420480430710875900518246806048755173311612476294852033988524087643715436750840306864176587480067370695568565540790127819913027827104347873183205964225030975421454699268544494001716548136872069352636114888345117807333582327673641361403979888068440426729473947209942440383193651513327128439154296463926793022485948870888565136275880224023641731393730294321821107535717015126647712908534613453537111528368086775381635283934880587451121225504777032206567185126752371549963231606325875548361113416396725936655883529120122535979710986568740586072780490550593903271417378493381862932551285664838237691092807163486366683465381869236665932061666930331019404291989913237403420118479154471797707671751745355338717183733440152722225769031649799717197113887241283776418116355818239457271557623706840179446471908742540056670012406705557511245370054027217707211951051418780201139704845680534897837971326078587021374889710183506265437377886815860029750844847128236007061397634096266859031529426530809916045416711407182538104663569251798847828968883366295051910209618433345033063857367339083948910424038883220665031595381906112426093357548885603781467073032655128666483858185851851645197477140033807016391518773902302520200994216463262584169357732107371903236672957092702463487535570122748965680644367993278085324976095490448315722490192366747910742210199311439907711352841, start := 0, world := { seq := 1, inst := 7, ref := 0, cal := 0, epoch := 0, nx := 1, ny := 1, cell := 1065353216, x0 := 0, y0 := 0, gx := 0, gy := 0, gyaw := 0, digest := 0 }, sent := false }, ox := 0, oy := 0, oyaw := 0, v := 0, a := 0, k := 0, prims := [], start := 5, bad := false, sent := false }
def wv47002 : IslDue :=
  { kind := 1, reason := 0, traj := some { rec' := 532166174222887967545689844788309921213381544563281949540659318396740176293777116778943435324392590748152750131214702985462795759322914380067319586403825985925189473011871034275704235141557087338603954645159952318512497863362124364088935904943028363663922671772550874167746126088530024552010919509592412643837371396212661142058452941505882802547264553334595435322993212805292924085935482521399254670212007170597663526051183249601286271094016341470525754123509547753116462873239605925536637770255923691005715516513237972903545142704985593821701725083373916097457835860005051673441766512526385117916286832467922402922551917912947176792920657031811740798186119438545464879295628769722628511600792409208733424765619895005704165327344802376715879884048712803503543067462907544491616135761771491777643466165683227400077285767157293171373858813915758451559586822922440956220402395417353100763065530637757629603733504217031555891288540004736062357892447746686282448486792062520542573653929688299693856362491537917127020984903312004183938415640306598089044157252930398843495022285658856006028288123117420480430710875900518246806048755173311612476294852033988524087643715436750840306864176587480067370695568565540790127819913027827104347873183205964225030975421454699268544494001716548136872069352636114888345117807333582327673641361403979888068440426729473947209942440383193651513327128439154296463926793022485948870888565136275880224023641731393730294321821107535717015126647712908534613453537111528368086775381635283934880587451121225504777032206567185126752371549963231606325875548361113416396725936655883529120122535979710986568740586072780490550593903271417378493381862932551285664838237691092807163486366683465381869236665932061666930331019404291989913237403420118479154471797707671751745355338717183733440152722225769031649799717197113887241283776418116355818239457271557623706840179446471908742540056670012406705557511245370054027217707211951051418780201139704845680534897837971326078587021374889710183506265437377886815860029750844847128236007061397634096266859031529426530809916045416711407182538104663569251798847828968883366295051910209618433345033063857367339083948910424038883220665031595381906112426093357548885603781467073032655128666483858185851851645197477140033807016391518773902302520200994216463262584169357732107371903236672957092702463487535570122748965680644367993278085324976095490448315722490192366747910742210199311439907711352841, start := 0, world := { seq := 1, inst := 7, ref := 0, cal := 0, epoch := 0, nx := 1, ny := 1, cell := 1065353216, x0 := 0, y0 := 0, gx := 0, gy := 0, gyaw := 0, digest := 0 }, sent := false }, world := some { seq := 1, inst := 7, ref := 0, cal := 0, epoch := 0, nx := 1, ny := 1, cell := 1065353216, x0 := 0, y0 := 0, gx := 0, gy := 0, gyaw := 0, digest := 0 }, start := 0 }
def wv47003 : IslTraj :=
  { rec' := 532166174222887967545689844788309921213381544563281949540659318396740176293777116778943435324392590748152750131214702985462795759322914380067319586403825985925189473011871034275704235141557087338603954645159952318512497863362124364088935904943028363663922671772550874167746126088530024552010919509592412643837371396212661142058452941505882802547264553334595435322993212805292924085935482521399254670212007170597663526051183249601286271094016341470525754123509547753116462873239605925536637770255923691005715516513237972903545142704985593821701725083373916097457835860005051673441766512526385117916286832467922402922551917912947176792920657031811740798186119438545464879295628769722628511600792409208733424765619895005704165327344802376715879884048712803503543067462907544491616135761771491777643466165683227400077285767157293171373858813915758451559586822922440956220402395417353100763065530637757629603733504217031555891288540004736062357892447746686282448486792062520542573653929688299693856362491537917127020984903312004183938415640306598089044157252930398843495022285658856006028288123117420480430710875900518246806048755173311612476294852033988524087643715436750840306864176587480067370695568565540790127819913027827104347873183205964225030975421454699268544494001716548136872069352636114888345117807333582327673641361403979888068440426729473947209942440383193651513327128439154296463926793022485948870888565136275880224023641731393730294321821107535717015126647712908534613453537111528368086775381635283934880587451121225504777032206567185126752371549963231606325875548361113416396725936655883529120122535979710986568740586072780490550593903271417378493381862932551285664838237691092807163486366683465381869236665932061666930331019404291989913237403420118479154471797707671751745355338717183733440152722225769031649799717197113887241283776418116355818239457271557623706840179446471908742540056670012406705557511245370054027217707211951051418780201139704845680534897837971326078587021374889710183506265437377886815860029750844847128236007061397634096266859031529426530809916045416711407182538104663569251798847828968883366295051910209618433345033063857367339083948910424038883220665031595381906112426093357548885603781467073032655128666483858185851851645197477140033807016391518773902302520200994216463262584169357732107371903236672957092702463487535570122748965680644367993278085324976095490448315722490192366747910742210199311439907711352841, start := 0, world := { seq := 1, inst := 7, ref := 0, cal := 0, epoch := 0, nx := 1, ny := 1, cell := 1065353216, x0 := 0, y0 := 0, gx := 0, gy := 0, gyaw := 0, digest := 0 }, sent := false }
def wv47004 : IslWorld :=
  { seq := 1, inst := 7, ref := 0, cal := 0, epoch := 0, nx := 1, ny := 1, cell := 1065353216, x0 := 0, y0 := 0, gx := 0, gy := 0, gyaw := 0, digest := 0 }
/-- Hypotheses of the clauses 2.1.3, 3.1, 3.2, 3.3.1, 4, 6.2, 6.5, 6.7.2, 7.1, 7.2.1, 7.2.3; 1, 3.3.2, 6.4, 6.6,
7.2.5; 2.1.2, 6.1; 2.1.1.2, 6.3; 6.7.1, 7.2.2; 7.2.4; 5.1; 5.2; 2.1.1.1; 2.2; 5.3 of
`Obligations.IslandsTransmitAndTakeOver`. -/
theorem witness_IslandsTransmitAndTakeOver :
    ((1 < 2 ∧ wOut3.isl.length = 2 ∧ (wOut3.isle 1).power = true ∧ (wOut3.isle 1).txs.length = 5 ∧ (wOut3.isle
         1).counter < 2 ^ 64 ∧ (wOut3.isle 1).due = some wv47000 ∧ (wOut3.isle 1).state = isREADY ∧ wOut3.islMay 1 =
         true)
      ∧ (wOut3.txOf 1 ≠ [] ∧ wv47000.kind = 3 ∧ (wOut3.isle 1).eft = none ∧ 0 ≤ 4 ∧ (wOut3.islTx 1 0).tx = some 3 ∧
         (wOut3.isle 1).state ≠ isFAULT ∧ 1 ≤ 4 ∧ (wOut3.islTx 1 1).tx = some 5)
      ∧ ((wOut3.islTx 1 1).waiting = none ∧ (wOut3.islTx 1 0).waiting = some
         { msg := 4, ages := some (7, 9), due := due3 } ∧ wOut3.waitOld 1
         { msg := 4, ages := some (7, 9), due := due3 } = false ∧ (wOut3.islTx 1 2).tx = none ∧ wOut3.islHub 1 = true
         ∧ (wOut3.isle 1).lastOut + wOut3.outPeriod 1 + wOut3.rf (rSI_TIMING 1) fSI_TIMING_OUT_GRACE_MS * 1000000 ≤
         wOut3.islTime 1 ∧ (wOut3.isle 1).latched = false ∧ (wOut3.isle 1).debugged = true)
      ∧ (((wOut3.isle 1).xlinkLost = false ∨ (wOut3.isle 1).active = false) ∧ (wOut3.isle 1).heardAt + 610000 ≤
         wOut3.islTime 1 ∧ 0 = 1 / 32 % 2048 ∧ (crc5 0 ≠ 1 % 32 ∨ (wOut3.isle 1).heardSeq = some (0 / 128)) ∧ 0 = 0 /
         32 % 2048 ∧ crc5 0 = 0 % 32 ∧ (wOut3.isle 1).heardSeq ≠ some (0 / 128) ∧ (wOut3.isle 1).active = false)
      ∧ (0 % 8 ≠ isREADY ∧ 0 / 64 % 2 = 0 ∧ crc5 (wd (128 + 96 + 3) / 32 % 2048) = wd (128 + 96 + 3) % 32 ∧ (wOut3.isle
         1).heardSeq ≠ some (wd (128 + 96 + 3) / 32 % 2048 / 128) ∧ wd (128 + 96 + 3) / 32 % 2048 % 8 = isREADY ∧ wd
         (128 + 96 + 3) / 32 % 2048 / 32 % 2 = 1 ∧ wd (128 + 96 + 3) / 32 % 2048 / 64 % 2 = 1)) ∧
    ((1 < 2 ∧ wOutB.isl.length = 2 ∧ (wOutB.isle 1).power = true ∧ (wOutB.isle 1).txs.length = 5 ∧ (wOutB.isle
         1).counter < 2 ^ 64 ∧ (wOutB.isle 1).due = none ∧ 0 ≤ 4 ∧ (wOutB.islTx 1 0).tx = some 3)
      ∧ ((wOutB.islTx 1 0).waiting = some { msg := 4, ages := some (7, 9), due := due1 } ∧ wOutB.waitOld 1
         { msg := 4, ages := some (7, 9), due := due1 } = true ∧ (wOutB.isle 1).state = isREADY ∧ (wOutB.isle
         1).debugged = false ∧ (wOutB.isle 1).xlinkLost = true ∧ (wOutB.isle 1).active = true ∧ 0 = 0 / 32 % 2048 ∧
         crc5 0 = 0 % 32)
      ∧ ((wOutB.isle 1).heardSeq ≠ some (0 / 128) ∧ 0 / 64 % 2 = 0)) ∧
    ((1 < 2 ∧ wOut1.isl.length = 2 ∧ (wOut1.isle 1).power = true ∧ (wOut1.isle 1).txs.length = 5 ∧ (wOut1.isle
         1).counter < 2 ^ 64 ∧ (wOut1.isle 1).due = some wv47000 ∧ (wOut1.isle 1).state = isREADY ∧ wOut1.islMay 1 =
         true)
      ∧ (wOut1.txOf 1 ≠ [] ∧ wv47000.kind = 3 ∧ (wOut1.isle 1).eft = some wv47001 ∧ wOut1.islTime 1 < (wOut1.isle
         1).lastOut + wOut1.outPeriod 1)) ∧
    ((1 < 2 ∧ wOut7.isl.length = 2 ∧ (wOut7.isle 1).power = true ∧ (wOut7.isle 1).txs.length = 5 ∧ (wOut7.isle
         1).counter < 2 ^ 64 ∧ (wOut7.isle 1).due = some wv47002 ∧ (wOut7.isle 1).state = isREADY ∧ wOut7.islMay 1 =
         true)
      ∧ (wOut7.txOf 1 ≠ [] ∧ wv47002.kind = 1 ∧ wv47002.traj = some wv47003 ∧ wv47002.world = some wv47004 ∧
         (wOut7.trajOld 1 wv47003.rec' = true ∨ wOut7.worldOld 1 wv47004.ref = true) ∧ wOut7.islHub 1 = false ∧
         (wOut7.isle 1).lastOut + wOut7.outPeriod 1 ≤ wOut7.islTime 1 ∧ (wOut7.isle 1).latched = false)) ∧
    ((1 < 2 ∧ wOutC.isl.length = 2 ∧ (wOutC.isle 1).power = true ∧ (wOutC.isle 1).txs.length = 5 ∧ (wOutC.isle
         1).counter < 2 ^ 64 ∧ (wOutC.isle 1).state = isREADY ∧ ((wOutC.isle 1).xlinkLost = false ∨ (wOutC.isle
         1).active = false) ∧ wOutC.islTime 1 < (wOutC.isle 1).heardAt + 610000)
      ∧ (crc5 (wd (128 + 3) / 32 % 2048) = wd (128 + 3) % 32 ∧ (wOutC.isle 1).heardSeq ≠ some (wd (128 + 3) / 32 % 2048 /
         128) ∧ (wOutC.isle 1).active = false ∧ wd (128 + 3) / 32 % 2048 % 8 = isREADY ∧ wd (128 + 3) / 32 % 2048 / 32
         % 2 = 0 ∧ wOutC.islHub 1 = true ∧ 1 ≤ (wOutC.isle 1).hubZero)) ∧
    ((1 < 2 ∧ wOut8.isl.length = 2 ∧ (wOut8.isle 1).power = true ∧ (wOut8.isle 1).txs.length = 5 ∧ (wOut8.isle
         1).counter < 2 ^ 64 ∧ crc5 (wd (128 + 96 + 3) / 32 % 2048) = wd (128 + 96 + 3) % 32 ∧ (wOut8.isle 1).heardSeq
         ≠ some (wd (128 + 96 + 3) / 32 % 2048 / 128) ∧ (wOut8.isle 1).state = isREADY)
      ∧ ((wOut8.isle 1).active = true ∧ wd (128 + 96 + 3) / 32 % 2048 / 64 % 2 = 1 ∧ 1 ≤ (wOut8.isle 1).bothOn)) ∧
    ((1 < 2 ∧ wOut4.isl.length = 2 ∧ (wOut4.isle 1).power = true ∧ (wOut4.isle 1).txs.length = 5 ∧ (wOut4.isle
         1).counter < 2 ^ 64 ∧ (wOut4.isle 1).state = isNOTREADY ∧ ((wOut4.isle 1).kept = none ∨ wOut4.sh.tad.on =
         true) ∧ ((wOut4.isle 1).lastMsg = none ∨ (wOut4.isle 1).lastOut + wOut4.outPeriod 1 ≤ wOut4.islTime 1))
      ∧ (wOut4.txOf 1 ≠ [])) ∧
    ((1 < 2 ∧ wOut5.isl.length = 2 ∧ (wOut5.isle 1).power = true ∧ (wOut5.isle 1).txs.length = 5 ∧ (wOut5.isle
         1).counter < 2 ^ 64 ∧ (wOut5.isle 1).state = isNOTREADY ∧ ((wOut5.isle 1).kept = none ∨ wOut5.sh.tad.on =
         true) ∧ (wOut5.isle 1).lastMsg ≠ none)
      ∧ (wOut5.islTime 1 < (wOut5.isle 1).lastOut + wOut5.outPeriod 1)) ∧
    ((1 < 2 ∧ wOutA.isl.length = 2 ∧ (wOutA.isle 1).power = true ∧ (wOutA.isle 1).txs.length = 5 ∧ (wOutA.isle
         1).counter < 2 ^ 64 ∧ (wOutA.isle 1).due = some wv47002 ∧ (wOutA.isle 1).state = isREADY ∧ wOutA.islMay 1 =
         true)
      ∧ (wOutA.txOf 1 ≠ [] ∧ wv47002.kind = 1 ∧ wv47002.traj = some wv47003 ∧ wv47002.world = some wv47004 ∧
         wOutA.trajOld 1 wv47003.rec' = false ∧ wOutA.worldOld 1 wv47004.ref = false)) ∧
    ((1 < 2 ∧ wOutD.isl.length = 2 ∧ (wOutD.isle 1).power = true ∧ (wOutD.isle 1).txs.length = 5 ∧ (wOutD.isle
         1).counter < 2 ^ 64 ∧ (wOutD.isle 1).due = some wv47000 ∧ ((wOutD.isle 1).state ≠ isREADY ∨ wOutD.islMay 1 =
         false))) ∧
    ((1 < 2 ∧ wOutE.isl.length = 2 ∧ (wOutE.isle 1).power = true ∧ (wOutE.isle 1).txs.length = 5 ∧ (wOutE.isle
         1).counter < 2 ^ 64 ∧ (wOutE.isle 1).state = isNOTREADY ∧ (wOutE.isle 1).kept = some wv47003 ∧ (wOutE.isle
         1).rom = false)
      ∧ (wOutE.flag (rSI_CFG 1) fSI_CFG_LOCK = true ∧ (wOutE.isle 1).mode ≠ imSPLIT ∧ (wOutE.isle 1).limOk = true ∧
         wOutE.sh.tad.on = false ∧ wOutE.trajOld 1 wv47003.rec' = false ∧ (wOutE.isle 1).latched = false)) :=
  by refine ⟨⟨?_, ?_, ?_, ?_, ?_⟩, ⟨?_, ?_, ?_⟩, ⟨?_, ?_⟩, ⟨?_, ?_⟩, ⟨⟨?_, ?_⟩, ⟨?_, ?_⟩, ⟨?_, ?_⟩, ⟨?_, ?_⟩, ⟨⟨?_,
      ?_⟩, ?_, ⟨?_, ?_⟩⟩⟩⟩ <;> decide +kernel

/-! ### pow1 -/

def pmSt (n : Nat) (l : List (Addr × Fld × Nat)) : State := sets U ((rPM_STATUS, fPM_STATUS_STATE, n) :: l)
def atPhase (n : Nat) (f : PowerSt → PowerSt) (s : State) : State := (sets s [(rPM_STATUS, fPM_STATUS_STATE, 2), (rPM_STATUS, fPM_STATUS_BUSY, 1)]).modPw (fun p => f { p with phase := n, target := 1 })
def vetoed (s : State) : State := s.modIsle 1 (fun x => { x with power := true, veto := true })
def parkAll (k : Nat) (s : State) : State := s.modHarts (fun l => l.mapIdx (fun i h => { h with parked := i != k }))
def wPow0 : State := U
def wPow1 : State := sets U [(rPM_STATUS, fPM_STATUS_BUSY, 1)]
def wPow2 : State := vetoed (sets U [(rSH_CFG, fSH_CFG_ENABLE, 1), (rHUB_CTX_STATUS 63, fHUB_CTX_STATUS_STATE, 1)])
def wPow3 : State := sets U [(rSH_CFG, fSH_CFG_ENABLE, 1), (rHUB_CTX_STATUS 63, fHUB_CTX_STATUS_STATE, 1)]
def wPow4 : State := parkAll 15 (atPhase 1 id U)
def wPow5 : State := parkAll 15 (atPhase 1 id (sets U [(rPM_CTRL, fPM_CTRL_BIST, 0), (rPM_CTRL, fPM_CTRL_PARK_US, 0)]))
def wPow6 : State := vetoed wPow4
def wPow7 : State := atPhase 1 id U
def wPow8 : State := atPhase 2 (fun p => { p with target := 3 }) U
def wPow9 : State := atPhase 2 id U
def wPowA : State := vetoed wPow9
def wPowB : State := (atPhase 3 id U).modTest 183 (fun u => { u with running := true })
def wPowC : State := vetoed wPowB
def wPowD : State := (sets U [(rPM_STATUS, fPM_STATUS_STATE, 3), (rPM_WAKE_CFG, fPM_WAKE_CFG_GPIO_MASK, 0x8000), (rPM_WAKE_CFG, fPM_WAKE_CFG_TIMER_EN, 1), (rPM_WAKE_CFG, fPM_WAKE_CFG_ISLAND_EN, 1), (rPM_STATUS, ⟨23, 22⟩, 2)]).modIsle 1 (fun x => { x with power := true })
def wPowE : State := atPhase 4 id wPowD
def wPowF : State := atPhase 3 id wPowD
def wPowG : State := atPhase 4 (fun p => { p with target := 3 }) U
def wPowH : State := atPhase 4 (fun p => { p with target := 2 }) U
def wPowI : State := atPhase 4 (fun p => { p with target := 2, held := 16 }) U
def wPowJ : State := pmSt 5 [(rSK_CONN_STATUS 0, fSK_CONN_STATUS_STATE, skUP), (rSK_CONN_STATUS 1, fSK_CONN_STATUS_STATE, skUP), (rSK_CONN_STATUS 2, fSK_CONN_STATUS_STATE, skUP), (rSK_CONN_STATUS 3, fSK_CONN_STATUS_STATE, skUP), (rSK_CONN_STATUS 4, fSK_CONN_STATUS_STATE, skUP), (rSK_CONN_STATUS 5, fSK_CONN_STATUS_STATE, skUP), (rSK_CONN_STATUS 6, fSK_CONN_STATUS_STATE, skUP), (rSK_CONN_STATUS 7, fSK_CONN_STATUS_STATE, skUP), (rSK_CONN_STATUS 8, fSK_CONN_STATUS_STATE, skUP), (rSK_CONN_STATUS 9, fSK_CONN_STATUS_STATE, skUP), (rPM_STATUS, ⟨23, 22⟩, 3)]
def wPowN : State := atPhase 3 (fun p => { p with forced := true }) wPowD
def wPowK : State := pmSt 5 []
def wPowL : State := wPowD.wf rPM_WAKE_TIMER fPM_WAKE_TIMER_TIMER_MS 1
def wPowM : State := atPhase 4 (fun p => { p with target := 2 }) (U.modMc 63 (fun m => { m with closing := true }))

/-- Hypotheses of the clauses 1.1, 1.2, 2.2.1, 2.2.2, 2.2.3, 2.3.1, 2.3.2, 2.3.3, 3.2, 10, 12; 2.1.1, 2.1.2, 2.1.3,
4.1, 5.2, 9.3; 8.1, 9.1, 11.1; 8.2, 9.2, 14.2; 4.2.1, 5.1; 7.1, 8.3; 3.1; 4.2.2; 6.1; 6.2; 7.2; 14.1; 14.3; 15.1;
15.2; 11.2; 13; 8.4 of `Obligations.PowerStatesAreEnteredAndLeft`. -/
theorem witness_PowerStatesAreEnteredAndLeft :
    ((wPow0.powerState = 0 ∧ wPow0.pw.phase = 0 ∧ wPow0.aon.off = false ∧ wPow0.mayIdle = true ∧ wPow0.rf rPM_GATE_CFG
         fPM_GATE_CFG_IDLE_DELAY_US ≤ 63 ∧ (wPow0.mayIdle = false ∨ 0 < wPow0.rf rPM_GATE_CFG
         fPM_GATE_CFG_IDLE_DELAY_US) ∧ wPow0.accepts hart rPM_CTRL ∧ wPow0.flag rPM_STATUS fPM_STATUS_BUSY = false)
      ∧ (wPow0.refusers (some 1) ≠ [] ∧ wPow0.refusers none = [] ∧ (∀ h ∈ wPow0.refusers none, h.1 ≠ 3) ∧ ((wPow0.isle
         0).power = false ∨ wPow0.flag rPM_WAKE_CFG fPM_WAKE_CFG_ISLAND_EN = false) ∧ (wPow0.rf rPM_WAKE_CFG
         fPM_WAKE_CFG_GPIO_MASK).testBit 0 = false)) ∧
    ((wPow6.accepts hart rPM_CTRL ∧ wPow6.flag rPM_STATUS fPM_STATUS_BUSY = true ∧ wPow6.pw.phase = 1 ∧ 15 < 16 ∧
         wPow6.harts.length = 16 ∧ wPow6.entryRefusers ≠ [] ∧ wPow6.pw.forced = false ∧ wPow6.unparked.isSome = true)
      ∧ (wPow6.dtime < wPow6.pw.since + wPow6.rf rPM_CTRL fPM_CTRL_PARK_US * 1000 ∧ (wPow6.isle 1).power = true ∧
         wPow6.flag rPM_WAKE_CFG fPM_WAKE_CFG_ISLAND_EN = true ∧ 1 ≤ wPow6.pw.phase ∧ wPow6.pw.phase ≤ 3)) ∧
    ((15 < 16 ∧ (wPowD.rf rPM_WAKE_CFG fPM_WAKE_CFG_GPIO_MASK).testBit 15 = true ∧ (wPowD.rf rPM_WAKE_CFG
         fPM_WAKE_CFG_GPIO_POL).testBit 15 = !true ∧ wPowD.mayWake ∧ (wPowD.isle 1).power = true ∧ wPowD.flag
         rPM_WAKE_CFG fPM_WAKE_CFG_ISLAND_EN = true ∧ wPowD.flag rPM_WAKE_CFG fPM_WAKE_CFG_TIMER_EN = true ∧
         wPowD.pw.endedAt + wPowD.rf rPM_WAKE_TIMER fPM_WAKE_TIMER_TIMER_MS * 1000000 ≤ wPowD.dtime)) ∧
    ((15 < 16 ∧ (wPowE.rf rPM_WAKE_CFG fPM_WAKE_CFG_GPIO_MASK).testBit 15 = true ∧ (wPowE.rf rPM_WAKE_CFG
         fPM_WAKE_CFG_GPIO_POL).testBit 15 = !true ∧ wPowE.pw.phase = 4 ∧ (wPowE.isle 1).power = true ∧ wPowE.flag
         rPM_WAKE_CFG fPM_WAKE_CFG_ISLAND_EN = true ∧ wPowE.mcQuiet = true ∧ wPowE.pw.target = 1)
      ∧ ((1 = 1 ∨ 1 = 2) ∧ wPowE.pw.held = 0)) ∧
    ((wPow5.pw.phase = 1 ∧ 15 < 16 ∧ wPow5.harts.length = 16 ∧ wPow5.entryRefusers = [] ∧ (∀ k < 16, k ≠ 15 →
         (wPow5.harts[k]?.getD { }).parked = true ∨ (wPow5.harts[k]?.getD { }).inReset = true) ∧ wPow5.pw.forced =
         false ∧ wPow5.unparked.isSome = true ∧ wPow5.pw.since + wPow5.rf rPM_CTRL fPM_CTRL_PARK_US * 1000 ≤
         wPow5.dtime)) ∧
    ((wPowF.pw.phase = 3 ∧ wPowF.tests.length = 184 ∧ wPowF.entryRefusers = [] ∧ 15 < 16 ∧ (wPowF.rf rPM_WAKE_CFG
         fPM_WAKE_CFG_GPIO_MASK).testBit 15 = true ∧ (wPowF.rf rPM_WAKE_CFG fPM_WAKE_CFG_GPIO_POL).testBit 15 = !true
         ∧ 1 ≤ wPowF.pw.phase ∧ wPowF.pw.phase ≤ 3)
      ∧ (wPowF.pw.forced = false)) ∧
    ((wPow2.accepts hart rPM_CTRL ∧ wPow2.flag rPM_STATUS fPM_STATUS_BUSY = false ∧ (∃ h ∈ wPow2.refusers none, h.1 =
         3))) ∧
    ((wPow7.pw.phase = 1 ∧ 15 < 16 ∧ wPow7.harts.length = 16 ∧ wPow7.entryRefusers = [] ∧ (∃ k < 16, k ≠ 15 ∧
         (wPow7.harts[k]?.getD { }).parked = false ∧ (wPow7.harts[k]?.getD { }).inReset = false))) ∧
    ((wPow8.pw.phase = 2 ∧ wPow8.entryRefusers = [])) ∧
    ((wPowA.pw.phase = 2 ∧ wPowA.entryRefusers ≠ [])) ∧
    ((wPowC.pw.phase = 3 ∧ wPowC.tests.length = 184 ∧ wPowC.entryRefusers ≠ [])) ∧
    ((wPowG.pw.phase = 4 ∧ wPowG.mcQuiet = true ∧ wPowG.pw.target = 3)) ∧
    ((wPowI.pw.phase = 4 ∧ wPowI.mcQuiet = true ∧ wPowI.pw.target = 2 ∧ (2 = 1 ∨ 2 = 2) ∧ wPowI.pw.held ≠ 0)) ∧
    ((wPowJ.powerState = 5 ∧ wPowJ.exitReady = true)) ∧
    ((wPowK.powerState = 5 ∧ wPowK.exitReady = false)) ∧
    ((wPowL.mayWake ∧ wPowL.flag rPM_WAKE_CFG fPM_WAKE_CFG_TIMER_EN = true ∧ wPowL.dtime < wPowL.pw.endedAt + wPowL.rf
         rPM_WAKE_TIMER fPM_WAKE_TIMER_TIMER_MS * 1000000)) ∧
    ((wPowM.mcQuiet = false)) ∧
    ((15 < 16 ∧ (wPowN.rf rPM_WAKE_CFG fPM_WAKE_CFG_GPIO_MASK).testBit 15 = true ∧ (wPowN.rf rPM_WAKE_CFG
         fPM_WAKE_CFG_GPIO_POL).testBit 15 = !true ∧ 1 ≤ wPowN.pw.phase ∧ wPowN.pw.phase ≤ 3 ∧ wPowN.pw.forced = true)) :=
  by refine ⟨⟨?_, ?_⟩, ⟨?_, ?_⟩, ?_, ⟨?_, ?_⟩, ⟨?_, ⟨?_, ?_⟩, ?_, ?_, ⟨?_, ?_, ?_, ?_, ⟨?_, ?_, ?_, ?_, ⟨?_, ?_⟩⟩⟩⟩⟩ <;> decide +kernel

/-! ### pow2 -/

def conns (n : Nat) : State := sets U [(rSK_CONN_STATUS n, fSK_CONN_STATUS_STATE, skUP)]
def wDie0 : State := conns 3
def wDie1 : State := sets U [(rTH_STATUS, fTH_STATUS_CLAMP, 1)]
def wDie2 : State := R
def wDie3 : State := sets U [(rPM_STATUS, ⟨23, 22⟩, 2), (rPM_CTRL, dieRetainFld 3, 1), (rPM_CLK, fPM_CLK_TILE_TH, 4), (rPM_CLK, fPM_CLK_HART_TH, 3)]
def wDie4 : State := sets U [(rPM_STATUS, fPM_STATUS_TILE_LVL, 4), (rPM_CLK, fPM_CLK_HART_MAX, 1)]
def bru (l : List (Addr × Fld × Nat)) : State :=
  sets U ([(rPM_STATUS, fPM_STATUS_STATE, 4), (rPM_BRU_STEP 0, fPM_BRU_STEP_SRC, 8), (rPM_BRU_STEP 0, fPM_BRU_STEP_HIGH, 100), (rPM_BRU_STEP 0, fPM_BRU_STEP_LOW, 0xFFF6), (rPM_BRU_STEP 0, fPM_BRU_STEP_PERSIST, 2)] ++ l)
def wDie5 : State := sets U [(rPM_STATUS, fPM_STATUS_BUSY, 1)]
def wDie6 : State := (U.modPw (fun p => { p with slowTile := some 2, slowHart := some 1 })).modAon (fun a => { a with off := true })
def wBru0 : State := bru []
def wBru1 : State := bru [(rPM_BRU_VAL 0, fPM_BRU_VAL_COUNT, 1)]
def wBru2 : State := (bru []).modPw (fun p => { p with lastRun := some 0 })
def wRun : BruRun := { vals := [], step := 15, since := 0, bad := [], qual := [] }
def wBru3 : State := ((bru [(rPM_BRU_CFG, fPM_BRU_CFG_NSTEP_M1, 15), (rPM_BRU_STEP 15, fPM_BRU_STEP_HIGH, 0x7FFF), (rPM_BRU_STEP 15, fPM_BRU_STEP_PERSIST, 15)]).modPw (fun p => { p with run := some wRun, means := [(15, List.replicate 2304 3)] }))
def wBru4 : State := wBru3.modTime (fun t => { t with master := 100000000 * 2 ^ 32 })

def wv49000 : BruRun := { vals := [], step := 15, since := 0, bad := [], qual := [] }
def wv49001 : List Nat := (List.replicate 2304 3)
/-- Hypotheses of the clauses 1.2, 1.5, 2.1, 2.2, 4.2, 5, 6.1, 6.2, 10.1, 10.2, 10.3, 11; 7, 8, 12.2.1, 12.2.3; 13.1,
13.3; 9; 1.3; 1.4; 4.1; 12.2.2; 12.1; 13.2; 1.1; 3 of `Obligations.DiesClocksSuppliesAndSampler`. -/
theorem witness_DiesClocksSuppliesAndSampler :
    ((3 < 4 ∧ wDie4.accepts hart rPM_CTRL ∧ wDie4.flag rPM_STATUS fPM_STATUS_BUSY = false ∧ wDie4.diePresent 3 = true
         ∧ wDie4.diePower 3 < 2 ∧ wDie4.dieRefusers 3 = [] ∧ wDie4.accepts hart rPM_CLK ∧ (3 < fPM_CLK_HART_MAX.get
         5#64 ∨ 4 < fPM_CLK_TILE_MAX.get 5#64))
      ∧ (fPM_CLK_HART_MAX.get 0 ≤ 3 ∧ fPM_CLK_TILE_MAX.get 0 ≤ 4 ∧ wDie4.pw.slowTile = none ∧ 0 = max (wDie4.rf rPM_CLK
         fPM_CLK_TILE_MAX) (wDie4.rf rPM_CLK fPM_CLK_TILE_TH) ∧ 0 < wDie4.rf rPM_STATUS fPM_STATUS_TILE_LVL ∧ 0 <
         levelMv false 0 ∧ wDie4.pw.slowHart = none ∧ 1 = max (wDie4.rf rPM_CLK fPM_CLK_HART_MAX) (wDie4.rf rPM_CLK
         fPM_CLK_HART_TH))
      ∧ (wDie4.rf rPM_STATUS fPM_STATUS_HART_LVL < 1 ∧ 0 < 184 ∧ (wDie4.unitState 0 = tsIDLE ∨ wDie4.unitState 0 =
         tsFAULT) ∧ (176 ≤ 0 ∨ wDie4.doneRaised 0 = false) ∧ wDie4.rf rPM_GATE_CFG fPM_GATE_CFG_GATE_DELAY ≤ 256 ∧ 0 <
         wDie4.rf rPM_GATE_CFG fPM_GATE_CFG_GATE_DELAY ∧ wDie4.aon.off = false ∧ wDie4.rail Rail.hub = RailMode.on)
      ∧ (10 < 63 ∧ 0 ≤ 10)) ∧
    ((wBru0.rail (Rail.cd 3) ≠ RailMode.on ∧ wBru0.rail Rail.hub ≠ RailMode.on ∧ wBru0.powerState = 4 ∧ wBru0.pw.run =
         none ∧ (∀ (a : Nat), wBru0.pw.lastRun = some a → a + wBru0.rf rPM_BRU_CFG fPM_BRU_CFG_PERIOD_MS * 1000000 ≤
         wBru0.dtime) ∧ wBru0.rf rPM_BRU_CFG fPM_BRU_CFG_NSTEP_M1 = 0 ∧ 1 ≤ wBru0.bruCfg 0 fPM_BRU_STEP_SRC ∧
         wBru0.bruCfg 0 fPM_BRU_STEP_SRC ≤ 8)
      ∧ (wBru0.bruOut 0 (enc16 5) = false ∧ min 15 (wBru0.rf (rPM_BRU_VAL 0) fPM_BRU_VAL_COUNT + 1) < wBru0.bruCfg 0
         fPM_BRU_STEP_PERSIST)) ∧
    ((wBru3.pw.run = some wv49000 ∧ 15 = wv49000.step ∧ 15 < 16 ∧ wBru3.powerState = 4 ∧ wBru3.rf rPM_BRU_CFG
         fPM_BRU_CFG_NSTEP_M1 = 15 ∧ wv49000.qual = [] ∧ wBru3.dtime < wv49000.since + 100000000 ∧ 0 < 1)
      ∧ (8 ≤ 63 ∧ mapGet wBru3.pw.means 15 = some wv49001 ∧ wBru3.bruOut 15 (frameDiff (blockMeans 1 ([1, 2].length / 1)
         (List.map (fun v => v / 2 ^ (63 - 8) % 256) [1, 2])) wv49001) = false)) ∧
    ((3 < 4 ∧ wDie0.rail (Rail.cd 3) = RailMode.on ∧ wDie0.sk.conns.length = 10 ∧ wDie0.connState (skHubConn 3) =
         skUP)) ∧
    ((3 < 4 ∧ wDie1.accepts hart rPM_CTRL ∧ wDie1.flag rPM_STATUS fPM_STATUS_BUSY = false ∧ wDie1.diePresent 3 = true
         ∧ wDie1.diePower 3 < 2 ∧ wDie1.dieRefusers 3 ≠ [])) ∧
    ((3 < 4 ∧ wDie2.accepts hart rPM_CTRL ∧ wDie2.diePresent 3 = false)) ∧
    ((wDie3.pw.slowTile = none ∧ 4 = max (wDie3.rf rPM_CLK fPM_CLK_TILE_MAX) (wDie3.rf rPM_CLK fPM_CLK_TILE_TH) ∧
         (wDie3.rf rPM_STATUS fPM_STATUS_TILE_LVL < 4 ∨ 4 < wDie3.rf rPM_STATUS fPM_STATUS_TILE_LVL ∧ levelMv false 4
         ≤ 0))) ∧
    ((wBru1.powerState = 4 ∧ wBru1.pw.run = none ∧ (∀ (a : Nat), wBru1.pw.lastRun = some a → a + wBru1.rf rPM_BRU_CFG
         fPM_BRU_CFG_PERIOD_MS * 1000000 ≤ wBru1.dtime) ∧ wBru1.rf rPM_BRU_CFG fPM_BRU_CFG_NSTEP_M1 = 0 ∧ 1 ≤
         wBru1.bruCfg 0 fPM_BRU_STEP_SRC ∧ wBru1.bruCfg 0 fPM_BRU_STEP_SRC ≤ 8 ∧ wBru1.bruOut 0 (enc16 200) = true ∧
         wBru1.bruCfg 0 fPM_BRU_STEP_PERSIST ≤ min 15 (wBru1.rf (rPM_BRU_VAL 0) fPM_BRU_VAL_COUNT + 1))) ∧
    ((wBru2.powerState = 4 ∧ wBru2.pw.run = none ∧ wBru2.pw.lastRun = some 0 ∧ wBru2.dtime < 0 + wBru2.rf rPM_BRU_CFG
         fPM_BRU_CFG_PERIOD_MS * 1000000)) ∧
    ((wBru4.pw.run = some wv49000 ∧ 15 = wv49000.step ∧ 15 < 16 ∧ wBru4.powerState = 4 ∧ wBru4.rf rPM_BRU_CFG
         fPM_BRU_CFG_NSTEP_M1 = 15 ∧ wv49000.qual = [] ∧ wv49000.since + 100000000 ≤ wBru4.dtime ∧ min 15 (wBru4.rf
         (rPM_BRU_VAL 15) fPM_BRU_VAL_COUNT + 1) < wBru4.bruCfg 15 fPM_BRU_STEP_PERSIST)) ∧
    ((3 < 4 ∧ wDie5.accepts hart rPM_CTRL ∧ wDie5.flag rPM_STATUS fPM_STATUS_BUSY = true)) ∧
    ((wDie6.pw.slowTile = some 2 ∧ 2 < 8)) :=
  by refine ⟨⟨?_, ?_, ?_, ?_⟩, ⟨?_, ?_⟩, ⟨?_, ?_⟩, ?_, ⟨?_, ?_, ?_, ?_, ⟨?_, ?_, ?_, ?_⟩⟩⟩ <;> decide +kernel

/-! ### start -/

def wBoot (v : Bool) (tad : Bool) : BootIn := { chid := 15, tadpole := tad, bootsel := false, xspi1s := true, vin := v, lanes := [], fails := [], hbm := [], us := 5, nvme := some (2 ^ 30) }
def wSt0 : State := R
def wSt1 : State := R.modAon (fun a => { a with low := false, off := true, wait := true, straps := 3 })
/-- A directory whose two image slots hold nothing. -/
def stDir : List Byte :=
  let b := leBytes 4 0x50564449 ++ leBytes 2 1 ++ leBytes 2 0 ++ leBytes 4 0x10000 ++ leBytes 4 0x20000 ++ leBytes 4 0x10000
    ++ leBytes 4 0x100000 ++ leBytes 4 0x200000 ++ leBytes 4 0x40000 ++ leBytes 28 0
  b ++ leBytes 4 (crc32c b)
def wSt2 : State := R.modFlash (fun f => { f with cells := flashPuts [] 0 stDir })
def stLow (s : State) (t : Bool) : State := s.modAon (fun a => { a with low := false, straps := bootStraps (wBoot true t) })
def wStA : State := stLow wSt0 true
def wStB : State := stLow wSt0 false
def wStC : State := stLow wSt2 false
def tadOn (a : Option Nat) : State := R.modSh (fun h => { h with tad := { h.tad with on := true, nvme := some 1, lastHdr := a, lastTel := a, hdrs := 1 } })
def wTad0 : State := (tadOn (some 0)).modTime (fun t => { t with master := 1000000000 * 2 ^ 32 })
def wTad1 : State := (tadOn (some 0)).modTime (fun t => { t with master := 999999999 * 2 ^ 32 })

/-- Hypotheses of the clauses 1, 3, 5, 6, 8, 10; 7, 9; 2; 4 (all its branches) of
`Obligations.ThePartStartsOrEntersTadpole`. -/
theorem witness_ThePartStartsOrEntersTadpole :
    ((wSt0.aon.low = true ∧ (wBoot false false).vin = false ∧ wSt0.aon.wait = false ∧ 10 ≤ 63 ∧ 0 < 10 ∧
         (wSt0.sh.tad.on = false ∨ wSt0.sh.tad.nvme = none ∨ ∃ a, wSt0.sh.tad.lastHdr = some a ∧ wSt0.dtime < a +
         1000000000) ∧ wSt0.sh.tad.on = false)) ∧
    ((wTad0.sh.tad.on = true ∧ wTad0.sh.tad.nvme = some 1 ∧ (∀ (a : Nat), wTad0.sh.tad.lastHdr = some a → a +
         1000000000 ≤ wTad0.dtime) ∧ (∀ (a : Nat), wTad0.sh.tad.lastTel = some a → a + 1000000000 ≤ wTad0.dtime))) ∧
    ((wSt1.aon.low = false)) ∧
    ((Instr.resetNRise (wBoot true true) = Instr.resetNRise (wBoot true true) ∧ wSt0.aon.low = true ∧ (wBoot true
         true).vin = true ∧ wSt0.isl.length = 2 ∧ (wSt0.modAon (fun a =>
         { a with low := false, straps := bootStraps (wBoot true true) })).aon.straps < 128)) ∧
    ((Instr.resetNRise (wBoot true false) = Instr.resetNRise (wBoot true false) ∧ wSt0.aon.low = true ∧ (wBoot true
         false).vin = true ∧ wSt0.isl.length = 2 ∧ (wSt0.modAon (fun a =>
         { a with low := false, straps := bootStraps (wBoot true false) })).aon.straps < 128)) ∧
    ((Instr.vinMainInWindow (wBoot true false) = Instr.vinMainInWindow (wBoot true false) ∧ wSt1.aon.wait = true ∧
         wSt1.isl.length = 2 ∧ wSt1.aon.straps < 128)) :=
  by refine ⟨?_, ?_, ?_, ?_, ⟨?_, ?_⟩⟩ <;> decide +kernel

/-! ### jn -/

def dirBytes : List Byte :=
  let b := leBytes 4 0x50564449 ++ leBytes 2 1 ++ leBytes 2 0 ++ leBytes 4 0x10000 ++ leBytes 4 0x20000 ++ leBytes 4 0x10000
    ++ leBytes 4 0x100000 ++ leBytes 4 0x200000 ++ leBytes 4 0x40000 ++ leBytes 28 0
  b ++ leBytes 4 (crc32c b)
def jnAt (eng : Nat) (l : List (Addr × Fld × Nat)) : State :=
  (sets U ((rJN_STATUS, fJN_STATUS_ENGINE, eng) :: l)).modFlash (fun f => { f with dir := some (leNat dirBytes) })
def wJn0 : State := (jnAt 0 [(rJN_APPEND_SRC, fJN_APPEND_SRC_ADDR, 4)]).memWrite 256 [1, 2, 3]
def wJn1 : State := jnAt 5 []
def wJn2 : State := jnAt 1 []
def wJn3 : State := jnAt 0 [(rJN_APPEND_SRC, fJN_APPEND_SRC_ADDR, 0x30000000)]
def wJn4 : State := (jnAt 0 []).modMem (fun m => m.putPoison 0 32)
def wJn5 : State := (jnAt 0 []).modFlash (fun f => { f with next := 0x40000 - 64 })
def jrec : JRec := { off := 64, type := 0x80, seq := 2 ^ 32 - 1, key := 5, data := [1, 2, 3] }
def wJn6 : State := (jnAt 1 []).modFlash (fun f => { f with append := some { rec' := jrec, again := false }, next := 64 })
def wJn7 : State := (jnAt 1 []).modFlash (fun f => { f with append := some { rec' := jrec, again := true }, next := 64 })
def wJn8 : State := (jnAt 0 []).modFlash (fun f => { f with next := 0x30000 })
def wJn9 : State := (jnAt 0 [(rJN_STATUS, fJN_STATUS_COMPACT, 1), (rJN_STATUS, fJN_STATUS_GEN, 7), (rJN_SEQ, fJN_SEQ_NEXT_SEQ, 9)])
def wJnA : State := sets U [(rJN_STATUS, fJN_STATUS_ENGINE, 5), (rJN_CTRL, fJN_CTRL_OFFLINE, 1)]
def wJnB : State := (jnAt 0 []).newArea 1 5 9 []
def wJnC : State := sets wJnB [(rJN_STATUS, fJN_STATUS_ENGINE, 5)]
def wJnD : State := (sets R [(rJN_STATUS, fJN_STATUS_ENGINE, 0), (rIO_XSPI_BUF, fIO_XSPI_BUF_ADDR, 4), (rHUB_CTX_RGN_BASE 0 0, fHUB_CTX_RGN_BASE_VALID, 1), (rHUB_CTX_RGN_BASE 0 0, fHUB_CTX_RGN_BASE_RD, 1), (rHUB_CTX_RGN_BASE 0 0, fHUB_CTX_RGN_BASE_WR, 1), (rHUB_CTX_RGN_LIM 0 0, fHUB_CTX_RGN_LIM_LIMIT, 0x100)]).memWrite 256 [1, 0xF0, 3]
def wJnE : State := (sets wJnD [(rIO_XSPI_CMD, fIO_XSPI_CMD_RESULT, 2)]).modFuses (fun f => { f with svn := 255 })
def wJnF : State := U.modFlash (fun f => { f with signer := some 3 })

def wv51000 : Machine.Append :=
  { rec' := { off := 64, type := 128, seq := 4294967295, key := 5, data := [0x01#8, 0x02#8, 0x03#8] }, again := false }
def wv51001 : Machine.Append :=
  { rec' := { off := 64, type := 128, seq := 4294967295, key := 5, data := [0x01#8, 0x02#8, 0x03#8] }, again := true }
def wv51002 : JRec :=
  { off := 0, type := 1, seq := 0, key := 0, data := ([0x05#8, 0x00#8, 0x00#8, 0x00#8, 0x01#8] ++ List.replicate 13 0x00#8 ++ [0x04#8, 0x00#8]) }
/-- Hypotheses of the clauses 1.1, 1.3.1, 1.3.2, 2, 4.1, 6, 7.1, 8.1, 8.3, 8.4, 9.4, 11; 1.2, 3.1, 3.2; 7.3, 9.3; 9.1,
9.2; 8.2, 10; 4.2; 3.3; 5; 7.2; 7.4 of `Obligations.JournalFusesAndFlashCommands`. -/
theorem witness_JournalFusesAndFlashCommands :
    ((wJn5.accepts hart rJN_APPEND ∧ 0 < 256 ∧ 0 < 2 ^ 16 ∧ 0 < 4096 ∧ 0 = wJn5.rf rJN_APPEND_SRC fJN_APPEND_SRC_ADDR
         * 64 ∧ 1 ≠ 0 ∧ (wJn5.jnEngine = jnOFFLINE ∧ 1 = 6 ∨ wJn5.jnEngine = jnIDLE ∧ ((jnTypeOk 0 = false ∨ 0 =
         jnAREA ∨ 0 = jnSNAP) ∧ 1 = 1 ∨ jnTypeOk 0 = true ∧ 0 ≠ jnAREA ∧ 0 ≠ jnSNAP ∧ (4048 < 0 ∧ 1 = 2 ∨ 0 ≤ 4048 ∧
         (((unitsOf 64 0 0).any fun l => (wJn5.lineErr l).isSome) = true ∧ 1 = 3 ∨ ((unitsOf 64 0 0).any fun l =>
         (wJn5.lineErr l).isSome) = false ∧ wJn5.mem.poisoned 0 0 = true ∧ 1 = 4)))) ∧ 16 < 256)
      ∧ (wJn5.jnEngine = jnIDLE ∧ jnTypeOk 16 = true ∧ 16 ≠ jnAREA ∧ 16 ≠ jnSNAP ∧ 0 ≤ 4048 ∧ (((unitsOf 64 0 0).any fun
         l => (wJn5.lineErr l).isSome) = false) ∧ wJn5.mem.poisoned 0 0 = false ∧ wJn5.flash.next + recSize 0 ≤
         wJn5.jnSize)
      ∧ (63 < 4096 ∧ 63 ≤ 4048 ∧ (((unitsOf 64 0 63).any fun l => (wJn5.lineErr l).isSome) = false) ∧ wJn5.mem.poisoned 0
         63 = false ∧ wJn5.jnSize < wJn5.flash.next + recSize 63 ∧ wJn5.flash.append = none ∧ wJn5.rf rJN_STATUS
         fJN_STATUS_COMPACT = 0 ∧ wJn5.flash.dir.isSome = true)
      ∧ (3 * wJn5.jnSize ≤ 4 * wJn5.flash.next ∧ wJn5.accepts hart rJN_CTRL ∧ wJn5.jnEngine ≠ jnOFFLINE ∧ wJn5.accepts
         hart rJN_FUSE ∧ wJn5.fuses.svn ≤ 16 ∧ 0 < 4 ∧ wJn5.flash.signer ≠ some 0 ∧ wJn5.fuses.revoked.length = 4)
      ∧ ((4 ≤ 16 ∨ wJn5.flash.signer = some 16) ∧ wJn5.accepts hart rIO_XSPI_CMD ∧ 16 < 2 ^ 28 ∧ 0 < 512 ∧ 0 = wJn5.rf
         rIO_XSPI_BUF fIO_XSPI_BUF_ADDR * 64 ∧ wJn5.rf rIO_XSPI_CMD fIO_XSPI_CMD_RESULT ≠ 2 ∧ (16 % 65536 ≠ 0 ∨
         wJn5.xsGuarded 16 65536 = true ∧ wJn5.jnEngine ≠ jnOFFLINE))) ∧
    ((wJn6.accepts hart rJN_APPEND ∧ 0 < 256 ∧ 0 < 2 ^ 16 ∧ 0 < 4096 ∧ 0 = wJn6.rf rJN_APPEND_SRC fJN_APPEND_SRC_ADDR
         * 64 ∧ wJn6.jnEngine ≠ jnOFFLINE ∧ wJn6.jnEngine ≠ jnIDLE ∧ wJn6.flash.append = some wv51000)
      ∧ (wv51000.rec'.seq < 2 ^ 32 ∧ wv51000.again = false ∧ wv51000.rec'.off + wv51000.rec'.size + wv51000.rec'.size ≤
         wJn6.jnSize)) ∧
    ((wJn1.accepts hart rJN_CTRL ∧ wJn1.jnEngine = jnOFFLINE ∧ wJn1.flash.dir.isSome = true ∧ wJn1.activeArea = none ∧
         wJn1.accepts hart rIO_XSPI_CMD ∧ 0 < 2 ^ 28 ∧ 0 < 512 ∧ 0 = wJn1.rf rIO_XSPI_BUF fIO_XSPI_BUF_ADDR * 64)
      ∧ (wJn1.rf rIO_XSPI_CMD fIO_XSPI_CMD_RESULT ≠ 2 ∧ 0 % 65536 = 0 ∧ (wJn1.xsGuarded 0 65536 = false ∨ wJn1.jnEngine =
         jnOFFLINE))) ∧
    ((wJnD.accepts hart rIO_XSPI_CMD ∧ 256 < 2 ^ 28 ∧ 1 < 512 ∧ 256 = wJnD.rf rIO_XSPI_BUF fIO_XSPI_BUF_ADDR * 64 ∧
         wJnD.rf rIO_XSPI_CMD fIO_XSPI_CMD_RESULT ≠ 2 ∧ wJnD.xsLegal xsREAD 256 1 = true ∧ (wJnD.xsGuarded 256 1 =
         false ∨ wJnD.jnEngine = jnOFFLINE) ∧ wJnD.storable 256 1)
      ∧ (wJnD.xsLegal xsPROGRAM 256 1 = true ∧ wJnD.inHbm 256 1)) ∧
    ((wJnE.accepts hart rJN_FUSE ∧ 0 < 256 ∧ 0 < wJnE.fuses.svn ∧ wJnE.rf rIO_XSPI_CMD fIO_XSPI_CMD_RESULT = 2)) ∧
    ((wJn0.jnEngine = jnIDLE ∧ wJn0.rf rJN_STATUS fJN_STATUS_COMPACT = 0 ∧ wJn0.flash.dir.isSome = true ∧ 4 *
         wJn0.flash.next < 3 * wJn0.jnSize)) ∧
    ((wJn7.flash.append = some wv51001 ∧ wv51001.rec'.seq < 2 ^ 32 ∧ wv51001.again = true)) ∧
    ((wJn9.rf rJN_STATUS fJN_STATUS_COMPACT = 1 ∧ wJn9.flash.append = none)) ∧
    ((wJnA.accepts hart rJN_CTRL ∧ wJnA.jnEngine = jnOFFLINE ∧ wJnA.flash.dir = none)) ∧
    ((wJnC.accepts hart rJN_CTRL ∧ wJnC.jnEngine = jnOFFLINE ∧ wJnC.flash.dir.isSome = true ∧ wJnC.activeArea = some 1
         ∧ 1 < 2 ∧ (wJnC.scanArea 1).area = some wv51002)) :=
  by refine ⟨⟨?_, ?_, ?_, ?_, ?_⟩, ⟨?_, ?_⟩, ⟨?_, ?_⟩, ⟨?_, ?_⟩, ⟨?_, ?_, ?_, ?_, ⟨?_, ?_⟩⟩⟩ <;> decide +kernel

/-! ### dbg -/

def tr (st mode : Nat) (l : List (Addr × Fld × Nat)) (f : Trace → Trace) : State :=
  (sets U ([(rTR_STATUS, fTR_STATUS_STATE, st), (rTR_CFG, fTR_CFG_MODE, mode), (rTR_TRIG_CFG, fTR_TRIG_CFG_EN, 1), (rTR_TRIG_CFG, fTR_TRIG_CFG_M_EVENT, 15), (rHUB_CTX_RGN_BASE 0 0, fHUB_CTX_RGN_BASE_VALID, 1), (rHUB_CTX_RGN_BASE 0 0, fHUB_CTX_RGN_BASE_RD, 1), (rHUB_CTX_RGN_BASE 0 0, fHUB_CTX_RGN_BASE_WR, 1), (rHUB_CTX_RGN_LIM 0 0, fHUB_CTX_RGN_LIM_LIMIT, 0x100)] ++ l)).modTrace f
def oneRec (t : Trace) : Trace := { t with srcs := [(209, { fifo := [0x1D1] })], recs := [1, 2, 3, 4, 5] }
def wTc0 : State := tr 0 0 [] oneRec
def wTc1 : State := tr 3 0 [] oneRec
def wTr2 : State := tr 2 1 [(rTR_TRIG_CFG, fTR_TRIG_CFG_EN, 0xFE)] oneRec
def wTr3 : State := tr 1 0 [] (fun t => { t with post := 0 })
def wTr4 : State := tr 1 1 [] (fun t => { t with post := 1, dump := some 5 })
def wTr5 : State := tr 0 3 [(rTR_STREAM_BASE, fTR_STREAM_BASE_LOG2, 10), (rTR_STREAM_BASE, fTR_STREAM_BASE_DEST, 1), (rDL_STATUS 0, fDL_STATUS_STATE, 2), (rTR_STREAM_WR, fTR_STREAM_WR_PTR, 1020), (rTR_STREAM_RD, fTR_STREAM_RD_PTR, 0)] oneRec
def wTr6 : State := sets wTr5 [(rTR_STREAM_BASE, fTR_STREAM_BASE_DEST, 0)]
def wTr7 : State := sets wTr5 [(rDL_STATUS 0, fDL_STATUS_STATE, 0)]
def wTr8 : State := sets wTr6 [(rHUB_CTX_RGN_BASE 0 0, fHUB_CTX_RGN_BASE_WR, 0)]
def wDg0 : State := U
def wDb1 : State := sets U [(rTR_AUTH_STAT, fTR_AUTH_STAT_LEVEL, 2), (rTR_AUTH_STAT, fTR_AUTH_STAT_LOCKED, 1)]
def wDb2 : State := (sets U [(rTR_AUTH_STAT, fTR_AUTH_STAT_ATTEMPTS, 2), (rTR_AUTH_STAT, fTR_AUTH_STAT_BUSY, 1), (rTR_AUTH_STAT, fTR_AUTH_STAT_LEVEL, 1)]).modDebug (fun d => { d with verify := some (some (0, 3)) })
def authKey : List Word := [0x2EC0A535E93B986D, 0xB5C9087581EB7D4A, 0x6A3091ED7A498B02, 0x73A6E0E84399364C, 0xD5377554C822DEFE, 0x52BC4C1B709FA94D, 0x36B75585E1B93C21, 0x864848950BC7CC54, 0x5737407EA7FB8443, 0x2BAEF1096755CD4A, 0x3C95312700DBBB6A, 0x912DF4317BDCDC08]
def authSig : List Word := [0x6BAD68035C140D8F, 0xEA0E401CE422BE70, 0xFE20A26BD971B991, 0xAAFDDF585AE2FAC9, 0x51D583678FBE2DF7, 0xA7F8F6FA4EDFC928, 0x6BAD68035C140D8F, 0xEA0E401CE422BE70, 0xFE20A26BD971B991, 0xAAFDDF585AE2FAC9, 0x51D583678FBE2DF7, 0xA7F8F6FA4EDFC928]
def wDb3 : State := (wDb2.modDebug (fun d => { d with key := authKey, sig := authSig })).modFuses (fun f => { f with dbgKeys := [(sha384 (authKey.flatMap (fun w => leBytes 8 w.toNat)), 8), (0, 0)] })

/-- Hypotheses of the clauses 1, 2.3, 4.1, 4.4, 4.5, 5.1, 5.2, 6, 8; 3.2, 4.3, 5.3, 7; 2.1, 4.2; 2.2; 3.1; 9.1; 9.2;
9.3 of `Obligations.TraceIsBufferedDumpedAndStreamed`. -/
theorem witness_TraceIsBufferedDumpedAndStreamed :
    (((wTr2.trace.src 0).fifo = [] ∧ (wTr2.trace.src 209).fifo = [465] ∧ (wTr2.trace.src 209).dropped = 0 ∧
         wTr2.traceMatch 465 = false ∧ bits 465 11 8 ≠ evGAP ∧ wTr2.trace.timeHi = wTr2.dtime / 2 ^ 40 ∧
         wTr2.trace.bufGap = 0 ∧ wTr2.trState = trFROZEN)
      ∧ (wTr2.accepts hart rTR_CTRL ∧ (wTr2.rf rTR_TRIG_CFG fTR_TRIG_CFG_EN).testBit 0 = false ∧ wTr2.accepts hart
         rTR_DUMP ∧ 0 = fTR_DUMP_DUMP_ADDR.get 0 * 64 ∧ wTr2.dumpAllowed = true ∧ wTr2.trace.recs ≠ [] ∧ wTr2.storable
         0 (16 * wTr2.trace.recs.length) ∧ wTr2.engineErr wTr2.trCtx Want.wr 0 (16 * wTr2.trace.recs.length) = none)
      ∧ ((wTr2.engineErr wTr2.trCtx Want.wr (fTR_DUMP_DUMP_ADDR.get 4294967296#64 * 64) (16 *
         wTr2.trace.recs.length)).isSome = true ∧ wTr2.trace.dump = none ∧ wTr2.streamReady = false)) ∧
    ((wTr4.trState = trPOST ∧ wTr4.trace.post ≠ 0 ∧ wTr4.accepts hart rTR_CTRL ∧ (wTr4.rf rTR_TRIG_CFG
         fTR_TRIG_CFG_EN).testBit 0 = true ∧ (wTr4.trMode ≠ 0 ∨ wTr4.trState ≠ trARMED ∧ wTr4.trState ≠ trIDLE ∧ ∀ (x
         : Nat × Nat), wTr4.trace.trig = some x → x.1 ≠ wTr4.fabCycle) ∧ wTr4.accepts hart rTR_DUMP ∧ 0 =
         fTR_DUMP_DUMP_ADDR.get 0 * 64 ∧ wTr4.dumpAllowed = false)
      ∧ (wTr4.trace.dump = some 5 ∧ 5 < 2 ^ 64)) ∧
    (((wTc0.trace.src 209).fifo = [465] ∧ (wTc0.trace.src 209).dropped = 0 ∧ wTc0.traceMatch 465 = false ∧ bits 465 11
         8 ≠ evGAP ∧ wTc0.trace.timeHi = wTc0.dtime / 2 ^ 40 ∧ wTc0.trace.bufGap = 0 ∧ wTc0.trState = trARMED ∧
         wTc0.trMode = 0)
      ∧ (wTc0.trace.recs.length < traceCap ∧ wTc0.accepts hart rTR_CTRL ∧ (wTc0.rf rTR_TRIG_CFG fTR_TRIG_CFG_EN).testBit
         0 = true ∧ wTc0.trace.recs.length + 1 < traceCap ∧ ([] = if wTc0.trace.timeHi = wTc0.dtime / 2 ^ 40 then []
         else [recTime wTc0.dtime]))) ∧
    (((wTc1.trace.src 209).fifo = [465] ∧ (wTc1.trace.src 209).dropped = 0 ∧ wTc1.traceMatch 465 = false ∧ bits 465 11
         8 ≠ evGAP ∧ wTc1.trace.timeHi = wTc1.dtime / 2 ^ 40 ∧ wTc1.trace.bufGap = 0 ∧ wTc1.trState = trIDLE)) ∧
    ((wTr3.trState = trPOST ∧ wTr3.trace.post = 0)) ∧
    ((0 = wTr5.rf rTR_STREAM_BASE fTR_STREAM_BASE_ADDR * 64 ∧ wTr5.streamReady = true ∧ wTr5.flag rTR_STREAM_BASE
         fTR_STREAM_BASE_DEST = true ∧ wTr5.pcieUp = true)) ∧
    ((0 = wTr6.rf rTR_STREAM_BASE fTR_STREAM_BASE_ADDR * 64 ∧ wTr6.streamReady = true ∧ wTr6.flag rTR_STREAM_BASE
         fTR_STREAM_BASE_DEST = false ∧ wTr6.storable (0 + wTr6.rf rTR_STREAM_WR fTR_STREAM_WR_PTR % wTr6.ringCap *
         16) 64 ∧ wTr6.engineErr wTr6.trCtx Want.wr (0 + wTr6.rf rTR_STREAM_WR fTR_STREAM_WR_PTR % wTr6.ringCap * 16)
         64 = none)) ∧
    ((0 = wTr7.rf rTR_STREAM_BASE fTR_STREAM_BASE_ADDR * 64 ∧ wTr7.streamReady = true ∧ (wTr7.flag rTR_STREAM_BASE
         fTR_STREAM_BASE_DEST = true ∧ wTr7.pcieUp = false ∨ wTr7.flag rTR_STREAM_BASE fTR_STREAM_BASE_DEST = false ∧
         (wTr7.engineErr wTr7.trCtx Want.wr (0 + wTr7.rf rTR_STREAM_WR fTR_STREAM_WR_PTR % wTr7.ringCap * 16)
         64).isSome = true))) :=
  by refine ⟨⟨?_, ?_, ?_⟩, ⟨?_, ?_⟩, ⟨?_, ?_⟩, ?_, ⟨?_, ?_, ?_, ?_⟩⟩ <;> decide +kernel

/-- Hypotheses of the clauses 1.1, 1.3, 1.4, 2, 5, 6, 9, 10, 12.1, 12.2; 1.2, 1.5, 4, 7, 8, 11.1, 11.2; 3.2; 3.1 of
`Obligations.DebugIsUnlockedAndReachesItsModules`. -/
theorem witness_DebugIsUnlockedAndReachesItsModules :
    ((wDg0.accepts hart rTR_AUTH_CMD ∧ wDg0.dbgLocked = false ∧ wDg0.dbgBusy = false ∧ 1 ≤ 1 ∧ 1 ≤ 3 ∧ wDg0.dbg.verify
         = none ∧ wDg0.dbgLevel < 2 ∧ wDg0.dbgLevel = 0)) ∧
    ((wDb1.accepts hart rTR_AUTH_CMD ∧ (wDb1.dbgLocked = true ∨ wDb1.dbgBusy = true ∨ 1 = 0 ∨ 3 < 1) ∧ wDb1.dbgLocked
         = true ∧ 2 ≤ wDb1.dbgLevel ∧ 0 < wDb1.harts.length ∧ bits 2147483648 25 16 = 0 ∧ Nat.testBit 2147483648 31 =
         true ∧ 1 ≤ wDb1.dbgLevel)
      ∧ (0 ≠ dmiSTATUS ∧ 0 ≠ dmiCONTROL ∧ 0 ≠ dmiCOMMAND ∧ 0 < 65536)) ∧
    ((wDb2.dbg.verify = some (some (0, 3)) ∧ wDb2.dbgLocked = false)
      ∧ (some (0, 3) = none ∨ ∃ ch level, some (0, 3) = some (ch, level) ∧ wDb2.authOk ch level = false)) ∧
    ((wDb3.dbg.verify = some (some (0, 3)) ∧ 3 < 4 ∧ wDb3.authOk 0 3 = true)) :=
  by refine ⟨?_, ⟨?_, ?_⟩, ⟨?_, Or.inr ⟨0, 3, rfl, by decide +kernel⟩⟩, ?_⟩ <;> decide +kernel

/-! ## Ill-formed commands are refused -/

/-- An operand below 2 is well formed, and 2 is refused. -/
theorem wf_below_2_1 :
    ([.timeMessageSend, .timeMessage, .holdoverTimeout, fun n => .stackTemperatureRead n 0,
     fun n => .skinkFrame 0 n 0 ⟨0, 0⟩, fun n => .nak 0 n 0, fun n => .sbStateSend 0 n .run, fun n => .sbState 0 n .run,
     fun n => .mapSummary 0 n 0 0, fun n => .laneMap 0 n 0 0 0, fun n => .confirm 0 n 0 0, fun n => .nack 0 n 0 0,
     fun n => .islandPowerUp ⟨n, false⟩, fun n => .islandImageVerify n false 0, .islandImageWaitTimeout, fun n => .islandTrip n 0 false,
     .islandSelfRestart, fun n => .siRestart .debug n, fun n => .coreDisagree n 0, .checkpoint] : List (Nat → Instr)).all
      (fun c => (c (1)).wf && !(c (2)).wf) = true := by decide

/-- An operand below 2 is well formed, and 2 is refused. -/
theorem wf_below_2_2 :
    ([fun n => .moultReq n false, .moultComplete, fun n => .islandDebugCommand n 0 .halt, .worldNotice,
     .worldReadComplete, .trajectoryNotice, .trajectoryReadComplete, .messageTransmit, .notReadyMessage, .eftRun,
     .eftClear, .outputTimeout, .crosslinkHeartbeatSend, fun n => .crosslinkWord n 0, .crosslinkSilence,
     .statusMailboxRefresh, fun n => .siConfigWrite .debug n 0 0, fun n => .spiStatusRead n 0,
     fun n => .pmVeto n false, fun n => .canReceive n 0 false false []] : List (Nat → Instr)).all
      (fun c => (c (1)).wf && !(c (2)).wf) = true := by decide

/-- An operand below 2 is well formed, and 2 is refused. -/
theorem wf_below_2_3 :
    ([fun n => .canBusOff n 0, fun n => .canBusOffRecovery n 0, .islandEthReceive, .islandWakeRequest,
     .islandSupplyLoss, fun n => .messageTransmitComplete n 0 false] : List (Nat → Instr)).all
      (fun c => (c (1)).wf && !(c (2)).wf) = true := by decide

/-- An operand below 3 is well formed, and 3 is refused. -/
theorem wf_below_3 :
    ([fun n => .coreDisagree 0 n, fun n => .islandDebugCommand 0 n .halt, fun n => .coolantSample n 0,
     .coolantInputTimeout, fun n => .debugModuleAccess none n 0 none] : List (Nat → Instr)).all
      (fun c => (c (2)).wf && !(c (3)).wf) = true := by decide

/-- An operand below 4 is well formed, and 4 is refused. -/
theorem wf_below_4_1 :
    ([.dtimeSidebandCheck, .dtimeLoad, fun n => .dtimeInc n 0, .preemptRequest, fun n => .uartRecord n [] 0 false,
     fun n => .dlCfgWrite .debug n 0, fun n => .deviceLinkFlit n (List.replicate 8 0) false (List.replicate 236 0) 0, fun n => .laneLoss n 0,
     fun n => .linkRetrainComplete n false, fun n => .hello n 0 0 false (⟨0, 0, 0, false, false, false, 0, 20⟩) [],
     fun n => .heartbeat n 0 false 0 0 0, .heartbeatMiss, fun n => .view n 0 0 false 0 0,
     fun n => .arrive n 0 0 false 0, fun n => .probe n [], fun n => .canReceive 0 n false false [],
     fun n => .canBusOff 0 n, fun n => .canBusOffRecovery 0 n, fun n => .dieRetainEntry .debug n,
     fun n => .dieRetainExit .debug n] : List (Nat → Instr)).all
      (fun c => (c (3)).wf && !(c (4)).wf) = true := by decide

/-- An operand below 4 is well formed, and 4 is refused. -/
theorem wf_below_4_2 :
    ([fun n => .pllLockLoss (some n), fun n => .gptpMessage n false false 0,
     fun n => .dlTrainingComplete n false 0 0 0 0, fun n => .dlTrainingComplete 0 false 0 0 0 n, .completionRetire] : List (Nat → Instr)).all
      (fun c => (c (3)).wf && !(c (4)).wf) = true := by decide

/-- An operand below 5 is well formed, and 5 is refused. -/
theorem wf_below_5 :
    ([.sliceGrant, fun n => .messageTransmitComplete 0 n false] : List (Nat → Instr)).all
      (fun c => (c (4)).wf && !(c (5)).wf) = true := by decide

/-- An operand below 6 is well formed, and 6 is refused. -/
theorem wf_below_6 :
    ([fun n => .rejoinReq n 0, fun n => .rejoinCommit n 0, fun n => .quarantineSweepComplete n 0 0] : List (Nat → Instr)).all
      (fun c => (c (5)).wf && !(c (6)).wf) = true := by decide

/-- An operand below 8 is well formed, and 8 is refused. -/
theorem wf_below_8 :
    ([.pathCheck, .checkResult] : List (Nat → Instr)).all
      (fun c => (c (7)).wf && !(c (8)).wf) = true := by decide

/-- An operand below 10 is well formed, and 10 is refused. -/
theorem wf_below_10 :
    ([fun n => .skinkFrame n 0 0 ⟨0, 0⟩, fun n => .nak n 0 0, fun n => .sbStateSend n 0 .run, fun n => .sbState n 0 .run,
     fun n => .quarantineMessage n 0 0, fun n => .quarantineMessage 0 n 0, fun n => .testStart n 0 0 0,
     fun n => .laneTestComplete n [], fun n => .mapSummary n 0 0 0, fun n => .laneMap n 0 0 0 0,
     fun n => .confirm n 0 0 0, fun n => .nack n 0 0 0, .sidebandLost, .forwardedClockLoss, fun n => .rspTimeout n 0] : List (Nat → Instr)).all
      (fun c => (c (9)).wf && !(c (10)).wf) = true := by decide

/-- An operand below 16 is well formed, and 16 is refused. -/
theorem wf_below_16 :
    ([fun n => .coreMemoryAccess n 0 (.read 8), fun n => .peerInboundRequest n 0 (.read 8) ⟨false, none⟩, fun n => .setOpChunkBoundary ⟨n, []⟩,
     .setOpResume, fun n => .csi2FrameStart n 0 0, fun n => .csi2FrameStart 0 n 0,
     fun n => .csi2PixelPacket n 0 0 [] false, fun n => .csi2PixelPacket 0 n 0 [] false,
     fun n => .csi2FrameEnd n 0 0, fun n => .csi2FrameEnd 0 n 0, .triggerEdge, .triggerPulseEnd,
     fun n => .hello 0 n 0 false (⟨0, 0, 0, false, false, false, 0, 20⟩) [], fun n => .heartbeat 0 n false 0 0 0,
     fun n => .view 0 n 0 false 0 0, fun n => .arrive 0 n 0 false 0, fun n => .pcieCompletion n [] false, .hartWfi,
     fun n => .dlTrainingComplete 0 false 0 0 n 0] : List (Nat → Instr)).all
      (fun c => (c (15)).wf && !(c (16)).wf) = true := by decide

/-- An operand below 24 is well formed, and 24 is refused. -/
theorem wf_below_24 :
    ([fun n => .skinkFrame 0 0 n ⟨0, 0⟩, fun n => .laneMap 0 0 0 n 0] : List (Nat → Instr)).all
      (fun c => (c (23)).wf && !(c (24)).wf) = true := by decide

/-- An operand below 30 is well formed, and 30 is refused. -/
theorem wf_below_30 :
    ([fun n => .dieSensorSample n 0] : List (Nat → Instr)).all
      (fun c => (c (29)).wf && !(c (30)).wf) = true := by decide

/-- An operand below 32 is well formed, and 32 is refused. -/
theorem wf_below_32 :
    ([.dmaYield, .drdyEdge, fun n => .gpioWake n false, fun n => .gpioInputChange n false 0] : List (Nat → Instr)).all
      (fun c => (c (31)).wf && !(c (32)).wf) = true := by decide

/-- An operand below 64 is well formed, and 64 is refused. -/
theorem wf_below_64_1 :
    ([fun n => .hashBuild n 0, fun n => .hashQuery n 0, fun n => .neighbours n 0, fun n => .knn n 0,
     fun n => .ball n 0, fun n => .sort n 0, fun n => .topk n 0, fun n => .segmentReduce n 0,
     fun n => .gatherRows n 0, fun n => .scatterGrid n 0, fun n => .tableBuildWaitEnd n 0,
     fun n => .setOpComplete n 0, fun n => .append n 0, fun n => .attendFetch n 0, fun n => .evictTruncate n 0,
     fun n => .evictLowestScored n 0, fun n => .evictOnePosition n 0, fun n => .free n 0, fun n => .allGather n 0,
     fun n => .reduce n 0] : List (Nat → Instr)).all
      (fun c => (c (63)).wf && !(c (64)).wf) = true := by decide

/-- An operand below 64 is well formed, and 64 is refused. -/
theorem wf_below_64_2 :
    ([fun n => .reduceCombine n 0, fun n => .doorbellWrite .debug n 0, fun n => .cqHeadWrite .debug n 0,
     fun n => .tailMirrorWrite .debug n 0, fun n => .ctxEnable .debug n, fun n => .ctxDisable .debug n,
     .ctxDrainComplete, fun n => .ctxConfigWrite .debug n 0 0, fun n => .slotCfgWrite .debug n 0, .descriptorFetch,
     fun n => .kernel n 0, fun n => .copy n 0, fun n => .copyFill n 0, fun n => .jobBegin n 0, fun n => .jobEnd n 0,
     fun n => .fence n 0, fun n => .signalSet n 0, fun n => .signalAdd n 0, fun n => .signalMax n 0,
     fun n => .wait n 0] : List (Nat → Instr)).all
      (fun c => (c (63)).wf && !(c (64)).wf) = true := by decide

/-- An operand below 64 is well formed, and 64 is refused. -/
theorem wf_below_64_3 :
    ([fun n => .waitReevaluate n 0, fun n => .waitTimeout n 0, fun n => .timestamp n 0, fun n => .resultPost n 0,
     fun n => .completionRecord n 0, .jobAbort, .jobQuiesced, .jobDeadline, fun n => .csi2FrameStart 0 0 n,
     fun n => .csi2PixelPacket 0 0 n [] false, fun n => .csi2FrameEnd 0 0 n, .frameEndTimeout, .spiTransferTimer,
     fun n => .spiTransferComplete n [], fun n => .epochPublish n 0, fun n => .epochPublishComplete n 0,
     fun n => .cacheLookup n [] {}, .readForward, fun n => .mcCommandIssue n [] false, fun n => .stackReadData n 0 []] : List (Nat → Instr)).all
      (fun c => (c (63)).wf && !(c (64)).wf) = true := by decide

/-- An operand below 64 is well formed, and 64 is refused. -/
theorem wf_below_64_4 :
    ([.refreshDue, fun n => .parityError n ⟨0, 0⟩, fun n => .mcReinit .debug n, fun n => .reinitComplete n false,
     .scrubComplete, fun n => .delayCommit .debug n 0, .delayCommitApply, .bandStaleTimeout, .occupancyShed] : List (Nat → Instr)).all
      (fun c => (c (63)).wf && !(c (64)).wf) = true := by decide

/-- An operand below 72 is well formed, and 72 is refused. -/
theorem wf_below_72 :
    ([fun n => .urgencyChange n 0] : List (Nat → Instr)).all
      (fun c => (c (71)).wf && !(c (72)).wf) = true := by decide

/-- An operand below 128 is well formed, and 128 is refused. -/
theorem wf_below_128_1 :
    ([.imageLoadComplete, .load, .store, .matmul, .convConvolution, .convMaxPool, .convAvgPool, .convMinPool,
     .convGridSample, .vectCopy, .vectAdd, .vectSub, .vectMul, .vectFma, .vectMax, .vectMin, .vectAbs, .vectCmp,
     .vectSelect, .vectExp] : List (Nat → Instr)).all
      (fun c => (c (127)).wf && !(c (128)).wf) = true := by decide

/-- An operand below 128 is well formed, and 128 is refused. -/
theorem wf_below_128_2 :
    ([.vectRcp, .vectRsqrt, .vectConvert, .vectAct, .vectRsum, .vectRmax, .vectRmin, .vectSmxStep, .vectMeanvar,
     .vectNorm, .postFloat, .postInt, .postArgmax, .loop, .leap, .leapOut, .leapIn, .sig,
     fun n => .entryComplete n ⟨0, []⟩, .tileFaultClear] : List (Nat → Instr)).all
      (fun c => (c (127)).wf && !(c (128)).wf) = true := by decide

/-- An operand below 128 is well formed, and 128 is refused. -/
theorem wf_below_128_3 :
    ([.sliceComplete, .lateLeapTimeout] : List (Nat → Instr)).all
      (fun c => (c (127)).wf && !(c (128)).wf) = true := by decide

/-- An operand below 184 is well formed, and 184 is refused. -/
theorem wf_below_184 :
    ([.testDue, fun n => .testSliceComplete n 0 0, .testDeadline, fun n => .retest .debug n, fun n => .unitClockGate n 0] : List (Nat → Instr)).all
      (fun c => (c (183)).wf && !(c (184)).wf) = true := by decide

/-- An operand below 256 is well formed, and 256 is refused. -/
theorem wf_below_256 :
    ([.traceRecordArrival] : List (Nat → Instr)).all
      (fun c => (c (255)).wf && !(c (256)).wf) = true := by decide

/-- An operand below 3584 is well formed, and 3584 is refused. -/
theorem wf_below_3584 :
    ([fun n => .debugModuleAccess none 0 n none] : List (Nat → Instr)).all
      (fun c => (c (3576)).wf && !(c (3584)).wf) = true := by decide

/-- An operand below 65536 is well formed, and 65536 is refused. -/
theorem wf_below_65536 :
    ([fun n => .ctxConfigWrite .debug 0 n 0, fun n => .qosConfigWrite .debug n 0, fun n => .siConfigWrite .debug 0 n 0] : List (Nat → Instr)).all
      (fun c => (c (65528)).wf && !(c (65536)).wf) = true := by decide

/-- An operand below 2 ^ 28 is well formed, and 2 ^ 28 is refused. -/
theorem wf_below_2_pow_28 :
    ([fun n => .xspiRead .debug n 0, fun n => .xspiProgram .debug n 0, fun n => .xspiErase .debug n] : List (Nat → Instr)).all
      (fun c => (c (2 ^ 28 - 1)).wf && !(c (2 ^ 28)).wf) = true := by decide

/-- An operand below 2 ^ 32 is well formed, and 2 ^ 32 is refused. -/
theorem wf_below_2_pow_32_1 :
    ([fun n => .lowHalfWrite .debug 0 n, fun n => .hashBuild 0 n, fun n => .hashQuery 0 n, fun n => .neighbours 0 n,
     fun n => .knn 0 n, fun n => .ball 0 n, fun n => .sort 0 n, fun n => .topk 0 n, fun n => .segmentReduce 0 n,
     fun n => .gatherRows 0 n, fun n => .scatterGrid 0 n, fun n => .tableBuildWaitEnd 0 n,
     fun n => .setOpComplete 0 n, fun n => .append 0 n, fun n => .attendFetch 0 n, fun n => .evictTruncate 0 n,
     fun n => .evictLowestScored 0 n, fun n => .evictOnePosition 0 n, fun n => .free 0 n, fun n => .allGather 0 n] : List (Nat → Instr)).all
      (fun c => (c (2 ^ 32 - 1)).wf && !(c (2 ^ 32)).wf) = true := by decide

/-- An operand below 2 ^ 32 is well formed, and 2 ^ 32 is refused. -/
theorem wf_below_2_pow_32_2 :
    ([fun n => .reduce 0 n, fun n => .reduceCombine 0 n, fun n => .doorbellWrite .debug 0 n,
     fun n => .cqHeadWrite .debug 0 n, fun n => .kernel 0 n, fun n => .copy 0 n, fun n => .copyFill 0 n,
     fun n => .jobBegin 0 n, fun n => .jobEnd 0 n, fun n => .fence 0 n, fun n => .signalSet 0 n,
     fun n => .signalAdd 0 n, fun n => .signalMax 0 n, fun n => .wait 0 n, fun n => .waitReevaluate 0 n,
     fun n => .waitTimeout 0 n, fun n => .timestamp 0 n, fun n => .resultPost 0 n, fun n => .completionRecord 0 n,
     fun n => .epochPublish 0 n] : List (Nat → Instr)).all
      (fun c => (c (2 ^ 32 - 1)).wf && !(c (2 ^ 32)).wf) = true := by decide

/-- An operand below 2 ^ 32 is well formed, and 2 ^ 32 is refused. -/
theorem wf_below_2_pow_32_3 :
    ([fun n => .epochPublishComplete 0 n, fun n => .view 0 0 0 false n 0, fun n => .arrive 0 0 0 false n, .barrierLate] : List (Nat → Instr)).all
      (fun c => (c (2 ^ 32 - 1)).wf && !(c (2 ^ 32)).wf) = true := by decide

/-- An operand below 2 ^ 44 is well formed, and 2 ^ 44 is refused. -/
theorem wf_below_2_pow_44 :
    ([fun n => .registerWrite .debug n (.high 0), fun n => .lowHalfWrite .debug n 0,
     fun n => .illegalRegisterAccess .debug n 0, fun n => .counterClr .debug n,
     fun n => .globalCounterAccess .debug n none, fun n => .coreMemoryAccess 0 n (.read 8),
     fun n => .pcieInboundRequest n (.read 8) false, fun n => .peerInboundRequest 0 n (.read 8) ⟨false, none⟩,
     fun n => .debugSystemBusAccess n (.read 8)] : List (Nat → Instr)).all
      (fun c => (c (2 ^ 44 - 1)).wf && !(c (2 ^ 44)).wf) = true := by decide

/-- An operand below 2 ^ 64 is well formed, and 2 ^ 64 is refused. -/
theorem wf_below_2_pow_64 :
    ([fun n => .tailMirrorWrite .debug 0 n] : List (Nat → Instr)).all
      (fun c => (c (2 ^ 64 - 1)).wf && !(c (2 ^ 64)).wf) = true := by decide

/-- An operand below 2 ^ 320 is well formed, and 2 ^ 320 is refused. -/
theorem wf_below_2_pow_320 :
    ([fun n => .skinkFrame 0 0 0 ⟨n, 0⟩, fun n => .skinkFrame 0 0 0 ⟨0, n⟩] : List (Nat → Instr)).all
      (fun c => (c (2 ^ 320 - 1)).wf && !(c (2 ^ 320)).wf) = true := by decide +kernel

/-- A flip names a word of the SRAM it is in. -/
theorem wf_flips :
    ([(fun n => .entryComplete 0 ⟨0, [{ word := n, double := false }]⟩, 262144),
      (fun n => .setOpChunkBoundary ⟨0, [{ word := n, double := true }]⟩, 1441792)] : List ((Nat → Instr) × Nat)).all
      (fun c => (c.1 (c.2 - 1)).wf && !(c.1 c.2).wf) = true := by decide

/-- An empty memory request, and an atomic of another size, are refused. -/
theorem wf_request :
    ([fun r => .coreMemoryAccess 0 0 r, fun r => .pcieInboundRequest 0 r false,
     fun r => .peerInboundRequest 0 0 r ⟨false, none⟩, fun r => .debugSystemBusAccess 0 r] : List (MemReq → Instr)).all
      (fun c => (c (.read 1)).wf && !(c (.read 0)).wf && !(c (.write [])).wf && (c (.amo .add 8 0)).wf && !(c (.amo .add 2 0)).wf) = true := by decide

/-- A collective's head holds fields of Table 6.8, and a rank of its list of at most 64. -/
theorem wf_collective_head :
    ([({ tag := 0, cop := 0, red := 0, fmt := 5, elems := 4, list := [(0, 0), (1, 0)], rank := 1 }, true),
      ({ tag := 2 ^ 32, cop := 0, red := 0, fmt := 5, elems := 4, list := [(0, 0)], rank := 0 }, false),
      ({ tag := 0, cop := 256, red := 0, fmt := 5, elems := 4, list := [(0, 0)], rank := 0 }, false),
      ({ tag := 0, cop := 0, red := 4, fmt := 5, elems := 4, list := [(0, 0)], rank := 0 }, false),
      ({ tag := 0, cop := 0, red := 0, fmt := 16, elems := 4, list := [(0, 0)], rank := 0 }, false),
      ({ tag := 0, cop := 0, red := 0, fmt := 5, elems := 2 ^ 24, list := [(0, 0)], rank := 0 }, false),
      ({ tag := 0, cop := 0, red := 0, fmt := 5, elems := 4, list := [(256, 0)], rank := 0 }, false),
      ({ tag := 0, cop := 0, red := 0, fmt := 5, elems := 4, list := [(0, 0)], rank := 1 }, false),
      ({ tag := 0, cop := 0, red := 0, fmt := 5, elems := 4, list := List.replicate 65 (0, 0), rank := 0 }, false)] : List (CollHead × Bool)).all
      (fun x => (Instr.peerInboundRequest 0 0 (.read 8) ⟨false, some x.1⟩).wf == x.2) = true := by decide

/-- A flit's header and payload are 244 bytes. -/
theorem wf_flit_length :
    (Instr.deviceLinkFlit 0 (List.replicate 8 0) false (List.replicate 236 0) 0).wf = true
      ∧ (Instr.deviceLinkFlit 0 (List.replicate 7 0) false (List.replicate 236 0) 0).wf = false
      ∧ (Instr.deviceLinkFlit 0 (List.replicate 8 0) false (List.replicate 235 0) 0).wf = false := by decide

/-- A register offset is a multiple of eight. -/
theorem wf_register_offset :
    ([fun n => .ctxConfigWrite .debug 0 n 0, fun n => .qosConfigWrite .debug n 0, fun n => .siConfigWrite .debug 0 n 0] : List (Nat → Instr)).all
      (fun c => (c 8).wf && !(c 12).wf) = true := by decide

/-- A requester that is no unit of the part is refused. -/
theorem wf_waiting :
    ([fun r => .peerResponseTimeout r 0, .pcieCompletionTimeout] : List (PeerReq → Instr)).all
      (fun c => !(c (.tile 128 0)).wf && !(c (.tile 0 (2 ^ 44))).wf && !(c (.engine 176 0 0)).wf && !(c (.engine 0 64 0)).wf && !(c (.engine 0 0 (2 ^ 32))).wf && !(c (.hart 16)).wf && (c (.engine 175 63 0)).wf) = true := by decide

/-- A requester the part lacks is refused. -/
theorem wf_requester_1 :
    ([fun p => .registerWrite p 0 (.high 0), fun p => .lowHalfWrite p 0 0, fun p => .illegalRegisterAccess p 0 0,
     fun p => .counterClr p 0, fun p => .globalCounterAccess p 0 none, fun p => .doorbellWrite p 0 0,
     fun p => .cqHeadWrite p 0 0, fun p => .tailMirrorWrite p 0 0, fun p => .ctxEnable p 0, fun p => .ctxDisable p 0,
     fun p => .ctxConfigWrite p 0 0 0, fun p => .slotCfgWrite p 0 0, fun p => .shEnable p 0, fun p => .shDisable p 0,
     fun p => .shFreeBeforeWrite p 0, fun p => .planEnable p 0, fun p => .planDisable p 0, fun p => .mcReinit p 0,
     fun p => .delayCommit p 0 0, .cleanAll] : List (Port → Instr)).all
      (fun c => (c (.hart 15)).wf && (c (.island 1)).wf && !(c (.hart 16)).wf && !(c (.user 16)).wf && !(c (.peer 16)).wf && !(c (.island 2)).wf) = true := by decide

/-- A requester the part lacks is refused. -/
theorem wf_requester_2 :
    ([.cleanInvAll, fun p => .qosConfigWrite p 0 0, fun p => .quar p 0, fun p => .rejoin p 0,
     fun p => .dlCfgWrite p 0 0, .chEnable, .chDisable, fun p => .siRestart p 0, fun p => .siConfigWrite p 0 0 0,
     fun p => .retest p 0, .testEnable, .testDisable, fun p => .powerRequestRetain p none,
     fun p => .powerRequestBrumation p none, fun p => .powerRequestOff p none, .forcedOff,
     fun p => .dieRetainEntry p 0, fun p => .dieRetainExit p 0, fun p => .pmClkWrite p 0, .clampClr] : List (Port → Instr)).all
      (fun c => (c (.hart 15)).wf && (c (.island 1)).wf && !(c (.hart 16)).wf && !(c (.user 16)).wf && !(c (.peer 16)).wf && !(c (.island 2)).wf) = true := by decide

/-- A requester the part lacks is refused. -/
theorem wf_requester_3 :
    ([.wearLock, fun p => .jnAppend p 0 0 0, .jnOffline, .jnOnline, fun p => .fuseAdvanceSvn p 0,
     fun p => .fuseRevokeKey p 0, fun p => .xspiRead p 0 0, fun p => .xspiProgram p 0 0, fun p => .xspiErase p 0,
     .trTrig, .trArm, .trStop, fun p => .trDump p 0, fun p => .authChal p 0, .authVerify, .authLock,
     fun p => .debugModuleAccess (some p) 0 0 none, fun p => .ioTimeSetWrite p 0] : List (Port → Instr)).all
      (fun c => (c (.hart 15)).wf && (c (.island 1)).wf && !(c (.hart 16)).wf && !(c (.user 16)).wf && !(c (.peer 16)).wf && !(c (.island 2)).wf) = true := by decide

/-! ## Hypotheses of the statements about every command -/

/-- Hypotheses of `Obligations.StepsKeepTheCanonicalForm`, and the premise of `Obligations.AnIdleStepIsOneClockEdge`. -/
theorem witness_StepsKeepTheCanonicalForm :
    Canonical State.reset ∧ QueueWf State.reset ∧ State.reset.pending = [] ∧ ∃ t, step State.reset = .next t :=
  ⟨⟨rfl, rfl⟩, (fun _ h => by cases h), rfl, _, rfl⟩
/-- Premises of `Obligations.OnlyNamedCommandsReachFusesFlashAndMemory` and of `Obligations.IslandsAreApartFromTheRest`: commands
that each list leaves out, and one that it names. -/
theorem witness_CommandsThatReachNothing :
    mayChangeFuses (.load 0) = false ∧ mayChangeAlwaysOn (.load 0) = false ∧ mayChangeFlash (.load 0) = false
    ∧ mayChangeMemory (.timeMessage 0) = false ∧ mayChangeIslands (.load 0) = false ∧ islandCommand (.eftRun 0) = true := by decide

/-! ## The spec's worked examples -/

/-- Example after Table 0.4 of the scope: where tile 77, die CD2, context 37's doorbell and part 5 stand. -/
theorem test_addresses :
    U.zone 0x1109A00000 = .tileSram 77 0 ∧ U.zone 0x1004000000 = .dieMem 2
    ∧ U.zone 0x1800025000 = .doorbell ∧ U.zone 0x15000000000 = .peer 5 0 := by decide +kernel
/-- Example of chapter 2: the E4M3 dot product 448·448 + 2^−9·2^−9 − 448·448 keeps the small term. -/
theorem test_exact_dot :
    (exactDot ([0x7E, 0x01, 0x7E].map (elemVal .e4m3)) ([0x7E, 0x01, 0xFE].map (elemVal .e4m3))).acc = 2 ^ 14
    ∧ (convertVal .bf16 false (exactDot ([0x7E, 0x01, 0x7E].map (elemVal .e4m3)) ([0x7E, 0x01, 0xFE].map (elemVal .e4m3))).value).bits
        = 0x3680 := by decide +kernel
/-- Example of chapter 2: three MXFP4 blocks in the fixed order. -/
theorem test_ordered_blocks :
    orderedAcc 0 [scaledBlock 0x89 0x89 [elemVal .mxfp4 6] [elemVal .mxfp4 6], scaledBlock 0x7F 0x7F [elemVal .mxfp4 2] [elemVal .mxfp4 2],
      scaledBlock 0x7F 0x7F [elemVal .mxfp4 2] [elemVal .mxfp4 2]] = 0x4B800000 := by decide +kernel
/-- Example of chapter 3: ARGMAX with a tie and with NaNs. -/
theorem test_argmax :
    [[0x3E00, 0x4000, 0x4000, 0xBC00], [0x7E00, 0xC200, 0x7E00, 0xC700], [0x7E00, 0x7E00, 0x7E00, 0x7E00]].map (fun l =>
      (l.zipIdx.foldl (fun b p => argBest b p.2 (elemVal .fp16 p.1) p.1) none).map (·.2))
      = [some (1, 0x4000), some (1, 0xC200), none] := by decide +kernel
/-- The window of the CONV example of chapter 4. -/
def wConvEx : Nat :=
  fields [(0, 40), (16, 40), (32, 32), (48, 20), (64, 20), (80, 3), (96, 3), (112, 1), (128, 1), (144, 1), (160, 1), (208, 2), (224, 1),
    (240, 2), (256, 1)]
/-- Table 4.4: the element each tap of a dilated, strided convolution reads. -/
theorem test_conv_taps :
    [(0, 0, 0), (0, 1, 2), (0, 2, 2), (21, 0, 0), (21, 0, 1), (21, 1, 2), (21, 2, 2), (39, 0, 0), (39, 1, 2)].map
      (fun x => tapElem wConvEx x.1 x.2.1 x.2.2)
      = [none, some 2, some (49682 - 31 * 1600), some 0, some 2, some 84, some (49764 - 31 * 1600), some 36, none] := by
  decide +kernel
/-- The window of the warp example of chapter 4, and its slice. -/
def wWarp : ConvForm :=
  { mode := 4, w := fields [(0, 64), (16, 400), (48, 400), (64, 400), (320, 32)], xf := .fp16, wf := .fp16, drn := .fp16, st := .fp32
    xoff := 0, xp := 51200, woff := 0x100000, wp := 256, p0 := 14864, npos := 64, nco := 16 }
def wWarpSt : State :=
  sram (sram (sram (sram U (2 * (5 * 400 + 102)) (leBytes 4 0x40003C00)) (2 * (6 * 400 + 102)) (leBytes 4 0x45004200))
    (0x100000 + 4 * 36) (leBytes 4 0x42CD0000)) (0x100000 + 256 + 4 * 36) (leBytes 4 0x42160000)
/-- Table 4.5: the state grid warped at ox = 100, oy = 37. -/
theorem test_warp : (wWarpSt.gridVal 5 wWarp false 0 14900).bits = 0x4180 := by decide +kernel
/-- The voxels of Table 5.8, by their keys. -/
def wVoxels : List Nat := [voxel 0 5 5 5, voxel 0 5 5 6, voxel 0 5 6 5, voxel 0 6 5 5, voxel 0 7 7 7]
/-- The pairs of an offset (dz, dy, dx). -/
def wPairs (dz dy dx : Nat) : List (Nat × Nat) :=
  offsetPairs (fun k => (wVoxels.zipIdx.find? (fun p => p.1 == k)).map (·.2)) 1 1 1 wVoxels (dx + dy * 256 + dz * 65536)
/-- Table 5.8: the rulebook of a submanifold convolution. -/
theorem test_rulebook :
    voxel 0 5 5 5 = 0x500050005 ∧ wPairs 255 0 0 = [(0, 3)] ∧ wPairs 255 0 1 = [(1, 3)] ∧ wPairs 0 0 255 = [(0, 1)]
    ∧ wPairs 0 0 0 = [(0, 0), (1, 1), (2, 2), (3, 3), (4, 4)] ∧ wPairs 0 1 255 = [(2, 1)] := by decide +kernel
/-- The sequence of Table 6.4, with its page list at 0x10000. -/
def wLatent : Seq := { at' := 0x8000, raw := fields [(80, 448), (256, 0x10000), (320, 0x240000000), (384, 0x4000)] }
def wPages : State := put (rgn U 3) (0x10000 + 4 * 27) (leBytes 4 7 ++ leBytes 4 0x1A2F ++ leBytes 4 0x2B10)
/-- Table 6.4: the rows of positions 1,000, 1,008 and 1,044. -/
theorem test_page_walk :
    wLatent.rpp = 36 ∧ ([1000, 1008, 1044].map (fun r => (wLatent.row wPages 3 r).toOption))
      = [some (0x24001C000 + 1000 % 36 * 448), some 0x2468BC000, some 0x24AC40000] := by decide +kernel
/-- The sequence and slots of Table 6.6. -/
def wScored : Seq := { at' := 0, raw := fields [(96, 3), (112, 1), (128, 8), (416, 0x3F800000)] }
def wSlots : List Slot :=
  [(3, 0x3F600000), (11, 0x3E800000), (14, 0x3EC00000), (15, 0x3E800000), (16, 0x3F900000), (17, 0x3EA00000), (18, 0x3D800000), (19, 0),
    (kvEmpty, 0)]
/-- Table 6.6: the append of position 20 evicts position 11 and takes slot 8; the next one finds no slot. -/
theorem test_score_append :
    let m := accumulate wScored wSlots [0x3E000000, 0x3D800000, 0, 0x3D800000, 0x3E400000, 0, 0x3E800000, 0x3EA00000]
    m.map (·.2) = [0x3F800000, 0x3EA00000, 0x3EC00000, 0x3EA00000, 0x3FA80000, 0x3EA00000, 0x3EA00000, 0x3EA00000, 0]
    ∧ ((KvPlan.placeN wScored wSlots wSlots 1 { slots := m, length := 20 }).toOption.map (fun p => (p.slots.map (·.1), p.length, p.live)))
        = some ([3, kvEmpty, 14, 15, 16, 17, 18, 19, 20], 21, 8)
    ∧ (KvPlan.placeN wScored wSlots wSlots 2 { slots := m, length := 20 }).toOption = none := by decide +kernel
/-- The rings of the first example of chapter 7. -/
def wRing : State :=
  sets (ctxOn U 37) [(rHUB_CTX_SQ 37, fHUB_CTX_SQ_LOG2, 8), (rHUB_CTX_CQ 37, fHUB_CTX_CQ_LOG2, 7),
    (rHUB_CTX_PTRS 37, fHUB_CTX_PTRS_SQ_HEAD, 290), (rDB_SQ_TAIL 37, fDB_SQ_TAIL_COUNT, 290)]
/-- The tail after a doorbell write. -/
def wTailOf (v : Nat) : Option Nat :=
  match exec (.doorbellWrite hart 37 v) wRing with
  | .next t => some (t.sqTail 37)
  | _ => none
/-- First example of chapter 7: a tail of 300 is taken, and a stray 560 is ignored. -/
theorem test_doorbell :
    wTailOf 300 = some 300 ∧ wTailOf 560 = some 290 ∧ phaseOf 200 128 = 0 ∧ phaseOf 255 128 = 0 ∧ phaseOf 256 128 = 1 := by decide +kernel
/-- Second example of chapter 9: a yaw of 0.4° against the identity passes STEP, and against a factory yaw of −1.7° it fails TOTAL. -/
theorem test_calibration_limits :
    let q := fields [(0, 0x3F7FFF9A), (96, 0x3B64C43A)]
    rotWithin 0x3F800000 q 500 = true ∧ rotWithin (fields [(0, 0x3F7FF8CA), (96, 0xBC730D78)]) q 2000 = false
    ∧ rotWithin (fields [(0, 0x3F7FF8CA), (96, 0xBC730D78)]) q 2200 = true := by decide +kernel
/-- First example of chapter 11: pseudo-channel, bank and row of 0x002_468B_CCA5. -/
theorem test_hbm_place :
    pcOf 0x2468BCCA5 = 24 ∧ bankOf (0x2468BCCA5 / 128) = 3 * 4 + 3 ∧ rowOf (0x2468BCCA5 / 128) = 0x2468 := by decide +kernel
/-- Example of chapter 13: the agreed maps of bundle 7 of direction AB and of bundle 3 of direction BA. -/
theorem test_lane_maps :
    let a := skAllGood 1 - (2 ^ 20 + 2 ^ 33 + 2 ^ 34 + 2 ^ 35 + 2 ^ 51 + 2 ^ 60)
    let b := skAllGood 1 - 2 ^ 12
    skWidth 1 a true = 1 ∧ skWireOf 1 a 19 = some 19 ∧ skWireOf 1 a 20 = some 21 ∧ skWireOf 1 a 31 = some 32
    ∧ skWidth 1 b true = 2 ∧ skWireOf 1 b 11 = some 11 ∧ skWireOf 1 b 12 = some 13 ∧ skWireOf 1 b 63 = some 64 := by decide +kernel
/-- Check value of CRC-32C over the nine digits. -/
theorem test_crc32c : crc32c ((List.range 9).map (fun i => BitVec.ofNat 8 (0x31 + i))) = 0xE3069283 := by decide +kernel

end Sys2Proof.Tests
end

/-!
Proofs for the tensor tiles, part 1: what the tables of the state read after an update. The tables of tiles, contexts and
dies, the kernels' accounts, and the registers a command may write.
-/
section
namespace Sys2Proof.Machine

/-! ## Lists under an update at an index -/

@[simp] theorem length_setAt {α : Type} (l : List α) (n : Nat) (x : α) : (setAt l n x).length = l.length := by
  induction l generalizing n with
  | nil => rfl
  | cons y r ih => cases n <;> simp [setAt, ih]

@[simp] theorem length_modAt {α : Type} (l : List α) (i : Nat) (f : α → α) : (modAt l i f).length = l.length := by
  unfold modAt
  split <;> simp

theorem getElem?_setAt {α : Type} (l : List α) (n k : Nat) (x : α) :
    (setAt l n x)[k]? = if n = k ∧ n < l.length then some x else l[k]? := by
  induction l generalizing n k with
  | nil => simp [setAt]
  | cons y r ih => cases n <;> cases k <;> simp [setAt, ih]

theorem getElem?_modAt {α : Type} (l : List α) (i k : Nat) (f : α → α) :
    (modAt l i f)[k]? = if i = k then l[k]?.map f else l[k]? := by
  by_cases h : i < l.length
  · simp only [modAt, List.getElem?_eq_getElem h, getElem?_setAt, h, and_true]
    split
    · next e => subst e; simp [h]
    · rfl
  · simp only [modAt, List.getElem?_eq_none (Nat.le_of_not_lt h)]
    split
    · next e => subst e; simp [Nat.le_of_not_lt h]
    · rfl

theorem getElem?_modAt_getD {α : Type} {l : List α} {i : Nat} (h : i < l.length) (f : α → α) (d : α) :
    (modAt l i f)[i]?.getD d = f (l[i]?.getD d) := by
  rw [getElem?_modAt, if_pos rfl, List.getElem?_eq_getElem h]; rfl

/-! ## Tiles, contexts and dies -/

/-- A tile's record follows the table of tiles alone. -/
theorem State.tile_congr {s u : State} (h : u.tiles = s.tiles) (v : Nat) : u.tile v = s.tile v := by
  simp only [State.tile, h]

theorem State.tile_modTile_same {s : State} {t : Nat} (ht : t < s.tiles.length) (f : Tile → Tile) :
    (s.modTile t f).tile t = f (s.tile t) := by
  rw [State.tile, State.modTile_tiles, getElem?_modAt_getD ht]; rfl

theorem State.tile_modTile_other {s : State} {t v : Nat} (h : v ≠ t) (f : Tile → Tile) : (s.modTile t f).tile v = s.tile v := by
  simp [State.tile, getElem?_modAt, h.symm]

theorem State.ctx_modCtx_same {s : State} {c : Nat} (hc : c < s.hub.ctxs.length) (f : Ctx → Ctx) :
    (s.modCtx c f).ctx c = f (s.ctx c) := by
  rw [State.ctx, State.modCtx, State.modHub_hub, getElem?_modAt_getD hc]; rfl

theorem State.die_modDie_same {s : State} {d : Nat} (hd : d < s.hub.dies.length) (f : Die → Die) :
    (s.modDie d f).die d = f (s.die d) := by
  rw [State.die, State.modDie, State.modHub_hub, getElem?_modAt_getD hd]; rfl

theorem State.die_congr {s u : State} (h : u.hub.dies = s.hub.dies) (d : Nat) : u.die d = s.die d := by
  simp only [State.die, h]

/-! ## Kernels -/

/-- A kernel's account follows the list of accounts alone. -/
theorem State.kernel_congr {s u : State} (h : u.hub.kernels = s.hub.kernels) (c n : Nat) : u.kernel c n = s.kernel c n := by
  simp only [State.kernel, h]

/-- A change of a kernel that keeps its context and number is what its account then reads. -/
theorem State.kernel_modKernel {s : State} {c n : Nat} {f : Kernel → Kernel}
    (hf : ∀ k, (f k).ctx = k.ctx ∧ (f k).num = k.num) : (s.modKernel c n f).kernel c n = (s.kernel c n).map f := by
  simp only [State.kernel, State.modKernel, State.modHub_hub]
  induction s.hub.kernels with
  | nil => rfl
  | cons k r ih =>
    by_cases h : k.ctx = c ∧ k.num = n
    · simp [h, hf]
    · have h' : (k.ctx == c && k.num == n) = false := by simpa using h
      simp [h, h', ih]

theorem State.kernel_dropKernel (s : State) (c n : Nat) : (s.dropKernel c n).kernel c n = none := by
  simp only [State.kernel, State.dropKernel, State.modHub_hub, List.find?_eq_none]
  intro k hk
  simpa only [Bool.not_eq_eq_eq_not, Bool.not_true, Bool.not_eq_true] using (List.mem_filter.1 hk).2

/-! ## Parts of the state that a named operation leaves alone -/

theorem State.wf_tiles (s : State) (a : Addr) (f : Fld) (v : Nat) : (s.wf a f v).tiles = s.tiles := rfl

theorem State.bump_tiles (s : State) (a : Addr) (f : Fld) (n : Nat) : (s.bump a f n).tiles = s.tiles := rfl

theorem State.setTileState_tiles (s : State) (t v : Nat) : (s.setTileState t v).tiles = s.tiles := rfl

theorem State.leaveTile_tiles (s : State) (t : Nat) : (s.leaveTile t).tiles = s.tiles := rfl

theorem State.leaveTile_dies (s : State) (t : Nat) : (s.leaveTile t).hub.dies = s.hub.dies := rfl

theorem State.raiseDone_tiles (s : State) (e : Nat) : (s.raiseDone e).tiles = s.tiles := rfl

theorem State.raiseDone_mem (s : State) (e : Nat) : (s.raiseDone e).mem = s.mem := rfl

theorem State.raiseDone_regs (s : State) (e : Nat) : (s.raiseDone e).regs = s.regs := rfl

theorem State.raiseDone_kernels (s : State) (e : Nat) : (s.raiseDone e).hub.kernels = s.hub.kernels := rfl

theorem State.raiseDone_ctxs (s : State) (e : Nat) : (s.raiseDone e).hub.ctxs = s.hub.ctxs := rfl

theorem State.tile_setEntry_same {s : State} {t : Nat} (ht : t < s.tiles.length) (i : Nat) :
    (s.setEntry t i).tile t = { s.tile t with entry := i } :=
  (State.tile_congr (State.wf_tiles _ _ _ _) t).trans (State.tile_modTile_same ht _)

theorem State.tile_setEntry_other {s : State} {t v : Nat} (h : v ≠ t) (i : Nat) : (s.setEntry t i).tile v = s.tile v :=
  (State.tile_congr (State.wf_tiles _ _ _ _) v).trans (State.tile_modTile_other h _)

/-! ## Registers of a tile -/

theorem rTILE_STATUS_window {t : Nat} (ht : t < 128) : rTILE_STATUS t / 0x10000 ≠ 0x140138 := by
  show (0x1400000000 + t * 0x10000 : Nat) / 0x10000 ≠ 0x140138
  omega

theorem rTILE_STATUS_inj {t v : Nat} (h : rTILE_STATUS t = rTILE_STATUS v) : t = v := by
  have h' : (0x1400000000 + t * 0x10000 : Nat) = 0x1400000000 + v * 0x10000 := h
  omega

theorem rTILE_STATUS_ne_rHUB_CTX_LOST_SUM (t c : Nat) : rTILE_STATUS t ≠ rHUB_CTX_LOST_SUM c := by
  show (0x1400000000 + t * 0x10000 : Nat) ≠ 0x1402000218 + c * 0x10000
  omega

theorem State.reg_congr {s u : State} (h : u.regs = s.regs) (a : Addr) : u.reg a = s.reg a := by
  simp only [State.reg, h]

theorem State.rf_congr {s u : State} {a : Addr} (h : u.reg a = s.reg a) (f : Fld) : u.rf a f = s.rf a f := by
  simp only [State.rf, h]

theorem State.tileState_congr {s u : State} {t : Nat} (h : u.reg (rTILE_STATUS t) = s.reg (rTILE_STATUS t)) :
    u.tileState t = s.tileState t := State.rf_congr h _

theorem State.tileCtx_congr {s u : State} {t : Nat} (h : u.reg (rTILE_STATUS t) = s.reg (rTILE_STATUS t)) :
    u.tileCtx t = s.tileCtx t := State.rf_congr h _

theorem State.tileState_setTileState (s : State) (t v : Nat) : (s.setTileState t v).tileState t = v % 16 :=
  State.rf_wf_same (by decide) v

theorem State.tileState_setTileState_other {s : State} {t v : Nat} (h : t ≠ v) (x : Nat) :
    (s.setTileState v x).tileState t = s.tileState t :=
  State.rf_wf_other (fun e => h (rTILE_STATUS_inj e)) x

theorem State.tileState_setEntry (s : State) (t i : Nat) : (s.setEntry t i).tileState t = s.tileState t :=
  State.rf_wf_apart (by decide) (by decide) (by decide) i

theorem State.tileCtx_setEntry (s : State) (t i : Nat) : (s.setEntry t i).tileCtx t = s.tileCtx t :=
  State.rf_wf_apart (by decide) (by decide) (by decide) i

/-- A counter that stops at its largest value reads one step further. -/
theorem State.rf_bump {s : State} {a : Addr} {f : Fld} (hf : f.ok = true) (n : Nat) :
    (s.bump a f n).rf a f = min (2 ^ f.width - 1) (s.rf a f + n) := by
  rw [State.bump, State.rf_wf_same hf, Nat.mod_eq_of_lt]
  have := Nat.two_pow_pos f.width
  omega

/-! ## The registers a command may write -/

theorem RegsTraced.refl (s : State) (l : List Addr) : RegsTraced s s l := fun _ _ _ => rfl

theorem RegsTraced.of_regs {r s t : State} {l : List Addr} (h : RegsTraced r s l) (e : t.regs = s.regs) : RegsTraced r t l :=
  fun a ha hl => by rw [← h a ha hl]; simp only [State.reg, e]

theorem RegsTraced.traceOnly {r s t : State} {l : List Addr} (h : RegsTraced r s l) (k : TraceOnly s t) : RegsTraced r t l :=
  fun a ha hl => (k a ha).trans (h a ha hl)

theorem RegsTraced.wf {r s : State} {l : List Addr} {b : Addr} {f : Fld} {v : Nat} (h : RegsTraced r s l) (hb : b ∈ l) :
    RegsTraced r (s.wf b f v) l := fun a ha hl => by
  rw [State.wf, State.reg_setReg_other _ _ (by rintro rfl; exact hl hb)]; exact h a ha hl

theorem RegsTraced.mono {s t : State} {l m : List Addr} (h : RegsTraced s t l) (hlm : l ⊆ m) : RegsTraced s t m :=
  fun a ha hm => h a ha (fun hl => hm (hlm hl))

theorem RegsTraced.trans {r s t : State} {l m : List Addr} (h : RegsTraced r s l) (k : RegsTraced s t m) (hm : m ⊆ l) :
    RegsTraced r t l :=
  fun a ha hl => (k.mono hm a ha hl).trans (h a ha hl)

theorem RegsTraced.leaveTile {r s : State} {l : List Addr} {t : Nat} (h : RegsTraced r s l) (hm : rTILE_STATUS t ∈ l) :
    RegsTraced r (s.leaveTile t) l :=
  RegsTraced.wf (h.of_regs rfl) hm

theorem RegsTraced.setEntry {r s : State} {l : List Addr} {t : Nat} (h : RegsTraced r s l) (hm : rTILE_STATUS t ∈ l) (i : Nat) :
    RegsTraced r (s.setEntry t i) l :=
  RegsTraced.wf (h.of_regs rfl) hm

/-- A register that the command may not write reads as before. -/
theorem RegsTraced.reg_eq {s u : State} {l : List Addr} {a : Addr} (h : RegsTraced s u l) (ha : a / 0x10000 ≠ 0x140138)
    (hl : a ∉ l) : u.reg a = s.reg a := h a ha hl

/-! ## What tracing changes -/

/-- `u` is `s` but for tracing: the trace window and the trace itself, the clock gates of R376 and the counter of free values. -/
structure Traced (s u : State) : Prop where
  parts : Within 8913153 s u
  regs  : TraceOnly s u

namespace Traced

theorem refl (s : State) : Traced s s := ⟨.refl _ s, .refl s⟩

theorem mem {s u : State} (h : Traced s u) : u.mem = s.mem := h.parts.mem rfl

theorem tiles {s u : State} (h : Traced s u) : u.tiles = s.tiles := h.parts.tiles rfl

theorem hub {s u : State} (h : Traced s u) : u.hub = s.hub := h.parts.hub rfl

theorem tile {s u : State} (h : Traced s u) (v : Nat) : u.tile v = s.tile v := State.tile_congr h.tiles v

theorem kernel {s u : State} (h : Traced s u) (c n : Nat) : u.kernel c n = s.kernel c n :=
  State.kernel_congr (by rw [h.hub]) c n

theorem desc {s u : State} (h : Traced s u) (c n : Nat) : u.desc c n = s.desc c n := by
  simp only [State.desc, State.ctx, h.hub]

theorem tileState {s u : State} {t : Nat} (h : Traced s u) (ht : t < 128) : u.tileState t = s.tileState t :=
  State.tileState_congr (h.regs _ (rTILE_STATUS_window ht))

theorem tileCtx {s u : State} {t : Nat} (h : Traced s u) (ht : t < 128) : u.tileCtx t = s.tileCtx t :=
  State.tileCtx_congr (h.regs _ (rTILE_STATUS_window ht))

theorem fabCycle {s u : State} (h : Traced s u) : u.fabCycle = s.fabCycle := by
  simp only [State.fabCycle, h.parts.time rfl, h.parts.ms rfl]

end Traced

theorem State.traceEvent_traced {r s : State} (h : Traced r s) (e ev : Nat) (c : TraceCmd) : Traced r (s.traceEvent e ev c) :=
  ⟨State.traceEvent_frame rfl h.parts, State.traceEvent_regs h.regs⟩

theorem State.traceEvent_if_traced (s : State) (p : Prop) [Decidable p] (e ev : Nat) (c : TraceCmd) :
    Traced s (if p then s.traceEvent e ev c else s) := by
  split
  · exact State.traceEvent_traced (.refl s) ..
  · exact .refl s

theorem State.markDone_traced (s : State) (t : Nat) (mark : Bool) (idx : Nat) : Traced s (s.markDone t mark idx) :=
  State.traceEvent_if_traced ..

/-- The bytes of a unit's command are counted in the trace window (R434). -/
theorem State.moved_traced {r s : State} (h : Traced r s) {e : Nat} (he : e < 204) (n : Nat) : Traced r (s.moved e n) :=
  ⟨State.moved_frame rfl h.parts, .wf (.of_regs h.regs rfl) (engReg_window (b := 16) (by decide) he)⟩

end Sys2Proof.Machine
end

/-!
Proofs for the tensor tiles, part 2: how a slice leaves its tile. The fault of a kernel, the completion flag of a unit, and
the end of a descriptor.
-/
section
namespace Sys2Proof.Machine

/-! ## The fault of a kernel (R64, R180) -/

theorem State.finish_regs (s : State) (c n st detail : Nat) : TraceOnly s (s.finish c n st detail) := by
  unfold State.finish
  dsimp only
  split
  · exact .refl s
  · refine TraceOnly.trans ?_ (State.traceEvent_if_traced ..).regs
    split
    · exact TraceOnly.ite (.of_regs (.refl s) rfl) (.of_regs (.refl s) rfl)
    · exact .of_regs (.refl s) rfl

theorem State.finish_tile (s : State) (c n st detail v : Nat) : (s.finish c n st detail).tile v = s.tile v :=
  State.tile_congr ((State.finish_frame (F := 8913185) rfl (.refl _ s)).tiles rfl) v

theorem State.tileState_stopTile {s : State} {t v : Nat} (ht : t < 128) (st : Nat) :
    (s.stopTile v st).tileState t = if t = v then tsFAULT else s.tileState t := by
  have trace := (State.traceEvent_traced (.refl s) v evABORT (s.sliceCmd v st)).tileState ht
  unfold State.stopTile
  dsimp only
  split
  · next h => subst h; exact State.tileState_setTileState ..
  · next h => exact (State.tileState_setTileState_other h _).trans trace

/-- Of the tiles that stop, each is in FAULT afterwards. -/
theorem State.tileState_stopTiles {t : Nat} (ht : t < 128) (st : Nat) (l : List Nat) :
    ∀ {s : State}, (t ∈ l ∨ s.tileState t = tsFAULT) → (l.foldl (fun x v => x.stopTile v st) s).tileState t = tsFAULT := by
  induction l with
  | nil => intro s h; simpa using h
  | cons v l ih =>
    intro s h
    refine ih ?_
    rw [State.tileState_stopTile ht]
    by_cases hv : t = v
    · simp [hv]
    · simpa [hv] using h

theorem State.mem_kernelTiles {s : State} {t : Nat} (ht : t < 128) (h : slicePresent (s.tileState t) = true) :
    t ∈ s.kernelTiles (s.tileCtx t) (s.tile t).knum := by
  simp [State.kernelTiles, State.onKernel, ht, h]

theorem State.tileState_stopKernel {s : State} {t c n : Nat} (ht : t < 128) (h : t ∈ s.kernelTiles c n) (st : Nat) :
    (s.stopKernel c n st).tileState t = tsFAULT := by
  unfold State.stopKernel
  dsimp only
  refine Eq.trans (State.tileState_congr ?_) (State.tileState_stopTiles (s := s) ht st _ (.inl h))
  exact State.reg_setReg_other _ _ (rTILE_STATUS_ne_rHUB_CTX_LOST_SUM t c)

theorem State.kernel_stopKernel (s : State) (c n st : Nat) : (s.stopKernel c n st).kernel c n = none := by
  unfold State.stopKernel
  exact (State.kernel_congr rfl c n).trans (State.kernel_dropKernel _ c n)

/-- A slice's fault ends its kernel: its tile stops, the kernel's account goes, and memory stays. -/
theorem State.tileFault_ends {s : State} {t : Nat} (ht : t < 128) (h : slicePresent (s.tileState t) = true) (st a : Nat) :
    (s.tileFault t st a).tileState t = tsFAULT ∧ (s.tileFault t st a).kernel (s.tileCtx t) (s.tile t).knum = none
      ∧ (s.tileFault t st a).mem = s.mem := by
  refine ⟨?_, State.kernel_stopKernel .., (State.tileFault_frame (F := 8913201) rfl (.refl _ s)).mem rfl⟩
  unfold State.tileFault
  dsimp only
  generalize AccErr.detail _ _ = detail
  have kept := State.finish_regs s (s.tileCtx t) (s.tile t).knum st detail _ (rTILE_STATUS_window ht)
  refine State.tileState_stopKernel ht ?_ st
  have present := State.mem_kernelTiles (s := s.finish (s.tileCtx t) (s.tile t).knum st detail) ht
    ((State.tileState_congr kept).symm ▸ h)
  rwa [State.tileCtx_congr kept, State.finish_tile] at present

/-! ## The completion flag (R198) -/

theorem Die.upTo_cyc_ge (d : Die) (now : Nat) : now ≤ (d.upTo now).1.cyc := Nat.le_max_right _ _

/-- Pointers that stand at the present cycle retire nothing. -/
theorem Die.upTo_flags {d : Die} {now : Nat} (h : now ≤ d.cyc) : (d.upTo now).1.flags = d.flags := by
  simp [Die.upTo, Nat.sub_eq_zero_of_le h, Die.pass]

theorem State.doneRaised_congr {s u : State} (hd : u.hub.dies = s.hub.dies) (hc : u.fabCycle = s.fabCycle) (e : Nat) :
    u.doneRaised e = s.doneRaised e := by
  simp only [State.doneRaised, State.die_congr hd, hc]

/-- A raised completion flag is seen at once. -/
theorem State.doneRaised_raiseDone {s : State} {e : Nat} (hd : dieOfEngine e < s.hub.dies.length) :
    (s.raiseDone e).doneRaised e = true := by
  have die : (s.catchUp (dieOfEngine e)).die (dieOfEngine e) = ((s.die (dieOfEngine e)).upTo s.fabCycle).1 :=
    (State.die_congr rfl _).trans (State.die_modDie_same hd _)
  have len : dieOfEngine e < (s.catchUp (dieOfEngine e)).hub.dies.length := by
    simpa [State.catchUp, State.merge, State.modDie] using hd
  have raised := State.die_modDie_same len (fun d => { d with flags := setIns d.flags (vecPos e) })
  have now : s.fabCycle ≤ ((s.raiseDone e).die (dieOfEngine e)).cyc := by
    rw [State.raiseDone, raised, die]; exact Die.upTo_cyc_ge _ _
  have cyc : (s.raiseDone e).fabCycle = s.fabCycle := rfl
  rw [State.doneRaised, cyc, Die.upTo_flags now, State.raiseDone, raised]
  simp [mem_setIns]

/-! ## The end of a descriptor (R160) -/

theorem State.desc_modDesc {s : State} {c n : Nat} {d : Desc} {f : Desc → Desc} (h : s.desc c n = some d)
    (hf : ∀ x, (f x).num = x.num) : (s.modDesc c n f).desc c n = some (f d) := by
  have hc : c < s.hub.ctxs.length := by
    by_contra hn
    simp [State.desc, State.ctx, List.getElem?_eq_none (Nat.le_of_not_lt hn)] at h
  rw [State.desc, State.modDesc, State.ctx_modCtx_same hc]
  rw [State.desc] at h
  revert h
  induction (s.ctx c).window with
  | nil => simp
  | cons x r ih =>
    by_cases hx : x.num = n
    · simp [hx, hf]
      rintro rfl; rfl
    · simpa [hx] using ih

/-- A descriptor that ends OK: its phase and status are set, and no job takes a cause from it. -/
theorem State.finish_ok {s : State} {c n detail : Nat} {d : Desc} (h : s.desc c n = some d) :
    Traced (s.modDesc c n (fun d => { d with phase := .finished, status := stOK, detail := detail }))
      (s.finish c n stOK detail) := by
  have noCause : aborts stOK = false := by decide
  unfold State.finish
  simp only [h, noCause, Bool.false_eq_true, if_false]
  cases d.inJob <;> exact State.traceEvent_if_traced ..

end Sys2Proof.Machine
end

/-!
Proofs for the tensor tiles, part 3: images load, entries complete and slices end (R57, R58, R62 to R64, R180, R198).
-/
section
namespace Sys2Proof.Machine

/-! ## What each command of this part means -/

theorem exec_imageLoadComplete (t : Nat) (s : State) : exec (.imageLoadComplete t) s = execImageLoadComplete t s := rfl

theorem exec_entryComplete (t : Nat) (fin : EntryEnd) (s : State) : exec (.entryComplete t fin) s = execEntryComplete t fin s := rfl

theorem exec_sliceComplete (t : Nat) (s : State) : exec (.sliceComplete t) s = execSliceComplete t s := rfl

/-! ## Images -/

/-- The state in which a checked image is loaded: the slice runs, or restores its saved state first. -/
def State.imageLoaded (s : State) (t : Nat) (im : Image) : State :=
  ((s.modTile t (fun x => { x with image := some im })).moved t
    (64 + 32 * im.ops.length + 64 * im.wins.length + 1024 * im.tabs.length)).setTileState t
    (if (s.tile t).resuming then tsLEAP_RESTORE else tsRUN)

section
variable {s : State} {t : Nat} {k : Kernel}

theorem exec_imageLoadComplete_ok {im : Image} (hs : s.tileState t = tsLOADING)
    (hk : s.kernel (s.tileCtx t) (s.tile t).knum = some k)
    (hl : s.loadImage (s.tileCtx t) k.image (s.kernelTag (s.tileCtx t) k.num) = .ok im) :
    exec (.imageLoadComplete t) s = .next (s.imageLoaded t im) := by
  simp only [exec_imageLoadComplete, execImageLoadComplete, hs, bne_self_eq_false, Bool.false_eq_true, if_false, hk, hl]
  rfl

theorem exec_imageLoadComplete_bad {st a : Nat} (hs : s.tileState t = tsLOADING)
    (hk : s.kernel (s.tileCtx t) (s.tile t).knum = some k)
    (hl : s.loadImage (s.tileCtx t) k.image (s.kernelTag (s.tileCtx t) k.num) = .bad st a) :
    exec (.imageLoadComplete t) s = .next (s.tileFault t st a) := by
  simp only [exec_imageLoadComplete, execImageLoadComplete, hs, bne_self_eq_false, Bool.false_eq_true, if_false, hk, hl]

theorem State.imageLoaded_spec (ht : t < 128) (htl : t < s.tiles.length) (im : Image) :
    ((s.imageLoaded t im).tile t).image = some im
    ∧ (s.imageLoaded t im).tileState t = (if (s.tile t).resuming then tsLEAP_RESTORE else tsRUN)
    ∧ (∀ v, v ≠ t → (s.imageLoaded t im).tile v = s.tile v)
    ∧ RegsTraced s (s.imageLoaded t im) [rTILE_STATUS t] ∧ (s.imageLoaded t im).mem = s.mem := by
  unfold State.imageLoaded
  have moved := State.moved_traced (.refl (s.modTile t (fun x => { x with image := some im }))) (e := t) (by omega)
    (64 + 32 * im.ops.length + 64 * im.wins.length + 1024 * im.tabs.length)
  generalize State.moved _ _ _ = x at moved ⊢
  refine ⟨?_, ?_, fun v hv => ?_, ?_, moved.mem⟩
  · rw [State.tile_congr (State.setTileState_tiles x t _), moved.tile, State.tile_modTile_same htl]
  · rw [State.tileState_setTileState]
    split <;> rfl
  · rw [State.tile_congr (State.setTileState_tiles x t _), moved.tile, State.tile_modTile_other hv]
  · exact (((RegsTraced.refl s _).of_regs rfl).traceOnly moved.regs).wf (List.mem_singleton_self _)

end

/-! ## Entries -/

/-- The entry a completion finds is the first of its index: taking it out is taking out the first of that index. -/
theorem eraseP_eq_erase_of_find? {l : List InFlight} {idx : Nat} {f : InFlight}
    (h : l.find? (fun g => g.idx == idx) = some f) : l.eraseP (fun g => g.idx == idx) = l.erase f := by
  have hf : (f.idx == idx) = true := List.find?_some (p := fun g : InFlight => g.idx == idx) h
  induction l with
  | nil => rfl
  | cons g r ih =>
    by_cases hg : (g.idx == idx) = true
    · obtain rfl : g = f := by simpa [hg] using h
      simp [hg]
    · have ne : g ≠ f := by rintro rfl; exact hg hf
      rw [List.eraseP_cons_of_neg (p := fun g : InFlight => g.idx == idx) hg, List.erase_cons_tail (by simpa using ne),
        ih (by simpa [hg] using h)]

section
variable {s : State} {t idx : Nat} {f : InFlight}

/-- The state in which an entry has left the scoreboard. -/
def State.entryLeft (s : State) (t idx : Nat) : State :=
  s.modTile t (fun x => { x with flight := x.flight.eraseP (fun g => g.idx == idx) })

theorem State.entryDone_ok (hf : (s.tile t).flight.find? (fun f => f.idx == idx) = some f) (hm : (s.tile t).mayEnd f = true)
    (hn : f.fault = none) : s.entryDone t idx = (s.entryLeft t idx).markDone t f.mark idx := by
  simp only [State.entryDone, hf, hm, hn, Bool.not_true, Bool.false_eq_true, if_false]
  rfl

theorem State.entryDone_fault {st a : Nat} (hf : (s.tile t).flight.find? (fun f => f.idx == idx) = some f)
    (hm : (s.tile t).mayEnd f = true) (hn : f.fault = some (st, a)) :
    s.entryDone t idx = (s.entryLeft t idx).tileFault t st a := by
  simp only [State.entryDone, hf, hm, hn, Bool.not_true, Bool.false_eq_true, if_false]
  rfl

theorem State.entryDone_waits (hf : (s.tile t).flight.find? (fun f => f.idx == idx) = some f) (hm : (s.tile t).mayEnd f = false) :
    s.entryDone t idx = s := by
  simp only [State.entryDone, hf, hm, Bool.not_false, if_true]

end

section
variable {s : State} {t : Nat} {fin : EntryEnd}

theorem State.flipTile_tiles (s : State) (t : Nat) (l : List Flip) : (s.flipTile t l).tiles = s.tiles :=
  (State.flipTile_frame (F := 2) rfl (.refl _ s)).tiles rfl

theorem State.flipTile_tile (s : State) (t : Nat) (l : List Flip) (v : Nat) : (s.flipTile t l).tile v = s.tile v :=
  State.tile_congr (State.flipTile_tiles s t l) v

theorem State.flipTile_regs (s : State) (t : Nat) (l : List Flip) : (s.flipTile t l).regs = s.regs :=
  (State.flipTile_frame (F := 2) rfl (.refl _ s)).regs rfl

theorem exec_entryComplete_run (hs : s.tileState t = tsRUN) :
    exec (.entryComplete t fin) s = .next ((s.flipTile t fin.flips).entryDone t fin.idx) := by
  simp only [exec_entryComplete, execEntryComplete, hs, bne_self_eq_false, Bool.false_eq_true, if_false]

variable {f : InFlight} (hf : (s.tile t).flight.find? (fun f => f.idx == fin.idx) = some f)
include hf

theorem exec_entryComplete_ok (hs : s.tileState t = tsRUN) (hm : (s.tile t).mayEnd f = true) (hn : f.fault = none) :
    exec (.entryComplete t fin) s = .next (((s.flipTile t fin.flips).entryLeft t fin.idx).markDone t f.mark fin.idx) := by
  rw [← State.flipTile_tile s t fin.flips] at hf hm
  rw [exec_entryComplete_run hs, State.entryDone_ok hf hm hn]

theorem exec_entryComplete_fault {st a : Nat} (hs : s.tileState t = tsRUN) (hm : (s.tile t).mayEnd f = true)
    (hn : f.fault = some (st, a)) :
    exec (.entryComplete t fin) s = .next (((s.flipTile t fin.flips).entryLeft t fin.idx).tileFault t st a) := by
  rw [← State.flipTile_tile s t fin.flips] at hf hm
  rw [exec_entryComplete_run hs, State.entryDone_fault hf hm hn]

theorem exec_entryComplete_waits (hm : (s.tile t).mayEnd f = false) :
    exec (.entryComplete t fin) s = .next (s.flipTile t fin.flips) := by
  rw [← State.flipTile_tile s t fin.flips] at hf hm
  simp only [exec_entryComplete, execEntryComplete, State.entryDone_waits hf hm, ite_self]

/-- An entry that has completed without a fault has left the scoreboard; the tile runs on. -/
theorem State.entryCompleted_spec (ht : t < 128) (htl : t < s.tiles.length) (hs : s.tileState t = tsRUN) :
    let u := ((s.flipTile t fin.flips).entryLeft t fin.idx).markDone t f.mark fin.idx
    (u.tile t).flight = (s.tile t).flight.erase f ∧ u.tileState t = tsRUN ∧ (u.tile t).entry = (s.tile t).entry
    ∧ (∀ v, v ≠ t → u.tile v = s.tile v) ∧ RegsTraced s u [] ∧ u.mem = (s.flipTile t fin.flips).mem := by
  have flips := State.flipTile_tiles s t fin.flips
  have regs := State.flipTile_regs s t fin.flips
  generalize s.flipTile t fin.flips = x at flips regs ⊢
  have mark := State.markDone_traced (x.entryLeft t fin.idx) t f.mark fin.idx
  have same : (x.entryLeft t fin.idx).tile t
      = { s.tile t with flight := (s.tile t).flight.eraseP (fun g => g.idx == fin.idx) } := by
    rw [State.entryLeft, State.tile_modTile_same (by rwa [flips]), State.tile_congr flips]
  refine ⟨?_, ?_, ?_, fun v hv => ?_, ?_, mark.mem⟩
  · rw [mark.tile, same, eraseP_eq_erase_of_find? hf]
  · rw [mark.tileState ht, ← hs]
    exact State.tileState_congr (State.reg_congr regs _)
  · rw [mark.tile, same]
  · rw [mark.tile, State.entryLeft, State.tile_modTile_other hv, State.tile_congr flips]
  · exact ((RegsTraced.refl s []).of_regs regs).traceOnly mark.regs

omit hf in
/-- An entry that has completed with a fault ends its kernel. -/
theorem State.entryFaulted_spec {st a : Nat} (ht : t < 128) (htl : t < s.tiles.length) (hs : s.tileState t = tsRUN) :
    let u := ((s.flipTile t fin.flips).entryLeft t fin.idx).tileFault t st a
    u.tileState t = tsFAULT ∧ u.kernel (s.tileCtx t) (s.tile t).knum = none ∧ u.mem = (s.flipTile t fin.flips).mem := by
  have flips := State.flipTile_tiles s t fin.flips
  have regs := State.flipTile_regs s t fin.flips
  generalize s.flipTile t fin.flips = x at flips regs ⊢
  have status : (x.entryLeft t fin.idx).reg (rTILE_STATUS t) = s.reg (rTILE_STATUS t) := State.reg_congr regs _
  have knum : ((x.entryLeft t fin.idx).tile t).knum = (s.tile t).knum := by
    rw [State.entryLeft, State.tile_modTile_same (by rwa [flips]), State.tile_congr flips]
  have ends := State.tileFault_ends (s := x.entryLeft t fin.idx) ht (by rw [State.tileState_congr status, hs]; rfl) st a
  rw [State.tileCtx_congr status, knum] at ends
  exact ends

end

/-! ## Slices -/

section
variable {s : State} {t : Nat}

theorem State.gapClose_tiles (s : State) (t : Nat) :
    (s.gapClose t).tiles = modAt s.tiles t (fun x => { x with gapFrom := s.dieTime (t / 32) }) := by
  unfold State.gapClose
  dsimp only
  rw [State.modTile_tiles]
  split
  · rw [State.bump_tiles, State.wf_tiles]
  · rw [State.wf_tiles]

/-- Where a leap gap closes, its tile's record changes in the time the gap counts from alone. -/
theorem State.gapClose_tile_same (ht : t < s.tiles.length) :
    (s.gapClose t).tile t = { s.tile t with gapFrom := s.dieTime (t / 32) } := by
  rw [State.tile, State.gapClose_tiles, getElem?_modAt_getD ht]
  rfl

theorem State.gapClose_regs (s : State) (t : Nat) : RegsTraced s (s.gapClose t) [rTILE_LEAP_STAT t] := by
  have wrote : ∀ f v, RegsTraced s (s.wf (rTILE_LEAP_STAT t) f v) [rTILE_LEAP_STAT t] := fun _ _ =>
    (RegsTraced.refl s _).wf (List.mem_singleton_self _)
  unfold State.gapClose
  dsimp only
  split
  · exact ((wrote _ _).wf (List.mem_singleton_self _)).of_regs rfl
  · exact (wrote _ _).of_regs rfl

theorem State.gapClose_parts (s : State) (t : Nat) : Within 17 s (s.gapClose t) := State.gapClose_frame rfl (.refl _ s)

theorem rTILE_STATUS_ne_rTILE_LEAP_STAT (t v : Nat) : rTILE_STATUS t ≠ rTILE_LEAP_STAT v := by
  show (0x1400000000 + t * 0x10000 : Nat) ≠ 0x1400000108 + v * 0x10000
  omega

theorem State.gapClose_status (s : State) {t : Nat} (ht : t < 128) :
    (s.gapClose t).reg (rTILE_STATUS t) = s.reg (rTILE_STATUS t) :=
  (State.gapClose_regs s t).reg_eq (rTILE_STATUS_window ht) (by simp [rTILE_STATUS_ne_rTILE_LEAP_STAT])

theorem State.gapClose_kernel (s : State) (t c n : Nat) : (s.gapClose t).kernel c n = s.kernel c n :=
  State.kernel_congr (by rw [(State.gapClose_parts s t).hub rfl]) c n

theorem State.kernel_leaveTile (s : State) (t : Nat) :
    (s.leaveTile t).kernel (s.tileCtx t) (s.tile t).knum
      = (s.kernel (s.tileCtx t) (s.tile t).knum).map (fun k => { k with held := k.held - 1 }) :=
  (State.kernel_congr rfl _ _).trans (State.kernel_modKernel (fun _ => ⟨rfl, rfl⟩))

end

/-- The state in which a slice has completed and the kernel has counted it; the tile still holds it. -/
def State.sliceCounted (s : State) (t : Nat) : State :=
  ((s.gapClose t).traceEvent t evEND (s.sliceCmd t 0)).modKernel (s.tileCtx t) (s.tile t).knum
    (fun k => { k with done := k.done + 1 })

/-- The state in which the tile of a completed slice is free, before the kernel's account is looked at. -/
def State.sliceEnded (s : State) (t : Nat) : State :=
  (((s.sliceCounted t).leaveTile t).modTile t
    (fun x => { x with owed := x.req.map (fun r => (r.ctx, r.num)), req := none })).raiseDone t

section
variable {s : State} {t : Nat}

theorem exec_sliceComplete_ends {im : Image} (hi : (s.tile t).image = some im) (hs : s.tileState t = tsRUN)
    (he : im.ops.length ≤ (s.tile t).entry) (hf : (s.tile t).flight = []) :
    exec (.sliceComplete t) s = .next ((s.sliceEnded t).kernelDone (s.tileCtx t) (s.tile t).knum) := by
  simp only [exec_sliceComplete, execSliceComplete, hi, if_pos (And.intro hs (And.intro he hf))]
  rfl

theorem exec_sliceComplete_waits {im : Image} (hi : (s.tile t).image = some im)
    (h : (s.tile t).entry < im.ops.length ∨ (s.tile t).flight ≠ []) : exec (.sliceComplete t) s = .next s := by
  have busy : ¬(s.tileState t = tsRUN ∧ im.ops.length ≤ (s.tile t).entry ∧ (s.tile t).flight = []) := by
    rintro ⟨-, he, hf⟩
    exact h.elim (fun hlt => absurd he (Nat.not_le_of_lt hlt)) (fun hne => hne hf)
  simp only [exec_sliceComplete, execSliceComplete, hi, if_neg busy]

theorem State.sliceCounted_traced (s : State) (t : Nat) :
    Traced (s.gapClose t) ((s.gapClose t).traceEvent t evEND (s.sliceCmd t 0)) := State.traceEvent_traced (.refl _) ..

theorem State.sliceCounted_tiles (s : State) (t : Nat) : (s.sliceCounted t).tiles = (s.gapClose t).tiles :=
  (State.modHub_tiles _ _).trans (State.sliceCounted_traced s t).tiles

theorem State.sliceCounted_tileCtx (s : State) {t : Nat} (ht : t < 128) : (s.sliceCounted t).tileCtx t = s.tileCtx t :=
  (State.tileCtx_congr rfl).trans
    (((State.sliceCounted_traced s t).tileCtx ht).trans (State.tileCtx_congr (State.gapClose_status s ht)))

theorem State.sliceCounted_kernel (s : State) (t : Nat) :
    (s.sliceCounted t).kernel (s.tileCtx t) (s.tile t).knum
      = (s.kernel (s.tileCtx t) (s.tile t).knum).map (fun k => { k with done := k.done + 1 }) := by
  rw [State.sliceCounted, State.kernel_modKernel (by exact fun _ => ⟨rfl, rfl⟩), (State.sliceCounted_traced s t).kernel,
    State.gapClose_kernel]

theorem State.sliceCounted_mem (s : State) (t : Nat) : (s.sliceCounted t).mem = s.mem := by
  rw [State.sliceCounted, State.modKernel, State.modHub_mem, (State.sliceCounted_traced s t).mem,
    (State.gapClose_parts s t).mem rfl]

theorem State.sliceCounted_ctxs (s : State) (t : Nat) : (s.sliceCounted t).hub.ctxs = s.hub.ctxs := by
  rw [State.sliceCounted, State.modKernel, State.modHub_hub, (State.sliceCounted_traced s t).hub,
    (State.gapClose_parts s t).hub rfl]

theorem State.sliceCounted_dies (s : State) (t : Nat) : (s.sliceCounted t).hub.dies = s.hub.dies := by
  rw [State.sliceCounted, State.modKernel, State.modHub_hub, (State.sliceCounted_traced s t).hub,
    (State.gapClose_parts s t).hub rfl]

/-- The kernel's account has counted the slice and holds one tile fewer. -/
theorem State.sliceEnded_kernel (ht : t < 128) (htl : t < s.tiles.length) :
    (s.sliceEnded t).kernel (s.tileCtx t) (s.tile t).knum
      = (s.kernel (s.tileCtx t) (s.tile t).knum).map (fun k => { k with done := k.done + 1, held := k.held - 1 }) := by
  have knum : ((s.sliceCounted t).tile t).knum = (s.tile t).knum := by
    rw [State.tile_congr (State.sliceCounted_tiles s t), State.gapClose_tile_same htl]
  have left := State.kernel_leaveTile (s.sliceCounted t) t
  rw [State.sliceCounted_tileCtx s ht, knum, State.sliceCounted_kernel, Option.map_map] at left
  exact (State.kernel_congr (State.raiseDone_kernels _ t) _ _).trans left

theorem State.sliceEnded_tileState (s : State) (t : Nat) : (s.sliceEnded t).tileState t = tsIDLE :=
  (State.tileState_congr rfl).trans (State.tileState_setTileState (s.sliceCounted t) t tsIDLE)

theorem State.sliceEnded_req (htl : t < s.tiles.length) : ((s.sliceEnded t).tile t).req = none := by
  have len : t < ((s.sliceCounted t).leaveTile t).tiles.length := by
    rw [State.leaveTile_tiles, State.sliceCounted_tiles, State.gapClose_tiles, length_modAt]
    exact htl
  rw [State.sliceEnded, State.tile_congr (State.raiseDone_tiles _ t), State.tile_modTile_same len]

theorem State.sliceEnded_regs (s : State) (t : Nat) : RegsTraced s (s.sliceEnded t) [rTILE_STATUS t, rTILE_LEAP_STAT t] := by
  have gap : RegsTraced s (s.gapClose t) [rTILE_STATUS t, rTILE_LEAP_STAT t] :=
    (State.gapClose_regs s t).mono (by simp)
  have counted : RegsTraced s (s.sliceCounted t) [rTILE_STATUS t, rTILE_LEAP_STAT t] :=
    (gap.traceOnly (State.sliceCounted_traced s t).regs).of_regs rfl
  exact ((counted.leaveTile List.mem_cons_self).of_regs rfl).of_regs (State.raiseDone_regs _ t)

theorem State.sliceEnded_ctxs (s : State) (t : Nat) : (s.sliceEnded t).hub.ctxs = s.hub.ctxs :=
  (State.raiseDone_ctxs _ t).trans (State.sliceCounted_ctxs s t)

theorem State.sliceEnded_doneRaised (ht : t < 128) (hd : t / 32 < s.hub.dies.length) : (s.sliceEnded t).doneRaised t = true := by
  refine State.doneRaised_raiseDone ?_
  rw [State.modTile_hub, State.leaveTile_dies, State.sliceCounted_dies, dieOfEngine, if_pos ht]
  exact hd

theorem State.sliceEnded_mem (s : State) (t : Nat) : (s.sliceEnded t).mem = s.mem :=
  (State.raiseDone_mem _ t).trans (State.sliceCounted_mem s t)

theorem State.sliceEnded_desc (s : State) (t c n : Nat) : (s.sliceEnded t).desc c n = s.desc c n := by
  simp only [State.desc, State.ctx, State.sliceEnded_ctxs]

end

/-! ## The end of a kernel (R180) -/

section
variable {s : State} {c n : Nat} {k : Kernel}

theorem State.kernelDone_waits (hk : s.kernel c n = some k) (h : k.done < k.count) : s.kernelDone c n = s := by
  simp only [State.kernelDone, hk, if_neg (Nat.not_le_of_lt h)]

theorem State.kernelDone_ends (hk : s.kernel c n = some k) (h : k.count ≤ k.done) :
    s.kernelDone c n = (s.finish c n stOK (noEngine * 2 ^ 56)).dropKernel c n := by
  simp only [State.kernelDone, hk, if_pos h]

/-- A kernel of which every slice has completed: its account goes and its descriptor ends OK. -/
theorem State.kernelDone_spec {x : Desc} (hk : s.kernel c n = some k) (h : k.count ≤ k.done) (hx : s.desc c n = some x) :
    (s.kernelDone c n).kernel c n = none ∧ TraceOnly s (s.kernelDone c n) ∧ (s.kernelDone c n).mem = s.mem
    ∧ (∀ e, (s.kernelDone c n).doneRaised e = s.doneRaised e)
    ∧ ((s.kernelDone c n).desc c n).map (fun y => (y.phase, y.status)) = some (.finished, stOK) := by
  rw [State.kernelDone_ends hk h]
  have ok := State.finish_ok (detail := noEngine * 2 ^ 56) hx
  have regs := State.finish_regs s c n stOK (noEngine * 2 ^ 56)
  generalize State.finish _ _ _ _ _ = u at ok regs ⊢
  refine ⟨State.kernel_dropKernel u c n, .of_regs regs rfl, ok.mem, fun e => ?_, ?_⟩
  · have dies : u.hub.dies = s.hub.dies := by rw [ok.hub]; rfl
    exact State.doneRaised_congr (s := s) (u := u.dropKernel c n) dies ok.fabCycle e
  · have desc : (u.dropKernel c n).desc c n = u.desc c n := rfl
    rw [desc, ok.desc, State.desc_modDesc hx (by exact fun _ => rfl)]
    rfl

end

/-! ## The statement -/

/-- Settles O8, by what each command's next state reads: a loaded image, an entry that leaves the scoreboard, the fault of a
kernel, and a slice that has ended. -/
theorem tileSlicesLoadAndEnd : Obligations.TileSlicesLoadAndEnd := by
  unfold Obligations.TileSlicesLoadAndEnd
  intro s t k ht hlen hk
  have htl : t < s.tiles.length := hlen ▸ ht
  refine ⟨?_, ?_, ?_, ?_, ?_, ?_, ?_, ?_⟩
  case refine_1 =>
    intro im hs hl
    exact ⟨_, exec_imageLoadComplete_ok hs hk hl, State.imageLoaded_spec ht htl im⟩
  case refine_2 =>
    intro st a hs hl
    exact ⟨_, exec_imageLoadComplete_bad hs hk hl, State.tileFault_ends ht (by rw [hs]; rfl) st a⟩
  case refine_3 =>
    intro fin f hs hf hm hn
    exact ⟨_, exec_entryComplete_ok hf hs hm hn, State.entryCompleted_spec hf ht htl hs⟩
  case refine_4 =>
    rintro fin f ⟨st, a⟩ hs hf hm hn
    exact ⟨_, exec_entryComplete_fault hf hs hm hn, State.entryFaulted_spec ht htl hs⟩
  case refine_5 => exact fun fin f hf hm => exec_entryComplete_waits hf hm
  case refine_6 =>
    intro im hd hi hs he hf hc
    have ended := State.sliceEnded_kernel ht htl
    rw [hk] at ended
    refine ⟨_, exec_sliceComplete_ends hi hs he hf, ?_⟩
    rw [State.kernelDone_waits ended hc]
    exact ⟨State.sliceEnded_tileState s t, State.sliceEnded_doneRaised ht hd, State.sliceEnded_req htl, ended,
      State.sliceEnded_regs s t, State.sliceEnded_mem s t⟩
  case refine_7 =>
    intro im x hi hs he hf hc hx
    have ended := State.sliceEnded_kernel ht htl
    rw [hk] at ended
    obtain ⟨gone, regs, mem, raised, desc⟩ :=
      State.kernelDone_spec ended hc ((State.sliceEnded_desc s t _ _).trans hx)
    refine ⟨_, exec_sliceComplete_ends hi hs he hf, ?_, fun hd => ?_, gone, desc, ?_, mem.trans (State.sliceEnded_mem s t)⟩
    · exact (State.tileState_congr (regs _ (rTILE_STATUS_window ht))).trans (State.sliceEnded_tileState s t)
    · exact (raised t).trans (State.sliceEnded_doneRaised ht hd)
    · exact (State.sliceEnded_regs s t).traceOnly regs
  case refine_8 => exact fun im hi _ h => exec_sliceComplete_waits hi h

end Sys2Proof.Machine
end

/-!
Proofs for the tensor tiles, part 4: LOOP (R78).
-/
section
namespace Sys2Proof.Machine

/-! ## Arguments modulo 2^64 -/

/-- Numbers modulo 2^64 add up in any order. -/
theorem wrap64_wrap64_add (a v : Int) : wrap64 (wrap64 a + v) = wrap64 (a + v) := by
  unfold wrap64
  rw [Int.toNat_of_nonneg (Int.emod_nonneg a (by decide)), Int.emod_add_emod]

@[simp] theorem length_addArg (args : List Nat) (en : Bool) (k : Nat) (v : Int) : (addArg args en k v).length = args.length := by
  unfold addArg
  split <;> simp

theorem getD_addArg {args : List Nat} {r : Nat} (hr : r < args.length) (en : Bool) (v : Int) (k : Nat) :
    (addArg args en r v).getD k 0 = if en = true ∧ r = k then wrap64 (args.getD k 0 + v) else args.getD k 0 := by
  cases en with
  | false => simp [addArg]
  | true =>
    simp only [addArg, if_true, true_and, List.getD_eq_getElem?_getD]
    by_cases hk : r = k
    · subst hk
      rw [getElem?_modAt_getD hr, if_pos rfl]
    · rw [getElem?_modAt, if_neg hk, if_neg hk]

/-- What the two increments `v0` and `v1` of a LOOP come to at argument `k`. -/
def loopSum (e k : Nat) (v0 v1 : Int) : Int :=
  (if Nat.testBit e 72 = true ∧ bits e 67 64 = k then v0 else 0) + (if Nat.testBit e 73 = true ∧ bits e 71 68 = k then v1 else 0)

theorem loopSum_inc (e k : Nat) : loopSum e k (signedOf 64 (bytesOf e 16 8)) (signedOf 64 (bytesOf e 24 8)) = loopInc e k := rfl

/-- The increments are taken back together. -/
theorem loopSum_neg_mul (e k : Nat) (c v0 v1 : Int) : loopSum e k (-(c * v0)) (-(c * v1)) = -(c * loopSum e k v0 v1) := by
  unfold loopSum
  split_ifs <;> ring

/-- The arguments of a LOOP with an increment added at each of its two arguments that is enabled. -/
def loopArgs (args : List Nat) (e : Nat) (v0 v1 : Int) : List Nat :=
  addArg (addArg args (Nat.testBit e 72) (bits e 67 64) v0) (Nat.testBit e 73) (bits e 71 68) v1

section
variable {args : List Nat} {e : Nat}

theorem bits_lt_16 (e hi lo : Nat) (h : hi + 1 - lo = 4 := by rfl) : bits e hi lo < 16 := by
  unfold bits
  rw [h]
  exact Nat.mod_lt _ (by decide)

theorem getD_loopArgs_moved (h : args.length = 16) (v0 v1 : Int) {k : Nat} (hk : loopMoves e k) :
    (loopArgs args e v0 v1).getD k 0 = wrap64 (args.getD k 0 + loopSum e k v0 v1) := by
  have h0 : bits e 67 64 < args.length := h ▸ bits_lt_16 e 67 64
  have h1 : bits e 71 68 < (addArg args (Nat.testBit e 72) (bits e 67 64) v0).length := by
    rw [length_addArg, h]; exact bits_lt_16 e 71 68
  rw [loopArgs, getD_addArg h1, getD_addArg h0]
  unfold loopSum
  by_cases first : Nat.testBit e 72 = true ∧ bits e 67 64 = k
  · by_cases second : Nat.testBit e 73 = true ∧ bits e 71 68 = k
    · rw [if_pos second, if_pos first, if_pos first, if_pos second, wrap64_wrap64_add, Int.add_assoc]
    · rw [if_neg second, if_pos first, if_pos first, if_neg second, Int.add_zero]
  · have second : Nat.testBit e 73 = true ∧ bits e 71 68 = k := hk.resolve_left first
    rw [if_pos second, if_neg first, if_neg first, if_pos second, Int.zero_add]

theorem getD_loopArgs_kept (h : args.length = 16) (v0 v1 : Int) {k : Nat} (hk : ¬ loopMoves e k) :
    (loopArgs args e v0 v1).getD k 0 = args.getD k 0 := by
  obtain ⟨first, second⟩ := not_or.1 hk
  have h0 : bits e 67 64 < args.length := h ▸ bits_lt_16 e 67 64
  have h1 : bits e 71 68 < (addArg args (Nat.testBit e 72) (bits e 67 64) v0).length := by
    rw [length_addArg, h]; exact bits_lt_16 e 71 68
  rw [loopArgs, getD_addArg h1, getD_addArg h0, if_neg second, if_neg first]

end

/-! ## The turn of a loop -/

section
variable {x : Tile} {e : Nat}

theorem loopStep_again (h : x.loops.getD (loopCtr e) 0 + 1 < loopCount e) :
    loopStep x e = ({ x with
      loops := setAt x.loops (loopCtr e) (x.loops.getD (loopCtr e) 0 + 1)
      args := loopArgs x.args e (signedOf 64 (bytesOf e 16 8)) (signedOf 64 (bytesOf e 24 8)) }, loopTarget e) := by
  simp only [loopStep, if_pos h]
  rfl

theorem loopStep_leaves (h : loopCount e ≤ x.loops.getD (loopCtr e) 0 + 1) :
    loopStep x e = ({ x with
      loops := setAt x.loops (loopCtr e) 0
      args := loopArgs x.args e (-(x.loops.getD (loopCtr e) 0 * signedOf 64 (bytesOf e 16 8)))
        (-(x.loops.getD (loopCtr e) 0 * signedOf 64 (bytesOf e 24 8))) }, x.entry + 1) := by
  simp only [loopStep, if_neg (Nat.not_lt_of_le h)]
  rfl

/-- LOOP leaves the entries in flight and the arguments it does not name alone. -/
theorem loopStep_keeps (ha : x.args.length = 16) :
    (loopStep x e).1.flight = x.flight ∧ ∀ k, ¬ loopMoves e k → (loopStep x e).1.arg k = x.arg k := by
  by_cases h : x.loops.getD (loopCtr e) 0 + 1 < loopCount e
  · rw [loopStep_again h]
    exact ⟨rfl, fun k hk => getD_loopArgs_kept ha _ _ hk⟩
  · rw [loopStep_leaves (Nat.le_of_not_lt h)]
    exact ⟨rfl, fun k hk => getD_loopArgs_kept ha _ _ hk⟩

theorem loopStep_again_arg (ha : x.args.length = 16) (h : x.loops.getD (loopCtr e) 0 + 1 < loopCount e) {k : Nat}
    (hk : loopMoves e k) : (loopStep x e).1.arg k = wrap64 (x.arg k + loopInc e k) := by
  rw [loopStep_again h]
  exact getD_loopArgs_moved ha _ _ hk

/-- At its last turn a LOOP takes its increments back. -/
theorem loopStep_leaves_arg (ha : x.args.length = 16) (h : loopCount e ≤ x.loops.getD (loopCtr e) 0 + 1) {k : Nat}
    (hk : loopMoves e k) :
    (loopStep x e).1.arg k = wrap64 (x.arg k - x.loops.getD (loopCtr e) 0 * loopInc e k) := by
  rw [loopStep_leaves h]
  refine (getD_loopArgs_moved ha _ _ hk).trans ?_
  rw [loopSum_neg_mul, loopSum_inc, ← Int.sub_eq_add_neg]
  rfl

end

/-! ## The command -/

theorem exec_loop (t : Nat) (s : State) : exec (.loop t) s = execLoop t s := rfl

/-- The state after a LOOP whose tile goes on as `x` at entry `i`. -/
def State.looped (s : State) (t e : Nat) (x : Tile) (i : Nat) : State :=
  ((s.modTile t (fun _ => x)).setEntry t i).markDone t (markOf e) (s.tile t).entry

theorem exec_loop_ready {s : State} {t e : Nat} (he : s.nextEntry t = some e) (ho : opcOf e = 6) (hr : (s.tile t).unitReady e = true) :
    exec (.loop t) s = .next (s.looped t e (loopStep (s.tile t) e).1 (loopStep (s.tile t) e).2) := by
  simp only [exec_loop, execLoop, he, ho, hr, bne_self_eq_false, Bool.not_true, Bool.or_self, Bool.false_eq_true, if_false]
  rfl

section
variable {s : State} {t e : Nat}

/-- After a LOOP its tile goes on as `x` at entry `i`, and nothing else but the tile's status and the trace has changed. -/
theorem State.looped_spec (ht : t < s.tiles.length) (e : Nat) (x : Tile) (i : Nat) :
    (s.looped t e x i).tile t = { x with entry := i } ∧ (∀ v, v ≠ t → (s.looped t e x i).tile v = s.tile v)
    ∧ RegsTraced s (s.looped t e x i) [rTILE_STATUS t] ∧ (s.looped t e x i).mem = s.mem := by
  have mark := State.markDone_traced ((s.modTile t (fun _ => x)).setEntry t i) t (markOf e) (s.tile t).entry
  have len : t < (s.modTile t (fun _ => x)).tiles.length := by rwa [State.modTile_tiles, length_modAt]
  have start : RegsTraced s (s.modTile t (fun _ => x)) [rTILE_STATUS t] := (RegsTraced.refl s _).of_regs rfl
  refine ⟨?_, fun v hv => ?_, (start.setEntry (List.mem_singleton_self _) i).traceOnly mark.regs, mark.mem⟩
  · rw [State.looped, mark.tile, State.tile_setEntry_same len, State.tile_modTile_same ht]
  · rw [State.looped, mark.tile, State.tile_setEntry_other hv, State.tile_modTile_other hv]

end

end Sys2Proof.Machine
end

/-!
Proofs for the tensor tiles, part 5: bytes that a write lands, and bytes that a tile forgets (R53, R54, R261).
-/
section
namespace Sys2Proof.Machine

/-! ## Units of a range -/

theorem mem_unitsOf {g a n u : Nat} : u ∈ unitsOf g a n ↔ 0 < n ∧ a / g ≤ u ∧ u ≤ (a + n - 1) / g := by
  unfold unitsOf
  split
  · next h => simp [h]
  · next h =>
    have mono : a / g ≤ (a + n - 1) / g := Nat.div_le_div_right (by omega)
    simp only [List.mem_map, List.mem_range]
    constructor
    · rintro ⟨i, hi, rfl⟩; omega
    · rintro ⟨-, h1, h2⟩; exact ⟨u - a / g, by omega, by omega⟩

theorem div_mem_unitsOf {a n x : Nat} (g : Nat) (h : a ≤ x ∧ x < a + n) : x / g ∈ unitsOf g a n :=
  mem_unitsOf.2 ⟨by omega, Nat.div_le_div_right h.1, Nat.div_le_div_right (by omega)⟩

/-! ## Bytes kept and bytes read -/

theorem Mem.read_congr {m n : Mem} {a k : Nat} (h : ∀ x, a ≤ x → x < a + k → m.byte x = n.byte x) : m.read a k = n.read a k :=
  List.map_congr_left (fun i hi => h _ (by omega) (by have := List.mem_range.1 hi; omega))

theorem mapGet_filter {α : Type} (p : Nat × α → Bool) {x : Nat} (hp : ∀ v, p (x, v) = true) (l : List (Nat × α)) :
    mapGet (l.filter p) x = mapGet l x := by
  induction l with
  | nil => rfl
  | cons c r ih =>
    obtain ⟨k, v⟩ := c
    by_cases hk : k = x
    · subst hk; simp [hp, mapGet]
    · by_cases keep : p (k, v) = true <;> simp [keep, mapGet, hk, ih]

/-- A byte outside a forgotten range reads as before. -/
theorem Mem.byte_forget {m : Mem} {a n x : Nat} (h : x < a ∨ a + n ≤ x) : (m.forget a n).byte x = m.byte x := by
  have cell : mapGet (m.forget a n).cells x = mapGet m.cells x :=
    mapGet_filter (fun c => decide (c.1 < a) || decide (a + n ≤ c.1)) (by simpa using h) m.cells
  rw [Mem.byte_eq, Mem.byte_eq, cell]
  rfl

/-- What forgetting both sides of a range inside a block keeps: the range, and all that lies outside the block. -/
theorem Mem.byte_forget_around {m : Mem} {base lo hi size x : Nat} (hlo : lo ≤ hi) (hhi : hi ≤ size)
    (h : x < base ∨ base + lo ≤ x ∧ x < base + hi ∨ base + size ≤ x) :
    ((m.forget base lo).forget (base + hi) (size - hi)).byte x = m.byte x := by
  rw [Mem.byte_forget (by omega), Mem.byte_forget (by omega)]

/-- Clearing the lines outside a live range keeps the bytes of the live range and those of every other memory. -/
theorem State.byte_keepLines {s : State} {t lo hi x : Nat} (hlo : lo ≤ hi) (hhi : hi ≤ sramBytes)
    (h : x < sramBase t ∨ sramBase t + lo ≤ x ∧ x < sramBase t + hi ∨ sramBase t + sramBytes ≤ x) :
    (s.keepLines t lo hi).mem.byte x = s.mem.byte x :=
  Mem.byte_forget_around hlo hhi h

/-! ## Writes that land -/

/-- Bytes read as `bs` from `a` on, and as in `m` elsewhere. -/
def Mem.Holds (m : Mem) (a : Nat) (bs : List Byte) (n : Mem) : Prop :=
  ∀ x, n.byte x = if a ≤ x ∧ x < a + bs.length then bs.getD (x - a) unwritten else m.byte x

theorem Mem.holds_write (m : Mem) (a : Nat) (bs : List Byte) : m.Holds a bs (m.write a bs) := fun x => Mem.byte_write m a x bs

theorem Stored.of_holds {s u : State} {a : Nat} {bs : List Byte} (h : s.mem.Holds a bs u.mem) : Stored s u a bs := by
  constructor
  · unfold Mem.read
    refine List.ext_getElem (by simp) (fun i _ hi => ?_)
    rw [List.getElem_map, List.getElem_range, h, if_pos ⟨Nat.le_add_right a i, Nat.add_lt_add_left hi a⟩,
      Nat.add_sub_cancel_left, List.getD_eq_getElem _ _ hi]
  · intro b hb
    exact (h b).trans (if_neg (fun k => hb.elim (Nat.not_lt_of_le k.1) (Nat.not_le_of_lt k.2)))

/-- Where the part of a range that lies in line `l` begins. -/
def lineStart (a l : Nat) : Nat := max a (l * 128)

/-- The bytes of a range that lie in line `l`. -/
def linePiece (a : Nat) (bs : List Byte) (l : Nat) : List Byte := (bs.drop (lineStart a l - a)).take (l * 128 + 128 - lineStart a l)

theorem getD_linePiece {a l x : Nat} (bs : List Byte) (hl : x / 128 = l) (ha : a ≤ x) :
    (linePiece a bs l).getD (x - lineStart a l) unwritten = bs.getD (x - a) unwritten := by
  have start : lineStart a l ≤ x ∧ a ≤ lineStart a l := by unfold lineStart; omega
  have room : x - lineStart a l < l * 128 + 128 - lineStart a l := by omega
  rw [linePiece, List.getD_eq_getElem?_getD, List.getElem?_take_of_lt room, List.getElem?_drop, List.getD_eq_getElem?_getD,
    show lineStart a l - a + (x - lineStart a l) = x - a by omega]

theorem linePiece_covers {a l x : Nat} (bs : List Byte) :
    (lineStart a l ≤ x ∧ x < lineStart a l + (linePiece a bs l).length) ↔ x / 128 = l ∧ a ≤ x ∧ x < a + bs.length := by
  simp only [linePiece, lineStart, List.length_take, List.length_drop]
  omega

/-- A memory written line by line. -/
def Mem.writeLines (m : Mem) (a : Nat) (bs : List Byte) (l : List Nat) : Mem :=
  l.foldl (fun m l => m.write (lineStart a l) (linePiece a bs l)) m

theorem Mem.byte_writeLines (a : Nat) (bs : List Byte) (x : Nat) (l : List Nat) : ∀ m : Mem,
    (m.writeLines a bs l).byte x = if x / 128 ∈ l ∧ a ≤ x ∧ x < a + bs.length then bs.getD (x - a) unwritten else m.byte x := by
  induction l with
  | nil => intro m; simp [Mem.writeLines]
  | cons k l ih =>
    intro m
    have step := ih (m.write (lineStart a k) (linePiece a bs k))
    rw [Mem.byte_write] at step
    refine step.trans ?_
    simp only [linePiece_covers, List.mem_cons]
    by_cases rest : x / 128 ∈ l ∧ a ≤ x ∧ x < a + bs.length
    · rw [if_pos rest, if_pos ⟨.inr rest.1, rest.2⟩]
    · rw [if_neg rest]
      by_cases here : x / 128 = k ∧ a ≤ x ∧ x < a + bs.length
      · rw [if_pos here, if_pos ⟨.inl here.1, here.2⟩, getD_linePiece bs here.1 here.2.1]
      · rw [if_neg here, if_neg (fun h => h.1.elim (fun e => here ⟨e, h.2⟩) (fun e => rest ⟨e, h.2⟩))]

theorem State.lineWrite_alive {s : State} {a : Nat} (h : s.mcDead (pcOf a) = false) (bs : List Byte) :
    s.lineWrite a bs = s.modMem (fun m => m.write a bs) := by
  rw [State.lineWrite, h]
  rfl

theorem State.lineWrites_alive (a : Nat) (bs : List Byte) (l : List Nat) : ∀ {s : State},
    (∀ k ∈ l, s.mcDead (pcOf (lineStart a k)) = false) →
    l.foldl (fun x k => x.lineWrite (lineStart a k) (linePiece a bs k)) s = s.modMem (fun m => m.writeLines a bs l) := by
  induction l with
  | nil => intro s _; rfl
  | cons k l ih =>
    intro s h
    rw [List.foldl_cons, State.lineWrite_alive (h k List.mem_cons_self)]
    exact ih (fun j hj => h j (List.mem_cons_of_mem k hj))

/-- A pseudo-channel holds whole lines of 64 bytes (R247). -/
theorem pcOf_line (a : Nat) : pcOf (a / 64 * 64) = pcOf a := by
  have same : ∀ k, a / 64 * 64 / 2 ^ (8 + 6 * k) = a / 2 ^ (8 + 6 * k) := by
    intro k
    have e : 2 ^ (8 + 6 * k) = 64 * 2 ^ (2 + 6 * k) := by rw [show 8 + 6 * k = 6 + (2 + 6 * k) by omega, Nat.pow_add]
    rw [e, ← Nat.div_div_eq_div_mul, ← Nat.div_div_eq_div_mul, Nat.mul_div_cancel _ (by decide)]
  unfold pcOf
  simp only [same]

/-- A write none of whose pseudo-channels is fenced lands: memory changes in its bytes alone, and nothing else changes. -/
theorem State.memWrite_alive {s : State} {a : Nat} {bs : List Byte} (h : s.alive a bs.length) :
    ∃ m, s.memWrite a bs = s.modMem (fun _ => m) ∧ s.mem.Holds a bs m := by
  unfold State.memWrite
  split
  · exact ⟨_, rfl, Mem.holds_write s.mem a bs⟩
  · have live : ∀ k ∈ unitsOf 128 a bs.length, s.mcDead (pcOf (lineStart a k)) = false := by
      intro k hk
      obtain ⟨hn, -, hk⟩ := mem_unitsOf.1 hk
      rw [← pcOf_line]
      refine h _ (div_mem_unitsOf 64 ?_)
      unfold lineStart
      omega
    refine ⟨s.mem.writeLines a bs (unitsOf 128 a bs.length), State.lineWrites_alive a bs _ live, fun x => ?_⟩
    rw [Mem.byte_writeLines]
    congr 1
    exact propext ⟨And.right, fun hx => ⟨div_mem_unitsOf 128 hx, hx⟩⟩

/-- A write of tile SRAM lands. -/
theorem State.sramWrite_eq (s : State) (t off : Nat) (bs : List Byte) :
    s.sramWrite t off bs = s.modMem (fun m => m.write (sramBase t + off) bs) := by
  have high : 0xC00000000 ≤ sramBase t + off := by
    show (0xC00000000 : Nat) ≤ 0x1100000000 + t * 0x200000 + off
    omega
  rw [State.sramWrite, State.memWrite, if_pos (.inr high)]

end Sys2Proof.Machine
end

/-!
Proofs for the tensor tiles, part 6: LEAP (R79, R197, R395).
-/
section
namespace Sys2Proof.Machine

theorem exec_leap (t : Nat) (s : State) : exec (.leap t) s = execLeap t s := rfl

theorem State.nextEntry_run {s : State} {t e : Nat} (h : s.nextEntry t = some e) : s.tileState t = tsRUN := by
  by_contra hs
  simp [State.nextEntry, hs] at h

/-- The state in which a LEAP has cleared all but the live range, closed the gap and gone on to the next entry. -/
def State.leapt (s : State) (t e : Nat) : State :=
  let r := liveRange (s.tile t) e
  ((s.keepLines t r.1 (r.1 + r.2)).gapClose t).setEntry t ((s.tile t).entry + 1)

theorem liveOk_fits {r : Nat × Nat} (h : liveOk r = true) : r.1 + r.2 ≤ sramBytes := by
  simp only [liveOk, Bool.and_eq_true, decide_eq_true_eq] at h
  exact h.2

section
variable {s : State} {t e : Nat}

/-- What a LEAP does once every earlier entry has completed. -/
theorem exec_leap_ready (he : s.nextEntry t = some e) (ho : opcOf e = 7) (hf : (s.tile t).flight = [])
    (hu : s.undrained t = false) (hl : liveOk (liveRange (s.tile t) e) = true) :
    exec (.leap t) s = .next ((if (s.tile t).req.isSome || s.halted
      then (s.leapt t e).preempt t (liveRange (s.tile t) e).1 (liveRange (s.tile t) e).2
      else s.leapt t e).markDone t (markOf e) (s.tile t).entry) := by
  simp only [exec_leap, execLeap, he, ho, hf, hu, hl, bne_self_eq_false, List.isEmpty_nil, Bool.not_true, Bool.or_self,
    Bool.false_eq_true, if_false]
  rfl

/-! ## The next entry -/

theorem State.tile_gapNext {x : State} (ht : t < x.tiles.length) (i : Nat) :
    ((x.gapClose t).setEntry t i).tile t = { x.tile t with gapFrom := x.dieTime (t / 32), entry := i } := by
  have len : t < (x.gapClose t).tiles.length := by rwa [State.gapClose_tiles, length_modAt]
  rw [State.tile_setEntry_same len, State.gapClose_tile_same ht]

theorem State.leapt_tile (ht : t < s.tiles.length) :
    (s.leapt t e).tile t = { s.tile t with gapFrom := s.dieTime (t / 32), entry := (s.tile t).entry + 1 } :=
  State.tile_gapNext (x := s.keepLines t _ _) ht _

theorem State.leapt_length (s : State) (t e : Nat) : (s.leapt t e).tiles.length = s.tiles.length := by
  unfold State.leapt State.setEntry
  rw [State.wf_tiles, State.modTile_tiles, length_modAt, State.gapClose_tiles, length_modAt]
  rfl

theorem State.leapt_regs (s : State) (t e : Nat) : RegsTraced s (s.leapt t e) [rTILE_STATUS t, rTILE_LEAP_STAT t] := by
  have start : ∀ lo hi, RegsTraced s (s.keepLines t lo hi) [rTILE_STATUS t, rTILE_LEAP_STAT t] :=
    fun _ _ => (RegsTraced.refl s _).of_regs rfl
  exact ((start _ _).trans (State.gapClose_regs _ t) (by simp)).setEntry List.mem_cons_self _

theorem State.leapt_tileState (s : State) {t : Nat} (ht : t < 128) (e : Nat) : (s.leapt t e).tileState t = s.tileState t :=
  (State.tileState_setEntry _ t _).trans
    ((State.tileState_congr (State.gapClose_status _ ht)).trans (State.tileState_congr (State.reg_congr rfl _)))

theorem State.leapt_tileCtx (s : State) {t : Nat} (ht : t < 128) (e : Nat) : (s.leapt t e).tileCtx t = s.tileCtx t :=
  (State.tileCtx_setEntry _ t _).trans
    ((State.tileCtx_congr (State.gapClose_status _ ht)).trans (State.tileCtx_congr (State.reg_congr rfl _)))

theorem State.leapt_dieTime (s : State) (t e d : Nat) : (s.leapt t e).dieTime d = s.dieTime d := by
  have time : (s.leapt t e).time = s.time := (State.gapClose_parts (s.keepLines t _ _) t).time rfl
  simp only [State.dieTime, State.dtime, time]

/-- A LEAP keeps the bytes of its live range and those outside its tile's SRAM. -/
theorem State.leapt_byte (hl : liveOk (liveRange (s.tile t) e) = true) {x : Nat}
    (hx : x < sramBase t ∨ sramBase t + (liveRange (s.tile t) e).1 ≤ x
      ∧ x < sramBase t + ((liveRange (s.tile t) e).1 + (liveRange (s.tile t) e).2) ∨ sramBase t + sramBytes ≤ x) :
    (s.leapt t e).mem.byte x = s.mem.byte x := by
  have mem : (s.leapt t e).mem = (s.keepLines t (liveRange (s.tile t) e).1
      ((liveRange (s.tile t) e).1 + (liveRange (s.tile t) e).2)).mem := (State.gapClose_parts _ t).mem rfl
  rw [mem]
  exact State.byte_keepLines (Nat.le_add_right _ _) (liveOk_fits hl) hx

theorem State.leapt_sramRead (hl : liveOk (liveRange (s.tile t) e) = true) :
    (s.leapt t e).sramRead t (liveRange (s.tile t) e).1 (liveRange (s.tile t) e).2
      = s.sramRead t (liveRange (s.tile t) e).1 (liveRange (s.tile t) e).2 :=
  Mem.read_congr (fun _ lo hi => State.leapt_byte hl (.inr (.inl ⟨lo, Nat.add_assoc _ _ _ ▸ hi⟩)))

end

/-! ## The pre-emption of a slice -/

theorem rTILE_STATUS_ne_rCD_SCHED_STAT (t d : Nat) : rTILE_STATUS t ≠ rCD_SCHED_STAT d := by
  show (0x1400000000 + t * 0x10000 : Nat) ≠ 0x1400b00108 + d * 0x10000
  omega

theorem rTILE_STATUS_ne_rHUB_CTX_PRE_CNT (t c : Nat) : rTILE_STATUS t ≠ rHUB_CTX_PRE_CNT c := by
  show (0x1400000000 + t * 0x10000 : Nat) ≠ 0x1402000210 + c * 0x10000
  omega

theorem rCD_SCHED_STAT_ne_rHUB_CTX_PRE_CNT (d c : Nat) : rCD_SCHED_STAT d ≠ rHUB_CTX_PRE_CNT c := by
  show (0x1400b00108 + d * 0x10000 : Nat) ≠ 0x1402000210 + c * 0x10000
  omega

theorem rTILE_LEAP_STAT_ne_rHUB_CTX_PRE_CNT (t c : Nat) : rTILE_LEAP_STAT t ≠ rHUB_CTX_PRE_CNT c := by
  show (0x1400000108 + t * 0x10000 : Nat) ≠ 0x1402000210 + c * 0x10000
  omega

theorem rTILE_LEAP_STAT_ne_rCD_SCHED_STAT {t : Nat} (ht : t < 128) (d : Nat) : rTILE_LEAP_STAT t ≠ rCD_SCHED_STAT d := by
  show (0x1400000108 + t * 0x10000 : Nat) ≠ 0x1400b00108 + d * 0x10000
  omega

theorem rCD_SCHED_STAT_window {d : Nat} (hd : d < 4) : rCD_SCHED_STAT d / 0x10000 ≠ 0x140138 := by
  show (0x1400b00108 + d * 0x10000 : Nat) / 0x10000 ≠ 0x140138
  omega

theorem rHUB_CTX_PRE_CNT_window (c : Nat) : rHUB_CTX_PRE_CNT c / 0x10000 ≠ 0x140138 := by
  show (0x1402000210 + c * 0x10000 : Nat) / 0x10000 ≠ 0x140138
  omega

/-- The state in which a LEAP has noted the live range on its tile and a pre-emption has been counted. -/
def State.preemptCounted (s : State) (t off len : Nat) : State :=
  ((s.modTile t (fun x => { x with leapOff := off, leapLen := len, sampled := some (s.dieTime (t / 32)) })).bump
    (rCD_SCHED_STAT (t / 32)) fCD_SCHED_STAT_PREEMPT_CNT 1).bump (rHUB_CTX_PRE_CNT (s.tileCtx t)) fHUB_CTX_PRE_CNT_PRE_CNT 1

section
variable {s : State} {t off len : Nat}

theorem State.preempt_eq (s : State) (t off len : Nat) :
    ∃ f, s.preempt t off len = ((s.preemptCounted t off len).modHub f).setTileState t tsLEAP_SAVE := ⟨_, rfl⟩

theorem State.preempt_tile (ht : t < s.tiles.length) :
    (s.preempt t off len).tile t = { s.tile t with leapOff := off, leapLen := len, sampled := some (s.dieTime (t / 32)) } := by
  have tiles : (s.preempt t off len).tiles
      = (s.modTile t (fun x => { x with leapOff := off, leapLen := len, sampled := some (s.dieTime (t / 32)) })).tiles := rfl
  rw [State.tile_congr tiles, State.tile_modTile_same ht]

theorem State.preempt_tileState (s : State) (t off len : Nat) : (s.preempt t off len).tileState t = tsLEAP_SAVE :=
  State.tileState_setTileState _ t tsLEAP_SAVE

theorem State.preempt_mem (s : State) (t off len : Nat) : (s.preempt t off len).mem = s.mem :=
  (State.preempt_frame (F := 49) rfl (.refl _ s)).mem rfl

theorem State.preempt_regs {l : List Addr} (h : rTILE_STATUS t ∈ l) (hc : rCD_SCHED_STAT (t / 32) ∈ l)
    (hp : rHUB_CTX_PRE_CNT (s.tileCtx t) ∈ l) : RegsTraced s (s.preempt t off len) l := by
  have tile : ∀ f, RegsTraced s (s.modTile t f) l := fun _ => (RegsTraced.refl s l).of_regs rfl
  have counted : RegsTraced s (s.preemptCounted t off len) l := RegsTraced.wf (RegsTraced.wf (tile _) hc) hp
  obtain ⟨f, eq⟩ := State.preempt_eq s t off len
  rw [eq]
  exact RegsTraced.wf (counted.of_regs rfl) h

/-- A pre-emption is counted at the die's scheduler and for the context. -/
theorem State.preempt_counts (s : State) (t off len : Nat) :
    Counted s (s.preempt t off len) (rCD_SCHED_STAT (t / 32)) fCD_SCHED_STAT_PREEMPT_CNT 1
    ∧ Counted s (s.preempt t off len) (rHUB_CTX_PRE_CNT (s.tileCtx t)) fHUB_CTX_PRE_CNT_PRE_CNT 1 := by
  obtain ⟨f, eq⟩ := State.preempt_eq s t off len
  have kept : ∀ {a : Addr} (g : Fld), rTILE_STATUS t ≠ a →
      (s.preempt t off len).rf a g = (s.preemptCounted t off len).rf a g := fun {a} g h => by
    rw [eq, State.setTileState, State.rf_wf_other h.symm, State.rf_congr (State.reg_congr (State.modHub_regs _ _) a)]
  have tile : ∀ (h : Tile → Tile) (a : Addr) (g : Fld), (s.modTile t h).rf a g = s.rf a g := fun h a g =>
    State.rf_congr (State.reg_congr (State.modTile_regs s t h) a) g
  constructor
  · rw [Counted, kept _ (rTILE_STATUS_ne_rCD_SCHED_STAT _ _), State.preemptCounted, State.bump,
      State.rf_wf_other (rCD_SCHED_STAT_ne_rHUB_CTX_PRE_CNT _ _), State.rf_bump (by decide), tile]
  · rw [Counted, kept _ (rTILE_STATUS_ne_rHUB_CTX_PRE_CNT _ _), State.preemptCounted, State.rf_bump (by decide), State.bump,
      State.rf_wf_other (rCD_SCHED_STAT_ne_rHUB_CTX_PRE_CNT _ _).symm, tile]

end

/-! ## The command -/

section
variable {s : State} {t e : Nat}

/-- LEAP with no request: the slice runs on. -/
theorem State.leapt_spec (ht : t < 128) (htl : t < s.tiles.length) (hs : s.tileState t = tsRUN)
    (hl : liveOk (liveRange (s.tile t) e) = true) {u : State} (trace : Traced (s.leapt t e) u) :
    (u.tile t).entry = (s.tile t).entry + 1 ∧ u.tileState t = tsRUN
    ∧ u.sramRead t (liveRange (s.tile t) e).1 (liveRange (s.tile t) e).2
      = s.sramRead t (liveRange (s.tile t) e).1 (liveRange (s.tile t) e).2
    ∧ (∀ b, (b < sramBase t ∨ sramBase t + sramBytes ≤ b) → u.mem.byte b = s.mem.byte b)
    ∧ RegsTraced s u [rTILE_STATUS t, rTILE_LEAP_STAT t] := by
  refine ⟨?_, ?_, ?_, fun b hb => ?_, (State.leapt_regs s t e).traceOnly trace.regs⟩
  · rw [trace.tile, State.leapt_tile htl]
  · rw [trace.tileState ht, State.leapt_tileState s ht, hs]
  · rw [State.sramRead, trace.mem]
    exact State.leapt_sramRead hl
  · rw [trace.mem]
    exact State.leapt_byte hl (hb.imp_right .inr)

/-- LEAP under a request or HALT: the slice is pre-empted and goes on to the save of its live range. -/
theorem State.leapt_preempt_spec (ht : t < 128) (htl : t < s.tiles.length)
    (hl : liveOk (liveRange (s.tile t) e) = true) {u : State}
    (trace : Traced ((s.leapt t e).preempt t (liveRange (s.tile t) e).1 (liveRange (s.tile t) e).2) u) :
    (u.tile t).entry = (s.tile t).entry + 1 ∧ u.tileState t = tsLEAP_SAVE ∧ (u.tile t).sampled = some (s.dieTime (t / 32))
    ∧ ((u.tile t).leapOff, (u.tile t).leapLen) = liveRange (s.tile t) e
    ∧ u.sramRead t (u.tile t).leapOff (u.tile t).leapLen = s.sramRead t (u.tile t).leapOff (u.tile t).leapLen
    ∧ Counted s u (rCD_SCHED_STAT (t / 32)) fCD_SCHED_STAT_PREEMPT_CNT 1
    ∧ Counted s u (rHUB_CTX_PRE_CNT (s.tileCtx t)) fHUB_CTX_PRE_CNT_PRE_CNT 1
    ∧ RegsTraced s u [rTILE_STATUS t, rTILE_LEAP_STAT t, rCD_SCHED_STAT (t / 32), rHUB_CTX_PRE_CNT (s.tileCtx t)] := by
  have len : t < (s.leapt t e).tiles.length := by rwa [State.leapt_length]
  have ctx := State.leapt_tileCtx s ht e
  obtain ⟨sched, pre⟩ := State.preempt_counts (s.leapt t e) t (liveRange (s.tile t) e).1 (liveRange (s.tile t) e).2
  rw [ctx] at pre
  have schedWindow := rCD_SCHED_STAT_window (d := t / 32) (by omega)
  have preWindow := rHUB_CTX_PRE_CNT_window (s.tileCtx t)
  have leapt := State.leapt_regs s t e
  rw [trace.tile, State.preempt_tile len, State.leapt_tile htl, State.leapt_dieTime]
  refine ⟨rfl, ?_, rfl, rfl, ?_, ?_, ?_, ?_⟩
  · rw [trace.tileState ht, State.preempt_tileState]
  · rw [State.sramRead, trace.mem, State.preempt_mem]
    exact State.leapt_sramRead hl
  · rw [Counted, State.rf_congr (trace.regs _ schedWindow), sched, State.rf_congr (leapt.reg_eq schedWindow ?_)]
    simp [(rTILE_STATUS_ne_rCD_SCHED_STAT _ _).symm, (rTILE_LEAP_STAT_ne_rCD_SCHED_STAT ht _).symm]
  · rw [Counted, State.rf_congr (trace.regs _ preWindow), pre, State.rf_congr (leapt.reg_eq preWindow ?_)]
    simp [(rTILE_STATUS_ne_rHUB_CTX_PRE_CNT _ _).symm, (rTILE_LEAP_STAT_ne_rHUB_CTX_PRE_CNT _ _).symm]
  · refine ((leapt.mono (by simp)).trans (State.preempt_regs ?_ ?_ ?_) (List.Subset.refl _)).traceOnly trace.regs <;>
      simp [ctx]

end

end Sys2Proof.Machine
end

/-!
Proofs for the tensor tiles, part 7: LEAP_OUT and LEAP_IN (R79, R197), and the statement on loops and leaps.
-/
section
namespace Sys2Proof.Machine

/-! ## An engine's write to HBM -/

/-- A tile's count of corrected errors is all that reading its SRAM may change (R53). -/
theorem State.sramSoft_regs (s : State) (t : Nat) (rd wr : List Span) : RegsBut s (s.sramSoft t rd wr) [rTILE_ECC_CNT t] := by
  intro a ha
  unfold State.sramSoft
  dsimp only
  split
  · rfl
  · exact State.reg_setReg_other _ _ (by simpa using ha)

theorem State.sramSoft_parts (s : State) (t : Nat) (rd wr : List Span) : Within 1 s (s.sramSoft t rd wr) :=
  State.sramSoft_frame rfl (.refl _ s)

theorem RegsBut.reg_eq {s u : State} {a b : Addr} (h : RegsBut s u [b]) (ne : a ≠ b) : u.reg a = s.reg a :=
  h a (by simpa using ne)

theorem rHUB_CTX_RGN_BASE_ne_rTILE_ECC_CNT {t : Nat} (ht : t < 128) (c r : Nat) : rHUB_CTX_RGN_BASE c r ≠ rTILE_ECC_CNT t := by
  show (0x1402001000 + c * 0x10000 + r * 0x10 : Nat) ≠ 0x1400000210 + t * 0x10000
  omega

theorem rHUB_CTX_RGN_LIM_ne_rTILE_ECC_CNT (c r t : Nat) : rHUB_CTX_RGN_LIM c r ≠ rTILE_ECC_CNT t := by
  show (0x1402001008 + c * 0x10000 + r * 0x10 : Nat) ≠ 0x1400000210 + t * 0x10000
  omega

theorem rHUB_TEST_BASE_ne_rTILE_ECC_CNT (t : Nat) : rHUB_TEST_BASE ≠ rTILE_ECC_CNT t := by
  show (0x1401303008 : Nat) ≠ 0x1400000210 + t * 0x10000
  omega

theorem rMC_STATUS_ne_rTILE_ECC_CNT (c t : Nat) : rMC_STATUS c ≠ rTILE_ECC_CNT t := by
  show (0x1400c00000 + c * 0x10000 : Nat) ≠ 0x1400000210 + t * 0x10000
  omega

theorem rTILE_STATUS_ne_rTILE_ECC_CNT (v t : Nat) : rTILE_STATUS v ≠ rTILE_ECC_CNT t := by
  show (0x1400000000 + v * 0x10000 : Nat) ≠ 0x1400000210 + t * 0x10000
  omega

theorem State.zone_hbm {s : State} {a : Nat} (h : a < s.hbmBytes) (h' : a < 0xC00000000) : s.zone a = .hbm := by
  rw [State.zone, if_pos h', if_pos h]

section
variable {s u : State} {t c a n : Nat}

/-- The lines of a range in HBM lie in HBM. -/
theorem zone_line_hbm (hn : a + n ≤ s.hbmBytes) (hc : a + n ≤ 0xC00000000) {l : Nat} (hl : l ∈ unitsOf 64 a n) :
    s.zone (l * 64) = .hbm := by
  obtain ⟨pos, -, top⟩ := mem_unitsOf.1 hl
  exact State.zone_hbm (by omega) (by omega)

theorem State.zone_congr (h : u.hbmBytes = s.hbmBytes) (x : Nat) : u.zone x = s.zone x := by
  unfold State.zone
  rw [h]

theorem State.lineErr_hbm {l : Nat} (h : s.zone (l * 64) = .hbm) :
    s.lineErr l = if s.inTestRegion (l * 64) then some { status := stREGION_FAULT, addr := l * 64 } else none := by
  simp only [State.lineErr, h]

/-- A check of a line of HBM reads no tile's error counts. -/
theorem State.engineLine_ecc (ht : t < 128) (parts : Within 1 s u) (regs : RegsBut s u [rTILE_ECC_CNT t]) (w : Want) {l : Nat}
    (hs : s.zone (l * 64) = .hbm) : u.engineLine c w l = s.engineLine c w l := by
  have base : ∀ r, u.reg (rHUB_CTX_RGN_BASE c r) = s.reg (rHUB_CTX_RGN_BASE c r) := fun r =>
    regs.reg_eq (rHUB_CTX_RGN_BASE_ne_rTILE_ECC_CNT ht c r)
  have lim : ∀ r, u.reg (rHUB_CTX_RGN_LIM c r) = s.reg (rHUB_CTX_RGN_LIM c r) := fun r =>
    regs.reg_eq (rHUB_CTX_RGN_LIM_ne_rTILE_ECC_CNT c r t)
  have hu : u.zone (l * 64) = .hbm := by
    rw [State.zone_congr (s := s) (by rw [State.hbmBytes, State.hbmBytes, parts.fuses rfl]), hs]
  have region : u.regionOf c l = s.regionOf c l := by
    simp only [State.regionOf, base, lim]
  have input : u.inputLine c l = s.inputLine c l := by
    simp only [State.inputLine, State.inputMask, State.ctx, parts.hub rfl, base, lim]
  have tested : u.inTestRegion (l * 64) = s.inTestRegion (l * 64) := by
    simp only [State.inTestRegion, State.rf, regs.reg_eq (rHUB_TEST_BASE_ne_rTILE_ECC_CNT t)]
  have line : u.lineErr l = s.lineErr l := by rw [State.lineErr_hbm hu, State.lineErr_hbm hs, tested]
  simp only [State.engineLine, region, input, line, base]

theorem State.engineErr_ecc (ht : t < 128) (parts : Within 1 s u) (regs : RegsBut s u [rTILE_ECC_CNT t]) (w : Want)
    (hn : a + n ≤ s.hbmBytes) (hc : a + n ≤ 0xC00000000) : u.engineErr c w a n = s.engineErr c w a n := by
  have same : ∀ l ∈ unitsOf 64 a n, u.engineLine c w l = s.engineLine c w l := fun l hl =>
    State.engineLine_ecc ht parts regs w (zone_line_hbm hn hc hl)
  unfold State.engineErr
  generalize unitsOf 64 a n = l at same ⊢
  induction l with
  | nil => rfl
  | cons x r ih =>
    rw [List.findSome?_cons, List.findSome?_cons, same x List.mem_cons_self, ih (fun l hl => same l (List.mem_cons_of_mem x hl))]

theorem State.alive_ecc (regs : RegsBut s u [rTILE_ECC_CNT t]) (h : s.alive a n) : u.alive a n := by
  intro l hl
  rw [← h l hl]
  simp only [State.mcDead, State.mcState, State.rf, regs.reg_eq (rMC_STATUS_ne_rTILE_ECC_CNT _ t)]

/-- A range of HBM lies in no tile's window. -/
theorem windowParts_hbm (h : a + n ≤ 0xC00000000) : windowParts a n = [] := by
  rw [windowParts, if_neg (by omega)]

/-- A write of an engine to HBM that no check refuses is a write of memory. -/
theorem State.engWrite_hbm {bs : List Byte} (hn : a + bs.length ≤ s.hbmBytes) (hc : a + bs.length ≤ 0xC00000000)
    (pos : 0 < bs.length) (ok : s.engineErr c .wr a bs.length = none) : s.engWrite c a bs = (s.memWrite a bs, none) := by
  have zone : s.zone a = .hbm := State.zone_hbm (by omega) (by omega)
  simp only [State.engWrite, ok, State.windowEcc, State.windowTorn, windowParts_hbm hc, List.foldl_nil, List.any_nil,
    Bool.false_eq_true, if_false, State.putBytes, zone]

end

/-! ## LEAP_OUT -/

theorem exec_leapOut (t : Nat) (s : State) : exec (.leapOut t) s = execLeapOut t s := rfl

/-- The live range of a slice that is being saved. -/
abbrev Tile.liveSpan (x : Tile) : Span := { lo := x.leapOff, hi := x.leapOff + x.leapLen }

/-- What follows once a slice's state stands in its save area: the slice is on its kernel's resume list. `c`, `n` and `sl` are
the slice's context, kernel and number, `len` the bytes moved. -/
def State.relisted (s : State) (t c n sl len : Nat) (cmd : TraceCmd) : State :=
  ((s.moved t len).traceEvent t evLEAP_OUT cmd).modKernel c n (fun k => { k with resume := setIns k.resume sl })

/-- The saved slice has left its tile. -/
def State.saved (s : State) (t c n sl len : Nat) (cmd : TraceCmd) : State :=
  ((s.relisted t c n sl len cmd).modTile t
    (fun x => { x with owed := x.req.map (fun r => (r.ctx, r.num)), req := none, sampled := none })).leaveTile t

section
variable {s : State} {t c n sl len : Nat} {cmd : TraceCmd} {k : Kernel}

theorem State.relisted_spec (ht : t < 128) (hk : s.kernel c n = some k) :
    (s.relisted t c n sl len cmd).kernel c n = some { k with resume := setIns k.resume sl }
    ∧ (s.relisted t c n sl len cmd).tiles = s.tiles ∧ (s.relisted t c n sl len cmd).tileCtx t = s.tileCtx t
    ∧ (s.relisted t c n sl len cmd).mem = s.mem ∧ TraceOnly s (s.relisted t c n sl len cmd) := by
  have trace : Traced s ((s.moved t len).traceEvent t evLEAP_OUT cmd) :=
    State.traceEvent_traced (State.moved_traced (.refl s) (by omega) len) t evLEAP_OUT cmd
  unfold State.relisted
  generalize State.traceEvent _ _ _ _ = x at trace ⊢
  refine ⟨?_, trace.tiles, trace.tileCtx ht, trace.mem, trace.regs.of_regs rfl⟩
  rw [State.kernel_modKernel (by exact fun _ => ⟨rfl, rfl⟩), trace.kernel, hk]
  rfl

/-- A slice that leaves its tile: its kernel holds one tile fewer, whatever else of the tile's record has changed. -/
theorem State.kernel_freed (htl : t < s.tiles.length) {f : Tile → Tile} (hf : ∀ x, (f x).knum = x.knum) :
    ((s.modTile t f).leaveTile t).kernel (s.tileCtx t) (s.tile t).knum
      = (s.kernel (s.tileCtx t) (s.tile t).knum).map (fun k => { k with held := k.held - 1 }) := by
  have left := State.kernel_leaveTile (s.modTile t f) t
  rw [State.tileCtx_congr (State.reg_congr (State.modTile_regs s t f) _), State.tile_modTile_same htl, hf] at left
  exact left

theorem State.saved_spec (ht : t < 128) (htl : t < s.tiles.length) (hc : s.tileCtx t = c) (hn : (s.tile t).knum = n)
    (hk : s.kernel c n = some k) :
    (s.saved t c n sl len cmd).tileState t = tsIDLE ∧ ((s.saved t c n sl len cmd).tile t).req = none
    ∧ (s.saved t c n sl len cmd).kernel c n = some { k with resume := setIns k.resume sl, held := k.held - 1 }
    ∧ RegsTraced s (s.saved t c n sl len cmd) [rTILE_STATUS t] ∧ (s.saved t c n sl len cmd).mem = s.mem := by
  obtain ⟨listed, tiles, ctx, mem, regs⟩ := State.relisted_spec (sl := sl) (len := len) (cmd := cmd) ht hk
  unfold State.saved
  generalize s.relisted t c n sl len cmd = y at listed tiles ctx mem regs ⊢
  have htl' : t < y.tiles.length := by rwa [tiles]
  have freed := State.kernel_freed htl'
    (f := fun x => { x with owed := x.req.map (fun r => (r.ctx, r.num)), req := none, sampled := none }) (fun _ => rfl)
  rw [ctx, hc, State.tile_congr tiles, hn, listed] at freed
  have wrote : RegsTraced s y [rTILE_STATUS t] := (RegsTraced.refl s _).traceOnly regs
  refine ⟨State.tileState_setTileState _ t tsIDLE, ?_, freed, (wrote.of_regs rfl).leaveTile (List.mem_singleton_self _), mem⟩
  rw [State.tile_congr (State.leaveTile_tiles _ t), State.tile_modTile_same htl']

/-- LEAP_OUT whose bytes read clean and whose save area takes them. -/
theorem exec_leapOut_ok {bs : List Byte} {u : State} (hs : s.tileState t = tsLEAP_SAVE)
    (hk : s.kernel (s.tileCtx t) (s.tile t).knum = some k)
    (hb : bs = savedHead (s.tile t) ++ s.sramRead t (s.tile t).leapOff (s.tile t).leapLen)
    (clean : s.sramBad t [(s.tile t).liveSpan] [] = false)
    (written : (s.sramSoft t [(s.tile t).liveSpan] []).engWrite
      (s.tileCtx t) (k.save + s.tileSlice t * k.saveBytes) bs = (u, none)) :
    exec (.leapOut t) s
      = .next (u.saved t (s.tileCtx t) (s.tile t).knum (s.tileSlice t) bs.length (s.sliceCmd t 0)) := by
  subst hb
  simp only [exec_leapOut, execLeapOut, hs, bne_self_eq_false, Bool.false_eq_true, if_false, hk, clean, written]
  rfl

/-- LEAP_OUT: the sequencer and the live range stand in the save area, and the tile is free. -/
theorem leapOut_runs {bs : List Byte} (ht : t < 128) (htl : t < s.tiles.length) (hs : s.tileState t = tsLEAP_SAVE)
    (hk : s.kernel (s.tileCtx t) (s.tile t).knum = some k)
    (hb : bs = savedHead (s.tile t) ++ s.sramRead t (s.tile t).leapOff (s.tile t).leapLen)
    (clean : s.sramBad t [(s.tile t).liveSpan] [] = false)
    (room : s.storable (k.save + s.tileSlice t * k.saveBytes) bs.length)
    (ok : s.engineErr (s.tileCtx t) .wr (k.save + s.tileSlice t * k.saveBytes) bs.length = none) :
    Runs (.leapOut t) s (fun u =>
      Stored s u (k.save + s.tileSlice t * k.saveBytes) bs ∧ u.tileState t = tsIDLE ∧ (u.tile t).req = none
      ∧ u.kernel (s.tileCtx t) (s.tile t).knum = some { k with resume := setIns k.resume (s.tileSlice t), held := k.held - 1 }
      ∧ RegsTraced s u [rTILE_STATUS t, rTILE_ECC_CNT t]) := by
  obtain ⟨⟨pos, inPart, inHbm, -⟩, alive⟩ := room
  have parts := State.sramSoft_parts s t [(s.tile t).liveSpan] []
  have regs := State.sramSoft_regs s t [(s.tile t).liveSpan] []
  have exec := fun u => exec_leapOut_ok (u := u) hs hk hb clean
  generalize State.sramSoft _ _ _ _ = x at parts regs exec
  have write := State.engWrite_hbm (s := x) (by rwa [State.hbmBytes, parts.fuses rfl]) inHbm pos
    ((State.engineErr_ecc ht parts regs .wr inPart inHbm).trans ok)
  obtain ⟨m, lands, holds⟩ := State.memWrite_alive (State.alive_ecc regs alive)
  rw [lands] at write
  refine ⟨_, exec _ write, ?_⟩
  have status : (x.modMem (fun _ => m)).reg (rTILE_STATUS t) = s.reg (rTILE_STATUS t) :=
    regs.reg_eq (rTILE_STATUS_ne_rTILE_ECC_CNT t t)
  have tiles : (x.modMem (fun _ => m)).tiles = s.tiles := parts.tiles rfl
  have kernel : (x.modMem (fun _ => m)).kernel (s.tileCtx t) (s.tile t).knum = some k := by
    rw [← hk]; exact State.kernel_congr (by rw [State.modMem_hub, parts.hub rfl]) _ _
  obtain ⟨idle, req, left, wrote, mem⟩ := State.saved_spec (sl := s.tileSlice t) (len := bs.length) (cmd := s.sliceCmd t 0) ht
    (by rwa [tiles]) (State.tileCtx_congr status) (by rw [State.tile_congr tiles]) kernel
  refine ⟨.of_holds ?_, idle, req, left, ?_⟩
  · rw [mem, ← parts.mem rfl]
    exact holds
  · have soft : RegsTraced s (x.modMem (fun _ => m)) [rTILE_STATUS t, rTILE_ECC_CNT t] :=
      fun a _ ha => regs a (fun h => ha (List.mem_cons_of_mem _ h))
    exact soft.trans wrote (by simp)

end

end Sys2Proof.Machine
end

/-!
Proofs for the tensor tiles, part 8: LEAP_IN (R79, R197), and the statement on loops and leaps.
-/
section
namespace Sys2Proof.Machine

theorem exec_leapIn (t : Nat) (s : State) : exec (.leapIn t) s = execLeapIn t s := rfl

/-- The record of a tile whose slice runs on from a restored state: the leap gap counts from `now`. -/
def Tile.runningFrom (x : Tile) (now : Nat) : Tile := { x with resuming := false, gapFrom := now }

/-- The state in which a tile's record is `x` and the live range stands in its SRAM at `off`. -/
def State.refilled (s : State) (t off : Nat) (x : Tile) (live : List Byte) : State :=
  ((s.modTile t (fun _ => x.runningFrom (s.dieTime (t / 32)))).setEntry t x.entry).sramWrite t off live

/-- The lost time of a slice up to now: it counts from the slice's pre-emption (R197). -/
def State.lostSince (s : State) (t c n sl : Nat) : Nat :=
  match s.hub.lost.find? (fun l => l.ctx == c && l.num == n && l.slice == sl) with
  | some l => s.dieTime (t / 32) - l.since
  | none => 0

/-- What follows once a slice is restored: its lost time `lost` is counted and no longer kept, and the tile runs. `c`, `n` and
`sl` are the slice's context, kernel and number, `len` the bytes moved. -/
def State.resumed (s : State) (t c n sl lost len : Nat) (cmd : TraceCmd) : State :=
  ((((s.wrapAdd (rHUB_CTX_LOST_SUM c) fHUB_CTX_LOST_SUM_LOST_SUM_NS lost).modHub (fun h =>
    { h with lost := h.lost.filter (fun l => !(l.ctx == c && l.num == n && l.slice == sl)) })).traceEvent t evLEAP_IN cmd).moved t
    len).setTileState t tsRUN

/-- The live range of the LEAP before a restored state's entry. -/
abbrev restoredRange (x : Tile) (im : Image) (h : Nat) : Nat × Nat :=
  liveRange (restoreHead x h) (im.ops.getD (bytesOf h 144 2 - 1) 0)

section
variable {s : State} {t : Nat}

/-- LEAP_IN whose saved state reads back and is in order. -/
theorem exec_leapIn_ok {k : Kernel} {im : Image} {hb live : List Byte} (hs : s.tileState t = tsLEAP_RESTORE)
    (hk : s.kernel (s.tileCtx t) (s.tile t).knum = some k) (hi : (s.tile t).image = some im)
    (head : s.engRead (s.tileCtx t) (k.save + s.tileSlice t * k.saveBytes) 256 = .ok hb)
    (order : restoreOk im (leNat hb) = true) (fits : liveOk (restoredRange (s.tile t) im (leNat hb)) = true)
    (body : s.section (s.tileCtx t) (k.save + s.tileSlice t * k.saveBytes + 256) (restoredRange (s.tile t) im (leNat hb)).2
      = .ok live) :
    exec (.leapIn t) s = .next
      ((s.refilled t (restoredRange (s.tile t) im (leNat hb)).1 (restoreHead (s.tile t) (leNat hb)) live).resumed t (s.tileCtx t)
        (s.tile t).knum (s.tileSlice t) (s.lostSince t (s.tileCtx t) (s.tile t).knum (s.tileSlice t))
        (256 + (restoredRange (s.tile t) im (leNat hb)).2) (s.sliceCmd t 0)) := by
  have entry : (restoreHead (s.tile t) (leNat hb)).entry = bytesOf (leNat hb) 144 2 := rfl
  simp only [exec_leapIn, execLeapIn, hs, bne_self_eq_false, Bool.false_eq_true, if_false, hk, hi, head, order, Bool.not_true,
    entry, fits, body]
  rfl

theorem State.refilled_eq (s : State) (t off : Nat) (x : Tile) (live : List Byte) :
    s.refilled t off x live
      = ((s.modTile t (fun _ => x.runningFrom (s.dieTime (t / 32)))).setEntry t x.entry).modMem
        (fun m => m.write (sramBase t + off) live) := State.sramWrite_eq _ t off live

/-- A slice's record and its live range are back in its tile. -/
theorem State.refilled_spec (htl : t < s.tiles.length) (off : Nat) (x : Tile) (live : List Byte) :
    (s.refilled t off x live).tile t = x.runningFrom (s.dieTime (t / 32))
    ∧ (∀ v, v ≠ t → (s.refilled t off x live).tile v = s.tile v)
    ∧ Stored s (s.refilled t off x live) (sramBase t + off) live
    ∧ RegsTraced s (s.refilled t off x live) [rTILE_STATUS t] := by
  have start : RegsTraced s (s.modTile t (fun _ => x.runningFrom (s.dieTime (t / 32)))) [rTILE_STATUS t] :=
    (RegsTraced.refl s _).of_regs rfl
  have len : t < (s.modTile t (fun _ => x.runningFrom (s.dieTime (t / 32)))).tiles.length := by
    rwa [State.modTile_tiles, length_modAt]
  rw [State.refilled_eq]
  refine ⟨?_, fun v hv => ?_, .of_holds (Mem.holds_write s.mem _ live), ?_⟩
  · rw [State.tile_congr (State.modMem_tiles _ _), State.tile_setEntry_same len, State.tile_modTile_same htl]
    rfl
  · rw [State.tile_congr (State.modMem_tiles _ _), State.tile_setEntry_other hv, State.tile_modTile_other hv]
  · exact (start.setEntry (List.mem_singleton_self _) x.entry).of_regs (State.modMem_regs _ _)

theorem State.resumed_spec (ht : t < 128) (c n sl lost len : Nat) (cmd : TraceCmd) :
    (s.resumed t c n sl lost len cmd).tileState t = tsRUN ∧ (s.resumed t c n sl lost len cmd).tiles = s.tiles
    ∧ (s.resumed t c n sl lost len cmd).mem = s.mem
    ∧ RegsTraced s (s.resumed t c n sl lost len cmd) [rTILE_STATUS t, rHUB_CTX_LOST_SUM c] := by
  unfold State.resumed
  have counted : RegsTraced s (s.wrapAdd (rHUB_CTX_LOST_SUM c) fHUB_CTX_LOST_SUM_LOST_SUM_NS lost)
      [rTILE_STATUS t, rHUB_CTX_LOST_SUM c] := RegsTraced.wf (.refl s _) (by simp)
  have trace := State.moved_traced (State.traceEvent_traced (.refl ((s.wrapAdd (rHUB_CTX_LOST_SUM c)
    fHUB_CTX_LOST_SUM_LOST_SUM_NS lost).modHub (fun h => { h with
      lost := h.lost.filter (fun l => !(l.ctx == c && l.num == n && l.slice == sl)) }))) t evLEAP_IN cmd) (e := t) (by omega) len
  generalize State.moved _ _ _ = x at trace ⊢
  exact ⟨State.tileState_setTileState x t tsRUN, trace.tiles, trace.mem,
    RegsTraced.wf ((counted.of_regs (State.modHub_regs _ _)).traceOnly trace.regs) List.mem_cons_self⟩

end

/-! ## The statement -/

/-- Settles O9, by what each command's next state reads: a turn of a LOOP, a LEAP that goes on or is pre-empted, and a state
saved and restored. -/
theorem loopsReturnAndLeapsSave : Obligations.LoopsReturnAndLeapsSave := by
  unfold Obligations.LoopsReturnAndLeapsSave
  constructor
  · intro s t e _ht htl he ho hr _ ha
    have exec := exec_loop_ready he ho hr
    obtain ⟨flight, kept⟩ := loopStep_keeps (e := e) ha
    obtain ⟨tile, others, regs, mem⟩ := State.looped_spec htl e (loopStep (s.tile t) e).1 (loopStep (s.tile t) e).2
    generalize s.looped _ _ _ _ = u at exec tile others regs mem
    constructor
    · intro hc
      refine ⟨u, exec, ?_, ?_, fun k _ hk => ?_, fun k hk => ?_, ?_, others, regs, mem⟩ <;> rw [tile]
      · rw [loopStep_again hc]
      · rw [loopStep_again hc]
      · exact loopStep_again_arg ha hc hk
      · exact kept k hk
      · exact flight
    · intro hc
      refine ⟨u, exec, ?_, ?_, fun k _ hk => ?_, fun k hk => ?_, ?_, others, regs, mem⟩ <;> rw [tile]
      · rw [loopStep_leaves hc]
      · rw [loopStep_leaves hc]
      · exact loopStep_leaves_arg ha hc hk
      · exact kept k hk
      · exact flight
  · intro s t ht hlen
    have htl : t < s.tiles.length := hlen ▸ ht
    refine ⟨fun e he ho hf hu hl => ⟨fun hq hh => ?_, fun hq => ?_⟩, ?_, ?_⟩
    · refine ⟨_, exec_leap_ready he ho hf hu hl, ?_⟩
      rw [hq, hh]
      exact State.leapt_spec ht htl (State.nextEntry_run he) hl (State.markDone_traced ..)
    · refine ⟨_, exec_leap_ready he ho hf hu hl, ?_⟩
      rw [if_pos (by simpa using hq)]
      exact State.leapt_preempt_spec ht htl hl (State.markDone_traced ..)
    · exact fun k bs hs hk hb clean room ok => leapOut_runs ht htl hs hk hb clean room ok
    · intro k im hb live hs hk hi head order fits body
      obtain ⟨tile, others, stored, refilled⟩ := State.refilled_spec htl (restoredRange (s.tile t) im (leNat hb)).1
        (restoreHead (s.tile t) (leNat hb)) live
      refine ⟨_, exec_leapIn_ok hs hk hi head order fits body, ?_⟩
      generalize s.refilled _ _ _ _ = x at tile others stored refilled ⊢
      obtain ⟨run, tiles, mem, regs⟩ := State.resumed_spec (s := x) ht (s.tileCtx t) (s.tile t).knum (s.tileSlice t)
        (s.lostSince t (s.tileCtx t) (s.tile t).knum (s.tileSlice t)) (256 + (restoredRange (s.tile t) im (leNat hb)).2)
        (s.sliceCmd t 0)
      generalize x.resumed _ _ _ _ _ _ _ = u at run tiles mem regs ⊢
      rw [State.tile_congr tiles, tile]
      refine ⟨run, rfl, rfl, rfl, rfl, ?_, fun v hv => (State.tile_congr tiles v).trans (others v hv), ?_⟩
      · rw [Stored, mem]
        exact stored
      · exact (refilled.mono (by simp)).trans regs (List.Subset.refl _)

end Sys2Proof.Machine
end

/-!
Proofs for the command queues, part 1: doorbells and CQ_HEAD writes (R161).
-/
section
namespace Sys2Proof.Machine

/-! ## Registers that an operation keeps -/

/-- `t` reads every register of which `P` holds as `s` does. -/
def RegsKept (P : Addr → Prop) (s t : State) : Prop := ∀ a, P a → t.reg a = s.reg a

section
variable {P : Addr → Prop} {r s t : State}

theorem RegsKept.refl (s : State) : RegsKept P s s := fun _ _ => rfl

theorem RegsKept.trans (h : RegsKept P r s) (k : RegsKept P s t) : RegsKept P r t := fun a ha => (k a ha).trans (h a ha)

theorem RegsKept.of_regs (h : RegsKept P r s) (e : t.regs = s.regs) : RegsKept P r t :=
  fun a ha => (State.reg_congr e a).trans (h a ha)

theorem RegsKept.setReg {b : Addr} {w : Word} (h : RegsKept P r s) (hb : ¬ P b) : RegsKept P r (s.setReg b w) :=
  fun a ha => (State.reg_setReg_other _ _ (by rintro rfl; exact hb ha)).trans (h a ha)

theorem RegsKept.wf {b : Addr} {f : Fld} {v : Nat} (h : RegsKept P r s) (hb : ¬ P b) : RegsKept P r (s.wf b f v) := h.setReg hb

theorem RegsKept.bump {b : Addr} {f : Fld} {n : Nat} (h : RegsKept P r s) (hb : ¬ P b) : RegsKept P r (s.bump b f n) := h.wf hb

theorem RegsKept.rf (h : RegsKept P s t) {a : Addr} (ha : P a) (f : Fld) : t.rf a f = s.rf a f := State.rf_congr (h a ha) f

theorem RegsBut.refl (s : State) (l : List Addr) : RegsBut s s l := RegsKept.refl s

theorem RegsBut.trans {l : List Addr} (h : RegsBut r s l) (k : RegsBut s t l) : RegsBut r t l := RegsKept.trans h k

theorem RegsBut.mono {l m : List Addr} (h : RegsBut s t l) (hlm : l ⊆ m) : RegsBut s t m :=
  fun a ha => h a (fun hl => ha (hlm hl))

theorem RegsBut.of_regs {l : List Addr} (h : RegsBut r s l) (e : t.regs = s.regs) : RegsBut r t l := RegsKept.of_regs h e

theorem RegsBut.wf {l : List Addr} {b : Addr} {f : Fld} {v : Nat} (h : RegsBut r s l) (hb : b ∈ l) : RegsBut r (s.wf b f v) l :=
  RegsKept.wf h (not_not_intro hb)

theorem RegsBut.bump {l : List Addr} {b : Addr} {f : Fld} {n : Nat} (h : RegsBut r s l) (hb : b ∈ l) :
    RegsBut r (s.bump b f n) l := h.wf hb

end

/-! ## Registers of the contexts and doorbells stand above all others -/

/-- An address of a context's window or of the doorbell pages (Tables 0.5, 7.1). -/
def ctxReg (a : Addr) : Prop := 0x1402000000 ≤ a

theorem ctxReg_ptrs (c : Nat) : ctxReg (rHUB_CTX_PTRS c) := by
  show (0x1402000000 : Nat) ≤ 0x1402000020 + c * 0x10000
  omega

theorem ctxReg_status (c : Nat) : ctxReg (rHUB_CTX_STATUS c) := by
  show (0x1402000000 : Nat) ≤ 0x1402000018 + c * 0x10000
  omega

theorem ctxReg_cnt (c : Nat) : ctxReg (rHUB_CTX_CNT c) := by
  show (0x1402000000 : Nat) ≤ 0x1402000100 + c * 0x10000
  omega

theorem ctxReg_sq (c : Nat) : ctxReg (rHUB_CTX_SQ c) := by
  show (0x1402000000 : Nat) ≤ 0x1402000008 + c * 0x10000
  omega

theorem ctxReg_sqTail (c : Nat) : ctxReg (rDB_SQ_TAIL c) := by
  show (0x1402000000 : Nat) ≤ 0x1800000000 + c * 0x1000
  omega

theorem ctxReg_cqHead (c : Nat) : ctxReg (rDB_CQ_HEAD c) := by
  show (0x1402000000 : Nat) ≤ 0x1800000008 + c * 0x1000
  omega

theorem not_ctxReg_rPM_STATUS : ¬ ctxReg rPM_STATUS := by
  unfold ctxReg
  decide

theorem RegsBut.ctxKept {s t : State} (h : RegsBut s t [rPM_STATUS]) : RegsKept ctxReg s t :=
  fun a ha => h a (by rintro (_ | ⟨_, ⟨⟩⟩); exact not_ctxReg_rPM_STATUS ha)

/-- Another context's tail stands in another register. -/
theorem rDB_SQ_TAIL_inj {c e : Nat} (h : rDB_SQ_TAIL c = rDB_SQ_TAIL e) : c = e := by
  have h' : (0x1800000000 + c * 0x1000 : Nat) = 0x1800000000 + e * 0x1000 := h
  omega

theorem rHUB_CTX_PTRS_ne_rDB_SQ_TAIL (c e : Nat) : rHUB_CTX_PTRS c ≠ rDB_SQ_TAIL e := by
  show (0x1402000020 + c * 0x10000 : Nat) ≠ 0x1800000000 + e * 0x1000
  omega

theorem rHUB_CTX_STATUS_ne_rHUB_CTX_CNT (c e : Nat) : rHUB_CTX_STATUS c ≠ rHUB_CTX_CNT e := by
  show (0x1402000018 + c * 0x10000 : Nat) ≠ 0x1402000100 + e * 0x10000
  omega

/-! ## The end of IDLE, and the state a port's access finds (R377) -/

theorem State.idleExit_regs (s : State) : RegsBut s s.idleExit [rPM_STATUS] :=
  fun _ ha => State.reg_idleExit (by simpa using ha)

theorem State.answered_regs (s : State) (p : Port) (x : Answer) : (s.answered p x).regs = s.regs := rfl

theorem State.answered_mem (s : State) (p : Port) (x : Answer) : (s.answered p x).mem = s.mem := rfl

theorem State.rf_answered (s : State) (p : Port) (x : Answer) (a : Addr) (f : Fld) : (s.answered p x).rf a f = s.rf a f :=
  State.rf_congr (State.reg_answered s p x a) f

theorem State.answered_did (s : State) (p : Port) : (s.answered p .done).did p := ⟨rfl, rfl⟩

/-- The state that a port's access to `a` acts on. -/
abbrev State.found (s : State) (p : Port) (a : Addr) : State := (s.dropStaged p a).wakeFor p a

theorem State.found_regs (s : State) (p : Port) (a : Addr) : RegsBut s (s.found p a) [rPM_STATUS] := by
  unfold State.found State.wakeFor
  split
  · exact State.idleExit_regs (s.dropStaged p a)
  · exact .refl s _

/-- The end of IDLE after the port has found the state: PM_STATUS and the port's staged halves are all that differs. -/
theorem State.found_idleExit_regs (s : State) (p : Port) (a : Addr) : RegsBut s (s.found p a).idleExit [rPM_STATUS] :=
  (s.found_regs p a).trans (State.idleExit_regs _)

theorem State.found_parts (s : State) (p : Port) (a : Addr) : Within 5 s (s.found p a) :=
  State.wakeFor_frame rfl (State.dropStaged_frame rfl (.refl _ s))

theorem State.found_idleExit_parts (s : State) (p : Port) (a : Addr) : Within 5 s (s.found p a).idleExit :=
  State.idleExit_frame rfl (s.found_parts p a)

/-! ## What a doorbell does to an entry to a power state (R380) -/

theorem refuser_id {id : Nat} {o : Option Nat} {h : Nat × Nat} (m : h ∈ refuser id o) : h.1 = id := by
  cases o with
  | none => cases m
  | some d => rw [List.mem_singleton.1 m]

/-- The refusers of Table 17.4 are numbered 1 to 7. -/
theorem State.refusers_le {s : State} {busy : Option Nat} {h : Nat × Nat} (m : h ∈ s.refusers busy) : h.1 ≤ 7 := by
  simp only [State.refusers, List.mem_append, or_assoc] at m
  rcases m with m | m | m | m | m | m | m
  · unfold State.trafficRefuses at m
    split at m
    · simp [List.mem_singleton.1 m]
    · simp [refuser_id m]
  · simp [refuser_id m]
  · unfold State.islandRefuses at m
    split_ifs at m
    · simp [List.mem_singleton.1 m]
    · simp [List.mem_singleton.1 m]
    · cases m
  · unfold State.thermalRefuses at m
    dsimp only at m
    split_ifs at m
    · simp [List.mem_singleton.1 m]
    · cases m
  · unfold State.testRefuses at m
    split_ifs at m
    · simp [refuser_id m]
    · cases m
  · split_ifs at m
    · simp [List.mem_singleton.1 m]
    · cases m
  · split_ifs at m
    · simp [List.mem_singleton.1 m]
    · cases m

theorem State.entryRefusers_le {s : State} {h : Nat × Nat} (m : h ∈ s.entryRefusers) : h.1 ≤ 7 :=
  State.refusers_le (List.mem_of_mem_filter m)

theorem not_ctxReg_rPM_REF_CNT {k : Nat} (hk : k ≤ 7) : ¬ ctxReg (rPM_REF_CNT (k - 1)) := by
  show ¬ (0x1402000000 ≤ 0x1401350210 + (k - 1) * 0x8)
  omega

/-- An abort of an entry is accounted in the window of the PMC (R387). -/
theorem State.powerEvent_kept {kind : Nat} (hk : kind ≠ 3) (target : Nat) {held : List (Nat × Nat)}
    (hh : ∀ h ∈ held, h.1 ≤ 7) (s : State) : RegsKept ctxReg s (s.powerEvent kind target held) := by
  have counted : ∀ l : List (Nat × Nat), (∀ h ∈ l, h.1 ≤ 7) → ∀ x : State, RegsKept ctxReg s x → RegsKept ctxReg s
      (l.foldl (fun x h =>
        x.bump (rPM_REF_CNT (h.1 - 1)) (if kind = 2 then fPM_REF_CNT_ABORTED else fPM_REF_CNT_REFUSED) 1) x) := by
    intro l
    induction l with
    | nil => exact fun _ _ hx => hx
    | cons h l ih =>
      exact fun hl x hx => ih (fun k hk => hl k (List.mem_cons_of_mem h hk)) _
        (hx.bump (not_ctxReg_rPM_REF_CNT (hl h List.mem_cons_self)))
  unfold State.powerEvent
  rw [if_neg hk]
  dsimp only
  exact ((counted held hh s (.refl s)).setReg (by unfold ctxReg; decide)).setReg (by unfold ctxReg; decide)

theorem State.abortEntry_kept (s : State) : RegsKept ctxReg s (s.abortEntry s.entryRefusers) := by
  have event := State.powerEvent_kept (kind := 2) (by decide) s.pw.target (fun _ m => State.entryRefusers_le (s := s) m) s
  unfold State.abortEntry State.backToRun State.unpark
  exact RegsKept.of_regs ((event.wf not_ctxReg_rPM_STATUS).wf not_ctxReg_rPM_STATUS)
    (by rw [State.modHarts_regs, State.modPw_regs, State.clrFlag, State.setPowerState])

/-- What a doorbell does to an entry to a power state writes no register of a context. -/
theorem State.doorbellPower_kept (s : State) (c : Nat) : RegsKept ctxReg s (s.doorbellPower c) := by
  unfold State.doorbellPower State.entryCheck State.entryStep
  split_ifs
  · exact .refl s
  · exact s.abortEntry_kept
  · exact .refl s
  · exact .refl s
  · exact .refl s

/-- With no transition under way a doorbell leaves the power state alone. -/
theorem State.doorbellPower_idle {s : State} (h : s.pw.phase = 0) (c : Nat) : s.doorbellPower c = s := by
  simp [State.doorbellPower, State.entering, between, h]

theorem State.doorbellPower_mem (s : State) (c : Nat) : (s.doorbellPower c).mem = s.mem :=
  (State.doorbellPower_frame (F := 4718593) rfl (.refl _ s)).mem rfl

/-! ## The two commands -/

theorem exec_doorbellWrite (p : Port) (c v : Nat) (s : State) : exec (.doorbellWrite p c v) s = execDoorbellWrite p c v s := rfl

theorem exec_cqHeadWrite (p : Port) (c v : Nat) (s : State) : exec (.cqHeadWrite p c v) s = execCqHeadWrite p c v s := rfl

section
variable {s : State} {p : Port} {c v : Nat}

theorem exec_doorbellWrite_ok (hc : c < 64) (hv : v < 2 ^ 32) (h : s.accepts p (rDB_SQ_TAIL c)) :
    exec (.doorbellWrite p c v) s = .next (((s.found p (rDB_SQ_TAIL c)).doorbell c v).answered p .done) := by
  rw [exec_doorbellWrite, execDoorbellWrite, if_pos hc, State.access_ok h, Nat.mod_eq_of_lt hv]

theorem exec_cqHeadWrite_ok (hc : c < 64) (hv : v < 2 ^ 32) (h : s.accepts p (rDB_CQ_HEAD c)) :
    exec (.cqHeadWrite p c v) s = .next (((s.found p (rDB_CQ_HEAD c)).cqHeadWrite c v).answered p .done) := by
  rw [exec_cqHeadWrite, execCqHeadWrite, if_pos hc, State.access_ok h, Nat.mod_eq_of_lt hv]

/-- The test that R161 makes of a doorbell's value. -/
abbrev State.tailInRange (s : State) (c v : Nat) : Prop :=
  sub32 v (s.sqHead c) ≤ s.sqSize c ∧ sub32 v (s.sqTail c) ≤ s.sqSize c

/-- The test that R161 makes of a CQ_HEAD write's value. -/
abbrev State.headInRange (s : State) (c v : Nat) : Prop := sub32 v (s.cqHead c) ≤ sub32 (s.cqTail c) (s.cqHead c)

theorem State.tailInRange_congr {u : State} (h : RegsKept ctxReg s u) : u.tailInRange c v ↔ s.tailInRange c v := by
  simp only [State.tailInRange, State.sqHead, State.sqSize, State.sqTail, h.rf (ctxReg_ptrs c), h.rf (ctxReg_sq c),
    h.rf (ctxReg_sqTail c)]

theorem State.headInRange_congr {u : State} (h : RegsKept ctxReg s u) : u.headInRange c v ↔ s.headInRange c v := by
  simp only [State.headInRange, State.cqHead, State.cqTail, h.rf (ctxReg_ptrs c), h.rf (ctxReg_cqHead c)]

/-! ## What each outcome leaves

`x` is the state after the end of IDLE: it differs from `s` in PM_STATUS and in the ports' staged halves. -/

section
variable {x : State} (regs : RegsBut s x [rPM_STATUS])
include regs

theorem State.tailWritten_spec (mem : x.mem = s.mem) (pw : x.pw = s.pw) (hv : v < 2 ^ 32) :
    (((x.wf (rDB_SQ_TAIL c) fDB_SQ_TAIL_COUNT v).doorbellPower c).answered p .done).sqTail c = v
    ∧ (((x.wf (rDB_SQ_TAIL c) fDB_SQ_TAIL_COUNT v).doorbellPower c).answered p .done).sqHead c = s.sqHead c
    ∧ (∀ e, e ≠ c → (((x.wf (rDB_SQ_TAIL c) fDB_SQ_TAIL_COUNT v).doorbellPower c).answered p .done).sqTail e = s.sqTail e)
    ∧ (((x.wf (rDB_SQ_TAIL c) fDB_SQ_TAIL_COUNT v).doorbellPower c).answered p .done).mem = s.mem
    ∧ (s.pw.phase = 0 → RegsBut s (((x.wf (rDB_SQ_TAIL c) fDB_SQ_TAIL_COUNT v).doorbellPower c).answered p .done)
        [rDB_SQ_TAIL c, rPM_STATUS]) := by
  have power := (x.wf (rDB_SQ_TAIL c) fDB_SQ_TAIL_COUNT v).doorbellPower_kept c
  refine ⟨?_, ?_, fun e he => ?_, ?_, fun idle => ?_⟩
  · rw [State.sqTail, State.rf_answered, power.rf (ctxReg_sqTail c), State.rf_wf_same (by decide)]
    exact Nat.mod_eq_of_lt hv
  · rw [State.sqHead, State.rf_answered, power.rf (ctxReg_ptrs c), State.rf_wf_other (rHUB_CTX_PTRS_ne_rDB_SQ_TAIL c c),
      regs.ctxKept.rf (ctxReg_ptrs c), State.sqHead]
  · rw [State.sqTail, State.rf_answered, power.rf (ctxReg_sqTail e), State.rf_wf_other (fun h => he (rDB_SQ_TAIL_inj h)),
      regs.ctxKept.rf (ctxReg_sqTail e), State.sqTail]
  · rw [State.answered_mem, State.doorbellPower_mem, State.wf, State.setReg_mem, mem]
  · rw [State.doorbellPower_idle (by rw [State.wf, State.setReg_pw, pw, idle])]
    exact ((regs.mono (by simp)).wf List.mem_cons_self).of_regs (State.answered_regs _ _ _)

theorem State.headWritten_spec (mem : x.mem = s.mem) (hv : v < 2 ^ 32) :
    ((x.wf (rDB_CQ_HEAD c) fDB_CQ_HEAD_COUNT v).answered p .done).cqHead c = v
    ∧ RegsBut s ((x.wf (rDB_CQ_HEAD c) fDB_CQ_HEAD_COUNT v).answered p .done) [rDB_CQ_HEAD c, rPM_STATUS]
    ∧ ((x.wf (rDB_CQ_HEAD c) fDB_CQ_HEAD_COUNT v).answered p .done).mem = s.mem := by
  refine ⟨?_, ((regs.mono (by simp)).wf List.mem_cons_self).of_regs (State.answered_regs _ _ _), ?_⟩
  · rw [State.cqHead, State.rf_answered, State.rf_wf_same (by decide)]
    exact Nat.mod_eq_of_lt hv
  · rw [State.answered_mem, State.wf, State.setReg_mem, mem]

/-- What a value leaves that R161 ignores. -/
theorem State.doorbellBad_spec (mem : x.mem = s.mem) :
    ((x.doorbellBad c).answered p .done).flag (rHUB_CTX_STATUS c) fHUB_CTX_STATUS_DB_RANGE = true
    ∧ Counted s ((x.doorbellBad c).answered p .done) (rHUB_CTX_CNT c) fHUB_CTX_CNT_DB_ERR_CNT 1
    ∧ RegsBut s ((x.doorbellBad c).answered p .done) [rHUB_CTX_STATUS c, rHUB_CTX_CNT c, rPM_STATUS]
    ∧ ((x.doorbellBad c).answered p .done).mem = s.mem := by
  unfold State.doorbellBad State.setFlag
  refine ⟨?_, ?_, (RegsBut.bump (.wf (regs.mono (by simp)) (by simp)) (by simp)).of_regs (State.answered_regs _ _ _), ?_⟩
  · rw [State.flag, State.rf_answered, State.bump, State.rf_wf_other (rHUB_CTX_STATUS_ne_rHUB_CTX_CNT c c),
      State.rf_wf_same (by decide)]
    rfl
  · rw [Counted, State.rf_answered, State.rf_bump (by decide), State.rf_wf_other (rHUB_CTX_STATUS_ne_rHUB_CTX_CNT c c).symm,
      regs.ctxKept.rf (ctxReg_cnt c)]
  · rw [State.answered_mem, State.bump, State.wf, State.setReg_mem, State.wf, State.setReg_mem, mem]

end

/-! ## The statement -/

section
variable {a : Addr}

theorem State.doorbell_taken (h : s.tailInRange c v) :
    (s.found p a).doorbell c v = ((s.found p a).idleExit.wf (rDB_SQ_TAIL c) fDB_SQ_TAIL_COUNT v).doorbellPower c :=
  if_pos ((State.tailInRange_congr (s.found_regs p a).ctxKept).2 h)

theorem State.doorbell_ignored (h : ¬ s.tailInRange c v) : (s.found p a).doorbell c v = (s.found p a).idleExit.doorbellBad c :=
  if_neg (fun k => h ((State.tailInRange_congr (s.found_regs p a).ctxKept).1 k))

theorem State.cqHeadWrite_taken (h : s.headInRange c v) :
    (s.found p a).cqHeadWrite c v = (s.found p a).idleExit.wf (rDB_CQ_HEAD c) fDB_CQ_HEAD_COUNT v :=
  if_pos ((State.headInRange_congr (s.found_regs p a).ctxKept).2 h)

theorem State.cqHeadWrite_ignored (h : ¬ s.headInRange c v) :
    (s.found p a).cqHeadWrite c v = (s.found p a).idleExit.doorbellBad c :=
  if_neg (fun k => h ((State.headInRange_congr (s.found_regs p a).ctxKept).1 k))

end

end

/-- Settles O22, by what the port's access finds, the two range tests of R161, and what a doorbell does to an entry to a power
state. -/
theorem doorbellsAndHeadsStayInRange : Obligations.DoorbellsAndHeadsStayInRange := by
  unfold Obligations.DoorbellsAndHeadsStayInRange
  intro s p c v hc hv
  have regs := State.found_idleExit_regs s p
  have mem := fun a => (State.found_idleExit_parts s p a).mem rfl
  have pw := fun a => (State.found_idleExit_parts s p a).pw rfl
  refine ⟨fun ok head tail => ?_, fun ok range => ?_, fun ok range => ?_, fun ok range => ?_⟩
  · refine ⟨_, exec_doorbellWrite_ok hc hv ok, State.answered_did _ p, ?_⟩
    rw [State.doorbell_taken ⟨head, tail⟩]
    obtain ⟨taken, kept, others, rest⟩ := State.tailWritten_spec (c := c) (p := p) (regs _) (mem _) (pw _) hv
    exact ⟨taken, kept, fun e _ he => others e he, rest⟩
  · refine ⟨_, exec_doorbellWrite_ok hc hv ok, State.answered_did _ p, ?_⟩
    rw [State.doorbell_ignored range]
    exact State.doorbellBad_spec (regs _) (mem _)
  · refine ⟨_, exec_cqHeadWrite_ok hc hv ok, State.answered_did _ p, ?_⟩
    rw [State.cqHeadWrite_taken range]
    exact State.headWritten_spec (regs _) (mem _) hv
  · refine ⟨_, exec_cqHeadWrite_ok hc hv ok, State.answered_did _ p, ?_⟩
    rw [State.cqHeadWrite_ignored (Nat.not_le_of_lt range)]
    exact State.doorbellBad_spec (regs _) (mem _)

end Sys2Proof.Machine
end

/-!
Proofs for the command queues, part 2: what an engine's read rests on, and the fetch of a descriptor (R157, R159).
-/
section
namespace Sys2Proof.Machine

/-! ## An engine's read rests on no register of a context but its regions -/

theorem State.zone_tileSram_lt {s : State} {a t off : Nat} (h : s.zone a = .tileSram t off) : t < 128 := by
  unfold State.zone at h
  split_ifs at h with _ _ _ within
  have low : (0x1100000000 : Nat) ≤ a := within.1
  have high : a < (0x1110000000 : Nat) := within.2
  injection h with tile
  omega

theorem State.zone_peer_lt {s : State} {a d off : Nat} (h : s.zone a = .peer d off) : d < 16 := by
  unfold State.zone at h
  split_ifs at h with _ _ _ _ _ _ within
  have low : (0x10000000000 : Nat) ≤ a := within.1
  have high : a < (0x20000000000 : Nat) := within.2
  injection h with part
  omega

theorem not_ctxReg_rTILE_STATUS {t : Nat} (ht : t < 128) : ¬ ctxReg (rTILE_STATUS t) := by
  show ¬ (0x1402000000 ≤ 0x1400000000 + t * 0x10000)
  omega

theorem not_ctxReg_rCH_ROUTE {d : Nat} (hd : d < 16) : ¬ ctxReg (rCH_ROUTE d) := by
  show ¬ (0x1402000000 ≤ 0x1401340100 + d * 0x8)
  omega

theorem State.peerDenies_congr {s u : State} (parts : Within 33 s u) (d l : Nat) : u.peerDenies d l = s.peerDenies d l := by
  unfold State.peerDenies
  rw [parts.ch rfl]

section
variable {s u : State} (parts : Within 33 s u) (low : RegsKept (fun a => ¬ ctxReg a) s u)
include low

theorem State.inTestRegion_congr (a : Nat) : u.inTestRegion a = s.inTestRegion a := by
  unfold State.inTestRegion
  rw [low.rf (a := rHUB_TEST_BASE) (by unfold ctxReg; decide)]

theorem State.diePresent_congr (d : Nat) : u.diePresent d = s.diePresent d := by
  unfold State.diePresent State.dieState
  rw [low.rf (a := rSK_DIE_STATE) (by unfold ctxReg; decide)]

theorem State.dieRetained_congr (d : Nat) : u.dieRetained d = s.dieRetained d := by
  unfold State.dieRetained State.diePower
  rw [low.rf not_ctxReg_rPM_STATUS]

theorem State.pcieRoot_congr : u.pcieRoot = s.pcieRoot := by
  unfold State.pcieRoot
  rw [low.rf (a := rDL_CFG 0) (by unfold ctxReg; decide)]

theorem State.pcieUp_congr : u.pcieUp = s.pcieUp := by
  unfold State.pcieUp
  rw [low.rf (a := rDL_STATUS 0) (by unfold ctxReg; decide)]

theorem State.selfId_congr : u.selfId = s.selfId := low.rf (a := rCH_STATUS) (by unfold ctxReg; decide) _

theorem State.isMember_congr (d : Nat) : u.isMember d = s.isMember d := by
  unfold State.isMember
  rw [low.rf (a := rCH_STATUS) (by unfold ctxReg; decide), low.rf (a := rCH_STATUS) (by unfold ctxReg; decide)]

theorem State.reachable_congr {d : Nat} (hd : d < 16) : u.reachable d = s.reachable d := by
  unfold State.reachable State.flag
  rw [low.rf (not_ctxReg_rCH_ROUTE hd)]

include parts

theorem State.lineErr_congr (l : Nat) : u.lineErr l = s.lineErr l := by
  have zone : u.zone (l * 64) = s.zone (l * 64) :=
    State.zone_congr (by rw [State.hbmBytes, State.hbmBytes, parts.fuses rfl]) _
  unfold State.lineErr
  dsimp only
  rw [zone]
  cases hz : s.zone (l * 64) with
  | hbm => simp only [State.inTestRegion_congr low]
  | unpopulated => rfl
  | dieMem d => simp only [State.diePresent_congr low, State.dieRetained_congr low]
  | tileSram t off =>
    simp only [State.diePresent_congr low, State.dieRetained_congr low,
      State.tileState_congr (low _ (not_ctxReg_rTILE_STATUS (State.zone_tileSram_lt hz)))]
  | setup => simp only [State.diePresent_congr low, State.dieRetained_congr low]
  | doorbell => rfl
  | peer d off =>
    simp only [State.pcieRoot_congr low, State.pcieUp_congr low, State.selfId_congr low, State.isMember_congr low,
      State.reachable_congr low (State.zone_peer_lt hz), State.peerDenies_congr parts]
    rw [parts.keeps.peers]
  | unlisted => rfl

/-- An engine's read for context `c` rests on the regions of `c`, its open job's mask, and what stands behind each line. -/
theorem State.engRead_congr {c : Nat} (base : ∀ r, u.reg (rHUB_CTX_RGN_BASE c r) = s.reg (rHUB_CTX_RGN_BASE c r))
    (lim : ∀ r, u.reg (rHUB_CTX_RGN_LIM c r) = s.reg (rHUB_CTX_RGN_LIM c r)) (job : (u.ctx c).job = (s.ctx c).job) (a n : Nat) :
    u.engRead c a n = s.engRead c a n := by
  have zone : ∀ x, u.zone x = s.zone x := State.zone_congr (by rw [State.hbmBytes, State.hbmBytes, parts.fuses rfl])
  have region : ∀ l, u.regionOf c l = s.regionOf c l := fun l => by simp only [State.regionOf, base, lim]
  have input : ∀ l, u.inputLine c l = s.inputLine c l := fun l => by
    simp only [State.inputLine, State.inputMask, job, base, lim]
  have line : u.engineLine c .rd = s.engineLine c .rd := by
    funext l
    simp only [State.engineLine, region, input, base, State.lineErr_congr parts low]
  have bytes : u.anyRead a n = s.anyRead a n := by
    simp only [State.anyRead, State.anyByte, zone, parts.free rfl, parts.mem rfl]
  simp only [State.engRead, State.engineErr, line, bytes, parts.mem rfl]

end

/-! ## The descriptor stands in the window -/

/-- The state in which descriptor `d`, read from slot SQ_HEAD, stands in the window. -/
def State.entered (s : State) (c : Nat) (d : Desc) : State :=
  ((s.wf (rHUB_CTX_PTRS c) fHUB_CTX_PTRS_SQ_HEAD (s.sqHead c + 1)).modCtx c (fun x =>
    { x with count := d.num + 1 })).enterWindow c d

theorem State.ctx_modCtx_other {s : State} {c e : Nat} (h : e ≠ c) (f : Ctx → Ctx) : (s.modCtx c f).ctx e = s.ctx e := by
  simp [State.ctx, State.modCtx, getElem?_modAt, h.symm]

theorem State.ctx_congr {s u : State} (h : u.hub.ctxs = s.hub.ctxs) (c : Nat) : u.ctx c = s.ctx c := by
  simp only [State.ctx, h]

theorem State.wf_hub (s : State) (a : Addr) (f : Fld) (v : Nat) : (s.wf a f v).hub = s.hub := by
  rw [State.wf, State.setReg_hub]

theorem State.wf_mem (s : State) (a : Addr) (f : Fld) (v : Nat) : (s.wf a f v).mem = s.mem := by
  rw [State.wf, State.setReg_mem]

theorem State.ctx_wf (s : State) (a : Addr) (f : Fld) (v c : Nat) : (s.wf a f v).ctx c = s.ctx c :=
  State.ctx_congr (by rw [State.wf_hub]) c

theorem State.length_ctxs_modCtx (s : State) (c : Nat) (f : Ctx → Ctx) : (s.modCtx c f).hub.ctxs.length = s.hub.ctxs.length :=
  length_modAt _ _ _

theorem State.reg_modCtx (s : State) (c : Nat) (f : Ctx → Ctx) (a : Addr) : (s.modCtx c f).reg a = s.reg a :=
  State.reg_congr (by rw [State.modCtx, State.modHub_regs]) a

theorem State.rf_modCtx (s : State) (c : Nat) (g : Ctx → Ctx) (a : Addr) (f : Fld) : (s.modCtx c g).rf a f = s.rf a f :=
  State.rf_congr (State.reg_modCtx s c g a) f

theorem RegsBut.modCtx {r s : State} {l : List Addr} {c : Nat} {f : Ctx → Ctx} (h : RegsBut r s l) : RegsBut r (s.modCtx c f) l :=
  h.of_regs (by rw [State.modCtx, State.modHub_regs])

theorem rHUB_CTX_STATUS_ne_rHUB_CTX_PTRS (c e : Nat) : rHUB_CTX_STATUS c ≠ rHUB_CTX_PTRS e := by
  show (0x1402000018 + c * 0x10000 : Nat) ≠ 0x1402000020 + e * 0x10000
  omega

section
variable {s : State} {c : Nat} (d : Desc)

theorem State.entered_ctx (hc : c < s.hub.ctxs.length) :
    (s.entered c d).ctx c = { s.ctx c with count := d.num + 1, window := (s.ctx c).window ++ [d] } := by
  unfold State.entered State.enterWindow State.setInflight
  rw [State.ctx_wf, State.ctx_modCtx_same (by rwa [State.length_ctxs_modCtx, State.wf_hub]),
    State.ctx_modCtx_same (by rwa [State.wf_hub]), State.ctx_wf]

theorem State.entered_length : (s.entered c d).hub.ctxs.length = s.hub.ctxs.length := by
  unfold State.entered State.enterWindow State.setInflight
  rw [State.wf_hub, State.length_ctxs_modCtx, State.length_ctxs_modCtx, State.wf_hub]

theorem State.entered_ctx_other {e : Nat} (h : e ≠ c) : (s.entered c d).ctx e = s.ctx e := by
  unfold State.entered State.enterWindow State.setInflight
  rw [State.ctx_wf, State.ctx_modCtx_other h, State.ctx_modCtx_other h, State.ctx_wf]

theorem State.entered_regs : RegsBut s (s.entered c d) [rHUB_CTX_PTRS c, rHUB_CTX_STATUS c] := by
  unfold State.entered State.enterWindow State.setInflight
  exact RegsBut.wf (.modCtx (.modCtx (.wf (.refl s _) (by simp)))) (by simp)

theorem State.entered_parts : Within 33 s (s.entered c d) := by
  unfold State.entered State.enterWindow State.setInflight
  exact State.wf_frame rfl (State.modCtx_frame rfl (State.modCtx_frame rfl (State.wf_frame rfl (.refl _ s))))

theorem State.entered_sqHead : (s.entered c d).sqHead c = (s.sqHead c + 1) % 2 ^ 32 := by
  unfold State.entered State.enterWindow State.setInflight
  rw [State.sqHead, State.rf_wf_other (rHUB_CTX_STATUS_ne_rHUB_CTX_PTRS c c).symm, State.rf_modCtx, State.rf_modCtx,
    State.rf_wf_same (by decide)]
  rfl

/-- INFLIGHT counts the window, which holds at most 32 descriptors. -/
theorem State.entered_inflight (hc : c < s.hub.ctxs.length) (room : (s.ctx c).window.length < 32) :
    (s.entered c d).rf (rHUB_CTX_STATUS c) fHUB_CTX_STATUS_INFLIGHT = (s.ctx c).window.length + 1 := by
  unfold State.entered State.enterWindow State.setInflight
  rw [State.rf_wf_same (by decide), State.ctx_modCtx_same (by rwa [State.length_ctxs_modCtx, State.wf_hub]),
    State.ctx_modCtx_same (by rwa [State.wf_hub]), State.ctx_wf]
  have width : 2 ^ fHUB_CTX_STATUS_INFLIGHT.width = 256 := by decide
  dsimp only
  rw [width, List.length_append, List.length_singleton, Nat.mod_eq_of_lt (by omega)]

/-- A descriptor that enters the window is found in it by its number. -/
theorem State.entered_desc (hc : c < s.hub.ctxs.length) (new : ∀ y ∈ (s.ctx c).window, y.num ≠ d.num) :
    (s.entered c d).desc c d.num = some d := by
  have none : (s.ctx c).window.find? (fun y => y.num == d.num) = none := by
    simpa [List.find?_eq_none] using new
  rw [State.desc, State.entered_ctx d hc]
  simp [List.find?_append, none]

end

/-! ## The checks made at fetch -/

theorem rHUB_CTX_RGN_BASE_not_mem (c r : Nat) : rHUB_CTX_RGN_BASE c r ∉ [rHUB_CTX_PTRS c, rHUB_CTX_STATUS c] := by
  have ptrs : (0x1402001000 + c * 0x10000 + r * 0x10 : Nat) ≠ 0x1402000020 + c * 0x10000 := by omega
  have status : (0x1402001000 + c * 0x10000 + r * 0x10 : Nat) ≠ 0x1402000018 + c * 0x10000 := by omega
  simp only [List.mem_cons, List.not_mem_nil, or_false, not_or]
  exact ⟨ptrs, status⟩

theorem rHUB_CTX_RGN_LIM_not_mem (c r : Nat) : rHUB_CTX_RGN_LIM c r ∉ [rHUB_CTX_PTRS c, rHUB_CTX_STATUS c] := by
  have ptrs : (0x1402001008 + c * 0x10000 + r * 0x10 : Nat) ≠ 0x1402000020 + c * 0x10000 := by omega
  have status : (0x1402001008 + c * 0x10000 + r * 0x10 : Nat) ≠ 0x1402000018 + c * 0x10000 := by omega
  simp only [List.mem_cons, List.not_mem_nil, or_false, not_or]
  exact ⟨ptrs, status⟩

section
variable {s : State} {c : Nat} {d : Desc}

theorem State.entered_engRead (hc : c < s.hub.ctxs.length) (a n : Nat) : (s.entered c d).engRead c a n = s.engRead c a n := by
  have regs := State.entered_regs (s := s) (c := c) d
  refine State.engRead_congr (State.entered_parts d) (fun a ha => regs a ?_) (fun r => regs _ (rHUB_CTX_RGN_BASE_not_mem c r))
    (fun r => regs _ (rHUB_CTX_RGN_LIM_not_mem c r)) (by rw [State.entered_ctx d hc]) a n
  simp only [List.mem_cons, List.not_mem_nil, or_false]
  rintro (rfl | rfl)
  · exact ha (ctxReg_ptrs c)
  · exact ha (ctxReg_status c)

/-- The checks made at fetch find the same whether the descriptor stands in the window or not. -/
theorem State.entered_fetchOk (hc : c < s.hub.ctxs.length) : (s.entered c d).fetchOk c d = s.fetchOk c d := by
  simp only [State.fetchOk, State.kernelFetchOk, State.entered_engRead hc]

end

/-! ## DESCRIPTOR_FETCH -/

theorem exec_descriptorFetch (c : Nat) (s : State) : exec (.descriptorFetch c) s = execDescriptorFetch c s := rfl

/-- What DESCRIPTOR_FETCH needs to read the ring: the context is ENABLED, no transition stops it, the window has room, nothing
is to be brought back from a replay store or an ended job, no job is open, and the ring holds a descriptor. -/
structure State.FetchesRing (s : State) (c : Nat) : Prop where
  enabled : s.ctxState c = 1
  awake : s.powerState < 2
  room : (s.ctx c).window.length < 32
  rest : (s.ctx c).rest = []
  replay : (s.ctx c).replayNext = none
  ended : (s.ctx c).ended = none
  outside : (s.ctx c).openFor = none
  holds : s.sqHead c ≠ s.sqTail c

section
variable {s : State} {c : Nat} {d : Desc}

theorem exec_descriptorFetch_ring (h : s.FetchesRing c) : exec (.descriptorFetch c) s = .next (s.fetchRing c) := by
  have go : ¬ (s.ctxState c = 0 ∨ 32 ≤ (s.ctx c).window.length ∨ 2 ≤ s.powerState) := by
    have := h.enabled; have := h.room; have := h.awake
    omega
  simp only [exec_descriptorFetch, execDescriptorFetch, if_neg go, h.rest, h.replay, if_pos (And.intro h.enabled h.holds)]

/-- The descriptor that the fetch reads from the ring; a poisoned read leaves its number and slot alone. -/
def State.ringDesc (s : State) (c : Nat) : Desc :=
  match s.engRead c (s.sqBase c + (s.ctx c).count % s.sqSize c * 64) 64 with
  | .ok bs => { num := (s.ctx c).count, raw := leNat bs, slot := s.sqBase c + (s.ctx c).count % s.sqSize c * 64 }
  | .err _ => { num := (s.ctx c).count, raw := 0, poison := true, slot := s.sqBase c + (s.ctx c).count % s.sqSize c * 64 }

theorem State.ringDesc_num (s : State) (c : Nat) : (s.ringDesc c).num = (s.ctx c).count := by
  unfold State.ringDesc
  split <;> rfl

theorem State.ringDesc_inJob (s : State) (c : Nat) : (s.ringDesc c).inJob = none := by
  unfold State.ringDesc
  split <;> rfl

theorem exec_descriptorFetch_read (h : s.FetchesRing c) :
    exec (.descriptorFetch c) s = .next ((s.entered c (s.ringDesc c)).fetchVerdict c (s.ringDesc c) false) := by
  have fetched : s.fetchRing c = (s.entered c (s.ringDesc c)).fetchVerdict c (s.ringDesc c) false := by
    unfold State.fetchRing State.entered
    rw [State.ringDesc_num]
    simp only [h.ended, h.outside]
    rfl
  rw [exec_descriptorFetch_ring h, fetched]

theorem State.ringDesc_ok {bs : List Byte} (num : d.num = (s.ctx c).count)
    (read : s.engRead c (s.sqBase c + d.num % s.sqSize c * 64) 64 = .ok bs)
    (hd : d = { num := d.num, raw := leNat bs, slot := s.sqBase c + d.num % s.sqSize c * 64 }) : s.ringDesc c = d := by
  rw [num] at read hd
  rw [State.ringDesc, read]
  exact hd.symm

theorem State.ringDesc_err {e : AccErr} (num : d.num = (s.ctx c).count)
    (read : s.engRead c (s.sqBase c + d.num % s.sqSize c * 64) 64 = .err e) : (s.ringDesc c).poison = true := by
  rw [num] at read
  rw [State.ringDesc, read]

/-! ## The verdict -/

/-- A descriptor outside any job that ends: its phase and status are set, and it is traced unless poison has lost its opcode. -/
def State.finishedDesc (s : State) (c n st detail : Nat) : State :=
  s.modDesc c n (fun d => { d with phase := .finished, status := st, detail := detail })

theorem State.finish_outside {n st detail : Nat} (h : s.desc c n = some d) (hj : d.inJob = none) :
    s.finish c n st detail = if dispatcherOp d.op && !d.poison then
      (s.finishedDesc c n st detail).traceEvent 0xFF evEND (dispatcherCmd c d st) else s.finishedDesc c n st detail := by
  unfold State.finish
  simp only [h, hj]
  rfl

theorem State.finishedDesc_ended {n : Nat} (h : s.desc c n = some d) (st detail : Nat) :
    Ended (s.finishedDesc c n st detail) c n st := by
  rw [Ended, State.finishedDesc, State.desc_modDesc h (by exact fun _ => rfl)]
  rfl

theorem State.finishedDesc_regs (s : State) (c n st detail : Nat) : (s.finishedDesc c n st detail).regs = s.regs := rfl

theorem State.finishedDesc_mem (s : State) (c n st detail : Nat) : (s.finishedDesc c n st detail).mem = s.mem := rfl

theorem Ended.of_desc {u : State} {n st : Nat} (h : Ended s c n st) (e : u.desc c n = s.desc c n) : Ended u c n st := by
  rwa [Ended, e]

/-- A descriptor that passes the checks outside a job stands in the window; a JOB_BEGIN queues its job. -/
theorem State.fetchVerdict_ok (poison : d.poison = false) (ok : s.fetchOk c d = true) (hj : d.inJob = none) :
    s.fetchVerdict c d false = if d.op = 6 then s.modCtx c (fun x => x.addJob (jobOf d)) else s := by
  simp [State.fetchVerdict, poison, ok, hj]

theorem State.fetchVerdict_malformed (poison : d.poison = false) (bad : s.fetchOk c d = false) :
    s.fetchVerdict c d false = s.finish c d.num stMALFORMED (noEngine * 2 ^ 56) := by
  simp [State.fetchVerdict, poison, bad]

theorem State.fetchVerdict_poison (poison : d.poison = true) :
    s.fetchVerdict c d false = s.finish c d.num stDATA_POISON (noEngine * 2 ^ 56 + d.slot) := by
  simp [State.fetchVerdict, poison]

/-- Queueing a job changes nothing else of its context, and opens it where none is open. -/
theorem Ctx.addJob_keeps (x : Ctx) (j : Job) :
    (x.addJob j).window = x.window ∧ (x.addJob j).count = x.count ∧ (x.job = none → (x.addJob j).job = some j) := by
  unfold Ctx.addJob
  split
  · exact ⟨rfl, rfl, fun _ => rfl⟩
  · next h => exact ⟨rfl, rfl, fun h' => by rw [h] at h'; cases h'⟩

/-! ## What a fetch leaves -/

theorem descriptorFetch_accepts (hc : c < s.hub.ctxs.length) (h : s.FetchesRing c) (ring : s.ringDesc c = d)
    (poison : d.poison = false) (ok : s.fetchOk c d = true) :
    Runs (.descriptorFetch c) s (fun t =>
      (t.ctx c).window = (s.ctx c).window ++ [d] ∧ t.sqHead c = (s.sqHead c + 1) % 2 ^ 32
      ∧ t.rf (rHUB_CTX_STATUS c) fHUB_CTX_STATUS_INFLIGHT = (s.ctx c).window.length + 1 ∧ (t.ctx c).count = d.num + 1
      ∧ (d.op = 6 → (s.ctx c).job = none → (t.ctx c).job = some (jobOf d))
      ∧ RegsBut s t [rHUB_CTX_PTRS c, rHUB_CTX_STATUS c] ∧ t.mem = s.mem ∧ (∀ e, e ≠ c → t.ctx e = s.ctx e)) := by
  have exec := exec_descriptorFetch_read h
  rw [ring, State.fetchVerdict_ok poison (by rwa [State.entered_fetchOk hc]) (ring ▸ s.ringDesc_inJob c)] at exec
  refine ⟨_, exec, ?_⟩
  have ctx := State.entered_ctx d hc
  have others := fun e => State.entered_ctx_other (s := s) (c := c) d (e := e)
  have head := State.entered_sqHead (s := s) (c := c) d
  have inflight := State.entered_inflight d hc h.room
  have regs := State.entered_regs (s := s) (c := c) d
  have mem := (State.entered_parts (s := s) (c := c) d).mem rfl
  have len : c < (s.entered c d).hub.ctxs.length := by rwa [State.entered_length]
  generalize s.entered c d = u at ctx others head inflight regs mem len ⊢
  beta_reduce
  split
  · obtain ⟨window, count, opened⟩ := Ctx.addJob_keeps (u.ctx c) (jobOf d)
    rw [ctx] at window count opened
    rw [State.ctx_modCtx_same len, State.sqHead, State.rf_modCtx, State.rf_modCtx, ctx]
    refine ⟨window, head, inflight, count, fun _ hj => opened hj, regs.modCtx, ?_, fun e he => ?_⟩
    · rw [State.modCtx, State.modHub_mem, mem]
    · rw [State.ctx_modCtx_other he, others e he]
  · next op =>
    rw [ctx]
    exact ⟨rfl, head, inflight, rfl, fun h6 => absurd h6 op, regs, mem, others⟩

theorem rHUB_CTX_PTRS_window (c : Nat) : rHUB_CTX_PTRS c / 0x10000 ≠ 0x140138 := by
  show (0x1402000020 + c * 0x10000 : Nat) / 0x10000 ≠ 0x140138
  omega

theorem descriptorFetch_malformed (hc : c < s.hub.ctxs.length) (h : s.FetchesRing c) (ring : s.ringDesc c = d)
    (new : ∀ y ∈ (s.ctx c).window, y.num ≠ d.num) (poison : d.poison = false) (bad : s.fetchOk c d = false) :
    Runs (.descriptorFetch c) s (fun t =>
      Ended t c d.num stMALFORMED ∧ t.sqHead c = (s.sqHead c + 1) % 2 ^ 32
      ∧ RegsTraced s t [rHUB_CTX_PTRS c, rHUB_CTX_STATUS c] ∧ t.mem = s.mem) := by
  have found := State.entered_desc d hc new
  have exec := exec_descriptorFetch_read h
  rw [ring, State.fetchVerdict_malformed poison (by rwa [State.entered_fetchOk hc]),
    State.finish_outside found (ring ▸ s.ringDesc_inJob c)] at exec
  refine ⟨_, exec, ?_⟩
  have trace := State.traceEvent_if_traced ((s.entered c d).finishedDesc c d.num stMALFORMED (noEngine * 2 ^ 56))
    (dispatcherOp d.op && !d.poison) 0xFF evEND (dispatcherCmd c d stMALFORMED)
  have regs := (State.entered_regs (s := s) (c := c) d).of_regs (State.finishedDesc_regs _ c d.num stMALFORMED (noEngine * 2 ^ 56))
  refine ⟨(State.finishedDesc_ended found _ _).of_desc (trace.desc c d.num), ?_, ?_, ?_⟩
  · rw [State.sqHead, State.rf_congr (trace.regs _ (rHUB_CTX_PTRS_window c)),
      State.rf_congr (State.reg_congr (State.finishedDesc_regs ..) _)]
    exact State.entered_sqHead d
  · exact RegsTraced.traceOnly (fun a _ ha => regs a ha) trace.regs
  · rw [trace.mem, State.finishedDesc_mem]
    exact (State.entered_parts d).mem rfl

theorem descriptorFetch_poisoned (hc : c < s.hub.ctxs.length) (h : s.FetchesRing c) (ring : s.ringDesc c = d)
    (new : ∀ y ∈ (s.ctx c).window, y.num ≠ d.num) (poison : d.poison = true) :
    Runs (.descriptorFetch c) s (fun t =>
      Ended t c d.num stDATA_POISON ∧ t.sqHead c = (s.sqHead c + 1) % 2 ^ 32
      ∧ RegsBut s t [rHUB_CTX_PTRS c, rHUB_CTX_STATUS c] ∧ t.mem = s.mem) := by
  have found := State.entered_desc d hc new
  have exec := exec_descriptorFetch_read h
  rw [ring, State.fetchVerdict_poison poison, State.finish_outside found (ring ▸ s.ringDesc_inJob c), poison, Bool.not_true,
    Bool.and_false, if_neg Bool.false_ne_true] at exec
  refine ⟨_, exec, State.finishedDesc_ended found _ _, ?_, (State.entered_regs d).of_regs (State.finishedDesc_regs ..), ?_⟩
  · rw [State.sqHead, State.rf_congr (State.reg_congr (State.finishedDesc_regs ..) _)]
    exact State.entered_sqHead d
  · rw [State.finishedDesc_mem]
    exact (State.entered_parts d).mem rfl

end

end Sys2Proof.Machine
end

/-!
Proofs for the command queues, part 3: what leaves a context's pointers, its counts and its window alone. A completion record
may end a job and start a seal; neither touches HUB_CTX_PTRS or HUB_CTX_CNT, nor brings a descriptor back (R160, R241, R468).
-/
section
namespace Sys2Proof.Machine

/-! ## The relation -/

/-- The pointers and the error counts of a context: HUB_CTX_PTRS and HUB_CTX_CNT of any context. -/
def ringReg (a : Addr) : Prop := 0x1402000000 ≤ a ∧ (a % 0x10000 = 0x20 ∨ a % 0x10000 = 0x100)

theorem not_ringReg_of_lt {a : Addr} (h : a < 0x1402000000) : ¬ ringReg a := fun k => absurd k.1 (Nat.not_le_of_lt h)

/-- A register at another place of its window. -/
theorem not_ringReg_of_mod {a k : Nat} (h : a % 0x10000 = k) (hk : k ≠ 0x20 ∧ k ≠ 0x100) : ¬ ringReg a := by
  subst h
  exact fun ring => ring.2.elim hk.1 hk.2

theorem ringReg_ptrs (c : Nat) : ringReg (rHUB_CTX_PTRS c) := by
  refine ⟨ctxReg_ptrs c, .inl ?_⟩
  show (0x1402000020 + c * 0x10000) % 0x10000 = 0x20
  omega

theorem ringReg_cnt (c : Nat) : ringReg (rHUB_CTX_CNT c) := by
  refine ⟨ctxReg_cnt c, .inr ?_⟩
  show (0x1402000100 + c * 0x10000) % 0x10000 = 0x100
  omega

theorem not_ringReg_status (c : Nat) : ¬ ringReg (rHUB_CTX_STATUS c) := by
  refine not_ringReg_of_mod (k := 0x18) ?_ (by decide)
  show (0x1402000018 + c * 0x10000) % 0x10000 = 0x18
  omega

theorem ringReg.window {a : Nat} (h : ringReg a) : a / 0x10000 ≠ 0x140138 := by
  have low : (0x1402000000 : Nat) ≤ a := h.1
  omega

/-- `t` has the pointers and counts of `s`, and no descriptor `n` of context `c` unless `s` has one. -/
structure RingKept (c n : Nat) (s t : State) : Prop where
  regs : RegsKept ringReg s t
  gone : s.desc c n = none → t.desc c n = none

theorem State.desc_eq_none {s : State} {c n : Nat} : s.desc c n = none ↔ ∀ y ∈ (s.ctx c).window, y.num ≠ n := by
  simp [State.desc, List.find?_eq_none]

section
variable {c n : Nat} {r s t : State}

theorem RingKept.refl (s : State) : RingKept c n s s := ⟨.refl s, id⟩

theorem RingKept.trans (h : RingKept c n r s) (k : RingKept c n s t) : RingKept c n r t :=
  ⟨h.regs.trans k.regs, fun e => k.gone (h.gone e)⟩

/-- An update that writes no such register and no context. -/
theorem RingKept.step (h : RingKept c n r s) (regs : RegsKept ringReg s t) (ctxs : t.hub.ctxs = s.hub.ctxs) : RingKept c n r t :=
  h.trans ⟨regs, fun e => by rwa [State.desc, State.ctx_congr ctxs]⟩

theorem RingKept.of_eq (h : RingKept c n r s) (regs : t.regs = s.regs) (ctxs : t.hub.ctxs = s.hub.ctxs) : RingKept c n r t :=
  h.step (RegsKept.of_regs (.refl s) regs) ctxs

theorem RingKept.setReg {b : Addr} {w : Word} (h : RingKept c n r s) (hb : ¬ ringReg b) :
    RingKept c n r (s.setReg b w) :=
  h.step ((RegsKept.refl s).setReg hb) (by rw [State.setReg_hub])

theorem RingKept.wf {b : Addr} {f : Fld} {v : Nat} (h : RingKept c n r s) (hb : ¬ ringReg b) : RingKept c n r (s.wf b f v) :=
  h.setReg hb

theorem RingKept.bump {b : Addr} {f : Fld} {k : Nat} (h : RingKept c n r s) (hb : ¬ ringReg b) : RingKept c n r (s.bump b f k) :=
  h.wf hb

theorem RingKept.ite {p : Prop} [Decidable p] (hs : RingKept c n r s) (ht : RingKept c n r t) :
    RingKept c n r (if p then s else t) := by
  split <;> assumption

theorem RingKept.foldl {α : Type} {f : State → α → State} (hf : ∀ x a, RingKept c n r x → RingKept c n r (f x a))
    (l : List α) : ∀ {x : State}, RingKept c n r x → RingKept c n r (l.foldl f x) := by
  induction l with
  | nil => exact fun h => h
  | cons a l ih => exact fun h => ih (hf _ a h)

/-- An update of a context that brings no descriptor `n` into its window. -/
theorem RingKept.modCtx {e : Nat} {f : Ctx → Ctx} (h : RingKept c n r s)
    (hf : ∀ x, (∀ y ∈ x.window, y.num ≠ n) → ∀ y ∈ (f x).window, y.num ≠ n) : RingKept c n r (s.modCtx e f) := by
  refine h.trans ⟨fun a _ => State.reg_modCtx s e f a, fun none => ?_⟩
  rw [State.desc_eq_none] at none ⊢
  by_cases he : c = e
  · subst he
    by_cases hc : c < s.hub.ctxs.length
    · rw [State.ctx_modCtx_same hc]
      exact hf _ none
    · have out : (s.modCtx c f).ctx c = s.ctx c := by
        rw [State.ctx, State.ctx, List.getElem?_eq_none (by rw [State.length_ctxs_modCtx]; omega), List.getElem?_eq_none (by omega)]
      rwa [out]
  · rwa [State.ctx_modCtx_other he]

/-- An update of a context's jobs. -/
theorem RingKept.modCtx_window {e : Nat} {f : Ctx → Ctx} (h : RingKept c n r s) (hf : ∀ x, (f x).window = x.window) :
    RingKept c n r (s.modCtx e f) :=
  h.modCtx (fun x hx => by rwa [hf])

theorem RingKept.traced (h : RingKept c n r s) (k : Traced s t) : RingKept c n r t :=
  h.step (fun a ha => k.regs a ha.window) (by rw [k.hub])

/-! ## Memory and engines' writes -/

theorem not_ringReg_rMC_POISON_CNT (i : Nat) : ¬ ringReg (rMC_POISON_CNT i) := by
  refine not_ringReg_of_mod (k := 0x218) ?_ (by decide)
  show (0x1400c00218 + i * 0x10000) % 0x10000 = 0x218
  omega

theorem not_ringReg_rTILE_ECC_CNT (i : Nat) : ¬ ringReg (rTILE_ECC_CNT i) := by
  refine not_ringReg_of_mod (k := 0x210) ?_ (by decide)
  show (0x1400000210 + i * 0x10000) % 0x10000 = 0x210
  omega

theorem RingKept.modMem {f : Mem → Mem} (h : RingKept c n r s) : RingKept c n r (s.modMem f) :=
  h.of_eq (State.modMem_regs _ _) (by rw [State.modMem_hub])

theorem RingKept.lineWrite {a : Addr} {bs : List Byte} (h : RingKept c n r s) : RingKept c n r (s.lineWrite a bs) := by
  unfold State.lineWrite
  exact .ite (.ite h.modMem (h.bump (not_ringReg_rMC_POISON_CNT _))) h.modMem

theorem RingKept.memWrite {a : Addr} {bs : List Byte} (h : RingKept c n r s) : RingKept c n r (s.memWrite a bs) := by
  unfold State.memWrite
  exact .ite h.modMem (.foldl (fun _ _ hx => hx.lineWrite) _ h)

theorem RingKept.emit {x : Sent} (h : RingKept c n r s) : RingKept c n r (s.emit x) :=
  h.of_eq (State.emit_regs _ _) (by rw [State.emit_hub])

theorem RingKept.putBytes {a : Addr} {bs : List Byte} (h : RingKept c n r s) : RingKept c n r (s.putBytes a bs) := by
  unfold State.putBytes
  split
  · exact h.emit
  · exact h.memWrite

theorem RingKept.windowEcc {w : Want} {a k : Nat} (h : RingKept c n r s) : RingKept c n r (s.windowEcc w a k) := by
  unfold State.windowEcc
  exact .foldl (fun _ p hx => (hx.bump (not_ringReg_rTILE_ECC_CNT p.1)).bump (not_ringReg_rTILE_ECC_CNT p.1)) _ h

theorem RingKept.engWrite {e a : Nat} {bs : List Byte} (h : RingKept c n r s) : RingKept c n r (s.engWrite e a bs).1 := by
  unfold State.engWrite
  dsimp only
  split
  · exact h
  · split
    · exact h.windowEcc
    · exact h.windowEcc.putBytes

theorem RingKept.planWrite {a : Addr} {bs : List Byte} (h : RingKept c n r s) : RingKept c n r (s.planWrite a bs) := h.engWrite

/-! ## Traces, triggers and unit states -/

theorem RingKept.traceEvent {e ev : Nat} {k : TraceCmd} (h : RingKept c n r s) : RingKept c n r (s.traceEvent e ev k) :=
  h.traced (State.traceEvent_traced (.refl s) e ev k)

theorem RingKept.fireTrigger {src : Nat} (h : RingKept c n r s) : RingKept c n r (s.fireTrigger src) :=
  h.step (fun _ ha => State.reg_fireTrigger ha.window) (by rw [(State.fireTrigger_frame (F := 257) rfl (.refl _ s)).hub rfl])

theorem not_ringReg_rGE_STATUS {i : Nat} (hi : i < 16) : ¬ ringReg (rGE_STATUS i) := by
  refine not_ringReg_of_lt ?_
  show 0x1400800000 + i * 0x10000 < 0x1402000000
  omega

theorem not_ringReg_rPC_STATUS {i : Nat} (hi : i < 8) : ¬ ringReg (rPC_STATUS i) := by
  refine not_ringReg_of_lt ?_
  show 0x1401000000 + i * 0x10000 < 0x1402000000
  omega

theorem not_ringReg_rTILE_STATUS {t : Nat} (ht : t < 128) : ¬ ringReg (rTILE_STATUS t) :=
  fun k => not_ctxReg_rTILE_STATUS ht k.1

theorem RingKept.setUnitState {e v : Nat} (h : RingKept c n r s) : RingKept c n r (s.setUnitState e v) := by
  unfold State.setUnitState
  split_ifs with tile set dma checker
  · exact h.wf (not_ringReg_rTILE_STATUS tile)
  · exact h.wf (not_ringReg_rGE_STATUS (by omega))
  · exact h
  · exact h.wf (not_ringReg_rPC_STATUS (by omega))
  · exact h

/-! ## Calibration proposals and posts of slots (R176, R223, R225) -/

theorem RingKept.modSh {f : SensorHub → SensorHub} (h : RingKept c n r s) : RingKept c n r (s.modSh f) :=
  h.of_eq (State.modSh_regs _ _) (by rw [State.modSh_hub])

theorem RingKept.hubWrite {e a : Nat} {bs : List Byte} (h : RingKept c n r s) : RingKept c n r (s.hubWrite e a bs).1 := by
  have written := h.engWrite (e := e) (a := a) (bs := bs)
  unfold State.hubWrite
  split <;> next eq => rwa [eq] at written

theorem RingKept.calNewest {ver first : Nat} {ents : List Nat} (h : RingKept c n r s) :
    RingKept c n r (s.calNewest ver first ents) := by
  unfold State.calNewest State.setUnsaved
  exact (h.modSh.wf (not_ringReg_of_lt (by decide))).wf (not_ringReg_of_lt (by decide))

theorem RingKept.calReject {k : Nat} (h : RingKept c n r s) : RingKept c n r (s.calReject k) := by
  unfold State.calReject
  exact (h.bump (not_ringReg_of_lt (by decide))).wf (not_ringReg_of_lt (by decide))

theorem RingKept.calProposal {p : Nat} (h : RingKept c n r s) : RingKept c n r (s.calProposal p) := by
  unfold State.calProposal State.calCopied State.raiseIrq
  dsimp only
  exact .ite (.ite (h.hubWrite.modSh.calNewest.wf (not_ringReg_of_lt (by decide))) h.hubWrite.calReject) h.calReject

theorem RingKept.modHub {f : Hub → Hub} (h : RingKept c n r s) (hf : (f s.hub).ctxs = s.hub.ctxs) : RingKept c n r (s.modHub f) :=
  h.of_eq (State.modHub_regs _ _) (by rw [State.modHub_hub, hf])

theorem RingKept.postSlot {sl img tag poster : Nat} (h : RingKept c n r s) : RingKept c n r (s.postSlot sl img tag poster) := by
  unfold State.postSlot State.notify
  dsimp only
  have posted := fun g g' hg hg' => (h.modHub (f := g) hg).modHub (f := g') hg'
  exact .ite (posted _ _ rfl rfl).calProposal (posted _ _ rfl rfl)

/-! ## The seal (R241 to R244) -/

theorem RingKept.modPlan {f : PlanSt → PlanSt} (h : RingKept c n r s) : RingKept c n r (s.modPlan f) :=
  h.of_eq (State.modPlan_regs _ _) (by rw [State.modPlan_hub])

theorem RingKept.setOpenFlag (h : RingKept c n r s) : RingKept c n r s.setOpenFlag := h.wf (not_ringReg_of_lt (by decide))

theorem RingKept.stopChecks (h : RingKept c n r s) : RingKept c n r s.stopChecks := by
  unfold State.stopChecks State.modRun
  split
  · exact (RingKept.foldl (fun _ _ hx => hx.setUnitState.traceEvent) _ h).modPlan
  · exact h

theorem RingKept.sealLate {p : PlanRun} (h : RingKept c n r s) : RingKept c n r (s.sealLate p) := by
  unfold State.sealLate
  exact .foldl (fun _ _ hx => .ite (hx.planWrite.bump (not_ringReg_of_lt (by decide))) hx) _ h

theorem RingKept.sealPost {x : Seal} {j : Option Traj} {path : Nat} (h : RingKept c n r s) :
    RingKept c n r (s.sealPost x j path) := by
  have idle : RingKept c n r (match s.sealChecker x with
      | some e => (s.modPlan (fun p => { p with seals := p.seals.drop 1, prev := j })).setUnitState e 0
      | none => s.modPlan (fun p => { p with seals := p.seals.drop 1, prev := j })) := by
    split
    · exact h.modPlan.setUnitState
    · exact h.modPlan
  unfold State.sealPost
  exact (RingKept.ite idle idle.fireTrigger).postSlot.planWrite

theorem RingKept.sealFallback {x : Seal} (h : RingKept c n r s) : RingKept c n r (s.sealFallback x) := by
  have counted : RingKept c n r (s.bump rPC_OUT_CNT1 fPC_OUT_CNT1_FALLBACK 1) := h.bump (not_ringReg_of_lt (by decide))
  exact (RingKept.ite (counted.bump (not_ringReg_of_lt (by decide))) counted).sealPost

theorem RingKept.sealBusy {x : Seal} (h : RingKept c n r s) : RingKept c n r (s.sealBusy x) := by
  unfold State.sealBusy
  split
  · exact h.setUnitState.traceEvent
  · exact h

theorem RingKept.sealReissue {x : Seal} (h : RingKept c n r s) : RingKept c n r (s.sealReissue x) :=
  .ite h.modPlan.sealBusy h.sealFallback

theorem RingKept.sealStart {cause tag : Nat} (h : RingKept c n r s) : RingKept c n r (s.sealStart cause tag) := by
  unfold State.sealStart
  split
  · exact h
  · have opened := fun p f => (h.stopChecks.sealLate (p := p)).modPlan (f := f) |>.setOpenFlag
    exact .ite (opened _ _) (.ite (opened _ _).sealReissue (opened _ _).sealBusy)

theorem RingKept.planJobEnd {e user : Nat} (h : RingKept c n r s) : RingKept c n r (s.planJobEnd e user) := by
  unfold State.planJobEnd
  split
  · exact .ite h.sealStart h
  · exact h

/-! ## The end of a job (R144, R468) -/

theorem RingKept.scoreRelease {seq : Nat} (h : RingKept c n r s) : RingKept c n r (s.scoreRelease seq) := by
  unfold State.scoreRelease
  split
  · next i found =>
    have place : ¬ ringReg (rHUB_KV_SCORE_ENT i) := by
      have range := List.mem_range.1 (List.mem_of_find?_eq_some found)
      refine not_ringReg_of_lt ?_
      show 0x1401300800 + i * 0x8 < 0x1402000000
      omega
    exact (h.setReg place).wf (not_ringReg_of_lt (by decide))
  · exact h

theorem RingKept.kvJobEnd {ts : List Touched} {ok : Bool} (h : RingKept c n r s) : RingKept c n r (s.kvJobEnd ts ok) :=
  .foldl (fun _ _ hx => .ite hx.memWrite.scoreRelease hx.memWrite) ts h

theorem RingKept.kvRestoreOne {e : Nat} {t : Touched} (h : RingKept c n r s) : RingKept c n r (s.kvRestoreOne e t).1 := by
  unfold State.kvRestoreOne
  dsimp only
  split
  · exact h.memWrite.modHub (f := fun b => { b with kvBroken := b.kvBroken + 1 }) rfl
  · exact .ite h.memWrite.memWrite h.memWrite

theorem RingKept.kvRestore {e : Nat} (l : List Touched) :
    ∀ {s : State}, RingKept c n r s → RingKept c n r (s.kvRestore e l).1 := by
  induction l with
  | nil => exact fun h => h
  | cons t l ih => exact fun h => ih h.kvRestoreOne

theorem RingKept.suspectUnits {us : List Nat} (h : RingKept c n r s) : RingKept c n r (s.suspectUnits us) :=
  .foldl (fun x e hx => hx.of_eq (State.modTest_regs x e _) (by rw [State.modTest_hub])) us h

theorem RingKept.jobEnd {e : Nat} {j : Job} {ok : Bool} (h : RingKept c n r s) :
    RingKept c n r (s.jobEnd e j ok) := by
  unfold State.jobEnd
  dsimp only
  have noted : RingKept c n r
      (if ok = true then (s.kvJobEnd j.touched ok).suspectUnits j.used else s.kvJobEnd j.touched ok) :=
    .ite h.kvJobEnd.suspectUnits h.kvJobEnd
  exact ((noted.modCtx_window (by exact fun _ => rfl)).wf (not_ringReg_status e)).wf (not_ringReg_status e)

theorem RingKept.jobDissolve {e b : Nat} (h : RingKept c n r s) : RingKept c n r (s.jobDissolve e b) := by
  refine h.modCtx (fun x hx y hy => ?_)
  obtain ⟨d, hd, rfl⟩ := List.mem_map.1 hy
  split
  · exact hx d hd
  · exact hx d hd

theorem RingKept.modJob {e : Nat} {f : Job → Job} (h : RingKept c n r s) : RingKept c n r (s.modJob e f) :=
  h.modCtx_window (fun _ => rfl)

/-- What the completion of a descriptor does to its job. -/
theorem RingKept.jobRecord {e : Nat} {d : Desc} (h : RingKept c n r s) : RingKept c n r (s.jobRecord e d) := by
  unfold State.jobRecord
  split
  · exact h
  · exact .ite (.ite h.modJob h.jobDissolve)
      (.ite (.ite (.ite h.jobEnd (h.kvRestore _).jobEnd) (.ite h.modJob h)) h)

theorem RingKept.raiseCtxIrq {e : Nat} (h : RingKept c n r s) : RingKept c n r (s.raiseCtxIrq e) := by
  unfold State.raiseCtxIrq
  exact .ite (h.modHub rfl).emit (h.modHub rfl)

end

end Sys2Proof.Machine
end

/-!
Proofs for the command queues, part 4: completion records (R155, R160, R163), and the statement on fetches and records.
-/
section
namespace Sys2Proof.Machine

/-! ## The record goes to the ring -/

theorem length_leBytes (n : Nat) : ∀ v, (leBytes n v).length = n := by
  induction n with
  | zero => exact fun _ => rfl
  | succ n ih => exact fun v => by rw [leBytes, List.length_cons, ih]

theorem length_recordBytes (d : Desc) (op st detail phase att now : Nat) :
    (recordBytes d op st detail phase att now).length = 32 := by
  simp [recordBytes, length_leBytes]

/-- A line of HBM that no check refuses lies outside the test region, and so does all of it. -/
theorem State.inTestRegion_hbm {s : State} {a n : Nat} (h : s.inHbm a n) : s.inTestRegion a = false := by
  obtain ⟨pos, inPart, inHbm, clean⟩ := h
  have line := clean (a / 64) (div_mem_unitsOf 64 ⟨Nat.le_refl a, by omega⟩)
  rw [State.lineErr_hbm (State.zone_hbm (by omega) (by omega))] at line
  have same : s.inTestRegion a = s.inTestRegion (a / 64 * 64) := by
    unfold State.inTestRegion
    rw [show a / 64 * 64 / 2 ^ 24 = a / 2 ^ 24 by omega]
  rw [same]
  by_contra region
  rw [if_pos (by simpa using region)] at line
  cases line

section
variable {s : State} {c : Nat} {d : Desc}

/-- Where record CQ_TAIL stands. -/
abbrev State.recordAt (s : State) (c : Nat) : Nat := s.cqBase c + s.cqTail c % s.cqSize c * 32

/-- The record that completes `d`. -/
abbrev State.recordOf (s : State) (c : Nat) (d : Desc) : List Byte :=
  recordBytes d d.op d.status d.detail (phaseOf (s.cqTail c) (s.cqSize c)) (s.attemptOf c d) s.dtime

/-- A record whose place takes it changes memory there alone. -/
theorem State.putRecord_storable (room : s.storable (s.recordAt c) 32) :
    ∃ m, s.putRecord c d = s.modMem (fun _ => m) ∧ s.mem.Holds (s.recordAt c) (s.recordOf c d) m := by
  obtain ⟨inHbm, alive⟩ := room
  have zone : s.zone (s.recordAt c) = .hbm := State.zone_hbm (by omega) (by omega)
  obtain ⟨m, written, holds⟩ := State.memWrite_alive (s := s) (a := s.recordAt c) (bs := s.recordOf c d)
    (by rwa [length_recordBytes])
  refine ⟨m, ?_, holds⟩
  unfold State.putRecord
  dsimp only
  rw [State.inTestRegion_hbm inHbm, if_neg Bool.false_ne_true, State.putBytes, zone]
  exact written

theorem Ctx.mine_outside (x : Ctx) (hj : d.inJob = none) : x.mine d = false := by
  unfold Ctx.mine
  rw [hj]
  split
  · next eq => cases eq
  · rfl

theorem State.attemptOf_outside (hj : d.inJob = none) : s.attemptOf c d = d.attempt := by
  unfold State.attemptOf State.inOpenJob
  rw [Ctx.mine_outside _ hj]
  split <;> rfl

/-! ## The descriptor leaves the window -/

theorem rHUB_CTX_PTRS_not_mem (c : Nat) : rHUB_CTX_PTRS c ∉ [rHUB_CTX_STATUS c, rHUB_CTX_CNT c] := by
  have status : (0x1402000020 + c * 0x10000 : Nat) ≠ 0x1402000018 + c * 0x10000 := by omega
  have cnt : (0x1402000020 + c * 0x10000 : Nat) ≠ 0x1402000100 + c * 0x10000 := by omega
  simp only [List.mem_cons, List.not_mem_nil, or_false, not_or]
  exact ⟨status, cnt⟩

theorem rHUB_CTX_CNT_ne_rHUB_CTX_PTRS (c e : Nat) : rHUB_CTX_CNT c ≠ rHUB_CTX_PTRS e := by
  show (0x1402000100 + c * 0x10000 : Nat) ≠ 0x1402000020 + e * 0x10000
  omega

/-- Descriptor `d` has left the window of context `c`, and nothing but INFLIGHT and REFUSE_CNT tells of it in the registers. -/
structure LeftWindow (c : Nat) (d : Desc) (s t : State) : Prop where
  gone : t.desc c d.num = none
  job : (t.ctx c).job = (s.ctx c).job
  regs : RegsBut s t [rHUB_CTX_STATUS c, rHUB_CTX_CNT c]
  dbErr : t.rf (rHUB_CTX_CNT c) fHUB_CTX_CNT_DB_ERR_CNT = s.rf (rHUB_CTX_CNT c) fHUB_CTX_CNT_DB_ERR_CNT
  mem : t.mem = s.mem

theorem LeftWindow.of_modCtx (hc : c < s.hub.ctxs.length) {f : Ctx → Ctx}
    (window : (f (s.ctx c)).window = (s.ctx c).window.filter (fun y => y.num != d.num)) (job : (f (s.ctx c)).job = (s.ctx c).job) :
    LeftWindow c d s ((s.modCtx c f).setInflight c) := by
  unfold State.setInflight
  refine ⟨?_, ?_, RegsBut.wf (.modCtx (.refl s _)) (by simp), ?_, ?_⟩
  · rw [State.desc_eq_none, State.ctx_wf, State.ctx_modCtx_same hc, window]
    exact fun y hy => by simpa using (List.mem_filter.1 hy).2
  · rw [State.ctx_wf, State.ctx_modCtx_same hc, job]
  · rw [State.rf_wf_other (rHUB_CTX_STATUS_ne_rHUB_CTX_CNT c c).symm, State.rf_modCtx]
  · rw [State.wf_mem, State.modCtx, State.modHub_mem]

/-- REFUSE_CNT counts (R170); DB_ERR_CNT stands beside it. -/
theorem LeftWindow.refused {t : State} (h : LeftWindow c d s t) :
    LeftWindow c d s (t.bump (rHUB_CTX_CNT c) fHUB_CTX_CNT_REFUSE_CNT 1) := by
  unfold State.bump
  refine ⟨?_, ?_, h.regs.wf (by simp), ?_, ?_⟩
  · rw [State.desc, State.ctx_wf]
    exact h.gone
  · rw [State.ctx_wf, h.job]
  · rw [State.rf_wf_apart (by decide) (by decide) (by decide), h.dbErr]
  · rw [State.wf_mem, h.mem]

theorem State.leaveWindow_left (hc : c < s.hub.ctxs.length) : LeftWindow c d s (s.leaveWindow c d) := by
  unfold State.leaveWindow
  dsimp only
  split
  · exact (LeftWindow.of_modCtx hc rfl rfl).refused
  · exact .of_modCtx hc rfl rfl

/-- CQ_TAIL has advanced and `d` has left the window, whether its record was written or discarded. -/
def State.taken (s : State) (c : Nat) (d : Desc) : State :=
  (s.wrapAdd (rHUB_CTX_PTRS c) fHUB_CTX_PTRS_CQ_TAIL 1).leaveWindow c d

theorem State.taken_left (hc : c < s.hub.ctxs.length) :
    LeftWindow c d (s.wrapAdd (rHUB_CTX_PTRS c) fHUB_CTX_PTRS_CQ_TAIL 1) (s.taken c d) :=
  State.leaveWindow_left (by rwa [State.wrapAdd, State.wf_hub])

theorem State.taken_cqTail (hc : c < s.hub.ctxs.length) : (s.taken c d).cqTail c = (s.cqTail c + 1) % 2 ^ 32 := by
  rw [State.cqTail, State.rf_congr ((State.taken_left hc).regs _ (rHUB_CTX_PTRS_not_mem c)), State.wrapAdd,
    State.rf_wf_same (by decide)]
  rfl

theorem State.taken_dbErr (hc : c < s.hub.ctxs.length) :
    (s.taken c d).rf (rHUB_CTX_CNT c) fHUB_CTX_CNT_DB_ERR_CNT = s.rf (rHUB_CTX_CNT c) fHUB_CTX_CNT_DB_ERR_CNT := by
  rw [(State.taken_left hc).dbErr, State.wrapAdd, State.rf_wf_other (rHUB_CTX_CNT_ne_rHUB_CTX_PTRS c c)]

theorem State.taken_regs (hc : c < s.hub.ctxs.length) :
    RegsBut s (s.taken c d) [rHUB_CTX_PTRS c, rHUB_CTX_STATUS c, rHUB_CTX_CNT c] :=
  RegsBut.trans (s := s.wrapAdd (rHUB_CTX_PTRS c) fHUB_CTX_PTRS_CQ_TAIL 1) (RegsBut.wf (.refl s _) (by simp))
    ((State.taken_left hc).regs.mono (by simp))

theorem State.taken_mem (hc : c < s.hub.ctxs.length) : (s.taken c d).mem = s.mem := by
  rw [(State.taken_left hc).mem, State.wrapAdd, State.wf_mem]

theorem State.taken_job (hc : c < s.hub.ctxs.length) : ((s.taken c d).ctx c).job = (s.ctx c).job := by
  rw [(State.taken_left hc).job, State.wrapAdd, State.ctx_wf]

/-! ## What follows for the job and the plan stream -/

/-- The completion reaches the job, and a JOB_END may start a seal (R241). -/
def State.followed (s : State) (c : Nat) (d : Desc) : State :=
  if d.op = 7 && !d.poison then (s.jobRecord c d).planJobEnd c d.user else s.jobRecord c d

/-- What follows a completion keeps the pointers and the counts, and brings no descriptor back. -/
theorem State.followed_kept (n : Nat) : RingKept c n s (s.followed c d) :=
  .ite (RingKept.refl s).jobRecord.planJobEnd (RingKept.refl s).jobRecord

/-- A descriptor outside any job that is no JOB_END and no beginning of the open job is followed by nothing. -/
theorem State.followed_outside (hj : d.inJob = none) (op : d.op ≠ 7)
    (begins : ∀ j, (s.ctx c).job = some j → j.beginNum ≠ d.num) : s.followed c d = s := by
  have record : s.jobRecord c d = s := by
    unfold State.jobRecord
    split
    · rfl
    · next j open' =>
      rw [if_neg (fun k => begins j open' k.1.symm), Ctx.mine_outside _ hj, if_neg Bool.false_ne_true]
  simp [State.followed, op, record]

/-! ## COMPLETION_RECORD -/

/-- The context's interrupt where `b` holds (R163). -/
def State.raiseIf (s : State) (c : Nat) (b : Bool) : State := if b then s.raiseCtxIrq c else s

theorem exec_completionRecord (c n : Nat) (s : State) : exec (.completionRecord c n) s = execCompletionRecord c n s := rfl

section
variable {n : Nat} (found : s.desc c n = some d)
include found

theorem State.desc_num : d.num = n := by
  have := List.find?_some found
  simpa using this

variable (ended : d.phase = .finished) (due : s.recordDue c d = true)
include ended due

theorem exec_completionRecord_waits (full : s.cqFull c = true) (live : s.ctxState c ≠ 2) :
    exec (.completionRecord c n) s = .next s := by
  simp [exec_completionRecord, execCompletionRecord, found, ended, due, full, live]

theorem exec_completionRecord_discards (full : s.cqFull c = true) (drains : s.ctxState c = 2) :
    exec (.completionRecord c n) s = .next ((s.taken c d).followed c d) := by
  simp only [exec_completionRecord, execCompletionRecord, found, ended, due, full, drains]
  rfl

/-- The interrupt comes where the descriptor asks for it and the context enables it. -/
theorem exec_completionRecord_writes (room : s.cqFull c = false) :
    exec (.completionRecord c n) s = .next ((((s.putRecord c d).taken c d).followed c d).raiseIf c
      (d.irq && s.flag (rHUB_CTX_CFG c) fHUB_CTX_CFG_IRQ_EN)) := by
  simp only [exec_completionRecord, execCompletionRecord, found, ended, due, room]
  rfl

end

/-! ## What a record leaves -/

theorem State.raiseCtxIrq_regs (s : State) (c : Nat) : (s.raiseCtxIrq c).regs = s.regs := by
  unfold State.raiseCtxIrq
  dsimp only
  split
  · rw [State.emit_regs, State.modHub_regs]
  · rw [State.modHub_regs]

theorem State.raiseCtxIrq_mem (s : State) (c : Nat) : (s.raiseCtxIrq c).mem = s.mem :=
  (State.raiseCtxIrq_frame (F := 160) rfl (.refl _ s)).mem rfl

theorem State.mem_ctxIrq_raiseCtxIrq (s : State) (c : Nat) : 32 + c ∈ (s.raiseCtxIrq c).hub.ctxIrq := by
  have raised : 32 + c ∈ setIns s.hub.ctxIrq (32 + c) := (mem_setIns _ _ _).2 (.inl rfl)
  unfold State.raiseCtxIrq
  dsimp only
  split
  · rwa [State.emit_hub, State.modHub_hub]
  · rwa [State.modHub_hub]

theorem State.raiseIf_spec (s : State) (c : Nat) (b : Bool) :
    (s.raiseIf c b).regs = s.regs ∧ (s.raiseIf c b).mem = s.mem ∧ (b = true → 32 + c ∈ (s.raiseIf c b).hub.ctxIrq) := by
  unfold State.raiseIf
  cases b with
  | true => exact ⟨s.raiseCtxIrq_regs c, s.raiseCtxIrq_mem c, fun _ => s.mem_ctxIrq_raiseCtxIrq c⟩
  | false => exact ⟨rfl, rfl, fun h => by cases h⟩

theorem RingKept.raiseIf {n e : Nat} {b : Bool} {r : State} (h : RingKept c n r s) : RingKept c n r (s.raiseIf e b) :=
  .ite h.raiseCtxIrq h

/-- A taken descriptor stays out of the window and CQ_TAIL stays where it stands, whatever follows. -/
theorem RingKept.taken_spec {t : State} (hc : c < s.hub.ctxs.length) (h : RingKept c d.num (s.taken c d) t) :
    t.desc c d.num = none ∧ t.cqTail c = (s.cqTail c + 1) % 2 ^ 32
    ∧ t.rf (rHUB_CTX_CNT c) fHUB_CTX_CNT_DB_ERR_CNT = s.rf (rHUB_CTX_CNT c) fHUB_CTX_CNT_DB_ERR_CNT := by
  refine ⟨h.gone (State.taken_left hc).gone, ?_, ?_⟩
  · rw [← State.taken_cqTail hc, State.cqTail, h.regs.rf (ringReg_ptrs c), State.cqTail]
  · rw [h.regs.rf (ringReg_cnt c), State.taken_dbErr hc]

theorem State.taken_followed_outside (hc : c < s.hub.ctxs.length) (hj : d.inJob = none) (op : d.op ≠ 7)
    (begins : ∀ j, (s.ctx c).job = some j → j.beginNum ≠ d.num) : (s.taken c d).followed c d = s.taken c d :=
  State.followed_outside hj op (fun j h => begins j (by rwa [State.taken_job hc] at h))

/-- What a completion leaves once its record is dealt with. -/
theorem State.completed_spec (hc : c < s.hub.ctxs.length) (b : Bool) :
    (((s.taken c d).followed c d).raiseIf c b).desc c d.num = none
    ∧ (((s.taken c d).followed c d).raiseIf c b).cqTail c = (s.cqTail c + 1) % 2 ^ 32
    ∧ (d.inJob = none → d.op ≠ 7 → (∀ j, (s.ctx c).job = some j → j.beginNum ≠ d.num) →
        (((s.taken c d).followed c d).raiseIf c b).mem = s.mem
        ∧ RegsBut s (((s.taken c d).followed c d).raiseIf c b) [rHUB_CTX_PTRS c, rHUB_CTX_STATUS c, rHUB_CTX_CNT c]
        ∧ (b = true → 32 + c ∈ (((s.taken c d).followed c d).raiseIf c b).hub.ctxIrq)) := by
  obtain ⟨gone, tail, -⟩ := RingKept.taken_spec hc (RingKept.raiseIf (e := c) (b := b) (State.followed_kept d.num))
  refine ⟨gone, tail, fun hj op begins => ?_⟩
  rw [State.taken_followed_outside hc hj op begins]
  obtain ⟨regs, mem, raised⟩ := (s.taken c d).raiseIf_spec c b
  exact ⟨mem.trans (State.taken_mem hc), (State.taken_regs hc).of_regs regs, raised⟩

section
variable {n : Nat} (hc : c < s.hub.ctxs.length) (found : s.desc c n = some d) (ended : d.phase = .finished)
  (due : s.recordDue c d = true)
include hc found ended due

theorem completionRecord_discards (full : s.cqFull c = true) (drains : s.ctxState c = 2) :
    Runs (.completionRecord c n) s (fun t =>
      t.desc c n = none ∧ t.cqTail c = (s.cqTail c + 1) % 2 ^ 32
      ∧ t.rf (rHUB_CTX_CNT c) fHUB_CTX_CNT_DB_ERR_CNT = s.rf (rHUB_CTX_CNT c) fHUB_CTX_CNT_DB_ERR_CNT
      ∧ (d.inJob = none → d.op ≠ 7 → (∀ j, (s.ctx c).job = some j → j.beginNum ≠ n) →
          t.mem = s.mem ∧ RegsBut s t [rHUB_CTX_PTRS c, rHUB_CTX_STATUS c, rHUB_CTX_CNT c])) := by
  refine ⟨_, exec_completionRecord_discards found ended due full drains, ?_⟩
  obtain rfl := State.desc_num found
  obtain ⟨gone, tail, counts⟩ := RingKept.taken_spec hc (State.followed_kept (s := s.taken c d) (d := d) (c := c) d.num)
  refine ⟨gone, tail, counts, fun hj op begins => ?_⟩
  rw [State.taken_followed_outside hc hj op begins]
  exact ⟨State.taken_mem hc, State.taken_regs hc⟩

theorem completionRecord_writes (room : s.cqFull c = false) (place : s.storable (s.recordAt c) 32) :
    Runs (.completionRecord c n) s (fun t =>
      t.desc c n = none ∧ t.cqTail c = (s.cqTail c + 1) % 2 ^ 32
      ∧ (d.inJob = none → d.op ≠ 7 → (∀ j, (s.ctx c).job = some j → j.beginNum ≠ n) →
          Stored s t (s.recordAt c)
            (recordBytes d d.op d.status d.detail (phaseOf (s.cqTail c) (s.cqSize c)) d.attempt s.dtime)
          ∧ RegsBut s t [rHUB_CTX_PTRS c, rHUB_CTX_STATUS c, rHUB_CTX_CNT c]
          ∧ (d.irq = true → s.flag (rHUB_CTX_CFG c) fHUB_CTX_CFG_IRQ_EN = true → 32 + c ∈ t.hub.ctxIrq))) := by
  obtain ⟨m, put, holds⟩ := State.putRecord_storable (d := d) place
  have exec := exec_completionRecord_writes found ended due room
  rw [put] at exec
  obtain rfl := State.desc_num found
  obtain ⟨gone, tail, rest⟩ := State.completed_spec (s := s.modMem (fun _ => m)) (d := d) (by rwa [State.modMem_hub])
    (d.irq && s.flag (rHUB_CTX_CFG c) fHUB_CTX_CFG_IRQ_EN)
  have regs : ∀ a, (s.modMem (fun _ => m)).reg a = s.reg a := State.reg_congr (State.modMem_regs _ _)
  have job : ((s.modMem (fun _ => m)).ctx c).job = (s.ctx c).job :=
    congrArg Ctx.job (State.ctx_congr (congrArg Hub.ctxs (State.modMem_hub s _)) c)
  refine ⟨_, exec, gone, by rw [tail, State.cqTail, State.rf_congr (regs _), State.cqTail], fun hj op begins => ?_⟩
  obtain ⟨mem, kept, raised⟩ := rest hj op (by rwa [job])
  refine ⟨.of_holds ?_, fun a ha => (kept a ha).trans (regs a), fun irq en => raised (by rw [irq, en]; rfl)⟩
  rw [State.recordOf, State.attemptOf_outside hj] at holds
  rwa [mem, State.modMem_mem]

end

end

/-! ## The statement -/

/-- Settles O23, by what the checks at fetch rest on, and by what a completed descriptor leaves of its context: the job that it
may end and the seal that it may start keep the pointers, the counts and the window. -/
theorem descriptorsAreFetchedAndRecorded : Obligations.DescriptorsAreFetchedAndRecorded := by
  unfold Obligations.DescriptorsAreFetchedAndRecorded
  intro s c _ hc
  refine ⟨?_, ?_, ?_⟩
  · intro d enabled awake room rest replay ended outside holds new num
    have fetches : s.FetchesRing c := ⟨enabled, awake, room, rest, replay, ended, outside, holds⟩
    rw [← num] at new
    refine ⟨fun bs read hd ok => ?_, fun bs read hd bad => ?_, fun e read => ?_⟩
    · exact descriptorFetch_accepts hc fetches (State.ringDesc_ok num read hd) (by rw [hd]) ok
    · exact descriptorFetch_malformed hc fetches (State.ringDesc_ok num read hd) new (by rw [hd]) bad
    · have number : d.num = (s.ringDesc c).num := num.trans (s.ringDesc_num c).symm
      rw [number] at new ⊢
      exact descriptorFetch_poisoned hc fetches rfl new (State.ringDesc_err num read)
  · exact fun n d found ended due room place => completionRecord_writes hc found ended due room place
  · exact fun n d found ended due full =>
      ⟨exec_completionRecord_waits found ended due full, completionRecord_discards hc found ended due full⟩

end Sys2Proof.Machine
end

/-!
Proofs for Chorus, part 1: what leaves the first registers of the CH_ window alone. A commit of a view, an exile and a return to
OFF set routes, end collectives and requests, and reselect the time source; none of that writes CH_CFG to CH_BAR_STAT.
-/
section
namespace Sys2Proof.Machine

/-! ## The registers -/

/-- The registers of the CH_ window from CH_CFG to CH_BAR_STAT (Tables 14.7, 14.8). -/
def chReg (a : Addr) : Prop := a / 0x40 = rCH_CFG / 0x40

theorem chReg_cfg : chReg rCH_CFG := by unfold chReg; decide

theorem chReg_status : chReg rCH_STATUS := by unfold chReg; decide

theorem chReg_view : chReg rCH_VIEW := by unfold chReg; decide

theorem chReg_barStat : chReg rCH_BAR_STAT := by unfold chReg; decide

theorem chReg.window {a : Nat} (h : chReg a) : a / 0x10000 = 0x140134 := by
  have place : a / 0x40 = 0x1401340000 / 0x40 := h
  omega

theorem not_chReg_rCH_ROUTE (t : Nat) : ¬ chReg (rCH_ROUTE t) := by
  show ¬ ((0x1401340100 + t * 0x8) / 0x40 = 0x1401340000 / 0x40)
  omega

theorem not_chReg_rMC_POISON_CNT (i : Nat) : ¬ chReg (rMC_POISON_CNT i) := by
  show ¬ ((0x1400c00218 + i * 0x10000) / 0x40 = 0x1401340000 / 0x40)
  omega

theorem not_chReg_rHUB_CTX_LOST_SUM (c : Nat) : ¬ chReg (rHUB_CTX_LOST_SUM c) := by
  show ¬ ((0x1402000218 + c * 0x10000) / 0x40 = 0x1401340000 / 0x40)
  omega

theorem not_chReg_rTILE_STATUS {t : Nat} (ht : t < 128) : ¬ chReg (rTILE_STATUS t) := by
  show ¬ ((0x1400000000 + t * 0x10000) / 0x40 = 0x1401340000 / 0x40)
  omega

theorem not_chReg_of_window {a : Nat} (h : a / 0x10000 ≠ 0x140134) : ¬ chReg a := fun k => h k.window

/-! ## Operations that keep them -/

theorem RegsKept.mono {P Q : Addr → Prop} {s t : State} (h : RegsKept P s t) (hQ : ∀ a, Q a → P a) : RegsKept Q s t :=
  fun a ha => h a (hQ a ha)

theorem RegsKept.ite {P : Addr → Prop} {r s t : State} {p : Prop} [Decidable p] (hs : RegsKept P r s) (ht : RegsKept P r t) :
    RegsKept P r (if p then s else t) := by
  split <;> assumption

theorem RegsKept.foldl {P : Addr → Prop} {r : State} {α : Type} {f : State → α → State} {l : List α}
    (hf : ∀ x, ∀ a ∈ l, RegsKept P r x → RegsKept P r (f x a)) : ∀ {x : State}, RegsKept P r x → RegsKept P r (l.foldl f x) := by
  induction l with
  | nil => exact fun h => h
  | cons a l ih =>
    exact fun h => ih (fun x b hb => hf x b (List.mem_cons_of_mem a hb)) (hf _ a List.mem_cons_self h)

/-- An update of the hub's tables writes no register. -/
theorem RegsKept.modHub {P : Addr → Prop} {r s : State} {f : Hub → Hub} (h : RegsKept P r s) : RegsKept P r (s.modHub f) :=
  h.of_regs (State.modHub_regs _ _)

theorem RegsKept.modMem {P : Addr → Prop} {r s : State} {f : Mem → Mem} (h : RegsKept P r s) : RegsKept P r (s.modMem f) :=
  h.of_regs (State.modMem_regs _ _)

theorem RegsKept.emit {P : Addr → Prop} {r s : State} {x : Sent} (h : RegsKept P r s) : RegsKept P r (s.emit x) :=
  h.of_regs (State.emit_regs _ _)

section
variable {r s : State}

theorem RegsKept.traceOnly {t : State} (h : RegsKept chReg r s) (k : TraceOnly s t) : RegsKept chReg r t :=
  h.trans (fun a ha => k a (by rw [ha.window]; decide))

theorem RegsKept.traceEvent {e ev : Nat} {k : TraceCmd} (h : RegsKept chReg r s) : RegsKept chReg r (s.traceEvent e ev k) :=
  h.traceOnly (State.traceEvent_regs (.refl s))

theorem RegsKept.finish {c n st detail : Nat} (h : RegsKept chReg r s) : RegsKept chReg r (s.finish c n st detail) :=
  h.traceOnly (s.finish_regs c n st detail)

theorem RegsKept.setRoutes {m : Nat} (h : RegsKept chReg r s) : RegsKept chReg r (s.setRoutes m) :=
  .foldl (fun _ t _ hx => hx.setReg (not_chReg_rCH_ROUTE t)) h

/-! ## Collectives that meet a fault (R150) -/

theorem RegsKept.dmaRelease {c st : Nat} {d : Desc} (h : RegsKept chReg r s) : RegsKept chReg r (s.dmaRelease c d st) := by
  unfold State.dmaRelease
  refine .foldl (fun x u _ hx => ?_) h
  have freed : RegsKept chReg r (x.modDma (u.1 - 144) (fun m => { m with cur := none })) := hx.modHub
  exact freed.traceEvent.of_regs (State.raiseDone_regs _ u.1)

theorem RegsKept.collEnd {x : Coll} {st detail : Nat} (h : RegsKept chReg r s) : RegsKept chReg r (s.collEnd x st detail) := by
  unfold State.collEnd
  refine .foldl (fun y m _ hy => ?_) h.modHub
  split
  · exact (RegsKept.ite hy.dmaRelease hy).finish
  · exact hy

theorem RegsKept.collSpoil {x : Coll} {heads : List CollHead} (h : RegsKept chReg r s) :
    RegsKept chReg r (s.collSpoil x heads) := by
  unfold State.collSpoil
  exact (RegsKept.foldl (fun _ _ _ hy => .foldl (fun _ _ _ hz => hz.emit) hy) h).modHub.collEnd

theorem RegsKept.collCheck {tag : Nat} (h : RegsKept chReg r s) : RegsKept chReg r (s.collCheck tag) := by
  unfold State.collCheck
  split
  · exact h
  · refine .ite h.collSpoil ?_
    split
    · exact h.collEnd
    · exact h

theorem RegsKept.collCheckAll (h : RegsKept chReg r s) : RegsKept chReg r s.collCheckAll :=
  .foldl (fun _ _ _ hx => hx.collCheck) h

/-! ## Requests that lose their part (R315) -/

theorem RegsKept.stopTile {t st : Nat} (ht : t < 128) (h : RegsKept chReg r s) : RegsKept chReg r (s.stopTile t st) := by
  unfold State.stopTile State.setTileState
  exact (h.traceEvent.of_regs (State.modTile_regs _ _ _)).wf (not_chReg_rTILE_STATUS ht)

theorem RegsKept.stopKernel {c n st : Nat} (h : RegsKept chReg r s) : RegsKept chReg r (s.stopKernel c n st) := by
  have stopped : RegsKept chReg r ((s.kernelTiles c n).foldl (fun x t => x.stopTile t st) s) :=
    .foldl (fun _ t ht hx => hx.stopTile (List.mem_range.1 (List.mem_filter.1 ht).1)) h
  exact (stopped.wf (not_chReg_rHUB_CTX_LOST_SUM c)).modHub.modHub

theorem RegsKept.tileFault {t st a : Nat} (h : RegsKept chReg r s) : RegsKept chReg r (s.tileFault t st a) :=
  h.finish.stopKernel

theorem RegsKept.lostRequests (h : RegsKept chReg r s) : RegsKept chReg r s.lostRequests := by
  refine .foldl (fun x t _ hx => ?_) h
  split
  · exact hx.tileFault
  · exact hx

/-! ## Time source, view record and notice (R321, R327, R441) -/

theorem RegsKept.reselect (h : RegsKept chReg r s) : RegsKept chReg r s.reselect := by
  have selected := h.wf (b := rIO_TIME_STAT) (f := fIO_TIME_STAT_SOURCE) (v := s.timeSource) (not_chReg_of_window (by decide))
  exact .ite h (.ite selected (selected.bump (not_chReg_of_window (by decide))))

theorem RegsKept.lineWrite {a : Addr} {bs : List Byte} (h : RegsKept chReg r s) : RegsKept chReg r (s.lineWrite a bs) :=
  .ite (.ite h.modMem (h.bump (not_chReg_rMC_POISON_CNT _))) h.modMem

theorem RegsKept.memWrite {a : Addr} {bs : List Byte} (h : RegsKept chReg r s) : RegsKept chReg r (s.memWrite a bs) :=
  .ite h.modMem (.foldl (fun _ _ _ hx => hx.lineWrite) h)

theorem RegsKept.writeView (h : RegsKept chReg r s) : RegsKept chReg r s.writeView := .ite h.memWrite h

theorem RegsKept.renotice (h : RegsKept chReg r s) : RegsKept chReg r s.renotice := .ite h.modHub h

/-- What follows a change of routes: they are set, and collectives and requests are looked at. -/
abbrev State.rerouted (s : State) (m : Nat) : State := ((s.setRoutes m).collCheckAll).lostRequests

theorem RegsKept.rerouted {m : Nat} (h : RegsKept chReg r s) : RegsKept chReg r (s.rerouted m) :=
  h.setRoutes.collCheckAll.lostRequests

end

theorem State.rerouted_ch (s : State) (m : Nat) : (s.rerouted m).ch = s.ch :=
  (State.lostRequests_frame (F := 8913329 ||| 8913313) rfl
    (State.collCheckAll_frame rfl (State.setRoutes_frame rfl (.refl _ s)))).ch rfl

theorem State.reselect_ch (s : State) : s.reselect.ch = s.ch := (State.reselect_frame (F := 1) rfl (.refl _ s)).ch rfl

end Sys2Proof.Machine
end

/-!
Proofs for Chorus, part 2: frames go out and come in, agreements open, and a view is committed or the part is EXILED
(R317 to R320).
-/
section
namespace Sys2Proof.Machine

/-! ## Reading the state -/

theorem State.dtime_congr {s t : State} (h : t.time = s.time) : t.dtime = s.dtime := by simp only [State.dtime, h]

theorem mem_membersOf {m d : Nat} : d ∈ membersOf m ↔ d < 16 ∧ m.testBit d = true := by simp [membersOf]

/-! ## Frames that go out -/

theorem State.flood_parts (s : State) (b : ChBody) : Within 262272 s (s.flood b) := State.flood_frame rfl (.refl _ s)

theorem State.forward_parts (s : State) (k : Nat) (f : ChFrame) : Within 262272 s (s.forward k f) :=
  State.forward_frame rfl (.refl _ s)

/-- One frame leaves on each link of a list, and nothing else changes. -/
theorem State.foldl_emit (g : Nat → Sent) (ks : List Nat) : ∀ s : State,
    ks.foldl (fun y k => y.emit (g k)) s = { s with sent := (ks.map g).reverse ++ s.sent } := by
  induction ks with
  | nil => exact fun _ => rfl
  | cons k ks ih => exact fun s => by rw [List.foldl_cons, ih]; simp [State.emit]

theorem State.flood_sent (s : State) (b : ChBody) :
    (s.flood b).sent.length = s.sent.length + ((List.range 4).filter s.linkUp).length := by
  rw [State.flood, State.sendFrame, State.modCh_sent, State.foldl_emit, List.length_append, List.length_reverse,
    List.length_map, Nat.add_comm]

theorem State.flood_ch (s : State) (b : ChBody) :
    (s.flood b).ch = { s.ch with seq := (s.ch.seq + 1) % 2 ^ 32, seen := (s.selfId, s.ch.seq) :: s.ch.seen } := by
  rw [State.flood, State.sendFrame, State.modCh_ch, State.foldl_emit]

theorem State.forward_sent (s : State) (k : Nat) (f : ChFrame) :
    (s.forward k f).sent.length = s.sent.length + ((List.range 4).filter (fun j => j != k && s.linkUp j)).length := by
  rw [State.forward, State.modCh_sent, State.foldl_emit, List.length_append, List.length_reverse, List.length_map, Nat.add_comm]

theorem State.forward_ch (s : State) (k : Nat) (f : ChFrame) :
    (s.forward k f).ch = { s.ch with seen := (f.origin, f.seq) :: s.ch.seen } := by
  rw [State.forward, State.modCh_ch, State.foldl_emit]

theorem State.flood_regs (s : State) (b : ChBody) : (s.flood b).regs = s.regs := (s.flood_parts b).regs rfl

theorem State.flood_mem (s : State) (b : ChBody) : (s.flood b).mem = s.mem := (s.flood_parts b).mem rfl

theorem State.forward_regs (s : State) (k : Nat) (f : ChFrame) : (s.forward k f).regs = s.regs := (s.forward_parts k f).regs rfl

theorem State.forward_mem (s : State) (k : Nat) (f : ChFrame) : (s.forward k f).mem = s.mem := (s.forward_parts k f).mem rfl

theorem State.rf_of_regs {s t : State} (h : t.regs = s.regs) (a : Addr) (f : Fld) : t.rf a f = s.rf a f :=
  State.rf_congr (State.reg_congr h a) f

theorem State.flag_of_regs {s t : State} (h : t.regs = s.regs) (a : Addr) (f : Fld) : t.flag a f = s.flag a f := by
  rw [State.flag, State.rf_of_regs h, State.flag]

theorem State.linkUp_of_regs {s t : State} (h : t.regs = s.regs) (k : Nat) : t.linkUp k = s.linkUp k := by
  simp only [State.linkUp, State.isDev, State.dlState, State.rf_of_regs h]

/-! ## Frames that come in (R319, R320) -/

section
variable {s : State} {k : Nat} {f : ChFrame} {act : State → State}

theorem State.floodedIn_badCrc (up : s.linkUp k = true) :
    s.floodedIn k false f act = s.bump (rDL_LINK_CNT k) fDL_LINK_CNT_FRAME_ERR_CNT 1 := by
  simp [State.floodedIn, up]

theorem State.floodedIn_new (up : s.linkUp k = true) (new : s.ch.seen.contains (f.origin, f.seq) = false)
    (judged : s.chState = csDISCOVER ∨ (s.chState = csRUN ∧ s.listens f.origin = true)) :
    s.floodedIn k true f act = act (s.forward k f) := by
  rcases judged with st | ⟨st, member⟩
  · simp only [State.floodedIn, up, st, new]; rfl
  · simp only [State.floodedIn, up, st, new, member]; rfl

end

/-! ## Where a view stands -/

/-- The part is in state `st` with view number `v` and member set `m`, and no agreement is open. -/
structure State.ViewStands (t : State) (st v m : Nat) : Prop where
  state   : t.chState = st
  view    : t.chView = v
  members : t.rf rCH_STATUS fCH_STATUS_MEMBERS = m
  closed  : t.ch.agree = none

section
variable {s t : State} {st v m : Nat}

theorem State.ViewStands.step (h : s.ViewStands st v m) (status : t.reg rCH_STATUS = s.reg rCH_STATUS)
    (view : t.reg rCH_VIEW = s.reg rCH_VIEW) (closed : t.ch.agree = s.ch.agree) : t.ViewStands st v m :=
  ⟨(State.rf_congr status _).trans h.state, (State.rf_congr view _).trans h.view,
    (State.rf_congr status _).trans h.members, closed.trans h.closed⟩

theorem State.ViewStands.kept (h : s.ViewStands st v m) (regs : RegsKept chReg s t) (ch : t.ch = s.ch) : t.ViewStands st v m :=
  h.step (regs _ chReg_status) (regs _ chReg_view) (by rw [ch])

/-- A write of a register other than CH_STATUS and CH_VIEW. -/
theorem State.ViewStands.wf {a : Addr} {f : Fld} {n : Nat} (h : s.ViewStands st v m) (ha : rCH_STATUS ≠ a ∧ rCH_VIEW ≠ a) :
    (s.wf a f n).ViewStands st v m :=
  h.step (State.reg_setReg_other _ _ ha.1) (State.reg_setReg_other _ _ ha.2) rfl

/-- A write of a field of CH_STATUS other than STATE and MEMBERS. -/
theorem State.ViewStands.wf_status {f : Fld} {n : Nat} (h : s.ViewStands st v m)
    (hf : f.ok = true ∧ f.apart fCH_STATUS_STATE = true ∧ f.apart fCH_STATUS_MEMBERS = true) :
    (s.wf rCH_STATUS f n).ViewStands st v m :=
  ⟨(State.rf_wf_apart hf.1 (by decide) hf.2.1 n).trans h.state, (State.rf_wf_other (by decide) n).trans h.view,
    (State.rf_wf_apart hf.1 (by decide) hf.2.2 n).trans h.members, h.closed⟩

theorem State.ViewStands.masterChange {old new : Nat} (h : s.ViewStands st v m) : (s.masterChange old new).ViewStands st v m := by
  unfold State.masterChange
  split
  · exact h
  · exact h.step (State.reg_congr (State.modTime_regs _ _) _) (State.reg_congr (State.modTime_regs _ _) _)
      (by rw [State.modTime_ch])

end

/-! ## The barrier is looked at (R322) -/

/-- The count of completed barriers is `n`, and so is the release word, where one is enabled. -/
abbrev State.releaseWritten (s : State) (n : Nat) : State :=
  if s.flag rCH_RELEASE_ADDR fCH_RELEASE_ADDR_EN then
    (s.wf rCH_BAR_STAT fCH_BAR_STAT_COMPLETED n).memWrite (s.rf rCH_RELEASE_ADDR fCH_RELEASE_ADDR_ADDR * 8) (leBytes 8 n)
  else s.wf rCH_BAR_STAT fCH_BAR_STAT_COMPLETED n

theorem State.releaseWritten_kept (s : State) (n : Nat) :
    RegsKept chReg (s.wf rCH_BAR_STAT fCH_BAR_STAT_COMPLETED n) (s.releaseWritten n) :=
  .ite (RegsKept.memWrite (.refl _)) (.refl _)

theorem State.releaseWritten_parts (s : State) (n : Nat) : Within 3 s (s.releaseWritten n) :=
  .ite (State.memWrite_frame rfl (State.wf_frame rfl (.refl _ s))) (State.wf_frame rfl (.refl _ s))

/-- Barriers up to `n` complete. -/
abbrev State.barrierDone (s : State) (n : Nat) : State :=
  (s.releaseWritten n).modCh (fun c =>
    { c with mine := c.mine.filter (fun p => decide (n < p.1)), late := c.late.filter (fun b => decide (n < b)) })

theorem State.barrierDone_regs (s : State) (n : Nat) :
    RegsKept chReg (s.wf rCH_BAR_STAT fCH_BAR_STAT_COMPLETED n) (s.barrierDone n) :=
  (State.releaseWritten_kept _ n).of_regs (State.modCh_regs _ _)

theorem State.barrierDone_ch (s : State) (n : Nat) :
    (s.barrierDone n).ch
      = { s.ch with mine := s.ch.mine.filter (fun p => decide (n < p.1)), late := s.ch.late.filter (fun b => decide (n < b)) } := by
  rw [State.barrierDone, State.modCh_ch, (State.releaseWritten_parts _ n).ch rfl]

/-- The barrier at which every member has arrived, where there are members. -/
abbrev State.barrierMet (s : State) : Option Nat := ((membersOf (s.rf rCH_STATUS fCH_STATUS_MEMBERS)).map s.ch.arrived).min?

theorem State.barrierEval_cases (s : State) :
    s.barrierEval = s
    ∨ ∃ n, s.barrierMet = some n ∧ s.chState = csRUN ∧ s.barDone < n ∧ s.barrierEval = s.barrierDone n := by
  unfold State.barrierEval
  split
  · exact .inl rfl
  · next n met =>
    split
    · next due => exact .inr ⟨n, met, due.1, due.2, rfl⟩
    · exact .inl rfl

theorem State.barrierEval_met {s : State} {n : Nat} (met : s.barrierMet = some n) (run : s.chState = csRUN) (new : s.barDone < n) :
    s.barrierEval = s.barrierDone n := by
  unfold State.barrierEval
  split
  · next empty => exact absurd (met.symm.trans empty) (by simp)
  · next k least =>
    obtain rfl : k = n := Option.some.inj (least.symm.trans met)
    exact if_pos ⟨run, new⟩

/-- What members have arrived at, and what is agreed, is not the barrier's to change. -/
theorem State.barrierEval_ch (s : State) : s.barrierEval.ch.arrivals = s.ch.arrivals ∧ s.barrierEval.ch.agree = s.ch.agree := by
  rcases s.barrierEval_cases with h | ⟨n, -, -, -, h⟩
  · rw [h]; exact ⟨rfl, rfl⟩
  · rw [h, State.barrierDone_ch]; exact ⟨rfl, rfl⟩

theorem State.barrierEval_sent (s : State) : s.barrierEval.sent = s.sent :=
  (State.barrierEval_frame (F := 262147) rfl (.refl _ s)).sent rfl

theorem State.ViewStands.barrierEval {s : State} {st v m : Nat} (h : s.ViewStands st v m) : s.barrierEval.ViewStands st v m := by
  rcases s.barrierEval_cases with e | ⟨n, -, -, -, e⟩
  · rwa [e]
  · rw [e]
    have done := h.wf (a := rCH_BAR_STAT) (f := fCH_BAR_STAT_COMPLETED) (n := n) (by decide)
    exact done.step (State.barrierDone_regs s n _ chReg_status) (State.barrierDone_regs s n _ chReg_view)
      (by rw [State.barrierDone_ch, State.wf, State.setReg_ch])

/-! ## Commit and exile (R318, R319) -/

/-- The number and the set are committed, and the part is in RUN. -/
abbrev State.committed (s : State) (num m : Nat) : State :=
  ((((s.wf rCH_VIEW fCH_VIEW_VIEW num).wf rCH_STATUS fCH_STATUS_MEMBERS m).setChState csRUN).clrFlag
    rCH_STATUS fCH_STATUS_AGREE_OPEN).modCh (fun c => { c with agree := none })

theorem State.committed_stands (s : State) {num m : Nat} (hn : num < 2 ^ 64) (hm : m < 2 ^ 16) :
    (s.committed num m).ViewStands csRUN num m := by
  refine ⟨?_, ?_, ?_, by rw [State.committed, State.modCh_ch]⟩
  · rw [State.chState, State.rf_of_regs (State.modCh_regs _ _), State.clrFlag, State.rf_wf_apart (by decide) (by decide) (by decide),
      State.setChState, State.rf_wf_same (by decide)]
    rfl
  · rw [State.chView, State.rf_of_regs (State.modCh_regs _ _), State.clrFlag, State.rf_wf_other (by decide), State.setChState,
      State.rf_wf_other (by decide), State.rf_wf_other (by decide), State.rf_wf_same (by decide)]
    exact Nat.mod_eq_of_lt hn
  · rw [State.rf_of_regs (State.modCh_regs _ _), State.clrFlag, State.rf_wf_apart (by decide) (by decide) (by decide),
      State.setChState, State.rf_wf_apart (by decide) (by decide) (by decide), State.rf_wf_same (by decide)]
    exact Nat.mod_eq_of_lt hm

/-- What else a commit does changes neither the number, the set nor the state. -/
theorem State.viewCommit_stands (s : State) {num m : Nat} (hn : num < 2 ^ 64) (hm : m < 2 ^ 16) :
    (s.viewCommit num m).ViewStands csRUN num m := by
  unfold State.viewCommit State.bump State.raiseIrq
  extract_lets st s0 s1 s2 s3 s4 s5 s6
  have committed : s2.ViewStands csRUN num m := s0.committed_stands hn hm
  have routed : s3.ViewStands csRUN num m := committed.kept (RegsKept.rerouted (.refl s2)) (s2.rerouted_ch m)
  have met : s4.ViewStands csRUN num m := (routed.wf_status (by decide)).barrierEval
  have roles : s5.ViewStands csRUN num m := (met.wf_status (by decide)).wf_status (by decide)
  have followed : s6.ViewStands csRUN num m := by
    unfold s6
    split
    · exact roles
    · exact roles.masterChange
  clear_value s6
  have told : (s6.reselect.writeView.renotice).ViewStands csRUN num m :=
    followed.kept (((RegsKept.refl s6).reselect).writeView.renotice)
      ((State.renotice_frame (F := 35) rfl (State.writeView_frame rfl (State.reselect_frame rfl (.refl _ s6)))).ch rfl)
  exact (told.wf (by decide)).wf (by decide)

/-- The part is EXILED: it is its own only member, and has neither role nor barrier. -/
abbrev State.exiled (s : State) : State :=
  ((((s.setChState csEXILED).wf rCH_STATUS fCH_STATUS_MEMBERS (2 ^ s.selfId)).clrFlag rCH_STATUS fCH_STATUS_AGREE_OPEN).wf
    rCH_STATUS fCH_STATUS_ROLE 0).modCh (fun c => { c with agree := none, arrivals := [], mine := [], late := [] })

theorem State.exiled_stands {s : State} (hs : s.selfId < 16) : s.exiled.ViewStands csEXILED s.chView (2 ^ s.selfId) := by
  refine ⟨?_, ?_, ?_, by rw [State.exiled, State.modCh_ch]⟩
  · rw [State.chState, State.rf_of_regs (State.modCh_regs _ _), State.rf_wf_apart (by decide) (by decide) (by decide),
      State.clrFlag, State.rf_wf_apart (by decide) (by decide) (by decide), State.rf_wf_apart (by decide) (by decide) (by decide),
      State.setChState, State.rf_wf_same (by decide)]
    rfl
  · rw [State.chView, State.rf_of_regs (State.modCh_regs _ _), State.rf_wf_other (by decide), State.clrFlag,
      State.rf_wf_other (by decide), State.rf_wf_other (by decide), State.setChState, State.rf_wf_other (by decide), State.chView]
  · rw [State.rf_of_regs (State.modCh_regs _ _), State.rf_wf_apart (by decide) (by decide) (by decide), State.clrFlag,
      State.rf_wf_apart (by decide) (by decide) (by decide), State.rf_wf_same (by decide)]
    exact Nat.mod_eq_of_lt (Nat.pow_lt_pow_right (by decide) hs)

theorem State.exile_stands {s : State} (hs : s.selfId < 16) : s.exile.ViewStands csEXILED s.chView (2 ^ s.selfId) :=
  (State.exiled_stands hs).kept (RegsKept.reselect (.rerouted (.refl s.exiled)))
    (((s.exiled.rerouted 0).reselect_ch).trans (s.exiled.rerouted_ch 0))

/-! ## An agreement opens and is looked at (R317) -/

section
variable {s : State} {a : ChAgree}

theorem State.agreeCheck_exile (h : s.ch.agree = some a) (out : a.set.testBit s.selfId = false) : s.agreeCheck = s.exile := by
  simp [State.agreeCheck, h, out]

theorem State.agreeCheck_commit (h : s.ch.agree = some a) (self : a.set.testBit s.selfId = true) (all : s.allAgree a = true) :
    s.agreeCheck = s.viewCommit a.num a.set := by
  simp [State.agreeCheck, h, self, all]

theorem State.agreeCheck_waits (h : s.ch.agree = some a) (self : a.set.testBit s.selfId = true) (all : s.allAgree a = false) :
    s.agreeCheck = s := by
  simp [State.agreeCheck, h, self, all]

theorem State.allAgree_iff :
    s.allAgree a = true ↔ ∀ d ∈ membersOf a.set, d ≠ s.selfId → mapGet s.ch.views d = some (a.num, a.set) := by
  simp only [State.allAgree, List.all_eq_true, Bool.or_eq_true, beq_iff_eq, or_iff_not_imp_left, ne_eq]

end

/-- A proposal that has flooded and is not yet looked at. -/
def State.proposed (s : State) (num set since : Nat) : State :=
  ((s.modCh (fun c => { c with agree := some { num := num, set := set, since := since, flooded := s.dtime } })).setFlag
    rCH_STATUS fCH_STATUS_AGREE_OPEN).flood (.view num set)

section
variable (s : State) (num set since : Nat)

theorem State.propose_eq : s.propose num set since = (s.proposed num set since).agreeCheck := rfl

theorem State.proposed_agree :
    (s.proposed num set since).ch.agree = some { num := num, set := set, since := since, flooded := s.dtime } := by
  rw [State.proposed, State.flood_ch, State.setFlag, State.wf, State.setReg_ch, State.modCh_ch]

theorem State.proposed_views : (s.proposed num set since).ch.views = s.ch.views := by
  rw [State.proposed, State.flood_ch, State.setFlag, State.wf, State.setReg_ch, State.modCh_ch]

theorem State.proposed_rf (a : Addr) (f : Fld) : (s.proposed num set since).rf a f
    = ((s.modCh (fun c => { c with agree := some { num := num, set := set, since := since, flooded := s.dtime } })).setFlag
        rCH_STATUS fCH_STATUS_AGREE_OPEN).rf a f :=
  State.rf_of_regs (State.flood_regs _ _) a f

/-- A field of CH_STATUS other than AGREE_OPEN. -/
theorem State.proposed_status {f : Fld} (hf : f.ok = true ∧ fCH_STATUS_AGREE_OPEN.apart f = true) :
    (s.proposed num set since).rf rCH_STATUS f = s.rf rCH_STATUS f :=
  (s.proposed_rf ..).trans ((State.rf_wf_apart (by decide) hf.1 hf.2 1).trans (State.rf_of_regs (State.modCh_regs _ _) _ _))

theorem State.proposed_selfId : (s.proposed num set since).selfId = s.selfId := s.proposed_status _ _ _ (by decide)

theorem State.proposed_open : (s.proposed num set since).flag rCH_STATUS fCH_STATUS_AGREE_OPEN = true := by
  rw [State.flag, State.proposed_rf, State.setFlag, State.rf_wf_same (by decide)]
  rfl

theorem State.proposed_regs : RegsBut s (s.proposed num set since) [rCH_STATUS] := by
  unfold State.proposed State.setFlag
  exact RegsBut.of_regs (RegsBut.wf (RegsBut.of_regs (.refl s _) (State.modCh_regs _ _)) List.mem_cons_self) (State.flood_regs _ _)

theorem State.proposed_mem : (s.proposed num set since).mem = s.mem := by
  rw [State.proposed, State.flood_mem, State.setFlag, State.wf, State.setReg_mem, State.modCh_mem]

end

section
variable {s : State} {num set since : Nat}

/-- A proposal of a set without this part exiles it. -/
theorem State.propose_exile (hs : s.selfId < 16) (out : set.testBit s.selfId = false) :
    ∃ v, (s.propose num set since).ViewStands csEXILED v (2 ^ s.selfId) := by
  have self := s.proposed_selfId num set since
  have stands := State.exile_stands (s := s.proposed num set since) (by rwa [self])
  rw [State.propose_eq, State.agreeCheck_exile (s.proposed_agree ..) (by rwa [self])]
  rw [self] at stands
  exact ⟨_, stands⟩

/-- A proposal on which some member has still to agree stays open. -/
theorem State.propose_waits (self : set.testBit s.selfId = true)
    (other : ∃ d ∈ membersOf set, d ≠ s.selfId ∧ mapGet s.ch.views d ≠ some (num, set)) :
    s.propose num set since = s.proposed num set since := by
  have open' : (s.proposed num set since).allAgree { num := num, set := set, since := since, flooded := s.dtime } = false := by
    rw [Bool.eq_false_iff, ne_eq, State.allAgree_iff, State.proposed_selfId, State.proposed_views]
    obtain ⟨d, member, notSelf, differs⟩ := other
    exact fun all => differs (all d member notSelf)
  rw [State.propose_eq, State.agreeCheck_waits (s.proposed_agree ..) (by rwa [State.proposed_selfId]) open']

/-- A proposal on which every other member agrees already is committed. -/
theorem State.propose_commit (self : set.testBit s.selfId = true)
    (all : ∀ d ∈ membersOf set, d ≠ s.selfId → mapGet s.ch.views d = some (num, set)) :
    s.propose num set since = (s.proposed num set since).viewCommit num set := by
  have agreed : (s.proposed num set since).allAgree { num := num, set := set, since := since, flooded := s.dtime } = true := by
    rw [State.allAgree_iff, State.proposed_selfId, State.proposed_views]
    exact all
  rw [State.propose_eq, State.agreeCheck_commit (s.proposed_agree ..) (by rwa [State.proposed_selfId]) agreed]

end

end Sys2Proof.Machine
end

/-!
Proofs for Chorus, part 3: CH_CFG turns Chorus on and off (R309).
-/
section
namespace Sys2Proof.Machine

/-! ## A write by the access types alone (Table 0.4) -/

/-- The bits of a field row. -/
abbrev FieldDef.fld (f : FieldDef) : Fld := { hi := f.hi, lo := f.lo }

/-- A field row is the row `f`, or lies in a word and shares no bit with it. -/
def FieldDef.beside (f h : FieldDef) : Prop := h = f ∨ (h.fld.ok = true ∧ h.fld.apart f.fld = true)

theorem get_fieldWrite_rw {f : FieldDef} (hf : f.acc = .rw ∧ f.fld.ok = true) (old new acc : Word) :
    f.fld.get (fieldWrite old new f acc) = f.fld.get new := by
  unfold fieldWrite
  rw [hf.1]
  exact (Fld.get_set_same hf.2 _ _).trans (Nat.mod_eq_of_lt (Fld.get_lt _ _))

theorem get_fieldWrite_apart {f h : FieldDef} (hf : f.fld.ok = true) (hh : h.fld.ok = true ∧ h.fld.apart f.fld = true)
    (old new acc : Word) : f.fld.get (fieldWrite old new h acc) = f.fld.get acc := by
  unfold fieldWrite
  dsimp only
  split
  · exact Fld.get_set_apart hh.1 hf hh.2 _ _
  · exact Fld.get_set_apart hh.1 hf hh.2 _ _
  · rfl
  · rfl

/-- A RW field among rows that share no bit takes its new value. -/
theorem get_foldl_fieldWrite {f : FieldDef} (hf : f.acc = .rw ∧ f.fld.ok = true) (old new : Word) (l : List FieldDef)
    (apart : ∀ h ∈ l, f.beside h) : ∀ acc, f ∈ l ∨ f.fld.get acc = f.fld.get new →
      f.fld.get (l.foldl (fun acc h => fieldWrite old new h acc) acc) = f.fld.get new := by
  induction l with
  | nil => exact fun acc h => h.resolve_left List.not_mem_nil
  | cons h l ih =>
    intro acc either
    refine ih (fun k hk => apart k (List.mem_cons_of_mem h hk)) _ ?_
    rcases apart h List.mem_cons_self with rfl | beside
    · exact .inr (get_fieldWrite_rw hf ..)
    · rw [get_fieldWrite_apart hf.2 beside]
      refine either.imp_left (fun m => (List.mem_cons.1 m).resolve_left ?_)
      rintro rfl
      have self : f.fld.apart f.fld = true := beside.2
      have order := beside.1
      simp only [Fld.apart, Fld.ok, decide_eq_true_eq] at self order
      omega

theorem State.plainWrite_regs (s : State) (a : Addr) (w : Word) : RegsBut s (s.plainWrite a w) [a] := by
  unfold State.plainWrite
  split
  · exact RegsKept.setReg (.refl s) (not_not_intro List.mem_cons_self)
  · exact .refl s _

theorem State.plainWrite_parts (s : State) (a : Addr) (w : Word) : Within 1 s (s.plainWrite a w) :=
  State.plainWrite_frame rfl (.refl _ s)

/-- The field rows of CH_CFG (Table 14.7). -/
def cfgRows : List FieldDef :=
  [fd 63 48 .rw 0, fd 39 32 .rw 0x14, fd 23 23 .rw 0, fd 19 16 .rw 0, fd 15 15 .rw 0, fd 11 8 .rw 0, fd 1 1 .rw 0, fd 0 0 .rw 0]

theorem regAt_rCH_CFG : (regAt rCH_CFG).map (fun x => x.1.fields) = some cfgRows := by decide

/-- Every field of CH_CFG is RW. -/
theorem State.plainWrite_cfg (s : State) (w : Word) {f : FieldDef} (row : f ∈ cfgRows) (hf : f.acc = .rw ∧ f.fld.ok = true)
    (apart : ∀ h ∈ cfgRows, f.beside h) : (s.plainWrite rCH_CFG w).rf rCH_CFG f.fld = f.fld.get w := by
  obtain ⟨x, at', fields⟩ := Option.map_eq_some_iff.1 regAt_rCH_CFG
  rw [State.plainWrite, at', State.rf, State.reg_setReg_same, fields]
  exact get_foldl_fieldWrite hf _ _ _ apart _ (.inl row)

theorem State.plainWrite_cfg_enable (s : State) (w : Word) :
    (s.plainWrite rCH_CFG w).rf rCH_CFG fCH_CFG_ENABLE = fCH_CFG_ENABLE.get w :=
  s.plainWrite_cfg w (f := fd 0 0 .rw 0) (by decide) (by decide) (by unfold FieldDef.beside; decide)

theorem State.plainWrite_cfg_discMs (s : State) (w : Word) :
    (s.plainWrite rCH_CFG w).rf rCH_CFG fCH_CFG_DISC_MS = fCH_CFG_DISC_MS.get w :=
  s.plainWrite_cfg w (f := fd 39 32 .rw 0x14) (by decide) (by decide) (by unfold FieldDef.beside; decide)

/-! ## An entry to a power state (R380) -/

/-- Registers outside the window of the PMC. -/
def outsidePm (a : Addr) : Prop := a / 0x10000 ≠ 0x140135

theorem not_outsidePm_rPM_REF_CNT {k : Nat} (hk : k ≤ 7) : ¬ outsidePm (rPM_REF_CNT (k - 1)) := by
  show ¬ ((0x1401350210 + (k - 1) * 0x8) / 0x10000 ≠ 0x140135)
  omega

theorem not_outsidePm_rPM_STATUS : ¬ outsidePm rPM_STATUS := by unfold outsidePm; decide

/-- What may abort an entry writes registers of the PMC alone. -/
theorem State.entryCheck_kept (s : State) : RegsKept outsidePm s s.entryCheck := by
  have counted : RegsKept outsidePm s (s.entryRefusers.foldl (fun x h =>
      x.bump (rPM_REF_CNT (h.1 - 1)) (if (2 : Nat) = 2 then fPM_REF_CNT_ABORTED else fPM_REF_CNT_REFUSED) 1) s) :=
    .foldl (fun _ h m hx => hx.bump (not_outsidePm_rPM_REF_CNT (State.entryRefusers_le m))) (.refl s)
  have event : RegsKept outsidePm s (s.powerEvent 2 s.pw.target s.entryRefusers) := by
    unfold State.powerEvent
    exact (counted.setReg (by unfold outsidePm; decide)).setReg (by unfold outsidePm; decide)
  have aborted : RegsKept outsidePm s (s.abortEntry s.entryRefusers) := by
    unfold State.abortEntry State.backToRun State.unpark State.clrFlag State.setPowerState
    exact RegsKept.of_regs ((event.wf not_outsidePm_rPM_STATUS).wf not_outsidePm_rPM_STATUS)
      (by rw [State.modHarts_regs, State.modPw_regs])
  exact .ite (.ite (.refl s) aborted) (.refl s)

theorem State.entryCheck_parts (s : State) : Within 4718593 s s.entryCheck := State.entryCheck_frame rfl (.refl _ s)

theorem State.entryCheck_idle {s : State} (h : s.entering = false) : s.entryCheck = s := by simp [State.entryCheck, h]

/-! ## CH_ENABLE -/

/-- The word CH_ENABLE writes: ENABLE is set, and a DISC_MS of 0 reads as 1. -/
def State.enableWord (x : State) : Word :=
  let w := fCH_CFG_ENABLE.set (x.reg rCH_CFG) 1
  if fCH_CFG_DISC_MS.get w = 0 then fCH_CFG_DISC_MS.set w 1 else w

theorem State.enableWord_enable (x : State) : fCH_CFG_ENABLE.get x.enableWord = 1 := by
  have set : fCH_CFG_ENABLE.get (fCH_CFG_ENABLE.set (x.reg rCH_CFG) 1) = 1 := Fld.get_set_same (by decide) _ _
  unfold State.enableWord
  dsimp only
  split
  · rw [Fld.get_set_apart (by decide) (by decide) (by decide), set]
  · exact set

theorem State.enableWord_discMs (x : State) : fCH_CFG_DISC_MS.get x.enableWord = max 1 (x.rf rCH_CFG fCH_CFG_DISC_MS) := by
  have kept : fCH_CFG_DISC_MS.get (fCH_CFG_ENABLE.set (x.reg rCH_CFG) 1) = x.rf rCH_CFG fCH_CFG_DISC_MS :=
    Fld.get_set_apart (by decide) (by decide) (by decide) _ _
  unfold State.enableWord
  dsimp only
  rw [kept]
  split
  · next zero => rw [Fld.get_set_same (by decide), zero]; rfl
  · next pos => rw [kept]; omega

/-- Discovery begins. -/
abbrev State.discovering (x : State) : State :=
  ((x.plainWrite rCH_CFG x.enableWord).setChState csDISCOVER).modCh (fun c => { c with learned := x.dtime })

theorem State.chCfgWrite_enable_off {x : State} (off : x.chState = csOFF) :
    x.chCfgWrite (fCH_CFG_ENABLE.set (x.reg rCH_CFG) 1) = x.discovering.entryCheck := by
  have set : (fCH_CFG_ENABLE.get (fCH_CFG_ENABLE.set (x.reg rCH_CFG) 1) == 1) = true :=
    beq_iff_eq.2 (Fld.get_set_same (by decide) _ _)
  unfold State.chCfgWrite
  dsimp only
  rw [if_pos off, if_pos set, State.discovering, State.enableWord]

theorem State.chCfgWrite_enable_on {x : State} (on : x.chState ≠ csOFF) :
    x.chCfgWrite (fCH_CFG_ENABLE.set (x.reg rCH_CFG) 1) = x.setFlag rCH_STATUS fCH_STATUS_CFG_ERR := by
  have set : (fCH_CFG_ENABLE.get (fCH_CFG_ENABLE.set (x.reg rCH_CFG) 1) == 1) = true :=
    beq_iff_eq.2 (Fld.get_set_same (by decide) _ _)
  unfold State.chCfgWrite
  dsimp only
  rw [if_neg on, if_pos set]

theorem exec_chEnable (p : Port) (s : State) : exec (.chEnable p) s = execChEnable p s := rfl

theorem exec_chDisable (p : Port) (s : State) : exec (.chDisable p) s = execChDisable p s := rfl

section
variable {s : State} {p : Port}

theorem State.found_rf {a b : Addr} (h : a ≠ rPM_STATUS) (f : Fld) : (s.found p b).rf a f = s.rf a f :=
  State.rf_congr (s.found_regs p b a (by simpa using h)) f

theorem State.found_dtime {b : Addr} : (s.found p b).dtime = s.dtime := State.dtime_congr ((s.found_parts p b).time rfl)

theorem State.answered_ch (s : State) (p : Port) (x : Answer) : (s.answered p x).ch = s.ch := rfl

/-- Nothing outside the window of the PMC differs once the entry to a power state has been looked at. -/
theorem State.rf_discovered {x : State} {a : Addr} (ha : outsidePm a) (f : Fld) :
    x.discovering.entryCheck.rf a f = ((x.plainWrite rCH_CFG x.enableWord).setChState csDISCOVER).rf a f :=
  ((State.entryCheck_kept _).rf ha f).trans (State.rf_of_regs (State.modCh_regs _ _) a f)

theorem chEnable_off (ok : s.accepts p rCH_CFG) (off : s.chState = csOFF) :
    Runs (.chEnable p) s (fun t =>
      t.did p ∧ t.chState = csDISCOVER ∧ t.flag rCH_CFG fCH_CFG_ENABLE = true ∧ t.ch.learned = s.dtime
      ∧ t.rf rCH_CFG fCH_CFG_DISC_MS = max 1 (s.rf rCH_CFG fCH_CFG_DISC_MS)
      ∧ (s.entering = false → RegsBut s t [rCH_CFG, rCH_STATUS, rPM_STATUS]) ∧ t.mem = s.mem) := by
  refine ⟨((s.found p rCH_CFG).discovering.entryCheck).answered p .done, ?_, State.answered_did _ p, ?_, ?_, ?_, ?_, ?_, ?_⟩
  · rw [exec_chEnable, execChEnable, State.access_ok ok]
    exact congrArg (fun t : State => Host.Outcome.next (t.answered p .done))
      (State.chCfgWrite_enable_off ((State.found_rf (by decide) _).trans off))
  · rw [State.chState, State.rf_answered, State.rf_discovered (by unfold outsidePm; decide), State.setChState,
      State.rf_wf_same (by decide)]
    rfl
  · rw [State.flag, State.rf_answered, State.rf_discovered (by unfold outsidePm; decide), State.setChState,
      State.rf_wf_other (by decide), State.plainWrite_cfg_enable, State.enableWord_enable]
    rfl
  · rw [State.answered_ch, (State.entryCheck_parts _).ch rfl, State.discovering, State.modCh_ch, State.found_dtime]
  · rw [State.rf_answered, State.rf_discovered (by unfold outsidePm; decide), State.setChState,
      State.rf_wf_other (by decide), State.plainWrite_cfg_discMs, State.enableWord_discMs, State.found_rf (by decide)]
  · intro idle
    have still : (s.found p rCH_CFG).discovering.entering = false := by
      rw [State.entering, State.discovering, State.modCh_pw, State.setChState, State.wf, State.setReg_pw,
        (State.plainWrite_parts ..).pw rfl, (s.found_parts p _).pw rfl]
      exact idle
    rw [State.entryCheck_idle still]
    have written := ((s.found_regs p rCH_CFG).mono (m := [rCH_CFG, rCH_STATUS, rPM_STATUS]) (by simp)).trans
      (((s.found p rCH_CFG).plainWrite_regs rCH_CFG (s.found p rCH_CFG).enableWord).mono (by simp))
    exact ((written.wf (by simp)).of_regs (State.modCh_regs _ _)).of_regs (State.answered_regs _ _ _)
  · rw [State.answered_mem, (State.entryCheck_parts _).mem rfl, State.discovering, State.modCh_mem, State.setChState, State.wf,
      State.setReg_mem, (State.plainWrite_parts ..).mem rfl, (s.found_parts p _).mem rfl]

theorem chEnable_on (ok : s.accepts p rCH_CFG) (on : s.chState ≠ csOFF) :
    Runs (.chEnable p) s (fun t =>
      t.did p ∧ t.chState = s.chState ∧ t.flag rCH_STATUS fCH_STATUS_CFG_ERR = true
      ∧ RegsBut s t [rCH_STATUS, rPM_STATUS] ∧ t.ch = s.ch ∧ t.mem = s.mem) := by
  have state : (s.found p rCH_CFG).chState = s.chState := State.found_rf (by decide) _
  refine ⟨((s.found p rCH_CFG).setFlag rCH_STATUS fCH_STATUS_CFG_ERR).answered p .done, ?_, State.answered_did _ p, ?_, ?_, ?_, ?_,
    ?_⟩
  · rw [exec_chEnable, execChEnable, State.access_ok ok]
    exact congrArg (fun t : State => Host.Outcome.next (t.answered p .done)) (State.chCfgWrite_enable_on (state ▸ on))
  · rw [State.chState, State.rf_answered, State.setFlag, State.rf_wf_apart (by decide) (by decide) (by decide)]
    exact state
  · rw [State.flag, State.rf_answered, State.setFlag, State.rf_wf_same (by decide)]
    rfl
  · exact (((s.found_regs p rCH_CFG).mono (by simp)).wf List.mem_cons_self).of_regs (State.answered_regs _ _ _)
  · rw [State.answered_ch, State.setFlag, State.wf, State.setReg_ch, (s.found_parts p _).ch rfl]
  · rw [State.answered_mem, State.setFlag, State.wf, State.setReg_mem, (s.found_parts p _).mem rfl]

/-! ## CH_DISABLE -/

/-- The word of CH_STATUS that stays once Chorus is OFF. -/
abbrev State.offStatus (x : State) : Word :=
  fCH_STATUS_CFG_ERR.set (fCH_STATUS_SELF_ID.set 0 x.selfId) (x.rf rCH_STATUS fCH_STATUS_CFG_ERR)

/-- Chorus is OFF; routes, collectives and requests are still to be looked at. -/
abbrev State.offNow (x : State) : State :=
  ((((x.setReg rCH_STATUS x.offStatus).setReg rCH_VIEW 0).setReg rCH_BAR_STAT 0).clrFlag rCH_CFG fCH_CFG_ENABLE).modCh (fun c =>
    { c with
      parts := [], dup := false, helloAt := none, agree := none, views := [], arrivals := [], mine := [], late := [], hellos := [],
      silent := [] })

theorem State.chOff_kept (x : State) : RegsKept chReg x.offNow x.chOff := RegsKept.reselect (.rerouted (.refl x.offNow))

theorem State.chOff_ch (x : State) : x.chOff.ch = x.offNow.ch :=
  ((x.offNow.rerouted 0).reselect_ch).trans (x.offNow.rerouted_ch 0)

theorem State.offNow_status (x : State) (f : Fld) : x.offNow.rf rCH_STATUS f = f.get x.offStatus := by
  rw [State.offNow, State.rf_of_regs (State.modCh_regs _ _), State.clrFlag, State.rf_wf_other (by decide),
    State.rf_setReg_other (by decide), State.rf_setReg_other (by decide), State.rf, State.reg_setReg_same]

/-- A field of CH_STATUS other than SELF_ID and CFG_ERR. -/
theorem State.chOff_status (x : State) {f : Fld}
    (hf : f.ok = true ∧ fCH_STATUS_SELF_ID.apart f = true ∧ fCH_STATUS_CFG_ERR.apart f = true) : x.chOff.rf rCH_STATUS f = 0 := by
  rw [x.chOff_kept.rf chReg_status, State.offNow_status, Fld.get_set_apart (by decide) hf.1 hf.2.2,
    Fld.get_set_apart (by decide) hf.1 hf.2.1, Fld.get]
  simp

theorem State.chOff_selfId {x : State} (hx : x.selfId < 16) : x.chOff.selfId = x.selfId := by
  rw [State.selfId, x.chOff_kept.rf chReg_status, State.offNow_status, Fld.get_set_apart (by decide) (by decide) (by decide),
    Fld.get_set_same (by decide)]
  exact Nat.mod_eq_of_lt hx

theorem State.chOff_enable (x : State) : x.chOff.flag rCH_CFG fCH_CFG_ENABLE = false := by
  rw [State.flag, x.chOff_kept.rf chReg_cfg, State.offNow, State.rf_of_regs (State.modCh_regs _ _), State.clrFlag,
    State.rf_wf_same (by decide)]
  rfl

theorem State.chOff_view (x : State) : x.chOff.chView = 0 := by
  rw [State.chView, x.chOff_kept.rf chReg_view, State.offNow, State.rf_of_regs (State.modCh_regs _ _), State.clrFlag,
    State.rf_wf_other (by decide), State.rf_setReg_other (by decide), State.rf, State.reg_setReg_same]
  decide

theorem State.chOff_barDone (x : State) : x.chOff.barDone = 0 := by
  rw [State.barDone, x.chOff_kept.rf chReg_barStat, State.offNow, State.rf_of_regs (State.modCh_regs _ _), State.clrFlag,
    State.rf_wf_other (by decide), State.rf, State.reg_setReg_same]
  decide

/-- CFG_ERR records a change of another field that came with the disable. -/
abbrev State.errIf (x : State) (b : Prop) [Decidable b] : State := if b then x else x.setFlag rCH_STATUS fCH_STATUS_CFG_ERR

theorem State.errIf_selfId (x : State) (b : Prop) [Decidable b] : (x.errIf b).selfId = x.selfId := by
  unfold State.errIf
  split
  · rfl
  · exact State.rf_wf_apart (by decide) (by decide) (by decide) _

theorem State.chCfgWrite_disable {x : State} (on : x.chState ≠ csOFF) :
    ∃ y : State, x.chCfgWrite (fCH_CFG_ENABLE.set (x.reg rCH_CFG) 0) = y.chOff ∧ y.selfId = x.selfId := by
  have clear : ¬ (fCH_CFG_ENABLE.get (fCH_CFG_ENABLE.set (x.reg rCH_CFG) 0) == 1) = true := by
    rw [Fld.get_set_same (by decide)]
    decide
  refine ⟨x.errIf (fCH_CFG_ENABLE.set (fCH_CFG_ENABLE.set (x.reg rCH_CFG) 0) 1 = x.reg rCH_CFG), ?_, x.errIf_selfId _⟩
  unfold State.chCfgWrite
  dsimp only
  rw [if_neg on, if_neg clear]

theorem chDisable_on (ok : s.accepts p rCH_CFG) (on : s.chState ≠ csOFF) (self : s.selfId < 16) :
    Runs (.chDisable p) s (fun t =>
      t.did p ∧ t.chState = csOFF ∧ t.flag rCH_CFG fCH_CFG_ENABLE = false ∧ t.chView = 0 ∧ t.barDone = 0
      ∧ t.rf rCH_STATUS fCH_STATUS_MEMBERS = 0 ∧ t.ch.agree = none ∧ t.ch.parts = [] ∧ t.selfId = s.selfId) := by
  have state : (s.found p rCH_CFG).chState = s.chState := State.found_rf (by decide) _
  have id : (s.found p rCH_CFG).selfId = s.selfId := State.found_rf (by decide) _
  obtain ⟨y, off, same⟩ := State.chCfgWrite_disable (state ▸ on)
  have ch : (y.chOff.answered p .done).ch = y.offNow.ch := (State.answered_ch _ _ _).trans y.chOff_ch
  refine ⟨y.chOff.answered p .done, ?_, State.answered_did _ p, ?_, ?_, ?_, ?_, ?_, ?_, ?_, ?_⟩
  · rw [exec_chDisable, execChDisable, State.access_ok ok]
    exact congrArg (fun t : State => Host.Outcome.next (t.answered p .done)) off
  · exact (State.rf_answered ..).trans (y.chOff_status (by decide))
  · rw [State.flag, State.rf_answered]
    exact y.chOff_enable
  · exact (State.rf_answered ..).trans y.chOff_view
  · exact (State.rf_answered ..).trans y.chOff_barDone
  · exact (State.rf_answered ..).trans (y.chOff_status (by decide))
  · rw [ch, State.offNow, State.modCh_ch]
  · rw [ch, State.offNow, State.modCh_ch]
  · exact (State.rf_answered ..).trans ((State.chOff_selfId (by rw [same, id]; exact self)).trans (same.trans id))

end

end Sys2Proof.Machine
end

/-!
Proofs for Chorus, part 4: HELLOs go out and come in, and discovery ends (R309, R312, R320).
-/
section
namespace Sys2Proof.Machine

/-! ## HELLO_SEND -/

theorem exec_helloSend (s : State) : exec .helloSend s = execHelloSend s := rfl

section
variable {s : State} {k : Nat}

/-- The HELLO that is due. -/
abbrev State.ownHello (s : State) : ChFrame := { origin := s.selfId, seq := s.ch.seq, body := .hello s.ownCfg s.ownAdj }

/-- The part notes its HELLO and when it went. -/
abbrev State.helloNoted (s : State) : State := s.modCh (fun c => { c with helloAt := some s.dtime, hellos := s.ownHello :: c.hellos })

theorem State.linkUp_modCh (s : State) (f : Chorus → Chorus) : (s.modCh f).linkUp = s.linkUp :=
  funext (State.linkUp_of_regs (State.modCh_regs s f))

theorem exec_helloSend_due (st : s.chState = csDISCOVER) (due : ∀ a, s.ch.helloAt = some a → a + 100000 ≤ s.dtime) :
    exec .helloSend s = .next (s.helloNoted.flood s.ownHello.body) := by
  rw [exec_helloSend, execHelloSend]
  cases sent : s.ch.helloAt with
  | none => exact congrArg Host.Outcome.next (if_pos ⟨st, rfl⟩)
  | some a => exact congrArg Host.Outcome.next (if_pos ⟨st, decide_eq_true (due a sent)⟩)

theorem helloSend_due (st : s.chState = csDISCOVER) (due : ∀ a, s.ch.helloAt = some a → a + 100000 ≤ s.dtime) :
    Runs .helloSend s (fun t =>
      t.ch.helloAt = some s.dtime ∧ t.sent.length = s.sent.length + ((List.range 4).filter s.linkUp).length
      ∧ t.regs = s.regs ∧ t.mem = s.mem) := by
  refine ⟨s.helloNoted.flood s.ownHello.body, exec_helloSend_due st due, ?_, ?_, ?_, ?_⟩
  · rw [State.flood_ch, State.helloNoted, State.modCh_ch]
  · rw [State.flood_sent, State.helloNoted, State.linkUp_modCh, State.modCh_sent]
  · rw [State.flood_regs, State.helloNoted, State.modCh_regs]
  · rw [State.flood_mem, State.helloNoted, State.modCh_mem]

/-! ## HELLO -/

theorem exec_hello (k o q : Nat) (ok : Bool) (cfg : ChCfg) (adj : List ChAdj) (s : State) :
    exec (.hello k o q ok cfg adj) s = execHello k o q ok cfg adj s := rfl

/-- What a HELLO that is taken does to what is known of the other parts. -/
abbrev State.heard (s : State) (o : Nat) (cfg : ChCfg) (adj : List ChAdj) : State :=
  if s.chState = csDISCOVER ∧ o ≠ s.selfId then s.hear { id := o, cfg := cfg, adj := adj } else s

theorem execHello_eq (k o q : Nat) (ok : Bool) (cfg : ChCfg) (adj : List ChAdj) (s : State) :
    execHello k o q ok cfg adj s = .next ((s.twinHello k ok { origin := o, seq := q, body := .hello cfg adj }).floodedIn k ok
      { origin := o, seq := q, body := .hello cfg adj } (fun t => t.heard o cfg adj)) := rfl

/-- A HELLO of another part of this ID leaves a mark, and nothing else changes before the frame is judged. -/
theorem State.twinHello_cases (s : State) (k : Nat) (ok : Bool) (f : ChFrame) :
    s.twinHello k ok f = s ∨ s.twinHello k ok f = s.modCh (fun c => { c with dup := true }) := by
  unfold State.twinHello
  split
  · exact .inr rfl
  · exact .inl rfl

theorem State.twinHello_parts (s : State) (k : Nat) (ok : Bool) (f : ChFrame) : Within 262144 s (s.twinHello k ok f) :=
  .ite (State.modCh_frame rfl (.refl _ s)) (.refl _ s)

theorem State.twinHello_seen (s : State) (k : Nat) (ok : Bool) (f : ChFrame) :
    (s.twinHello k ok f).ch.seen = s.ch.seen := by
  rcases s.twinHello_cases k ok f with h | h
  · rw [h]
  · rw [h, State.modCh_ch]

theorem State.twinHello_badCrc (s : State) (k : Nat) (f : ChFrame) : s.twinHello k false f = s := by simp [State.twinHello]

theorem State.twinHello_twin {f : ChFrame} (up : s.linkUp k = true) (st : s.chState = csDISCOVER) (own : f.origin = s.selfId)
    (foreign : s.ch.hellos.contains f = false) : s.twinHello k true f = s.modCh (fun c => { c with dup := true }) := by
  unfold State.twinHello
  rw [up, st, own, foreign]
  exact if_pos (by simp)

theorem State.hear_parts (s : State) (p : ChPart) : Within 262144 s (s.hear p) := State.hear_frame rfl (.refl _ s)

theorem State.heard_parts (s : State) (o : Nat) (cfg : ChCfg) (adj : List ChAdj) : Within 262144 s (s.heard o cfg adj) :=
  .ite (s.hear_parts _) (.refl _ s)

/-- What was heard last of a part is what is known of it. -/
theorem State.chPart_hear (s : State) (p : ChPart) : (s.hear p).chPart p.id = some p := by
  unfold State.hear
  split
  · rw [State.chPart, State.modCh_ch, List.find?_cons_of_pos (by simp)]
  · next q known =>
    rw [State.chPart, State.modCh_ch]
    dsimp only
    rw [State.chPart] at known
    revert known
    induction s.ch.parts with
    | nil => exact fun known => by cases known
    | cons r l ih =>
      intro known
      by_cases here : r.id = p.id
      · rw [List.map_cons, if_pos here, List.find?_cons_of_pos (by simp)]
      · rw [List.map_cons, if_neg here, List.find?_cons_of_neg (by simpa using here)]
        exact ih (by rwa [List.find?_cons_of_neg (by simpa using here)] at known)

theorem hello_badCrc (up : s.linkUp k = true) (o q : Nat) (cfg : ChCfg) (adj : List ChAdj) :
    Runs (.hello k o q false cfg adj) s (fun t =>
      Counted s t (rDL_LINK_CNT k) fDL_LINK_CNT_FRAME_ERR_CNT 1 ∧ RegsBut s t [rDL_LINK_CNT k] ∧ t = { s with regs := t.regs }) := by
  refine ⟨s.bump (rDL_LINK_CNT k) fDL_LINK_CNT_FRAME_ERR_CNT 1, ?_, State.rf_bump (by decide) 1,
    RegsBut.bump (.refl s _) List.mem_cons_self, rfl⟩
  rw [exec_hello, execHello_eq, State.twinHello_badCrc, State.floodedIn_badCrc up]

theorem hello_new (up : s.linkUp k = true) (st : s.chState = csDISCOVER) {o q : Nat} (new : s.ch.seen.contains (o, q) = false)
    (cfg : ChCfg) (adj : List ChAdj) :
    Runs (.hello k o q true cfg adj) s (fun t =>
      (o ≠ s.selfId → t.chPart o = some { id := o, cfg := cfg, adj := adj })
      ∧ t.sent.length = s.sent.length + ((List.range 4).filter (fun j => j != k && s.linkUp j)).length
      ∧ t.regs = s.regs ∧ t.mem = s.mem) := by
  have parts := s.twinHello_parts k true { origin := o, seq := q, body := .hello cfg adj }
  have seen := s.twinHello_seen k true { origin := o, seq := q, body := .hello cfg adj }
  rw [Runs, exec_hello, execHello_eq]
  generalize s.twinHello k true { origin := o, seq := q, body := .hello cfg adj } = u at parts seen ⊢
  have regs := parts.regs rfl
  have links : u.linkUp = s.linkUp := funext (State.linkUp_of_regs regs)
  rw [State.floodedIn_new (by rwa [links]) (by rwa [seen]) (.inl ((State.rf_of_regs regs _ _).trans st))]
  generalize ({ origin := o, seq := q, body := .hello cfg adj } : ChFrame) = f
  have toldRegs : (u.forward k f).regs = s.regs := (u.forward_regs k f).trans regs
  have heard := (u.forward k f).heard_parts o cfg adj
  refine ⟨_, rfl, fun other => ?_, ?_, (heard.regs rfl).trans toldRegs, ?_⟩
  · have here : (u.forward k f).chState = csDISCOVER ∧ o ≠ (u.forward k f).selfId :=
      ⟨(State.rf_of_regs toldRegs _ _).trans st, by rwa [State.selfId, State.rf_of_regs toldRegs]⟩
    rw [State.heard, if_pos here]
    exact State.chPart_hear _ { id := o, cfg := cfg, adj := adj }
  · rw [heard.sent rfl, State.forward_sent, parts.sent rfl, links]
  · rw [heard.mem rfl, State.forward_mem, parts.mem rfl]

/-- The mark of a second part with this ID stays, whether the frame is new or not. -/
theorem hello_twin (up : s.linkUp k = true) (st : s.chState = csDISCOVER) {q : Nat} {cfg : ChCfg} {adj : List ChAdj}
    (foreign : s.ch.hellos.contains { origin := s.selfId, seq := q, body := .hello cfg adj } = false) :
    Runs (.hello k s.selfId q true cfg adj) s (fun t => t.ch.dup = true ∧ t.regs = s.regs ∧ t.mem = s.mem) := by
  rw [Runs, exec_hello, execHello_eq, State.twinHello_twin up st rfl foreign]
  generalize hu : s.modCh (fun c => { c with dup := true }) = u
  generalize ({ origin := s.selfId, seq := q, body := .hello cfg adj } : ChFrame) = f
  have regs : u.regs = s.regs := by rw [← hu, State.modCh_regs]
  have mem : u.mem = s.mem := by rw [← hu, State.modCh_mem]
  have dup : u.ch.dup = true := by rw [← hu, State.modCh_ch]
  have upU : u.linkUp k = true := (State.linkUp_of_regs regs k).trans up
  have stU : u.chState = csDISCOVER := (State.rf_of_regs regs _ _).trans st
  refine ⟨_, rfl, ?_⟩
  cases new : u.ch.seen.contains (f.origin, f.seq) with
  | true =>
    have stops : u.floodedIn k true f (fun t => t.heard s.selfId cfg adj) = u := by
      simp only [State.floodedIn, upU, stU, new]; rfl
    rw [stops]
    exact ⟨dup, regs, mem⟩
  | false =>
    have self : (u.forward k f).selfId = s.selfId := State.rf_of_regs ((u.forward_regs k f).trans regs) _ _
    rw [State.floodedIn_new upU new (.inl stU), State.heard, if_neg (fun h => h.2 self.symm)]
    exact ⟨by rw [State.forward_ch]; exact dup, (u.forward_regs k f).trans regs, (u.forward_mem k f).trans mem⟩

end

/-! ## The parts discovered -/

theorem testBit_foldl_lor (l : List Nat) (i : Nat) : ∀ x : Nat,
    (l.foldl (fun m d => Nat.lor m (2 ^ (d % 16))) x).testBit i = (x.testBit i || l.any (fun d => d % 16 == i)) := by
  induction l with
  | nil => simp
  | cons d l ih =>
    intro x
    have bit : (Nat.lor x (2 ^ (d % 16))).testBit i = (x.testBit i || (d % 16 == i)) :=
      (Nat.testBit_or x (2 ^ (d % 16)) i).trans (by rw [Nat.testBit_two_pow]; rfl)
    rw [List.foldl_cons, ih, bit, List.any_cons, Bool.or_assoc]

theorem State.testBit_discovered_self {s : State} (hs : s.selfId < 16) : s.discovered.testBit s.selfId = true := by
  rw [State.discovered, testBit_foldl_lor, List.any_cons, Nat.mod_eq_of_lt hs]
  simp

theorem State.discovered_lt (s : State) : s.discovered < 2 ^ 16 := by
  refine Nat.lt_pow_two_of_testBit _ (fun i hi => ?_)
  have other : ∀ d : Nat, (d % 16 == i) = false := fun d => by simp; omega
  rw [State.discovered, testBit_foldl_lor, Nat.zero_testBit, Bool.false_or, List.any_eq_false]
  exact fun d _ => by simp [other]

/-- Where more than the part itself is discovered, another part is. -/
theorem State.exists_other_discovered {s : State} (hs : s.selfId < 16) (more : s.discovered ≠ 2 ^ s.selfId) :
    ∃ d ∈ membersOf s.discovered, d ≠ s.selfId := by
  by_contra none
  refine more (Nat.eq_of_testBit_eq (fun i => ?_))
  rw [Nat.testBit_two_pow]
  by_cases here : s.selfId = i
  · subst here
    simp [State.testBit_discovered_self hs]
  · rw [decide_eq_false here]
    by_contra there
    have bit : s.discovered.testBit i = true := by simpa using there
    have range : i < 16 := by
      by_contra far
      have low := Nat.testBit_lt_two_pow (s.discovered_lt.trans_le (Nat.pow_le_pow_right (by decide) (Nat.le_of_not_lt far)))
      rw [low] at bit
      cases bit
    exact none ⟨i, mem_membersOf.2 ⟨range, bit⟩, fun e => here e.symm⟩

theorem mem_membersOf_two_pow {d n : Nat} (h : d ∈ membersOf (2 ^ n)) : d = n := by
  obtain ⟨-, bit⟩ := mem_membersOf.1 h
  rw [Nat.testBit_two_pow] at bit
  exact (of_decide_eq_true bit).symm

/-! ## DISCOVERY_END -/

/-- A field's write after writes of registers alone. -/
theorem State.wf_regs_only {s u : State} {a : Addr} {f : Fld} {v : Nat} (h : u = { s with regs := u.regs }) :
    u.wf a f v = { s with regs := (u.wf a f v).regs } := by
  have same : ∀ r, { u with regs := r } = { s with regs := r } := fun r => by rw [h]
  exact same _

theorem exec_discoveryEnd (s : State) : exec .discoveryEnd s = execDiscoveryEnd s := rfl

/-- The FAULT codes fit their field. -/
theorem State.discoveryFault_lt (s : State) : s.discoveryFault < 2 ^ fCH_STATUS_FAULT.width := by
  unfold State.discoveryFault
  dsimp only
  split_ifs <;> decide

section
variable {s : State} (st : s.chState = csDISCOVER) (closed : s.ch.agree = none)
  (due : s.ch.learned + s.rf rCH_CFG fCH_CFG_DISC_MS * 1000000 ≤ s.dtime)
include st closed due

theorem exec_discoveryEnd_due : exec .discoveryEnd s = .next (
    if s.discoveryFault = cfNONE then s.propose 1 s.discovered s.dtime
    else (s.wf rCH_STATUS fCH_STATUS_FAULT s.discoveryFault).setChState csFAULT) := by
  rw [exec_discoveryEnd, execDiscoveryEnd]
  exact congrArg Host.Outcome.next (if_pos ⟨st, closed, due⟩)

theorem discoveryEnd_fault (fault : s.discoveryFault ≠ cfNONE) :
    Runs .discoveryEnd s (fun t =>
      t.chState = csFAULT ∧ t.rf rCH_STATUS fCH_STATUS_FAULT = s.discoveryFault ∧ RegsBut s t [rCH_STATUS]
      ∧ t = { s with regs := t.regs }) := by
  have noted : s.wf rCH_STATUS fCH_STATUS_FAULT s.discoveryFault
      = { s with regs := (s.wf rCH_STATUS fCH_STATUS_FAULT s.discoveryFault).regs } := rfl
  refine ⟨(s.wf rCH_STATUS fCH_STATUS_FAULT s.discoveryFault).setChState csFAULT,
    (exec_discoveryEnd_due st closed due).trans (by rw [if_neg fault]), ?_, ?_, ?_, State.wf_regs_only noted⟩
  · rw [State.chState, State.setChState, State.rf_wf_same (by decide)]
    rfl
  · rw [State.setChState, State.rf_wf_apart (by decide) (by decide) (by decide), State.rf_wf_same (by decide)]
    exact Nat.mod_eq_of_lt s.discoveryFault_lt
  · exact RegsBut.wf (.wf (.refl s _) List.mem_cons_self) List.mem_cons_self

/-- No part has agreed yet, so the agreement with another part stays open. -/
theorem discoveryEnd_agreement (hs : s.selfId < 16) (clean : s.discoveryFault = cfNONE) (views : s.ch.views = [])
    (more : s.discovered ≠ 2 ^ s.selfId) :
    Runs .discoveryEnd s (fun t =>
      t.ch.agree = some { num := 1, set := s.discovered, since := s.dtime, flooded := s.dtime }
      ∧ t.flag rCH_STATUS fCH_STATUS_AGREE_OPEN = true ∧ t.chState = csDISCOVER ∧ RegsBut s t [rCH_STATUS] ∧ t.mem = s.mem) := by
  obtain ⟨d, member, other⟩ := State.exists_other_discovered hs more
  have waits := State.propose_waits (s := s) (num := 1) (since := s.dtime) (State.testBit_discovered_self hs)
    ⟨d, member, other, by rw [views]; simp [mapGet]⟩
  refine ⟨s.proposed 1 s.discovered s.dtime, (exec_discoveryEnd_due st closed due).trans (by rw [if_pos clean, waits]),
    s.proposed_agree .., s.proposed_open .., ?_, s.proposed_regs _ _ _, s.proposed_mem ..⟩
  exact (s.proposed_status 1 s.discovered s.dtime (f := fCH_STATUS_STATE) (by decide)).trans st

/-- A part alone commits its view at once. -/
theorem discoveryEnd_alone (hs : s.selfId < 16) (clean : s.discoveryFault = cfNONE) (alone : s.discovered = 2 ^ s.selfId) :
    Runs .discoveryEnd s (fun t =>
      t.chState = csRUN ∧ t.chView = 1 ∧ t.rf rCH_STATUS fCH_STATUS_MEMBERS = 2 ^ s.selfId ∧ t.ch.agree = none) := by
  have commits := State.propose_commit (s := s) (num := 1) (since := s.dtime) (State.testBit_discovered_self hs)
    (fun d member other => absurd (mem_membersOf_two_pow (by rwa [← alone])) other)
  have stands := (s.proposed 1 s.discovered s.dtime).viewCommit_stands (num := 1) (by decide) s.discovered_lt
  refine ⟨_, (exec_discoveryEnd_due st closed due).trans (by rw [if_pos clean, commits]), stands.state, stands.view,
    stands.members.trans alone, stands.closed⟩

end

end Sys2Proof.Machine
end

/-!
Proofs for Chorus, part 5: VIEWs come in, and an open agreement floods again and is reopened (R317 to R320).
-/
section
namespace Sys2Proof.Machine

/-! ## A VIEW is judged -/

/-- The VIEW of a part is noted. -/
abbrev State.viewNoted (s : State) (o num set : Nat) : State := s.modCh (fun c => { c with views := mapPut c.views o (num, set) })

section
variable {s : State} {o num set : Nat}

theorem State.viewNoted_rf (a : Addr) (f : Fld) : (s.viewNoted o num set).rf a f = s.rf a f :=
  State.rf_of_regs (State.modCh_regs _ _) a f

theorem State.viewNoted_agree : (s.viewNoted o num set).ch.agree = s.ch.agree := by rw [State.viewNoted, State.modCh_ch]

/-- A part in RUN does not judge a VIEW as a part in DISCOVER does. -/
theorem State.viewNoted_run (run : s.chState = csRUN) :
    ¬ ((s.viewNoted o num set).chState = csDISCOVER ∧ (s.viewNoted o num set).ch.agree = none) := by
  rw [State.chState, State.viewNoted_rf, ← State.chState, run]
  exact fun h => absurd h.1 (by decide)

/-- With no agreement open, a VIEW newer than the committed view opens one, on what of its set this part can reach. -/
theorem State.viewIn_closed (run : s.chState = csRUN) (closed : s.ch.agree = none) : s.viewIn o num set =
    if s.chView < num then (s.viewNoted o num set).propose num
      (Nat.land ((s.viewNoted o num set).reachMask (s.viewNoted o num set).chMembers) set) (s.viewNoted o num set).dtime
    else s.viewNoted o num set := by
  have view : (s.viewNoted o num set).chView = s.chView := State.viewNoted_rf _ _
  unfold State.viewIn
  dsimp only
  rw [if_neg (State.viewNoted_run run), State.viewNoted_agree, closed, ← view]

theorem State.viewIn_old (run : s.chState = csRUN) (closed : s.ch.agree = none) (old : num ≤ s.chView) :
    s.viewIn o num set = s.viewNoted o num set := by
  rw [State.viewIn_closed run closed, if_neg (Nat.not_lt_of_le old)]

theorem State.viewIn_newer (run : s.chState = csRUN) (closed : s.ch.agree = none) (new : s.chView < num) :
    ∃ m since, s.viewIn o num set = (s.viewNoted o num set).propose num (Nat.land m set) since :=
  ⟨_, _, by rw [State.viewIn_closed run closed, if_pos new]⟩

/-- A VIEW with the number and the set of the open agreement: the agreement is looked at. -/
theorem State.viewIn_agreed {a : ChAgree} (run : s.chState = csRUN) (opened : s.ch.agree = some a) (number : a.num = num)
    (same : a.set = set) : s.viewIn o num set = (s.viewNoted o num set).agreeCheck := by
  have narrowed : Nat.land a.set set = a.set := by
    rw [same]
    exact Nat.and_self set
  unfold State.viewIn
  dsimp only
  rw [if_neg (State.viewNoted_run run), State.viewNoted_agree, opened]
  dsimp only
  rw [if_neg (by omega), if_pos number, State.narrow]
  exact if_pos narrowed

end

/-! ## VIEW -/

theorem exec_view (k o q : Nat) (ok : Bool) (num set : Nat) (s : State) :
    exec (.view k o q ok num set) s = execView k o q ok num set s := rfl

section
variable {s : State} {k o q : Nat} (up : s.linkUp k = true) (run : s.chState = csRUN) (member : s.listens o = true)
  (new : s.ch.seen.contains (o, q) = false)
include up run member new

/-- A new VIEW of a member is forwarded and judged. -/
theorem exec_view_new (num set : Nat) : exec (.view k o q true num set) s
    = .next ((s.forward k { origin := o, seq := q, body := .view num set }).viewIn o num set) := by
  rw [exec_view, execView, State.floodedIn_new up new (.inr ⟨run, member⟩)]

theorem view_old {num : Nat} (set : Nat) (closed : s.ch.agree = none) (old : num ≤ s.chView) :
    Runs (.view k o q true num set) s (fun t =>
      mapGet t.ch.views o = some (num, set) ∧ t.ch.agree = none ∧ t.regs = s.regs ∧ t.mem = s.mem) := by
  rw [Runs, exec_view_new up run member new]
  generalize ({ origin := o, seq := q, body := .view num set } : ChFrame) = f
  have rf := State.rf_of_regs (s.forward_regs k f)
  have judged := State.viewIn_old (s := s.forward k f) (o := o) (num := num) (set := set) ((rf ..).trans run)
    (by rw [State.forward_ch]; exact closed) (by rw [State.chView, rf]; exact old)
  refine ⟨(s.forward k f).viewNoted o num set, by rw [judged], ?_, ?_, ?_, ?_⟩
  · rw [State.viewNoted, State.modCh_ch]
    exact (mapGet_mapPut _ _ _ _).trans (if_pos rfl)
  · rw [State.viewNoted_agree, State.forward_ch]
    exact closed
  · rw [State.viewNoted, State.modCh_regs, State.forward_regs]
  · rw [State.viewNoted, State.modCh_mem, State.forward_mem]

/-- The set of a newer view is without this part. -/
theorem view_exile {num set : Nat} (hs : s.selfId < 16) (closed : s.ch.agree = none) (newer : s.chView < num)
    (out : set.testBit s.selfId = false) :
    Runs (.view k o q true num set) s (fun t =>
      t.chState = csEXILED ∧ t.rf rCH_STATUS fCH_STATUS_MEMBERS = 2 ^ s.selfId ∧ t.ch.agree = none) := by
  rw [Runs, exec_view_new up run member new]
  generalize ({ origin := o, seq := q, body := .view num set } : ChFrame) = f
  have rf := State.rf_of_regs (s.forward_regs k f)
  have self : ((s.forward k f).viewNoted o num set).selfId = s.selfId :=
    (State.viewNoted_rf ..).trans (rf ..)
  obtain ⟨m, since, judged⟩ := State.viewIn_newer (s := s.forward k f) (o := o) (num := num) (set := set) ((rf ..).trans run)
    (by rw [State.forward_ch]; exact closed) (by rw [State.chView, rf]; exact newer)
  have without : (Nat.land m set).testBit s.selfId = false := (Nat.testBit_and m set _).trans (by rw [out, Bool.and_false])
  obtain ⟨v, stands⟩ := State.propose_exile (s := (s.forward k f).viewNoted o num set) (num := num) (set := Nat.land m set)
    (since := since) (by rwa [self]) (by rwa [self])
  rw [self] at stands
  exact ⟨_, by rw [judged], stands.state, stands.members, stands.closed⟩

/-- The VIEW that was missing: all agree, and the view is committed. -/
theorem view_commit {num set : Nat} {a : ChAgree} (opened : s.ch.agree = some a) (number : a.num = num) (same : a.set = set)
    (hset : set < 2 ^ 16) (hnum : num < 2 ^ 64) (self : set.testBit s.selfId = true)
    (others : ∀ d ∈ membersOf set, d ≠ s.selfId → d ≠ o → mapGet s.ch.views d = some (num, set)) :
    Runs (.view k o q true num set) s (fun t =>
      t.chState = csRUN ∧ t.chView = num ∧ t.rf rCH_STATUS fCH_STATUS_MEMBERS = set ∧ t.ch.agree = none) := by
  rw [Runs, exec_view_new up run member new]
  generalize ({ origin := o, seq := q, body := .view num set } : ChFrame) = f
  have rf := State.rf_of_regs (s.forward_regs k f)
  have id : ((s.forward k f).viewNoted o num set).selfId = s.selfId :=
    (State.viewNoted_rf ..).trans (rf ..)
  have agree : (s.forward k f).ch.agree = some a := by rw [State.forward_ch]; exact opened
  have judged := State.viewIn_agreed (s := s.forward k f) (o := o) ((rf ..).trans run) agree number same
  have all : ((s.forward k f).viewNoted o num set).allAgree a = true := by
    rw [State.allAgree_iff, id, number, same, State.viewNoted, State.modCh_ch, State.forward_ch]
    intro d mem notSelf
    rw [mapGet_mapPut]
    split
    · rfl
    · next other => exact others d mem notSelf other
  have commits := State.agreeCheck_commit (State.viewNoted_agree.trans agree) (by rwa [same, id]) all
  rw [number, same] at commits
  have stands := ((s.forward k f).viewNoted o num set).viewCommit_stands hnum hset
  exact ⟨_, by rw [judged, commits], stands.state, stands.view, stands.members, stands.closed⟩

end

/-! ## VIEW_REFLOOD and AGREEMENT_RESTART -/

theorem exec_viewReflood (s : State) : exec .viewReflood s = execViewReflood s := rfl

theorem exec_agreementRestart (s : State) : exec .agreementRestart s = execAgreementRestart s := rfl

section
variable {s : State} {a : ChAgree} (opened : s.ch.agree = some a)
include opened

theorem viewReflood_due (due : a.flooded + 10000 ≤ s.dtime) :
    Runs .viewReflood s (fun t =>
      t.ch.agree = some { a with flooded := s.dtime }
      ∧ t.sent.length = s.sent.length + ((List.range 4).filter s.linkUp).length ∧ t.regs = s.regs ∧ t.mem = s.mem) := by
  refine ⟨(s.modCh (fun c => { c with agree := some { a with flooded := s.dtime } })).flood (.view a.num a.set), ?_, ?_, ?_, ?_, ?_⟩
  · rw [exec_viewReflood, execViewReflood, opened]
    exact congrArg Host.Outcome.next (if_pos due)
  · rw [State.flood_ch, State.modCh_ch]
  · rw [State.flood_sent, State.linkUp_modCh, State.modCh_sent]
  · rw [State.flood_regs, State.modCh_regs]
  · rw [State.flood_mem, State.modCh_mem]

theorem agreementRestart_early (early : s.dtime < a.since + 800000) : exec .agreementRestart s = .next s := by
  rw [exec_agreementRestart, execAgreementRestart, opened]
  exact congrArg Host.Outcome.next (if_neg (by omega))

/-- Some member has not yet agreed on the next number and the parts in reach. -/
theorem agreementRestart_due (due : a.since + 800000 ≤ s.dtime) (self : (s.reachMask s.chMembers).testBit s.selfId = true)
    (other : ∃ d ∈ membersOf (s.reachMask s.chMembers), d ≠ s.selfId
      ∧ mapGet s.ch.views d ≠ some (a.num + 1, s.reachMask s.chMembers)) :
    Runs .agreementRestart s (fun t =>
      t.ch.agree = some { num := a.num + 1, set := s.reachMask s.chMembers, since := s.dtime, flooded := s.dtime }
      ∧ Counted s t rCH_ERR_CNT fCH_ERR_CNT_AGREE_RESTART 1 ∧ RegsBut s t [rCH_ERR_CNT, rCH_STATUS] ∧ t.mem = s.mem) := by
  have regs : RegsBut s (s.bump rCH_ERR_CNT fCH_ERR_CNT_AGREE_RESTART 1) [rCH_ERR_CNT] := RegsBut.bump (.refl s _) List.mem_cons_self
  have count : (s.bump rCH_ERR_CNT fCH_ERR_CNT_AGREE_RESTART 1).rf rCH_ERR_CNT fCH_ERR_CNT_AGREE_RESTART
      = min (2 ^ fCH_ERR_CNT_AGREE_RESTART.width - 1) (s.rf rCH_ERR_CNT fCH_ERR_CNT_AGREE_RESTART + 1) := State.rf_bump (by decide) 1
  have ch : (s.bump rCH_ERR_CNT fCH_ERR_CNT_AGREE_RESTART 1).ch = s.ch := State.setReg_ch _ _ _
  have mem : (s.bump rCH_ERR_CNT fCH_ERR_CNT_AGREE_RESTART 1).mem = s.mem := State.setReg_mem _ _ _
  have now : (s.bump rCH_ERR_CNT fCH_ERR_CNT_AGREE_RESTART 1).dtime = s.dtime := State.dtime_congr (State.setReg_time _ _ _)
  have exec : exec .agreementRestart s = .next ((s.bump rCH_ERR_CNT fCH_ERR_CNT_AGREE_RESTART 1).propose (a.num + 1)
      (s.reachMask s.chMembers) s.dtime) := by
    rw [exec_agreementRestart, execAgreementRestart, opened]
    exact congrArg Host.Outcome.next (if_pos due)
  rw [Runs, exec]
  generalize s.bump rCH_ERR_CNT fCH_ERR_CNT_AGREE_RESTART 1 = u at regs count ch mem now ⊢
  have id : u.selfId = s.selfId := State.rf_congr (regs _ (by decide)) _
  have waits := State.propose_waits (s := u) (num := a.num + 1) (since := s.dtime) (by rwa [id]) (by rwa [id, ch])
  refine ⟨u.proposed (a.num + 1) (s.reachMask s.chMembers) s.dtime, by rw [waits], ?_, ?_, ?_, ?_⟩
  · rw [State.proposed_agree, now]
  · rw [Counted, ← count]
    exact State.rf_congr (u.proposed_regs _ _ _ _ (by decide)) _
  · exact (regs.mono (by simp)).trans ((u.proposed_regs _ _ _).mono (by simp))
  · rw [State.proposed_mem, mem]

end

end Sys2Proof.Machine
end

/-!
Proofs for Chorus, part 6: barriers are arrived at, complete, and count as late (R322, R323), and the statement.
-/
section
namespace Sys2Proof.Machine

/-! ## The word that is released -/

theorem leNat_leBytes (n : Nat) : ∀ v, leNat (leBytes n v) = v % 256 ^ n := by
  induction n with
  | zero => intro v; rw [leBytes, leNat, Nat.pow_zero, Nat.mod_one]
  | succ n ih =>
    intro v
    have split : v % 256 ^ (n + 1) = v % 256 + 256 * (v / 256 % 256 ^ n) := by rw [Nat.pow_succ', Nat.mod_mul]
    rw [leBytes, leNat, ih, BitVec.toNat_ofNat, split]

theorem leNat_lt (bs : List Byte) : leNat bs < 256 ^ bs.length := by
  induction bs with
  | nil => decide
  | cons b bs ih =>
    have byte := b.isLt
    rw [leNat, List.length_cons, Nat.pow_succ']
    omega

theorem State.memNat_lt (s : State) (a n : Nat) : s.memNat a n < 256 ^ n := by
  have bound := leNat_lt (s.mem.read a n)
  rwa [Mem.read, List.length_map, List.length_range] at bound

/-- A number whose bytes stand in memory reads back. -/
theorem Stored.memNat {s t : State} {a n v : Nat} (h : Stored s t a (leBytes n v)) (hv : v < 256 ^ n) : t.memNat a n = v := by
  have bytes := h.1
  rw [length_leBytes] at bytes
  rw [State.memNat, bytes, leNat_leBytes, Nat.mod_eq_of_lt hv]

theorem State.mcDead_congr {s t : State} {c : Nat} (h : t.reg (rMC_STATUS c) = s.reg (rMC_STATUS c)) : t.mcDead c = s.mcDead c := by
  simp only [State.mcDead, State.mcState, State.rf_congr h]

theorem rMC_STATUS_ne_rCH_BAR_STAT (c : Nat) : rMC_STATUS c ≠ rCH_BAR_STAT := by
  show (0x1400c00000 + c * 0x10000 : Nat) ≠ 0x1401340038
  omega

/-- The release word is the number of the barrier, where its place takes it. -/
theorem State.barrierDone_release {s : State} {n : Nat} (hn : n < 2 ^ 64) (en : s.flag rCH_RELEASE_ADDR fCH_RELEASE_ADDR_EN = true)
    (alive : s.alive (s.rf rCH_RELEASE_ADDR fCH_RELEASE_ADDR_ADDR * 8) 8) :
    (s.barrierDone n).memNat (s.rf rCH_RELEASE_ADDR fCH_RELEASE_ADDR_ADDR * 8) 8 = n := by
  generalize place : s.rf rCH_RELEASE_ADDR fCH_RELEASE_ADDR_ADDR * 8 = a at alive ⊢
  have lands : (s.wf rCH_BAR_STAT fCH_BAR_STAT_COMPLETED n).alive a (leBytes 8 n).length := by
    rw [length_leBytes]
    exact fun l hl => (State.mcDead_congr (State.reg_setReg_other _ _ (rMC_STATUS_ne_rCH_BAR_STAT _))).trans (alive l hl)
  obtain ⟨m, written, holds⟩ := State.memWrite_alive lands
  refine Stored.memNat (s := s.wf rCH_BAR_STAT fCH_BAR_STAT_COMPLETED n) (.of_holds ?_) hn
  rwa [State.barrierDone, State.releaseWritten, if_pos en, place, State.modCh_mem, written, State.modMem_mem]

/-! ## BARRIER_ARRIVAL -/

theorem exec_barrierArrival (s : State) : exec .barrierArrival s = execBarrierArrival s := rfl

theorem Chorus.arrived_put {c e : Chorus} {o n : Nat} (h : e.arrivals = mapPut c.arrivals o n) (d : Nat) :
    e.arrived d = if d = o then n else c.arrived d := by
  rw [Chorus.arrived, h, mapGet_mapPut]
  split <;> rfl

theorem Chorus.arrived_congr {c e : Chorus} (h : e.arrivals = c.arrivals) : e.arrived = c.arrived := by
  funext d
  rw [Chorus.arrived, Chorus.arrived, h]

/-- The part has arrived at barrier `n` and says so. -/
abbrev State.arrivalSent (s : State) (n : Nat) : State :=
  (s.modCh (fun c => { c with arrivals := mapPut c.arrivals s.selfId n, mine := (n, s.dtime) :: c.mine })).flood (.arrive n)

section
variable {s : State} {n : Nat}

theorem State.arrivalSent_regs : (s.arrivalSent n).regs = s.regs := (State.flood_regs _ _).trans (State.modCh_regs _ _)

theorem State.arrivalSent_arrived (d : Nat) : (s.arrivalSent n).ch.arrived d = if d = s.selfId then n else s.ch.arrived d := by
  refine Chorus.arrived_put ?_ d
  rw [State.arrivalSent, State.flood_ch, State.modCh_ch]

/-- Every other member has arrived, so barrier `n` is met. -/
theorem State.arrivalSent_met (hs : s.selfId < 16) (self : (s.rf rCH_STATUS fCH_STATUS_MEMBERS).testBit s.selfId = true)
    (others : ∀ d ∈ membersOf (s.rf rCH_STATUS fCH_STATUS_MEMBERS), d ≠ s.selfId → n ≤ s.ch.arrived d) :
    (s.arrivalSent n).barrierMet = some n := by
  rw [State.barrierMet, State.rf_of_regs State.arrivalSent_regs, List.min?_eq_some_iff]
  constructor
  · exact List.mem_map.2 ⟨s.selfId, mem_membersOf.2 ⟨hs, self⟩, (State.arrivalSent_arrived _).trans (if_pos rfl)⟩
  · intro b hb
    obtain ⟨d, member, rfl⟩ := List.mem_map.1 hb
    rw [State.arrivalSent_arrived]
    split
    · exact Nat.le_refl n
    · next other => exact others d member other

theorem barrierArrival_new {a : Nat} (hs : s.selfId < 16) (place : a = s.rf rCH_ARRIVE_ADDR fCH_ARRIVE_ADDR_ADDR * 8)
    (word : n = s.memNat a 8) (run : s.chState = csRUN) (en : s.flag rCH_ARRIVE_ADDR fCH_ARRIVE_ADDR_EN = true)
    (clean : s.mem.poisoned a 8 = false) (new : s.ch.arrived s.selfId < n) :
    Runs .barrierArrival s (fun t =>
      t.ch.arrived s.selfId = n ∧ t.sent.length = s.sent.length + ((List.range 4).filter s.linkUp).length
      ∧ ((s.rf rCH_STATUS fCH_STATUS_MEMBERS).testBit s.selfId = true →
          (∀ d ∈ membersOf (s.rf rCH_STATUS fCH_STATUS_MEMBERS), d ≠ s.selfId → n ≤ s.ch.arrived d) → s.barDone < n →
          n < 2 ^ fCH_BAR_STAT_COMPLETED.width →
          t.barDone = n ∧ (s.flag rCH_RELEASE_ADDR fCH_RELEASE_ADDR_EN = true →
            s.alive (s.rf rCH_RELEASE_ADDR fCH_RELEASE_ADDR_ADDR * 8) 8 →
            t.memNat (s.rf rCH_RELEASE_ADDR fCH_RELEASE_ADDR_ADDR * 8) 8 = n))) := by
  have rf := State.rf_of_regs (State.arrivalSent_regs (s := s) (n := n))
  refine ⟨(s.arrivalSent n).barrierEval, ?_, ?_, ?_, fun self others done fits => ?_⟩
  · rw [exec_barrierArrival, execBarrierArrival]
    dsimp only
    rw [← place, ← word, if_pos ⟨run, en, clean, new⟩]
  · rw [Chorus.arrived_congr (s.arrivalSent n).barrierEval_ch.1, State.arrivalSent_arrived, if_pos rfl]
  · rw [State.barrierEval_sent, State.flood_sent, State.linkUp_modCh, State.modCh_sent]
  · rw [State.barrierEval_met (State.arrivalSent_met hs self others) ((rf ..).trans run) (by rw [State.barDone, rf]; exact done)]
    constructor
    · rw [State.barDone, (State.barrierDone_regs _ n).rf chReg_barStat, State.rf_wf_same (by decide)]
      exact Nat.mod_eq_of_lt fits
    · intro enabled alive
      have released := State.barrierDone_release (s := s.arrivalSent n) (n := n) (by rw [word]; exact State.memNat_lt ..)
        ((State.flag_of_regs State.arrivalSent_regs _ _).trans enabled)
      rw [rf] at released
      exact released (fun l hl => (State.mcDead_congr (State.reg_congr State.arrivalSent_regs _)).trans (alive l hl))

/-! ## ARRIVE -/

theorem exec_arrive (k o q : Nat) (ok : Bool) (num : Nat) (s : State) :
    exec (.arrive k o q ok num) s = execArrive k o q ok num s := rfl

theorem arrive_new {k o q : Nat} (num : Nat) (up : s.linkUp k = true) (run : s.chState = csRUN) (member : s.listens o = true)
    (new : s.ch.seen.contains (o, q) = false) :
    Runs (.arrive k o q true num) s (fun t => t.ch.arrived o = max num (s.ch.arrived o)) := by
  rw [Runs, exec_arrive, execArrive, State.floodedIn_new up new (.inr ⟨run, member⟩)]
  generalize ({ origin := o, seq := q, body := .arrive num } : ChFrame) = f
  refine ⟨_, rfl, ?_⟩
  have noted := Chorus.arrived_put (c := s.ch) (o := o) (n := max num (s.ch.arrived o)) (e := ((s.forward k f).modCh (fun c =>
    { c with arrivals := mapPut c.arrivals o (max num (c.arrived o)) })).ch) (by rw [State.modCh_ch, State.forward_ch]; rfl) o
  rw [Chorus.arrived_congr (State.barrierEval_ch _).1, noted, if_pos rfl]

/-! ## BARRIER_LATE -/

theorem exec_barrierLate (num : Nat) (s : State) : exec (.barrierLate num) s = execBarrierLate num s := rfl

theorem barrierLate_counted {num : Nat} (counted : s.ch.late.contains num = true) : exec (.barrierLate num) s = .next s := by
  rw [exec_barrierLate, execBarrierLate]
  split
  · rfl
  · exact congrArg Host.Outcome.next (if_neg (fun h => by rw [h.2.2.2] at counted; cases counted))

section
variable {num a : Nat} (arrival : s.ch.arrivedAt num = some a)
include arrival

theorem barrierLate_early (early : s.dtime < a + s.rf rCH_BAR_CFG fCH_BAR_CFG_FRAME_BUDGET_US * 1000) :
    exec (.barrierLate num) s = .next s := by
  rw [exec_barrierLate, execBarrierLate, arrival]
  exact congrArg Host.Outcome.next (if_neg (fun h => absurd h.2.2.1 (Nat.not_le_of_lt early)))

theorem barrierLate_due (run : s.chState = csRUN) (waits : s.barDone < num) (first : s.ch.late.contains num = false)
    (due : a + s.rf rCH_BAR_CFG fCH_BAR_CFG_FRAME_BUDGET_US * 1000 ≤ s.dtime) :
    Runs (.barrierLate num) s (fun t =>
      Counted s t rCH_EVT_CNT fCH_EVT_CNT_BAR_LATE_CNT 1 ∧ t.ch.late = num :: s.ch.late
      ∧ t.flag rHUB_IRQ_STATUS ⟨irqCH, irqCH⟩ = true ∧ RegsBut s t [rCH_EVT_CNT, rHUB_IRQ_STATUS] ∧ t.mem = s.mem) := by
  refine ⟨((s.modCh (fun c => { c with late := num :: c.late })).bump rCH_EVT_CNT fCH_EVT_CNT_BAR_LATE_CNT 1).raiseIrq irqCH,
    ?_, ?_, ?_, ?_, ?_, ?_⟩
  · rw [exec_barrierLate, execBarrierLate, arrival]
    exact congrArg Host.Outcome.next (if_pos ⟨run, waits, due, first⟩)
  · rw [Counted, State.raiseIrq, State.rf_wf_other (by decide), State.rf_bump (by decide), State.rf_of_regs (State.modCh_regs _ _)]
  · rw [State.raiseIrq, State.wf, State.setReg_ch, State.bump, State.wf, State.setReg_ch, State.modCh_ch]
  · rw [State.flag, State.raiseIrq, State.rf_wf_same (by decide)]
    rfl
  · exact RegsBut.wf (RegsBut.bump (RegsBut.of_regs (.refl s _) (State.modCh_regs _ _)) (by simp)) (by simp)
  · rw [State.raiseIrq, State.wf, State.setReg_mem, State.bump, State.wf, State.setReg_mem, State.modCh_mem]

end

end

/-! ## The statement -/

/-- Settles O42, by what a commit, an exile and a return to OFF leave of the first registers of the CH_ window, by when an
agreement opens, waits and is committed, and by the barrier at which every member has arrived. -/
theorem membersDiscoverAgreeAndMeet : Obligations.MembersDiscoverAgreeAndMeet := by
  unfold Obligations.MembersDiscoverAgreeAndMeet
  intro s k _ self
  refine ⟨?port, helloSend_due, ?hello, ?twin, ?discovery, ?view, ?agreement, ?arrival, ?arrive, ?late, ?again⟩
  case port =>
    exact fun p ok => ⟨chEnable_off ok, chEnable_on ok, fun on => chDisable_on ok on self⟩
  case hello =>
    exact fun o q cfg adj up => ⟨hello_badCrc up o q cfg adj, fun st new => hello_new up st new cfg adj⟩
  case twin =>
    exact fun q cfg adj up st foreign => hello_twin up st foreign
  case discovery =>
    exact fun st closed due => ⟨discoveryEnd_fault st closed due, discoveryEnd_agreement st closed due self,
      discoveryEnd_alone st closed due self⟩
  case view =>
    exact fun o q num set up run member new => ⟨view_old up run member new set, view_exile up run member new self,
      fun a opened number same hset hnum inSet others =>
        view_commit up run member new opened number same hset hnum inSet others⟩
  case agreement =>
    exact fun a opened => ⟨viewReflood_due opened, agreementRestart_due opened, agreementRestart_early opened⟩
  case arrival =>
    exact fun n a place word run en clean new => barrierArrival_new self place word run en clean new
  case arrive =>
    exact fun o q num up run member new => arrive_new num up run member new
  case late =>
    exact fun num a arrival run waits first => ⟨barrierLate_due arrival run waits first, barrierLate_early arrival⟩
  case again =>
    exact fun num counted => barrierLate_counted counted

end Sys2Proof.Machine
end
